-- ==== Sys2Proof/Word.lean ====
section
/-! DEFINITION. The plain value types of the model: bytes, identifiers that the manual treats as numbers,
24-bit packet sequence numbers and 16-bit cell sequence numbers, and the values an object of the dictionary holds. -/

namespace Sys2Proof

/-- One byte (00 R13). -/
abbrev Byte := BitVec 8

/-- A 24-bit packet sequence number; arithmetic wraps modulo 2^24 (05 "PSNs and acknowledgement"). -/
abbrev Psn := BitVec 24

/-- A cell sequence number, modulo 65,536 (03 R84). -/
abbrev CellSeq := BitVec 16

/-- A twin-link record number, modulo 2^32 (14 R473). -/
abbrev RecSeq := BitVec 32

/-- A 128-bit address: IPv6, or IPv4 as an IPv4-mapped IPv6 address, byte 0 most significant (04 Table 5). -/
abbrev Ip := Nat

/-- A 48-bit MAC address, byte 0 most significant. -/
abbrev Mac := Nat

/-- The contents of a run of bytes as one number (little-endian): a block, a chunk range, a packet payload. -/
abbrev Content := Nat

/-- A sparse table by key: strictly rising keys once built by the operations of Machine/Tbl.lean. -/
abbrev Tbl (α : Type) := List (Nat × α)

/-- A value of the object dictionary (16 R554). An OCTET_STRING or DOMAIN is `oct len v` with byte 0 the most
significant byte of `v`; a REAL32 is held as the exact rational it rounds (log entry 6). -/
inductive Val where
  | nat (n : Nat)
  | int (i : Int)
  | real (q : Rat)
  | oct (len : Nat) (v : Nat)
  | str (s : String)
deriving DecidableEq, Repr, Inhabited

end Sys2Proof
end

