-- ==== Sys2Proof/Syntax.lean ====
section
/-! DEFINITION. The commands of the block: one constructor of `Instr` for each row of spec/opcode_table.json, in the
table's order, with the operand types they carry. The table gives its rows no operands; these are read from the
numbered rule of each row (log entry 3). Every command carries `t`, the instant in ns of module time at which it
happens (log entry 1). Verdicts of cryptographic checks, measurements and what outside parties answer are operands. -/

namespace Sys2Proof

/-! ### Fabric -/

/-- A flow: source and destination attachment, sub-port and class (03, "Planes and spraying"). -/
structure Flow where
  src : Nat
  dst : Nat
  sub : Nat
  cls : Nat
deriving DecidableEq, Repr, Inhabited

/-- Position of a cell in its frame or record (03 Table 1, bits 88:87). -/
inductive CellPos where
  | middle | first | last | only
deriving DecidableEq, Repr, Inhabited

/-- What a source puts into a cell beside its flow, epoch, sequence number and probe mark (03 Table 1): the rest of the header, the
valid payload bytes `len`, 1 to 128, and the payload `data`. `uses` names the input records, by their addresses at the source, that the
frame or record is built from (03 R96). -/
structure CellBody where
  pos : CellPos := .only
  stomp : Bool := false
  copy : Bool := false
  len : Nat := 128
  tenant : Nat := 0
  addr : Nat := 0
  data : Content := 0
  uses : List Nat := []
deriving DecidableEq, Repr, Inhabited

/-- A cell: what its header holds (03 Table 1) and its payload. `cellHeader` lays the header out. -/
structure Cell where
  flow : Flow
  epoch : Nat
  seq : CellSeq
  probe : Bool
  body : CellBody
deriving DecidableEq, Repr, Inhabited

/-- What the plane's internal check codes find in a payload (03 R76): nothing, an error they correct, or one they cannot. -/
inductive PayloadCheck where
  | good | corrected | failed
deriving DecidableEq, Repr, Inhabited

/-- Why a plane is declared faulty (03 R81). -/
inductive PlaneCause where
  | stall | correctionFailures
deriving DecidableEq, Repr, Inhabited

/-! ### Ethernet -/

/-- A VLAN tag of a received frame. -/
structure VlanTag where
  tpid : Nat
  pcp : Nat
  vid : Nat
deriving DecidableEq, Repr, Inhabited

/-- What the frame carries above the MAC header, as far as 04 R123 to R125 and 03 R106 look at it. -/
inductive L3 where
  | none
  | arp (target : Ip)
  | ip (v6 : Bool) (src dst : Ip) (fragment options extension : Bool) (proto dport : Nat) (icmpType : Nat)
  | ptp
  | lldp
  | macControl
  | peerDelay
deriving DecidableEq, Repr, Inhabited

/-- A received or transmitted frame as the port sees it. `length` counts destination MAC address through FCS, and `content` holds
those bytes; `fecCorrected` counts the codewords corrected while it came in, `lost` tells that the link was lost before its end. -/
structure Frame where
  dmac : Mac := 0
  smac : Mac := 0
  tags : List VlanTag := []
  etherType : Nat := 0
  length : Nat := 64
  fcsOk : Bool := true
  fecOk : Bool := true
  fecCorrected : Nat := 0
  lost : Bool := false
  l3 : L3 := .none
  destQp : Option Nat := Option.none
  content : Content := 0
deriving DecidableEq, Repr, Inhabited

/-- Why a logical port declares link down (04 R121). -/
inductive LinkDownCause where
  | alignmentOrSignal | administrative | plugRemoved
deriving DecidableEq, Repr, Inhabited

/-- A plug as read over the two-wire bus (04 R118). -/
inductive Plug where
  | unreadable
  | copper
  | active (milliwatts : Nat)
deriving DecidableEq, Repr, Inhabited

/-- An Announce message (04 R140): grandmaster identity, its comparison vector (priority 1, clock class, accuracy, variance,
priority 2) as one number, the lower the better, the UTC offset in s, the announce interval in ns, the domain, the sending port's
identity and the steps removed. -/
structure Announce where
  grandmaster : Nat
  vector : Nat
  utcOffset : Int
  intervalNs : Nat
  domain : Nat := 0
  sender : Nat := 0
  steps : Nat := 0
deriving DecidableEq, Repr, Inhabited

/-! ### RDMA -/

/-- RoCEv2 operations as 05 Tables 1 and 5 tell them apart. -/
inductive RoceOp where
  | sendFirst | sendMiddle | sendLast | sendOnly
  | sendInvalidate | immediate | writeFirst | writeMiddle | writeLast | writeOnly | rdmaReadRequest | atomic
  | readRespFirst | readRespMiddle | readRespLast | readRespOnly
  | acknowledge | cnp | other
deriving DecidableEq, Repr, Inhabited

/-- One keyed SGL data block (06 R218). -/
structure KeyedSgl where
  addr : Nat
  len : Nat
  key : Nat
  invalidate : Bool := false
deriving DecidableEq, Repr, Inhabited

/-- The data pointer of a capsule (06 R218; near-port commands use `prp` and `sglList`, 12 R417). -/
inductive DataPtr where
  | none
  | offsetBlock (offset len : Nat)
  | keyed (d : KeyedSgl)
  | lastSegment (offset len : Nat) (ds : List KeyedSgl)
  | prp (addr : Nat) (offsetOk : Bool)
  | sglList (addr len : Nat)
  | other
deriving DecidableEq, Repr, Inhabited

/-- A command capsule or submission entry: the fields that any command of 06 Table 4 or 12 R415 uses. -/
structure Capsule where
  opcode : Nat := 0
  fctype : Nat := 0
  cid : Nat := 0
  fuse : Nat := 0
  psdt : Nat := 1
  nsid : Nat := 0
  length : Nat := 64
  reservedOk : Bool := true
  dptr : DataPtr := .none
  inLen : Nat := 0
  inData : Content := 0
  slba : Nat := 0
  nlb : Nat := 1
  fua : Bool := false
  deac : Bool := false
  ad : Bool := false
  ranges : List (Nat × Nat) := []
  dataLen : Nat := 0
  recfmt : Nat := 0
  qid : Nat := 0
  sqsize : Nat := 0
  kato : Nat := 0
  cntlid : Nat := 0xFFFF
  hostid : Nat := 0
  subnqn : String := ""
  hostnqn : String := ""
  propOffset : Nat := 0
  value : Nat := 0
  cns : Nat := 0
  lid : Nat := 0
  fid : Nat := 0
  sqid : Nat := 0
  acid : Nat := 0
  ses : Nat := 0
  lbaf : Nat := 0
  rtype : Nat := 0
  raction : Nat := 0
  crkey : Nat := 0
  prkey : Nat := 0
  ptpl : Nat := 0
  iekey : Bool := false
  qsize : Nat := 0
  cqid : Nat := 0
  vector : Nat := 0
  pc : Bool := true
  save : Bool := false
  sel : Nat := 0
  mptr : Nat := 0
deriving DecidableEq, Repr, Inhabited

/-- A received RoCEv2 packet. `port` and `ifRow` are the logical port and the row of 3040h where it arrived. -/
structure RocePkt where
  stomped : Bool := false
  icrcOk : Bool := true
  tver : Nat := 0
  op : RoceOp := .sendOnly
  destQp : Nat := 0
  port : Nat := 0
  ifRow : Nat := 0
  srcIp : Ip := 0
  pkey : Nat := 0xFFFF
  psn : Psn := 0
  ackReq : Bool := false
  payload : Nat := 0
  pad : Nat := 0
  ce : Bool := false
  madOk : Bool := true
  syndrome : Nat := 0
  msn : Nat := 0
  capsule : Option Capsule := none
  data : Content := 0
  frameLen : Nat := 64
deriving DecidableEq, Repr, Inhabited

/-- A CM REQ (05 R156 to R159, 06 R199). `privLen` is the length of the private data. -/
structure CmReq where
  destIp : Ip := 0
  srcIp : Ip := 0
  vid : Nat := 0
  serviceId : Nat := 0
  localCommId : Nat := 0
  remoteQpn : Nat := 0
  psn : Psn := 0
  mtu : Nat := 4096
  pkey : Nat := 0xFFFF
  respRes : Nat := 16
  rnrRetry : Nat := 7
  privLen : Nat := 32
  recfmt : Nat := 0
  qid : Nat := 0
  hrqsize : Nat := 32
  hsqsize : Nat := 31
deriving DecidableEq, Repr, Inhabited

/-! ### Scheduling -/

/-- A scheduled queue: an egress queue of a logical port or a member queue of a slot (07 R262). -/
inductive QueueRef where
  | egress (port cls tenant : Nat)
  | member (slot cls tenant : Nat)
deriving DecidableEq, Repr, Inhabited

/-! ### Arrays and members -/

/-- One 4 KiB column of a stripe as read: the D data chunks' contents in position order, then P and Q (09 R329); `bad`
lists the positions whose reads failed with a media error (09 R331). -/
structure StripeColumn where
  data : List Content
  p : Content
  q : Content
  bad : List Nat := []
deriving DecidableEq, Repr, Inhabited

/-- What recovery finds outside the module (10 R366 to R368). `openRows` lists the rows whose open record has no
closing record in the authoritative copy, each with its flush sequence. -/
structure RecoveryEnv where
  occasion : Nat := 1
  hbmOk : Bool := false
  vaultOk : Bool := false
  mirrorOk : Bool := false
  dirtyExpected : Bool := false
  superblockGen : Nat := 0
  openRows : List (Nat × Nat) := []
  tornColumns : List (Nat × Nat × Nat) := []
deriving DecidableEq, Repr, Inhabited

/-! ### Slots -/

/-- What the module reads from a drive while it configures it (11 R372, R377 to R386, 15 R525): sizes of its memory BARs, BAR0/1
first, and other sizes in bytes, whether it supports FLIT mode, `vwc` as 5200h:10 (0 no volatile cache, 1 one that may be disabled, 2 one that may not), each power state's largest
power in mW and whether it is operational, and the state it is in. -/
structure DriveInfo where
  bars : List Nat := []
  classCode : Nat := 0x010802
  ns1Ok : Bool := true
  lbaSize : Nat := 4096
  capacity : Nat := 0
  mdts : Nat := 0
  sqGranted : Nat := 32
  cqGranted : Nat := 32
  mqes : Nat := 1023
  capTo : Nat := 0
  cfs : Bool := false
  nmic : Bool := false
  vwc : Nat := 0
  writeZeroes : Bool := true
  maxPayload : Nat := 512
  flit : Bool := true
  powerStates : List (Nat × Bool) := [(25000, true)]
  powerState : Nat := 0
  serial : String := ""
  model : String := ""
  firmware : String := ""
deriving DecidableEq, Repr, Inhabited

/-- AER messages of 11 Table 1. -/
inductive AerKind where
  | correctable | nonFatal | fatal
deriving DecidableEq, Repr, Inhabited

/-- How a drive ends a command (10 Table 2, 11 R399). -/
inductive DriveStatus where
  | success | mediaError | otherError | aborted
deriving DecidableEq, Repr, Inhabited

/-- A completion entry written by a drive (11 R379, R399). Queue 0 is the admin queue, where an entry ends the Abort of
command `cid`; queue q + 1 is I/O queue q of R384. -/
structure DriveEntry where
  queue : Nat := 1
  cid : Nat := 0
  status : DriveStatus := .success
  phaseOk : Bool := true
  headOk : Bool := true
  poisoned : Bool := false
deriving DecidableEq, Repr, Inhabited

/-- Status of a PCIe completion (11 R393, 12 R430). -/
inductive CplStatus where
  | successful | unsupportedRequest | completerAbort | configRetry
deriving DecidableEq, Repr, Inhabited

/-- Drive asynchronous event types (11 R399 Table 8, R386). -/
inductive AsyncKind where
  | smart | notice | reserved
deriving DecidableEq, Repr, Inhabited

/-! ### Management -/

/-- One item of a read message (16 R571). -/
structure ReadItem where
  idx : Nat
  sub : Nat
  offset : Nat := 0
  maxLen : Nat := 0xFFFF
deriving DecidableEq, Repr, Inhabited

/-- One item of a write message (16 R571). -/
structure WriteItem where
  idx : Nat
  sub : Nat
  value : Val
deriving DecidableEq, Repr, Inhabited

/-- The protection of an Alonard message as the module checks it (16 R569): its counter and whether its tag holds. -/
structure Guard where
  counter : Nat
  tagOk : Bool := true
deriving DecidableEq, Repr, Inhabited

/-- A service authorisation (16 R579, 17 R612). -/
structure ServiceAuth where
  signaturesOk : Bool
  keySet : Nat
  account : Nat
  serial : String
  expiry : Nat
deriving DecidableEq, Repr, Inhabited

/-- An Alonard message in the PF0 mailbox (12 R425). -/
inductive AlonMsg where
  | openRequest (nonce : Nat)
  | authenticate (g : Guard) (account : Nat) (signatureOk : Bool) (auth : Option ServiceAuth)
  | read (g : Guard) (request : Nat) (items : List ReadItem)
  | write (g : Guard) (request : Nat) (items : List WriteItem)
  | subscribe (g : Guard) (minSeverity areaMask : Nat)
  | keepalive (g : Guard)
  | close (g : Guard)
  | malformed
deriving DecidableEq, Repr, Inhabited

/-- A CAN dictionary request (16 R573). -/
inductive CanReq where
  | read (idx sub : Nat)
  | write (idx sub : Nat) (v : Val)
  | segment (toggleOk : Bool) (last : Bool) (idx sub : Nat) (v : Val)
  | invalid
deriving DecidableEq, Repr, Inhabited

/-- A frame on M0 or M1 (16 R565): its redundancy trailer's sequence number when it carries one, and whether its FCS
and addressing make it one of the node's own. -/
structure MgmtFrame where
  src : Mac
  trailer : Option Nat := none
  isUdpAlonard : Bool := false
  isReachability : Bool := false
deriving DecidableEq, Repr, Inhabited

/-! ### Packets the module builds -/

/-- A completion as a response capsule or completion entry carries it (06 R217): status code type and code, Dword 0 or
the property value, head of the submission queue. -/
structure Cqe where
  cid : Nat := 0
  sct : Nat := 0
  sc : Nat := 0
  dw0 : Nat := 0
  sqhd : Nat := 0
  sqid : Nat := 0
deriving DecidableEq, Repr, Inhabited

/-- A field of a structure that a command returns to its host (06 Tables 3 and 5, R214 to R217). -/
inductive HostField where
  | n (v : Nat)
  | s (v : String)
  | l (v : List Nat)
deriving DecidableEq, Repr, Inhabited

/-- Data that an admin command or a reservation report returns: what it is, its fields by name, its entries. -/
structure HostData where
  kind : String
  fields : List (String × HostField) := []
  rows : List (List (String × HostField)) := []
deriving DecidableEq, Repr, Inhabited

/-- Whole blocks of a namespace in which bytes that the module has sent lie, at an address of their array; the bytes start `skip` bytes
into them (05 R173). -/
structure BlockSrc where
  array : Nat
  addr : Nat
  nsRow : Nat
  lba : Nat
  blocks : Nat
  skip : Nat
deriving DecidableEq, Repr, Inhabited

/-- A packet the module builds (05 Table 1). `src` names the blocks that it is read from again for a retransmission, where the module
keeps no copy of its data (05 R173). UDP port and checksum are those of 05 R151. -/
structure TxPkt where
  op : RoceOp := .sendOnly
  psn : Psn := 0
  bytes : Nat := 0
  cmd : Option Nat := none
  va : Nat := 0
  rkey : Nat := 0
  len : Nat := 0
  data : Content := 0
  info : Option HostData := none
  invalidate : Option Nat := none
  cqe : Option Cqe := none
  syndrome : Nat := 0
  msn : Nat := 0
  destQp : Nat := 0
  hasReth : Bool := false
  src : Option BlockSrc := none
  ackReq : Bool := false
  pkey : Nat := 0
  udpDest : Nat := 4791
  udpSum : Nat := 0
deriving DecidableEq, Repr, Inhabited

/-! ### Twin link -/

/-- One intent-ring entry (09 Table 5), less its check field. -/
structure IntentEntry where
  seq : Nat
  nsRow : Nat
  array : Nat
  fua : Bool := false
  zeroes : Bool := false
  keyGen : Nat := 0
  slba : Nat := 0
  count : Nat := 1
  addr : Nat := 0
  row : Nat := 0
  time : Nat := 0
deriving DecidableEq, Repr, Inhabited

/-- A ciphertext page in a mirror data record: the array byte address of what it holds, the bytes of it that are dirty (at most
4 KiB, whole sectors within one page) and their content. -/
structure MirrorPage where
  array : Nat
  addr : Nat
  len : Nat := 4096
  data : Content
deriving DecidableEq, Repr, Inhabited

/-- The fields of a health report, 02h to 10h of a 2440h row (14 Table 9). -/
structure Health where
  time : Nat := 0
  verdict : Nat := 0
  items : Nat := 0
  fit : Bool := false
  reachable : Nat := 0
  shadowReads : Nat := 0
  shadowFailures : Nat := 0
  rowsVerified : Nat := 0
  mismatches : Nat := 0
  codewords : Nat := 0
  voltage : Nat := 0
  days : Nat := 0
  forecast : Rat := 0
  ceiling : Nat := 0
  firmware : Nat := 0
deriving DecidableEq, Repr, Inhabited

/-- A hello's payload (14 Table 3). -/
structure Hello where
  serial : String := ""
  firmware : Nat := 0
  configGen : Nat := 0
  serving : Bool := false
  role : Nat := 0
  ceiling : Nat := 0
deriving DecidableEq, Repr, Inhabited

/-- The full state of a twin queue pair (14 Table 3, type 0Bh; log entry 70): its partner, its controller, its PSNs, the packets
sent and not yet acknowledged with the data they carried, the outstanding READ requests (PSN, length, address, key), and
whether the queue pair passes to the receiver. -/
structure QpStateRec where
  tenant : Nat := 0
  cls : Nat := 0
  ifRow : Nat := 0
  port : Nat := 0
  cluster : Nat := 0
  remoteIp : Ip := 0
  remoteQpn : Nat := 0
  srcPort : Nat := 0
  mtu : Nat := 1024
  pkey : Nat := 0
  depth : Nat := 0
  commId : Nat := 0
  qid : Nat := 0
  hsqsize : Nat := 0
  sqhd : Nat := 0
  cntlid : Option Nat := none
  hostRow : Nat := 0
  subsys : Nat := 0
  discovery : Bool := false
  hostid : Nat := 0
  kato : Nat := 0
  cc : Nat := 0
  expected : Psn := 0
  next : Psn := 0
  oldest : Psn := 0
  msn : Nat := 0
  bufs : Nat := 0
  sent : List TxPkt := []
  reads : List (Psn × Nat × Nat × Nat) := []
  final : Bool := false
deriving DecidableEq, Repr, Inhabited

/-- Record types of 14 Table 3. -/
inductive RecType where
  | hello | heartbeat | acknowledge | mirrorData | mirrorConfirm | mirrorRelease | reject | settings | settingsResult
  | capsule | qpState | twinPacket | yield | takeoverComplete | ownershipTransfer | healthReport | driveRequest
  | driveReply | key | keyReply
deriving DecidableEq, Repr, Inhabited

/-- Payloads of 14 Table 3. -/
inductive RecPayload where
  | none
  | hello (h : Hello)
  | mirror (es : List IntentEntry) (pages : List MirrorPage)
  | ranges (rs : List (Nat × Nat))
  | settings (idx row : Nat) (fields : List (Nat × Val))
  | code (n : Nat)
  | packet (p : RocePkt)
  | qpState (q : QpStateRec)
  | twinPacket (p : TxPkt)
  | health (h : Health)
  | key (wrapped : Option Content)
  | reservation (regs : Tbl Nat) (holder : Option Nat) (rtype gen : Nat) (ptpl : Bool)
deriving DecidableEq, Repr, Inhabited

/-- A twin-link record (14 Table 2). The header and payload checks are verdicts of the arriving copy. -/
structure TwinRec where
  typ : RecType := .heartbeat
  retransmission : Bool := false
  epoch : Nat := 0
  seq : RecSeq := 0
  ack : RecSeq := 0
  ctx : Nat := 0
  ref : RecSeq := 0
  bytes : Nat := 0
  payload : RecPayload := .none
deriving DecidableEq, Repr, Inhabited

/-- Kinds of module reset (14 R494, 08 Table 2). -/
inductive ResetKind where
  | planned | unplanned
deriving DecidableEq, Repr, Inhabited

/-! ### Power, firmware, lands -/

/-- Why a storm warning is declared (15 R537). -/
inductive StormCause where
  | vinLow | overvoltage | squallTrip | faultTimer
deriving DecidableEq, Repr, Inhabited

/-- What starts Thaw (15 R548). -/
inductive ThawTrigger where
  | command | commandRate | class0 | mirrorData | rung | copyJob | operator
deriving DecidableEq, Repr, Inhabited

/-- The boot ROM's findings about one image (17 Table 4): presence, R591 signatures, digest and GCM tags. -/
structure ImageCheck where
  signaturesOk : Bool := true
  digestOk : Bool := true
  tagsOk : Bool := true
deriving DecidableEq, Repr, Inhabited

/-- What boot finds: the loader's signatures, the two images' checks, and whether the settings store is readable. -/
structure BootEnv where
  loaderOk : Bool := true
  slot : ImageCheck := {}
  fallback : ImageCheck := {}
  settingsReadable : Bool := true
deriving DecidableEq, Repr, Inhabited

/-- Reset kinds of a near port (12 R432). -/
inductive NpResetKind where
  | hotReset | perstAssert | linkDown
deriving DecidableEq, Repr, Inhabited

/-- The two management sideband inputs of a port (18 R623). -/
inductive MgmtSideband where
  | prs | los
deriving DecidableEq, Repr, Inhabited

/-- Register values that firmware holds in a channel's registers when it writes Start (13 Table 1). -/
structure DmaSetup where
  head : Nat
  gen : Bool
  hopLimit : Nat := 65536
  fetchTimeout : Nat := 2000
  cls : Nat := 7
deriving DecidableEq, Repr, Inhabited

/-- One piece of data that a drive writes into a stream window, as its target sees it: the stream context, the block
of the read it belongs to, and whether this completes the block. -/
structure StreamWrite where
  ctx : Nat
  offset : Nat
  len : Nat
  data : Content
deriving DecidableEq, Repr, Inhabited

/-! ### The commands -/

/-- What the line did to a cell and what its checks found (03 R76): the bits of the header that flipped, and the payload check. -/
structure CellChecks where
  flips : Nat := 0
  payload : PayloadCheck := .good
deriving DecidableEq, Repr, Inhabited

/-- A PTP event or general message as the active port takes it (04 R140, R141): domain, sender, and the offset or the delay in ns that
its time stamps give. -/
structure PtpMsg where
  domain : Nat := 0
  sender : Nat := 0
  value : Int := 0
deriving DecidableEq, Repr, Inhabited

/-- The slot whose drive did not become ready, and the CAP.TO the module read from it (11 R383). -/
structure ReadyWait where
  slot : Nat
  capTo : Nat
deriving DecidableEq, Repr, Inhabited

/-- A command of the module at a drive (11 R395): its identifier, in the admin queue or in the I/O queue. -/
structure DriveCmdId where
  cid : Nat
  admin : Bool := false
deriving DecidableEq, Repr, Inhabited

/-- What is wrong with a TLP (11 Table 8, 12 Table 10): poisoned, or malformed. -/
structure TlpFlaws where
  poisoned : Bool := false
  malformed : Bool := false
deriving DecidableEq, Repr, Inhabited

/-- The checks of an arriving copy of a twin record (14 R476): header CRC and payload CRC. -/
structure RecordChecks where
  headerOk : Bool := true
  payloadOk : Bool := true
deriving DecidableEq, Repr, Inhabited

/-- FEC codewords that carried a copy of a record (14 Table 9): corrected and uncorrectable. -/
structure FecCounts where
  corrected : Nat := 0
  uncorrectable : Nat := 0
deriving DecidableEq, Repr, Inhabited

/-- What a negotiation found at the link partner (04 R119, R146): a common ability, and low-power idle. -/
structure Negotiated where
  common : Bool
  lpi : Bool := false
deriving DecidableEq, Repr, Inhabited

/-- The commands of the block, in the order of spec/opcode_table.json. The first operand of each, `t`, is its instant
in ns of module time; `sess` names the session that writes an object (0: the module's own firmware). -/
inductive Instr where
  -- 02 Self-timed core
  | barometerSample (t : Nat) (samples : List Nat)
  | barometerStatusWrite (t sess n v : Nat)
  | trimLoopPeriod (t powerMw : Nat) (tj : Int)
  | emergencyHoldExpiry (t : Nat)
  | operatingPointWrite (t sess v : Nat)
  | coreVoltagePinWrite (t sess v : Nat)
  | energyWindowEnd (t chargeFj leakageFj controlFj : Nat)
  | clearTransitStatistics (t sess v : Nat)
  | clearEnergyStatistics (t sess v : Nat)
  -- 03 Cell fabric
  | cellSend (t : Nat) (flow : Flow) (body : CellBody)
  | cellArrival (t plane dst : Nat) (line : CellChecks) (transitPs : Nat)
  | resequencerTimeout (t : Nat) (flow : Flow)
  | planeFault (t plane : Nat) (cause : PlaneCause)
  | planeStatusWrite (t sess plane v : Nat)
  | epochAdvance (t : Nat) (flow : Flow)
  | portFlushComplete (t port : Nat)
  | analysisPortWrite (t sess v : Nat)
  | flowMirrorRuleCommit (t sess : Nat)
  | samplerRingRead (t sess max : Nat)
  -- 04 Ethernet ports
  | portModeWrite (t sess port v : Nat)
  | cagePresenceChange (t cage : Nat) (present : Bool) (plug : Plug)
  | cageReadRetry (t cage : Nat) (plug : Plug)
  | linkUp (t port : Nat)
  | linkDown (t port : Nat) (cause : LinkDownCause)
  | flapHoldExpiry (t port : Nat)
  | frameReceived (t port : Nat) (frame : Frame)
  | pfcFrameReceived (t port : Nat) (smac : Mac) (enable : Nat) (quanta : List Nat)
  | pauseFrameReceived (t port : Nat)
  | pfcPauseExpiry (t port prio : Nat)
  | pfcRefresh (t port prio : Nat)
  | pdelayReqInterval (t port : Nat)
  | pdelayReqReceived (t port : Nat)
  | pdelayRespReceived (t port : Nat) (delayPs : Int)
  | headroomDecrease (t port prio : Nat)
  | pauseStorm (t port prio : Nat)
  | pauseRecoveryEnd (t port prio : Nat)
  | portSettingsCommit (t sess : Nat)
  | interfaceCommit (t sess : Nat)
  | arpRequestReceived (t port : Nat) (ip : Ip)
  | neighbourSolicitationReceived (t port : Nat) (ip : Ip)
  | echoRequestReceived (t port : Nat) (ip : Ip) (len : Nat)
  | ptpAnnounceReceived (t port : Nat) (a : Announce)
  | ptpSyncReceived (t port : Nat) (m : PtpMsg) (twoStep : Bool)
  | ptpDelayRespReceived (t port : Nat) (m : PtpMsg)
  | ptpAnnounceTimeout (t : Nat)
  | ptpPortReturn (t : Nat)
  | holdoverLimitExpiry (t : Nat)
  | lldpTransmit (t port : Nat)
  | lldpduReceived (t port : Nat) (pfc : Option Nat) (chassis : Nat) (smac : Mac)
  | egressFrameEnd (t port : Nat)
  -- 05 RDMA queue pairs
  | cmReq (t port : Nat) (req : CmReq)
  | cmRtu (t qpn : Nat)
  | cmRej (t qpn : Nat)
  | cmDreq (t qpn : Nat)
  | cmDrep (t qpn : Nat)
  | cmResponseTimeout (t idx : Nat)
  | qpIndexFree (t idx : Nat)
  | roceRequestPacket (t : Nat) (pkt : RocePkt)
  | roceAck (t : Nat) (pkt : RocePkt)
  | roceNak (t : Nat) (pkt : RocePkt)
  | rdmaReadResponse (t : Nat) (pkt : RocePkt)
  | cnpReceived (t : Nat) (pkt : RocePkt)
  | localAckTimeout (t idx : Nat)
  | rnrTimerExpiry (t idx : Nat)
  | rnrWallTimeExpiry (t idx : Nat)
  | ackCoalescingTimeout (t idx : Nat)
  | sendGatePass (t idx : Nat)
  | parkingStart (t slice : Nat)
  | parkingCommit (t idx : Nat)
  | contextRefetchComplete (t idx : Nat)
  | alphaTimerExpiry (t idx : Nat)
  | windowAtFloor (t idx : Nat)
  | qpPinCommit (t sess : Nat)
  | qpWindowPinCommit (t sess : Nat)
  | qpForceError (t sess : Nat)
  | offenderLimitExpiry (t : Nat) (ip : Ip)
  -- 06 NVMe target
  | connect (t c : Nat)
  | propertyGet (t c : Nat)
  | propertySet (t c : Nat)
  | keepAlive (t c : Nat)
  | keepAliveExpiry (t cntlid : Nat)
  | getLogPage (t c : Nat)
  | identify (t c : Nat)
  | abort (t c : Nat)
  | setFeatures (t c : Nat)
  | getFeatures (t c : Nat)
  | asynchronousEventRequest (t c : Nat)
  | formatNvm (t c : Nat)
  | disconnect (t c : Nat)
  | flush (t c : Nat)
  | flushComplete (t c : Nat)
  | write (t c : Nat)
  | read (t c : Nat)
  | compare (t c : Nat)
  | compareAndWrite (t c : Nat)
  | writeZeroes (t c : Nat)
  | datasetManagement (t c : Nat)
  | verify (t c : Nat)
  | reservationRegister (t c : Nat)
  | reservationReport (t c : Nat)
  | reservationAcquire (t c : Nat)
  | reservationRelease (t c : Nat)
  | reservationBarrierComplete (t nsRow : Nat)
  | cryptoEraseComplete (t nsRow : Nat)
  | subsystemCommit (t sess : Nat)
  | hostNqnCommit (t sess : Nat)
  | grantCommit (t sess : Nat)
  | namespaceCommit (t sess : Nat)
  | namespaceCryptoErase (t sess : Nat)
  | listenerCommit (t sess : Nat)
  | tenantKeyImport (t sess v : Nat)
  | tenantKeyDestroy (t sess : Nat)
  | hostLimitExpiry (t hostRow : Nat)
  -- 07 Tenant scheduling
  | engineCapsuleTake (t engine : Nat)
  | commandAdmit (t tenant : Nat)
  | dirtyCeilingAdmit (t : Nat)
  | tenantSchedulingCommit (t sess : Nat)
  | classPriorityWrite (t sess cls v : Nat)
  | memberSubmit (t slot : Nat)
  | gateEntryEnd (t port : Nat)
  | gateSettingsCommit (t sess : Nat)
  | gateListEntryCommit (t sess : Nat)
  | gateListChange (t port : Nat)
  | queueStarved (t : Nat) (q : QueueRef)
  | backgroundShareUpdate (t : Nat)
  | backgroundTargetUpdate (t : Nat)
  -- 08 Metering
  | minuteClose (t : Nat)
  | pageSeal (t : Nat)
  | ledgerVaultWrite (t seq : Nat)
  | billingAcknowledge (t sess v : Nat)
  | counterLatchRead (t sess n : Nat)
  -- 09 Double-parity arrays
  | arrayCreate (t sess : Nat)
  | arrayDelete (t sess : Nat)
  | gatherTimeExpiry (t array row : Nat)
  | flushStart (t array row : Nat)
  | journalBlockWrite (t array : Nat)
  | journalBlockDurable (t array seq : Nat)
  | accumulationComplete (t ctx : Nat)
  | accumulationFailed (t ctx : Nat)
  | zeroingRowComplete (t array row : Nat)
  | zeroingWatermarkWrite (t array : Nat)
  | scrubRow (t array row : Nat) (columns : List StripeColumn)
  -- 10 Members
  | memberStatisticsUpdate (t : Nat)
  | readAround (t slot cid : Nat)
  | memberTimeout (t slot cid : Nat)
  | slownessEvaluation (t : Nat)
  | memberEject (t sess : Nat)
  | rebuildRow (t array row : Nat)
  | replacementAccept (t sess : Nat)
  | arrayRecovery (t array : Nat) (env : RecoveryEnv)
  | acknowledgeLoss (t sess : Nat)
  -- 11 Drive slots
  | driveInsertion (t slot : Nat)
  | driveRemoval (t slot : Nat)
  | clearPresenceFault (t sess : Nat)
  | ifdetSample (t slot : Nat) (nvme : Bool)
  | perstRelease (t slot : Nat)
  | slotLinkUp (t slot rate width : Nat)
  | linkTrainingTimeout (t slot : Nat)
  | driveReady (t slot : Nat) (info : DriveInfo)
  | readyTimeout (t : Nat) (d : ReadyWait)
  | slotLinkDown (t slot : Nat)
  | aerErrorMessage (t slot : Nat) (kind : AerKind)
  | dpcRelease (t slot : Nat)
  | slotCompletion (t slot tag : Nat) (status : CplStatus) (poisoned : Bool) (data : Content)
  | completionTimeout (t slot tag : Nat)
  | completionEntry (t slot : Nat) (e : DriveEntry)
  | nvmeCommandTimeout (t slot : Nat) (c : DriveCmdId)
  | abortTimeout (t slot cid : Nat)
  | resetLadderStep (t slot : Nat) (ok : Bool)
  | driveUpstreamWrite (t slot addr len : Nat) (flaws : TlpFlaws) (data : Content)
  | driveUpstreamRead (t slot addr len : Nat)
  | smbusHealthPoll (t slot : Nat) (temp warn : Int)
  | smbusStuckRecovery (t slot : Nat)
  | smartPoll (t slot critical : Nat) (temp warn : Int) (powerState : Nat)
  | driveAsyncEvent (t slot : Nat) (kind : AsyncKind)
  | slotAdminStateWrite (t sess : Nat)
  -- 12 Near ports
  | npPerstDeassert (t port : Nat)
  | npReset (t port : Nat) (kind : NpResetKind)
  | npConfigRequest (t port func offset : Nat) (w : Option Nat)
  | vfDoorbell (t port vf offset value : Nat)
  | vfCcWrite (t port vf value : Nat)
  | createIoSubmissionQueue (t c : Nat)
  | createIoCompletionQueue (t c : Nat)
  | deleteIoSubmissionQueue (t c : Nat)
  | deleteIoCompletionQueue (t c : Nat)
  | npCompletion (t port tag : Nat) (status : CplStatus) (poisoned : Bool) (entry : Option Capsule) (data : Content)
  | npCompletionTimeout (t port tag : Nat)
  | npBar2Access (t port offset len : Nat) (w : Option Content) (flaws : TlpFlaws)
  | inboundEntryCommit (t sess : Nat)
  | mailboxDoorbell (t port len : Nat) (msg : AlonMsg)
  | mailboxAbort (t port : Nat)
  | vfBusMasterClear (t port vf : Nat)
  | vfFlr (t port vf : Nat)
  | pf0Flr (t port : Nat)
  | vfEnableClear (t port : Nat)
  | vfBindingCommit (t sess : Nat)
  | doeDiscovery (t port index : Nat)
  | getVersion (t port : Nat)
  | getCapabilities (t port : Nat)
  | negotiateAlgorithms (t port : Nat) (common : Bool)
  | getDigests (t port : Nat)
  | getCertificate (t port slot offset len : Nat)
  | challenge (t port slot nonce : Nat)
  | getMeasurements (t port block : Nat) (sign : Bool) (nonce : Nat)
  -- 13 DMA engine
  | dmaStart (t ch : Nat) (setup : Option DmaSetup)
  | dmaExtend (t ch : Nat)
  | dmaDisable (t ch : Nat)
  | dmaHaltClear (t ch : Nat)
  | dmaDescriptorFetched (t ch : Nat) (d : BitVec 256) (ok : Bool)
  | dmaDescriptorComplete (t ch : Nat)
  | dmaTransferError (t ch : Nat) (write : Bool) (addr : Nat)
  | dmaFetchTimeout (t ch : Nat)
  | copyJobStart (t sess : Nat)
  | copyJobExtend (t sess : Nat)
  | copyJobDisable (t sess : Nat)
  | copyJobClear (t sess : Nat)
  -- 14 Twin operation
  | helloSend (t : Nat)
  | twinRecordCopy (t group : Nat) (r : TwinRec) (crc : RecordChecks) (fec : FecCounts)
  | hello (t : Nat) (r : TwinRec)
  | heartbeat (t : Nat) (r : TwinRec)
  | acknowledge (t : Nat) (r : TwinRec)
  | mirrorData (t : Nat) (r : TwinRec)
  | mirrorConfirm (t : Nat) (r : TwinRec)
  | mirrorRelease (t : Nat) (r : TwinRec)
  | reject (t : Nat) (r : TwinRec)
  | settings (t : Nat) (r : TwinRec)
  | settingsResult (t : Nat) (r : TwinRec)
  | settingsResultTimeout (t : Nat)
  | capsule (t : Nat) (r : TwinRec)
  | qpState (t : Nat) (r : TwinRec)
  | twinPacket (t : Nat) (r : TwinRec)
  | yield (t : Nat) (r : TwinRec)
  | takeoverComplete (t : Nat) (r : TwinRec)
  | ownershipTransfer (t : Nat) (r : TwinRec)
  | healthReport (t : Nat) (r : TwinRec)
  | driveRequest (t : Nat) (r : TwinRec)
  | driveReply (t : Nat) (r : TwinRec)
  | key (t : Nat) (r : TwinRec)
  | keyReply (t : Nat) (r : TwinRec)
  | acknowledgeSendTimer (t : Nat)
  | heartbeatSendTimer (t : Nat)
  | twinRetransmit (t : Nat) (seq : RecSeq)
  | twinSettleExpiry (t otherDown : Nat)
  | laneGroupOutOfService (t group : Nat)
  | laneGroupRetrain (t group : Nat)
  | twinLinkLost (t : Nat)
  | arrayHomeCommit (t sess : Nat)
  | interfaceHomeCommit (t sess : Nat)
  | tenantTwinCommit (t sess : Nat)
  | selfVerdictEvaluation (t enginesOut hbmErrors : Nat)
  | yieldRecheck (t : Nat)
  | yieldInAssert (t : Nat)
  | takeoverAnnounce (t : Nat)
  | clearYieldLineFault (t sess v : Nat)
  | forceYield (t sess v : Nat)
  | forceTakeover (t sess v : Nat)
  | rejoinReset (t : Nat)
  | handBack (t : Nat)
  | standbyShadowRead (t slot : Nat) (ok : Bool)
  | standbyParityVerify (t array row : Nat) (columns : List StripeColumn)
  | healthReportSend (t : Nat)
  | voltageTrendDaily (t : Nat)
  | yieldWatchdogExpiry (t : Nat)
  | lockstepMismatch (t : Nat)
  | moduleReset (t : Nat) (kind : ResetKind)
  | boot (t : Nat) (env : BootEnv)
  -- 15 Power and energy
  | vinQualified (t vinMv : Nat)
  | inputPowerGood (t : Nat)
  | inrushFaultTimer (t : Nat)
  | earlyShort (t : Nat)
  | inputSquallTrip (t : Nat)
  | overvoltageLockout (t : Nat)
  | overvoltageRelease (t : Nat)
  | undervoltageLockout (t : Nat)
  | inputRetry (t : Nat)
  | stormWarning (t : Nat) (cause : StormCause)
  | vaultCopyComplete (t : Nat)
  | stormRestart (t : Nat)
  | stormThresholdWrite (t sess v : Nat)
  | pfwarnReadbackFault (t : Nat)
  | clearPfwarnFault (t sess v : Nat)
  | slotRampStart (t slot : Nat)
  | slotPowerGood (t slot : Nat)
  | slotRampTimeout (t slot : Nat)
  | slotEarlyShort (t slot : Nat)
  | slotSquallTrip (t slot : Nat)
  | slotOvercurrent (t slot : Nat)
  | auxiliaryOvercurrent (t slot : Nat)
  | slotRetry (t slot : Nat)
  | slotLatchClear (t sess : Nat)
  | slotPowerOff (t sess : Nat)
  | slotOverdrawCheck (t slot powerMw : Nat)
  | holdupForecast (t storeMv : Nat)
  | dirtyCeilingRise (t : Nat)
  | capacitanceMeasurement (t dropMv : Nat)
  | copyRegionErase (t region : Nat)
  | vaultTest (t rate : Nat) (readOk : Bool)
  | lullEntry (t : Nat)
  | thaw (t : Nat) (trigger : ThawTrigger)
  -- 16 Object dictionary
  | openRequest (t address transport : Nat)
  | authenticate (t sess : Nat) (g : Guard) (account : Nat) (signatureOk : Bool) (auth : Option ServiceAuth)
  | alonardRead (t sess : Nat) (g : Guard) (request : Nat) (items : List ReadItem)
  | alonardWrite (t sess : Nat) (g : Guard) (request : Nat) (items : List WriteItem)
  | subscribe (t sess : Nat) (g : Guard) (minSeverity areaMask : Nat)
  | keepalive (t sess : Nat) (g : Guard)
  | close (t sess : Nat) (g : Guard)
  | sessionIdleTimeout (t sess : Nat)
  | lockoutExpiry (t address : Nat)
  | rowSelect (t sess window row : Nat)
  | rowCommit (t sess window v : Nat)
  | objectWrite (t sess idx sub : Nat) (v : Val)
  | restoreDefaults (t sess v : Nat)
  | alonardEnableWrite (t sess v : Nat)
  | accountCommit (t sess : Nat)
  | acknowledgeErrors (t sess v : Nat)
  | managementFrameReceived (t port : Nat) (frame : MgmtFrame)
  | supervisionFrameSend (t : Nat)
  | managementLanLost (t port : Nat)
  | sdoRequest (t : Nat) (req : CanReq)
  | usdoRequest (t : Nat) (req : CanReq)
  | sdoTransferTimeout (t : Nat)
  | nmtStop (t : Nat)
  | nmtResetNode (t : Nat)
  | nmtResetCommunication (t : Nat)
  | canHeartbeatSend (t : Nat)
  | canNodeIdConflict (t : Nat)
  | canNodeIdWrite (t sess v : Nat)
  | canBusOff (t : Nat)
  -- 17 Firmware
  | imageBegin (t sess v : Nat)
  | imageData (t sess len : Nat) (content : Content) (check : ImageCheck)
  | imageAbort (t sess v : Nat)
  | imageTransferTimeout (t : Nat)
  | slotRewriteComplete (t : Nat)
  | activationSchedule (t sess due : Nat)
  | activationCancel (t sess v : Nat)
  | activationDue (t : Nat)
  | activationWaitTimeout (t : Nat)
  | activationFlushTimeout (t : Nat)
  | drainStart (t : Nat)
  | drainTimeout (t : Nat)
  | confirm (t sess v : Nat)
  | trialTimeExpiry (t : Nat)
  | revert (t sess v : Nat)
  | attestationNonceWrite (t sess nonce : Nat)
  | attestationReportRead (t sess : Nat)
  -- 18 Lands
  | thermalWarning (t : Nat) (tj : Int)
  | thermalShutdown (t : Nat) (tj : Int)
  | thermalRestart (t : Nat) (tj : Int)
  | indicatorFrame (t : Nat) (senseMv driveMv : List Nat)
  | lampTest (t sess v : Nat)
  | lampTestEnd (t : Nat)
  | clearFaultyInputs (t sess v : Nat)
  -- Rows the table lists after 18
  | barometerSlowestRead (t sess n : Nat)
  | autoNegotiationComplete (t port : Nat) (partner : Negotiated)
  | ptpFollowUpReceived (t port : Nat) (m : PtpMsg)
  | ptpDelayReqSend (t : Nat)
  | controllerFatalStatus (t slot : Nat)
  | activityPulse (t slot : Nat)
  | nearPortLinkUp (t port width rate : Nat)
  | laneGroupInService (t group : Nat)
  | runAloneWaitExpiry (t : Nat)
  | yieldInDeassert (t : Nat)
  | holdupPathTrip (t : Nat)
  | copyCutOff (t : Nat)
  | thermalWarningClear (t : Nat) (tj : Int)
  | managementLinkChange (t port state : Nat)
  | managementSidebandChange (t port : Nat) (which : MgmtSideband) (level : Bool)
deriving DecidableEq, Repr

end Sys2Proof
end

