-- ==== Sys2Proof/Config.lean ====
section
/-! DEFINITION. What the manual leaves to the implementation or leaves open: constants without a body, so that no proof
can lean on a value. Random choices and values the manual does not state are `free*`, applied to the counter
`State.free` or to the operands they depend on. -/

namespace Sys2Proof.Config

/-- A value the manual leaves open, the n-th one drawn (log entry 7). -/
opaque freeNat : Nat → Nat

/-- The step of a sampler generator, a 32-bit linear-feedback register, and where it starts: the manual gives neither (03 R107). -/
opaque lfsrStep : Nat → Nat
opaque lfsrSeed : Nat → Nat

/-- Wire capacitance in fF fused at test for a source and a destination attachment (02 R68). -/
opaque wirePair : Nat → Nat → Nat

/-- The rate correction in parts per billion that the PTP servo sets after a Sync, from the one in force and the offset it
found: the manual gives no servo (04 R143, R144). -/
opaque ptpRate : Int → Int → Int

/-- The port description of a logical port (04 R145). -/
opaque portDescription : Nat → String

/-- The number Haphor assigns to an event within its area (16 R580), by the event's name. -/
opaque eventNumber : String → Nat

/-- The severity Haphor assigns to an event (16 R580), by the event's name. -/
opaque eventSeverity : String → Nat

/-- The bit of a subscription's area mask that stands for an area (16 Table 5 gives the mask four bytes and no more). -/
opaque areaBit : Nat → Nat

/-- The AES-256 block cipher: for each key a permutation of the blocks, byte 0 the least significant (06 R222 to R226). -/
opaque aes256 : BitVec 256 → Equiv.Perm (BitVec 128)

/-- SHAKE256: the first bytes of its output over a number of input bytes (06 R222). -/
opaque shake256 : (len : Nat) → Content → (out : Nat) → Content

/-- The shared secret that the module's ML-KEM-768 key decapsulates from a ciphertext, if it does (06 R222). -/
opaque mlkemOpen : Content → Option Content

/-- The X25519 shared secret of the module's key with a public key (06 R222). -/
opaque x25519 : Content → Content

/-- Sealing under the module's device key (06 R225). -/
opaque sealKek : Equiv.Perm (BitVec 256)

/-- Address of the HBM buffers granted for a member command (11 R384, log entry 24). -/
opaque grantBase : Nat → Nat

/-- Address and length of the queues and PRP pages granted to a slot for the life of its controller (11 R384). -/
opaque queueGrant : Nat → Nat × Nat

/-- The base MAC address a module is made with (04 R127, 16 R565). -/
opaque baseMac : Nat

/-- High part of the NGUIDs the module assigns (06 R216). -/
opaque nguidBase : Nat

/-- The module is an SRZ-3224-96; otherwise an SRZ-3224-48 (01 R21). -/
opaque largeHbm : Bool

/-- Module address of the descriptor that the module builds for a copy job in mode 0 (13 R457). -/
opaque jobDescriptor : Nat → Nat

/-- Fields of a near port's configuration space that the manual leaves to PCIe Base 6.0 (12 R409, R410): function and dword
offset. -/
opaque pcieField : Nat → Nat → Nat

/-- SHA-384 of a string of bytes, first byte most significant (08 Table 3, 17 R594). -/
opaque sha384 : (len : Nat) → Nat → Nat

/-- The module's Ed25519 signature of a message (08 R288, 17 R607): length and bytes. -/
opaque ed25519 : (len : Nat) → Nat → Nat

/-- The module's ML-DSA-65 signature of a message with a context string (08 R288, 17 R607). -/
opaque mldsa65 : (context : String) → (len : Nat) → Nat → Nat

/-- Versions of the boot ROM and of the resident loader, and their digests (17 Tables 7 and 10). -/
opaque bootRomVersion : Nat
opaque loaderVersion : Nat
opaque bootRomDigest : Nat
opaque loaderDigest : Nat

/-- The certificate chains of 17 R608 in DER: 1 Ed25519, 2 ML-DSA-65. Length and bytes, first byte most significant. -/
opaque chain : Nat → Nat × Nat

/-- Public keys of the key-establishment pair and the issue time of their record (17 Table 6). -/
opaque mlkemKey : Nat
opaque x25519Key : Nat
opaque keyIssueTime : Nat

/-- SHA-384 of the persistent values in the settings store (17 Table 7). -/
opaque settingsDigest : List (Nat × Val) → Nat

/-- CAPABILITIES flags of the SPDM responder (12 R435), as DMTF DSP0274 encodes them. -/
opaque spdmFlags : Nat

/-- The text of a firmware version (16 Table 10, 100Ah:00): the manual gives no form. -/
opaque versionText : Nat → String

/-- The 40 data bytes of an event record (16 Table 6), first byte most significant, by the event's name and data: the
chapters name the data and give no layout. -/
opaque eventData : String → List Nat → Nat

end Sys2Proof.Config
end

