-- ==== Sys2Proof/Machine/State.lean ====
section
/-! DEFINITION. The state of the module: plain data, holding every register, object, queue, counter, log and timer the
spec gives it. Dictionary objects (settings, status values, counters) have their home in `DictState.cur`, under their
object numbers; everything else has a field of its own. `State.reset` stands at the end. -/

namespace Sys2Proof.Machine

/-- The block has no behaviour that stops it with a fault: every condition the manual names has an answer. -/
inductive Fault
deriving DecidableEq, Repr

/-- Why a command has no effect of its own. -/
inductive Refusal where
  /-- Raised by an arm of `exec` whose meaning is not written yet: by none. Safe: nothing is claimed of it. -/
  | notModelled (mnemonic : String)
deriving DecidableEq, Repr

/-! ### Object dictionary (16) -/

/-- Object types (16 R554); `str n` holds at most `n` characters. -/
inductive ValTy where
  | u (bits : Nat)
  | i32
  | real32
  | str (max : Nat)
  | oct (len : Nat)
  | domain
deriving DecidableEq, Repr

/-- Object access codes (00, "Objects and registers"). -/
inductive Acc where
  | ro | rw | wo | const
deriving DecidableEq, Repr

/-- One object or field of the dictionary. `rng` lists the accepted values of an UNSIGNED object as (lowest, highest,
step) with the empty list for "any"; `keep` marks a persistent object (16 R561). Levels: 0 Observer, 1 Operator,
2 Engineer, 3 Vendor (16 R555). -/
structure Desc where
  ty : ValTy
  acc : Acc
  level : Nat
  dflt : Val
  rng : List (Nat × Nat × Nat)
  keep : Bool
deriving DecidableEq, Repr

/-- A session's stage of one row window (16 R557). -/
structure Stage where
  row : Nat := 0
  gen : Nat := 0
  fields : Tbl Val := []
deriving DecidableEq, Repr

/-- Transports (16 R564). -/
inductive Transport where
  | udp
  | pf0 (port : Nat)
  | can
deriving DecidableEq, Repr

/-- A session (16 R555, R557, R566 to R569, R577). -/
structure Session where
  transport : Transport := .udp
  address : Nat := 0
  level : Nat := 0
  account : Option Nat := none
  factory : Bool := false
  authed : Bool := false
  lastAt : Nat := 0
  rx : Nat := 0
  tx : Nat := 0
  sub : Option (Nat × Nat) := none
  stages : Tbl Stage := []
  nonce : Nat := 0
  material : Nat := 0
deriving DecidableEq, Repr

/-- Object values, the settings store, row generations (16 R557, R561, R563). `store` also holds what the manual keeps in the
vault or in fuses; `changes` counts the changes of persistent objects since the last settings snapshot (17 R602). Keys: `objKey` of Machine/Ops.lean. -/
structure DictState where
  cur : Tbl Val := []
  store : Tbl Val := []
  gens : Tbl Nat := []
  storeOk : Bool := true
  restorePending : Bool := false
  changes : Nat := 0
deriving DecidableEq, Repr

/-- Lockout record of one management address (16 R584). -/
structure Lockout where
  failures : List Nat := []
  lockedUntil : Option Nat := none
deriving DecidableEq, Repr

/-- NMT state of the CAN node (16 R574). -/
inductive NmtState where
  | stopped | operational
deriving DecidableEq, Repr

/-- The CAN port (16 R573 to R575). `transfer` is a segmented transfer in progress: since, index, sub-index. -/
structure CanState where
  nmt : NmtState := .operational
  conflict : Bool := false
  transfer : Option (Nat × Nat × Nat) := none
  lastHeartbeat : Option Nat := none
deriving DecidableEq, Repr

/-- M0 and M1 (16 R565): last reception of each port, the duplicate window, and whether the LAN-lost event of a port
stands. -/
structure MgmtState where
  lastRx : Tbl Nat := []
  seen : List (Mac × Nat × Nat) := []
  lanLost : Tbl Bool := []
  txSeq : Nat := 0
  lastSupervision : Option Nat := none
deriving DecidableEq, Repr

/-- Sessions and their transports. -/
structure SessState where
  tbl : Tbl Session := []
  nextId : Nat := 16
  lockouts : Tbl Lockout := []
  can : CanState := {}
  mgmt : MgmtState := {}
deriving DecidableEq, Repr

/-- Events of the manual, by name. -/
inductive Ev where
  | barometerFaulty | coreUnverified | coreSlow | trimUnsteady | pinOverridden | limitFactorExceeded | exclusionRefused
  | planeFaulty | planeReturned | fabricFailed | resequencerLoss | portFlushed | planeStatusRefused
  | linkFlapping | pauseStorm | headroomShort | pfcMismatch | cagePower | cageUnreadable | analysisPortRemoved
  | timeStepped
  | offenderLimited | offenderDisconnected | qpError | cmTimeout | retryExhausted | remoteAccessNak | contextStoreFull
  | pinCapacity | windowAtFloor | holdStoreFull
  | hostOffenderLimited | hostOffenderDisconnected
  | starvation | gateListInvalid | class0Oversubscribed | class0BoundExceeded
  | lateUpdate | retentionWarning | pageOverwritten
  | accumulatorFaulty | accumulatorsFailed | scrubRepair | unlocatableMismatch
  | slowMember | memberAtRisk | memberLost | memberRestored | replacementRefused | blocksLost | lostListFull
  | acknowledgedDataLost
  | driveReady | driveGone | driveRefused | driveTemperature | presenceFaulty | completionTimeout | resetRefused
  | slotDegraded | slotOffender | slotAtRisk
  | nearPortDegraded | dmaHalted | copyJobDescriptor | copyJobComplete | copyJobsDisabled
  | twinGroup | twinUnpaired | settingsReplaced | yieldLineFaulty | verdictFailed | verdictPassed | standbyMismatch
  | barometerTrend | yielded | takeover
  | inputFault | stormThresholdHigh | stormWarning | pfwarnFaulty | holdupStoreFault | holdupAging | holdupInsufficient
  | ceilingLowered | slotPowerFault | slotFeedLost | slotOverdraw | slotBudget | vaultFailed
  | authFailed | addressLockedOut | canNodeIdConflict | canBusOff | settingsStoreFailed | managementLanLost
  | eventDropped
  | firmwareReceived | firmwareConfirmed | firmwareFallback | activationCancelled | settingsReverted
  | thermalWarning | thermalShutdown | button | lampOpen | inputFaulty
  | lockstepMismatch | watchdogExpiry | hbmUncorrectable
deriving DecidableEq, Repr

/-- An event record (16 R580), less its code, severity and emergency code, which follow from `ev`. -/
structure EventRec where
  seq : Nat
  time : Int
  ev : Ev
  traceable : Bool
  coalesced : Bool
  data : List Nat
deriving DecidableEq, Repr

/-- An entry of the violation log (16 R583, Table 11): time, partner kind and identity, condition, detail, count
folded in. `remote` is the remote IP address of a host NQN's queue pair (06 R229), which 6020h does not show. -/
structure Violation where
  time : Int
  kind : Nat
  partner : Nat
  condition : Nat
  detail : Nat
  coalesced : Nat
  remote : Ip := 0
deriving DecidableEq, Repr

/-- Logs (16 R581, R583). `vault` holds the 256 newest events as last written to the vault. `register` is 1001h,
`dropped` 6001h:02, `seq` 6001h:01. -/
structure EventState where
  seq : Nat := 0
  register : Nat := 0
  dropped : Nat := 0
  lastEmcy : Option Nat := none
  log : List EventRec := []
  vault : List EventRec := []
  violations : List Violation := []
deriving DecidableEq, Repr

/-! ### Control window of PF0 (12) -/

/-- MSI-X of a function (12 Table 2, R420, Table 7): enable and function mask of its capability, the dwords of its table by their
offset in it, and its pending bits. -/
structure Msix where
  on : Bool := false
  mask : Bool := false
  table : Tbl Nat := []
  pending : List Nat := []
deriving DecidableEq, Repr

/-- Event ring of one near port (12 Table 8, R426): `ring` holds the entries from head to tail, oldest first. `msix` is PF0's, whose
vectors the module raises with its events and answers. -/
structure EventRing where
  enable : Bool := false
  overflow : Bool := false
  head : Nat := 0
  ring : List EventRec := []
  msix : Msix := {}
deriving DecidableEq, Repr

/-! ### Self-timed core (02) -/

/-- Core timing state outside the dictionary. Samples newest first, at most 100 of each barometer (02 R52); voltages in
0.1 mV; times in ns. `voltArea` is the voltage times the time it stood since `windowFrom`, the start of the energy window, up to
`voltSince` (02 R68). -/
structure CoreState where
  samples : Tbl (List Nat) := []
  badRun : Tbl Nat := []
  lastEmergency : Option Nat := none
  emergencyTimes : List Nat := []
  lastUnsteady : Option Nat := none
  pinEventDone : Bool := false
  justExcluded : Bool := false
  tjMax : Int := 0
  probeCount : Tbl Nat := []
  transitMinute : Int := 0
  voltArea : Nat := 0
  voltSince : Nat := 0
  windowFrom : Nat := 0
deriving DecidableEq, Repr

/-! ### Cell fabric (03) -/

/-- Source side of a flow (03 R83 to R85): epoch, next number, when the epoch started, the planes it may use, the instant
from which a flush makes its next epoch due, and whether a plane return does. -/
structure SrcFlow where
  epoch : Nat := 0
  next : CellSeq := 0
  started : Nat := 0
  planes : Nat := 15
  flushDue : Option Nat := none
  planeDue : Bool := false
deriving DecidableEq, Repr

/-- Resequencer state of a flow (03 R86 to R94): held cells in ascending distance, the start of its timeout, whether
cells are discarded up to the next first or only cell, whether a frame's first cell has been delivered. Of the frame or record being
delivered: whether a cell carried the stomp bit, its bytes so far, the address of its first cell, its payload so far, its tenant and
whether it is a copy. -/
structure Reseq where
  epoch : Nat := 0
  next : CellSeq := 0
  held : List Cell := []
  since : Option Nat := none
  skipping : Bool := false
  skipCounted : Bool := false
  isOpen : Bool := false
  stomped : Bool := false
  bytes : Nat := 0
  addr : Nat := 0
  data : Content := 0
  tenant : Nat := 0
  copy : Bool := false
deriving DecidableEq, Repr

/-- Resequencer-loss event of a destination (03 R94): when last raised, and counts since. -/
structure LossEvent where
  last : Option Nat := none
  lost : Nat := 0
  damaged : Nat := 0
deriving DecidableEq, Repr

/-- A flush of a logical port in progress (03 R98): t0, its PTP time, and the counts of 2104h as they stood at t0. -/
structure FlushRec where
  t0 : Nat
  ptp0 : Int
  frames : Nat := 0
  bytes : Nat := 0
deriving DecidableEq, Repr

/-- A sampler record (03 Table 9). -/
structure SampleRec where
  egress : Bool
  truncated : Bool
  stomped : Bool
  port : Nat
  captured : Nat
  length : Nat
  drops : Nat
  time : Int
  head : Nat
deriving DecidableEq, Repr

/-- A copy for the analysis port (03 R102, R105): the frame, the bytes of the copy through its FCS, whether it is truncated, so
that its FCS is a new one over the truncated copy, and whether it is stomped, so that it leaves with that FCS inverted (counted elsewhere where a loss ended it). -/
structure MirrorCopy where
  frame : Frame
  bytes : Nat
  truncated : Bool := false
  stomped : Bool
  byLoss : Bool := false
deriving DecidableEq, Repr

/-- A frame that waits at its source or has partly left it: a received frame in a network port's buffer, or a copy at the mirror
unit (03 R74, R77, R95, R102). `len` bytes with their contents (first byte most significant), the cells that have left, the reason of 2103h
under which its stomp is counted, the address of its first cell. -/
structure Train where
  flow : Flow
  len : Nat
  data : Content := 0
  sent : Nat := 0
  bad : Option Nat := none
  tenant : Nat := 0
  addr : Nat := 0
  copy : Option MirrorCopy := none
deriving DecidableEq, Repr

/-- The fabric. Credits in use are keyed plane × 128 + destination: Class 0, then other classes (03 R78). `src` holds the flows that
have carried a cell, `base` stands for every other flow toward a logical port, `idle` for the rest. `onPlane`, keyed (plane × 128 + destination)
× 8 + class, holds the cells on a plane toward a destination, oldest first, Class 0 in a section of its own (03 R80); `lastCls` the
class last served of the others. `failures` holds the instants of failed payload corrections by plane (03 R81), `tainted` the stomped
records that a block may still build from, by attachment and address (03 R96), `failedCtx` the accumulation contexts that a stomped record
has failed (03 R97), `pairs` the cells that have crossed in the energy window, keyed source × 128 + destination (02 R68), `lfsr` the
sampler's generators (03 R107), `copies` the copies at the mirror unit. -/
structure FabState where
  used : Tbl (Nat × Nat) := []
  rr : Tbl Nat := []
  src : Tbl SrcFlow := []
  base : Tbl SrcFlow := []
  idle : SrcFlow := {}
  rsq : Tbl Reseq := []
  onPlane : Tbl (List Cell) := []
  lastCls : Tbl Nat := []
  failures : Tbl (List Nat) := []
  tainted : List (Nat × Nat) := []
  failedCtx : List Nat := []
  pairs : Tbl Nat := []
  lfsr : Tbl Nat := []
  copies : List Train := []
  loss : Tbl LossEvent := []
  flushes : Tbl FlushRec := []
  mirrorQ : List MirrorCopy := []
  samples : List SampleRec := []
  sampleDrops : Tbl Nat := []
  sampleSecond : Nat := 0
  sampleCount : Nat := 0
deriving DecidableEq, Repr

/-! ### Ethernet ports and PTP (04) -/

/-- A logical port (04). Per-priority tables are keyed by priority; times in ns. `delays` tells of the last 16 Pdelay requests,
newest first, which produced a kept measurement, `kept` holds the last 16 kept ones in ps (04 R133); `lpi` while the port sends
low-power idle (04 R146). -/
structure EthPort where
  linkUp : Bool := false
  noCommon : Bool := false
  flapUntil : Option Nat := none
  downTimes : List Nat := []
  stormsOff : Bool := false
  pausedUntil : Tbl Nat := []
  pausedSince : Tbl Nat := []
  stormUntil : Tbl Nat := []
  stormTimes : List Nat := []
  xoffSent : Tbl Nat := []
  headroom : Tbl Nat := []
  computed : Tbl (List (Nat × Nat)) := []
  short : Bool := false
  delays : List Bool := []
  kept : List Int := []
  delayOutstanding : Bool := false
  delaySent : Option Nat := none
  class0Pause : Option Nat := none
  echoTimes : List Nat := []
  chassis : Nat := 0
  partnerMac : Mac := 0
  pfcMac : Mac := 0
  lldpSent : Option Nat := none
  lpi : Bool := false
deriving DecidableEq, Repr

/-- A cage (04 R118). -/
structure Cage where
  present : Bool := false
  plug : Plug := .unreadable
  level : Bool := false
  fitted : Plug := .unreadable
  retryAt : Option Nat := none
  lowPower : Bool := true
deriving DecidableEq, Repr

/-- A master whose Announce messages the active PTP port has received: the last of them, and when they came (04 R140). -/
structure Foreign where
  ann : Announce
  times : List Nat
deriving DecidableEq, Repr

/-- The PTP clock (04 R140 to R144, R641): PTP time is module time plus `offset`, plus the part of `slew` already worked
off at 50 ppm since `slewFrom`, plus the rate correction `rate` in parts per billion since `rateFrom`. `foreign` holds the masters heard on
the active port, by sender, `best` the one chosen; `listenFrom` since when the active port listens, `announceNs` the last announce
interval. -/
structure PtpState where
  offset : Int := 0
  slew : Int := 0
  slewFrom : Nat := 0
  rate : Int := 0
  rateFrom : Nat := 0
  foreign : Tbl Foreign := []
  listenFrom : Nat := 0
  announceNs : Nat := 2000000000
  good : Nat := 0
  standby : Bool := false
  best : Option Announce := none
  lastAnnounce : Option Nat := none
  primaryGoodSince : Option Nat := none
  primaryLast : Option (Nat × Nat) := none
  holdoverSince : Option Nat := none
  pendingSync : Bool := false
  utc : Int := 0
  delayReqOut : Bool := false
deriving DecidableEq, Repr

/-- A frame in the packet buffer of a network port (04 R131): logical port, priority, bytes, whether it fills headroom, and
its cells. -/
structure BufFrame where
  port : Nat
  prio : Nat
  bytes : Nat
  inHeadroom : Bool
  train : Train
deriving DecidableEq, Repr

/-- Ports, cages and, for each network port, the frames in its packet buffer, oldest first. -/
structure EthState where
  ports : Tbl EthPort := []
  buffer : Tbl (List BufFrame) := []
  cages : Tbl Cage := []
deriving DecidableEq, Repr

/-! ### RDMA queue pairs (05) -/

/-- A message before the send gate: its packets, still without PSNs, and its bytes (05 R176, R177). For an RDMA READ
request `read` holds the host address, the key and where its data lands in the command's transfer. -/
structure SendMsg where
  pkts : List TxPkt
  bytes : Nat
  cmd : Option Nat
  read : Option (Nat × Nat × Nat) := none
  waited : Bool := false
deriving DecidableEq, Repr

/-- A packet sent and not yet acknowledged (05 R172, R175). -/
structure SentPkt where
  pkt : TxPkt
  at_ : Nat
  retx : Bool := false
  last : Bool := true
deriving DecidableEq, Repr

/-- A packet that waits to be sent again, and whether its data is there (05 R173). -/
structure Resend where
  pkt : TxPkt
  ready : Bool
deriving DecidableEq, Repr

/-- An outstanding RDMA READ (05 R174): first PSN, length, bytes that have arrived since the request was last sent and the most that ever
had, whether responses are being discarded until the first one of the repeated request. -/
structure ReadReq where
  psn : Psn
  len : Nat
  off : Nat := 0
  got : Nat := 0
  most : Nat := 0
  cmd : Nat
  va : Nat
  rkey : Nat
  at_ : Nat
  retx : Bool := false
  dropping : Bool := false
deriving DecidableEq, Repr

/-- A queue pair (05 Table 8 and what the rules of the chapter keep beside it). States: 0 free, 1 RTR, 2 RTS, 3 error,
4 closing; locations: 0 resident, 1 parked, 2 parking, 3 refetching. Times in ns, RTTs in µs. Of a twin queue pair, `copying`
tells that the peer holds its state, `twinWait` the record whose confirmation makes it so, `ackHold` the record that must be
confirmed before the next acknowledgement, `ackDue` an acknowledgement that waits for it (14 R487, R489). `resend` holds packets to be
sent again, in order, `psnUsed` the PSNs used since the starting one (05 R172, R173, R186); `begun` once its first capsule has been taken (06
R200), `ending` the Disconnect whose acknowledged response ends it (06 Table 4). -/
structure Qp where
  state : Nat := 0
  gen : Nat := 1
  loc : Nat := 0
  pin : Bool := false
  tenant : Nat := 0
  cls : Nat := 0
  ifRow : Nat := 0
  port : Nat := 0
  remoteIp : Ip := 0
  remoteQpn : Nat := 0
  srcPort : Nat := 0
  mtu : Nat := 1024
  pkey : Nat := 0
  cluster : Nat := 0
  ePsn : Psn := 0
  nPsn : Psn := 0
  oldest : Psn := 0
  msn : Nat := 0
  reads : List ReadReq := []
  depth : Nat := 0
  sent : List SentPkt := []
  sendQ : List SendMsg := []
  resend : List Resend := []
  psnUsed : Nat := 0
  window : Nat := 0
  windowPin : Nat := 0
  alpha : Rat := 0
  srtt : Option Rat := none
  rtts : List (Nat × Rat) := []
  lastDecrease : Option Nat := none
  alphaAt : Nat := 0
  retries : Nat := 7
  rnrRetries : Nat := 7
  rnrCount : Nat := 7
  bufs : Nat := 0
  twin : Bool := false
  copying : Bool := false
  twinWait : Option RecSeq := none
  ackHold : Option RecSeq := none
  ackDue : Bool := false
  rxCount : Nat := 0
  txCount : Nat := 0
  retxCount : Nat := 0
  cnpRx : Nat := 0
  cnpTx : Nat := 0
  nakRx : Nat := 0
  dups : Nat := 0
  commId : Nat := 0
  startPsn : Psn := 0
  rtrAt : Nat := 0
  nakSent : Bool := false
  openBytes : Option Nat := none
  openCapsule : Option Capsule := none
  ackCount : Nat := 0
  ackSince : Option Nat := none
  lastCnp : Option Nat := none
  ackTimer : Option Nat := none
  rnrUntil : Option Nat := none
  rnrFirst : Option (Nat × Nat) := none
  floorSince : Option Nat := none
  floorEvent : Bool := false
  ref : Bool := false
  residentSince : Nat := 0
  parkStart : Option Nat := none
  held : List (Nat × RocePkt) := []
  dreqAt : Option Nat := none
  freeAt : Option Nat := none
  listenerType : Nat := 1
  privQid : Nat := 0
  hsqsize : Nat := 0
  cntlid : Option Nat := none
  qid : Nat := 0
  sqhd : Nat := 0
  lastEngine : Nat := 0
  begun : Bool := false
  ending : Option Nat := none
deriving DecidableEq, Repr

/-- An entry of the QP error log (05 Table 11). -/
structure QpErr where
  time : Int
  qpn : Nat
  tenant : Nat
  ip : Ip
  reason : Nat
  syndrome : Nat
  psn : Nat
  affected : Nat
  cids : List Nat
  kept : Nat
  discarded : Nat
deriving DecidableEq, Repr

/-- Violations of one partner in its window, and until when it is limited (05 R188, 06 R230). -/
structure Offender where
  times : List Nat := []
  until_ : Option Nat := none
deriving DecidableEq, Repr

/-- The transport. `gens` is the last generation of each index, `hands` the clock hands of the slices; `holdFull` the
slices whose hold store is full and since when the event last went out. -/
structure RdmaState where
  qps : Tbl Qp := []
  gens : Tbl Nat := []
  errLog : List QpErr := []
  offenders : Tbl Offender := []
  hands : Tbl Nat := []
  holdEvents : Tbl (Nat × Nat) := []
deriving DecidableEq, Repr

/-! ### NVMe target (06) -/

/-- Where a command stands: its second half is awaited; its own row may act; it waits at admission or on the dirty
ceiling; its blocks are being read; its data is being fetched; it awaits the peer's confirmation, the flush of its rows,
a barrier or a crypto-erase; it is held as an Asynchronous Event Request; its completion is on the way. -/
inductive CmdStage where
  | fuseWait | ready | waitAdmit | waitDirty | reading | fetching | confirming | flushing | barrier | erasing | aer
  | sending
deriving DecidableEq, Repr

/-- How a piece of a read is served (01 Table 4). -/
inductive PieceSrc where
  | memory
  | member (mid : Nat)
  | recon (rid : Nat)
deriving DecidableEq, Repr

/-- A run of a command's transfer that lies in one chunk: byte offset in the transfer, array data address, bytes, where
it comes from, its ciphertext or plaintext once there, and whether its member command has ended. -/
structure Piece where
  off : Nat
  array : Nat
  addr : Nat
  len : Nat
  src : PieceSrc
  data : Option Content := none
  ended : Bool := false
deriving DecidableEq, Repr

/-- A command in the module. Exactly one of `qp` and `vf` (near port, VF, submission queue) names where it came from.
`entries` are the
intent entries of a write whose data is in the gather cache; `need` lists what a FUA write or a Flush waits for: array,
row, intent sequence. `kept` is set once data of a read has been offered for transmission (05 R173). The last fields are those of
the Class 0 measurement (07 R269, R270). -/
structure Cmd where
  qp : Option Nat := none
  vf : Option (Nat × Nat × Nat) := none
  cntlid : Option Nat := none
  cap : Capsule := {}
  host : Nat := 0
  tenant : Nat := 0
  cls : Nat := 0
  nsRow : Nat := 0
  port : Nat := 0
  arrivedAt : Nat := 0
  waitedAt : Option Nat := none
  waited : Nat := 0
  engine : Nat := 0
  stage : CmdStage := .ready
  len : Nat := 0
  fused : Option Nat := none
  pieces : List Piece := []
  data : Content := 0
  got : List (Nat × Nat) := []
  reserved : Nat := 0
  kept : Bool := false
  mirror : Option RecSeq := none
  entries : List IntentEntry := []
  need : List (Nat × Nat × Nat) := []
  pool : Nat := 0
  conform : Bool := true
  gateFirst : Bool := true
  measured : Bool := false
  svcFrom : Option Nat := none
  svcTo : Option Nat := none
deriving DecidableEq, Repr

/-- A capsule at the input of an engine (07 R239). -/
structure EngineInput where
  qp : Option Nat
  vf : Option (Nat × Nat × Nat)
  cap : Capsule
  cls : Nat
  arrivedAt : Nat
deriving DecidableEq, Repr

/-- A controller (06 Table 16 and what the rules keep beside it). State: 0 none, 1 connected, 2 enabled, 3 shut down.
`events` are the asynchronous events that wait for a request: type, information, log page; `doomed` controllers
are deleted once the Format NVM of their host has ended (06 R231). -/
structure Ctrl where
  state : Nat := 0
  hostRow : Nat := 0
  subsys : Nat := 0
  discovery : Bool := false
  hostid : Nat := 0
  kato : Nat := 0
  lastKeepAlive : Nat := 0
  adminQp : Option Nat := none
  vf : Option (Nat × Nat) := none
  ioQps : List (Nat × Nat) := []
  cc : Nat := 0
  shst : Nat := 0
  features : Tbl Nat := []
  events : List (Nat × Nat × Nat) := []
  changedNs : List Nat := []
  rsvLog : List (Nat × Nat) := []
  rsvCount : Nat := 0
  doomed : Bool := false
deriving DecidableEq, Repr

/-- Reservation state of a namespace (06 R210 to R212): registrants by host identifier with their keys, the holder, the
type 0 (none) to 6, the generation, and whether it persists. -/
structure Resv where
  regs : Tbl Nat := []
  holder : Option Nat := none
  rtype : Nat := 0
  gen : Nat := 0
  ptpl : Bool := false
deriving DecidableEq, Repr

/-- What a namespace keeps beside its row: its 512-bit key where it is used, none while that is unwrapped nowhere, and the wrapped copies
in the array records on the members and in the settings store (06 R223); erase in progress with the command that waits for it, barrier
with its commands, the commands whose reservation change the peer has not confirmed by the record sent, lost-list overflow. -/
structure NsState where
  eraseLater : Option (Nat × Bool) := none
  key : Option Nat := none
  memberKey : Option Content := none
  storeKey : Option Content := none
  resv : Resv := {}
  resvSent : List (RecSeq × Nat) := []
  erasing : Bool := false
  eraseCmd : Option Nat := none
  deleting : Bool := false
  keyAsked : Option RecSeq := none
  keyDone : Bool := true
  barrier : List Nat := []
  lostFull : Bool := false
  extents : List (Nat × Nat) := []
deriving DecidableEq, Repr

/-- The target. `gone` holds controller IDs deleted within the last 10 s; `keks` the tenants' KEKs by tenant, `sealed` those in the settings
store under the device key (06 R225); `served` the commands completed and failed by controller ID, which only a reset clears; `genctr`
the discovery generation by host row; `fuseFailed` the submission queues whose last capsule was the first half of a fused
pair and has failed. -/
structure NvmeState where
  inputs : Tbl (List EngineInput) := []
  cmds : Tbl Cmd := []
  nextCmd : Nat := 0
  ctrls : Tbl Ctrl := []
  gone : List (Nat × Nat) := []
  ns : Tbl NsState := []
  keks : Tbl Nat := []
  sealed : Tbl Nat := []
  served : Tbl (Nat × Nat) := []
  imports : List (Nat × Nat) := []
  offenders : Tbl Offender := []
  genctr : Tbl Nat := []
  ngBase : Nat := 0
  fuseFailed : List Nat := []
deriving DecidableEq, Repr

/-! ### Tenant scheduling (07) -/

/-- A token bucket (07 R244): tokens and burst in its unit, rate in units per ns. -/
structure Bucket where
  tokens : Rat := 0
  burst : Rat := 0
  rate : Rat := 0
  last : Nat := 0
deriving DecidableEq, Repr

/-- The TLVs of an LLDPDU that the module sends (04 R145): chassis ID, port ID, TTL in s, system name, port description, and of the PFC
Configuration TLV willing, MBC, capability and the enable bitmap. -/
structure Lldp where
  chassisId : Mac
  portId : Nat
  ttl : Nat
  systemName : String
  portDescription : String
  willing : Nat := 0
  mbc : Nat := 0
  capability : Nat := 2
  pfcBitmap : Nat
deriving DecidableEq, Repr

/-- What the port control queue carries (07 R236). -/
inductive Ctl where
  | arpReply (ip : Ip)
  | neighbourAdvert (ip : Ip)
  | echoReply (ip : Ip)
  | announceAddress (ip : Ip)
  | pdelayReq
  | pdelayResp
  | delayReq
  | lldp (l : Lldp)
  | cmRep (ip : Ip) (qpn psn respRes depth rnrRetry recfmt crqsize : Nat)
  | cmMra (ip : Ip) (serviceTimeout : Nat)
  | cmRej (ip : Ip) (reason status : Nat)
  | cmDreq (ip : Ip) (qpn : Nat)
  | cmDrep (ip : Ip) (qpn : Nat)
deriving DecidableEq, Repr

/-- Contents of a frame the module sends. -/
inductive Msg where
  | roce (qp : Nat) (p : TxPkt)
  | ctl (c : Ctl)
  | copy (m : MirrorCopy)
  | cells (f : Flow) (data : Content)
deriving DecidableEq, Repr

/-- A frame in an egress queue (07 R251): length from the destination MAC address through the FCS. `ce` once it carries the CE mark
(04 R138); a `stomped` frame leaves with its FCS inverted (03 R97), counted elsewhere where a loss ended it (`byLoss`, R94); `control` for a frame of the port control queue. -/
structure EgFrame where
  msg : Msg
  tenant : Nat := 0
  cls : Nat := 0
  len : Nat
  prio : Nat := 0
  dscp : Nat := 0
  ect : Bool := false
  ce : Bool := false
  stomped : Bool := false
  byLoss : Bool := false
  control : Bool := false
  at_ : Nat := 0
  retx : Bool := false
deriving DecidableEq, Repr

/-- Fair-queueing and promotion state of one queue (07 R246, R262 to R264): start and finish tags, the class it is
served in, what it has served since its promotion, since when it waits without service, and whether its head has been
counted as held by the guard band (R258). -/
structure QSched where
  start : Nat := 0
  finish : Nat := 0
  active : Bool := false
  heldBack : Bool := false
  level : Nat := 0
  relief : Nat := 0
  waitingSince : Nat := 0
  guarded : Bool := false
deriving DecidableEq, Repr

/-- Egress of one logical port (07 R251 to R254, R271). Queues are keyed class × 4,096 + tenant; 8000h port control. `promos`
counts each queue's promotions in a minute of PTP time. -/
structure EgPort where
  queues : Tbl (List EgFrame) := []
  sched : Tbl QSched := []
  vtime : Tbl Nat := []
  shapers : Tbl Bucket := []
  control : Option Bucket := none
  meter : Option Bucket := none
  onLine : Option EgFrame := none
  pfcQ : List (Nat × Nat) := []
  starvedMinute : Option Int := none
  promos : Tbl (Int × Nat) := []
  nonconfAt : Option Nat := none
deriving DecidableEq, Repr

/-- Time gates of one logical port (07 R256 to R261): operational list, current entry and its end in PTP time, the
pending list with the instant it becomes operational. -/
structure GatePort where
  oper : List (Nat × Nat) := []
  entry : Nat := 0
  entryEnd : Int := 0
  base : Int := 0
  invalid : Bool := false
  pending : Option (Int × List (Nat × Nat)) := none
deriving DecidableEq, Repr

/-- Admission buckets of a tenant (07 R240, R241): IOPS, data, and Class 0 by logical port. -/
structure Admission where
  iops : Option Bucket := none
  data : Option Bucket := none
  class0 : Tbl Bucket := []
deriving DecidableEq, Repr

/-- Drive-submission scheduling of one slot (07 R248 to R250, R262 to R266): queues of member commands keyed class ×
4,096 + tenant, the two background queues with the step of R248 at which each is
served, and what was served in the last 10 ms: time, cost, 0 host, 1 rebuild and
copy-back, 2 scrub. -/
structure MemberSched where
  queues : Tbl (List Nat) := []
  sched : Tbl QSched := []
  vtime : Tbl Nat := []
  rebuildQ : List Nat := []
  scrubQ : List Nat := []
  served : List (Nat × Nat × Nat) := []
  rung : Nat := 0
  rebuildStep : Nat := 2
  scrubStep : Nat := 2
  starvedMinute : Option Int := none
  promos : Tbl (Int × Nat) := []
deriving DecidableEq, Repr

/-- Scheduling state. `dirtySched` and `dirtyVtime` are the fair queueing of writes at the dirty ceiling (07 R242);
`slack` the Class 0 latencies of the last 100 ms, with their times (07 R267). -/
structure SchedState where
  eg : Tbl EgPort := []
  gates : Tbl GatePort := []
  adm : Tbl Admission := []
  mem : Tbl MemberSched := []
  dirtySched : Tbl QSched := []
  dirtyVtime : Tbl Nat := []
  slack : List (Nat × Nat) := []
  excess : List Nat := []
  boundMinute : Int := 0
  lastTarget : Option Nat := none
  lastShare : Option Nat := none
deriving DecidableEq, Repr

/-! ### Metering ledger (08) -/

/-- A tenant record of a page (08 Table 4): its flags and meters 0 to 15. -/
structure TenantRecord where
  tenant : Nat
  flags : Nat := 0
  meters : List Nat := []
deriving DecidableEq, Repr

/-- A page whose interval has ended (08 Table 3). `closedAt` is module time; `prevHash` and `hash` are taken at the seal,
before which the page is in `MeterState.closing`. -/
structure LedgerPage where
  seq : Nat
  flags : Nat
  from_ : Int
  upTo : Int
  status : Nat := 0
  utc : Int := 0
  grandmaster : Nat := 0
  late : Nat := 0
  version : Nat := 0
  recs : List TenantRecord := []
  closedAt : Nat := 0
  prevHash : Nat := 0
  hash : Nat := 0
deriving DecidableEq, Repr

/-- The ledger. `counts` is keyed (minute * 4096 + tenant) * 16 + meter, the minutes of PTP time from the open page's on;
`holders` are the tenants that hold a namespace or a host row, `recs` those that held one in the open interval with
their record flags; `hbm` and `vault` hold sealed pages, newest first. -/
structure MeterState where
  counts : Tbl Nat := []
  start : Int := 0
  flags : Nat := 1
  late : Nat := 0
  lastLateEvent : Option Nat := none
  holders : List Nat := []
  recs : Tbl Nat := []
  closing : List LedgerPage := []
  hbm : List LedgerPage := []
  vault : List LedgerPage := []
  seq : Nat := 0
  lastHash : Nat := 0
deriving DecidableEq, Repr

/-! ### Arrays and the write-gather cache (09) -/

/-- One version of a 4 KiB gather-cache page: its ciphertext, which of its eight 512-byte sectors are dirty, the
namespace row and first LBA, since when, the highest intent sequence, and the key generation (09 R314, R323). -/
structure PageVer where
  data : Content
  mask : Nat
  since : Nat
  seq : Nat
  nsRow : Nat
  keyGen : Nat
  tenant : Nat
  cls : Nat
deriving DecidableEq, Repr

/-- A page of the gather cache: the version being written by a flush and the newer one. -/
structure GPage where
  cur : Option PageVer := none
  snap : Option PageVer := none
deriving DecidableEq, Repr

/-- Stages of a row flush (09 R310 to R326): its context or its open record is awaited, its member reads and writes run,
its closing record is awaited, or it is a rebuilt row whose closing record is durable. -/
inductive FlushStage where
  | waitCtx | opening | writing | closing | closed
deriving DecidableEq, Repr

/-- A row flush. `vals` are the known chunk contents by 4 KiB column and position (column × 32 + position; 32: P read,
33: Q read), `reads` and `writes` the member commands outstanding, `method` as in Table 7, `fixed` the
contents that a rebuild restores, `repairs` what a repair writes (position, chunk offset, length, content), `target`
the member a copy-back writes, `bad` positions whose reads have failed. -/
structure Flush where
  fseq : Nat
  method : Nat
  pages : List Nat := []
  start : Nat := 0
  len : Nat := 0
  stage : FlushStage := .waitCtx
  ctx : Option Nat := none
  vals : Tbl Content := []
  reads : List Nat := []
  writes : List Nat := []
  map : Nat := 0
  degraded : Bool := false
  mark : Nat := 0
  tenant : Nat := 0
  cls : Nat := 1
  restores : List Nat := []
  pqDone : Bool := false
  cols : List Nat := []
  openDone : Bool := false
  fixed : Tbl Content := []
  bg : Nat := 0
  repairs : List (Nat × Nat × Nat × Content) := []
  target : Option Nat := none
  bad : List Nat := []
deriving DecidableEq, Repr

/-- A journal record (09 Table 7). -/
structure JRec where
  typ : Nat
  method : Nat
  degraded : Bool
  map : Nat
  row : Nat
  fseq : Nat
  start : Nat
  len : Nat
  mark : Nat
  time : Int
  subGen : Nat
deriving DecidableEq, Repr

/-- A journal block on its way to the journal members: its records and the copies still outstanding (09 R325). -/
structure JBlock where
  seq : Nat
  recs : List JRec
  copies : List Nat
deriving DecidableEq, Repr

/-- An entry of the substitution list (09 R328): the lost member, the entry number 1 or 2, the generation. -/
structure Subst where
  member : Nat
  k : Nat
  gen : Nat
deriving DecidableEq, Repr

/-- A lost-block list entry (10 Table 9). -/
structure LostRun where
  nsRow : Nat
  lba : Nat
  count : Nat
  time : Int
  cause : Nat
deriving DecidableEq, Repr

/-- Service-time record of a member (10 R335, R342, R344, R345). Times in ns, service times in ns. -/
structure MemberStat where
  samples : List (Nat × Nat) := []
  longs : List Nat := []
  reads : List Nat := []
  mediaErrors : List Nat := []
  slowEvent : Option Nat := none
  retried : Bool := false
  replaced : Bool := false
deriving DecidableEq, Repr

/-- The restoring work of an array (10 R354): kind as 5110h:02, member, segment, cursor. -/
structure Work where
  kind : Nat
  member : Nat
  seg : Nat
  cursor : Nat
deriving DecidableEq, Repr

/-- An array beside its configuration row. `used` holds the granules that have been written, `leaving` those of them
which still stand as deallocated in the bitmap (06 R209); `zone` the open records
in the journal zone with the sequence of their block; `segs` the segment map. -/
structure ArrState where
  lbaSize : Nat := 4096
  nRows : Nat := 0
  ident : Nat := 0
  sbGen : Nat := 0
  watermark : Nat := 0
  savedWatermark : Nat := 0
  zeroing : Option (Nat × List Nat) := none
  used : List Nat := []
  leaving : List Nat := []
  subs : List Subst := []
  subGen : Nat := 0
  fseq : Nat := 0
  jwait : List (Nat × JRec) := []
  jseq : Nat := 0
  jblocks : List JBlock := []
  zone : List (Nat × JRec) := []
  pair : Nat × Nat := (0, 1)
  trio : List Nat := []
  failed : Bool := false
  held : Bool := false
  recovering : Bool := false
  stats : Tbl MemberStat := []
  lref : Rat := 200
  segs : Tbl Nat := []
  work : Option Work := none
  savedWork : Option Work := none
  lost : List LostRun := []
  scrubSkipped : List (Nat × Nat) := []
  scrubRow : Option Nat := none
  repairWait : List (Nat × Nat × Nat × Nat × Content) := []
deriving DecidableEq, Repr

/-- A parity accumulator (09 R310, R313): bytes of store in use by context, times of its failed accumulations by flush. -/
structure Accum where
  ctxs : Tbl Nat := []
  fails : List Nat := []
deriving DecidableEq, Repr

/-- A reconstruction (09 R309, 10 R339, R352): the command and piece it serves, the positions read with their member
commands, the contents that have come, positions whose reads have failed, and whether what it recovers is written back
(10 R343). `resend` names the queue pair and packet of one that serves a retransmission and no command (05 R173). -/
structure Recon where
  cmd : Nat
  off : Nat
  array : Nat
  addr : Nat
  len : Nat
  waits : Tbl Nat := []
  vals : Tbl Content := []
  around : Option Nat := none
  ctx : Option Nat := none
  failed : List Nat := []
  repair : Bool := false
  resend : Option (Nat × Psn) := none
deriving DecidableEq, Repr

/-- Arrays, gather cache (keyed array × 2^40 + page), intent ring (unretired entries, oldest first), flushes (keyed
array × 2^40 + row), accumulators and reconstructions. -/
structure ArrayState where
  arrs : Tbl ArrState := []
  pages : Tbl GPage := []
  intent : List IntentEntry := []
  intentSeq : Nat := 1
  flushes : Tbl Flush := []
  accs : Tbl Accum := []
  recons : Tbl Recon := []
  nextRecon : Nat := 0
  statsAt : Option Nat := none
  slowAt : Option Nat := none
deriving DecidableEq, Repr

/-! ### Drive slots (11) -/

/-- Why a member command runs. -/
inductive Purpose where
  | hostRead (cmd off : Nat)
  | recon (rid pos : Nat)
  | flushRead (array row pos col : Nat)
  | flushWrite (array row : Nat)
  | journal (array seq copy : Nat)
  | zero (array row : Nat)
  | regions (array : Nat)
  | repair (array row : Nat)
  | resend (qp : Nat) (psn : Psn)
deriving DecidableEq, Repr

/-- Operations the module sends to a drive (11 R386). -/
inductive DriveOp where
  | read | write | writeZeroes
deriving DecidableEq, Repr

/-- A member command: where it goes, member byte offset and length, what for, and what the drive has done with it.
`ctx` is its stream context; `since` its doorbell; `around` when it was read around; `dead` once nothing waits for it;
`late` once its timeout has passed (11 R395); `poison` and `overrun` once its data was found bad. -/
structure MemberCmd where
  slot : Nat
  array : Nat := 0
  member : Nat := 0
  op : DriveOp := .read
  off : Nat := 0
  len : Nat := 0
  tenant : Nat := 0
  cls : Nat := 0
  bg : Nat := 0
  purpose : Purpose := .regions 0
  engine : Nat := 0
  ctx : Option Nat := none
  data : Content := 0
  got : Nat := 0
  cid : Option Nat := none
  since : Nat := 0
  around : Option Nat := none
  dead : Bool := false
  abortAt : Option Nat := none
  excess : Bool := false
  retried : Bool := false
  late : Bool := false
  poison : Bool := false
  overrun : Bool := false
deriving DecidableEq, Repr

/-- A request of the module on a slot's link (11 R392): since when, and the DMA channel that reads
through it with its start number and bytes, or the channel that reads its next descriptor through it. -/
structure TagUse where
  since : Nat
  quarantined : Bool := false
  dma : Option (Nat × Nat × Nat) := none
  chain : Option Nat := none
deriving DecidableEq, Repr

/-- How the module programs a slot's root port and the drive's configuration space (11 R372, R374, R377): bus, payload and read
request sizes in bytes, and what is enabled. -/
structure LinkSetup where
  bus : Nat
  flit : Bool
  maxPayload : Nat
  maxReadRequest : Nat := 4096
  tag10 : Bool := true
  extendedTags : Bool := true
  relaxedOrdering : Bool := true
  aspmL0s : Bool := false
  aspmL1 : Bool := false
  l1Substates : Bool := false
  ats : Bool := false
  pri : Bool := false
  pasid : Bool := false
  msi : Bool := false
  msix : Bool := false
  intx : Bool := false
  expansionRom : Bool := false
deriving DecidableEq, Repr

/-- How the module sets a drive's controller (11 Table 3): `clearWce` where the drive has a volatile cache that may be disabled. -/
structure DriveSetup where
  mps : Nat := 0
  css : Nat := 0
  ams : Nat := 0
  iosqes : Nat := 6
  iocqes : Nat := 4
  adminEntries : Nat := 32
  queuesAsked : Nat := 32
  clearWce : Bool
  smartWarnings : Bool := true
  namespaceNotices : Bool := true
  asyncRequests : Nat := 4
  hostMemoryBuffer : Bool := false
  arbitrationBurst : Nat := 0
  powerState : Nat
  queues : Nat
  entries : Nat
deriving DecidableEq, Repr

/-- A slot beside its rows: sideband levels, bring-up times and tries, the reference clock, the programming of the link with the
offset and size of each BAR in the slot's window, the configured controller, errors logged, tags, the reset ladder (step and
start), an Abort of an admin command (identifier and time), misbehaviour, SMBus; `askPeer` is the record that asks the peer, for 1 the reach of the drive, for 2 a
power cycle. `faults` are the times of power faults. Power fields are those of 15 R516 to R525. -/
structure Slot where
  prsnt : Bool := false
  info : DriveInfo := {}
  accepted : Option Nat := none
  auxOn : Bool := false
  mainOn : Bool := false
  ramping : Option Nat := none
  ifdet : Option Bool := none
  powerGood : Option Nat := none
  perst : Bool := true
  perstAt : Option Nat := none
  linkUp : Bool := false
  linkAt : Option Nat := none
  tries : Nat := 0
  trainFails : Nat := 0
  dpc : Option Nat := none
  presenceCase : Nat := 0
  presenceTimes : List Nat := []
  prsntOffAt : Option Nat := none
  linkSteadyAt : Option Nat := none
  ready : Bool := false
  waitsTwin : Bool := false
  tags : Tbl TagUse := []
  cplEvent : Option Nat := none
  ladder : Option (Nat × Nat) := none
  violations : List Nat := []
  smbus : List Nat := []
  tempHigh : Bool := false
  cfs : Bool := false
  cause : Nat := 0
  askPeer : Option RecSeq := none
  retryAt : Option Nat := none
  latched : Bool := false
  powerState : Nat := 0
  faults : List Nat := []
  pwrdis : Bool := false
  smartAsked : Option Nat := none
  smartLate : Bool := false
  adminAbort : Option (Nat × Nat) := none
  clock : Bool := false
  bars : List (Nat × Nat) := []
  link : Option LinkSetup := none
  setup : Option DriveSetup := none
  bme : Bool := false
  aer : List AerKind := []
  smartAt : Option Nat := none
  smbusAt : Option Nat := none
  askKind : Nat := 0
deriving DecidableEq, Repr

/-- Slots, member commands by number, and the stream contexts: the member command each is open for. -/
structure SlotState where
  slots : Tbl Slot := []
  cmds : Tbl MemberCmd := []
  nextCmd : Nat := 0
  streams : Tbl Nat := []
deriving DecidableEq, Repr
/-! ### Near ports (12) -/

/-- What a non-posted request of a near port fetches: the entry of a submission queue, write data of a command, or data that a
DMA channel reads, by its start number and outbound entry. -/
inductive NpPurpose where
  | sqEntry (vf sq index : Nat)
  | writeData (cmd off len : Nat)
  | copyJob (ch run len entry : Nat)
  | chain (ch entry : Nat)
deriving DecidableEq, Repr

/-- A tag of a near port (12 R430, R431): the function that sent the request (0 is PF0) and since when. -/
structure NpTag where
  since : Nat
  func : Nat
  purpose : NpPurpose
  entry : Option Nat := none
  quarantined : Bool := false
  orphaned : Bool := false
deriving DecidableEq, Repr

/-- A request that waits for a tag or for an outbound entry (12 R423, R430). -/
structure NpWait where
  func : Nat
  addr : Nat
  purpose : NpPurpose
deriving DecidableEq, Repr

/-- A submission queue of a VF: `head` is the next entry to fetch, `tail` the last doorbell, `busy` while the entry at `head`
is being fetched. -/
structure SubQ where
  base : Nat
  size : Nat
  head : Nat := 0
  tail : Nat := 0
  cq : Nat := 0
  busy : Bool := false
deriving DecidableEq, Repr

/-- A completion queue of a VF: `head` as the host last wrote it, `tail` the next entry to write. -/
structure CplQ where
  base : Nat
  size : Nat
  head : Nat := 0
  tail : Nat := 0
  phase : Bool := true
  vector : Nat := 0
deriving DecidableEq, Repr

/-- A completion that waits for room in its queue. -/
structure CplWait where
  cq : Nat
  cqe : Cqe
deriving DecidableEq, Repr

/-- A VF (12 Table 3, R412 to R419, R431 to R434). -/
structure Vf where
  bme : Bool := false
  cc : Nat := 0
  rdy : Bool := false
  cfs : Bool := false
  shst : Nat := 0
  aqa : Nat := 0
  asq : Nat := 0
  acq : Nat := 0
  hostid : Nat := 0
  sqs : Tbl SubQ := []
  cqs : Tbl CplQ := []
  waits : List CplWait := []
  ignoring : Bool := false
  msix : Msix := {}
  violations : List Nat := []
deriving DecidableEq, Repr

/-- An outbound entry that the engines manage (12 R422, R423). -/
structure OutEntry where
  func : Nat
  region : Nat
  uses : Nat
deriving DecidableEq, Repr

/-- The mailbox of a control window (12 Table 8, R425); `waits` counts the items of the message in it that still wait for the
peer's answer (14 R466). -/
structure Mailbox where
  status : Nat := 0
  reqLen : Nat := 0
  respLen : Nat := 0
  waits : Nat := 0
deriving DecidableEq, Repr

/-- SPDM responder state of a port (12 R435): requests answered so far, and the version negotiated. -/
structure SpdmState where
  version : Nat := 0
  caps : Bool := false
  algorithms : Bool := false
deriving DecidableEq, Repr

/-- Port settings in force, taken from 5300h at the last assertion or deassertion of its reset and at the last link down (12
Table 13). -/
structure NpSettings where
  enable : Bool := true
  maxRate : Nat := 64
  clock : Nat := 0
  svid : Nat := 0x1F3C
  ssid : Nat := 0
  bar2 : Nat := 0
deriving DecidableEq, Repr

/-- A near port (12). `sched` and `vtime` are the fair queueing of the requests in `waits` (07 R255). `aer` lists the errors logged in PF0's AER, newest first: kind and function.
`devCtl` is Device Control of PF0 (PCIe Base 6.0); `ready` is the ready bit of the control window (17 R597); `bar0`, `bar2` and `vfBar` are what the near host wrote into the BARs (12
R420), `vfMse` is VF Memory Space Enable. -/
structure NearPort where
  cfg : NpSettings := {}
  perst : Bool := true
  training : Option Nat := none
  linkUp : Bool := false
  width : Nat := 0
  rate : Nat := 0
  numVfs : Nat := 0
  vfEnable : Bool := false
  bme : Bool := false
  memEnable : Bool := false
  d3 : Bool := false
  tag10 : Bool := false
  ctoRange : Nat := 0
  devCtl : Nat := 0x2810
  aer : List (Nat × Nat) := []
  ready : Bool := true
  bar0 : Nat := 0
  bar2 : Nat := 0
  vfBar : Nat := 0
  vfMse : Bool := false
  mailbox : Mailbox := {}
  vfs : Tbl Vf := []
  entries : Tbl OutEntry := []
  tags : Tbl NpTag := []
  waits : List NpWait := []
  sched : Tbl QSched := []
  vtime : Tbl Nat := []
  spdm : SpdmState := {}
  pf0Violations : List Nat := []
deriving DecidableEq, Repr


/-! ### DMA engine (13) -/

/-- What a channel does once the descriptors it has accepted are complete: report a halt with its code and address, or stop at
the end of the chain, or on a generation. -/
inductive DmaPark where
  | halt (code addr : Nat)
  | atEnd
  | onGeneration
deriving DecidableEq, Repr

/-- A DMA channel (13 Table 1). `cur` is the descriptor to fetch next or at which the channel stopped; `fetching` since when
it is being read; `follow` while the last descriptor is read again for its Next; `work` the accepted descriptors, oldest
first, by address and contents; `moved` and `asked` the bytes of the first that have come from a PCIe source and whether a
read is out; `run` numbers the starts; `own` is the descriptor that the module built for a mode 0 copy job. -/
structure DmaChan where
  state : Nat := 0
  code : Nat := 0
  pending : Bool := false
  e : Bool := false
  head : Nat := 0
  gen : Bool := false
  cur : Nat := 0
  hopLimit : Nat := 65536
  fetchTimeout : Nat := 2000
  cls : Nat := 7
  bytes : Nat := 0
  descs : Nat := 0
  hops : Nat := 0
  errAddr : Nat := 0
  fetching : Option Nat := none
  follow : Bool := false
  work : List (Nat × BitVec 256) := []
  moved : Nat := 0
  asked : Bool := false
  park : Option DmaPark := none
  run : Nat := 0
  own : Option (BitVec 256) := none
deriving DecidableEq, Repr

/-! ### Twin operation (14) -/

/-- A record sent and not yet acknowledged (14 R477): when it last went out and when it first did. -/
structure SentRec where
  rec_ : TwinRec
  at_ : Nat
  groups : Nat
  first : Nat
deriving DecidableEq, Repr

/-- A commit or write of a shelf setting that waits for the peer's answer (14 R466): its session, window, stage (or
the object's value), the sequence of its settings record and since when it waits. -/
structure HeldCommit where
  sess : Nat
  win : Nat
  stage : Stage
  object : Option (Nat × Val)
  seq : RecSeq
  since : Nat
deriving DecidableEq, Repr

/-- A mirror data record that the window holds (14 R481, R482): its offset, its entries not yet released, its pages. -/
structure MirrorRec where
  off : Nat
  entries : List IntentEntry
  pages : List MirrorPage
deriving DecidableEq, Repr

/-- The standby context of a peer's twin queue pair (14 R486, R487): its last full state, the capsules whose response is not
known to have been sent, oldest first, and the capsule of a message that is still incomplete. -/
structure Standby where
  rec_ : QpStateRec
  caps : List Capsule := []
  openCap : Option Capsule := none
deriving DecidableEq, Repr

/-- A takeover (14 Table 6): its instant and its PTP time, what started it, the arrays still to recover, all those taken, and
how many of its announcements have been sent. -/
structure Takeover where
  t0 : Nat
  ptp0 : Int
  trigger : Nat
  left : List Nat
  taken : List Nat
  announced : Nat := 1
  continued : Nat := 0
  lost : Nat := 0
deriving DecidableEq, Repr

/-- The twin link and what the rules of the chapter keep beside the objects. `sendWait` holds records that the limits of R477
keep back; `linked` from pairing on while the record series of that pairing runs; `groups` is the bitmap of lane groups in service; `outOf` when a group went out of service. `yieldOut` and
`yieldIn` tell that the line is asserted (`yieldIn` filtered). `joining` are the references of the records that carry the
pages present at pairing (R497); `fromMirror` the inherited writes, by queue pair and command, that complete from the mirror
(R500); `moved` what the sliding windows of R490 count: time and amount, by item, `counted` the counters as last seen.
`volts` are the daily voltages in 0.1 mV with their times (R505); `stopped` is set once the module is silent (steps 1 to 4 of
Table 5); `failedAt` is the last instant at which the verdict was seen failed or YIELD_OUT_N changed. -/
structure TwinState where
  twinMode : Bool := false
  nextSeq : RecSeq := 0
  expected : RecSeq := 0
  unacked : List SentRec := []
  sendWait : List TwinRec := []
  early : List TwinRec := []
  linked : Bool := false
  pairedAt : Nat := 0
  groups : Nat := 0
  outOf : Tbl Nat := []
  split : Bool := false
  lastSent : Option Nat := none
  lastBeat : Option Nat := none
  lastDelivered : Option Nat := none
  configGen : Nat := 0
  held : List HeldCommit := []
  peer : Option Hello := none
  settleFrom : Nat := 0
  lastUnpaired : Option Nat := none
  lastHello : Option Nat := none
  health : Option (Nat × Health) := none
  lastReport : Option Nat := none
  yieldOut : Bool := true
  yieldIn : Bool := true
  yieldInSince : Nat := 0
  lineChanges : List Nat := []
  yieldRec : Option Nat := none
  linkLost : Bool := false
  lostAt : Option Nat := none
  mirror : List MirrorRec := []
  closed : List Nat := []
  joining : List RecSeq := []
  standby : Tbl Standby := []
  fromMirror : List (Nat × Nat) := []
  adopting : Bool := false
  opYield : Bool := false
  slowSince : Option Nat := none
  recheck : Option Nat := none
  yieldTimes : List Nat := []
  takerDone : Option Nat := none
  take : Option Takeover := none
  fitSince : Option Nat := none
  shadowFails : Tbl Nat := []
  moved : Tbl (List (Nat × Nat)) := []
  counted : Tbl Nat := []
  volts : List (Nat × Nat) := []
  stopped : Bool := false
  failedAt : Nat := 0
deriving DecidableEq, Repr

/-! ### Power and energy (15) -/

/-- A copy region of the vault (15 R542, Table 6). State: 0 idle, 1 in progress, 2 complete and awaiting recovery, 3 invalid and
not yet erased. Its contents: intent entries, own dirty pages, pages of arrays being taken, ledger pages. -/
structure CopyRegion where
  state : Nat := 0
  seq : Nat := 0
  stormTime : Int := 0
  doneTime : Int := 0
  intents : List IntentEntry := []
  pages : Tbl GPage := []
  taken : Tbl GPage := []
  ledger : List LedgerPage := []
  arrays : Nat := 0
  bytes : Nat := 0
  digest : Nat := 0
deriving DecidableEq, Repr

/-- Power beside the objects. `off` is set while the module does not run: every rail but
housekeeping is off, or it is in reset and has not booted; `gate` while the input switch is on or
ramping (since `gateAt`), `good` from input power-good on
(since `goodAt`), `lost` once input power has
been lost since the last boot; `holdup` while the holdup switch is closed; `latched` while the input switch stays open after too many
faults, and `sagAt` when VIN last fell below the undervoltage lockout since then; `cause` is the input fault that housekeeping keeps for the next boot. Capacitances
are in mF, newest first; `storeV` the last measured store voltage; `rise` a ceiling above the one in force with the time since when
the automatic ceiling has stayed at or above it. `rate` is what the vault test measured in GB/s. `serveTimes` are
the instants of the commands taken in the last second in Lull. -/
structure PowerState where
  off : Bool := false
  storm : Bool := false
  stormAt : Option Nat := none
  copyTo : Option Nat := none
  copyAt : Nat := 0
  pfwarn : Bool := false
  pfwarnAt : Option Nat := none
  lull : Bool := false
  lullAt : Nat := 0
  idleSince : Nat := 0
  serveTimes : List Nat := []
  flushAll : Bool := false
  gate : Bool := true
  gateAt : Nat := 0
  good : Bool := true
  goodAt : Nat := 0
  lost : Bool := false
  lockout : Bool := false
  latched : Bool := false
  sagAt : Option Nat := none
  holdup : Bool := false
  retryAt : Option Nat := none
  faults : List Nat := []
  cause : Nat := 0
  caps : List Rat := []
  storedCap : Option Rat := none
  measuredAt : Option Nat := none
  storeV : Rat := 0
  auto : Nat := 0
  rise : Option (Nat × Nat) := none
  rate : Rat := 12
  testOk : Bool := true
  regions : Tbl CopyRegion := []
  copySeq : Nat := 0
deriving DecidableEq, Repr

/-! ### Firmware (17) -/

/-- An image as it is stored (17 R590): its length in bytes, header included, and its bytes, byte 0 least significant. -/
structure Image where
  len : Nat := 4096
  data : Content := 0
deriving DecidableEq, Repr

/-- The image of State.reset: the header fields that R596 checks, no payload, every other field 0 (log entry 90). -/
def Image.factory : Image :=
  { len := 4096, data := 0x465A5253 + 0x0001 * 256 ^ 4 + 4096 * 256 ^ 6 + 0x3224 * 256 ^ 8 }

/-- What the fast reset path waits for: an activation, or the reset of a revert (17 R603, R605). -/
inductive FlushGoal where
  | activate | revert
deriving DecidableEq, Repr

/-- Boot flash, fallback region and what the rules of the chapter keep beside the objects. `slot` is the complete image of
the slot, `fallback` the fallback image with `snapshot`, its settings; `source` is where the `running` image came from (2300h:0C), `rejected` marks the slot image in the boot status
block, `fresh` a received image that no activation has booted yet, `trial` an image in trial with its count of boots. `rx`
holds the `rxLen` bytes of a transfer that have come, `rxAt` its last write. `goal` is what the flush since `flushAt` is for, with admission closed; `drainAt` the start of a drain. `halted` after a
failed loader check. -/
structure FwState where
  slot : Option Image := some Image.factory
  fallback : Option Image := some Image.factory
  snapshot : Tbl Val := []
  running : Image := Image.factory
  source : Nat := 1
  rejected : Bool := false
  fresh : Bool := false
  trial : Bool := false
  trialBoots : Nat := 0
  rx : Content := 0
  rxLen : Nat := 0
  rxAt : Nat := 0
  goal : Option FlushGoal := none
  flushAt : Nat := 0
  drainAt : Option Nat := none
  bootAt : Nat := 0
  halted : Bool := false
deriving DecidableEq, Repr

/-! ### Lands (18) -/

/-- Button sense of an indicator line (18 R624, R625): the last reading, how many samples in a row have differed from the accepted
state, the accepted state and since when it has been pressed. -/
structure Button where
  reading : Bool := false
  run : Nat := 0
  pressed : Bool := false
  since : Nat := 0
deriving DecidableEq, Repr

/-- Sideband inputs, indicator lines and the thermal shutdown. `changes` holds instants of the accepted changes of each filtered
input; `mgmt` the levels of the management sidebands as asserted (bits of 5223h:03); `frameAt` the last indicator frame, `lamps` the lines
lit in it; `testAt` the start of a lamp test, with the frames measured since and those in which a line was open; `pulses` the
last activity pulse of each slot; `drive` is the current in mA and the duty in percent of lit lines; `hot` from a thermal shutdown to its restart. -/
structure LandState where
  changes : Tbl (List Nat) := []
  mgmt : Nat := 0
  frameAt : Option Nat := none
  lamps : Nat := 0
  drive : Nat × Nat := (5, 100)
  buttons : Tbl Button := []
  testAt : Option Nat := none
  frames : Nat := 0
  opens : Tbl Nat := []
  pulses : Tbl Nat := []
  warnedAt : Option Nat := none
  hot : Bool := false
deriving DecidableEq, Repr

/-! ### The whole state -/

/-- What the module answers over DOE (12 R435, 17 R611): the object types it supports, the SPDM responses, or an SPDM error.
A signed response carries the nonce and its Ed25519 signature. -/
inductive SpdmReply where
  | discovery (index : Nat) (vendor kind next : Nat)
  | version (versions : List Nat)
  | capabilities (flags : Nat)
  | algorithms (signature hash : Nat)
  | digests (slots : List (Nat × Nat))
  | certificate (slot offset : Nat) (len : Nat) (data : Content) (left : Nat)
  | challengeAuth (slot chain nonce signature : Nat)
  | measurements (blocks : List (Nat × Nat × Nat)) (signed : Option (Nat × Nat))
  | error
deriving DecidableEq, Repr

/-- What a destination does with a stomped frame or record (03 Table 6). -/
inductive StompAct where
  | packetDiscarded | nothingWritten | noTlp | poisonedTlp | accumulationFailed | recordDiscarded
deriving DecidableEq, Repr

/-- Attributes of a request through an outbound entry (12 R422, Table 6). -/
structure NpAttr where
  noSnoop : Bool := false
  relaxed : Bool := true
  idOrdered : Bool := false
  tc : Nat := 0
deriving DecidableEq, Repr

/-- What the module sends: replies, messages, frames, records, levels of lands. Newest first in `State.out`. -/
inductive Out where
  | reply (sess code : Nat) (value : Option Val)
  | replyItems (sess request : Nat) (items : List (Option (Nat × Option Val)))
  | opened (sess address nonce : Nat)
  | authReply (sess level : Nat)
  | keepaliveReply (sess : Nat)
  | closed (sess : Nat)
  | canAbort (code : Nat)
  | canHeartbeat (node state : Nat)
  | supervision (port seq : Nat)
  | mgmtReply (port seq : Nat)
  | spdm (port : Nat) (r : SpdmReply)
  | alonardError (address reason : Nat)
  | eventMessage (sess : Nat) (e : EventRec)
  | emcy (cobId at_ code : Nat) (register : Nat) (e : Option EventRec)
  | msix (port vector addr data : Nat)
  | deliver (c : Cell)
  | endStomped (f : Flow)
  | stomped (f : Flow) (addr : Nat) (a : StompAct)
  | lpi (port : Nat) (on : Bool)
  | samples (sess : Nat) (rs : List SampleRec)
  | txStart (port : Nat) (f : EgFrame)
  | txPfc (port prio quanta : Nat)
  | txCut (port : Nat) (f : EgFrame)
  | cagePower (cage : Nat) (low : Bool)
  | memberCmd (slot cid queue : Nat) (op : DriveOp) (off len : Nat) (ctx : Option Nat) (fua : Bool)
  | linkSetup (slot : Nat) (x : LinkSetup)
  | driveSetup (slot : Nat) (x : DriveSetup)
  | driveRead (slot addr len : Nat) (ok : Bool) (data : Content)
  | driveAbort (slot cid : Nat)
  | twinRec (groups : Nat) (r : TwinRec)
  | npRead (port tag func addr len : Nat) (attr : NpAttr)
  | npData (port func cid off len : Nat) (data : Content) (poisoned : Bool) (attr : NpAttr)
  | npInfo (port func cid : Nat) (d : HostData)
  | npCqe (port func cq addr : Nat) (e : Cqe)
  | npMsix (port func vector addr data : Nat)
  | npBulk (port func addr len : Nat) (data : Content) (attr : NpAttr)
  | slotRead (slot tag off len : Nat)
  | slotBulk (slot off len : Nat) (data : Content)
  | dmaSignal (ch : Nat)
  | npReply (port func status value len : Nat)
  | yieldLine (asserted : Bool)
  | pfwarnLine (asserted : Bool)
  | inputSwitch (on : Bool)
  | inputLimit (deciAmps : Nat)
  | driveShutdown (slot : Nat)
deriving DecidableEq, Repr

/-- The module. `now` is module time in ns, `pending` the commands that wait, first in first out, `hbm` the bytes of
module memory in canonical form (`Memory.wf`), `vcore` the core voltage in 0.1 mV, `out` everything sent. -/
structure State where
  now : Nat := 0
  pending : List Instr := []
  hbm : List Host.Cell := []
  vcore : Nat := 8200
  free : Nat := 0
  out : List Out := []
  dict : DictState := {}
  sess : SessState := {}
  ev : EventState := {}
  rings : Tbl EventRing := []
  core : CoreState := {}
  fab : FabState := {}
  eth : EthState := {}
  ptp : PtpState := {}
  rdma : RdmaState := {}
  nvme : NvmeState := {}
  sched : SchedState := {}
  arr : ArrayState := {}
  slot : SlotState := {}
  np : Tbl NearPort := []
  dma : Tbl DmaChan := []
  meter : MeterState := {}
  twin : TwinState := {}
  pwr : PowerState := {}
  land : LandState := {}
  fw : FwState := {}
deriving DecidableEq, Repr

/-- The machine right after reset. -/
def State.reset : State := {}

end Sys2Proof.Machine
end

