-- ==== Sys2Proof/Machine/DictTab.lean ====
section
/-! DEFINITION. The object dictionary of the manual as data: one entry per object or row-window field, with its type,
access, level, default, range and whether it is persistent. Written from the object tables of each chapter and the
persistence rule that follows them; the ranges are those of the Meaning column (log entry 5). -/

namespace Sys2Proof.Machine

/-- One object or run of equal objects: sub-indices `lo` to `hi`. -/
def Dict.ent (lo hi : Nat) (ty : ValTy) (acc : Acc) (level : Nat) (dflt : Val) (rng : List (Nat × Nat × Nat))
    (keep : Bool) : Nat × Nat × Desc :=
  (lo, hi, ⟨ty, acc, level, dflt, rng, keep⟩)

/-- Object 1000h (16_object_dictionary.md, R586). -/
def Dict.t1000 : List (Nat × Nat × Desc) :=
  [
    Dict.ent 0x00 0x00 (.u 32) .const 0 (.nat 0) [] false]

/-- Object 1001h (16_object_dictionary.md, R586). -/
def Dict.t1001 : List (Nat × Nat × Desc) :=
  [
    Dict.ent 0x00 0x00 (.u 8) .ro 0 (.nat 0) [] false]

/-- Object 1008h (16_object_dictionary.md, R586). -/
def Dict.t1008 : List (Nat × Nat × Desc) :=
  [
    Dict.ent 0x00 0x00 (.str 255) .const 0 (.str "SRZ-3224") [] false]

/-- Object 100Ah (16_object_dictionary.md, R586). -/
def Dict.t100A : List (Nat × Nat × Desc) :=
  [
    Dict.ent 0x00 0x00 (.str 255) .ro 0 (.str "") [] false]

/-- Object 1011h (16_object_dictionary.md, R586). -/
def Dict.t1011 : List (Nat × Nat × Desc) :=
  [
    Dict.ent 0x01 0x01 (.u 32) .wo 2 (.nat 0) [(1684107116, 1684107116, 1)] false]

/-- Object 1015h (16_object_dictionary.md, R586). -/
def Dict.t1015 : List (Nat × Nat × Desc) :=
  [
    Dict.ent 0x00 0x00 (.u 16) .rw 1 (.nat 100) [(0, 65535, 1)] true]

/-- Object 1017h (16_object_dictionary.md, R586). -/
def Dict.t1017 : List (Nat × Nat × Desc) :=
  [
    Dict.ent 0x00 0x00 (.u 16) .rw 1 (.nat 1000) [] true]

/-- Object 1018h (16_object_dictionary.md, R586). -/
def Dict.t1018 : List (Nat × Nat × Desc) :=
  [
    Dict.ent 0x01 0x04 (.u 32) .const 0 (.nat 0) [] false]

/-- Object 1100h (16_object_dictionary.md, R586). -/
def Dict.t1100 : List (Nat × Nat × Desc) :=
  [
    Dict.ent 0x01 0x01 (.u 8) .rw 1 (.nat 64) [(1, 127, 1)] true,
    Dict.ent 0x02 0x02 (.u 16) .rw 1 (.nat 500) [(500, 500, 1), (1000, 1000, 1)] true,
    Dict.ent 0x03 0x03 (.u 16) .rw 1 (.nat 2000) [(2000, 2000, 1), (5000, 5000, 1)] true,
    Dict.ent 0x04 0x04 (.u 8) .rw 1 (.nat 0) [(0, 1, 1)] true,
    Dict.ent 0x05 0x05 (.u 8) .rw 1 (.nat 0) [(0, 1, 1)] true,
    Dict.ent 0x06 0x06 (.u 8) .rw 1 (.nat 2) [(0, 4, 1)] true]

/-- Object 1110h (16_object_dictionary.md, R586). -/
def Dict.t1110 : List (Nat × Nat × Desc) :=
  [
    Dict.ent 0x01 0x01 (.oct 16) .rw 1 (.oct 16 0) [] true,
    Dict.ent 0x02 0x02 (.u 8) .rw 1 (.nat 0) [(0, 128, 1)] true,
    Dict.ent 0x03 0x03 (.oct 16) .rw 1 (.oct 16 0) [] true,
    Dict.ent 0x04 0x04 (.u 16) .rw 1 (.nat 0) [(0, 4094, 1)] true,
    Dict.ent 0x05 0x05 (.u 16) .rw 1 (.nat 1518) [(1518, 1518, 1), (9018, 9018, 1)] true]

/-- Object 1111h (16_object_dictionary.md, R586). -/
def Dict.t1111 : List (Nat × Nat × Desc) :=
  [
    Dict.ent 0x01 0x02 (.u 8) .ro 0 (.nat 0) [] false,
    Dict.ent 0x03 0x04 (.u 64) .ro 0 (.nat 0) [] false,
    Dict.ent 0x05 0x05 (.u 64) .ro 0 (.nat 0) [] false,
    Dict.ent 0x06 0x06 (.u 64) .ro 0 (.nat 0) [] false]

/-- Object 1120h (16_object_dictionary.md, R586). -/
def Dict.t1120 : List (Nat × Nat × Desc) :=
  [
    Dict.ent 0x01 0x01 (.u 8) .rw 1 (.nat 1) [(0, 1, 1)] true,
    Dict.ent 0x02 0x02 (.u 8) .const 0 (.nat 16) [] false,
    Dict.ent 0x03 0x03 (.u 16) .rw 1 (.nat 60) [(10, 3600, 1)] true,
    Dict.ent 0x04 0x04 (.u 8) .ro 0 (.nat 1) [] false,
    Dict.ent 0x05 0x05 (.u 8) .ro 0 (.nat 0) [] false]

/-- Object 1130h Accounts (16_object_dictionary.md, R586). -/
def Dict.t1130 : List (Nat × Nat × Desc) :=
  [
    Dict.ent 0x01 0x01 (.u 8) .rw 1 (.nat 0) [(0, 31, 1)] false,
    Dict.ent 0x02 0x02 (.u 8) .rw 1 (.nat 0) [(0, 1, 1)] true,
    Dict.ent 0x03 0x03 (.u 8) .rw 1 (.nat 0) [(0, 2, 1)] true,
    Dict.ent 0x04 0x04 (.oct 32) .rw 1 (.oct 32 0) [] true,
    Dict.ent 0x05 0x05 (.str 31) .rw 1 (.str "") [] true,
    Dict.ent 0xFE 0xFE (.u 8) .wo 1 (.nat 0) [(1, 1, 1)] false]

/-- Object 1140h (16_object_dictionary.md, R586). -/
def Dict.t1140 : List (Nat × Nat × Desc) :=
  [
    Dict.ent 0x01 0x01 (.u 16) .rw 1 (.nat 60) [(1, 3600, 1)] true,
    Dict.ent 0x02 0x02 (.u 16) .rw 1 (.nat 10) [] true,
    Dict.ent 0x03 0x03 (.u 32) .rw 1 (.nat 300) [(1, 86400, 1)] true,
    Dict.ent 0x04 0x04 (.u 16) .ro 0 (.nat 0) [] false]

/-- Object 2000h (02_self_timed_core.md, R71). -/
def Dict.t2000 : List (Nat × Nat × Desc) :=
  [
    Dict.ent 0x00 0x00 (.u 8) .rw 1 (.nat 1) [(0, 2, 1)] true]

/-- Object 2001h (02_self_timed_core.md, R71). -/
def Dict.t2001 : List (Nat × Nat × Desc) :=
  [
    Dict.ent 0x01 0x01 (.u 16) .rw 2 (.nat 145) [(120, 150, 1)] true,
    Dict.ent 0x02 0x02 (.u 16) .rw 2 (.nat 117) [(100, 140, 1)] true,
    Dict.ent 0x03 0x03 (.u 16) .ro 0 (.nat 0) [] false,
    Dict.ent 0x04 0x04 (.u 16) .ro 0 (.nat 0) [] false]

/-- Object 2002h (02_self_timed_core.md, R71). -/
def Dict.t2002 : List (Nat × Nat × Desc) :=
  [
    Dict.ent 0x01 0x01 (.u 16) .ro 0 (.nat 0) [] false,
    Dict.ent 0x02 0x02 (.u 16) .rw 2 (.nat 0) [(0, 0, 1), (640, 820, 1)] true,
    Dict.ent 0x03 0x03 (.u 16) .const 0 (.nat 640) [] false,
    Dict.ent 0x04 0x04 (.u 16) .const 0 (.nat 820) [] false,
    Dict.ent 0x05 0x05 (.u 8) .ro 0 (.nat 0) [] false,
    Dict.ent 0x06 0x06 (.u 8) .ro 0 (.nat 0) [] false,
    Dict.ent 0x07 0x07 (.u 8) .ro 0 (.nat 0) [] false]

/-- Object 2003h (02_self_timed_core.md, R71). -/
def Dict.t2003 : List (Nat × Nat × Desc) :=
  [
    Dict.ent 0x01 0x01 (.u 16) .ro 0 (.nat 100) [] false,
    Dict.ent 0x02 0x02 (.u 16) .ro 0 (.nat 25) [] false,
    Dict.ent 0x03 0x03 (.u 8) .rw 2 (.nat 3) [(1, 10, 1)] true,
    Dict.ent 0x04 0x04 (.u 8) .rw 2 (.nat 8) [(4, 20, 1)] true,
    Dict.ent 0x05 0x05 (.u 8) .ro 0 (.nat 20) [] false,
    Dict.ent 0x06 0x06 (.u 16) .rw 2 (.nat 210) [(120, 210, 1)] true,
    Dict.ent 0x07 0x07 (.u 32) .ro 0 (.nat 0) [] false,
    Dict.ent 0x08 0x08 (.u 16) .const 0 (.nat 10000) [] false]

/-- Object 2004h (02_self_timed_core.md, R71). -/
def Dict.t2004 : List (Nat × Nat × Desc) :=
  [
    Dict.ent 0x00 0x00 (.u 16) .const 0 (.nat 156) [] false]

/-- Object 2006h (02_self_timed_core.md, R71). -/
def Dict.t2006 : List (Nat × Nat × Desc) :=
  [
    Dict.ent 0x00 0x00 (.i32) .ro 0 (.int 0) [] false]

/-- Object 2007h (18_pins_electrical_mechanical.md, R637). -/
def Dict.t2007 : List (Nat × Nat × Desc) :=
  [
    Dict.ent 0x01 0x01 (.u 64) .ro 0 (.nat 0) [] false,
    Dict.ent 0x02 0x02 (.u 64) .ro 0 (.nat 0) [] false,
    Dict.ent 0x03 0x03 (.i32) .const 0 (.int 1050) [] false,
    Dict.ent 0x04 0x04 (.i32) .const 0 (.int 1150) [] false,
    Dict.ent 0x05 0x05 (.i32) .const 0 (.int 950) [] false,
    Dict.ent 0x06 0x06 (.u 8) .ro 0 (.nat 0) [] false]

/-- Object 2010h (02_self_timed_core.md, R71). -/
def Dict.t2010 : List (Nat × Nat × Desc) :=
  [
    Dict.ent 0x00 0x00 (.u 8) .const 0 (.nat 64) [] false,
    Dict.ent 0x01 0x40 (.u 16) .ro 0 (.nat 0) [] false]

/-- Object 2011h (02_self_timed_core.md, R71). -/
def Dict.t2011 : List (Nat × Nat × Desc) :=
  [
    Dict.ent 0x01 0x40 (.u 16) .ro 0 (.nat 0) [] false]

/-- Object 2012h (02_self_timed_core.md, R71). -/
def Dict.t2012 : List (Nat × Nat × Desc) :=
  [
    Dict.ent 0x01 0x40 (.u 8) .rw 2 (.nat 0) [(0, 0, 1), (2, 2, 1)] true]

/-- Object 2020h (02_self_timed_core.md, R71). -/
def Dict.t2020 : List (Nat × Nat × Desc) :=
  [
    Dict.ent 0x01 0x01 (.real32) .ro 0 (.real 0) [] false,
    Dict.ent 0x02 0x02 (.real32) .ro 0 (.real 0) [] false,
    Dict.ent 0x03 0x03 (.real32) .ro 0 (.real 0) [] false,
    Dict.ent 0x04 0x04 (.real32) .ro 0 (.real 0) [] false,
    Dict.ent 0x05 0x05 (.u 16) .rw 2 (.nat 4096) [(1, 65535, 1)] true,
    Dict.ent 0x06 0x06 (.u 8) .wo 1 (.nat 0) [(1, 1, 1)] false,
    Dict.ent 0x07 0x07 (.u 32) .ro 0 (.nat 0) [] false]

/-- Object 2021h (02_self_timed_core.md, R71). -/
def Dict.t2021 : List (Nat × Nat × Desc) :=
  [
    Dict.ent 0x01 0x01 (.real32) .ro 0 (.real 0) [] false,
    Dict.ent 0x02 0x02 (.real32) .ro 0 (.real 0) [] false,
    Dict.ent 0x03 0x03 (.real32) .ro 0 (.real 0) [] false,
    Dict.ent 0x04 0x04 (.real32) .ro 0 (.real 0) [] false,
    Dict.ent 0x05 0x05 (.u 16) .rw 2 (.nat 1) [(1, 1000, 1)] true,
    Dict.ent 0x06 0x06 (.u 8) .wo 1 (.nat 0) [(1, 1, 1)] false,
    Dict.ent 0x07 0x07 (.u 32) .ro 0 (.nat 0) [] false]

/-- Object 2030h (02_self_timed_core.md, R71). -/
def Dict.t2030 : List (Nat × Nat × Desc) :=
  [
    Dict.ent 0x01 0x01 (.real32) .ro 0 (.real 0) [] false,
    Dict.ent 0x02 0x02 (.real32) .ro 0 (.real 0) [] false]

/-- Object 2100h (03_cell_fabric.md, R111). -/
def Dict.t2100 : List (Nat × Nat × Desc) :=
  [
    Dict.ent 0x01 0x04 (.u 8) .rw 2 (.nat 0) [(0, 0, 1), (2, 2, 1)] true]

/-- Object 2101h (03_cell_fabric.md, R111). -/
def Dict.t2101 : List (Nat × Nat × Desc) :=
  [
    Dict.ent 0x01 0x01 (.u 8) .rw 2 (.nat 20) [(15, 40, 1)] true,
    Dict.ent 0x02 0x02 (.real32) .ro 0 (.real 0) [] false,
    Dict.ent 0x03 0x03 (.real32) .ro 0 (.real 0) [] false,
    Dict.ent 0x04 0x04 (.u 16) .const 0 (.nat 512) [] false,
    Dict.ent 0x05 0x05 (.u 16) .const 0 (.nat 1024) [] false]

/-- Object 2102h (03_cell_fabric.md, R111). -/
def Dict.t2102 : List (Nat × Nat × Desc) :=
  [
    Dict.ent 0x01 0x01 (.u 8) .rw 0 (.nat 0) [(0, 67, 1)] false,
    Dict.ent 0x02 0x02 (.u 64) .ro 0 (.nat 0) [] false,
    Dict.ent 0x03 0x03 (.u 64) .ro 0 (.nat 0) [] false,
    Dict.ent 0x04 0x04 (.u 64) .ro 0 (.nat 0) [] false,
    Dict.ent 0x05 0x05 (.u 64) .ro 0 (.nat 0) [] false,
    Dict.ent 0x06 0x06 (.u 64) .ro 0 (.nat 0) [] false,
    Dict.ent 0x07 0x07 (.u 64) .ro 0 (.nat 0) [] false]

/-- Object 2103h (03_cell_fabric.md, R111). -/
def Dict.t2103 : List (Nat × Nat × Desc) :=
  [
    Dict.ent 0x01 0x01 (.u 8) .rw 0 (.nat 0) [(0, 67, 1)] false,
    Dict.ent 0x02 0x02 (.u 64) .ro 0 (.nat 0) [] false,
    Dict.ent 0x03 0x03 (.u 64) .ro 0 (.nat 0) [] false,
    Dict.ent 0x04 0x04 (.u 64) .ro 0 (.nat 0) [] false,
    Dict.ent 0x05 0x05 (.u 64) .ro 0 (.nat 0) [] false,
    Dict.ent 0x06 0x06 (.u 64) .ro 0 (.nat 0) [] false,
    Dict.ent 0x07 0x07 (.u 64) .ro 0 (.nat 0) [] false,
    Dict.ent 0x08 0x08 (.u 64) .ro 0 (.nat 0) [] false]

/-- Object 2104h (03_cell_fabric.md, R111). -/
def Dict.t2104 : List (Nat × Nat × Desc) :=
  [
    Dict.ent 0x01 0x01 (.u 8) .rw 0 (.nat 0) [(0, 31, 1)] false,
    Dict.ent 0x02 0x09 (.u 64) .ro 0 (.nat 0) [] false,
    Dict.ent 0x0A 0x0A (.u 64) .ro 0 (.nat 0) [] false,
    Dict.ent 0x0B 0x0B (.u 64) .ro 0 (.nat 0) [] false,
    Dict.ent 0x0C 0x0C (.u 64) .ro 0 (.nat 0) [] false,
    Dict.ent 0x0D 0x0D (.u 64) .ro 0 (.nat 0) [] false]

/-- Object 2108h (03_cell_fabric.md, R111). -/
def Dict.t2108 : List (Nat × Nat × Desc) :=
  [
    Dict.ent 0x00 0x00 (.u 8) .rw 1 (.nat 255) [(0, 31, 1), (255, 255, 1)] true]

/-- Object 2109h (03_cell_fabric.md, R111). -/
def Dict.t2109 : List (Nat × Nat × Desc) :=
  [
    Dict.ent 0x01 0x20 (.u 8) .rw 1 (.nat 0) [(0, 3, 1)] true]

/-- Object 210Ah (03_cell_fabric.md, R111). -/
def Dict.t210A : List (Nat × Nat × Desc) :=
  [
    Dict.ent 0x01 0x01 (.u 32) .const 0 (.nat 262144) [] false,
    Dict.ent 0x02 0x02 (.u 64) .ro 0 (.nat 0) [] false,
    Dict.ent 0x03 0x03 (.u 64) .ro 0 (.nat 0) [] false]

/-- Object 2110h Flow mirror rules (03_cell_fabric.md, R111). -/
def Dict.t2110 : List (Nat × Nat × Desc) :=
  [
    Dict.ent 0x01 0x01 (.u 8) .rw 1 (.nat 0) [(0, 63, 1)] false,
    Dict.ent 0x02 0x02 (.u 8) .rw 1 (.nat 0) [(0, 1, 1)] true,
    Dict.ent 0x03 0x03 (.u 8) .rw 1 (.nat 1) [(1, 3, 1)] true,
    Dict.ent 0x04 0x04 (.u 32) .rw 1 (.nat 0) [] true,
    Dict.ent 0x05 0x05 (.u 16) .rw 1 (.nat 0) [] true,
    Dict.ent 0x06 0x06 (.u 16) .rw 1 (.nat 65535) [(0, 4094, 1), (65535, 65535, 1)] true,
    Dict.ent 0x07 0x07 (.oct 16) .rw 1 (.oct 16 0) [] true,
    Dict.ent 0x08 0x08 (.u 8) .rw 1 (.nat 0) [(0, 128, 1)] true,
    Dict.ent 0x09 0x09 (.oct 16) .rw 1 (.oct 16 0) [] true,
    Dict.ent 0x0A 0x0A (.u 8) .rw 1 (.nat 0) [(0, 128, 1)] true,
    Dict.ent 0x0B 0x0B (.u 16) .rw 1 (.nat 0) [] true,
    Dict.ent 0x0C 0x0C (.u 32) .rw 1 (.nat 4294967295) [(0, 16777215, 1), (4294967295, 4294967295, 1)] true,
    Dict.ent 0x0D 0x0D (.u 16) .rw 1 (.nat 65535) [(0, 4095, 1), (65535, 65535, 1)] true,
    Dict.ent 0x0E 0x0E (.u 8) .rw 1 (.nat 255) [] true,
    Dict.ent 0x0F 0x0F (.u 16) .rw 1 (.nat 0) [(0, 0, 1), (64, 9216, 64)] true,
    Dict.ent 0xFE 0xFE (.u 8) .wo 1 (.nat 0) [(1, 1, 1)] false]

/-- Object 2111h (03_cell_fabric.md, R111). -/
def Dict.t2111 : List (Nat × Nat × Desc) :=
  [
    Dict.ent 0x01 0x01 (.u 8) .rw 0 (.nat 0) [(0, 63, 1)] false,
    Dict.ent 0x02 0x02 (.u 64) .ro 0 (.nat 0) [] false]

/-- Object 2120h (03_cell_fabric.md, R111). -/
def Dict.t2120 : List (Nat × Nat × Desc) :=
  [
    Dict.ent 0x01 0x20 (.u 16) .rw 1 (.nat 0) [] true]

/-- Object 2121h (03_cell_fabric.md, R111). -/
def Dict.t2121 : List (Nat × Nat × Desc) :=
  [
    Dict.ent 0x01 0x20 (.u 16) .rw 1 (.nat 0) [] true]

/-- Object 2122h (03_cell_fabric.md, R111). -/
def Dict.t2122 : List (Nat × Nat × Desc) :=
  [
    Dict.ent 0x01 0x01 (.u 64) .ro 0 (.nat 0) [] false,
    Dict.ent 0x02 0x02 (.u 64) .ro 0 (.nat 0) [] false,
    Dict.ent 0x03 0x03 (.domain) .ro 0 (.oct 0 0) [] false,
    Dict.ent 0x04 0x04 (.u 32) .const 0 (.nat 2000000) [] false]

/-- Object 2200h (15_power_and_energy.md, R550). -/
def Dict.t2200 : List (Nat × Nat × Desc) :=
  [
    Dict.ent 0x01 0x01 (.real32) .ro 0 (.real 0) [] false,
    Dict.ent 0x02 0x02 (.real32) .ro 0 (.real 0) [] false,
    Dict.ent 0x03 0x03 (.real32) .ro 0 (.real 0) [] false,
    Dict.ent 0x04 0x04 (.u 8) .rw 2 (.nat 40) [(10, 100, 1)] true,
    Dict.ent 0x05 0x05 (.u 16) .rw 2 (.nat 80) [(10, 400, 1)] true,
    Dict.ent 0x06 0x06 (.u 16) .rw 2 (.nat 1000) [(100, 60000, 1)] true,
    Dict.ent 0x07 0x07 (.u 8) .rw 2 (.nat 3) [(0, 10, 1)] true,
    Dict.ent 0x08 0x08 (.u 64) .ro 0 (.nat 0) [] false,
    Dict.ent 0x09 0x09 (.u 8) .ro 0 (.nat 0) [] false,
    Dict.ent 0x0A 0x0A (.u 64) .ro 0 (.nat 0) [] false,
    Dict.ent 0x0B 0x0B (.u 64) .ro 0 (.nat 0) [] false]

/-- Object 2201h (15_power_and_energy.md, R550). -/
def Dict.t2201 : List (Nat × Nat × Desc) :=
  [
    Dict.ent 0x01 0x01 (.u 16) .rw 1 (.nat 2048) [(256, 3072, 64)] true,
    Dict.ent 0x02 0x02 (.u 64) .ro 0 (.nat 0) [] false,
    Dict.ent 0x04 0x04 (.u 16) .rw 1 (.nat 330) [(300, 400, 1)] true,
    Dict.ent 0x05 0x05 (.u 16) .const 0 (.nat 20) [] false,
    Dict.ent 0x06 0x06 (.u 64) .ro 0 (.nat 0) [] false,
    Dict.ent 0x07 0x07 (.u 64) .ro 0 (.nat 0) [] false,
    Dict.ent 0x08 0x08 (.u 8) .ro 0 (.nat 0) [] false,
    Dict.ent 0x09 0x09 (.u 64) .ro 0 (.nat 0) [] false,
    Dict.ent 0x0A 0x0A (.u 32) .ro 0 (.nat 0) [] false,
    Dict.ent 0x0B 0x0B (.u 8) .rw 2 (.nat 10) [(5, 50, 1)] true,
    Dict.ent 0x0C 0x0C (.real32) .const 0 (.real (56 / 1)) [] false,
    Dict.ent 0x0D 0x0D (.real32) .ro 0 (.real (12 / 1)) [] false,
    Dict.ent 0x0E 0x0E (.u 8) .ro 0 (.nat 0) [] false,
    Dict.ent 0x0F 0x0F (.u 8) .wo 2 (.nat 0) [(1, 1, 1)] false]

/-- Object 2202h (15_power_and_energy.md, R550). -/
def Dict.t2202 : List (Nat × Nat × Desc) :=
  [
    Dict.ent 0x01 0x01 (.real32) .ro 0 (.real 0) [] false,
    Dict.ent 0x02 0x02 (.real32) .ro 0 (.real 0) [] false,
    Dict.ent 0x03 0x03 (.real32) .ro 0 (.real 0) [] false,
    Dict.ent 0x04 0x04 (.real32) .const 0 (.real (34 / 5)) [] false,
    Dict.ent 0x05 0x05 (.u 32) .rw 2 (.nat 600) [(60, 86400, 1)] true,
    Dict.ent 0x06 0x06 (.u 64) .ro 0 (.nat 0) [] false,
    Dict.ent 0x07 0x07 (.real32) .const 0 (.real (87 / 100)) [] false,
    Dict.ent 0x08 0x08 (.real32) .const 0 (.real (28 / 1)) [] false,
    Dict.ent 0x09 0x09 (.real32) .ro 0 (.real 0) [] false,
    Dict.ent 0x0A 0x0A (.i32) .ro 0 (.int 0) [] false,
    Dict.ent 0x0B 0x0B (.real32) .ro 0 (.real 0) [] false,
    Dict.ent 0x0C 0x0C (.real32) .ro 0 (.real 0) [] false]

/-- Object 2210h Slot power (15_power_and_energy.md, R550). -/
def Dict.t2210 : List (Nat × Nat × Desc) :=
  [
    Dict.ent 0x01 0x01 (.u 8) .rw 1 (.nat 0) [(0, 23, 1)] false,
    Dict.ent 0x02 0x02 (.u 8) .ro 1 (.nat 0) [] false,
    Dict.ent 0x03 0x03 (.u 8) .ro 1 (.nat 0) [] false,
    Dict.ent 0x04 0x04 (.u 8) .rw 1 (.nat 20) [(5, 40, 1)] true,
    Dict.ent 0x05 0x05 (.u 8) .rw 1 (.nat 20) [(5, 100, 1)] true,
    Dict.ent 0x06 0x06 (.u 8) .rw 1 (.nat 40) [(10, 40, 1)] true,
    Dict.ent 0x07 0x07 (.real32) .ro 1 (.real 0) [] false,
    Dict.ent 0x08 0x08 (.real32) .ro 1 (.real 0) [] false,
    Dict.ent 0x09 0x09 (.real32) .ro 1 (.real 0) [] false,
    Dict.ent 0x0A 0x0A (.u 64) .ro 1 (.nat 0) [] false,
    Dict.ent 0x0B 0x0B (.u 64) .ro 1 (.nat 0) [] false,
    Dict.ent 0x0C 0x0C (.u 8) .rw 1 (.nat 0) [(0, 1, 1)] true,
    Dict.ent 0x0D 0x0D (.u 8) .wo 1 (.nat 0) [(0, 1, 1)] false,
    Dict.ent 0x0E 0x0E (.u 8) .ro 1 (.nat 0) [] false,
    Dict.ent 0xFE 0xFE (.u 8) .wo 1 (.nat 0) [(1, 1, 1)] false]

/-- Object 2211h (15_power_and_energy.md, R550). -/
def Dict.t2211 : List (Nat × Nat × Desc) :=
  [
    Dict.ent 0x01 0x01 (.u 16) .rw 1 (.nat 720) [(100, 720, 1)] true,
    Dict.ent 0x02 0x02 (.real32) .ro 1 (.real 0) [] false,
    Dict.ent 0x03 0x03 (.real32) .ro 1 (.real 0) [] false]

/-- Object 2220h (15_power_and_energy.md, R550). -/
def Dict.t2220 : List (Nat × Nat × Desc) :=
  [
    Dict.ent 0x01 0x01 (.u 8) .rw 1 (.nat 1) [(0, 2, 1)] true,
    Dict.ent 0x02 0x02 (.u 32) .rw 1 (.nat 10000) [(100, 3600000, 1)] true,
    Dict.ent 0x03 0x03 (.u 8) .ro 0 (.nat 0) [] false,
    Dict.ent 0x04 0x04 (.u 32) .rw 1 (.nat 50000) [(1000, 200000, 1)] true,
    Dict.ent 0x05 0x05 (.u 8) .rw 1 (.nat 1) [(0, 1, 1)] true,
    Dict.ent 0x06 0x06 (.u 64) .ro 0 (.nat 0) [] false,
    Dict.ent 0x07 0x07 (.u 64) .ro 0 (.nat 0) [] false,
    Dict.ent 0x08 0x08 (.u 32) .ro 0 (.nat 0) [] false,
    Dict.ent 0x09 0x09 (.u 32) .const 0 (.nat 200000) [] false]

/-- Object 2300h (17_firmware_and_identity.md, R614). -/
def Dict.t2300 : List (Nat × Nat × Desc) :=
  [
    Dict.ent 0x01 0x01 (.u 32) .ro 0 (.nat 0) [] false,
    Dict.ent 0x02 0x02 (.u 8) .ro 0 (.nat 0) [] false,
    Dict.ent 0x03 0x03 (.u 8) .ro 0 (.nat 0) [] false,
    Dict.ent 0x04 0x04 (.u 8) .ro 0 (.nat 0) [] false,
    Dict.ent 0x05 0x05 (.u 8) .ro 0 (.nat 0) [] false,
    Dict.ent 0x06 0x06 (.u 32) .ro 0 (.nat 0) [] false,
    Dict.ent 0x07 0x07 (.u 32) .ro 0 (.nat 0) [] false,
    Dict.ent 0x08 0x08 (.u 32) .ro 0 (.nat 0) [] false,
    Dict.ent 0x09 0x09 (.u 32) .ro 0 (.nat 0) [] false,
    Dict.ent 0x0A 0x0A (.u 8) .ro 0 (.nat 0) [] false,
    Dict.ent 0x0B 0x0B (.u 8) .ro 0 (.nat 0) [] false,
    Dict.ent 0x0C 0x0C (.u 8) .ro 0 (.nat 0) [] false]

/-- Object 2301h (17_firmware_and_identity.md, R614). -/
def Dict.t2301 : List (Nat × Nat × Desc) :=
  [
    Dict.ent 0x01 0x01 (.u 8) .ro 0 (.nat 0) [] false,
    Dict.ent 0x02 0x02 (.u 32) .ro 0 (.nat 0) [] false,
    Dict.ent 0x03 0x03 (.domain) .wo 2 (.oct 0 0) [] false,
    Dict.ent 0x04 0x04 (.u 8) .wo 2 (.nat 0) [(1, 1, 1)] false,
    Dict.ent 0x05 0x05 (.u 8) .wo 2 (.nat 0) [(1, 1, 1)] false,
    Dict.ent 0x06 0x06 (.u 8) .ro 0 (.nat 0) [] false]

/-- Object 2302h (17_firmware_and_identity.md, R614). -/
def Dict.t2302 : List (Nat × Nat × Desc) :=
  [
    Dict.ent 0x01 0x01 (.u 64) .rw 2 (.nat 0) [] true,
    Dict.ent 0x02 0x02 (.u 8) .rw 2 (.nat 0) [(0, 1, 1)] true,
    Dict.ent 0x03 0x03 (.u 16) .rw 2 (.nat 0) [(0, 1023, 1)] true,
    Dict.ent 0x04 0x04 (.u 32) .rw 2 (.nat 600) [(10, 86400, 1)] true,
    Dict.ent 0x05 0x05 (.u 32) .rw 2 (.nat 0) [] true,
    Dict.ent 0x06 0x06 (.u 8) .ro 0 (.nat 0) [] false,
    Dict.ent 0x07 0x07 (.u 8) .wo 2 (.nat 0) [(1, 1, 1)] false,
    Dict.ent 0x08 0x08 (.u 8) .wo 2 (.nat 0) [(1, 1, 1)] false,
    Dict.ent 0x09 0x09 (.u 8) .wo 2 (.nat 0) [(1, 1, 1)] false,
    Dict.ent 0x0A 0x0A (.u 32) .rw 2 (.nat 1800) [(0, 0, 1), (300, 604800, 1)] true,
    Dict.ent 0x0B 0x0B (.u 64) .ro 0 (.nat 0) [] false]

/-- Object 2310h (17_firmware_and_identity.md, R614). -/
def Dict.t2310 : List (Nat × Nat × Desc) :=
  [
    Dict.ent 0x01 0x01 (.domain) .ro 0 (.oct 0 0) [] false,
    Dict.ent 0x02 0x02 (.domain) .ro 0 (.oct 0 0) [] false,
    Dict.ent 0x03 0x03 (.domain) .ro 0 (.oct 0 0) [] false]

/-- Object 2320h (17_firmware_and_identity.md, R614). -/
def Dict.t2320 : List (Nat × Nat × Desc) :=
  [
    Dict.ent 0x01 0x01 (.oct 48) .rw 0 (.oct 48 0) [] false,
    Dict.ent 0x02 0x02 (.domain) .ro 0 (.oct 0 0) [] false]

/-- Object 2400h (14_twin_operation.md, R509). -/
def Dict.t2400 : List (Nat × Nat × Desc) :=
  [
    Dict.ent 0x01 0x01 (.u 8) .rw 1 (.nat 0) [(0, 1, 1)] true,
    Dict.ent 0x02 0x02 (.u 8) .ro 0 (.nat 0) [] false,
    Dict.ent 0x03 0x03 (.str 255) .ro 0 (.str "") [] false,
    Dict.ent 0x04 0x04 (.u 8) .ro 0 (.nat 0) [] false,
    Dict.ent 0x05 0x05 (.u 8) .ro 0 (.nat 0) [] false,
    Dict.ent 0x06 0x06 (.u 8) .ro 0 (.nat 0) [] false,
    Dict.ent 0x07 0x07 (.u 8) .wo 2 (.nat 0) [(1, 1, 1)] false]

/-- Object 2401h (14_twin_operation.md, R509). -/
def Dict.t2401 : List (Nat × Nat × Desc) :=
  [
    Dict.ent 0x01 0x01 (.u 16) .rw 1 (.nat 10) [(1, 600, 1)] true,
    Dict.ent 0x02 0x02 (.u 8) .rw 1 (.nat 1) [(0, 1, 1)] true,
    Dict.ent 0x03 0x03 (.u 16) .rw 1 (.nat 10) [(1, 3600, 1)] true,
    Dict.ent 0x04 0x04 (.u 8) .rw 1 (.nat 3) [(1, 20, 1)] true,
    Dict.ent 0x05 0x05 (.u 8) .rw 1 (.nat 1) [(0, 1, 1)] true,
    Dict.ent 0x06 0x06 (.u 32) .rw 1 (.nat 600) [(60, 86400, 1)] true]

/-- Object 2402h (14_twin_operation.md, R509). -/
def Dict.t2402 : List (Nat × Nat × Desc) :=
  [
    Dict.ent 0x01 0x01 (.u 8) .rw 1 (.nat 0) [(0, 1, 1)] true,
    Dict.ent 0x02 0x02 (.real32) .ro 0 (.real 0) [] false,
    Dict.ent 0x03 0x03 (.u 16) .rw 2 (.nat 10) [(2, 1000, 1)] true,
    Dict.ent 0x04 0x04 (.u 32) .rw 2 (.nat 100) [] true,
    Dict.ent 0x05 0x05 (.u 32) .rw 2 (.nat 1000) [(200, 100000, 1)] true,
    Dict.ent 0x06 0x06 (.u 16) .ro 0 (.nat 0) [] false]

/-- Object 2403h (14_twin_operation.md, R509). -/
def Dict.t2403 : List (Nat × Nat × Desc) :=
  [
    Dict.ent 0x01 0x01 (.u 64) .ro 0 (.nat 0) [] false,
    Dict.ent 0x02 0x02 (.u 64) .ro 0 (.nat 0) [] false,
    Dict.ent 0x03 0x03 (.u 64) .ro 0 (.nat 0) [] false,
    Dict.ent 0x04 0x04 (.u 32) .ro 0 (.nat 0) [] false,
    Dict.ent 0x05 0x05 (.u 64) .ro 0 (.nat 0) [] false,
    Dict.ent 0x06 0x06 (.u 64) .ro 0 (.nat 0) [] false,
    Dict.ent 0x07 0x07 (.u 64) .ro 0 (.nat 0) [] false,
    Dict.ent 0x08 0x08 (.u 64) .ro 0 (.nat 0) [] false]

/-- Object 2404h (14_twin_operation.md, R509). -/
def Dict.t2404 : List (Nat × Nat × Desc) :=
  [
    Dict.ent 0x01 0x01 (.u 8) .ro 0 (.nat 0) [] false,
    Dict.ent 0x02 0x02 (.u 32) .ro 0 (.nat 0) [] false,
    Dict.ent 0x03 0x03 (.u 32) .rw 2 (.nat 10) [] true,
    Dict.ent 0x04 0x04 (.u 32) .rw 2 (.nat 100) [] true,
    Dict.ent 0x05 0x05 (.u 32) .rw 2 (.nat 600) [] true,
    Dict.ent 0x06 0x06 (.u 32) .rw 2 (.nat 16) [] true,
    Dict.ent 0x07 0x07 (.u 8) .rw 2 (.nat 4) [(1, 24, 1)] true,
    Dict.ent 0x08 0x08 (.u 8) .wo 2 (.nat 0) [(1, 1, 1)] false,
    Dict.ent 0x09 0x09 (.u 8) .wo 2 (.nat 0) [(1, 1, 1)] false,
    Dict.ent 0x0A 0x0A (.u 8) .ro 0 (.nat 0) [] false]

/-- Object 2410h Array homes (14_twin_operation.md, R509). -/
def Dict.t2410 : List (Nat × Nat × Desc) :=
  [
    Dict.ent 0x01 0x01 (.u 8) .rw 1 (.nat 0) [(0, 3, 1)] false,
    Dict.ent 0x02 0x02 (.u 8) .rw 1 (.nat 0) [(0, 1, 1)] true,
    Dict.ent 0x03 0x03 (.u 8) .ro 1 (.nat 0) [] false,
    Dict.ent 0x04 0x04 (.u 8) .ro 1 (.nat 0) [] false,
    Dict.ent 0xFE 0xFE (.u 8) .wo 1 (.nat 0) [(1, 1, 1)] false]

/-- Object 2412h Interface homes (14_twin_operation.md, R509). -/
def Dict.t2412 : List (Nat × Nat × Desc) :=
  [
    Dict.ent 0x01 0x01 (.u 16) .rw 1 (.nat 0) [(0, 511, 1)] false,
    Dict.ent 0x02 0x02 (.u 8) .rw 1 (.nat 0) [(0, 1, 1)] true,
    Dict.ent 0x03 0x03 (.u 8) .ro 1 (.nat 0) [] false,
    Dict.ent 0xFE 0xFE (.u 8) .wo 1 (.nat 0) [(1, 1, 1)] false]

/-- Object 2420h Lane group statistics (14_twin_operation.md, R509). -/
def Dict.t2420 : List (Nat × Nat × Desc) :=
  [
    Dict.ent 0x01 0x01 (.u 8) .ro 0 (.nat 0) [] false,
    Dict.ent 0x02 0x02 (.u 8) .ro 0 (.nat 0) [] false,
    Dict.ent 0x03 0x04 (.u 64) .ro 0 (.nat 0) [] false,
    Dict.ent 0x05 0x05 (.u 64) .ro 0 (.nat 0) [] false,
    Dict.ent 0x06 0x06 (.u 64) .ro 0 (.nat 0) [] false,
    Dict.ent 0x07 0x07 (.u 64) .ro 0 (.nat 0) [] false,
    Dict.ent 0x08 0x08 (.u 64) .ro 0 (.nat 0) [] false,
    Dict.ent 0x09 0x0A (.u 64) .ro 0 (.nat 0) [] false]

/-- Object 2430h (14_twin_operation.md, R509). -/
def Dict.t2430 : List (Nat × Nat × Desc) :=
  [
    Dict.ent 0x01 0x01 (.u 64) .ro 0 (.nat 0) [] false,
    Dict.ent 0x02 0x02 (.u 32) .ro 0 (.nat 0) [] false,
    Dict.ent 0x03 0x03 (.u 8) .ro 0 (.nat 0) [] false,
    Dict.ent 0x04 0x04 (.u 8) .ro 0 (.nat 0) [] false,
    Dict.ent 0x05 0x05 (.u 32) .ro 0 (.nat 0) [] false,
    Dict.ent 0x06 0x06 (.u 32) .ro 0 (.nat 0) [] false]

/-- Object 2440h Health report (14_twin_operation.md, R509). -/
def Dict.t2440 : List (Nat × Nat × Desc) :=
  [
    Dict.ent 0x01 0x01 (.u 8) .ro 0 (.nat 0) [] false,
    Dict.ent 0x02 0x02 (.u 64) .ro 0 (.nat 0) [] false,
    Dict.ent 0x03 0x03 (.u 8) .ro 0 (.nat 0) [] false,
    Dict.ent 0x04 0x04 (.u 32) .ro 0 (.nat 0) [] false,
    Dict.ent 0x05 0x05 (.u 8) .ro 0 (.nat 0) [] false,
    Dict.ent 0x06 0x06 (.u 32) .ro 0 (.nat 0) [] false,
    Dict.ent 0x07 0x08 (.u 64) .ro 0 (.nat 0) [] false,
    Dict.ent 0x09 0x0A (.u 64) .ro 0 (.nat 0) [] false,
    Dict.ent 0x0B 0x0B (.u 32) .ro 0 (.nat 0) [] false,
    Dict.ent 0x0C 0x0C (.u 16) .ro 0 (.nat 0) [] false,
    Dict.ent 0x0D 0x0D (.u 16) .ro 0 (.nat 0) [] false,
    Dict.ent 0x0E 0x0E (.real32) .ro 0 (.real 0) [] false,
    Dict.ent 0x0F 0x0F (.u 64) .ro 0 (.nat 0) [] false,
    Dict.ent 0x10 0x10 (.u 32) .ro 0 (.nat 0) [] false]

/-- Object 2450h Tenant twin setting (14_twin_operation.md, R509). -/
def Dict.t2450 : List (Nat × Nat × Desc) :=
  [
    Dict.ent 0x01 0x01 (.u 16) .rw 1 (.nat 0) [(0, 4095, 1)] false,
    Dict.ent 0x02 0x02 (.u 8) .rw 1 (.nat 0) [(0, 1, 1)] true,
    Dict.ent 0xFE 0xFE (.u 8) .wo 1 (.nat 0) [(1, 1, 1)] false]

/-- Object 3000h (04_ethernet_ports.md, R149). -/
def Dict.t3000 : List (Nat × Nat × Desc) :=
  [
    Dict.ent 0x01 0x08 (.u 8) .rw 1 (.nat 0) [(0, 5, 1)] true]

/-- Object 3001h Port settings (04_ethernet_ports.md, R149). -/
def Dict.t3001 : List (Nat × Nat × Desc) :=
  [
    Dict.ent 0x01 0x01 (.u 8) .rw 1 (.nat 0) [(0, 31, 1)] false,
    Dict.ent 0x02 0x02 (.u 8) .rw 1 (.nat 1) [(0, 1, 1)] true,
    Dict.ent 0x03 0x03 (.u 8) .rw 1 (.nat 0) [(0, 3, 1)] true,
    Dict.ent 0x04 0x04 (.u 16) .rw 1 (.nat 9216) [(1518, 9216, 1)] true,
    Dict.ent 0x05 0x05 (.u 16) .rw 1 (.nat 100) [(1, 2000, 1)] true,
    Dict.ent 0x06 0x06 (.u 16) .rw 1 (.nat 5) [(0, 1000, 1)] true,
    Dict.ent 0x07 0x07 (.u 8) .rw 1 (.nat 5) [] true,
    Dict.ent 0x08 0x08 (.u 16) .rw 1 (.nat 60) [(1, 3600, 1)] true,
    Dict.ent 0x09 0x09 (.u 8) .rw 1 (.nat 8) [] true,
    Dict.ent 0x0A 0x0A (.u 8) .rw 1 (.nat 0) [(0, 7, 1)] true,
    Dict.ent 0x0B 0x0B (.u 8) .rw 1 (.nat 1) [(0, 2, 1)] true,
    Dict.ent 0x0C 0x0C (.u 16) .rw 1 (.nat 100) [(10, 5000, 1)] true,
    Dict.ent 0x0D 0x0D (.u 16) .rw 1 (.nat 1000) [(100, 60000, 1)] true,
    Dict.ent 0x0E 0x0E (.u 8) .rw 1 (.nat 5) [] true,
    Dict.ent 0x0F 0x0F (.u 32) .rw 1 (.nat 0) [(0, 0, 1), (16384, 786432, 1)] true,
    Dict.ent 0xFE 0xFE (.u 8) .wo 1 (.nat 0) [(1, 1, 1)] false]

/-- Object 3002h (04_ethernet_ports.md, R149). -/
def Dict.t3002 : List (Nat × Nat × Desc) :=
  [
    Dict.ent 0x01 0x01 (.u 8) .rw 0 (.nat 0) [(0, 31, 1)] false,
    Dict.ent 0x02 0x02 (.u 8) .ro 0 (.nat 0) [] false,
    Dict.ent 0x03 0x03 (.str 255) .ro 0 (.str "") [] false,
    Dict.ent 0x04 0x04 (.real32) .ro 0 (.real 0) [] false,
    Dict.ent 0x05 0x05 (.u 8) .ro 0 (.nat 0) [] false,
    Dict.ent 0x06 0x06 (.u 32) .ro 0 (.nat 0) [] false,
    Dict.ent 0x07 0x07 (.u 32) .ro 0 (.nat 0) [] false,
    Dict.ent 0x08 0x08 (.u 32) .ro 0 (.nat 0) [] false,
    Dict.ent 0x09 0x09 (.oct 6) .ro 0 (.oct 6 0) [] false,
    Dict.ent 0x0A 0x0A (.u 64) .ro 0 (.nat 0) [] false,
    Dict.ent 0x0B 0x0B (.u 8) .ro 0 (.nat 0) [] false,
    Dict.ent 0x0C 0x0C (.u 8) .ro 0 (.nat 0) [] false]

/-- Object 3003h (04_ethernet_ports.md, R149). -/
def Dict.t3003 : List (Nat × Nat × Desc) :=
  [
    Dict.ent 0x01 0x01 (.u 8) .rw 0 (.nat 0) [(0, 31, 1)] false,
    Dict.ent 0x02 0x05 (.u 64) .ro 0 (.nat 0) [] false,
    Dict.ent 0x06 0x06 (.u 64) .ro 0 (.nat 0) [] false,
    Dict.ent 0x07 0x07 (.u 64) .ro 0 (.nat 0) [] false,
    Dict.ent 0x08 0x08 (.u 64) .ro 0 (.nat 0) [] false,
    Dict.ent 0x09 0x09 (.u 64) .ro 0 (.nat 0) [] false,
    Dict.ent 0x0A 0x0A (.u 64) .ro 0 (.nat 0) [] false,
    Dict.ent 0x0B 0x0B (.u 64) .ro 0 (.nat 0) [] false,
    Dict.ent 0x0C 0x0C (.u 64) .ro 0 (.nat 0) [] false,
    Dict.ent 0x0D 0x0D (.u 64) .ro 0 (.nat 0) [] false,
    Dict.ent 0x0E 0x0E (.u 64) .ro 0 (.nat 0) [] false]

/-- Object 3004h (04_ethernet_ports.md, R149). -/
def Dict.t3004 : List (Nat × Nat × Desc) :=
  [
    Dict.ent 0x01 0x01 (.u 8) .rw 0 (.nat 0) [(0, 31, 1)] false,
    Dict.ent 0x02 0x09 (.u 64) .ro 0 (.nat 0) [] false,
    Dict.ent 0x0A 0x0A (.u 64) .ro 0 (.nat 0) [] false,
    Dict.ent 0x0B 0x0B (.u 64) .ro 0 (.nat 0) [] false,
    Dict.ent 0x0C 0x0C (.u 64) .ro 0 (.nat 0) [] false,
    Dict.ent 0x0D 0x0D (.u 64) .ro 0 (.nat 0) [] false,
    Dict.ent 0x0E 0x0E (.u 64) .ro 0 (.nat 0) [] false,
    Dict.ent 0x0F 0x0F (.u 64) .ro 0 (.nat 0) [] false]

/-- Object 3005h (04_ethernet_ports.md, R149). -/
def Dict.t3005 : List (Nat × Nat × Desc) :=
  [
    Dict.ent 0x01 0x08 (.u 8) .rw 2 (.nat 0) [] true]

/-- Object 3006h (04_ethernet_ports.md, R149). -/
def Dict.t3006 : List (Nat × Nat × Desc) :=
  [
    Dict.ent 0x01 0x08 (.u 8) .ro 0 (.nat 0) [] false]

/-- Object 3010h (04_ethernet_ports.md, R149). -/
def Dict.t3010 : List (Nat × Nat × Desc) :=
  [
    Dict.ent 0x01 0x08 (.u 16) .rw 1 (.nat 40) [(1, 1024, 1)] true]

/-- Object 3011h (04_ethernet_ports.md, R149). -/
def Dict.t3011 : List (Nat × Nat × Desc) :=
  [
    Dict.ent 0x01 0x08 (.u 16) .rw 1 (.nat 160) [(2, 1536, 1)] true]

/-- Object 3012h (04_ethernet_ports.md, R149). -/
def Dict.t3012 : List (Nat × Nat × Desc) :=
  [
    Dict.ent 0x01 0x08 (.u 8) .rw 1 (.nat 20) [(1, 100, 1)] true]

/-- Object 3013h (04_ethernet_ports.md, R149). -/
def Dict.t3013 : List (Nat × Nat × Desc) :=
  [
    Dict.ent 0x00 0x00 (.u 8) .rw 1 (.nat 1) [(0, 1, 1)] true]

/-- Object 3020h (04_ethernet_ports.md, R149). -/
def Dict.t3020 : List (Nat × Nat × Desc) :=
  [
    Dict.ent 0x01 0x01 (.u 8) .rw 1 (.nat 1) [(0, 1, 1)] true,
    Dict.ent 0x02 0x02 (.u 8) .rw 1 (.nat 0) [(0, 31, 1)] true,
    Dict.ent 0x03 0x03 (.u 8) .rw 1 (.nat 255) [(0, 31, 1), (255, 255, 1)] true,
    Dict.ent 0x04 0x04 (.u 8) .rw 1 (.nat 1) [(1, 2, 1)] true,
    Dict.ent 0x05 0x05 (.u 8) .rw 1 (.nat 1) [(0, 2, 1)] true,
    Dict.ent 0x06 0x06 (.u 8) .rw 1 (.nat 0) [(0, 127, 1)] true,
    Dict.ent 0x07 0x07 (.u 8) .ro 0 (.nat 0) [] false,
    Dict.ent 0x08 0x08 (.i32) .ro 0 (.int 0) [] false,
    Dict.ent 0x09 0x09 (.real32) .ro 0 (.real 0) [] false,
    Dict.ent 0x0A 0x0A (.oct 8) .ro 0 (.oct 8 0) [] false,
    Dict.ent 0x0B 0x0B (.u 64) .ro 0 (.nat 0) [] false,
    Dict.ent 0x0C 0x0C (.u 32) .rw 1 (.nat 3600) [(60, 86400, 1)] true]

/-- Object 3021h (04_ethernet_ports.md, R149). -/
def Dict.t3021 : List (Nat × Nat × Desc) :=
  [
    Dict.ent 0x01 0x01 (.u 16) .rw 1 (.nat 1000) [(125, 10000, 1)] true,
    Dict.ent 0x02 0x02 (.u 16) .rw 1 (.nat 150) [(0, 10000, 1)] true,
    Dict.ent 0x03 0x03 (.u 16) .rw 1 (.nat 1000) [(100, 10000, 1)] true,
    Dict.ent 0x04 0x04 (.u 8) .rw 1 (.nat 10) [(0, 100, 1)] true,
    Dict.ent 0x05 0x05 (.u 16) .const 0 (.nat 250) [] false,
    Dict.ent 0x06 0x06 (.u 16) .const 0 (.nat 450) [] false,
    Dict.ent 0x07 0x07 (.u 16) .const 0 (.nat 300) [] false]

/-- Object 3030h (04_ethernet_ports.md, R149). -/
def Dict.t3030 : List (Nat × Nat × Desc) :=
  [
    Dict.ent 0x01 0x01 (.u 8) .rw 1 (.nat 1) [(0, 1, 1)] true,
    Dict.ent 0x02 0x02 (.u 16) .rw 1 (.nat 30) [(5, 3600, 1)] true,
    Dict.ent 0x03 0x03 (.str 63) .rw 1 (.str "") [] true]

/-- Object 3040h Interfaces (04_ethernet_ports.md, R149). -/
def Dict.t3040 : List (Nat × Nat × Desc) :=
  [
    Dict.ent 0x01 0x01 (.u 16) .rw 1 (.nat 0) [(0, 511, 1)] false,
    Dict.ent 0x02 0x02 (.u 8) .rw 1 (.nat 0) [(0, 1, 1)] true,
    Dict.ent 0x03 0x03 (.u 8) .rw 1 (.nat 0) [(0, 31, 1)] true,
    Dict.ent 0x04 0x04 (.u 16) .rw 1 (.nat 0) [(0, 4094, 1)] true,
    Dict.ent 0x05 0x05 (.oct 16) .rw 1 (.oct 16 0) [] true,
    Dict.ent 0x06 0x06 (.u 8) .rw 1 (.nat 0) [(0, 128, 1)] true,
    Dict.ent 0x07 0x07 (.oct 16) .rw 1 (.oct 16 0) [] true,
    Dict.ent 0x08 0x08 (.u 16) .rw 1 (.nat 65535) [(0, 4095, 1), (65535, 65535, 1)] true,
    Dict.ent 0xFE 0xFE (.u 8) .wo 1 (.nat 0) [(1, 1, 1)] false]

/-- Object 3100h (05_rdma_queue_pairs.md, R190). -/
def Dict.t3100 : List (Nat × Nat × Desc) :=
  [
    Dict.ent 0x01 0x01 (.u 16) .rw 1 (.nat 4096) [(1024, 1024, 1), (2048, 2048, 1), (4096, 4096, 1)] true,
    Dict.ent 0x02 0x02 (.u 8) .rw 2 (.nat 8) [(1, 64, 1)] true,
    Dict.ent 0x03 0x03 (.u 16) .rw 2 (.nat 2) [(1, 100, 1)] true,
    Dict.ent 0x04 0x04 (.u 8) .rw 1 (.nat 12) [(8, 20, 1)] true,
    Dict.ent 0x05 0x05 (.u 8) .rw 1 (.nat 7) [(1, 7, 1)] true,
    Dict.ent 0x06 0x06 (.u 8) .rw 1 (.nat 1) [(0, 31, 1)] true,
    Dict.ent 0x07 0x07 (.u 16) .rw 1 (.nat 1000) [(100, 10000, 1)] true,
    Dict.ent 0x08 0x08 (.u 16) .const 0 (.nat 2048) [] false,
    Dict.ent 0x09 0x09 (.u 8) .const 0 (.nat 16) [] false,
    Dict.ent 0x0A 0x0A (.u 16) .rw 2 (.nat 20) [(1, 1000, 1)] true,
    Dict.ent 0x0B 0x0B (.u 32) .ro 0 (.nat 0) [] false,
    Dict.ent 0x0C 0x0C (.u 32) .ro 0 (.nat 0) [] false,
    Dict.ent 0x0D 0x0D (.u 16) .rw 1 (.nat 10) [(1, 600, 1)] true]

/-- Object 3101h Queue-pair contexts (05_rdma_queue_pairs.md, R190). -/
def Dict.t3101 : List (Nat × Nat × Desc) :=
  [
    Dict.ent 0x01 0x01 (.u 32) .rw 1 (.nat 0) [(0, 131071, 1)] false,
    Dict.ent 0x02 0x02 (.u 8) .ro 1 (.nat 0) [] false,
    Dict.ent 0x03 0x03 (.u 32) .ro 1 (.nat 0) [] false,
    Dict.ent 0x04 0x04 (.u 8) .ro 1 (.nat 0) [] false,
    Dict.ent 0x05 0x05 (.u 8) .rw 1 (.nat 0) [(0, 1, 1)] false,
    Dict.ent 0x06 0x06 (.u 16) .ro 1 (.nat 0) [] false,
    Dict.ent 0x07 0x07 (.u 8) .ro 1 (.nat 0) [] false,
    Dict.ent 0x08 0x08 (.u 16) .ro 1 (.nat 0) [] false,
    Dict.ent 0x09 0x09 (.u 8) .ro 1 (.nat 0) [] false,
    Dict.ent 0x0A 0x0A (.oct 16) .ro 1 (.oct 16 0) [] false,
    Dict.ent 0x0B 0x0B (.u 32) .ro 1 (.nat 0) [] false,
    Dict.ent 0x0C 0x0C (.u 16) .ro 1 (.nat 0) [] false,
    Dict.ent 0x0D 0x0D (.u 16) .ro 1 (.nat 0) [] false,
    Dict.ent 0x0E 0x0E (.u 16) .ro 1 (.nat 0) [] false,
    Dict.ent 0x0F 0x0F (.u 8) .ro 1 (.nat 0) [] false,
    Dict.ent 0x10 0x10 (.u 8) .ro 1 (.nat 0) [] false,
    Dict.ent 0x11 0x11 (.u 32) .ro 1 (.nat 0) [] false,
    Dict.ent 0x12 0x12 (.u 32) .ro 1 (.nat 0) [] false,
    Dict.ent 0x13 0x13 (.u 32) .ro 1 (.nat 0) [] false,
    Dict.ent 0x14 0x14 (.u 32) .ro 1 (.nat 0) [] false] ++
  [
    Dict.ent 0x15 0x15 (.u 8) .ro 1 (.nat 0) [] false,
    Dict.ent 0x16 0x16 (.u 8) .ro 1 (.nat 0) [] false,
    Dict.ent 0x17 0x17 (.u 32) .ro 1 (.nat 0) [] false,
    Dict.ent 0x18 0x18 (.u 32) .ro 1 (.nat 0) [] false,
    Dict.ent 0x19 0x19 (.real32) .ro 1 (.real 0) [] false,
    Dict.ent 0x1A 0x1A (.real32) .ro 1 (.real 0) [] false,
    Dict.ent 0x1B 0x1B (.real32) .ro 1 (.real 0) [] false,
    Dict.ent 0x1C 0x1C (.u 8) .ro 1 (.nat 0) [] false,
    Dict.ent 0x1D 0x1D (.u 8) .ro 1 (.nat 0) [] false,
    Dict.ent 0x1E 0x1E (.u 16) .ro 1 (.nat 0) [] false,
    Dict.ent 0x1F 0x1F (.u 8) .ro 1 (.nat 0) [] false,
    Dict.ent 0x20 0x21 (.u 64) .ro 1 (.nat 0) [] false,
    Dict.ent 0x22 0x22 (.u 64) .ro 1 (.nat 0) [] false,
    Dict.ent 0x23 0x24 (.u 64) .ro 1 (.nat 0) [] false,
    Dict.ent 0x25 0x25 (.u 64) .ro 1 (.nat 0) [] false,
    Dict.ent 0x26 0x26 (.u 64) .ro 1 (.nat 0) [] false,
    Dict.ent 0x27 0x27 (.u 8) .wo 1 (.nat 0) [(0, 1, 1)] false,
    Dict.ent 0x28 0x28 (.u 32) .rw 1 (.nat 0) [(0, 0, 1), (4096, 16777216, 64)] false,
    Dict.ent 0xFE 0xFE (.u 8) .wo 1 (.nat 0) [(1, 1, 1)] false]

/-- Object 3110h (05_rdma_queue_pairs.md, R190). -/
def Dict.t3110 : List (Nat × Nat × Desc) :=
  [
    Dict.ent 0x01 0x01 (.u 32) .rw 2 (.nat 65536) [(4096, 4194304, 1)] true,
    Dict.ent 0x02 0x02 (.u 32) .rw 2 (.nat 4096) [(1024, 65536, 1)] true,
    Dict.ent 0x03 0x03 (.u 32) .rw 2 (.nat 4194304) [(131072, 16777216, 1)] true,
    Dict.ent 0x04 0x04 (.u 32) .rw 2 (.nat 4096) [(64, 65536, 1)] true,
    Dict.ent 0x05 0x05 (.u 16) .rw 2 (.nat 100) [(10, 1000, 1)] true,
    Dict.ent 0x06 0x06 (.u 8) .rw 2 (.nat 80) [(1, 100, 1)] true,
    Dict.ent 0x07 0x07 (.u 8) .rw 2 (.nat 50) [(1, 90, 1)] true,
    Dict.ent 0x08 0x08 (.u 8) .rw 2 (.nat 16) [(1, 128, 1)] true,
    Dict.ent 0x09 0x09 (.u 16) .rw 2 (.nat 55) [(5, 1000, 1)] true,
    Dict.ent 0x0A 0x0A (.u 16) .rw 2 (.nat 256) [(0, 256, 1)] true,
    Dict.ent 0x0B 0x0B (.u 16) .rw 2 (.nat 10) [(1, 600, 1)] true,
    Dict.ent 0x0C 0x0C (.u 16) .rw 2 (.nat 2) [(1, 100, 1)] true,
    Dict.ent 0x0D 0x0D (.u 32) .const 0 (.nat 131072) [] false]

/-- Object 3111h (05_rdma_queue_pairs.md, R190). -/
def Dict.t3111 : List (Nat × Nat × Desc) :=
  [
    Dict.ent 0x01 0x01 (.u 8) .rw 1 (.nat 1) [(0, 1, 1)] true,
    Dict.ent 0x02 0x02 (.u 16) .rw 1 (.nat 50) [(1, 1000, 1)] true,
    Dict.ent 0x03 0x03 (.u 64) .ro 0 (.nat 0) [] false,
    Dict.ent 0x04 0x04 (.u 64) .ro 0 (.nat 0) [] false]

/-- Object 3120h Slice statistics (05_rdma_queue_pairs.md, R190). -/
def Dict.t3120 : List (Nat × Nat × Desc) :=
  [
    Dict.ent 0x01 0x01 (.u 8) .ro 0 (.nat 0) [] false,
    Dict.ent 0x02 0x02 (.u 16) .ro 0 (.nat 0) [] false,
    Dict.ent 0x03 0x03 (.u 16) .ro 0 (.nat 0) [] false,
    Dict.ent 0x04 0x04 (.u 64) .ro 0 (.nat 0) [] false,
    Dict.ent 0x05 0x05 (.u 64) .ro 0 (.nat 0) [] false,
    Dict.ent 0x06 0x06 (.u 64) .ro 0 (.nat 0) [] false,
    Dict.ent 0x07 0x07 (.u 64) .ro 0 (.nat 0) [] false,
    Dict.ent 0x08 0x08 (.u 32) .ro 0 (.nat 0) [] false,
    Dict.ent 0x09 0x09 (.u 64) .ro 0 (.nat 0) [] false,
    Dict.ent 0x0A 0x0A (.u 64) .ro 0 (.nat 0) [] false]

/-- Object 3122h (05_rdma_queue_pairs.md, R190). -/
def Dict.t3122 : List (Nat × Nat × Desc) :=
  [
    Dict.ent 0x02 0x15 (.u 64) .ro 0 (.nat 0) [] false]

/-- Object 3130h QP error log (05_rdma_queue_pairs.md, R190). -/
def Dict.t3130 : List (Nat × Nat × Desc) :=
  [
    Dict.ent 0x01 0x01 (.u 8) .ro 0 (.nat 0) [] false,
    Dict.ent 0x02 0x02 (.u 64) .ro 0 (.nat 0) [] false,
    Dict.ent 0x03 0x03 (.u 32) .ro 0 (.nat 0) [] false,
    Dict.ent 0x04 0x04 (.u 16) .ro 0 (.nat 0) [] false,
    Dict.ent 0x05 0x05 (.oct 16) .ro 0 (.oct 16 0) [] false,
    Dict.ent 0x06 0x06 (.u 8) .ro 0 (.nat 0) [] false,
    Dict.ent 0x07 0x07 (.u 8) .ro 0 (.nat 0) [] false,
    Dict.ent 0x08 0x08 (.u 32) .ro 0 (.nat 0) [] false,
    Dict.ent 0x09 0x09 (.u 16) .ro 0 (.nat 0) [] false,
    Dict.ent 0x0A 0x0A (.oct 16) .ro 0 (.oct 16 0) [] false,
    Dict.ent 0x0B 0x0B (.u 32) .ro 0 (.nat 0) [] false]

/-- Object 3180h (05_rdma_queue_pairs.md, R190). -/
def Dict.t3180 : List (Nat × Nat × Desc) :=
  [
    Dict.ent 0x01 0x01 (.u 16) .rw 1 (.nat 60) [(1, 3600, 1)] true,
    Dict.ent 0x02 0x02 (.u 32) .rw 1 (.nat 100) [] true,
    Dict.ent 0x03 0x03 (.u 32) .rw 1 (.nat 60) [(1, 86400, 1)] true,
    Dict.ent 0x04 0x04 (.u 32) .rw 1 (.nat 1000) [] true,
    Dict.ent 0x05 0x05 (.u 16) .ro 0 (.nat 0) [] false]

/-- Object 3200h (06_nvme_target.md, R232). -/
def Dict.t3200 : List (Nat × Nat × Desc) :=
  [
    Dict.ent 0x01 0x01 (.u 16) .ro 0 (.nat 0) [] false,
    Dict.ent 0x02 0x02 (.u 16) .const 0 (.nat 8192) [] false,
    Dict.ent 0x03 0x03 (.u 8) .const 0 (.nat 128) [] false,
    Dict.ent 0x04 0x04 (.u 32) .const 0 (.nat 16384) [] false,
    Dict.ent 0x05 0x05 (.u 32) .const 0 (.nat 1048576) [] false,
    Dict.ent 0x06 0x06 (.u 32) .ro 0 (.nat 0) [] false,
    Dict.ent 0x07 0x07 (.u 64) .ro 0 (.nat 0) [] false]

/-- Object 3210h Subsystems (06_nvme_target.md, R232). -/
def Dict.t3210 : List (Nat × Nat × Desc) :=
  [
    Dict.ent 0x01 0x01 (.u 16) .rw 1 (.nat 0) [(0, 1023, 1)] false,
    Dict.ent 0x02 0x02 (.u 8) .rw 1 (.nat 0) [(0, 1, 1)] true,
    Dict.ent 0x03 0x03 (.str 223) .rw 1 (.str "") [] true,
    Dict.ent 0x04 0x04 (.str 20) .rw 1 (.str "") [] true,
    Dict.ent 0xFE 0xFE (.u 8) .wo 1 (.nat 0) [(1, 1, 1)] false]

/-- Object 3220h Host NQNs (06_nvme_target.md, R232). -/
def Dict.t3220 : List (Nat × Nat × Desc) :=
  [
    Dict.ent 0x01 0x01 (.u 16) .rw 1 (.nat 0) [(0, 2047, 1)] false,
    Dict.ent 0x02 0x02 (.u 8) .rw 1 (.nat 0) [(0, 1, 1)] true,
    Dict.ent 0x03 0x03 (.str 223) .rw 1 (.str "") [] true,
    Dict.ent 0x04 0x04 (.u 16) .rw 1 (.nat 0) [(0, 4095, 1)] true,
    Dict.ent 0x05 0x05 (.oct 16) .ro 1 (.oct 16 0) [] false,
    Dict.ent 0xFE 0xFE (.u 8) .wo 1 (.nat 0) [(1, 1, 1)] false]

/-- Object 3224h Grants (06_nvme_target.md, R232). -/
def Dict.t3224 : List (Nat × Nat × Desc) :=
  [
    Dict.ent 0x01 0x01 (.u 16) .rw 1 (.nat 0) [(0, 16383, 1)] false,
    Dict.ent 0x02 0x02 (.u 8) .rw 1 (.nat 0) [(0, 1, 1)] true,
    Dict.ent 0x03 0x03 (.u 16) .rw 1 (.nat 0) [(0, 2047, 1)] true,
    Dict.ent 0x04 0x04 (.u 16) .rw 1 (.nat 0) [(0, 1023, 1)] true,
    Dict.ent 0xFE 0xFE (.u 8) .wo 1 (.nat 0) [(1, 1, 1)] false]

/-- Object 3230h Namespaces (06_nvme_target.md, R232). -/
def Dict.t3230 : List (Nat × Nat × Desc) :=
  [
    Dict.ent 0x01 0x01 (.u 16) .rw 1 (.nat 0) [(0, 8191, 1)] false,
    Dict.ent 0x02 0x02 (.u 8) .rw 1 (.nat 0) [(0, 1, 1)] true,
    Dict.ent 0x03 0x03 (.u 16) .rw 1 (.nat 0) [(0, 1023, 1)] true,
    Dict.ent 0x04 0x04 (.u 32) .rw 1 (.nat 0) [(1, 8192, 1)] true,
    Dict.ent 0x05 0x05 (.u 16) .rw 1 (.nat 0) [(0, 4095, 1)] true,
    Dict.ent 0x06 0x06 (.u 8) .rw 1 (.nat 0) [(0, 3, 1)] true,
    Dict.ent 0x07 0x07 (.u 16) .rw 1 (.nat 4096) [(512, 512, 1), (4096, 4096, 1)] true,
    Dict.ent 0x08 0x08 (.u 64) .rw 1 (.nat 0) [] true,
    Dict.ent 0x09 0x09 (.u 8) .ro 1 (.nat 0) [] false,
    Dict.ent 0x0A 0x0A (.oct 16) .ro 1 (.oct 16 0) [] false,
    Dict.ent 0x0B 0x0B (.u 32) .ro 1 (.nat 0) [] false,
    Dict.ent 0x0C 0x0C (.u 8) .wo 1 (.nat 0) [(0, 1, 1)] false,
    Dict.ent 0x0D 0x0D (.u 64) .ro 1 (.nat 0) [] false,
    Dict.ent 0xFE 0xFE (.u 8) .wo 1 (.nat 0) [(1, 1, 1)] false]

/-- Object 3238h (06_nvme_target.md, R232). -/
def Dict.t3238 : List (Nat × Nat × Desc) :=
  [
    Dict.ent 0x01 0x04 (.u 8) .ro 0 (.nat 0) [] false]

/-- Object 3240h Listeners (06_nvme_target.md, R232). -/
def Dict.t3240 : List (Nat × Nat × Desc) :=
  [
    Dict.ent 0x01 0x01 (.u 16) .rw 1 (.nat 0) [(0, 1023, 1)] false,
    Dict.ent 0x02 0x02 (.u 8) .rw 1 (.nat 0) [(0, 1, 1)] true,
    Dict.ent 0x03 0x03 (.u 16) .rw 1 (.nat 0) [(0, 511, 1)] true,
    Dict.ent 0x04 0x04 (.u 16) .rw 1 (.nat 4420) [(1, 65535, 1)] true,
    Dict.ent 0x05 0x05 (.u 8) .rw 1 (.nat 1) [(1, 2, 1)] true,
    Dict.ent 0x06 0x06 (.u 8) .rw 1 (.nat 4) [(0, 7, 1)] true,
    Dict.ent 0xFE 0xFE (.u 8) .wo 1 (.nat 0) [(1, 1, 1)] false]

/-- Object 3250h Tenant keys (06_nvme_target.md, R232). -/
def Dict.t3250 : List (Nat × Nat × Desc) :=
  [
    Dict.ent 0x01 0x01 (.u 16) .rw 1 (.nat 0) [(0, 4095, 1)] false,
    Dict.ent 0x02 0x02 (.u 8) .rw 1 (.nat 0) [(0, 1, 1)] true,
    Dict.ent 0x03 0x03 (.u 8) .ro 1 (.nat 0) [] false,
    Dict.ent 0x04 0x04 (.domain) .wo 1 (.oct 0 0) [] false,
    Dict.ent 0x05 0x05 (.oct 4) .ro 1 (.oct 4 0) [] false,
    Dict.ent 0x06 0x06 (.u 8) .wo 1 (.nat 0) [(0, 1, 1)] false,
    Dict.ent 0xFE 0xFE (.u 8) .wo 1 (.nat 0) [(1, 1, 1)] false]

/-- Object 3260h Controllers (06_nvme_target.md, R232). -/
def Dict.t3260 : List (Nat × Nat × Desc) :=
  [
    Dict.ent 0x01 0x01 (.u 16) .ro 0 (.nat 0) [] false,
    Dict.ent 0x02 0x02 (.u 8) .ro 0 (.nat 0) [] false,
    Dict.ent 0x03 0x03 (.u 16) .ro 0 (.nat 0) [] false,
    Dict.ent 0x04 0x04 (.u 16) .ro 0 (.nat 0) [] false,
    Dict.ent 0x05 0x05 (.u 8) .ro 0 (.nat 0) [] false,
    Dict.ent 0x06 0x06 (.u 32) .ro 0 (.nat 0) [] false,
    Dict.ent 0x07 0x07 (.u 64) .ro 0 (.nat 0) [] false,
    Dict.ent 0x08 0x08 (.u 64) .ro 0 (.nat 0) [] false]

/-- Object 3270h (06_nvme_target.md, R232). -/
def Dict.t3270 : List (Nat × Nat × Desc) :=
  [
    Dict.ent 0x02 0x19 (.u 64) .ro 0 (.nat 0) [] false]

/-- Object 3280h (06_nvme_target.md, R232). -/
def Dict.t3280 : List (Nat × Nat × Desc) :=
  [
    Dict.ent 0x01 0x01 (.u 16) .rw 1 (.nat 60) [(1, 3600, 1)] true,
    Dict.ent 0x02 0x02 (.u 32) .rw 1 (.nat 50) [] true,
    Dict.ent 0x03 0x03 (.u 32) .rw 1 (.nat 60) [(1, 86400, 1)] true,
    Dict.ent 0x04 0x04 (.u 32) .rw 1 (.nat 500) [] true,
    Dict.ent 0x05 0x05 (.u 16) .ro 0 (.nat 0) [] false]

/-- Object 4000h (07_tenant_scheduling.md, R275). -/
def Dict.t4000 : List (Nat × Nat × Desc) :=
  [
    Dict.ent 0x01 0x01 (.u 8) .rw 1 (.nat 6) [(0, 7, 1)] true,
    Dict.ent 0x02 0x02 (.u 8) .rw 1 (.nat 5) [(0, 7, 1)] true,
    Dict.ent 0x03 0x03 (.u 8) .rw 1 (.nat 4) [(0, 7, 1)] true,
    Dict.ent 0x04 0x04 (.u 8) .rw 1 (.nat 3) [(0, 7, 1)] true,
    Dict.ent 0x05 0x05 (.u 8) .rw 1 (.nat 3) [(0, 7, 1)] true,
    Dict.ent 0x06 0x06 (.u 8) .rw 1 (.nat 2) [(0, 7, 1)] true,
    Dict.ent 0x07 0x07 (.u 8) .rw 1 (.nat 1) [(0, 7, 1)] true,
    Dict.ent 0x08 0x08 (.u 8) .rw 1 (.nat 0) [(0, 7, 1)] true]

/-- Object 4001h (07_tenant_scheduling.md, R275). -/
def Dict.t4001 : List (Nat × Nat × Desc) :=
  [
    Dict.ent 0x01 0x01 (.u 8) .rw 1 (.nat 46) [(0, 63, 1)] true,
    Dict.ent 0x02 0x02 (.u 8) .rw 1 (.nat 34) [(0, 63, 1)] true,
    Dict.ent 0x03 0x03 (.u 8) .rw 1 (.nat 28) [(0, 63, 1)] true,
    Dict.ent 0x04 0x04 (.u 8) .rw 1 (.nat 26) [(0, 63, 1)] true,
    Dict.ent 0x05 0x05 (.u 8) .rw 1 (.nat 24) [(0, 63, 1)] true,
    Dict.ent 0x06 0x06 (.u 8) .rw 1 (.nat 18) [(0, 63, 1)] true,
    Dict.ent 0x07 0x07 (.u 8) .rw 1 (.nat 10) [(0, 63, 1)] true,
    Dict.ent 0x08 0x08 (.u 8) .rw 1 (.nat 8) [(0, 63, 1)] true]

/-- Object 4002h (07_tenant_scheduling.md, R275). -/
def Dict.t4002 : List (Nat × Nat × Desc) :=
  [
    Dict.ent 0x03 0x08 (.u 32) .rw 1 (.nat 500) [(50, 100000, 1)] true]

/-- Object 4003h (07_tenant_scheduling.md, R275). -/
def Dict.t4003 : List (Nat × Nat × Desc) :=
  [
    Dict.ent 0x03 0x08 (.u 16) .rw 1 (.nat 20) [(1, 1000, 1)] true]

/-- Object 4004h (07_tenant_scheduling.md, R275). -/
def Dict.t4004 : List (Nat × Nat × Desc) :=
  [
    Dict.ent 0x01 0x01 (.u 32) .rw 1 (.nat 65536) [(4096, 16777216, 1)] true,
    Dict.ent 0x02 0x02 (.u 32) .rw 1 (.nat 262144) [(16384, 67108864, 1)] true]

/-- Object 4005h (07_tenant_scheduling.md, R275). -/
def Dict.t4005 : List (Nat × Nat × Desc) :=
  [
    Dict.ent 0x01 0x01 (.u 32) .rw 2 (.nat 8192) [(0, 1048576, 1)] true]

/-- Object 4006h (07_tenant_scheduling.md, R275). -/
def Dict.t4006 : List (Nat × Nat × Desc) :=
  [
    Dict.ent 0x01 0x01 (.u 16) .const 0 (.nat 64) [] false]

/-- Object 4007h (07_tenant_scheduling.md, R275). -/
def Dict.t4007 : List (Nat × Nat × Desc) :=
  [
    Dict.ent 0x01 0x01 (.u 8) .rw 1 (.nat 7) [(0, 7, 1)] true,
    Dict.ent 0x02 0x02 (.u 8) .rw 1 (.nat 48) [(0, 63, 1)] true]

/-- Object 4010h Tenant scheduling (07_tenant_scheduling.md, R275). -/
def Dict.t4010 : List (Nat × Nat × Desc) :=
  [
    Dict.ent 0x01 0x01 (.u 16) .rw 1 (.nat 0) [(0, 4095, 1)] false,
    Dict.ent 0x02 0x02 (.u 16) .rw 1 (.nat 100) [(1, 65535, 1)] true,
    Dict.ent 0x03 0x03 (.u 16) .rw 1 (.nat 100) [(1, 65535, 1)] true,
    Dict.ent 0x04 0x04 (.u 32) .rw 1 (.nat 0) [(0, 0, 1), (10, 400000, 1)] true,
    Dict.ent 0x05 0x05 (.u 32) .rw 1 (.nat 65536) [(1024, 16777216, 1)] true,
    Dict.ent 0x06 0x06 (.u 8) .rw 1 (.nat 20) [(0, 64, 1)] true,
    Dict.ent 0x07 0x07 (.u 32) .rw 1 (.nat 0) [(0, 0, 1), (100, 40000000, 1)] true,
    Dict.ent 0x08 0x08 (.u 32) .rw 1 (.nat 256) [(1, 1048576, 1)] true,
    Dict.ent 0x09 0x09 (.u 32) .rw 1 (.nat 0) [(0, 0, 1), (1, 400000, 1)] true,
    Dict.ent 0x0A 0x0A (.u 32) .rw 1 (.nat 16777216) [(65536, 1073741824, 1)] true,
    Dict.ent 0x0B 0x0B (.u 32) .rw 1 (.nat 10000) [(100, 100000, 1)] true,
    Dict.ent 0x0C 0x0C (.u 32) .rw 1 (.nat 262144) [(4224, 1048576, 1)] true,
    Dict.ent 0xFE 0xFE (.u 8) .wo 1 (.nat 0) [(1, 1, 1)] false]

/-- Object 4011h Tenant scheduling status (07_tenant_scheduling.md, R275). -/
def Dict.t4011 : List (Nat × Nat × Desc) :=
  [
    Dict.ent 0x01 0x01 (.u 16) .ro 0 (.nat 0) [] false,
    Dict.ent 0x02 0x02 (.u 32) .ro 0 (.nat 0) [] false,
    Dict.ent 0x03 0x03 (.u 64) .ro 0 (.nat 0) [] false,
    Dict.ent 0x04 0x04 (.u 64) .ro 0 (.nat 0) [] false,
    Dict.ent 0x05 0x05 (.u 64) .ro 0 (.nat 0) [] false,
    Dict.ent 0x06 0x06 (.u 64) .ro 0 (.nat 0) [] false,
    Dict.ent 0x07 0x07 (.u 64) .ro 0 (.nat 0) [] false]

/-- Object 4020h Gate settings (07_tenant_scheduling.md, R275). -/
def Dict.t4020 : List (Nat × Nat × Desc) :=
  [
    Dict.ent 0x01 0x01 (.u 8) .rw 1 (.nat 0) [(0, 31, 1)] false,
    Dict.ent 0x02 0x02 (.u 8) .rw 1 (.nat 0) [(0, 1, 1)] true,
    Dict.ent 0x03 0x03 (.u 64) .rw 1 (.nat 0) [] true,
    Dict.ent 0x04 0x04 (.u 8) .rw 1 (.nat 1) [(1, 64, 1)] true,
    Dict.ent 0x05 0x05 (.u 64) .rw 1 (.nat 0) [] true,
    Dict.ent 0x06 0x06 (.u 32) .ro 1 (.nat 0) [] false,
    Dict.ent 0x07 0x07 (.u 8) .ro 1 (.nat 0) [] false,
    Dict.ent 0x08 0x08 (.u 8) .ro 1 (.nat 0) [] false,
    Dict.ent 0x09 0x09 (.u 64) .ro 1 (.nat 0) [] false,
    Dict.ent 0xFE 0xFE (.u 8) .wo 1 (.nat 0) [(1, 1, 1)] false]

/-- Object 4021h Gate list (07_tenant_scheduling.md, R275). -/
def Dict.t4021 : List (Nat × Nat × Desc) :=
  [
    Dict.ent 0x01 0x01 (.u 16) .rw 1 (.nat 0) [(0, 2047, 1)] false,
    Dict.ent 0x02 0x02 (.u 32) .rw 1 (.nat 1000000) [(500, 1000000000, 1)] true,
    Dict.ent 0x03 0x03 (.u 8) .rw 1 (.nat 255) [] true,
    Dict.ent 0x04 0x04 (.u 32) .ro 1 (.nat 0) [] false,
    Dict.ent 0x05 0x05 (.u 8) .ro 1 (.nat 0) [] false,
    Dict.ent 0xFE 0xFE (.u 8) .wo 1 (.nat 0) [(1, 1, 1)] false]

/-- Object 4030h (07_tenant_scheduling.md, R275). -/
def Dict.t4030 : List (Nat × Nat × Desc) :=
  [
    Dict.ent 0x01 0x01 (.u 8) .rw 1 (.nat 1) [(0, 100, 1)] true,
    Dict.ent 0x02 0x02 (.u 8) .rw 1 (.nat 10) [(0, 100, 1)] true,
    Dict.ent 0x03 0x03 (.u 8) .rw 1 (.nat 5) [(0, 100, 1)] true,
    Dict.ent 0x04 0x04 (.u 8) .rw 1 (.nat 40) [(0, 100, 1)] true,
    Dict.ent 0x05 0x05 (.u 8) .rw 1 (.nat 20) [(0, 100, 1)] true,
    Dict.ent 0x06 0x06 (.u 8) .rw 1 (.nat 70) [(0, 100, 1)] true,
    Dict.ent 0x07 0x07 (.u 8) .rw 1 (.nat 0) [(0, 100, 1)] true,
    Dict.ent 0x08 0x08 (.u 8) .ro 0 (.nat 0) [] false,
    Dict.ent 0x09 0x09 (.real32) .ro 0 (.real 0) [] false,
    Dict.ent 0x0A 0x0A (.u 8) .ro 0 (.nat 0) [] false,
    Dict.ent 0x0B 0x0B (.u 8) .ro 0 (.nat 0) [] false]

/-- Object 4050h (07_tenant_scheduling.md, R275). -/
def Dict.t4050 : List (Nat × Nat × Desc) :=
  [
    Dict.ent 0x01 0x01 (.u 16) .const 0 (.nat 6000) [] false,
    Dict.ent 0x02 0x02 (.u 64) .ro 0 (.nat 0) [] false,
    Dict.ent 0x03 0x03 (.u 64) .ro 0 (.nat 0) [] false,
    Dict.ent 0x04 0x04 (.u 64) .ro 0 (.nat 0) [] false,
    Dict.ent 0x05 0x05 (.u 64) .ro 0 (.nat 0) [] false,
    Dict.ent 0x06 0x06 (.u 64) .ro 0 (.nat 0) [] false,
    Dict.ent 0x07 0x07 (.u 64) .ro 0 (.nat 0) [] false,
    Dict.ent 0x08 0x08 (.u 64) .ro 0 (.nat 0) [] false,
    Dict.ent 0x09 0x09 (.u 64) .ro 0 (.nat 0) [] false,
    Dict.ent 0x0A 0x0A (.u 32) .ro 0 (.nat 0) [] false,
    Dict.ent 0x0B 0x0B (.u 32) .ro 0 (.nat 0) [] false]

/-- Object 4051h Class 0 per port (07_tenant_scheduling.md, R275). -/
def Dict.t4051 : List (Nat × Nat × Desc) :=
  [
    Dict.ent 0x01 0x01 (.u 8) .rw 0 (.nat 0) [(0, 31, 1)] false,
    Dict.ent 0x02 0x02 (.u 32) .ro 0 (.nat 0) [] false,
    Dict.ent 0x03 0x03 (.u 8) .ro 0 (.nat 0) [] false,
    Dict.ent 0x04 0x04 (.u 64) .ro 0 (.nat 0) [] false,
    Dict.ent 0x05 0x05 (.u 64) .ro 0 (.nat 0) [] false]

/-- Object 4100h (08_metering_and_counters.md, R298). -/
def Dict.t4100 : List (Nat × Nat × Desc) :=
  [
    Dict.ent 0x01 0x01 (.u 64) .ro 0 (.nat 0) [] false,
    Dict.ent 0x02 0x02 (.u 64) .ro 0 (.nat 0) [] false,
    Dict.ent 0x03 0x03 (.u 64) .ro 0 (.nat 0) [] false,
    Dict.ent 0x04 0x04 (.u 64) .ro 0 (.nat 0) [] false,
    Dict.ent 0x05 0x05 (.u 64) .rw 1 (.nat 0) [] true,
    Dict.ent 0x06 0x06 (.u 8) .rw 1 (.nat 90) [(10, 100, 1)] true,
    Dict.ent 0x07 0x07 (.u 64) .ro 0 (.nat 0) [] false,
    Dict.ent 0x08 0x08 (.u 64) .ro 0 (.nat 0) [] false,
    Dict.ent 0x09 0x09 (.u 16) .const 0 (.nat 5) [] false]

/-- Object 4110h Page readout (08_metering_and_counters.md, R298). -/
def Dict.t4110 : List (Nat × Nat × Desc) :=
  [
    Dict.ent 0x01 0x01 (.u 64) .rw 0 (.nat 0) [(0, 18446744073709551615, 1)] false,
    Dict.ent 0x02 0x02 (.domain) .ro 0 (.oct 0 0) [] false,
    Dict.ent 0x03 0x03 (.u 32) .ro 0 (.nat 0) [] false,
    Dict.ent 0x04 0x04 (.u 8) .ro 0 (.nat 0) [] false,
    Dict.ent 0x05 0x05 (.u 64) .ro 0 (.nat 0) [] false,
    Dict.ent 0x06 0x06 (.u 16) .ro 0 (.nat 0) [] false]

/-- Object 4120h (08_metering_and_counters.md, R298). -/
def Dict.t4120 : List (Nat × Nat × Desc) :=
  [
    Dict.ent 0x01 0x01 (.u 16) .rw 0 (.nat 0) [(0, 4095, 1)] false,
    Dict.ent 0x02 0x11 (.u 64) .ro 0 (.nat 0) [] false,
    Dict.ent 0x12 0x12 (.u 64) .ro 0 (.nat 0) [] false]

/-- Object 5000h Array configuration (09_double_parity_arrays.md, R333). -/
def Dict.t5000 : List (Nat × Nat × Desc) :=
  [
    Dict.ent 0x01 0x01 (.u 8) .rw 1 (.nat 0) [(0, 3, 1)] false,
    Dict.ent 0x02 0x02 (.u 8) .rw 1 (.nat 0) [(0, 1, 1)] true,
    Dict.ent 0x03 0x03 (.u 8) .rw 1 (.nat 4) [(4, 24, 1)] true,
    Dict.ent 0x04 0x04 (.u 8) .rw 1 (.nat 2) [(2, 255, 1)] true,
    Dict.ent 0x05 0x05 (.u 8) .rw 1 (.nat 0) [(0, 2, 1)] true,
    Dict.ent 0x06 0x06 (.u 16) .rw 1 (.nat 64) [(16, 16, 1), (32, 32, 1), (64, 64, 1), (128, 128, 1), (256, 256, 1)] true,
    Dict.ent 0x07 0x07 (.oct 24) .rw 1 (.oct 24 6277101735386680763835789423207666416102355444464034512895) [] true,
    Dict.ent 0x08 0x08 (.u 16) .rw 1 (.nat 65535) [] true,
    Dict.ent 0x09 0x09 (.str 31) .rw 1 (.str "") [] true,
    Dict.ent 0xFE 0xFE (.u 8) .wo 1 (.nat 0) [(1, 1, 1)] false]

/-- Object 5001h Array status (09_double_parity_arrays.md, R333). -/
def Dict.t5001 : List (Nat × Nat × Desc) :=
  [
    Dict.ent 0x01 0x01 (.u 8) .ro 0 (.nat 0) [] false,
    Dict.ent 0x02 0x02 (.u 8) .ro 0 (.nat 0) [] false,
    Dict.ent 0x03 0x03 (.u 64) .ro 0 (.nat 0) [] false,
    Dict.ent 0x04 0x04 (.u 64) .ro 0 (.nat 0) [] false,
    Dict.ent 0x05 0x05 (.u 64) .ro 0 (.nat 0) [] false,
    Dict.ent 0x06 0x06 (.u 64) .ro 0 (.nat 0) [] false,
    Dict.ent 0x07 0x07 (.oct 16) .ro 0 (.oct 16 0) [] false,
    Dict.ent 0x08 0x08 (.oct 2) .ro 0 (.oct 2 65535) [] false,
    Dict.ent 0x09 0x09 (.oct 3) .ro 0 (.oct 3 0) [] false]

/-- Object 5002h Journal status (09_double_parity_arrays.md, R333). -/
def Dict.t5002 : List (Nat × Nat × Desc) :=
  [
    Dict.ent 0x01 0x01 (.u 8) .ro 0 (.nat 0) [] false,
    Dict.ent 0x02 0x02 (.u 16) .ro 0 (.nat 0) [] false,
    Dict.ent 0x03 0x03 (.u 64) .ro 0 (.nat 0) [] false,
    Dict.ent 0x04 0x04 (.u 64) .ro 0 (.nat 0) [] false,
    Dict.ent 0x05 0x05 (.u 32) .ro 0 (.nat 0) [] false,
    Dict.ent 0x06 0x06 (.u 32) .ro 0 (.nat 262144) [] false,
    Dict.ent 0x07 0x07 (.u 64) .ro 0 (.nat 0) [] false]

/-- Object 5010h (09_double_parity_arrays.md, R333). -/
def Dict.t5010 : List (Nat × Nat × Desc) :=
  [
    Dict.ent 0x01 0x01 (.u 64) .ro 0 (.nat 0) [] false,
    Dict.ent 0x02 0x02 (.u 32) .rw 1 (.nat 1000) [(100, 100000, 1)] true,
    Dict.ent 0x03 0x03 (.u 8) .rw 1 (.nat 50) [(10, 90, 1)] true,
    Dict.ent 0x04 0x04 (.u 8) .rw 1 (.nat 90) [(0, 100, 1)] true,
    Dict.ent 0x05 0x05 (.u 32) .ro 0 (.nat 0) [] false,
    Dict.ent 0x06 0x06 (.u 32) .ro 0 (.nat 0) [] false,
    Dict.ent 0x07 0x07 (.u 32) .ro 0 (.nat 0) [] false,
    Dict.ent 0x08 0x08 (.u 32) .const 0 (.nat 1048576) [] false,
    Dict.ent 0x09 0x09 (.u 64) .ro 0 (.nat 0) [] false,
    Dict.ent 0x0A 0x0A (.u 8) .rw 2 (.nat 0) [(0, 2, 1)] true]

/-- Object 5011h Flush statistics (09_double_parity_arrays.md, R333). -/
def Dict.t5011 : List (Nat × Nat × Desc) :=
  [
    Dict.ent 0x01 0x01 (.u 8) .ro 0 (.nat 0) [] false,
    Dict.ent 0x02 0x04 (.u 64) .ro 0 (.nat 0) [] false,
    Dict.ent 0x05 0x05 (.u 64) .ro 0 (.nat 0) [] false,
    Dict.ent 0x06 0x06 (.u 64) .ro 0 (.nat 0) [] false,
    Dict.ent 0x07 0x07 (.u 64) .ro 0 (.nat 0) [] false]

/-- Object 5020h Scrub (09_double_parity_arrays.md, R333). -/
def Dict.t5020 : List (Nat × Nat × Desc) :=
  [
    Dict.ent 0x01 0x01 (.u 8) .rw 1 (.nat 0) [(0, 3, 1)] false,
    Dict.ent 0x02 0x02 (.u 8) .rw 1 (.nat 1) [(0, 1, 1)] true,
    Dict.ent 0x03 0x03 (.u 64) .ro 1 (.nat 0) [] false,
    Dict.ent 0x04 0x04 (.u 64) .ro 1 (.nat 0) [] false,
    Dict.ent 0x05 0x05 (.u 64) .ro 1 (.nat 0) [] false,
    Dict.ent 0x06 0x0B (.u 64) .ro 1 (.nat 0) [] false,
    Dict.ent 0xFE 0xFE (.u 8) .wo 1 (.nat 0) [(1, 1, 1)] false]

/-- Object 5030h Accumulators (09_double_parity_arrays.md, R333). -/
def Dict.t5030 : List (Nat × Nat × Desc) :=
  [
    Dict.ent 0x01 0x01 (.u 8) .ro 0 (.nat 0) [] false,
    Dict.ent 0x02 0x02 (.u 16) .ro 0 (.nat 0) [] false,
    Dict.ent 0x03 0x03 (.u 32) .ro 0 (.nat 8192) [] false,
    Dict.ent 0x04 0x04 (.u 64) .ro 0 (.nat 0) [] false,
    Dict.ent 0x05 0x05 (.u 8) .ro 0 (.nat 0) [] false]

/-- Object 5040h Namespace extents (09_double_parity_arrays.md, R333). -/
def Dict.t5040 : List (Nat × Nat × Desc) :=
  [
    Dict.ent 0x01 0x01 (.u 16) .ro 0 (.nat 0) [] false,
    Dict.ent 0x02 0x02 (.u 8) .ro 0 (.nat 0) [] false,
    Dict.ent 0x03 0x03 (.oct 1024) .ro 0 (.oct 1024 0) [] false]

/-- Object 5100h Member status (10_member_failure_and_rebuild.md, R370). -/
def Dict.t5100 : List (Nat × Nat × Desc) :=
  [
    Dict.ent 0x01 0x01 (.u 8) .rw 1 (.nat 0) [(0, 95, 1)] false,
    Dict.ent 0x02 0x02 (.u 8) .ro 1 (.nat 0) [] false,
    Dict.ent 0x03 0x03 (.u 8) .ro 1 (.nat 0) [] false,
    Dict.ent 0x04 0x04 (.str 255) .ro 1 (.str "") [] false,
    Dict.ent 0x05 0x05 (.u 8) .ro 1 (.nat 0) [] false,
    Dict.ent 0x06 0x06 (.u 64) .ro 1 (.nat 0) [] false,
    Dict.ent 0x07 0x07 (.real32) .ro 1 (.real 0) [] false,
    Dict.ent 0x08 0x08 (.u 64) .ro 1 (.nat 0) [] false,
    Dict.ent 0x09 0x09 (.u 64) .ro 1 (.nat 0) [] false,
    Dict.ent 0x0A 0x0A (.u 64) .ro 1 (.nat 0) [] false,
    Dict.ent 0x0B 0x0B (.u 64) .ro 1 (.nat 0) [] false,
    Dict.ent 0x0C 0x0C (.u 32) .ro 1 (.nat 0) [] false,
    Dict.ent 0x0D 0x0D (.u 8) .wo 1 (.nat 0) [(0, 1, 1)] false,
    Dict.ent 0x0E 0x0E (.u 64) .ro 1 (.nat 0) [] false,
    Dict.ent 0xFE 0xFE (.u 8) .wo 1 (.nat 0) [(1, 1, 1)] false]

/-- Object 5101h (10_member_failure_and_rebuild.md, R370). -/
def Dict.t5101 : List (Nat × Nat × Desc) :=
  [
    Dict.ent 0x01 0x01 (.u 8) .rw 1 (.nat 20) [(10, 100, 1)] true,
    Dict.ent 0x02 0x02 (.u 8) .rw 1 (.nat 30) [(10, 100, 1)] true,
    Dict.ent 0x03 0x03 (.u 8) .rw 1 (.nat 30) [(10, 100, 1)] true,
    Dict.ent 0x04 0x04 (.u 8) .rw 1 (.nat 30) [(10, 100, 1)] true,
    Dict.ent 0x05 0x05 (.u 8) .rw 1 (.nat 40) [(10, 100, 1)] true,
    Dict.ent 0x06 0x06 (.u 8) .rw 1 (.nat 40) [(10, 100, 1)] true,
    Dict.ent 0x07 0x07 (.u 8) .rw 1 (.nat 40) [(10, 100, 1)] true,
    Dict.ent 0x08 0x08 (.u 8) .rw 1 (.nat 40) [(10, 100, 1)] true]

/-- Object 5102h (10_member_failure_and_rebuild.md, R370). -/
def Dict.t5102 : List (Nat × Nat × Desc) :=
  [
    Dict.ent 0x01 0x01 (.u 32) .rw 1 (.nat 150) [(50, 100000, 1)] true,
    Dict.ent 0x02 0x02 (.u 32) .rw 1 (.nat 300) [(50, 100000, 1)] true,
    Dict.ent 0x03 0x03 (.u 32) .rw 1 (.nat 300) [(50, 100000, 1)] true,
    Dict.ent 0x04 0x04 (.u 32) .rw 1 (.nat 300) [(50, 100000, 1)] true,
    Dict.ent 0x05 0x05 (.u 32) .rw 1 (.nat 500) [(50, 100000, 1)] true,
    Dict.ent 0x06 0x06 (.u 32) .rw 1 (.nat 500) [(50, 100000, 1)] true,
    Dict.ent 0x07 0x07 (.u 32) .rw 1 (.nat 500) [(50, 100000, 1)] true,
    Dict.ent 0x08 0x08 (.u 32) .rw 1 (.nat 500) [(50, 100000, 1)] true]

/-- Object 5103h (10_member_failure_and_rebuild.md, R370). -/
def Dict.t5103 : List (Nat × Nat × Desc) :=
  [
    Dict.ent 0x01 0x01 (.u 32) .rw 1 (.nat 1000) [(0, 1000000, 1)] true,
    Dict.ent 0x02 0x02 (.u 32) .rw 1 (.nat 5000) [(0, 1000000, 1)] true,
    Dict.ent 0x03 0x03 (.u 32) .rw 1 (.nat 5000) [(0, 1000000, 1)] true,
    Dict.ent 0x04 0x04 (.u 32) .rw 1 (.nat 5000) [(0, 1000000, 1)] true,
    Dict.ent 0x05 0x05 (.u 32) .rw 1 (.nat 20000) [(0, 1000000, 1)] true,
    Dict.ent 0x06 0x06 (.u 32) .rw 1 (.nat 20000) [(0, 1000000, 1)] true,
    Dict.ent 0x07 0x07 (.u 32) .rw 1 (.nat 20000) [(0, 1000000, 1)] true,
    Dict.ent 0x08 0x08 (.u 32) .rw 1 (.nat 20000) [(0, 1000000, 1)] true]

/-- Object 5104h (10_member_failure_and_rebuild.md, R370). -/
def Dict.t5104 : List (Nat × Nat × Desc) :=
  [
    Dict.ent 0x01 0x08 (.u 32) .rw 2 (.nat 0) [(0, 0, 1), (50, 1000000, 1)] true]

/-- Object 5106h Read-around status (10_member_failure_and_rebuild.md, R370). -/
def Dict.t5106 : List (Nat × Nat × Desc) :=
  [
    Dict.ent 0x01 0x01 (.u 8) .ro 0 (.nat 0) [] false,
    Dict.ent 0x02 0x02 (.real32) .ro 0 (.real 0) [] false,
    Dict.ent 0x03 0x0A (.real32) .ro 0 (.real 0) [] false,
    Dict.ent 0x0B 0x0B (.u 16) .ro 0 (.nat 0) [] false,
    Dict.ent 0x0C 0x0C (.u 64) .ro 0 (.nat 0) [] false]

/-- Object 5107h (10_member_failure_and_rebuild.md, R370). -/
def Dict.t5107 : List (Nat × Nat × Desc) :=
  [
    Dict.ent 0x01 0x01 (.u 32) .rw 1 (.nat 2000) [(100, 30000, 1)] true,
    Dict.ent 0x02 0x02 (.u 16) .rw 2 (.nat 250) [(0, 10000, 1)] true,
    Dict.ent 0x03 0x03 (.u 16) .rw 1 (.nat 10) [(1, 600, 1)] true,
    Dict.ent 0x04 0x04 (.u 8) .rw 1 (.nat 4) [(1, 20, 1)] true,
    Dict.ent 0x05 0x05 (.u 32) .rw 1 (.nat 500) [(1, 1000000, 1)] true,
    Dict.ent 0x06 0x06 (.u 16) .rw 1 (.nat 50) [(1, 1000, 1)] true,
    Dict.ent 0x07 0x07 (.u 32) .rw 1 (.nat 256) [(1, 65535, 1)] true,
    Dict.ent 0x08 0x08 (.u 16) .rw 2 (.nat 1000) [(100, 60000, 1)] true,
    Dict.ent 0x09 0x09 (.u 16) .const 0 (.nat 4096) [] false,
    Dict.ent 0x0A 0x0A (.u 8) .rw 1 (.nat 1) [(0, 1, 1)] true,
    Dict.ent 0x0B 0x0B (.u 8) .rw 1 (.nat 1) [(0, 1, 1)] true,
    Dict.ent 0x0C 0x0C (.u 16) .const 0 (.nat 1024) [] false]

/-- Object 5110h Rebuild status (10_member_failure_and_rebuild.md, R370). -/
def Dict.t5110 : List (Nat × Nat × Desc) :=
  [
    Dict.ent 0x01 0x01 (.u 8) .ro 0 (.nat 0) [] false,
    Dict.ent 0x02 0x02 (.u 8) .ro 0 (.nat 0) [] false,
    Dict.ent 0x03 0x03 (.u 8) .ro 0 (.nat 255) [] false,
    Dict.ent 0x04 0x04 (.u 64) .ro 0 (.nat 0) [] false,
    Dict.ent 0x05 0x05 (.u 64) .ro 0 (.nat 0) [] false,
    Dict.ent 0x06 0x06 (.u 64) .ro 0 (.nat 0) [] false,
    Dict.ent 0x07 0x07 (.u 64) .ro 0 (.nat 0) [] false,
    Dict.ent 0x08 0x08 (.u 64) .ro 0 (.nat 0) [] false,
    Dict.ent 0x09 0x09 (.u 64) .ro 0 (.nat 0) [] false,
    Dict.ent 0x0A 0x0A (.u 8) .ro 0 (.nat 0) [] false]

/-- Object 5111h Replacement (10_member_failure_and_rebuild.md, R370). -/
def Dict.t5111 : List (Nat × Nat × Desc) :=
  [
    Dict.ent 0x01 0x01 (.u 8) .rw 1 (.nat 0) [(0, 95, 1)] false,
    Dict.ent 0x02 0x02 (.u 8) .rw 1 (.nat 255) [(0, 23, 1), (255, 255, 1)] true,
    Dict.ent 0x03 0x03 (.u 8) .wo 1 (.nat 0) [(0, 1, 1)] false,
    Dict.ent 0x04 0x04 (.u 8) .ro 1 (.nat 0) [] false,
    Dict.ent 0xFE 0xFE (.u 8) .wo 1 (.nat 0) [(1, 1, 1)] false]

/-- Object 5120h Lost-block list (10_member_failure_and_rebuild.md, R370). -/
def Dict.t5120 : List (Nat × Nat × Desc) :=
  [
    Dict.ent 0x01 0x01 (.u 32) .ro 0 (.nat 0) [] false,
    Dict.ent 0x02 0x02 (.u 16) .ro 0 (.nat 0) [] false,
    Dict.ent 0x03 0x03 (.u 64) .ro 0 (.nat 0) [] false,
    Dict.ent 0x04 0x04 (.u 32) .ro 0 (.nat 0) [] false,
    Dict.ent 0x05 0x05 (.u 64) .ro 0 (.nat 0) [] false,
    Dict.ent 0x06 0x06 (.u 8) .ro 0 (.nat 0) [] false]

/-- Object 5121h (10_member_failure_and_rebuild.md, R370). -/
def Dict.t5121 : List (Nat × Nat × Desc) :=
  [
    Dict.ent 0x01 0x04 (.u 32) .ro 0 (.nat 0) [] false,
    Dict.ent 0x05 0x05 (.u 32) .const 0 (.nat 65536) [] false]

/-- Object 5130h Recovery report (10_member_failure_and_rebuild.md, R370). -/
def Dict.t5130 : List (Nat × Nat × Desc) :=
  [
    Dict.ent 0x01 0x01 (.u 8) .rw 1 (.nat 0) [(0, 3, 1)] false,
    Dict.ent 0x02 0x02 (.u 64) .ro 1 (.nat 0) [] false,
    Dict.ent 0x03 0x03 (.u 8) .ro 1 (.nat 0) [] false,
    Dict.ent 0x04 0x04 (.u 8) .ro 1 (.nat 0) [] false,
    Dict.ent 0x05 0x05 (.u 8) .ro 1 (.nat 0) [] false,
    Dict.ent 0x06 0x06 (.u 32) .ro 1 (.nat 0) [] false,
    Dict.ent 0x07 0x07 (.u 32) .ro 1 (.nat 0) [] false,
    Dict.ent 0x08 0x08 (.u 32) .ro 1 (.nat 0) [] false,
    Dict.ent 0x09 0x09 (.u 64) .ro 1 (.nat 0) [] false,
    Dict.ent 0x0A 0x0A (.u 8) .wo 1 (.nat 0) [(0, 1, 1)] false,
    Dict.ent 0xFE 0xFE (.u 8) .wo 1 (.nat 0) [(1, 1, 1)] false]

/-- Object 5200h Slot status (11_drive_slots.md, R403). -/
def Dict.t5200 : List (Nat × Nat × Desc) :=
  [
    Dict.ent 0x01 0x01 (.u 8) .ro 0 (.nat 0) [] false,
    Dict.ent 0x02 0x02 (.u 8) .ro 0 (.nat 0) [] false,
    Dict.ent 0x03 0x03 (.u 8) .ro 0 (.nat 0) [] false,
    Dict.ent 0x04 0x04 (.u 8) .ro 0 (.nat 0) [] false,
    Dict.ent 0x05 0x05 (.u 8) .ro 0 (.nat 0) [] false,
    Dict.ent 0x06 0x06 (.str 255) .ro 0 (.str "") [] false,
    Dict.ent 0x07 0x07 (.str 255) .ro 0 (.str "") [] false,
    Dict.ent 0x08 0x08 (.str 255) .ro 0 (.str "") [] false,
    Dict.ent 0x09 0x09 (.u 64) .ro 0 (.nat 0) [] false,
    Dict.ent 0x0A 0x0A (.u 16) .ro 0 (.nat 0) [] false,
    Dict.ent 0x0B 0x0B (.u 8) .ro 0 (.nat 0) [] false,
    Dict.ent 0x0C 0x0C (.u 16) .ro 0 (.nat 0) [] false,
    Dict.ent 0x0D 0x0D (.u 16) .ro 0 (.nat 0) [] false,
    Dict.ent 0x0E 0x0E (.i32) .ro 0 (.int 0) [] false,
    Dict.ent 0x0F 0x0F (.u 8) .ro 0 (.nat 0) [] false,
    Dict.ent 0x10 0x10 (.u 8) .ro 0 (.nat 0) [] false,
    Dict.ent 0x11 0x11 (.u 8) .ro 0 (.nat 0) [] false,
    Dict.ent 0x12 0x12 (.u 8) .ro 0 (.nat 0) [] false,
    Dict.ent 0x13 0x13 (.u 32) .ro 0 (.nat 0) [] false]

/-- Object 5201h Slot settings (11_drive_slots.md, R403). -/
def Dict.t5201 : List (Nat × Nat × Desc) :=
  [
    Dict.ent 0x01 0x01 (.u 8) .rw 1 (.nat 0) [(0, 23, 1)] false,
    Dict.ent 0x02 0x02 (.u 8) .rw 1 (.nat 1) [(0, 1, 1)] true,
    Dict.ent 0x03 0x03 (.u 8) .rw 1 (.nat 0) [(0, 1, 1)] true,
    Dict.ent 0x05 0x05 (.u 16) .rw 1 (.nat 250) [(50, 2000, 1)] true,
    Dict.ent 0x06 0x06 (.u 8) .rw 1 (.nat 1) [(1, 1, 1), (4, 4, 1)] true,
    Dict.ent 0x07 0x07 (.u 8) .wo 1 (.nat 0) [(0, 1, 1)] false,
    Dict.ent 0xFE 0xFE (.u 8) .wo 1 (.nat 0) [(1, 1, 1)] false]

/-- Object 5202h Slot counters (11_drive_slots.md, R403). -/
def Dict.t5202 : List (Nat × Nat × Desc) :=
  [
    Dict.ent 0x01 0x01 (.u 8) .ro 0 (.nat 0) [] false,
    Dict.ent 0x02 0x05 (.u 64) .ro 0 (.nat 0) [] false,
    Dict.ent 0x06 0x06 (.u 64) .ro 0 (.nat 0) [] false,
    Dict.ent 0x07 0x07 (.u 64) .ro 0 (.nat 0) [] false,
    Dict.ent 0x08 0x08 (.u 64) .ro 0 (.nat 0) [] false,
    Dict.ent 0x09 0x0D (.u 64) .ro 0 (.nat 0) [] false,
    Dict.ent 0x0E 0x0E (.u 64) .ro 0 (.nat 0) [] false,
    Dict.ent 0x0F 0x0F (.u 64) .ro 0 (.nat 0) [] false,
    Dict.ent 0x10 0x17 (.u 64) .ro 0 (.nat 0) [] false,
    Dict.ent 0x18 0x18 (.u 32) .ro 0 (.nat 0) [] false]

/-- Object 5203h (11_drive_slots.md, R403). -/
def Dict.t5203 : List (Nat × Nat × Desc) :=
  [
    Dict.ent 0x01 0x01 (.u 16) .rw 2 (.nat 1024) [(128, 4096, 1)] true,
    Dict.ent 0x02 0x02 (.u 16) .rw 2 (.nat 10) [(1, 50, 1)] true,
    Dict.ent 0x03 0x03 (.u 16) .rw 2 (.nat 5000) [(500, 60000, 1)] true,
    Dict.ent 0x04 0x04 (.u 16) .const 0 (.nat 256) [] false,
    Dict.ent 0x05 0x05 (.u 16) .const 0 (.nat 64) [] false,
    Dict.ent 0x06 0x06 (.u 16) .rw 1 (.nat 60) [(10, 3600, 1)] true]

/-- Object 5210h (11_drive_slots.md, R403). -/
def Dict.t5210 : List (Nat × Nat × Desc) :=
  [
    Dict.ent 0x01 0x01 (.u 16) .rw 1 (.nat 60) [(1, 3600, 1)] true,
    Dict.ent 0x02 0x02 (.u 32) .rw 1 (.nat 20) [] true,
    Dict.ent 0x03 0x03 (.u 32) .rw 1 (.nat 200) [] true]

/-- Object 5220h (18_pins_electrical_mechanical.md, R637). -/
def Dict.t5220 : List (Nat × Nat × Desc) :=
  [
    Dict.ent 0x01 0x01 (.u 8) .rw 1 (.nat 5) [(1, 10, 1)] true,
    Dict.ent 0x02 0x02 (.u 8) .rw 1 (.nat 100) [(5, 100, 1)] true,
    Dict.ent 0x03 0x03 (.u 8) .wo 1 (.nat 0) [(1, 1, 1)] false,
    Dict.ent 0x04 0x04 (.u 64) .ro 0 (.nat 0) [] false,
    Dict.ent 0x05 0x05 (.u 8) .rw 1 (.nat 0) [(0, 1, 1)] true,
    Dict.ent 0x06 0x06 (.u 64) .rw 2 (.nat 281474976710655) [] true]

/-- Object 5221h (18_pins_electrical_mechanical.md, R637). -/
def Dict.t5221 : List (Nat × Nat × Desc) :=
  [
    Dict.ent 0x01 0x30 (.u 8) .rw 1 (.nat 0) [(0, 4, 1)] true]

/-- Object 5222h (18_pins_electrical_mechanical.md, R637). -/
def Dict.t5222 : List (Nat × Nat × Desc) :=
  [
    Dict.ent 0x01 0x30 (.u 64) .ro 0 (.nat 0) [] false]

/-- Object 5223h (18_pins_electrical_mechanical.md, R637). -/
def Dict.t5223 : List (Nat × Nat × Desc) :=
  [
    Dict.ent 0x01 0x01 (.u 8) .ro 0 (.nat 0) [] false,
    Dict.ent 0x02 0x02 (.u 8) .ro 0 (.nat 0) [] false,
    Dict.ent 0x03 0x03 (.u 8) .ro 0 (.nat 0) [] false,
    Dict.ent 0x04 0x04 (.u 64) .ro 0 (.nat 0) [] false,
    Dict.ent 0x05 0x05 (.u 8) .wo 1 (.nat 0) [(1, 1, 1)] false]

/-- Object 5300h Port settings (12_near_ports.md, R437). -/
def Dict.t5300 : List (Nat × Nat × Desc) :=
  [
    Dict.ent 0x01 0x01 (.u 8) .rw 1 (.nat 0) [(0, 1, 1)] false,
    Dict.ent 0x02 0x02 (.u 8) .rw 1 (.nat 1) [(0, 1, 1)] true,
    Dict.ent 0x03 0x03 (.u 8) .rw 1 (.nat 64) [(16, 16, 1), (32, 32, 1), (64, 64, 1)] true,
    Dict.ent 0x04 0x04 (.u 8) .rw 1 (.nat 0) [(0, 1, 1)] true,
    Dict.ent 0x05 0x05 (.u 16) .rw 1 (.nat 7996) [] true,
    Dict.ent 0x06 0x06 (.u 16) .rw 1 (.nat 0) [] true,
    Dict.ent 0x07 0x07 (.u 8) .rw 1 (.nat 0) [(0, 0, 1), (20, 34, 1)] true,
    Dict.ent 0xFE 0xFE (.u 8) .wo 1 (.nat 0) [(1, 1, 1)] false]

/-- Object 5301h VF bindings (12_near_ports.md, R437). -/
def Dict.t5301 : List (Nat × Nat × Desc) :=
  [
    Dict.ent 0x01 0x01 (.u 8) .rw 1 (.nat 0) [(0, 127, 1)] false,
    Dict.ent 0x02 0x02 (.u 8) .rw 1 (.nat 0) [(0, 1, 1)] true,
    Dict.ent 0x03 0x03 (.u 16) .rw 1 (.nat 0) [(0, 4095, 1)] true,
    Dict.ent 0x04 0x04 (.u 8) .rw 1 (.nat 4) [(0, 7, 1)] true,
    Dict.ent 0x05 0x05 (.u 16) .rw 1 (.nat 0) [(0, 1023, 1)] true,
    Dict.ent 0xFE 0xFE (.u 8) .wo 1 (.nat 0) [(1, 1, 1)] false]

/-- Object 5302h VF status (12_near_ports.md, R437). -/
def Dict.t5302 : List (Nat × Nat × Desc) :=
  [
    Dict.ent 0x01 0x01 (.u 8) .ro 0 (.nat 0) [] false,
    Dict.ent 0x02 0x02 (.u 8) .ro 0 (.nat 0) [] false,
    Dict.ent 0x03 0x03 (.u 16) .ro 0 (.nat 0) [] false,
    Dict.ent 0x04 0x04 (.u 8) .ro 0 (.nat 0) [] false,
    Dict.ent 0x05 0x05 (.oct 16) .ro 0 (.oct 16 0) [] false,
    Dict.ent 0x06 0x07 (.u 64) .ro 0 (.nat 0) [] false,
    Dict.ent 0x08 0x08 (.u 32) .ro 0 (.nat 0) [] false]

/-- Object 5303h Port status and counters (12_near_ports.md, R437). -/
def Dict.t5303 : List (Nat × Nat × Desc) :=
  [
    Dict.ent 0x01 0x01 (.u 8) .ro 0 (.nat 0) [] false,
    Dict.ent 0x02 0x02 (.u 8) .ro 0 (.nat 0) [] false,
    Dict.ent 0x03 0x04 (.u 8) .ro 0 (.nat 0) [] false,
    Dict.ent 0x05 0x05 (.u 16) .ro 0 (.nat 0) [] false,
    Dict.ent 0x06 0x06 (.u 16) .ro 0 (.nat 0) [] false,
    Dict.ent 0x07 0x07 (.u 16) .ro 0 (.nat 0) [] false,
    Dict.ent 0x08 0x08 (.u 64) .ro 0 (.nat 0) [] false,
    Dict.ent 0x09 0x09 (.u 64) .ro 0 (.nat 0) [] false,
    Dict.ent 0x0A 0x0A (.u 64) .ro 0 (.nat 0) [] false,
    Dict.ent 0x0B 0x0B (.u 64) .ro 0 (.nat 0) [] false,
    Dict.ent 0x0C 0x0C (.u 64) .ro 0 (.nat 0) [] false,
    Dict.ent 0x0D 0x0D (.u 64) .ro 0 (.nat 0) [] false,
    Dict.ent 0x0E 0x0E (.u 64) .ro 0 (.nat 0) [] false,
    Dict.ent 0x0F 0x15 (.u 64) .ro 0 (.nat 0) [] false]

/-- Object 5304h (12_near_ports.md, R437). -/
def Dict.t5304 : List (Nat × Nat × Desc) :=
  [
    Dict.ent 0x01 0x01 (.u 16) .rw 1 (.nat 60) [(1, 3600, 1)] true,
    Dict.ent 0x02 0x02 (.u 32) .rw 1 (.nat 20) [] true,
    Dict.ent 0x03 0x03 (.u 32) .rw 1 (.nat 200) [] true]

/-- Object 5305h (12_near_ports.md, R437). -/
def Dict.t5305 : List (Nat × Nat × Desc) :=
  [
    Dict.ent 0x01 0x01 (.u 8) .rw 2 (.nat 0) [(0, 4, 1)] true,
    Dict.ent 0x02 0x02 (.u 64) .ro 0 (.nat 0) [] false]

/-- Object 5306h Inbound entries (12_near_ports.md, R437). -/
def Dict.t5306 : List (Nat × Nat × Desc) :=
  [
    Dict.ent 0x01 0x01 (.u 8) .rw 0 (.nat 0) [(0, 31, 1)] false,
    Dict.ent 0x02 0x02 (.u 64) .rw 1 (.nat 0) [(0, 68719476735, 1)] true,
    Dict.ent 0x03 0x03 (.u 32) .rw 1 (.nat 0) [(0, 4194303, 1)] true,
    Dict.ent 0x04 0x04 (.u 8) .rw 1 (.nat 0) [(0, 63, 1)] true,
    Dict.ent 0x05 0x05 (.u 8) .rw 1 (.nat 0) [(0, 1, 1)] true,
    Dict.ent 0x06 0x06 (.u 8) .rw 1 (.nat 0) [(0, 1, 1)] true,
    Dict.ent 0x07 0x07 (.u 8) .rw 1 (.nat 0) [(0, 1, 1)] true,
    Dict.ent 0xFE 0xFE (.u 8) .wo 1 (.nat 0) [(1, 1, 1)] false]

/-- Object 5307h Outbound entries (12_near_ports.md, R437). -/
def Dict.t5307 : List (Nat × Nat × Desc) :=
  [
    Dict.ent 0x01 0x01 (.u 16) .rw 0 (.nat 0) [(0, 8191, 1)] false,
    Dict.ent 0x02 0x02 (.u 32) .rw 1 (.nat 0) [(0, 1073741823, 1)] true,
    Dict.ent 0x03 0x03 (.u 8) .rw 1 (.nat 0) [(0, 64, 1)] true,
    Dict.ent 0x04 0x04 (.u 8) .rw 1 (.nat 0) [(0, 1, 1)] true,
    Dict.ent 0x05 0x05 (.u 8) .rw 1 (.nat 0) [(0, 1, 1)] true,
    Dict.ent 0x06 0x06 (.u 8) .rw 1 (.nat 0) [(0, 1, 1)] true,
    Dict.ent 0x07 0x07 (.u 8) .rw 1 (.nat 0) [(0, 1, 1)] true,
    Dict.ent 0x08 0x08 (.u 8) .rw 1 (.nat 1) [(0, 1, 1)] true,
    Dict.ent 0x09 0x09 (.u 8) .rw 1 (.nat 0) [(0, 1, 1)] true,
    Dict.ent 0x0A 0x0A (.u 8) .rw 1 (.nat 0) [(0, 7, 1)] true,
    Dict.ent 0x0B 0x0B (.u 32) .ro 1 (.nat 0) [] false,
    Dict.ent 0xFE 0xFE (.u 8) .wo 1 (.nat 0) [(1, 1, 1)] false]

/-- Object 5340h Copy jobs (13_dma_engine.md, R461). -/
def Dict.t5340 : List (Nat × Nat × Desc) :=
  [
    Dict.ent 0x01 0x01 (.u 8) .rw 1 (.nat 0) [(0, 15, 1)] false,
    Dict.ent 0x02 0x02 (.u 8) .rw 1 (.nat 0) [(0, 1, 1)] false,
    Dict.ent 0x03 0x03 (.u 64) .rw 1 (.nat 0) [] false,
    Dict.ent 0x04 0x04 (.u 64) .rw 1 (.nat 0) [] false,
    Dict.ent 0x05 0x05 (.u 32) .rw 1 (.nat 0) [(0, 268435456, 1)] false,
    Dict.ent 0x06 0x06 (.u 16) .rw 1 (.nat 0) [] false,
    Dict.ent 0x07 0x07 (.u 64) .rw 1 (.nat 0) [] false,
    Dict.ent 0x08 0x08 (.u 8) .rw 1 (.nat 0) [(0, 0, 1), (1, 1, 1)] false,
    Dict.ent 0x09 0x09 (.u 32) .rw 1 (.nat 65536) [(16, 16777215, 1)] false,
    Dict.ent 0x0A 0x0A (.u 8) .wo 1 (.nat 0) [(0, 1, 1)] false,
    Dict.ent 0x0B 0x0B (.u 8) .wo 1 (.nat 0) [(0, 1, 1)] false,
    Dict.ent 0x0C 0x0C (.u 8) .wo 1 (.nat 0) [(0, 1, 1)] false,
    Dict.ent 0x0D 0x0D (.u 8) .wo 1 (.nat 0) [(0, 1, 1)] false,
    Dict.ent 0xFE 0xFE (.u 8) .wo 1 (.nat 0) [(1, 1, 1)] false]

/-- Object 5341h DMA channels (13_dma_engine.md, R461). -/
def Dict.t5341 : List (Nat × Nat × Desc) :=
  [
    Dict.ent 0x01 0x01 (.u 8) .ro 0 (.nat 0) [] false,
    Dict.ent 0x02 0x02 (.u 8) .ro 0 (.nat 0) [] false,
    Dict.ent 0x03 0x03 (.u 8) .ro 0 (.nat 0) [] false,
    Dict.ent 0x04 0x04 (.u 64) .ro 0 (.nat 0) [] false,
    Dict.ent 0x05 0x05 (.u 32) .ro 0 (.nat 0) [] false,
    Dict.ent 0x06 0x06 (.u 64) .ro 0 (.nat 0) [] false,
    Dict.ent 0x07 0x07 (.u 64) .ro 0 (.nat 0) [] false,
    Dict.ent 0x08 0x08 (.u 64) .ro 0 (.nat 0) [] false,
    Dict.ent 0x09 0x09 (.u 64) .ro 0 (.nat 0) [] false,
    Dict.ent 0x0A 0x0A (.u 8) .ro 0 (.nat 0) [] false]

/-- Object 6000h Event log (16_object_dictionary.md, R586). -/
def Dict.t6000 : List (Nat × Nat × Desc) :=
  [
    Dict.ent 0x01 0x01 (.u 64) .rw 0 (.nat 0) [(0, 18446744073709551615, 1)] false,
    Dict.ent 0x02 0x02 (.oct 64) .ro 0 (.oct 64 0) [] false]

/-- Object 6001h (16_object_dictionary.md, R586). -/
def Dict.t6001 : List (Nat × Nat × Desc) :=
  [
    Dict.ent 0x01 0x01 (.u 64) .ro 0 (.nat 0) [] false,
    Dict.ent 0x02 0x02 (.u 64) .ro 0 (.nat 0) [] false,
    Dict.ent 0x04 0x04 (.u 8) .wo 1 (.nat 0) [(1, 1, 1)] false]

/-- Object 6010h Event catalogue (16_object_dictionary.md, R586). -/
def Dict.t6010 : List (Nat × Nat × Desc) :=
  [
    Dict.ent 0x01 0x01 (.u 16) .rw 0 (.nat 0) [(0, 1023, 1)] false,
    Dict.ent 0x02 0x02 (.u 32) .ro 0 (.nat 0) [] false,
    Dict.ent 0x03 0x03 (.str 255) .ro 0 (.str "") [] false,
    Dict.ent 0x04 0x04 (.u 8) .ro 0 (.nat 0) [] false,
    Dict.ent 0x05 0x05 (.u 16) .ro 0 (.nat 0) [] false]

/-- Object 6020h Violation log (16_object_dictionary.md, R586). -/
def Dict.t6020 : List (Nat × Nat × Desc) :=
  [
    Dict.ent 0x01 0x01 (.u 16) .ro 0 (.nat 0) [] false,
    Dict.ent 0x02 0x02 (.u 64) .ro 0 (.nat 0) [] false,
    Dict.ent 0x03 0x03 (.u 8) .ro 0 (.nat 0) [] false,
    Dict.ent 0x04 0x04 (.oct 16) .ro 0 (.oct 16 0) [] false,
    Dict.ent 0x05 0x05 (.u 32) .ro 0 (.nat 0) [] false,
    Dict.ent 0x06 0x06 (.oct 16) .ro 0 (.oct 16 0) [] false,
    Dict.ent 0x07 0x07 (.u 32) .ro 0 (.nat 0) [] false]

/-- Object 6021h (16_object_dictionary.md, R586). -/
def Dict.t6021 : List (Nat × Nat × Desc) :=
  [
    Dict.ent 0x02 0x0A (.u 64) .ro 0 (.nat 0) [] false]

/-- Indices 1000h to 2001h: index, rows of a row window (0: not a window), fields. -/
def Dict.part0 : List (Nat × Nat × List (Nat × Nat × Desc)) :=
  [(0x1000, 0, Dict.t1000),
   (0x1001, 0, Dict.t1001),
   (0x1008, 0, Dict.t1008),
   (0x100A, 0, Dict.t100A),
   (0x1011, 0, Dict.t1011),
   (0x1015, 0, Dict.t1015),
   (0x1017, 0, Dict.t1017),
   (0x1018, 0, Dict.t1018),
   (0x1100, 0, Dict.t1100),
   (0x1110, 0, Dict.t1110),
   (0x1111, 0, Dict.t1111),
   (0x1120, 0, Dict.t1120),
   (0x1130, 32, Dict.t1130),
   (0x1140, 0, Dict.t1140),
   (0x2000, 0, Dict.t2000),
   (0x2001, 0, Dict.t2001)]

/-- Indices 2002h to 2104h: index, rows of a row window (0: not a window), fields. -/
def Dict.part1 : List (Nat × Nat × List (Nat × Nat × Desc)) :=
  [(0x2002, 0, Dict.t2002),
   (0x2003, 0, Dict.t2003),
   (0x2004, 0, Dict.t2004),
   (0x2006, 0, Dict.t2006),
   (0x2007, 0, Dict.t2007),
   (0x2010, 0, Dict.t2010),
   (0x2011, 0, Dict.t2011),
   (0x2012, 0, Dict.t2012),
   (0x2020, 0, Dict.t2020),
   (0x2021, 0, Dict.t2021),
   (0x2030, 0, Dict.t2030),
   (0x2100, 0, Dict.t2100),
   (0x2101, 0, Dict.t2101),
   (0x2102, 68, Dict.t2102),
   (0x2103, 68, Dict.t2103),
   (0x2104, 32, Dict.t2104)]

/-- Indices 2108h to 2301h: index, rows of a row window (0: not a window), fields. -/
def Dict.part2 : List (Nat × Nat × List (Nat × Nat × Desc)) :=
  [(0x2108, 0, Dict.t2108),
   (0x2109, 0, Dict.t2109),
   (0x210A, 0, Dict.t210A),
   (0x2110, 64, Dict.t2110),
   (0x2111, 64, Dict.t2111),
   (0x2120, 0, Dict.t2120),
   (0x2121, 0, Dict.t2121),
   (0x2122, 0, Dict.t2122),
   (0x2200, 0, Dict.t2200),
   (0x2201, 0, Dict.t2201),
   (0x2202, 0, Dict.t2202),
   (0x2210, 24, Dict.t2210),
   (0x2211, 0, Dict.t2211),
   (0x2220, 0, Dict.t2220),
   (0x2300, 0, Dict.t2300),
   (0x2301, 0, Dict.t2301)]

/-- Indices 2302h to 3001h: index, rows of a row window (0: not a window), fields. -/
def Dict.part3 : List (Nat × Nat × List (Nat × Nat × Desc)) :=
  [(0x2302, 0, Dict.t2302),
   (0x2310, 0, Dict.t2310),
   (0x2320, 0, Dict.t2320),
   (0x2400, 0, Dict.t2400),
   (0x2401, 0, Dict.t2401),
   (0x2402, 0, Dict.t2402),
   (0x2403, 0, Dict.t2403),
   (0x2404, 0, Dict.t2404),
   (0x2410, 4, Dict.t2410),
   (0x2412, 512, Dict.t2412),
   (0x2420, 2, Dict.t2420),
   (0x2430, 0, Dict.t2430),
   (0x2440, 2, Dict.t2440),
   (0x2450, 4096, Dict.t2450),
   (0x3000, 0, Dict.t3000),
   (0x3001, 32, Dict.t3001)]

/-- Indices 3002h to 3110h: index, rows of a row window (0: not a window), fields. -/
def Dict.part4 : List (Nat × Nat × List (Nat × Nat × Desc)) :=
  [(0x3002, 32, Dict.t3002),
   (0x3003, 32, Dict.t3003),
   (0x3004, 32, Dict.t3004),
   (0x3005, 0, Dict.t3005),
   (0x3006, 0, Dict.t3006),
   (0x3010, 0, Dict.t3010),
   (0x3011, 0, Dict.t3011),
   (0x3012, 0, Dict.t3012),
   (0x3013, 0, Dict.t3013),
   (0x3020, 0, Dict.t3020),
   (0x3021, 0, Dict.t3021),
   (0x3030, 0, Dict.t3030),
   (0x3040, 512, Dict.t3040),
   (0x3100, 0, Dict.t3100),
   (0x3101, 131072, Dict.t3101),
   (0x3110, 0, Dict.t3110)]

/-- Indices 3111h to 3280h: index, rows of a row window (0: not a window), fields. -/
def Dict.part5 : List (Nat × Nat × List (Nat × Nat × Desc)) :=
  [(0x3111, 0, Dict.t3111),
   (0x3120, 4, Dict.t3120),
   (0x3122, 0, Dict.t3122),
   (0x3130, 256, Dict.t3130),
   (0x3180, 0, Dict.t3180),
   (0x3200, 0, Dict.t3200),
   (0x3210, 1024, Dict.t3210),
   (0x3220, 2048, Dict.t3220),
   (0x3224, 16384, Dict.t3224),
   (0x3230, 8192, Dict.t3230),
   (0x3238, 0, Dict.t3238),
   (0x3240, 1024, Dict.t3240),
   (0x3250, 4096, Dict.t3250),
   (0x3260, 65536, Dict.t3260),
   (0x3270, 0, Dict.t3270),
   (0x3280, 0, Dict.t3280)]

/-- Indices 4000h to 4100h: index, rows of a row window (0: not a window), fields. -/
def Dict.part6 : List (Nat × Nat × List (Nat × Nat × Desc)) :=
  [(0x4000, 0, Dict.t4000),
   (0x4001, 0, Dict.t4001),
   (0x4002, 0, Dict.t4002),
   (0x4003, 0, Dict.t4003),
   (0x4004, 0, Dict.t4004),
   (0x4005, 0, Dict.t4005),
   (0x4006, 0, Dict.t4006),
   (0x4007, 0, Dict.t4007),
   (0x4010, 4096, Dict.t4010),
   (0x4011, 4096, Dict.t4011),
   (0x4020, 32, Dict.t4020),
   (0x4021, 2048, Dict.t4021),
   (0x4030, 0, Dict.t4030),
   (0x4050, 0, Dict.t4050),
   (0x4051, 32, Dict.t4051),
   (0x4100, 0, Dict.t4100)]

/-- Indices 4110h to 5106h: index, rows of a row window (0: not a window), fields. -/
def Dict.part7 : List (Nat × Nat × List (Nat × Nat × Desc)) :=
  [(0x4110, 18446744073709551616, Dict.t4110),
   (0x4120, 4096, Dict.t4120),
   (0x5000, 4, Dict.t5000),
   (0x5001, 4, Dict.t5001),
   (0x5002, 4, Dict.t5002),
   (0x5010, 0, Dict.t5010),
   (0x5011, 4, Dict.t5011),
   (0x5020, 4, Dict.t5020),
   (0x5030, 4, Dict.t5030),
   (0x5040, 8192, Dict.t5040),
   (0x5100, 96, Dict.t5100),
   (0x5101, 0, Dict.t5101),
   (0x5102, 0, Dict.t5102),
   (0x5103, 0, Dict.t5103),
   (0x5104, 0, Dict.t5104),
   (0x5106, 4, Dict.t5106)]

/-- Indices 5107h to 5300h: index, rows of a row window (0: not a window), fields. -/
def Dict.part8 : List (Nat × Nat × List (Nat × Nat × Desc)) :=
  [(0x5107, 0, Dict.t5107),
   (0x5110, 4, Dict.t5110),
   (0x5111, 96, Dict.t5111),
   (0x5120, 262144, Dict.t5120),
   (0x5121, 0, Dict.t5121),
   (0x5130, 4, Dict.t5130),
   (0x5200, 24, Dict.t5200),
   (0x5201, 24, Dict.t5201),
   (0x5202, 24, Dict.t5202),
   (0x5203, 0, Dict.t5203),
   (0x5210, 0, Dict.t5210),
   (0x5220, 0, Dict.t5220),
   (0x5221, 0, Dict.t5221),
   (0x5222, 0, Dict.t5222),
   (0x5223, 0, Dict.t5223),
   (0x5300, 2, Dict.t5300)]

/-- Indices 5301h to 6021h: index, rows of a row window (0: not a window), fields. -/
def Dict.part9 : List (Nat × Nat × List (Nat × Nat × Desc)) :=
  [(0x5301, 128, Dict.t5301),
   (0x5302, 128, Dict.t5302),
   (0x5303, 2, Dict.t5303),
   (0x5304, 0, Dict.t5304),
   (0x5305, 0, Dict.t5305),
   (0x5306, 32, Dict.t5306),
   (0x5307, 8192, Dict.t5307),
   (0x5340, 16, Dict.t5340),
   (0x5341, 64, Dict.t5341),
   (0x6000, 18446744073709551616, Dict.t6000),
   (0x6001, 0, Dict.t6001),
   (0x6010, 1024, Dict.t6010),
   (0x6020, 1024, Dict.t6020),
   (0x6021, 0, Dict.t6021)]

/-- The dictionary (16 R553). -/
def Dict.table : List (Nat × Nat × List (Nat × Nat × Desc)) :=
  Dict.part0 ++ Dict.part1 ++ Dict.part2 ++ Dict.part3 ++ Dict.part4 ++ Dict.part5 ++ Dict.part6 ++ Dict.part7 ++ Dict.part8 ++ Dict.part9

end Sys2Proof.Machine
end

