-- ==== Sys2Proof/Machine/Tbl.lean ====
section
/-! DEFINITION. Sparse tables by key: lookup, update and removal. `set` and `erase` keep the keys of a table strictly
rising, so that equal tables are equal data. -/

namespace Sys2Proof.Machine

/-- The entry at key `k`. -/
def Tbl.find? {α : Type} (t : Tbl α) (k : Nat) : Option α :=
  match t with
  | [] => none
  | (a, x) :: r => if a = k then some x else Tbl.find? r k

/-- The entry at key `k`, or `d` where there is none. -/
def Tbl.get {α : Type} (d : α) (t : Tbl α) (k : Nat) : α := (Tbl.find? t k).getD d

/-- Replace or insert the entry at key `k`. -/
def Tbl.set {α : Type} (t : Tbl α) (k : Nat) (v : α) : Tbl α :=
  match t with
  | [] => [(k, v)]
  | (a, x) :: r => if k < a then (k, v) :: (a, x) :: r else if a = k then (k, v) :: r else (a, x) :: Tbl.set r k v

/-- Remove the entry at key `k`. -/
def Tbl.erase {α : Type} (t : Tbl α) (k : Nat) : Tbl α :=
  match t with
  | [] => []
  | (a, x) :: r => if a = k then Tbl.erase r k else (a, x) :: Tbl.erase r k

/-- Change the entry at key `k`, starting from `d` where there is none. -/
def Tbl.modify {α : Type} (d : α) (t : Tbl α) (k : Nat) (f : α → α) : Tbl α := Tbl.set t k (f (Tbl.get d t k))

/-- Whether key `k` has an entry. -/
def Tbl.has {α : Type} (t : Tbl α) (k : Nat) : Bool := (Tbl.find? t k).isSome

/-- The lowest of the keys from `lo` on, `n` of them tried, that has no entry. -/
def Tbl.freeKey {α : Type} (t : Tbl α) (lo : Nat) : Nat → Option Nat
  | 0 => none
  | n + 1 => if Tbl.has t lo then Tbl.freeKey t (lo + 1) n else some lo

/-- The keys of a table whose entries satisfy `p`. -/
def Tbl.keysWhere {α : Type} (t : Tbl α) (p : α → Bool) : List Nat := (t.filter fun e => p e.2).map Prod.fst

end Sys2Proof.Machine
end

