-- ==== Sys2Proof/Machine/Ops.lean ====
section
/-! DEFINITION. The named operations every meaning is written over: running an effect at an instant, module memory,
objects and counters of the dictionary, events, logs, and the checks, stages and commits of session writes. -/

namespace Sys2Proof

/-- A value as a number. -/
def Val.toNat : Val → Nat
  | .nat n => n
  | .int i => i.toNat
  | .real q => q.floor.toNat
  | .oct _ v => v
  | .str _ => 0

/-- A value as a rational. -/
def Val.toRat : Val → Rat
  | .nat n => n
  | .int i => i
  | .real q => q
  | .oct _ v => v
  | .str _ => 0

/-- A value as a string. -/
def Val.toStr : Val → String
  | .str s => s
  | _ => ""

end Sys2Proof

namespace Sys2Proof.Machine

/-- The outcome of a command. -/
abbrev Res := Host.Outcome State Fault Refusal

/-! ### Time and the shape of a meaning -/

/-- Module time never runs backward: it moves to `t` where `t` lies ahead (log entry 1). -/
def State.at (s : State) (t : Nat) : State := { s with now := max s.now t }

/-- The effect at an instant, while the module's rails are on: with only housekeeping running (15 R540) time passes. -/
def State.runAt (s : State) (t : Nat) (f : State → State) : State := if s.pwr.off then s.at t else f (s.at t)

/-- `n / d` rounded to the nearest integer, ties to even. -/
def roundEven (n d : Nat) : Nat :=
  let q := n / d
  let r := 2 * (n % d)
  if r < d then q else if d < r then q + 1 else q + q % 2

/-- The IEEE 754 binary32 word nearest to a number (00 "Conventions", 05 R176; log entry 145): biased exponent and rounded significand. -/
def real32 (x : Rat) : Nat :=
  let n := x.num.natAbs
  let d := x.den
  if n = 0 then 0
  else
    let l := Nat.log2 n
    let k := Nat.log2 d
    let e := max 1 (l + (if d * 2 ^ l ≤ n * 2 ^ k then 127 else 126) - k)
    let w := min 0x7F800000 ((e - 1) * 2 ^ 23 + roundEven (n * 2 ^ 150) (d * 2 ^ e))
    if x.num < 0 then 2 ^ 31 + w else w

/-- The number that a finite binary32 word stands for. -/
def ofReal32 (w : Nat) : Rat :=
  let e : Nat := w / 2 ^ 23 % 256
  let f : Nat := w % 2 ^ 23
  let v : Rat := if e = 0 then (f : Rat) / (2 ^ 149 : Nat) else (((2 ^ 23 + f) * 2 ^ e : Nat) : Rat) / (2 ^ 150 : Nat)
  if 2 ^ 31 ≤ w then -v else v

/-- A number as binary32 holds it. -/
def binary32 (x : Rat) : Rat := ofReal32 (real32 x)

/-- End of installed HBM (01 R21). -/
def hbmEnd : Nat := if Config.largeHbm then 0x1800000000 else 0xC00000000

/-- Run an effect that touches neither module memory nor the core voltage. In this and the next three, `ok` tells that the
command's operands name units that the module has; where they do not, time passes and nothing else (log entry 122). -/
def act (t : Nat) (ok : Bool) (s : State) (f : State → State) : Res :=
  if ok then
    .next { s.runAt t f with now := max s.now t, pending := s.pending, hbm := s.hbm, vcore := s.vcore }
  else .next (s.at t)

/-- The voltage of the core rail, as the rail takes it: inside the trim range and on its 2.5 mV steps (02 R57). -/
def railVolt (v : Nat) : Nat := max 6400 (min 8200 (v - v % 25))

/-- When the rail leaves a voltage, the time it stood there counts toward the mean voltage of the energy window (02 R68). -/
def State.railCore (s u : State) (t : Nat) : CoreState :=
  if railVolt u.vcore = s.vcore then u.core
  else { u.core with
    voltArea := u.core.voltArea + s.vcore * (max s.now t - u.core.voltSince), voltSince := max s.now t }

/-- Run an effect that may set the core voltage. -/
def actVolt (t : Nat) (ok : Bool) (s : State) (f : State → State) : Res :=
  if ok then
    .next { s.runAt t f with
      now := max s.now t, pending := s.pending, hbm := s.hbm, vcore := railVolt (s.runAt t f).vcore
      core := s.railCore (s.runAt t f) t }
  else .next (s.at t)

/-- Run an effect that may write module memory. -/
def actMem (t : Nat) (ok : Bool) (s : State) (f : State → State) : Res :=
  if ok then
    .next { s.runAt t f with now := max s.now t, pending := s.pending, vcore := s.vcore }
  else .next (s.at t)

/-- Run the effect of an event on an input pin: the module samples its pins with the rails off too, and then does `pin` alone. -/
def actPin (t : Nat) (ok : Bool) (s : State) (pin f : State → State) : Res :=
  if ok then
    .next { (if s.pwr.off then pin (s.at t) else f (s.at t)) with
      now := max s.now t, pending := s.pending, hbm := s.hbm, vcore := s.vcore }
  else .next (s.at t)

/-- Run an effect of the housekeeping circuits, which runs with the rails off too; it may write module memory and set the core
voltage (power entry, a reset, a boot). -/
def actAll (t : Nat) (ok : Bool) (s : State) (f : State → State) : Res :=
  if ok then
    .next { f (s.at t) with
      now := max s.now t, pending := s.pending, vcore := railVolt (f (s.at t)).vcore, core := s.railCore (f (s.at t)) t }
  else .next (s.at t)

/-! ### Small helpers -/

/-- Apply `f` when `c` holds. -/
def State.when (s : State) (c : Bool) (f : State → State) : State := if c then f s else s

/-- Apply `f` to the state and each item in turn. -/
def State.each {α : Type} (s : State) (xs : List α) (f : State → α → State) : State := xs.foldl f s

/-- Sum of a list. -/
def sumNat (xs : List Nat) : Nat := xs.foldl (· + ·) 0

/-- Bytes of packets in the hold store of a transport slice (05 R167). -/
def State.heldBytes (s : State) (sl : Nat) : Nat :=
  sumNat ((s.rdma.qps.filter fun e => decide (e.1 % 4 = sl)).map fun e => sumNat (e.2.held.map fun h => h.2.frameLen))

/-- The hold store of a slice is full: 1 MiB (05 R167). -/
def State.holdFull (s : State) (sl : Nat) : Bool := decide (1048576 ≤ s.heldBytes sl)

/-- The slice withholds fabric credits from the network ports (05 R167): attachment `dst` is a slice whose hold store is full. -/
def State.withheld (s : State) (src dst : Nat) : Bool := decide (src < 8 ∧ 8 ≤ dst ∧ dst < 12) && s.holdFull (dst - 8)

/-- Largest of a list, 0 of the empty list. -/
def maxNat (xs : List Nat) : Nat := xs.foldl max 0

/-- Insert into an ascending list. -/
def insertAsc (x : Rat) : List Rat → List Rat
  | [] => [x]
  | y :: r => if x ≤ y then x :: y :: r else y :: insertAsc x r

/-- Sort ascending. -/
def sortAsc (xs : List Rat) : List Rat := xs.foldr insertAsc []

/-- The median (00 R639): the middle value, or the mean of the two middle values; 0 of the empty list. -/
def median (xs : List Rat) : Rat :=
  let a := sortAsc xs
  let n := a.length
  if n = 0 then 0
  else if n % 2 = 1 then a.getD (n / 2) 0
  else (a.getD (n / 2 - 1) 0 + a.getD (n / 2) 0) / 2

/-- Bit `k` of a number. -/
def bit (n k : Nat) : Bool := (n / 2 ^ k) % 2 = 1

/-- Set bit `k`. -/
def setBit (n k : Nat) : Nat := if bit n k then n else n + 2 ^ k

/-- Clear bit `k`. -/
def clearBit (n k : Nat) : Nat := if bit n k then n - 2 ^ k else n

/-- Number of bits set among the lowest `w`. -/
def bitCount (n : Nat) : Nat → Nat
  | 0 => 0
  | w + 1 => (if bit n w then 1 else 0) + bitCount n w

/-- Times within the window of `w` ns that ends at `now`, for a list of instants. -/
def within (now w : Nat) (xs : List Nat) : List Nat := xs.filter fun x => decide (now < x + w)

/-- `now` is at or past `since + d`. -/
def dueAt (now since d : Nat) : Bool := decide (since + d ≤ now)

/-- One millisecond and one second in ns. -/
def msNs : Nat := 1000000
def sNs : Nat := 1000000000

/-! ### Free values and what the module sends -/

/-- Send `o`. -/
def State.emit (s : State) (o : Out) : State := { s with out := o :: s.out }

/-- The value that the next draw gives (log entry 7). -/
def State.draw (s : State) : Nat := Config.freeNat s.free

/-- The state after a draw. -/
def State.drawn (s : State) : State := { s with free := s.free + 1 }

/-! ### Module memory (01) -/

/-- Memory in canonical form: addresses strictly rising, no listed byte 0 (an unlisted byte reads 0; log entry 4). -/
def Memory.wf : List Host.Cell → Bool
  | [] => true
  | [(_, b)] => b != 0
  | (a, b) :: (a2, b2) :: r => b != 0 && decide (a < a2) && Memory.wf ((a2, b2) :: r)

/-- The byte at an address. -/
def Memory.read (m : List Host.Cell) (a : Nat) : Byte :=
  match m with
  | [] => 0
  | (k, b) :: r => if k = a then b else Memory.read r a

/-- Write one byte, keeping the canonical form. -/
def Memory.write (m : List Host.Cell) (a : Nat) (b : Byte) : List Host.Cell :=
  match m with
  | [] => if b = 0 then [] else [(a, b)]
  | (k, c) :: r =>
    if a < k then (if b = 0 then (k, c) :: r else (a, b) :: (k, c) :: r)
    else if a = k then (if b = 0 then r else (a, b) :: r)
    else (k, c) :: Memory.write r a b

/-- Write `n` bytes of `v`, least significant first (00 R13). -/
def Memory.writeN (m : List Host.Cell) (a v : Nat) : Nat → List Host.Cell
  | 0 => m
  | n + 1 => Memory.writeN (Memory.write m a (BitVec.ofNat 8 v)) (a + 1) (v / 256) n

/-- Read `n` bytes as a number, least significant first. -/
def Memory.readN (m : List Host.Cell) (a : Nat) : Nat → Nat
  | 0 => 0
  | n + 1 => (Memory.read m a).toNat + 256 * Memory.readN m (a + 1) n

/-! ### Objects of the dictionary (16) -/

/-- The key of an object or row-window field: 16 bits of index, 64 of row, 8 of sub-index. -/
def objKey (idx row sub : Nat) : Nat := (idx % 2 ^ 16 * 2 ^ 64 + row % 2 ^ 64) * 256 + sub % 256

/-- Entry of an index: rows of its row window (0: not a window) and its fields. -/
def Dict.entry? (idx : Nat) : Option (Nat × List (Nat × Nat × Desc)) :=
  (Dict.table.find? fun e => e.1 == idx).map fun e => e.2

/-- The generation, sub-index FDh of every row window (16 R557). -/
def Dict.genDesc : Desc := ⟨.u 32, .ro, 0, .nat 0, [], false⟩

/-- A performance counter (08 R296 to R298): value at 01h, latch time at 02h. -/
def Dict.perfDesc : Desc := ⟨.u 64, .ro, 0, .nat 0, [], false⟩

/-- Whether an index is a performance counter (08). -/
def Dict.isPerf (idx : Nat) : Bool := decide (0x6800 ≤ idx ∧ idx ≤ 0x6BFF)

/-- Whether an index exists (16 R553). -/
def Dict.hasIndex (idx : Nat) : Bool := Dict.isPerf idx || (Dict.entry? idx).isSome

/-- Rows of a row window; 0 where the index is none. -/
def Dict.rows (idx : Nat) : Nat :=
  match Dict.entry? idx with
  | some (w, _) => w
  | none => 0

/-- The descriptor of an object or field. -/
def Dict.desc? (idx sub : Nat) : Option Desc :=
  if Dict.isPerf idx then (if sub = 1 ∨ sub = 2 then some Dict.perfDesc else none)
  else
    match Dict.entry? idx with
    | none => none
    | some (w, fs) =>
      match fs.find? fun f => decide (f.1 ≤ sub ∧ sub ≤ f.2.1) with
      | some f => some f.2.2
      | none => if w ≠ 0 ∧ sub = 0xFD then some Dict.genDesc else none

/-- The default of an object (16 R562). -/
def Dict.default (idx sub : Nat) : Val :=
  match Dict.desc? idx sub with
  | some d => d.dflt
  | none => .nat 0

/-- The value of a field of a row. -/
def State.val (s : State) (idx row sub : Nat) : Val :=
  match Tbl.find? s.dict.cur (objKey idx row sub) with
  | some v => v
  | none => Dict.default idx sub

/-- The value of a field of a row as a number; `State.ob` is that of an object outside row windows. -/
def State.o (s : State) (idx row sub : Nat) : Nat := (s.val idx row sub).toNat

/-- The value of an object outside row windows as a number. -/
def State.ob (s : State) (idx sub : Nat) : Nat := s.o idx 0 sub

/-- Set the value of a field of a row. -/
def State.setVal (s : State) (idx row sub : Nat) (v : Val) : State :=
  { s with dict := { s.dict with cur := Tbl.set s.dict.cur (objKey idx row sub) v } }

/-- Set a number. -/
def State.put (s : State) (idx row sub n : Nat) : State := s.setVal idx row sub (.nat n)

/-- Whether an object is persistent. -/
def Dict.keeps (idx sub : Nat) : Bool :=
  match Dict.desc? idx sub with
  | some d => d.keep
  | none => false

/-- Set a value and, in the settings store, its persistent value (16 R561). -/
def State.keepVal (s : State) (idx row sub : Nat) (v : Val) : State :=
  { s with dict := { s.dict with
      cur := Tbl.set s.dict.cur (objKey idx row sub) v
      store := Tbl.set s.dict.store (objKey idx row sub) v
      changes := if Dict.keeps idx sub && decide (s.val idx row sub ≠ v) then s.dict.changes + 1 else s.dict.changes } }

/-- Counters saturate (16 R586). -/
def satAdd (a n : Nat) : Nat := min (2 ^ 64 - 1) (a + n)

/-- The largest value of a counter's type: 32 bits for an UNSIGNED32 counter, 64 for the others. -/
def Dict.counterMax (idx sub : Nat) : Nat :=
  match Dict.desc? idx sub with
  | some d => (match d.ty with
    | .u w => 2 ^ w - 1
    | _ => 2 ^ 64 - 1)
  | none => 2 ^ 64 - 1

/-- A counter after `n` more: it saturates at the largest value of its type (16 R586). -/
def satAt (idx sub a n : Nat) : Nat := min (Dict.counterMax idx sub) (a + n)

/-- Add `n` to a counter. -/
def State.add (s : State) (idx row sub n : Nat) : State := s.put idx row sub (satAt idx sub (s.o idx row sub) n)

/-- Count one. -/
def State.bump (s : State) (idx row sub : Nat) : State := s.add idx row sub 1

/-- Count on performance counter `n` of 48 bits, which wraps (08 R296). -/
def State.perf (s : State) (n k : Nat) : State := 
  s.put (0x6800 + n % 1024) 0 1 ((s.ob (0x6800 + n % 1024) 1 + k) % 2 ^ 48)

/-! ### Abort codes (16 Table 2) -/

/-- 0 stands for success. -/
abbrev Abort := Nat

def abNoIndex : Abort := 0x06020000
def abNoSub : Abort := 0x06090011
def abLevel : Abort := 0x06010000
def abReadWo : Abort := 0x06010001
def abWriteRo : Abort := 0x06010002
def abLength : Abort := 0x06070010
def abRange : Abort := 0x06090030
def abJoin : Abort := 0x06040043
def abState : Abort := 0x08000022
def abPartner : Abort := 0x08000020
def abStore : Abort := 0x06060000

/-- The first code that is not 0 (16 R643). -/
def firstCode : List Abort → Abort
  | [] => 0
  | c :: r => if c = 0 then firstCode r else c

/-- Code `c` unless `ok`. -/
def need (ok : Bool) (c : Abort) : Abort := if ok then 0 else c

/-! ### Events and logs (16) -/

/-- How much of a slew has been worked off: 50 ppm of the time since it began (04 R144; log entry 11). -/
def PtpState.slewed (p : PtpState) (now : Nat) : Int :=
  let done : Int := ((now - p.slewFrom) / 20000 : Nat)
  if 0 ≤ p.slew then min p.slew done else max p.slew (-done)

/-- What the rate correction has added since it was set (04 R143). -/
def PtpState.drift (p : PtpState) (now : Nat) : Int := p.rate * ((now - p.rateFrom : Nat) : Int) / 1000000000

/-- PTP time in ns (04 R143, R144, R641). -/
def State.ptpNow (s : State) : Int := s.now + s.ptp.offset + s.ptp.slewed s.now + s.ptp.drift s.now

/-- Base index of the area that raises an event (16 Table 1). -/
def Ev.area : Ev → Nat
  | .barometerFaulty | .coreUnverified | .coreSlow | .trimUnsteady | .pinOverridden | .limitFactorExceeded
  | .exclusionRefused | .thermalWarning | .thermalShutdown => 0x2000
  | .planeFaulty | .planeReturned | .fabricFailed | .resequencerLoss | .portFlushed | .planeStatusRefused => 0x2100
  | .inputFault | .stormThresholdHigh | .stormWarning | .pfwarnFaulty | .holdupStoreFault | .holdupAging
  | .holdupInsufficient | .ceilingLowered | .slotPowerFault | .slotFeedLost | .slotOverdraw | .slotBudget
  | .vaultFailed => 0x2200
  | .firmwareReceived | .firmwareConfirmed | .firmwareFallback | .activationCancelled | .settingsReverted | .lockstepMismatch | .watchdogExpiry
  | .hbmUncorrectable => 0x2300
  | .twinGroup | .twinUnpaired | .settingsReplaced | .yieldLineFaulty | .verdictFailed | .verdictPassed
  | .standbyMismatch | .barometerTrend | .yielded | .takeover => 0x2400
  | .linkFlapping | .pauseStorm | .headroomShort | .pfcMismatch | .cagePower | .cageUnreadable | .analysisPortRemoved
  | .timeStepped => 0x3000
  | .offenderLimited | .offenderDisconnected | .qpError | .cmTimeout | .retryExhausted | .remoteAccessNak
  | .contextStoreFull | .pinCapacity | .windowAtFloor | .holdStoreFull => 0x3100
  | .hostOffenderLimited | .hostOffenderDisconnected => 0x3200
  | .starvation | .gateListInvalid | .class0Oversubscribed | .class0BoundExceeded => 0x4000
  | .lateUpdate | .retentionWarning | .pageOverwritten => 0x4100
  | .accumulatorFaulty | .accumulatorsFailed | .scrubRepair | .unlocatableMismatch => 0x5000
  | .slowMember | .memberAtRisk | .memberLost | .memberRestored | .replacementRefused | .blocksLost | .lostListFull
  | .acknowledgedDataLost => 0x5100
  | .driveReady | .driveGone | .driveRefused | .driveTemperature | .presenceFaulty | .completionTimeout
  | .resetRefused | .slotDegraded | .slotOffender | .slotAtRisk | .button | .lampOpen
  | .inputFaulty => 0x5200
  | .nearPortDegraded | .dmaHalted | .copyJobDescriptor | .copyJobComplete | .copyJobsDisabled => 0x5300
  | .authFailed | .addressLockedOut | .canNodeIdConflict | .canBusOff | .settingsStoreFailed | .managementLanLost
  | .eventDropped => 0x1000

/-- The name of an event as the manual writes it (16 R580; log entry 84). -/
def Ev.name : Ev → String
  | .barometerFaulty => "barometer-faulty"
  | .coreUnverified => "core-unverified"
  | .coreSlow => "core-slow"
  | .trimUnsteady => "trim-unsteady"
  | .pinOverridden => "pin-overridden"
  | .limitFactorExceeded => "limit-factor-exceeded"
  | .exclusionRefused => "exclusion-refused"
  | .planeFaulty => "plane-faulty"
  | .planeReturned => "plane-returned"
  | .fabricFailed => "fabric-failed"
  | .resequencerLoss => "resequencer-loss"
  | .portFlushed => "port-flushed"
  | .planeStatusRefused => "plane-status-refused"
  | .linkFlapping => "link-flapping"
  | .pauseStorm => "pause-storm"
  | .headroomShort => "headroom-short"
  | .pfcMismatch => "PFC-mismatch"
  | .cagePower => "cage-power"
  | .cageUnreadable => "cage-unreadable"
  | .analysisPortRemoved => "analysis-port-removed"
  | .timeStepped => "time-stepped"
  | .offenderLimited => "offender-limited"
  | .offenderDisconnected => "offender-disconnected"
  | .qpError => "QP-error"
  | .cmTimeout => "CM-timeout"
  | .retryExhausted => "retry-exhausted"
  | .remoteAccessNak => "remote-access-NAK"
  | .contextStoreFull => "context-store-full"
  | .pinCapacity => "pin-capacity"
  | .windowAtFloor => "window-at-floor"
  | .holdStoreFull => "hold-store-full"
  | .hostOffenderLimited => "host-offender-limited"
  | .hostOffenderDisconnected => "host-offender-disconnected"
  | .starvation => "starvation"
  | .gateListInvalid => "gate-list-invalid"
  | .class0Oversubscribed => "Class 0 oversubscribed"
  | .class0BoundExceeded => "Class 0 bound-exceeded"
  | .lateUpdate => "late-update"
  | .retentionWarning => "retention-warning"
  | .pageOverwritten => "unacknowledged-page-overwritten"
  | .accumulatorFaulty => "accumulator-faulty"
  | .accumulatorsFailed => "accumulators-failed"
  | .scrubRepair => "scrub-repair"
  | .unlocatableMismatch => "unlocatable-mismatch"
  | .slowMember => "slow-member"
  | .memberAtRisk => "member-at-risk"
  | .memberLost => "member-lost"
  | .memberRestored => "member-restored"
  | .replacementRefused => "replacement-refused"
  | .blocksLost => "blocks-lost"
  | .lostListFull => "lost-list-full"
  | .acknowledgedDataLost => "acknowledged-data-lost"
  | .driveReady => "drive-ready"
  | .driveGone => "drive-gone"
  | .driveRefused => "drive-refused"
  | .driveTemperature => "drive-temperature"
  | .presenceFaulty => "presence-faulty"
  | .completionTimeout => "completion-timeout"
  | .resetRefused => "reset-refused"
  | .slotDegraded => "slot-degraded"
  | .slotOffender => "slot-offender"
  | .slotAtRisk => "slot-at-risk"
  | .nearPortDegraded => "near-port-degraded"
  | .dmaHalted => "DMA-halted"
  | .copyJobDescriptor => "copy-job-descriptor"
  | .copyJobComplete => "copy-job-complete"
  | .copyJobsDisabled => "copy-jobs-disabled"
  | .twinGroup => "twin-group"
  | .twinUnpaired => "twin-unpaired"
  | .settingsReplaced => "settings-replaced"
  | .yieldLineFaulty => "yield-line-faulty"
  | .verdictFailed => "verdict-failed"
  | .verdictPassed => "verdict-passed"
  | .standbyMismatch => "standby-parity-mismatch"
  | .barometerTrend => "barometer-trend"
  | .yielded => "yielded"
  | .takeover => "takeover"
  | .inputFault => "input-fault"
  | .stormThresholdHigh => "storm-threshold-high"
  | .stormWarning => "storm-warning"
  | .pfwarnFaulty => "PFWARN-faulty"
  | .holdupStoreFault => "holdup-store-fault"
  | .holdupAging => "holdup-aging"
  | .holdupInsufficient => "holdup-insufficient"
  | .ceilingLowered => "ceiling-lowered"
  | .slotPowerFault => "slot-power-fault"
  | .slotFeedLost => "slot-feed-lost"
  | .slotOverdraw => "slot-overdraw"
  | .slotBudget => "slot-budget"
  | .vaultFailed => "vault-failed"
  | .authFailed => "authentication failed"
  | .addressLockedOut => "address-locked-out"
  | .canNodeIdConflict => "CAN-node-ID-conflict"
  | .canBusOff => "CAN-bus-off"
  | .settingsStoreFailed => "settings-store-failed"
  | .managementLanLost => "management-LAN-lost"
  | .eventDropped => "event-dropped"
  | .firmwareReceived => "firmware-received"
  | .firmwareConfirmed => "firmware-confirmed"
  | .firmwareFallback => "firmware-fallback"
  | .activationCancelled => "activation-cancelled"
  | .settingsReverted => "settings-reverted"
  | .thermalWarning => "thermal-warning"
  | .thermalShutdown => "thermal-shutdown"
  | .button => "button"
  | .lampOpen => "lamp-open"
  | .inputFaulty => "input-faulty"
  | .lockstepMismatch => "lockstep-mismatch"
  | .watchdogExpiry => "watchdog-expiry"
  | .hbmUncorrectable => "HBM-uncorrectable"

/-- Part 1 of `Ev.all`. -/
def Ev.part1 : List Ev :=
  [.barometerFaulty, .coreUnverified, .coreSlow, .trimUnsteady, .pinOverridden, .limitFactorExceeded, .exclusionRefused, .planeFaulty,
   .planeReturned, .fabricFailed, .resequencerLoss, .portFlushed, .planeStatusRefused, .linkFlapping, .pauseStorm, .headroomShort,
   .pfcMismatch, .cagePower, .cageUnreadable, .analysisPortRemoved, .timeStepped, .offenderLimited, .offenderDisconnected, .qpError,
   .cmTimeout, .retryExhausted, .remoteAccessNak, .contextStoreFull, .pinCapacity, .windowAtFloor, .holdStoreFull, .hostOffenderLimited,
   .hostOffenderDisconnected, .starvation, .gateListInvalid, .class0Oversubscribed]

/-- Part 2 of `Ev.all`. -/
def Ev.part2 : List Ev :=
  [.class0BoundExceeded, .lateUpdate, .retentionWarning, .pageOverwritten, .accumulatorFaulty, .accumulatorsFailed, .scrubRepair, .unlocatableMismatch,
   .slowMember, .memberAtRisk, .memberLost, .memberRestored, .replacementRefused, .blocksLost, .lostListFull, .acknowledgedDataLost,
   .driveReady, .driveGone, .driveRefused, .driveTemperature, .presenceFaulty, .completionTimeout, .resetRefused, .slotDegraded,
   .slotOffender, .slotAtRisk, .nearPortDegraded, .dmaHalted, .copyJobDescriptor, .copyJobComplete, .copyJobsDisabled, .twinGroup,
   .twinUnpaired, .settingsReplaced, .yieldLineFaulty, .verdictFailed]

/-- Part 3 of `Ev.all`. -/
def Ev.part3 : List Ev :=
  [.verdictPassed, .standbyMismatch, .barometerTrend, .yielded, .takeover, .inputFault, .stormThresholdHigh, .stormWarning,
   .pfwarnFaulty, .holdupStoreFault, .holdupAging, .holdupInsufficient, .ceilingLowered, .slotPowerFault, .slotFeedLost, .slotOverdraw,
   .slotBudget, .vaultFailed, .authFailed, .addressLockedOut, .canNodeIdConflict, .canBusOff, .settingsStoreFailed, .managementLanLost,
   .eventDropped, .firmwareReceived, .firmwareConfirmed, .firmwareFallback, .activationCancelled, .settingsReverted, .thermalWarning, .thermalShutdown,
   .button, .lampOpen, .inputFaulty, .lockstepMismatch]

/-- Part 4 of `Ev.all`. -/
def Ev.part4 : List Ev :=
  [.watchdogExpiry, .hbmUncorrectable]

/-- Every event that the running image can raise. -/
def Ev.all : List Ev := Ev.part1 ++ Ev.part2 ++ Ev.part3 ++ Ev.part4

/-- Event codes (16 R580): the numbers of chapter 16's own events are fixed, every other is Haphor's. -/
def Ev.code (e : Ev) : Nat :=
  match e with
  | .authFailed => 0x10000001
  | .addressLockedOut => 0x10000002
  | .canNodeIdConflict => 0x10000003
  | .canBusOff => 0x10000004
  | .settingsStoreFailed => 0x10000005
  | .managementLanLost => 0x10000006
  | .eventDropped => 0x10000007
  | e => e.area * 65536 + Config.eventNumber e.name % 65536

/-- Severity, 0 to 4, as Haphor assigns it (16 R580). -/
def Ev.severity (e : Ev) : Nat := Config.eventSeverity e.name % 5

/-- Emergency code and bit of 1001h (16 Table 7). -/
def Ev.emergency : Ev → Nat × Nat
  | .slotPowerFault | .slotFeedLost | .slotOverdraw | .slotBudget => (0x2300, 1)
  | .stormWarning | .inputFault | .stormThresholdHigh | .pfwarnFaulty | .holdupStoreFault | .holdupAging
  | .holdupInsufficient | .ceilingLowered => (0x3100, 2)
  | .thermalWarning | .thermalShutdown | .driveTemperature => (0x4200, 3)
  | .barometerFaulty | .coreUnverified | .coreSlow | .trimUnsteady | .limitFactorExceeded | .barometerTrend
  | .planeFaulty | .planeReturned | .fabricFailed | .resequencerLoss | .accumulatorFaulty | .accumulatorsFailed
  | .hbmUncorrectable | .vaultFailed => (0x5000, 7)
  | .settingsStoreFailed | .lockstepMismatch | .watchdogExpiry => (0x6100, 0)
  | .linkFlapping | .pauseStorm | .headroomShort | .pfcMismatch | .cagePower | .cageUnreadable | .analysisPortRemoved
  | .timeStepped | .twinGroup | .twinUnpaired | .yieldLineFaulty | .managementLanLost | .canNodeIdConflict
  | .canBusOff => (0x8100, 4)
  | _ => (0xFF00, 7)

/-- One PF0 ring after an event: 512 entries, and PF0 vector 1 once it is written; when the tail would reach the head
the event is dropped and the overflow bit set (12 R426, 16 Table 9). -/
def EventRing.push (r : EventRing) (e : EventRec) : EventRing :=
  if r.enable = false then r
  else if r.ring.length < 511 then { r with ring := r.ring ++ [e] } else { r with overflow := true }

/-- Whether the ring takes the event. -/
def EventRing.takes (r : EventRing) : Bool := r.enable && decide (r.ring.length < 511)

/-- Whether the ring drops the event. -/
def EventRing.drops (r : EventRing) : Bool := r.enable && decide (511 ≤ r.ring.length)

/-! ### MSI-X (12 R420, Table 7; PCIe Base 6.0, log entry 167) -/

/-- A dword of the table: after a reset every vector is masked, and the rest is 0. -/
def Msix.dword (m : Msix) (o : Nat) : Nat := Tbl.get (if o % 16 = 12 then 1 else 0) m.table o

/-- A vector is not masked. -/
def Msix.open (m : Msix) (v : Nat) : Bool := !m.mask && !bit (m.dword (16 * v + 12)) 0

/-- Address and data of a vector's message. -/
def Msix.message (m : Msix) (v : Nat) : Nat × Nat := (m.dword (16 * v) + m.dword (16 * v + 4) * 2 ^ 32, m.dword (16 * v + 8))

/-- Raise a vector: its message leaves, or its pending bit is set while it is masked. A function without MSI-X Enable or Bus Master
Enable sends none. -/
def Msix.raise (m : Msix) (bme : Bool) (v : Nat) : Msix × Option (Nat × Nat) :=
  if m.on && bme then if m.open v then (m, some (m.message v)) else ({ m with pending := v :: m.pending.filter fun w => decide (w ≠ v) }, none)
  else (m, none)

/-- The pending vectors that may leave now, and what stays. -/
def Msix.release (m : Msix) (bme : Bool) : Msix × List Nat :=
  if m.on && bme then ({ m with pending := m.pending.filter fun v => !m.open v }, m.pending.filter m.open) else (m, [])

/-- PF0 of a near port raises a vector. -/
def State.pfInterrupt (s : State) (p v : Nat) : State :=
  let r := Tbl.get {} s.rings p
  let n : NearPort := Tbl.get {} s.np p
  let x := r.msix.raise n.bme v
  let s := { s with rings := Tbl.set s.rings p { r with msix := x.1 } }
  match x.2 with
  | some g => s.emit (.msix p v g.1 g.2)
  | none => s

/-- EMCY is halted while the node is stopped or in a node-ID conflict (16 R574, R575). -/
def State.emcyOn (s : State) : Bool := decide (s.sess.can.nmt = .operational) && !s.sess.can.conflict

/-- The COB-ID of an EMCY message: 80h + node-ID (16 R573). -/
def State.emcyCob (s : State) : Nat := 0x80 + s.ob 0x1100 1

/-- When an EMCY leaves: at once, or at the end of the inhibit time of 1015h after the last one (16 R573). -/
def State.emcyAt (s : State) : Nat :=
  match s.ev.lastEmcy with
  | none => s.now
  | some l => max s.now (l + s.ob 0x1015 0 * 100000)

/-- Sessions whose subscription covers an event: minimum severity and area mask (16 Table 5). -/
def Session.wants (x : Session) (e : EventRec) : Bool :=
  match x.sub with
  | some (minSev, mask) => decide (minSev ≤ e.ev.severity) && bit mask (Config.areaBit e.ev.area)
  | none => false

/-- The event messages to subscribed sessions (16 R581); `Config.areaBit` numbers the bits of the area mask. -/
def State.eventOuts (s : State) (e : EventRec) : List Out :=
  s.sess.tbl.filterMap fun x => if x.2.wants e then some (.eventMessage x.1 e) else none

/-- The session table once those messages are sent. -/
def State.eventSent (s : State) (e : EventRec) : Tbl Session :=
  s.sess.tbl.map fun x => (x.1, if x.2.wants e then { x.2 with tx := x.2.tx + 1 } else x.2)

/-- Log and deliver one event (16 R580 to R582); `co` marks one coalesced under a rate limit. -/
def State.logEvent (s : State) (ev : Ev) (co : Bool) (data : List Nat) : State :=
  let e : EventRec := ⟨s.ev.seq + 1, s.ptpNow, ev, decide (s.ob 0x3020 7 = 2 ∨ s.ob 0x3020 7 = 3), co, data⟩
  let r0 := Tbl.get {} s.rings 0
  let r1 := Tbl.get {} s.rings 1
  let reg := if 3 ≤ ev.severity then setBit s.ev.register ev.emergency.2 else s.ev.register
  let emcy := s.emcyOn && decide (s.ob 0x1100 6 ≤ ev.severity)
  let u := { s with
    ev := { s.ev with
      seq := s.ev.seq + 1
      log := (e :: s.ev.log).take 4096
      register := reg
      dropped := satAdd s.ev.dropped ((if r0.drops then 1 else 0) + (if r1.drops then 1 else 0))
      lastEmcy := if emcy then some s.emcyAt else s.ev.lastEmcy }
    sess := { s.sess with tbl := s.eventSent e }
    rings := Tbl.set (Tbl.set s.rings 0 (r0.push e)) 1 (r1.push e)
    out := (if emcy then [.emcy s.emcyCob s.emcyAt ev.emergency.1 reg (some e)] else []) ++ s.eventOuts e ++ s.out }
  let u := if r0.takes then u.pfInterrupt 0 1 else u
  if r1.takes then u.pfInterrupt 1 1 else u

/-- A PF0 ring that this event finds full for the first time. -/
def State.ringFills (s : State) (p : Nat) : Bool :=
  let r := Tbl.get {} s.rings p
  r.drops && !r.overflow

/-- Raise an event; a PF0 ring that fills raises the event-dropped event (log entry 85). -/
def State.raiseC (s : State) (ev : Ev) (co : Bool) (data : List Nat) : State :=
  let f0 := s.ringFills 0
  let f1 := s.ringFills 1
  let s := s.logEvent ev co data
  let s := if f0 then s.logEvent .eventDropped false [0] else s
  if f1 then s.logEvent .eventDropped false [1] else s

/-- Raise an event. -/
def State.raise (s : State) (ev : Ev) (data : List Nat := []) : State := s.raiseC ev false data

/-- Write the violation log (16 R583). Under a rate limit (`limited`), a violation within 1 s of the newest entry of
the same partner is folded into that entry. -/
def State.violation (s : State) (limited : Bool) (kind partner condition detail : Nat) (remote : Ip := 0) : State :=
  let v : Violation := ⟨s.ptpNow, kind, partner, condition, detail, 0, remote⟩
  let same (x : Violation) : Bool := decide (x.kind = kind ∧ x.partner = partner ∧ s.ptpNow < x.time + sNs)
  let log :=
    if limited && s.ev.violations.any same then
      let rec fold : List Violation → List Violation
        | [] => []
        | x :: r => if same x then { x with coalesced := x.coalesced + 1 } :: r else x :: fold r
      fold s.ev.violations
    else (v :: s.ev.violations).take 1024
  { s with ev := { s.ev with violations := log } }

/-! ### Session writes (16 R555 to R561, R643) -/

/-- The session `id`. -/
def State.session? (s : State) (id : Nat) : Option Session := Tbl.find? s.sess.tbl id

/-- Change a session. -/
def State.setSession (s : State) (id : Nat) (x : Session) : State :=
  { s with sess := { s.sess with tbl := Tbl.set s.sess.tbl id x } }

/-- Messages that the module has sent in a session: their counter (16 Table 4). -/
def State.sent (s : State) (sess n : Nat) : State :=
  match s.session? sess with
  | some x => s.setSession sess { x with tx := x.tx + n }
  | none => s

/-- An answer that a mailbox message waited for has come; with the last of them the response is complete: status 2 and MSI-X
vector 0 (12 R425, 14 R466). -/
def State.mailboxAnswered (s : State) (port : Nat) : State :=
  let n : NearPort := Tbl.get {} s.np port
  let m : Mailbox := n.mailbox
  let k : Nat := m.waits - 1
  let m : Mailbox := { m with waits := k, status := if k = 0 then 2 else m.status }
  let u : State := { s with np := Tbl.set s.np port { n with mailbox := m } }
  if n.mailbox.waits = 0 then s else if k = 0 then u.pfInterrupt port 0 else u

/-- Answer a write or read. Sessions 2 and 3 are those of the mailboxes of NP0 and NP1. -/
def State.reply (s : State) (sess : Nat) (c : Abort) (v : Option Val := none) : State :=
  let s := (s.sent sess 1).emit (.reply sess c v)
  if sess = 2 ∨ sess = 3 then s.mailboxAnswered (sess - 2) else s

/-- While only the loader runs, it serves areas 1000h to 1FFFh and 2300h to 23FFh (17 R599). -/
def State.areaOpen (s : State) (idx : Nat) : Bool :=
  !(decide (s.ob 0x2300 4 = 3)) || decide (idx / 4096 = 1 ∨ idx / 256 = 0x23)

/-- Run `f` with the session; an unknown session is discarded and counted (16 Table 8). -/
def State.withSession (s : State) (sess : Nat) (f : Session → State) : State :=
  match s.session? sess with
  | some x => f x
  | none => s.bump 0x6021 0 3

/-- Check 3 of R643: the value's length against the type. -/
def lengthOk (d : Desc) : Val → Bool
  | .nat n => match d.ty with | .u w => decide (n < 2 ^ w) | _ => false
  | .int i => match d.ty with | .i32 => decide (-2147483648 ≤ i ∧ i < 2147483648) | _ => false
  | .real _ => match d.ty with | .real32 => true | _ => false
  | .oct l v => match d.ty with | .oct n => decide (l = n ∧ v < 256 ^ l) | .domain => decide (v < 256 ^ l) | _ => false
  | .str t => match d.ty with | .str m => decide (t.length ≤ m) | _ => false

/-- A number inside a list of (lowest, highest, step) ranges; any number for the empty list. -/
def inRanges (rs : List (Nat × Nat × Nat)) (n : Nat) : Bool :=
  rs.isEmpty || rs.any fun r => decide (r.1 ≤ n ∧ n ≤ r.2.1 ∧ n % r.2.2 = r.1 % r.2.2)

/-- Check 4 of R643: the value against the range of the object's own row; strings hold 20h to 7Eh (16 R554). -/
def rangeOk (d : Desc) : Val → Bool
  | .nat n => inRanges d.rng n
  | .str t => t.toList.all fun c => decide (0x20 ≤ c.toNat ∧ c.toNat ≤ 0x7E)
  | _ => true

/-- Checks 1 and 2 of R643 for a write. -/
def writeAccess (x : Session) (idx sub : Nat) : Abort :=
  if Dict.hasIndex idx then
    match Dict.desc? idx sub with
    | none => abNoSub
    | some d =>
      if d.acc = .ro ∨ d.acc = .const then abWriteRo
      else if x.level < d.level then abLevel else 0
  else abNoIndex

/-- Checks 3 of R643 for a write. -/
def writeLength (idx sub : Nat) (v : Val) : Abort :=
  match Dict.desc? idx sub with
  | some d => need (lengthOk d v) abLength
  | none => 0

/-- Check 4 of R643 for a write. -/
def writeRange (idx sub : Nat) (v : Val) : Abort :=
  match Dict.desc? idx sub with
  | some d => need (rangeOk d v) abRange
  | none => 0

/-- Check 8 of R643: a persistent value changes and the settings store cannot be written (16 R561). -/
def State.storeCode (s : State) (changes : Bool) : Abort := need (!changes || s.dict.storeOk) abStore

/-- Refuse with code `c`; a failed store also raises its event (16 R561). -/
def State.refuse (s : State) (sess : Nat) (c : Abort) : State :=
  (if c = abStore then s.raise .settingsStoreFailed else s).reply sess c

/-- Set an object, and the settings store where the object is persistent. -/
def State.setKeep (s : State) (idx row sub : Nat) (v : Val) : State :=
  if Dict.keeps idx sub then s.keepVal idx row sub v else s.setVal idx row sub v

/-- A write of an object outside row windows by a session (16 R560, R643): the common checks in order, the chapter's
own check `chk`, the settings store, and on success the effect `app` and the answer 0. -/
def State.writeAs (s : State) (sess idx sub : Nat) (v : Val) (chk : State → Abort) (app : State → State) : State :=
  s.withSession sess fun x =>
    let k := chk s
    let c := firstCode [writeAccess x idx sub, writeLength idx sub v, writeRange idx sub v,
      if k = abRange ∨ k = abJoin then k else 0, need (s.areaOpen idx) abState, k, s.storeCode (Dict.keeps idx sub && decide (s.val idx 0 sub ≠ v))]
    if c = 0 then (app s).reply sess 0 else s.refuse sess c

/-- The plain effect of a write: the object takes the value. -/
def State.setObj (idx sub : Nat) (v : Val) (s : State) : State := s.setKeep idx 0 sub v

/-! ### Row windows (16 R557 to R559) -/

/-- Sub-indices `lo` to `lo + n - 1` with a descriptor. -/
def Dict.expand (d : Desc) (lo : Nat) : Nat → List (Nat × Desc)
  | 0 => []
  | n + 1 => (lo, d) :: Dict.expand d (lo + 1) n

/-- The fields of a row window that a session may stage, with their descriptors. -/
def Dict.staged (win : Nat) : List (Nat × Desc) :=
  match Dict.entry? win with
  | none => []
  | some (_, fs) =>
    (fs.flatMap fun f => Dict.expand f.2.2 f.1 (f.2.1 + 1 - f.1)).filter fun e =>
      decide (e.1 ≠ 1 ∧ e.1 ≠ 0xFE ∧ (e.2.acc = .rw ∨ e.2.acc = .wo))

/-- The generation of a row. -/
def State.gen (s : State) (win row : Nat) : Nat := Tbl.get 0 s.dict.gens (objKey win row 0)

/-- The stage that selecting a row loads: its current values, write-only fields at their default, its generation. -/
def State.loadStage (s : State) (win row : Nat) : Stage :=
  { row := row, gen := s.gen win row
    fields := (Dict.staged win).map fun e => (e.1, if e.2.acc = .wo then e.2.dflt else s.val win row e.1) }

/-- The session's stage of a window; row 0 before any selection. -/
def State.stage (s : State) (x : Session) (win : Nat) : Stage :=
  match Tbl.find? x.stages win with
  | some st => st
  | none => s.loadStage win 0

/-- A staged value. -/
def Stage.val (st : Stage) (sub : Nat) : Val := Tbl.get (.nat 0) st.fields sub

/-- A staged number. -/
def Stage.n (st : Stage) (sub : Nat) : Nat := (st.val sub).toNat

/-- Keep a stage in its session. -/
def State.setStage (s : State) (sess : Nat) (x : Session) (win : Nat) (st : Stage) : State :=
  s.setSession sess { x with stages := Tbl.set x.stages win st }

/-- Write sub-index 01h: every session may (16 R555); a row beyond the table is out of range. -/
def State.selectRow (s : State) (sess win row : Nat) : State :=
  s.withSession sess fun x =>
    let c := firstCode [need (decide (Dict.rows win ≠ 0)) (if Dict.hasIndex win then abNoSub else abNoIndex),
      writeLength win 1 (.nat row), need (decide (row < Dict.rows win)) abRange, need (s.areaOpen win) abState]
    if c = 0 then (s.setStage sess x win (s.loadStage win row)).reply sess 0 else s.refuse sess c

/-- Write a field of the stage: existence, access and length only (16 R643). -/
def State.stageField (s : State) (sess win sub : Nat) (v : Val) : State :=
  s.withSession sess fun x =>
    let c := firstCode [writeAccess x win sub, writeLength win sub v, need (s.areaOpen win) abState]
    if c = 0 then
      let st := s.stage x win
      (s.setStage sess x win { st with fields := Tbl.set st.fields sub v }).reply sess 0
    else s.refuse sess c

/-- The fields of a stage that differ from the row: those the commit changes or acts on. -/
def State.changed (s : State) (win : Nat) (st : Stage) : List (Nat × Desc) :=
  (Dict.staged win).filter fun e =>
    decide (st.val e.1 ≠ (if e.2.acc = .wo then e.2.dflt else s.val win st.row e.1))

/-- Check 4 over the changed fields. -/
def State.changedRange (s : State) (win : Nat) (st : Stage) : Abort :=
  need ((s.changed win st).all fun e => rangeOk e.2 (st.val e.1)) abRange

/-- Store the staged values of a row and increase its generation. -/
def State.storeRow (s : State) (win : Nat) (st : Stage) : State :=
  let s := s.each (Dict.staged win) fun s e =>
    if e.2.acc = .wo then s else
    if e.2.keep then s.keepVal win st.row e.1 (st.val e.1) else s.setVal win st.row e.1 (st.val e.1)
  { s with dict := { s.dict with
      gens := Tbl.set s.dict.gens (objKey win st.row 0) ((s.gen win st.row + 1) % 2 ^ 32) } }

/-! ### The twin link as far as commits need it (14 R466, R473 to R477) -/

/-- Twin state, 2400h:04: 0 solo, 1 unpaired, 2 paired, 3 alone, 4 yielded, 5 joining. -/
def State.twinPhase (s : State) : Nat := s.ob 0x2400 4

/-- The modules are paired (14 R464). -/
def State.paired (s : State) : Bool := s.twin.twinMode && decide (s.twinPhase = 2 ∨ s.twinPhase = 5)

/-- The number of the next record to be sent. -/
def State.nextRec (s : State) : RecSeq := s.twin.nextSeq + BitVec.ofNat 32 s.twin.sendWait.length

/-- The peer is fit (14 R491); a line declared faulty is ignored (R495). -/
def State.peerFit (s : State) : Bool :=
  (s.ob 0x2400 6 = 1 || !s.twin.yieldIn) &&
  match s.twin.health with
  | some (u, h) => decide (s.now < u + 2 * sNs ∧ h.verdict = 0) && h.fit
  | none => false

/-- The module is silent: a storm warning runs, or it has yielded or stopped (14 Table 5, 15 Table 4). -/
def State.silent (s : State) : Bool := s.pwr.storm || s.twin.stopped

/-- The module runs its loader alone (17 R599). -/
def State.loaderOnly (s : State) : Bool := decide (s.ob 0x2300 4 = 3)

/-! ### Lull (15 R546 to R548) -/

/-- Something happened that ends the idle time of Lull. -/
def State.notIdle (s : State) : State := { s with pwr := { s.pwr with idleSince := s.now } }

/-- Ports that send low-power idle in Lull only leave it (04 R146). -/
def State.leaveLpi (s : State) : State :=
  s.each (s.eth.ports.filter fun e => e.2.lpi && decide (s.o 0x3001 e.1 0xB ≠ 2)) fun s e =>
    { s with eth := { s.eth with ports := Tbl.set s.eth.ports e.1 { e.2 with lpi := false } } }.emit (.lpi e.1 false)

/-- Thaw: every engine and HBM serve again, within 40 µs that the model does not show (log entry 72). -/
def State.thawNow (s : State) : State :=
  if s.pwr.lull then
    let s := s.leaveLpi
    let s := { s with pwr := { s.pwr with lull := false, idleSince := s.now, serveTimes := [] } }
    let s := (s.put 0x2220 0 3 0).add 0x2220 0 7 ((s.now - s.pwr.lullAt) / msNs)
    (s.put 0x2220 0 8 (s.draw % 40001)).drawn
  else s

/-- Data records of 14 Table 3. -/
def RecType.isData : RecType → Bool
  | .mirrorData | .twinPacket => true
  | _ => false

/-- Bytes of a record on the link: header, payload and the payload's check. -/
def recBytes (r : TwinRec) : Nat := 32 + (if r.bytes = 0 then 0 else r.bytes + 4)

/-- Unacknowledged bytes on a lane group. -/
def State.groupLoad (s : State) (g : Nat) : Nat :=
  sumNat ((s.twin.unacked.filter fun u => bit u.groups g).map fun u => recBytes u.rec_)

/-- The lane groups a record takes: all those in service, or in split mode the one with fewer unacknowledged bytes for
a data record (14 R475, R478). -/
def State.recGroups (s : State) (ty : RecType) : Nat :=
  if s.twin.groups = 3 ∧ s.twin.split = true ∧ RecType.isData ty = true then
    (if s.groupLoad 1 < s.groupLoad 0 then 2 else 1)
  else s.twin.groups

/-- Number and send one record; at most 65,536 records and 64 MiB stand unacknowledged (14 R474, R477). -/
def State.sendNow (s : State) (r : TwinRec) : State :=
  let g := s.recGroups r.typ
  let r := { r with epoch := s.ob 0x2402 6, seq := s.twin.nextSeq, ack := s.twin.expected }
  let u : SentRec := { rec_ := r, at_ := s.now, groups := g, first := s.now }
  let s := { s with twin := { s.twin with
    nextSeq := s.twin.nextSeq + 1, unacked := s.twin.unacked ++ [u], lastSent := some s.now } }
  let s := s.when (bit g 0) fun s => (s.bump 0x2420 0 3).perf 416 1
  let s := s.when (bit g 1) fun s => (s.bump 0x2420 1 3).perf 417 1
  s.emit (.twinRec g r)

/-- Whether the limits of R477 let a record go. -/
def State.sendRoom (s : State) (r : TwinRec) : Bool :=
  decide (s.twin.unacked.length < 65536 ∧
    sumNat (s.twin.unacked.map fun u => recBytes u.rec_) + recBytes r ≤ 67108864)

/-- Send a record to the peer, or keep it until the limits allow it. -/
def State.sendRec (s : State) (ty : RecType) (ctx : Nat) (ref : RecSeq) (bytes : Nat) (p : RecPayload) : State :=
  let r : TwinRec := { typ := ty, ctx := ctx, ref := ref, bytes := bytes, payload := p }
  if s.twin.sendWait.isEmpty && s.sendRoom r then s.sendNow r
  else { s with twin := { s.twin with sendWait := s.twin.sendWait ++ [r] } }

/-- Row windows and objects that are shelf settings (14 Table 1). -/
def isShelfSetting (idx sub : Nat) : Bool :=
  decide (idx = 0x2410 ∨ idx = 0x2412 ∨ idx = 0x2450 ∨ idx = 0x3040 ∨ idx = 0x3210 ∨ idx = 0x3220 ∨ idx = 0x3224 ∨
    idx = 0x3240 ∨ idx = 0x3230 ∨ idx = 0x5000) || decide (idx = 0x2402 ∧ sub = 1)

/-- A commit of a shelf setting while the modules are paired goes to the peer, and waits for its answer (14 R466). -/
def State.holdCommit (s : State) (sess win : Nat) (st : Stage) (object : Option (Nat × Val)) : State :=
  let fields := match object with
    | some o => [o]
    | none => (s.changed win st).map fun e => (e.1, st.val e.1)
  let seq := s.nextRec
  let h : HeldCommit := ⟨sess, win, st, object, seq, s.now⟩
  let s := { s with twin := { s.twin with held := s.twin.held ++ [h] } }
  s.sendRec .settings s.twin.configGen 0 (16 + 16 * fields.length) (.settings win st.row fields)

/-- A module of a shelf that is not paired applies it and increments its configuration generation (14 R466). -/
def State.configStep (s : State) (idx sub : Nat) : State :=
  if s.twin.twinMode && isShelfSetting idx sub then
    { s with twin := { s.twin with configGen := s.twin.configGen + 1 } }
  else s

/-- The codes of a commit up to the chapter's own check: access, value 1, generation, ranges (16 R559, R643). -/
def State.commitCodes (s : State) (x : Session) (win v : Nat) (st : Stage) : List Abort :=
  [writeAccess x win 0xFE, writeLength win 0xFE (.nat v), writeRange win 0xFE (.nat v),
   need (s.areaOpen win) abState,
   need (decide (s.gen win st.row = st.gen)) abState, s.changedRange win st]

/-- Whether the commit changes a persistent value. -/
def State.changesKept (s : State) (win : Nat) (st : Stage) : Bool := (s.changed win st).any fun e => e.2.keep

/-- The effect of an accepted commit: the row takes its values, then the chapter's effect `app`, which sees the state
before (`old`), then the stage holds the new values and the new generation. -/
def State.applyCommit (s : State) (sess win : Nat) (st : Stage) (app : Stage → State → State → State) : State :=
  let u := app st s (s.storeRow win st)
  match u.session? sess with
  | some x => u.setStage sess x win (u.loadStage win st.row)
  | none => u

/-- A commit of a session's stage (16 R559): `chk` is the chapter's check of the stage. A shelf setting waits for the
peer (14 R466). -/
def State.commitAs (s : State) (sess win v : Nat) (chk : Session → Stage → State → Abort)
    (app : Stage → State → State → State) : State :=
  s.withSession sess fun x =>
    let st := s.stage x win
    let c := firstCode (s.commitCodes x win v st ++ [chk x st s, s.storeCode (s.changesKept win st)])
    if c = 0 then
      if s.paired && isShelfSetting win 0 then s.holdCommit sess win st none
      else ((s.applyCommit sess win st app).configStep win 0).reply sess 0
    else s.refuse sess c

end Sys2Proof.Machine
end

