-- ==== Sys2Proof/WellFormed.lean ====
section
/-! DEFINITION. Which commands name units the module has: the checks the meanings make of their operands. -/

namespace Sys2Proof

/-- Barometers 0 to 63 (02 R51). -/
def isBarometer (n : Nat) : Bool := decide (n < 64)

/-- Logical ports 0 to 31 (04 R113). -/
def isPort (n : Nat) : Bool := decide (n < 32)

/-- Priorities and classes 0 to 7. -/
def isOctal (n : Nat) : Bool := decide (n < 8)

/-- Cages 0 to 7 (04 R117). -/
def isCage (n : Nat) : Bool := decide (n < 8)

/-- Fabric planes A to D (03 R77). -/
def isPlane (n : Nat) : Bool := decide (n < 4)

/-- Flows between attachments 0 to 67, sub-ports 0 to 3 (03 R75, "Planes and spraying"). -/
def isFlow (f : Flow) : Bool := decide (f.src < 68 ∧ f.dst < 68 ∧ f.sub < 4 ∧ f.cls < 8)

/-- Fabric attachments 0 to 67 (03 Table 2). -/
def isAttachment (n : Nat) : Bool := decide (n < 68)

/-- Queue pair indices (05 R154). -/
def isQpIndex (n : Nat) : Bool := decide (n < 131072)

/-- Transport slices (05 R155). -/
def isSlice (n : Nat) : Bool := decide (n < 4)

/-- I/O engines (05 R161). -/
def isEngine (n : Nat) : Bool := decide (n < 32)

/-- Tenants (03 Table 1). -/
def isTenant (n : Nat) : Bool := decide (n < 4096)

/-- Slots (00 R5). -/
def isSlot (n : Nat) : Bool := decide (n < 24)

/-- Arrays (09). -/
def isArray (n : Nat) : Bool := decide (n < 4)

/-- Near ports. -/
def isNearPort (n : Nat) : Bool := decide (n < 2)

/-- VFs 1 to 64 of a near port (12). -/
def isVf (n : Nat) : Bool := decide (1 ≤ n ∧ n ≤ 64)

/-- DMA channels (13). -/
def isChannel (n : Nat) : Bool := decide (n < 64)

/-- Lane groups A and B of the twin link (14). -/
def isGroup (n : Nat) : Bool := decide (n < 2)

/-- Namespace rows (06 Table 13). -/
def isNsRow (n : Nat) : Bool := decide (n < 8192)

/-- Host rows (06 Table 11). -/
def isHostRow (n : Nat) : Bool := decide (n < 2048)

/-- Parity accumulators hold contexts 0 to 1,023: 256 on each of four (09 R311). -/
def isContext (n : Nat) : Bool := decide (n < 1024)

/-- Management ports M0 and M1 (16 R565). -/
def isMgmt (n : Nat) : Bool := decide (n < 2)

/-- Twenty-four-bit numbers: PSNs and queue pair numbers (05 R154). -/
def isU24 (n : Nat) : Bool := decide (n < 2 ^ 24)

/-- A queue of an egress port or of a member, by class and tenant (07 R262). -/
def isQueueRef : QueueRef → Bool
  | .egress p c t => isPort p && decide (c < 8) && isTenant t
  | .member n c t => isSlot n && decide (c < 8) && isTenant t

/-- Values that the registers of a DMA channel hold (13 Table 1). -/
def isDmaSetup (u : DmaSetup) : Bool :=
  decide (u.head < 2 ^ 48 ∧ u.head % 32 = 0 ∧ 16 ≤ u.hopLimit ∧ u.hopLimit ≤ 16777215 ∧ 100 ≤ u.fetchTimeout ∧
    u.fetchTimeout ≤ 65535 ∧ u.cls ≤ 7)

/-- A command names units that the module has, and values that its registers and lines can carry. -/
def Instr.wf : Instr → Bool
  | .barometerSample _ samples => decide (samples.length = 64)
  | .barometerStatusWrite _ _ n _ => isBarometer n
  | .trimLoopPeriod _ _ _ => true
  | .emergencyHoldExpiry _ => true
  | .operatingPointWrite _ _ _ => true
  | .coreVoltagePinWrite _ _ _ => true
  | .energyWindowEnd _ _ _ _ => true
  | .clearTransitStatistics _ _ _ => true
  | .clearEnergyStatistics _ _ _ => true
  | .cellSend _ flow _ => isFlow flow
  | .cellArrival _ plane dst _ _ => isPlane plane && isAttachment dst
  | .resequencerTimeout _ flow => isFlow flow
  | .planeFault _ plane _ => isPlane plane
  | .planeStatusWrite _ _ plane _ => isPlane plane
  | .epochAdvance _ flow => isFlow flow
  | .portFlushComplete _ port => isPort port
  | .analysisPortWrite _ _ _ => true
  | .flowMirrorRuleCommit _ _ => true
  | .samplerRingRead _ _ _ => true
  | .portModeWrite _ _ port _ => isOctal port
  | .cagePresenceChange _ cage _ _ => isCage cage
  | .cageReadRetry _ cage _ => isCage cage
  | .linkUp _ port => isPort port
  | .linkDown _ port _ => isPort port
  | .flapHoldExpiry _ port => isPort port
  | .frameReceived _ port _ => isPort port
  | .pfcFrameReceived _ port _ _ _ => isPort port
  | .pauseFrameReceived _ port => isPort port
  | .pfcPauseExpiry _ port prio => isPort port && isOctal prio
  | .pfcRefresh _ port prio => isPort port && isOctal prio
  | .pdelayReqInterval _ port => isPort port
  | .pdelayReqReceived _ port => isPort port
  | .pdelayRespReceived _ port _ => isPort port
  | .headroomDecrease _ port prio => isPort port && isOctal prio
  | .pauseStorm _ port prio => isPort port && isOctal prio
  | .pauseRecoveryEnd _ port prio => isPort port && isOctal prio
  | .portSettingsCommit _ _ => true
  | .interfaceCommit _ _ => true
  | .arpRequestReceived _ port _ => isPort port
  | .neighbourSolicitationReceived _ port _ => isPort port
  | .echoRequestReceived _ port _ _ => isPort port
  | .ptpAnnounceReceived _ port _ => isPort port
  | .ptpSyncReceived _ port _ _ => isPort port
  | .ptpDelayRespReceived _ port _ => isPort port
  | .ptpAnnounceTimeout _ => true
  | .ptpPortReturn _ => true
  | .holdoverLimitExpiry _ => true
  | .lldpTransmit _ port => isPort port
  | .lldpduReceived _ port _ _ _ => isPort port
  | .egressFrameEnd _ port => isPort port
  | .cmReq _ port _ => isPort port
  | .cmRtu _ qpn => isU24 qpn
  | .cmRej _ qpn => isU24 qpn
  | .cmDreq _ qpn => isU24 qpn
  | .cmDrep _ qpn => isU24 qpn
  | .cmResponseTimeout _ idx => isQpIndex idx
  | .qpIndexFree _ idx => isQpIndex idx
  | .roceRequestPacket _ pkt => isPort pkt.port
  | .roceAck _ pkt => isPort pkt.port
  | .roceNak _ pkt => isPort pkt.port
  | .rdmaReadResponse _ pkt => isPort pkt.port
  | .cnpReceived _ pkt => isPort pkt.port
  | .localAckTimeout _ idx => isQpIndex idx
  | .rnrTimerExpiry _ idx => isQpIndex idx
  | .rnrWallTimeExpiry _ idx => isQpIndex idx
  | .ackCoalescingTimeout _ idx => isQpIndex idx
  | .sendGatePass _ idx => isQpIndex idx
  | .parkingStart _ slice => isSlice slice
  | .parkingCommit _ idx => isQpIndex idx
  | .contextRefetchComplete _ idx => isQpIndex idx
  | .alphaTimerExpiry _ idx => isQpIndex idx
  | .windowAtFloor _ idx => isQpIndex idx
  | .qpPinCommit _ _ => true
  | .qpWindowPinCommit _ _ => true
  | .qpForceError _ _ => true
  | .offenderLimitExpiry _ _ => true
  | .connect _ _ => true
  | .propertyGet _ _ => true
  | .propertySet _ _ => true
  | .keepAlive _ _ => true
  | .keepAliveExpiry _ cntlid => decide (cntlid < 65536)
  | .getLogPage _ _ => true
  | .identify _ _ => true
  | .abort _ _ => true
  | .setFeatures _ _ => true
  | .getFeatures _ _ => true
  | .asynchronousEventRequest _ _ => true
  | .formatNvm _ _ => true
  | .disconnect _ _ => true
  | .flush _ _ => true
  | .flushComplete _ _ => true
  | .write _ _ => true
  | .read _ _ => true
  | .compare _ _ => true
  | .compareAndWrite _ _ => true
  | .writeZeroes _ _ => true
  | .datasetManagement _ _ => true
  | .verify _ _ => true
  | .reservationRegister _ _ => true
  | .reservationReport _ _ => true
  | .reservationAcquire _ _ => true
  | .reservationRelease _ _ => true
  | .reservationBarrierComplete _ nsRow => isNsRow nsRow
  | .cryptoEraseComplete _ nsRow => isNsRow nsRow
  | .subsystemCommit _ _ => true
  | .hostNqnCommit _ _ => true
  | .grantCommit _ _ => true
  | .namespaceCommit _ _ => true
  | .namespaceCryptoErase _ _ => true
  | .listenerCommit _ _ => true
  | .tenantKeyImport _ _ _ => true
  | .tenantKeyDestroy _ _ => true
  | .hostLimitExpiry _ hostRow => isHostRow hostRow
  | .engineCapsuleTake _ engine => isEngine engine
  | .commandAdmit _ tenant => isTenant tenant
  | .dirtyCeilingAdmit _ => true
  | .tenantSchedulingCommit _ _ => true
  | .classPriorityWrite _ _ cls _ => isOctal cls
  | .memberSubmit _ slot => isSlot slot
  | .gateEntryEnd _ port => isPort port
  | .gateSettingsCommit _ _ => true
  | .gateListEntryCommit _ _ => true
  | .gateListChange _ port => isPort port
  | .queueStarved _ q => isQueueRef q
  | .backgroundShareUpdate _ => true
  | .backgroundTargetUpdate _ => true
  | .minuteClose _ => true
  | .pageSeal _ => true
  | .ledgerVaultWrite _ _ => true
  | .billingAcknowledge _ _ _ => true
  | .counterLatchRead _ _ n => decide (n < 1024)
  | .arrayCreate _ _ => true
  | .arrayDelete _ _ => true
  | .gatherTimeExpiry _ array _ => isArray array
  | .flushStart _ array _ => isArray array
  | .journalBlockWrite _ array => isArray array
  | .journalBlockDurable _ array _ => isArray array
  | .accumulationComplete _ ctx => isContext ctx
  | .accumulationFailed _ ctx => isContext ctx
  | .zeroingRowComplete _ array _ => isArray array
  | .zeroingWatermarkWrite _ array => isArray array
  | .scrubRow _ array _ _ => isArray array
  | .memberStatisticsUpdate _ => true
  | .readAround _ slot _ => isSlot slot
  | .memberTimeout _ slot _ => isSlot slot
  | .slownessEvaluation _ => true
  | .memberEject _ _ => true
  | .rebuildRow _ array _ => isArray array
  | .replacementAccept _ _ => true
  | .arrayRecovery _ array _ => isArray array
  | .acknowledgeLoss _ _ => true
  | .driveInsertion _ slot => isSlot slot
  | .driveRemoval _ slot => isSlot slot
  | .clearPresenceFault _ _ => true
  | .ifdetSample _ slot _ => isSlot slot
  | .perstRelease _ slot => isSlot slot
  | .slotLinkUp _ slot rate width => isSlot slot && [16, 32, 64].contains rate && [1, 2, 4].contains width
  | .linkTrainingTimeout _ slot => isSlot slot
  | .driveReady _ slot _ => isSlot slot
  | .readyTimeout _ d => isSlot d.slot
  | .slotLinkDown _ slot => isSlot slot
  | .aerErrorMessage _ slot _ => isSlot slot
  | .dpcRelease _ slot => isSlot slot
  | .slotCompletion _ slot _ _ _ _ => isSlot slot
  | .completionTimeout _ slot _ => isSlot slot
  | .completionEntry _ slot _ => isSlot slot
  | .nvmeCommandTimeout _ slot _ => isSlot slot
  | .abortTimeout _ slot _ => isSlot slot
  | .resetLadderStep _ slot _ => isSlot slot
  | .driveUpstreamWrite _ slot _ _ _ _ => isSlot slot
  | .driveUpstreamRead _ slot _ _ => isSlot slot
  | .smbusHealthPoll _ slot _ _ => isSlot slot
  | .smbusStuckRecovery _ slot => isSlot slot
  | .smartPoll _ slot critical _ _ _ => isSlot slot && decide (critical < 256)
  | .driveAsyncEvent _ slot _ => isSlot slot
  | .slotAdminStateWrite _ _ => true
  | .npPerstDeassert _ port => isNearPort port
  | .npReset _ port _ => isNearPort port
  | .npConfigRequest _ port func offset _ => isNearPort port && decide (func ≤ 64 ∧ offset < 4096 ∧ offset % 4 = 0)
  | .vfDoorbell _ port vf offset value => isNearPort port && decide (vf ≤ 64 ∧ value < 2 ^ 32 ∧ offset < (if vf = 0 then 2 ^ 20 else 2 ^ 14))
  | .vfCcWrite _ port vf value => isNearPort port && isVf vf && decide (value < 2 ^ 32)
  | .createIoSubmissionQueue _ _ => true
  | .createIoCompletionQueue _ _ => true
  | .deleteIoSubmissionQueue _ _ => true
  | .deleteIoCompletionQueue _ _ => true
  | .npCompletion _ port _ _ _ _ _ => isNearPort port
  | .npCompletionTimeout _ port _ => isNearPort port
  | .npBar2Access _ port _ _ _ _ => isNearPort port
  | .inboundEntryCommit _ _ => true
  | .mailboxDoorbell _ port len _ => isNearPort port && decide (len < 8192)
  | .mailboxAbort _ port => isNearPort port
  | .vfBusMasterClear _ port vf => isNearPort port && isVf vf
  | .vfFlr _ port vf => isNearPort port && isVf vf
  | .pf0Flr _ port => isNearPort port
  | .vfEnableClear _ port => isNearPort port
  | .vfBindingCommit _ _ => true
  | .doeDiscovery _ port _ => isNearPort port
  | .getVersion _ port => isNearPort port
  | .getCapabilities _ port => isNearPort port
  | .negotiateAlgorithms _ port _ => isNearPort port
  | .getDigests _ port => isNearPort port
  | .getCertificate _ port _ _ _ => isNearPort port
  | .challenge _ port _ _ => isNearPort port
  | .getMeasurements _ port _ _ _ => isNearPort port
  | .dmaStart _ ch _ => isChannel ch
  | .dmaExtend _ ch => isChannel ch
  | .dmaDisable _ ch => isChannel ch
  | .dmaHaltClear _ ch => isChannel ch
  | .dmaDescriptorFetched _ ch _ _ => isChannel ch
  | .dmaDescriptorComplete _ ch => isChannel ch
  | .dmaTransferError _ ch _ addr => isChannel ch && decide (addr < 2 ^ 48)
  | .dmaFetchTimeout _ ch => isChannel ch
  | .copyJobStart _ _ => true
  | .copyJobExtend _ _ => true
  | .copyJobDisable _ _ => true
  | .copyJobClear _ _ => true
  | .helloSend _ => true
  | .twinRecordCopy _ group _ _ _ => isGroup group
  | .hello _ _ => true
  | .heartbeat _ _ => true
  | .acknowledge _ _ => true
  | .mirrorData _ _ => true
  | .mirrorConfirm _ _ => true
  | .mirrorRelease _ _ => true
  | .reject _ _ => true
  | .settings _ _ => true
  | .settingsResult _ _ => true
  | .settingsResultTimeout _ => true
  | .capsule _ _ => true
  | .qpState _ _ => true
  | .twinPacket _ _ => true
  | .yield _ _ => true
  | .takeoverComplete _ _ => true
  | .ownershipTransfer _ _ => true
  | .healthReport _ _ => true
  | .driveRequest _ _ => true
  | .driveReply _ _ => true
  | .key _ _ => true
  | .keyReply _ _ => true
  | .acknowledgeSendTimer _ => true
  | .heartbeatSendTimer _ => true
  | .twinRetransmit _ _ => true
  | .twinSettleExpiry _ _ => true
  | .laneGroupOutOfService _ group => isGroup group
  | .laneGroupRetrain _ group => isGroup group
  | .twinLinkLost _ => true
  | .arrayHomeCommit _ _ => true
  | .interfaceHomeCommit _ _ => true
  | .tenantTwinCommit _ _ => true
  | .selfVerdictEvaluation _ enginesOut _ => decide (enginesOut ≤ 32)
  | .yieldRecheck _ => true
  | .yieldInAssert _ => true
  | .takeoverAnnounce _ => true
  | .clearYieldLineFault _ _ _ => true
  | .forceYield _ _ _ => true
  | .forceTakeover _ _ _ => true
  | .rejoinReset _ => true
  | .handBack _ => true
  | .standbyShadowRead _ slot _ => isSlot slot
  | .standbyParityVerify _ array _ _ => isArray array
  | .healthReportSend _ => true
  | .voltageTrendDaily _ => true
  | .yieldWatchdogExpiry _ => true
  | .lockstepMismatch _ => true
  | .moduleReset _ _ => true
  | .boot _ _ => true
  | .vinQualified _ _ => true
  | .inputPowerGood _ => true
  | .inrushFaultTimer _ => true
  | .earlyShort _ => true
  | .inputSquallTrip _ => true
  | .overvoltageLockout _ => true
  | .overvoltageRelease _ => true
  | .undervoltageLockout _ => true
  | .inputRetry _ => true
  | .stormWarning _ _ => true
  | .vaultCopyComplete _ => true
  | .stormRestart _ => true
  | .stormThresholdWrite _ _ _ => true
  | .pfwarnReadbackFault _ => true
  | .clearPfwarnFault _ _ _ => true
  | .slotRampStart _ slot => isSlot slot
  | .slotPowerGood _ slot => isSlot slot
  | .slotRampTimeout _ slot => isSlot slot
  | .slotEarlyShort _ slot => isSlot slot
  | .slotSquallTrip _ slot => isSlot slot
  | .slotOvercurrent _ slot => isSlot slot
  | .auxiliaryOvercurrent _ slot => isSlot slot
  | .slotRetry _ slot => isSlot slot
  | .slotLatchClear _ _ => true
  | .slotPowerOff _ _ => true
  | .slotOverdrawCheck _ slot _ => isSlot slot
  | .holdupForecast _ _ => true
  | .dirtyCeilingRise _ => true
  | .capacitanceMeasurement _ _ => true
  | .copyRegionErase _ region => decide (region < 2)
  | .vaultTest _ _ _ => true
  | .lullEntry _ => true
  | .thaw _ _ => true
  | .openRequest _ _ transport => decide (transport ≤ 2)
  | .authenticate _ _ _ _ _ _ => true
  | .alonardRead _ _ _ _ _ => true
  | .alonardWrite _ _ _ _ _ => true
  | .subscribe _ _ _ _ _ => true
  | .keepalive _ _ _ => true
  | .close _ _ _ => true
  | .sessionIdleTimeout _ _ => true
  | .lockoutExpiry _ _ => true
  | .rowSelect _ _ _ _ => true
  | .rowCommit _ _ _ _ => true
  | .objectWrite _ _ _ _ _ => true
  | .restoreDefaults _ _ _ => true
  | .alonardEnableWrite _ _ _ => true
  | .accountCommit _ _ => true
  | .acknowledgeErrors _ _ _ => true
  | .managementFrameReceived _ port _ => decide (port < 2)
  | .supervisionFrameSend _ => true
  | .managementLanLost _ port => decide (port < 2)
  | .sdoRequest _ _ => true
  | .usdoRequest _ _ => true
  | .sdoTransferTimeout _ => true
  | .nmtStop _ => true
  | .nmtResetNode _ => true
  | .nmtResetCommunication _ => true
  | .canHeartbeatSend _ => true
  | .canNodeIdConflict _ => true
  | .canNodeIdWrite _ _ _ => true
  | .canBusOff _ => true
  | .imageBegin _ _ _ => true
  | .imageData _ _ _ _ _ => true
  | .imageAbort _ _ _ => true
  | .imageTransferTimeout _ => true
  | .slotRewriteComplete _ => true
  | .activationSchedule _ _ _ => true
  | .activationCancel _ _ _ => true
  | .activationDue _ => true
  | .activationWaitTimeout _ => true
  | .activationFlushTimeout _ => true
  | .drainStart _ => true
  | .drainTimeout _ => true
  | .confirm _ _ _ => true
  | .trialTimeExpiry _ => true
  | .revert _ _ _ => true
  | .attestationNonceWrite _ _ _ => true
  | .attestationReportRead _ _ => true
  | .thermalWarning _ _ => true
  | .thermalShutdown _ _ => true
  | .thermalRestart _ _ => true
  | .indicatorFrame _ _ _ => true
  | .lampTest _ _ _ => true
  | .lampTestEnd _ => true
  | .clearFaultyInputs _ _ _ => true
  | .barometerSlowestRead _ _ n => isBarometer n
  | .autoNegotiationComplete _ port _ => isPort port
  | .ptpFollowUpReceived _ port _ => isPort port
  | .ptpDelayReqSend _ => true
  | .controllerFatalStatus _ slot => isSlot slot
  | .activityPulse _ slot => isSlot slot
  | .nearPortLinkUp _ port width rate => isNearPort port && decide (1 ≤ width ∧ width ≤ 8) && [16, 32, 64].contains rate
  | .laneGroupInService _ group => isGroup group
  | .runAloneWaitExpiry _ => true
  | .yieldInDeassert _ => true
  | .holdupPathTrip _ => true
  | .copyCutOff _ => true
  | .thermalWarningClear _ _ => true
  | .managementLinkChange _ port state => decide (port < 2 ∧ state < 3)
  | .managementSidebandChange _ port _ _ => decide (port < 2)

end Sys2Proof
end

