-- ==== Sys2Proof/Machine/CoreTiming.lean ====
section
/-! DEFINITION. The self-timed core (02): barometers, the trim loop, the operating point, the two limit factors. -/

namespace Sys2Proof.Machine

/-- The SC reference, 2004h (02 R47). -/
def scRef : Nat := 156

/-- Barometers, their planes and pairs (02 R51): the barometers of `n`'s plane or block (log entry 139). -/
def barometerGroup (n : Nat) : List Nat :=
  if n < 32 then (List.range 8).map fun p => n / 8 * 8 + p else [n - n % 2, n - n % 2 + 1]

/-- Status of barometer `n` (2012h): 0 usable, 1 faulty, 2 excluded. -/
def State.barStatus (s : State) (n : Nat) : Nat := s.ob 0x2012 (n + 1)

/-- Usable barometers among `ns`. -/
def State.usableOf (s : State) (ns : List Nat) : List Nat := ns.filter fun n => decide (s.barStatus n = 0)

/-- All usable barometers. -/
def State.usable (s : State) : List Nat := s.usableOf (List.range 64)

/-- Samples of barometer `n`, newest first. -/
def State.barSamples (s : State) (n : Nat) : List Nat := Tbl.get [] s.core.samples n

/-- The mean of the last 100 samples (02 R52). -/
def State.barMean (s : State) (n : Nat) : Rat :=
  let xs := s.barSamples n
  if xs.isEmpty then 0 else (sumNat xs : Rat) / (xs.length : Rat)

/-- d: the slowest mean reading over `ns`. -/
def State.slowestMean (s : State) (ns : List Nat) : Rat := (ns.map s.barMean).foldl max 0

/-- d_peak: the slowest sample of the last period over the usable barometers (log entry 8). -/
def State.peakSample (s : State) : Nat := maxNat (s.usable.map fun n => maxNat (s.barSamples n))

/-- d of 02 R50: the slowest reading among the plane barometers in use; excluded ones are ignored (02 R54; log
entry 10). -/
def State.planeD (s : State) : Rat := s.slowestMean (s.usableOf (List.range 32))

/-- The junction temperature last measured, in 0.1 °C (2006h:00). -/
def State.junction (s : State) : Rat := (s.val 0x2006 0 0).toRat

/-- Guaranteed fabric capacity per direction in Tb/s, 2030h:01 (02 R50); 0 before any reading. -/
def State.fabricCapacity (s : State) : Rat := if s.planeD = 0 then 0 else 192 / 10 * 156 / s.planeD

/-- Class 0 transit bound in ns, 2030h:02 (02 R50). -/
def State.transitBound (s : State) : Rat := 294 / 10000 * s.planeD

/-- The operating point is within the range of 02 R48: no usable barometer reads slower than the SC reference, the core voltage is
within the trim range, and the hottest junction within 0 to 105.0 °C (18 R617, log entry 9). -/
def State.inRange (s : State) : Bool :=
  decide (s.slowestMean s.usable ≤ (scRef : Rat)) && decide (6400 ≤ s.vcore ∧ s.vcore ≤ 8200) &&
    decide (0 ≤ s.junction ∧ s.junction ≤ 1050)

/-- The two neighbours of a barometer (02 R53). -/
def barometerNeighbours (n : Nat) : List Nat :=
  if n < 32 then [n / 8 * 8 + (n % 8 + 7) % 8, n / 8 * 8 + (n % 8 + 1) % 8]
  else [if n % 2 = 0 then n + 1 else n - 1, n - 32]

/-- The concurrent sample `x` differs by more than 25 % from that of a neighbour, `y`. -/
def differs25 (x y : Nat) : Bool := decide (y < 4 * (if x ≤ y then y - x else x - y))

/-- Whether a sample of barometer `n` counts toward its run of bad samples (02 R53). -/
def State.badSample (s : State) (samples : List Nat) (n : Nat) : Bool :=
  let x := samples.getD n 0
  let nb := s.usableOf (barometerNeighbours n)
  decide (x < 60 ∨ 400 < x) || (!nb.isEmpty && nb.all fun m => differs25 x (samples.getD m 0))

/-- 02 R55: more than four barometers out of use, or a plane with fewer than two usable ones. -/
def State.cannotVerify (s : State) : Bool :=
  decide (4 < 64 - s.usable.length) ||
    (List.range 4).any fun p => decide ((s.usableOf (barometerGroup (8 * p))).length < 2)

/-- Enter the unverified state where its condition holds (02 R55): ceiling voltage, flag, event. -/
def State.checkVerified (s : State) : State :=
  if s.cannotVerify && decide (s.ob 0x2002 6 = 0) then
    ({ s.put 0x2002 0 6 1 with vcore := 8200 }).raise .coreUnverified
  else s

/-- The slowest reading in use dropped from one state to the next (02 Table 4). -/
def slowestDropped (before after : State) : Bool :=
  decide (after.slowestMean after.usable < before.slowestMean before.usable)

/-- Take one sample of barometer `n` (02 R52, R53); an excluded one is shown and otherwise ignored (R54). A barometer declared faulty while
it is the slowest is noted for the next period (02 Table 4). -/
def State.takeSample (samples : List Nat) (before : State) (s : State) (n : Nat) : State :=
  let x := samples.getD n 0
  let run := if before.badSample samples n && decide (s.barStatus n ≠ 2) then Tbl.get 0 s.core.badRun n + 1 else 0
  let s := { s with core := { s.core with
      samples := Tbl.set s.core.samples n ((x :: s.barSamples n).take 100)
      badRun := Tbl.set s.core.badRun n run } }
  let s := s.put 0x2011 0 (n + 1) (max (s.ob 0x2011 (n + 1)) x)
  if decide (100 ≤ run) && decide (s.barStatus n ≠ 1) then
    let u := s.put 0x2012 0 (n + 1) 1
    { u with core := { u.core with justExcluded := u.core.justExcluded || slowestDropped s u } }.raise .barometerFaulty [n]
  else s

/-- BAROMETER_SAMPLE: the 64 concurrent samples of one microsecond. -/
def barometerSample (samples : List Nat) (s : State) : State :=
  (s.each (List.range 64) (State.takeSample samples s)).checkVerified

def execBarometerSample (t : Nat) (samples : List Nat) (s : State) : Res :=
  actVolt t (decide (samples.length = 64)) s (barometerSample samples)

/-- 02 R54: what a write of `v` to the status of barometer `n` is refused for. -/
def barometerStatusCode (n v : Nat) (s : State) : Abort :=
  if s.barStatus n = 1 then need (decide (v = 2)) abState
  else if v = 2 ∧ s.barStatus n = 0 then need (decide (2 < (s.usableOf (barometerGroup n)).length)) abState
  else 0

/-- The effect of an accepted write (02 R54): a faulty barometer keeps reading 1 and only its persistent status
changes; exclusion may enter R55. -/
def setBarometerStatus (n v : Nat) (s : State) : State :=
  if s.barStatus n = 1 then
    { s with dict := { s.dict with store := Tbl.set s.dict.store (objKey 0x2012 0 (n + 1)) (.nat v) } }
  else (s.keepVal 0x2012 0 (n + 1) (.nat v)).checkVerified

/-- BAROMETER_STATUS_WRITE. -/
def barometerStatusWrite (sess n v : Nat) (s : State) : State :=
  s.writeAs sess 0x2012 (n + 1) (.nat v) (barometerStatusCode n v) (setBarometerStatus n v)

def execBarometerStatusWrite (t sess n v : Nat) (s : State) : Res :=
  actVolt t (isBarometer n) s (barometerStatusWrite sess n v)

/-- BAROMETER_SLOWEST_READ: the slowest sample since the last read, after which the current sample stands (02 R52). -/
def barometerSlowestRead (sess n : Nat) (s : State) : State :=
  s.withSession sess fun _ =>
    (s.put 0x2011 0 (n + 1) ((s.barSamples n).headD 0)).reply sess 0 (some (.nat (s.ob 0x2011 (n + 1))))

def execBarometerSlowestRead (t sess n : Nat) (s : State) : Res := act t (isBarometer n) s (barometerSlowestRead sess n)

/-! ### The trim loop (02 R56 to R64) -/

/-- The operating point in force: energy-lean during a storm warning and in Lull (02 R62). -/
def State.pointNow (s : State) : Nat := if s.pwr.storm || s.pwr.lull then 0 else s.ob 0x2000 0

/-- The effective target of a point in ps: the lesser of its target and the SC reference less guard and deadband
(02 R60). -/
def State.effectiveTarget (s : State) (point : Nat) : Nat :=
  min (s.ob 0x2001 (point + 1)) (scRef - s.ob 0x2003 4 - s.ob 0x2003 3)

/-- One step of the loop and the emergency step, in 0.1 mV: 2003h:02 is in units of 0.1 mV, 2003h:05 in mV. -/
def State.stepUnits (s : State) : Int := (s.ob 0x2003 2 : Nat)
def State.emergencyUnits (s : State) : Int := 10 * (s.ob 0x2003 5 : Nat)

/-- The pin in 0.1 mV, rounded up to a step (2002h:02). -/
def State.pinUnits (s : State) : Nat := (s.ob 0x2002 2 * 10 + 24) / 25 * 25

/-- v_goal before the floor rule (02 R58). -/
def State.goalBeforeFloor (s : State) (powerMw : Nat) (tj : Int) (d : Rat) : Int :=
  let v : Int := s.vcore
  let point := s.pointNow
  if point = 2 then
    if s.ob 0x2003 6 * 1000 < powerMw ∨ 1000 < tj then v - s.stepUnits else 8200
  else
    let target : Rat := (s.effectiveTarget point : Nat)
    let band : Rat := (s.ob 0x2003 3 : Nat)
    if s.ob 0x2002 2 ≠ 0 ∧ s.pwr.storm = false ∧ s.pwr.lull = false then (s.pinUnits : Int)
    else if target + band < d then v + s.stepUnits
    else if d < target - band then v - s.stepUnits
    else v

/-- The floor rule's condition: the slowest sample is above the SC reference less the guard (02 R59). -/
def State.belowFloor (s : State) : Bool := decide (scRef - s.ob 0x2003 4 < s.peakSample)

/-- Whether the emergency hold of 2003h:08 is running (02 R60). -/
def State.inHold (s : State) : Bool :=
  match s.core.lastEmergency with
  | some l => decide (s.now < l + s.ob 0x2003 8 * 1000)
  | none => false

/-- v_goal after the floor rule, the hold, and the rule that no step down shares a period with the exclusion of the slowest
barometer (02 R58, R60, Table 4). -/
def State.goal (s : State) (powerMw : Nat) (tj : Int) (d : Rat) : Int :=
  let g := s.goalBeforeFloor powerMw tj d
  let v : Int := s.vcore
  let g := if s.belowFloor then max g (v + s.emergencyUnits) else if s.inHold then max g v else g
  if s.core.justExcluded then max g v else g

/-- Clamp to the trim range (02 R57). -/
def clampVolt (g : Int) : Nat := (max 6400 (min 8200 g)).toNat

/-- Count an emergency step and raise trim-unsteady when more than ten fall within 1 s, at most once a minute
(02 R60). -/
def State.countEmergency (s : State) : State :=
  let times := s.now :: within s.now sNs s.core.emergencyTimes
  let s := { s.bump 0x2003 0 7 with core := { s.core with lastEmergency := some s.now, emergencyTimes := times } }
  let quiet := match s.core.lastUnsteady with
    | some l => decide (l + 60 * sNs ≤ s.now)
    | none => true
  if decide (10 < times.length) && quiet then
    ({ s with core := { s.core with lastUnsteady := some s.now } }).raise .trimUnsteady
  else s

/-- Whether a pin is in force (02 R58). -/
def State.pinInForce (s : State) : Bool :=
  decide (s.ob 0x2002 2 ≠ 0 ∧ s.pointNow ≠ 2) && !s.pwr.storm && !s.pwr.lull

/-- Pin overridden: the floor rule raised the goal above a pin in force (02 R58, Table 4). -/
def State.overridePin (s : State) (goal : Int) : State :=
  if s.pinInForce && s.belowFloor && decide ((s.pinUnits : Int) < goal) then
    let s := s.put 0x2002 0 5 1
    if s.core.pinEventDone then s
    else ({ s with core := { s.core with pinEventDone := true } }).raise .pinOverridden
  else s

/-- The core-slow flag and event after a period, as the algorithm of R58 states them (02 R58, R61). -/
def State.coreSlowFlag (s : State) (d : Rat) : State :=
  if s.vcore = 8200 ∧ (scRef : Rat) < d then (s.put 0x2002 0 7 1).raise .coreSlow
  else if d ≤ ((scRef - s.ob 0x2003 4 : Nat) : Rat) then s.put 0x2002 0 7 0
  else s

/-- Every barometer has taken 100 samples, so that the loop runs (02 R57). -/
def State.trimReady (s : State) : Bool := (List.range 64).all fun n => decide (100 ≤ (s.barSamples n).length)

/-- TRIM_LOOP_PERIOD (02 R58): power of the module without slots in mW, hottest junction sensor in 0.1 °C. -/
def trimPeriod (powerMw : Nat) (tj : Int) (s : State) : State :=
  let s : State := s.setVal 0x2200 0 3 (.real ((powerMw : Rat) / 1000))
  let s : State := { s.setVal 0x2006 0 0 (.int tj) with core := { s.core with tjMax := tj } }
  if s.ob 0x2002 6 = 1 then { s with vcore := 8200 }
  else if s.trimReady then
    let d := s.slowestMean s.usable
    let g := s.goal powerMw tj d
    let s := if s.belowFloor then s.countEmergency else s
    let s := s.overridePin g
    let s := { s with vcore := clampVolt g, core := { s.core with justExcluded := false } }
    s.coreSlowFlag d
  else s

def execTrimLoopPeriod (t powerMw : Nat) (tj : Int) (s : State) : Res := actVolt t true s (trimPeriod powerMw tj)

/-- EMERGENCY_HOLD_EXPIRY (02 R60): the hold of 2003h:08 after the last emergency step has ended. -/
def emergencyHoldExpiry (s : State) : State :=
  if s.inHold then s else { s with core := { s.core with lastEmergency := none } }

def execEmergencyHoldExpiry (t : Nat) (s : State) : Res := act t true s emergencyHoldExpiry

/-- OPERATING_POINT_WRITE: the new point takes effect at the next loop period (02 R64). -/
def operatingPointWrite (sess v : Nat) (s : State) : State :=
  s.writeAs sess 0x2000 0 (.nat v) (fun _ => 0) (State.setObj 0x2000 0 (.nat v))

def execOperatingPointWrite (t sess v : Nat) (s : State) : Res := act t true s (operatingPointWrite sess v)

/-- The effect of a pin write: 2002h:05 clears (02 Table 5), and the next override raises its event again. -/
def setVoltagePin (v : Nat) (s : State) : State :=
  let s := (s.keepVal 0x2002 0 2 (.nat v)).put 0x2002 0 5 0
  { s with core := { s.core with pinEventDone := false } }

/-- CORE_VOLTAGE_PIN_WRITE (02 R72). -/
def coreVoltagePinWrite (sess v : Nat) (s : State) : State :=
  s.writeAs sess 0x2002 2 (.nat v) (fun _ => 0) (setVoltagePin v)

def execCoreVoltagePinWrite (t sess v : Nat) (s : State) : Res := act t true s (coreVoltagePinWrite sess v)

/-! ### Limit factors (02 R65 to R71) -/

/-- d_local of a probe toward destination `a` on `plane` (02 R65). -/
def State.dLocal (s : State) (plane a : Nat) : Rat :=
  let n := 8 * plane + a % 8
  if s.barStatus n = 0 then s.barMean n else s.slowestMean (s.usableOf (barometerGroup (8 * plane)))

/-- Account the transit of a probe cell in ps (02 R65 to R67, R70): its factor is `transit / (21 d_local)`. -/
def State.probeTransit (s : State) (plane dst transitPs : Nat) : State :=
  let d := s.dLocal plane dst
  if d = 0 then s
  else
    let f : Rat := (transitPs : Rat) / (21 * d)
    let minute := s.ptpNow / (60 * sNs : Nat)
    let old := if s.core.transitMinute = minute then (s.val 0x2020 0 2).toRat else 0
    let s := { s with core := { s.core with transitMinute := minute } }
    let s := (s.setVal 0x2020 0 1 (.real f)).setVal 0x2020 0 2 (.real (max old f))
    let s := s.setVal 0x2020 0 3 (.real (max (s.val 0x2020 0 3).toRat f))
    let s := s.setVal 0x2020 0 4 (.real ((transitPs : Rat) / 1000))
    if 14 / 10 < f then (s.bump 0x2020 0 7).raise .limitFactorExceeded [0] else s

/-- 2020h:02 as it reads now: the maximum of the current minute of PTP time (02 R71). -/
def State.minuteFactor (s : State) : Val :=
  if s.core.transitMinute = s.ptpNow / (60 * sNs : Nat) then s.val 0x2020 0 2 else .real 0

/-- The mean core voltage over the energy window, in V (02 R68): the mean over time since the window began. -/
def State.meanVolt (s : State) : Rat :=
  if s.now ≤ s.core.windowFrom then (s.vcore : Rat) / 10000
  else ((s.core.voltArea + s.vcore * (s.now - s.core.voltSince) : Nat) : Rat) / ((s.now - s.core.windowFrom : Nat) : Rat) / 10000

/-- Cells that have crossed a plane in the energy window, and the capacitance they charged in fF: 1,152 bits of each, by its
attachment pair (02 R68). -/
def State.windowCells (s : State) : Nat := sumNat (s.fab.pairs.map Prod.snd)
def State.windowFf (s : State) : Nat := sumNat (s.fab.pairs.map fun e => 1152 * e.2 * Config.wirePair (e.1 / 128) (e.1 % 128))

/-- The window carries at least a quarter of the fabric's capacity of R50 over the time of 2021h:05 (02 R69). -/
def State.windowDefined (s : State) : Bool :=
  let bits : Rat := (1152 * s.windowCells : Nat)
  decide (s.fabricCapacity * 1000 * (s.ob 0x2021 5 * msNs : Nat) / 4 ≤ bits) && decide (0 < s.windowCells)

/-- The next energy window begins. -/
def State.freshWindow (s : State) : State :=
  { s with fab := { s.fab with pairs := [] }
           core := { s.core with voltArea := 0, voltSince := s.now, windowFrom := s.now } }

/-- ENERGY_WINDOW_END (02 R68 to R70): `energyFj` is what the four fabric branches of the core rail drew over the window, in fJ. -/
def energyWindowEnd (energyFj : Nat) (s : State) : State :=
  let bits : Rat := (1152 * s.windowCells : Nat)
  let minFj : Rat := (s.windowFf : Nat) * s.meanVolt * s.meanVolt
  let defined := s.windowDefined
  let u := s.setVal 0x2021 0 3 (.real (if s.windowCells = 0 then 0 else energyFj / bits / 1000))
  let u := (u.setVal 0x2021 0 4 (.real (if s.windowCells = 0 then 0 else minFj / bits / 1000))).freshWindow
  if defined then
    let f : Rat := energyFj / minFj
    let u := u.setVal 0x2021 0 1 (.real f)
    let u := u.setVal 0x2021 0 2 (.real (max (u.val 0x2021 0 2).toRat f))
    if 19 / 10 < f then (u.bump 0x2021 0 7).raise .limitFactorExceeded [1] else u
  else u.setVal 0x2021 0 1 (.real 0)

/-- The measure includes leakage and handshake control energy: it is the sum of what the wires' charging, leakage and handshake control
drew through the four branches (02 R68). -/
def execEnergyWindowEnd (t chargeFj leakageFj controlFj : Nat) (s : State) : Res :=
  act t true s (energyWindowEnd (chargeFj + leakageFj + controlFj))

/-- Writing 1 to 2020h:06 clears 2020h:03 and 2020h:07 (02 R71). -/
def clearTransit (s : State) : State := (s.setVal 0x2020 0 3 (.real 0)).put 0x2020 0 7 0

/-- CLEAR_TRANSIT_STATISTICS. -/
def clearTransitStatistics (sess v : Nat) (s : State) : State :=
  s.writeAs sess 0x2020 6 (.nat v) (fun _ => 0) clearTransit

def execClearTransitStatistics (t sess v : Nat) (s : State) : Res := act t true s (clearTransitStatistics sess v)

/-- Writing 1 to 2021h:06 clears 2021h:02 and 2021h:07 (02 R71). -/
def clearEnergy (s : State) : State := (s.setVal 0x2021 0 2 (.real 0)).put 0x2021 0 7 0

/-- CLEAR_ENERGY_STATISTICS. -/
def clearEnergyStatistics (sess v : Nat) (s : State) : State :=
  s.writeAs sess 0x2021 6 (.nat v) (fun _ => 0) clearEnergy

def execClearEnergyStatistics (t sess v : Nat) (s : State) : Res := act t true s (clearEnergyStatistics sess v)

end Sys2Proof.Machine
end

