-- ==== Sys2Proof/Machine/MeterOps.lean ====
section
/-! DEFINITION. What counts when a frame or a completion leaves: the tenant meters (08 R277, R278), the Class 0 measurement
(07 R269 to R272), and the transmission instants the transport keeps (05 R175). -/

namespace Sys2Proof.Machine

/-- A minute of PTP time, in ns, and the minute a time falls in (08 R281). -/
def minuteNs : Int := 60000000000
def minuteOf (t : Int) : Nat := (t / minuteNs).toNat

/-- Key of a meter's count. -/
def meterKey (minute tenant m : Nat) : Nat := (minute * 4096 + tenant) * 16 + m

/-- Add to one meter of a record list. -/
def addRecord (rs : List TenantRecord) (tenant m n : Nat) : List TenantRecord :=
  let bump (r : TenantRecord) : TenantRecord :=
    { r with meters := r.meters.mapIdx fun i v => if i = m then v + n else v }
  if rs.any fun r => decide (r.tenant = tenant) then
    rs.map fun r => if r.tenant = tenant then bump r else r
  else
    let r := bump { tenant := tenant, meters := List.replicate 16 0 }
    rs.filter (fun x => decide (x.tenant < tenant)) ++ r :: rs.filter (fun x => decide (tenant < x.tenant))

/-- Count on a counting meter of a tenant at PTP time `ts`: in the page whose interval holds that time, whether open, still
to open or not yet sealed; past a seal it is a late update of the open page (08 R277, R282). -/
def State.meterAddAt (s : State) (ts : Int) (tenant m n : Nat) : State :=
  let x := s.meter
  let put (x : MeterState) (minute : Nat) : MeterState :=
    { x with counts := Tbl.modify 0 x.counts (meterKey minute tenant m) fun v => v + n }
  if x.start ≤ ts then { s with meter := put x (max (minuteOf x.start) (minuteOf ts)) }
  else if x.closing.any fun p => decide (p.from_ ≤ ts ∧ ts < p.upTo) then
    { s with meter := { x with
        closing := x.closing.map fun p =>
          if p.from_ ≤ ts ∧ ts < p.upTo then { p with recs := addRecord p.recs tenant m n } else p } }
  else
    let quiet := match x.lastLateEvent with
      | some t => dueAt s.now t (60 * sNs)
      | none => true
    let x := put { x with late := x.late + 1, flags := setBit x.flags 6 } (minuteOf x.start)
    let s := { s with meter := if quiet then { x with lastLateEvent := some s.now } else x }.bump 0x4100 0 8
    if quiet then s.raise .lateUpdate [tenant] else s

/-- Add to a counting meter of a tenant now (08 R278). -/
def State.meterAdd (s : State) (tenant m n : Nat) : State := s.meterAddAt s.ptpNow tenant m n

/-- Flag bits a time status gives the page whose interval holds it (08 R285). -/
def statusFlags (v : Nat) : Nat := if v = 0 ∨ v = 1 ∨ v = 4 then 1 else if v = 3 then 128 else 0

/-- The time status changes within the open page (08 R285). -/
def State.ledgerStatus (s : State) (v : Nat) : State :=
  let f := s.meter.flags
  let f := if bit (statusFlags v) 0 then setBit f 0 else f
  { s with meter := { s.meter with flags := if bit (statusFlags v) 7 then setBit f 7 else f } }

/-- Tenants that hold a namespace or a host row (08 R287), in ascending order. -/
def State.ledgerHolders (s : State) : List Nat :=
  let ts := s.dict.cur.filterMap fun e =>
    let idx := e.1 / 256 / 2 ^ 64
    let row := e.1 / 256 % 2 ^ 64
    if e.1 % 256 = 2 ∧ e.2.toNat = 1 then
      if idx = 0x3220 then some (s.o 0x3220 row 4) else if idx = 0x3230 then some (s.o 0x3230 row 5) else none
    else none
  ((ts.foldl (fun t k => Tbl.set t k 0) ([] : Tbl Nat)).map (·.1))

/-- Follow a commit of host and namespace rows: which tenants got their first row, and which lost their last (08 Table 4). -/
def State.syncHolders (s : State) : State :=
  let cur := s.ledgerHolders
  let x := s.meter
  let recs := (cur.filter fun t => !x.holders.contains t).foldl (fun r t => Tbl.modify 0 r t fun f => setBit f 0) x.recs
  let recs := (x.holders.filter fun t => !cur.contains t).foldl (fun r t => Tbl.modify 0 r t fun f => setBit f 1) recs
  { s with meter := { x with holders := cur, recs := recs } }

/-- A command in the module. -/
def State.cmd (s : State) (c : Nat) : Cmd := Tbl.get {} s.nvme.cmds c

def State.setCmd (s : State) (c : Nat) (x : Cmd) : State :=
  { s with nvme := { s.nvme with cmds := Tbl.set s.nvme.cmds c x } }

/-- A queue pair by index. -/
def State.qp (s : State) (i : Nat) : Qp := Tbl.get {} s.rdma.qps i

def State.setQp (s : State) (i : Nat) (q : Qp) : State :=
  { s with rdma := { s.rdma with qps := Tbl.set s.rdma.qps i q } }

/-- A controller by controller ID. -/
def State.ctrl (s : State) (c : Nat) : Ctrl := Tbl.get {} s.nvme.ctrls c

def State.setCtrl (s : State) (c : Nat) (x : Ctrl) : State :=
  { s with nvme := { s.nvme with ctrls := Tbl.set s.nvme.ctrls c x } }

/-- The command arrived on an I/O queue. -/
def State.isIoCmd (s : State) (c : Cmd) : Bool :=
  match c.qp, c.vf with
  | some i, _ => decide ((s.qp i).qid ≠ 0 ∧ c.cap.opcode ≠ 0x7F)
  | none, some v => decide (v.2.2 ≠ 0)
  | none, none => false

/-- Which meter a successful I/O command counts in (08 Table 1): Read, Compare and Verify; writes; others. A fused pair
counts once, at its write. -/
def commandMeter (c : Capsule) : Option Nat :=
  if c.fuse = 1 then none
  else if c.opcode = 2 ∨ c.opcode = 5 ∨ c.opcode = 0xC then some 0
  else if c.opcode = 1 ∨ c.opcode = 8 then some 1
  else some 2

/-- Meter a command whose completion leaves now (08 R277 to R279), and count it on its controller (06 Table 16). -/
def State.meterCompletion (s : State) (c : Cmd) (sct sc : Nat) : State :=
  let ok := decide (sct = 0 ∧ sc = 0)
  let s := match c.cntlid with
    | some k =>
      let n := Tbl.get (0, 0) s.nvme.served k
      { s with nvme := { s.nvme with served := Tbl.set s.nvme.served k (satAdd n.1 1, if ok then n.2 else satAdd n.2 1) } }
    | none => s
  if s.isIoCmd c = false then s
  else
    let s := s.when (decide (c.cls = 0)) fun s => s.meterAdd c.tenant 6 1
    let s := s.meterAdd c.tenant 10 c.waited
    if ok = false then s.meterAdd c.tenant 7 1
    else
      match commandMeter c.cap with
      | none => s
      | some m =>
        let len := if c.cap.fuse = 2 then 2 * c.len else c.len
        let s := s.meterAdd c.tenant m 1
        if m = 2 then s
        else (s.meterAdd c.tenant (3 + m) len).when c.vf.isSome fun s => s.meterAdd c.tenant 5 len

/-- The first condition of 07 R270 that a Class 0 read failed, as its counter in 4050h; none when all held. -/
def State.class0Failed (s : State) (c : Cmd) : Option Nat :=
  let p := Tbl.get {} s.eth.ports c.port
  let nonconf := match (Tbl.get {} s.sched.eg c.port).nonconfAt with
    | some u => decide (c.arrivedAt ≤ u)
    | none => false
  let paused := match p.class0Pause with
    | some u => decide (s.now < u + sNs)
    | none => false
  if (c.conform && c.gateFirst) = false then some 4
  else if nonconf then some 6
  else if paused then some 7
  else if s.inRange = false ∨ s.ob 0x2002 6 ≠ 0 ∨ s.ob 0x2002 7 ≠ 0 ∨ s.pwr.lull = true ∨ s.pwr.storm = true then some 8
  else if 131072 < c.len then some 9
  else none

/-- Largest Class 0 latency of the current and of the previous minute of PTP time (4050h:0A and 0B). -/
def State.class0Largest (s : State) (lat : Nat) : State :=
  let m := s.ptpNow / 60000000000
  let s := if s.sched.boundMinute = m then s
    else
      let prev := if s.sched.boundMinute + 1 = m then s.ob 0x4050 0xA else 0
      { (s.put 0x4050 0 0xB prev).put 0x4050 0 0xA 0 with sched := { s.sched with boundMinute := m } }
  s.put 0x4050 0 0xA (max (s.ob 0x4050 0xA) lat)

/-- Measure a Class 0 read on a network port as its first RDMA WRITE starts (07 R269, R272). -/
def State.measureClass0 (s : State) (id : Nat) : State :=
  let c := s.cmd id
  if c.cls ≠ 0 ∨ c.cap.opcode ≠ 2 ∨ c.qp.isNone = true ∨ c.measured = true then s
  else
    let svc := match c.svcFrom, c.svcTo with
      | some a, some b => b - a
      | _, _ => 0
    let lat := s.now - c.arrivedAt - svc
    let s := (s.setCmd id { c with measured := true }).bump 0x4050 0 2
    match s.class0Failed c with
    | some k => s.bump 0x4050 0 k
    | none =>
      let s := s.class0Largest lat
      let s := { s with sched := { s.sched with slack := (s.now, lat) :: within2 s.now s.sched.slack } }
      if lat ≤ 6000 then (s.bump 0x4050 0 3).meterAdd c.tenant 11 1
      else
        let s := { s with sched := { s.sched with excess := s.now :: within s.now (60 * sNs) s.sched.excess } }
        ((s.bump 0x4050 0 5).meterAdd c.tenant 12 1).raise .class0BoundExceeded [c.tenant, c.port, lat]
where
  /-- Latencies of the last 100 ms. -/
  within2 (now : Nat) (xs : List (Nat × Nat)) : List (Nat × Nat) :=
    xs.filter fun e => decide (now < e.1 + 100 * msNs)

/-- The first bit of a packet is on the line: its instant is kept for the RTT (05 R175). -/
def State.stampSent (s : State) (i : Nat) (p : TxPkt) : State :=
  let q := s.qp i
  s.setQp i { q with
    sent := q.sent.map fun u => if u.pkt.psn = p.psn ∧ u.pkt.op = p.op then { u with at_ := s.now } else u
    reads := q.reads.map fun r => if r.psn = p.psn ∧ p.op = .rdmaReadRequest then { r with at_ := s.now } else r }

/-- A RoCEv2 packet starts on the line for the first time: its instant, the Class 0 measurement of a read's first RDMA
WRITE, and the meters of a completion. Indices of 131,072 and up stand for the peer's twin queue pairs, whose packets this
module transmits too (14 R488). -/
def State.packetLeaves (s : State) (i : Nat) (p : TxPkt) : State :=
  if 131072 ≤ i then s else
  let s := if p.op = .acknowledge ∨ p.op = .cnp then s else s.stampSent i p
  match p.cmd with
  | none => s
  | some id =>
    let s := match p.op with
      | .writeFirst | .writeMiddle | .writeLast | .writeOnly => s.measureClass0 id
      | _ => s
    match p.cqe with
    | some e => s.meterCompletion (s.cmd id) e.sct e.sc
    | none => s

end Sys2Proof.Machine
end

