-- ==== Sys2Proof/Machine/Ports.lean ====
section
/-! DEFINITION. Logical ports (04 R113), the cells of a frame (03 Table 1), and the copies and samples taken of the frames a port
sees (03 R101 to R109). -/

namespace Sys2Proof.Machine

/-! ### Logical ports (04 R113, Table 1) -/

/-- Sub-ports of a mode. -/
def modeSubs (m : Nat) : Nat := [1, 2, 4, 1, 2, 4].getD m 0

/-- Rate of a logical port of a mode in Gb/s, which is bits per ns. -/
def modeRate (m : Nat) : Nat := [400, 200, 100, 200, 100, 50].getD m 0

/-- Mode of the port that logical port `p` belongs to. -/
def State.modeOf (s : State) (p : Nat) : Nat := s.ob 0x3000 (p / 4 + 1)

/-- A logical port exists when its mode uses its sub-port. -/
def State.portExists (s : State) (p : Nat) : Bool := decide (p < 32 ∧ p % 4 < modeSubs (s.modeOf p))

/-- Rate in bits per ns. -/
def State.rate (s : State) (p : Nat) : Nat := modeRate (s.modeOf p)

/-- Maximum frame size, 3001h:04. -/
def State.fMax (s : State) (p : Nat) : Nat := s.o 0x3001 p 4

/-- State of a logical port. -/
def State.port (s : State) (p : Nat) : EthPort := Tbl.get {} s.eth.ports p

/-- Replace the state of a logical port. -/
def State.setPort (s : State) (p : Nat) (x : EthPort) : State :=
  { s with eth := { s.eth with ports := Tbl.set s.eth.ports p x } }

/-- A flush of the port is in progress (03 R98). -/
def State.flushing (s : State) (p : Nat) : Bool := Tbl.has s.fab.flushes p

/-- Bits 2:0 of 3002h:02: the first value of its row that applies (04 Table 3). -/
def State.portState (s : State) (p : Nat) : Nat :=
  let x := s.port p
  if s.portExists p = false then 6
  else if x.stormsOff then 4
  else if x.flapUntil.isSome then 3
  else if x.noCommon then 5
  else if x.linkUp && s.flushing p then 2
  else if x.linkUp then 1
  else 0

/-- The port transmits and receives: its link is up and its flush complete (03 R99). -/
def State.portUp (s : State) (p : Nat) : Bool := decide (s.portState p = 1)

/-- The port is up and is not the analysis port, on which the module terminates no traffic (03 R101). -/
def State.portServes (s : State) (p : Nat) : Bool := s.portUp p && decide (s.ob 0x2108 0 ≠ p)

/-- Rows of a row window whose field `sub` holds `v`, as stored. -/
def State.rowsWith (s : State) (win sub v : Nat) : List Nat :=
  s.dict.cur.filterMap fun e =>
    if e.1 % 256 = sub ∧ e.1 / 256 / 2 ^ 64 = win ∧ e.2.toNat = v then some (e.1 / 256 % 2 ^ 64) else none

/-- Whether this module owns an interface row: always in solo mode, else by 2412h:03 (04 R127, 14 R469). -/
def State.ownsInterface (s : State) (row : Nat) : Bool :=
  !s.twin.twinMode || decide (2 ≤ s.twinPhase ∧ s.twinPhase ≠ 4 ∧ s.o 0x2412 row 3 + 1 = s.ob 0x2400 2)

/-- Active interface rows of a logical port (04 R127). -/
def State.interfaces (s : State) (p : Nat) : List Nat :=
  (s.rowsWith 0x3040 2 1).filter fun r => decide (s.o 0x3040 r 3 = p) && s.portExists p && s.ownsInterface r

/-! ### CRC-16 -/

/-- One step of a CRC-16 with polynomial 1021h over a bit. -/
def crc16Bit (c : Nat) (b : Bool) : Nat :=
  let top := bit c 15 != b
  let d := c * 2 % 65536
  if top then d ^^^ 0x1021 else d

/-- CRC-16 over the bytes of a list, most significant bit first, initial value FFFFh (03 Table 1, 05 R158). -/
def crc16 (bytes : List Nat) : Nat :=
  bytes.foldl (init := 0xFFFF) fun c b => [7, 6, 5, 4, 3, 2, 1, 0].foldl (init := c) fun c k => crc16Bit c (bit b k)

/-! ### Cells (03 R74 to R76) -/

/-- Code of a position, bits 88:87 of a cell header (03 Table 1). -/
def posCode : CellPos → Nat
  | .middle => 0
  | .first => 1
  | .last => 2
  | .only => 3

/-- Position of a code. -/
def posOfCode (n : Nat) : CellPos :=
  match n with
  | 0 => .middle
  | 1 => .first
  | 2 => .last
  | _ => .only

/-- The frame or record starts with this cell. -/
def posStarts : CellPos → Bool
  | .first | .only => true
  | _ => false

/-- The frame or record ends with this cell. -/
def posEnds : CellPos → Bool
  | .last | .only => true
  | _ => false

/-- A flag as a bit. -/
def flagBit (b : Bool) : Nat := if b then 1 else 0

/-- Bits 127:16 of a cell header, as a number of 112 bits (03 Table 1). -/
def cellFields (c : Cell) : Nat :=
  ((((((((((((c.flow.dst % 128) * 128 + c.flow.src % 128) * 4 + c.flow.sub % 4) * 8 + c.flow.cls % 8) * 16 + c.epoch % 16) * 65536 +
    c.seq.toNat) * 4 + posCode c.body.pos) * 2 + flagBit c.body.stomp) * 2 + flagBit c.probe) * 2 + flagBit c.body.copy) * 128 +
    c.body.len % 128) * 4096 + c.body.tenant % 4096) * 2 ^ 49 + c.body.addr % 2 ^ 48

/-- The `n` bytes of a number, most significant first. -/
def bytesOf (v : Nat) : Nat → List Nat
  | 0 => []
  | n + 1 => v / 256 ^ n % 256 :: bytesOf v n

/-- The header check of bits 127:16 (03 Table 1). -/
def headerCheck (fields : Nat) : Nat := crc16 (bytesOf fields 14)

/-- The 128-bit header of a cell: its fields and their check (03 Table 1). -/
def cellHeader (c : Cell) : Nat := cellFields c * 65536 + headerCheck (cellFields c)

/-- The header check of an arriving header holds (03 R76). -/
def headerOk (h : Nat) : Bool := decide (h % 65536 = headerCheck (h / 65536 % 2 ^ 112))

/-- The cell that a header and a payload spell (03 Table 1): 0 in the length field means 128 bytes. -/
def cellOfHeader (h : Nat) (data : Content) : Cell :=
  let f (lo w : Nat) : Nat := h / 2 ^ lo % 2 ^ w
  { flow := { src := f 114 7, dst := f 121 7, sub := f 112 2, cls := f 109 3 }
    epoch := f 105 4
    seq := BitVec.ofNat 16 (f 89 16)
    probe := bit h 85
    body := { pos := posOfCode (f 87 2), stomp := bit h 86, copy := bit h 84, len := if f 77 7 = 0 then 128 else f 77 7
              tenant := f 65 12, addr := f 16 48, data := data } }

/-- Cells of a frame or record of `n` bytes. -/
def cellsOf (n : Nat) : Nat := max 1 ((n + 127) / 128)

/-- What the next cell of a frame carries (03 Tables 1 and 3): its part of the frame, the stomp bit on the last cell of a bad frame
(R95), and in the address the offset of its payload in the frame, as `step` counts it. -/
def Train.body (t : Train) (step : Nat) : CellBody :=
  let last := decide (t.sent + 1 = cellsOf t.len)
  let first := decide (t.sent = 0)
  let len := if last then t.len - 128 * t.sent else 128
  { pos := if first && last then .only else if first then .first else if last then .last else .middle
    stomp := last && t.bad.isSome
    copy := t.copy.isSome
    len := len
    tenant := t.tenant
    addr := t.addr + step * t.sent
    data := t.data / 256 ^ (128 * t.sent) % 256 ^ len }

/-! ### Frames the module sends, as mirroring and sampling see them (03 R103, R106, R107) -/

/-- Whether a control frame is RoCEv2 (05 R156: packets on QP1). -/
def Ctl.isRoce : Ctl → Bool
  | .cmRep .. | .cmRej .. | .cmDreq .. | .cmDrep .. | .cmMra .. => true
  | _ => false

/-- An IPv4-mapped address. -/
def isV4 (a : Ip) : Bool := decide (a / 2 ^ 32 = 0xFFFF)

/-- An IP frame on a VLAN (0: untagged) with a priority. -/
def ipFrame (f : EgFrame) (vid : Nat) (v6 : Bool) (src dst : Ip) (proto dport : Nat) (qp : Option Nat) (content : Content) : Frame :=
  { tags := if vid = 0 then [] else [{ tpid := 0x8100, pcp := f.prio, vid := vid }]
    etherType := if v6 then 0x86DD else 0x0800, length := f.len
    l3 := .ip v6 src dst false false false proto dport 0, destQp := qp, content := content }

/-- A frame as transmitted. What the model does not keep of it is free: its bytes, and the addresses of whom the module answers
(log entry 123). -/
def State.sentFrame (s : State) (f : EgFrame) : Frame :=
  let c := s.draw
  let other := Config.freeNat (s.free + 1)
  let vlan (row : Nat) : Nat := s.o 0x3040 row 4
  match f.msg with
  | .roce i p =>
    let (row, dst) := if i < 131072 then ((s.qp i).ifRow, (s.qp i).remoteIp) else
      let r := (Tbl.get ({ rec_ := {} } : Standby) s.twin.standby (i - 131072)).rec_
      (r.ifRow, r.remoteIp)
    ipFrame f (vlan row) (!isV4 dst) (s.o 0x3040 row 5) dst 17 4791 (some p.destQp) c
  | .ctl k =>
    match k with
    | .arpReply ip => { etherType := 0x0806, length := f.len, l3 := .arp ip, content := c }
    | .lldp _ => { etherType := 0x88CC, length := f.len, l3 := .lldp, content := c }
    | .pdelayReq | .pdelayResp => { etherType := 0x88F7, length := f.len, l3 := .peerDelay, content := c }
    | .delayReq =>
      if s.ob 0x3020 5 = 0 then { etherType := 0x88F7, length := f.len, l3 := .ptp, content := c }
      else ipFrame f 0 (decide (s.ob 0x3020 5 = 2)) other other 17 319 none c
    | .cmRep ip .. | .cmRej ip .. | .cmDreq ip _ | .cmDrep ip _ | .cmMra ip _ => ipFrame f 0 (!isV4 ip) other ip 17 4791 (some 1) c
    | .neighbourAdvert ip | .echoReply ip | .announceAddress ip => ipFrame f 0 (!isV4 ip) ip other (if isV4 ip then 1 else 58) 0 none c
  | .copy m => m.frame
  | .cells _ data => { length := f.len, content := data }

/-! ### Mirroring (03 R101 to R106) -/

/-- Two 128-bit addresses agree in their first `len` bits. -/
def prefixEq (a b : Ip) (len : Nat) : Bool := decide (a / 2 ^ (128 - len) = b / 2 ^ (128 - len))

/-- Source, destination, protocol and UDP destination port of a frame, where it carries IP. -/
def frameIp (f : Frame) : Option (Ip × Ip × Nat × Nat) :=
  match f.l3 with
  | .ip _ a b _ _ _ proto dport _ => some (a, b, proto, dport)
  | _ => none

/-- The VLAN ID of a rule: 0 takes untagged frames only, FFFFh any (03 Table 8). -/
def vidMatches (want : Nat) (tags : List VlanTag) : Bool :=
  if want = 0xFFFF then true
  else
    match tags with
    | [] => decide (want = 0)
    | g :: _ => decide (want ≠ 0 ∧ g.vid = want)

/-- Whether rule `r` matches a frame (03 R106, Table 8). -/
def State.ruleMatches (s : State) (r : Nat) (egress : Bool) (p : Nat) (f : Frame) (tenant cls : Nat) : Bool :=
  let g := fun k => s.o 0x2110 r k
  decide (g 2 = 1) &&
  decide (g 3 = 3 ∨ g 3 = (if egress then 2 else 1)) &&
  (decide (g 4 = 0) || bit (g 4) p) &&
  (decide (g 5 = 0) || decide (g 5 = f.etherType)) &&
  vidMatches (g 6) f.tags &&
  (decide (g 8 = 0) || (match frameIp f with | some x => prefixEq x.1 (g 7) (g 8) | none => false)) &&
  (decide (g 0xA = 0) || (match frameIp f with | some x => prefixEq x.2.1 (g 9) (g 0xA) | none => false)) &&
  (decide (g 0xB = 0) || (match frameIp f with | some x => decide (x.2.2.1 = 17 ∧ x.2.2.2 = g 0xB) | none => false)) &&
  (decide (g 0xC = 0xFFFFFFFF) || (match f.destQp with | some q => decide (q = g 0xC) | none => false)) &&
  (decide (g 0xD = 0xFFFF) || decide (egress = true ∧ g 0xD = tenant)) &&
  (decide (g 0xE = 0xFF) || (egress && bit (g 0xE) cls))

/-- The first enabled rule that matches (03 R104). -/
def State.matchRule (s : State) (egress : Bool) (p : Nat) (f : Frame) (tenant cls : Nat) : Option Nat :=
  (List.range 64).find? fun r => s.ruleMatches r egress p f tenant cls

/-- A copy of a frame, cut to `cut` bytes where it is longer, with a new FCS over what is left (03 R105). -/
def copyOf (f : Frame) (cut : Nat) (stomped : Bool) : MirrorCopy :=
  if cut = 0 ∨ f.length - 4 ≤ cut then { frame := f, bytes := f.length, stomped := stomped }
  else { frame := f, bytes := cut + 4, truncated := true, stomped := stomped }

/-- Class of the flows that carry copies (log entry 124). -/
def copyClass : Nat := 7

/-- Queue index of the mirror queue in the cells that go to it (log entry 124). -/
def mirrorKey : Nat := 0x8001

/-- A copy starts across the fabric from the mirror and sampler unit to the analysis port; with that port down it is dropped
(03 R102). -/
def State.sendCopy (s : State) (m : MirrorCopy) : State :=
  let a := s.ob 0x2108 0
  if s.portUp a then
    let t : Train := { flow := { src := 66, dst := a / 4, sub := a % 4, cls := copyClass }, len := m.bytes
                       data := m.frame.content % 256 ^ m.bytes, bad := if m.stomped then some 4 else none
                       addr := mirrorKey * 2 ^ 32, copy := some m }
    { s with fab := { s.fab with copies := s.fab.copies ++ [t] } }
  else s.bump 0x210A 0 3

/-- Mirror a frame seen on a port: at most one copy in each direction, whole-port mirroring first (03 R103 to R106). No copy is made
of what the analysis port itself sees (log entry 125). Class and tenant are those of an egress frame. -/
def State.mirror (s : State) (egress : Bool) (p : Nat) (f : Frame) (tenant cls : Nat) (stomped : Bool) : State :=
  if s.ob 0x2108 0 = 255 ∨ s.ob 0x2108 0 = p then s
  else
    let m := s.ob 0x2109 (p + 1)
    if m = 3 ∨ m = (if egress then 2 else 1) then s.sendCopy (copyOf f 0 stomped)
    else
      match s.matchRule egress p f tenant cls with
      | none => s
      | some r => (s.bump 0x2111 r 2).sendCopy (copyOf f (s.o 0x2110 r 0xF) stomped)

/-! ### The sampler (03 R107 to R109) -/

/-- The direction and port of a sampler generator as one key. -/
def sampleKey (egress : Bool) (p : Nat) : Nat := 2 * p + (if egress then 1 else 0)

/-- Write a sampler record, or drop it when the ring is full or the rate of 2,000,000 per second is used up
(03 R109). -/
def State.writeSample (s : State) (egress : Bool) (p : Nat) (f : Frame) (stomped : Bool) : State :=
  let second := s.now / sNs
  let count := if s.fab.sampleSecond = second then s.fab.sampleCount else 0
  let k := sampleKey egress p
  if s.fab.samples.length < 65536 ∧ count < 2000000 then
    let cap := min 128 (f.length - 4)
    let r : SampleRec := ⟨egress, decide (128 < f.length - 4), stomped, p, cap, f.length - 4,
      Tbl.get 0 s.fab.sampleDrops k, s.ptpNow, f.content % 256 ^ cap⟩
    ({ s with fab := { s.fab with
        samples := s.fab.samples ++ [r], sampleDrops := Tbl.set s.fab.sampleDrops k 0
        sampleSecond := second, sampleCount := count + 1 } }).bump 0x2122 0 1
  else
    ({ s with fab := { s.fab with
        sampleDrops := Tbl.set s.fab.sampleDrops k (min 0xFFFF (Tbl.get 0 s.fab.sampleDrops k + 1))
        sampleSecond := second, sampleCount := count } }).bump 0x2122 0 2

/-- Sample a frame with probability 1/N: the generator of the port and direction takes a step, and its value chooses (03 R107). The
manual gives neither its polynomial nor its start (log entry 126). -/
def State.sample (s : State) (egress : Bool) (p : Nat) (f : Frame) (stomped : Bool) : State :=
  let n := s.ob (if egress then 0x2121 else 0x2120) (p + 1)
  if n = 0 then s
  else if n = 1 then s.writeSample egress p f stomped
  else
    let k := sampleKey egress p
    let g := Config.lfsrStep (match Tbl.find? s.fab.lfsr k with
      | some g => g
      | none => Config.lfsrSeed k) % 2 ^ 32
    let s := { s with fab := { s.fab with lfsr := Tbl.set s.fab.lfsr k g } }
    if g % n = 0 then s.writeSample egress p f stomped else s

end Sys2Proof.Machine
end

