-- ==== Sys2Proof/Machine/Egress.lean ====
section
/-! DEFINITION. The egress of logical ports (07 R244 to R264): token buckets, fair
queueing, time gates as they hold frames, the choice of the next frame, ECN marking at dequeue, flushing. -/

namespace Sys2Proof.Machine

/-! ### Token buckets (07 R244, R245) -/

def Bucket.refill (b : Bucket) (now : Nat) : Bucket :=
  { b with tokens := min b.burst (b.tokens + b.rate * ((now - b.last : Nat) : Rat)), last := now }

/-- The bucket can pay `cost`, or it is full. -/
def Bucket.pays (b : Bucket) (now cost : Nat) : Bool :=
  let r := b.refill now
  decide ((cost : Rat) ≤ r.tokens) || decide (r.tokens = r.burst)

def Bucket.charge (b : Bucket) (now cost : Nat) : Bucket :=
  let r := b.refill now
  { r with tokens := r.tokens - (cost : Rat) }

/-- A new rate and burst keep the tokens, clamped to the burst; a rate that was 0 starts full (07 R245). -/
def Bucket.reconfigure (b : Bucket) (now : Nat) (rate burst : Rat) : Bucket :=
  if b.rate = 0 then ⟨burst, burst, rate, now⟩
  else
    let r := b.refill now
    ⟨min r.tokens burst, burst, rate, now⟩

/-- A bucket starts full at its first use. -/
def Bucket.create (now : Nat) (rate burst : Rat) : Bucket := ⟨burst, burst, rate, now⟩

/-! ### Egress state -/

def State.eg (s : State) (p : Nat) : EgPort := Tbl.get {} s.sched.eg p

def State.setEg (s : State) (p : Nat) (e : EgPort) : State :=
  { s with sched := { s.sched with eg := Tbl.set s.sched.eg p e } }

def State.gate (s : State) (p : Nat) : GatePort := Tbl.get {} s.sched.gates p

def State.setGate (s : State) (p : Nat) (g : GatePort) : State :=
  { s with sched := { s.sched with gates := Tbl.set s.sched.gates p g } }

/-- The queue index of a tenant and class (07 R251), and that of the port control queue. -/
def queueKey (cls tenant : Nat) : Nat := cls * 4096 + tenant
def controlKey : Nat := 0x8000

/-- Cost of a frame of a tenant queue: length plus the tenant's overhead bytes (07 R253); port control frames have a
fixed overhead of 20 (07 R236). -/
def State.frameCost (s : State) (f : EgFrame) : Nat := f.len + s.o 0x4010 f.tenant 6

/-- The tenant's egress shaper on the port (07 R254); none when its rate is 0. -/
def State.shaper (s : State) (p tenant : Nat) : Option Bucket :=
  if s.o 0x4010 tenant 4 = 0 then none
  else
    match Tbl.find? (s.eg p).shapers tenant with
    | some b => some b
    | none => some (Bucket.create s.now ((s.o 0x4010 tenant 4 : Rat) / 8000) (s.o 0x4010 tenant 5 : Nat))

/-- The shaper of the port control queue: 1 % of the port rate, burst two maximum frames (07 Table 2). -/
def State.controlShaper (s : State) (p : Nat) : Bucket :=
  match (s.eg p).control with
  | some b => b
  | none => Bucket.create s.now ((s.rate p : Rat) / 800) ((2 * s.fMax p : Nat) : Rat)

/-- The Class 0 allowance A_p in bytes (07 R271). -/
def State.class0Allowance (s : State) (p : Nat) : Nat := s.rate p * 2250 / 8 - (s.fMax p + 188)

/-- The Class 0 egress meter: rate a quarter of the port's, burst A_p (07 R271). -/
def State.class0Meter (s : State) (p : Nat) : Bucket :=
  match (s.eg p).meter with
  | some b => b
  | none => Bucket.create s.now ((s.rate p : Rat) / 32) (s.class0Allowance p : Nat)

/-! ### Time gates as they hold frames (07 R256 to R260) -/

/-- The gates run: a list is operational and the time status is locked or in holdover (07 R260). -/
def State.gatesRun (s : State) (p : Nat) : Bool :=
  let g := s.gate p
  decide (s.o 0x4020 p 2 = 1) && !g.oper.isEmpty && !g.invalid && decide (s.ob 0x3020 7 = 2 ∨ s.ob 0x3020 7 = 3)

/-- Open time of gate `c` counted over entries, from the head of the list, stopping at the first closed one. -/
def openRun (c : Nat) : List (Nat × Nat) → Nat
  | [] => 0
  | (d, g) :: r => if bit g c then d + openRun c r else 0

/-- Every gate bitmap of the list opens class `c`. -/
def alwaysOpen (c : Nat) (l : List (Nat × Nat)) : Bool := l.all fun e => bit e.2 c

/-- Whether gate `c` is open now, and how long it stays open without interruption, in ns (07 R258); the second is
`none` when it never closes. -/
def State.gateOpen (s : State) (p c : Nat) : Bool × Option Nat :=
  if s.gatesRun p = false then (true, none)
  else
    let g := s.gate p
    if alwaysOpen c g.oper then (true, none)
    else
      let cur := g.oper.getD g.entry (0, 255)
      if bit cur.2 c = false then (false, some 0)
      else
        let rest := (g.oper.drop (g.entry + 1)) ++ (g.oper.take g.entry)
        (true, some ((g.entryEnd - s.ptpNow).toNat + openRun c rest))

/-- Time a frame needs on the line, in ns, rounded up: (length + overhead) × 8 / R (07 R258). -/
def State.lineTime (s : State) (p bytes : Nat) : Nat := (bytes * 8 + s.rate p - 1) / max 1 (s.rate p)

/-! ### Eligibility and fair queueing (07 R246, R254, R262 to R264) -/

/-- Whether the head of a queue is a CNP, which neither shaper nor gate holds (05 R180). -/
def EgFrame.isCnp (f : EgFrame) : Bool :=
  match f.msg with
  | .roce _ p => decide (p.op = .cnp)
  | _ => false

/-- Priority of a class (07 R237, 4000h). -/
def State.classPrio (s : State) (c : Nat) : Nat := s.ob 0x4000 (c + 1)

/-- A priority is lossless on a port (04 R128). -/
def State.lossless (s : State) (p prio : Nat) : Bool := bit (s.o 0x3001 p 9) prio

/-- A pause storm holds on a priority: its recovery time runs (04 R137). -/
def State.storming (s : State) (p prio : Nat) : Bool := Tbl.has (s.port p).stormUntil prio

/-- A lossless priority is paused by the partner (04 R129); in a pause storm PFC is ignored (R137). -/
def State.paused (s : State) (p prio : Nat) : Bool :=
  s.lossless p prio && !s.storming p prio &&
    (match Tbl.find? (s.port p).pausedUntil prio with
    | some u => decide (s.now < u)
    | none => false)

/-- Shaper of the head frame allows it. -/
def State.shaperAllows (s : State) (p : Nat) (f : EgFrame) : Bool :=
  if f.cls = 0 ∨ f.isCnp = true then true
  else
    match s.shaper p f.tenant with
    | none => true
    | some b => b.pays s.now (s.frameCost f)

/-- The gate of the frame's own class allows it, guard band included (07 R258). -/
def State.gateAllows (s : State) (p : Nat) (f : EgFrame) : Bool :=
  if f.cls = 0 ∨ f.isCnp = true then true
  else
    match s.gateOpen p f.cls with
    | (isOpen, none) => isOpen
    | (isOpen, some left) => isOpen && decide (s.lineTime p (s.frameCost f) ≤ left)

/-- The frame waits only for the guard band: its gate is open, but not for long enough. -/
def State.guardHeld (s : State) (p : Nat) (f : EgFrame) : Bool :=
  decide (f.cls ≠ 0) && !f.isCnp && (s.gateOpen p f.cls).1 && !s.gateAllows p f

/-- The queue of a head frame is eligible. -/
def State.eligible (s : State) (p : Nat) (f : EgFrame) : Bool := s.shaperAllows p f && s.gateAllows p f

/-- Tag arithmetic on 64 bits: finish = start + cost × 256 / weight (07 R246). -/
def tagFinish (start cost weight : Nat) : Nat := (start + cost * 256 / max 1 weight) % 2 ^ 64

/-- Egress weight of a tenant. -/
def State.egWeight (s : State) (tenant : Nat) : Nat := s.o 0x4010 tenant 2

/-- The head of queue `k`. -/
def EgPort.head? (e : EgPort) (k : Nat) : Option EgFrame := (Tbl.get [] e.queues k).head?

/-- Scheduling record of a queue; a queue starts in its own class. -/
def EgPort.qs (e : EgPort) (k : Nat) : QSched := Tbl.get { level := k / 4096 } e.sched k

/-- Virtual time of a class. -/
def EgPort.vt (e : EgPort) (c : Nat) : Nat := Tbl.get 0 e.vtime c

/-- Wake a queue in class `level`: start at the class's virtual time, tag its head (07 R246). -/
def EgPort.wake (e : EgPort) (now level k cost weight : Nat) : EgPort :=
  let q := e.qs k
  let st := e.vt level
  let q2 := { q with
    start := st, finish := tagFinish st cost weight, active := true, heldBack := false, level := level,
    relief := 0, waitingSince := now }
  { e with sched := Tbl.set e.sched k q2 }

/-- The virtual time of class `c` returns to 0 when no queue of the class is backlogged (07 R246). -/
def EgPort.settleClass (e : EgPort) (backlog : List Nat) (c : Nat) : EgPort :=
  if backlog.any fun j => decide ((e.qs j).level = c) then e else { e with vtime := Tbl.set e.vtime c 0 }

/-- Keys of backlogged tenant queues. -/
def EgPort.backlog (e : EgPort) : List Nat :=
  (e.queues.filter fun q => decide (q.1 < controlKey) && !q.2.isEmpty).map Prod.fst

/-- Bring one queue's record up to date: a queue its shaper or gate holds is marked, and one that has become eligible
again restarts at the virtual time (07 R246); a frame newly held by the guard band is counted (07 R258). -/
def State.refreshQueue (p : Nat) (s : State) (k : Nat) : State :=
  let e := s.eg p
  match e.head? k with
  | none => s
  | some f =>
    let q := e.qs k
    if s.eligible p f then
      if q.heldBack then
        let st := max (e.vt q.level) q.start
        let fin := tagFinish st (s.frameCost f) (s.egWeight f.tenant)
        let q2 := { q with start := st, finish := fin, heldBack := false, waitingSince := s.now }
        s.setEg p { e with sched := Tbl.set e.sched k q2 }
      else s
    else
      let held := s.guardHeld p f
      let s := if held && !q.guarded then s.bump 0x4020 p 9 else s
      s.setEg p { e with sched := Tbl.set e.sched k { q with heldBack := true, guarded := q.guarded || held } }

/-- The eligible queue of class `c` with the smallest finish tag; ties go to the lowest tenant (07 R246). No frame of a
paused priority starts (04 R129). -/
def State.pickQueue (s : State) (p c : Nat) : Option Nat :=
  let e := s.eg p
  let cand := e.backlog.filter fun k =>
    decide ((e.qs k).level = c) &&
      (match e.head? k with
      | some f => s.eligible p f && !s.paused p f.prio
      | none => false)
  cand.foldl (init := none) fun best k =>
    match best with
    | none => some k
    | some b =>
      if (e.qs k).finish < (e.qs b).finish ∨ ((e.qs k).finish = (e.qs b).finish ∧ k % 4096 < b % 4096) then some k
      else some b

/-- Bytes queued for a class at the port (04 R138). -/
def EgPort.classBytes (e : EgPort) (c : Nat) : Nat :=
  sumNat ((e.queues.filter fun q => decide (q.1 < controlKey ∧ q.1 / 4096 = c)).map fun q =>
    sumNat (q.2.map fun f => f.len))

/-- Whether a dequeued ECT packet of class `c` is marked CE with `q` bytes queued; the draw decides between the
thresholds (04 R138). -/
def State.marksCe (s : State) (c q : Nat) : Bool :=
  let kmin := s.ob 0x3010 (c + 1) * 1024
  let kmax := s.ob 0x3011 (c + 1) * 1024
  if q ≤ kmin then false
  else if kmax ≤ q then true
  else decide (s.draw % (100 * (kmax - kmin)) < s.ob 0x3012 (c + 1) * (q - kmin))

/-- The port starts or stops sending low-power idle (04 R146). -/
def State.setLpi (s : State) (p : Nat) (on : Bool) : State :=
  if (s.port p).lpi = on then s else (s.setPort p { s.port p with lpi := on }).emit (.lpi p on)

/-- Nothing waits at the port and nothing stands on its line. -/
def State.lineIdle (s : State) (p : Nat) : Bool :=
  let e := s.eg p
  e.onLine.isNone && e.pfcQ.isEmpty && e.queues.all (fun q => q.2.isEmpty) && (decide (s.ob 0x2108 0 ≠ p) || s.fab.mirrorQ.isEmpty)

/-- Low-power idle goes out when it has been negotiated, the transmit queues are empty, and the policy of 3001h:0B allows it: 1 in
Lull, 2 at any time (04 R146). -/
def State.lpiNow (s : State) (p : Nat) : Bool :=
  s.portUp p && decide (s.o 0x3002 p 0xC = 1) && s.lineIdle p &&
    (decide (s.o 0x3001 p 0xB = 2) || (decide (s.o 0x3001 p 0xB = 1) && s.pwr.lull))

/-- Bring the low-power idle of a port up to date. -/
def State.syncLpi (s : State) (p : Nat) : State := s.setLpi p (s.lpiNow p)

/-- Put a frame on the line: counted, mirrored and sampled, and what its departure means to the transport, the meters and the Class 0
measurement (04 Table 3, 03 R103, R107, 08 R278). -/
def State.startFrame (s : State) (p : Nat) (f : EgFrame) : State :=
  let s := (s.setLpi p false).setEg p { s.eg p with onLine := some f }
  let copied := match f.msg with
    | .copy _ => true
    | _ => false
  let s := s.when (!copied && (decide (s.ob 0x2108 0 ≠ 255) || decide (s.ob 0x2121 (p + 1) ≠ 0))) fun s =>
    let x := s.sentFrame f
    ((s.drawn.drawn).mirror true p x f.tenant f.cls f.stomped).sample true p x f.stomped
  let s := (((s.bump 0x3003 p 4).add 0x3003 p 5 f.len).perf (296 + p) 1).perf (328 + p) f.len
  let s := match f.msg with
    | .roce i _ => s.perf (412 + i % 4) 1
    | _ => s
  let s := match f.msg with
    | .roce i k => if f.retx then s else s.packetLeaves i k
    | _ => s
  s.emit (.txStart p f)

/-- Serve the head of tenant queue `k`, chosen in class `c` (07 R246, R254, R264). A promoted queue's relief counts the
bytes of its frames, without the overhead of their cost (log entry 163). -/
def State.serveQueue (s : State) (p c k : Nat) : State :=
  let e := s.eg p
  match Tbl.get [] e.queues k with
  | [] => s
  | f :: rest =>
    let cost := s.frameCost f
    let q := e.qs k
    let home := k / 4096
    let e1 := { e with queues := Tbl.set e.queues k rest, vtime := Tbl.set e.vtime c q.finish }
    -- the shaper pays for Classes 1 to 7, but not for a CNP
    let e2 := if home = 0 ∨ f.isCnp = true then e1 else
      match s.shaper p f.tenant with
      | none => e1
      | some b => { e1 with shapers := Tbl.set e1.shapers f.tenant (b.charge s.now cost) }
    let served := q.relief + f.len
    let e3 :=
      match rest with
      | [] => { e2 with sched := Tbl.erase e2.sched k }
      | g :: _ =>
        let w := s.egWeight g.tenant
        if c < home ∧ s.ob 0x4004 1 ≤ served then e2.wake s.now home k (s.frameCost g) w
        else
          let q2 := { q with
            start := q.finish, finish := tagFinish q.finish (s.frameCost g) w, relief := served, waitingSince := s.now
            guarded := false }
          { e2 with sched := Tbl.set e2.sched k q2 }
    let e4 := e3.settleClass e3.backlog c
    let bytes := e.classBytes home
    let ce := f.ect && s.marksCe home bytes
    let s := if f.ect then s.drawn else s
    let s := (s.setEg p e4).when ce fun s => s.bump 0x3003 p 0xE
    let s := (s.add 0x4011 f.tenant 7 cost).meterAdd f.tenant 8 f.len
    s.startFrame p { f with ce := f.ce || ce }

/-- Serve the port control queue (07 Table 2, level 2). -/
def State.serveControl (s : State) (p : Nat) : State :=
  let e := s.eg p
  match Tbl.get [] e.queues controlKey with
  | [] => s
  | f :: rest =>
    (s.setEg p { e with
      queues := Tbl.set e.queues controlKey rest
      control := some ((s.controlShaper p).charge s.now (f.len + 20)) }).startFrame p f

/-- The port control queue holds a frame its shaper can pay for, and its priority is not paused. -/
def State.controlReady (s : State) (p : Nat) : Bool :=
  match (s.eg p).head? controlKey with
  | some f => (s.controlShaper p).pays s.now (f.len + 20) && !s.paused p f.prio
  | none => false

/-- Serve the mirror queue of the analysis port (03 R102, 07 level 10). -/
def State.serveMirror (s : State) (p : Nat) : State :=
  match s.fab.mirrorQ with
  | [] => s
  | m :: rest =>
    let s := { s with fab := { s.fab with mirrorQ := rest } }.bump 0x210A 0 2
    s.startFrame p { msg := .copy m, len := m.bytes, stomped := m.stomped, byLoss := m.byLoss }

/-- The lowest-numbered of the classes from `c` on, `n` of them, with an eligible queue. -/
def State.pickClass (s : State) (p c : Nat) : Nat → Option (Nat × Nat)
  | 0 => none
  | n + 1 =>
    match s.pickQueue p c with
    | some k => some (c, k)
    | none => State.pickClass s p (c + 1) n

/-- PFC frames go first, at most two at each frame boundary (07 R252). -/
def State.sendPfc (s : State) (p : Nat) : State :=
  let e := s.eg p
  let s1 := s.setEg p { e with pfcQ := e.pfcQ.drop 2 }
  s1.each (e.pfcQ.take 2) fun s f => (s.emit (.txPfc p f.1 f.2)).bump 0x3004 p 0xA

/-- Choose the next frame on an idle line of a port that transmits (07 Table 2). What holds a queue is noted even while
the line is busy. -/
def State.nextFrame (s : State) (p : Nat) : State :=
  let s := if s.portUp p then s.each (s.eg p).backlog (State.refreshQueue p) else s
  if s.portUp p && (s.eg p).onLine.isNone then
    let s := s.sendPfc p
    match s.pickQueue p 0 with
    | some k => s.serveQueue p 0 k
    | none =>
      if s.controlReady p then s.serveControl p
      else
        match s.pickClass p 1 7 with
        | some (c, k) => s.serveQueue p c k
        | none =>
          if s.ob 0x2108 0 = p ∧ s.fab.mirrorQ ≠ [] then s.serveMirror p
          else (s.each (List.range ((s.eg p).pfcQ.length)) fun s _ => s.sendPfc p).syncLpi p
  else s.syncLpi p

/-- Charge the Class 0 egress meter at the enqueue of a Class 0 frame (07 R271). -/
def State.meterClass0 (s : State) (p : Nat) (f : EgFrame) : State :=
  let b := s.class0Meter p
  let cost := s.frameCost f
  if b.pays s.now cost then s.setEg p { s.eg p with meter := some (b.charge s.now cost) }
  else
    (s.setEg p { s.eg p with meter := some (b.refill s.now), nonconfAt := some s.now }).add 0x4051 p 4 f.len

/-- A frame for a port that is down, or whose flush runs, is discarded and counted as flushed (03 R100). -/
def State.countFlushed (s : State) (p : Nat) (f : EgFrame) : State :=
  let sub := match f.msg with
    | .copy _ => 0xD
    | _ => if f.control then 0xD else 2 + f.cls
  (s.bump 0x2104 p sub).add 0x2104 p 0xA f.len

/-- Enqueue a frame of a tenant queue (07 R246, R251); a CNP goes ahead of its queue's data (05 R180). In a pause storm
the frame is discarded (04 R137). -/
def State.enqueue (s : State) (p : Nat) (f : EgFrame) : State :=
  if s.portUp p && s.storming p (s.classPrio f.cls) then s.bump 0x3004 p 0xE
  else if s.portUp p then
    let f := { f with at_ := s.now, prio := s.classPrio f.cls, dscp := s.ob 0x4001 (f.cls + 1) }
    let s := if f.cls = 0 then s.meterClass0 p f else s
    let e := s.eg p
    let k := queueKey f.cls f.tenant
    let old := Tbl.get [] e.queues k
    let e1 := { e with queues := Tbl.set e.queues k (if f.isCnp then f :: old else old ++ [f]) }
    let e2 := if old.isEmpty then e1.wake s.now f.cls k (s.frameCost f) (s.egWeight f.tenant) else e1
    (s.setEg p e2).nextFrame p
  else s.countFlushed p f

/-- Put a frame into the port control queue (07 R236); in a pause storm on its priority it is discarded (04 R137). -/
def State.pushControl (s : State) (p : Nat) (f : EgFrame) : State :=
  if s.portUp p && s.storming p f.prio then s.bump 0x3004 p 0xE
  else if s.portUp p then
    let e := s.eg p
    (s.setEg p { e with queues := Tbl.set e.queues controlKey (Tbl.get [] e.queues controlKey ++ [f]) }).nextFrame p
  else s.countFlushed p f

/-- Whether a control frame carries IP, so that it carries a DSCP (07 R236). -/
def State.ctlHasIp (s : State) : Ctl → Bool
  | .arpReply _ | .lldp _ | .pdelayReq | .pdelayResp => false
  | .announceAddress ip => !isV4 ip
  | .delayReq => decide (s.ob 0x3020 5 ≠ 0)
  | _ => true

/-- A port control frame (07 R236); a RoCEv2 one carries ECT(0) like every other (04 R139). -/
def State.ctlFrame (s : State) (len : Nat) (c : Ctl) : EgFrame :=
  { msg := .ctl c, len := len, prio := s.ob 0x4007 1, dscp := if s.ctlHasIp c then s.ob 0x4007 2 else 0
    ect := c.isRoce && decide (s.ob 0x3013 0 = 1), control := true, at_ := s.now }

/-- Enqueue a port control frame. -/
def State.enqueueCtl (s : State) (p len : Nat) (c : Ctl) : State := s.pushControl p (s.ctlFrame len c)

/-- Put a copy into the mirror queue of the analysis port, 256 KiB; a full queue drops it (03 R102). -/
def State.pushMirror (s : State) (p : Nat) (m : MirrorCopy) : State :=
  let used := sumNat (s.fab.mirrorQ.map MirrorCopy.bytes)
  if s.portUp p && decide (s.ob 0x2108 0 = p) && decide (used + m.bytes ≤ 262144) then
    { s with fab := { s.fab with mirrorQ := s.fab.mirrorQ ++ [m] } }.nextFrame p
  else s.bump 0x210A 0 3

/-- Discard everything queued for a port, counting it (03 Table 7, step 2); promotions end and tags are discarded
(07 Table 6). A frame on the line is cut off (step 1) and counted as flushed (03 Table 10; log entry 127). -/
def State.flushEgress (s : State) (p : Nat) : State :=
  let e := s.eg p
  let frames := e.queues.flatMap fun q => q.2
  let s := match e.onLine with
    | some f => (s.emit (.txCut p f)).countFlushed p f
    | none => s
  let s := s.each frames fun s f => s.countFlushed p f
  let mirrors := if s.ob 0x2108 0 = p then s.fab.mirrorQ else []
  let s := s.each mirrors fun s m => (s.bump 0x2104 p 0xD).add 0x2104 p 0xA m.bytes
  let s := if s.ob 0x2108 0 = p then { s with fab := { s.fab with mirrorQ := [] } } else s
  s.setEg p { e with queues := [], sched := [], vtime := [], onLine := none, pfcQ := [] }

/-- EGRESS_FRAME_END: the frame on the line has ended; the port chooses the next (07 R252). A stomped frame has left with its FCS
inverted (03 R97); one that a loss ended is counted in 2102h:07 instead (R94). -/
def egressFrameEnd (p : Nat) (s : State) : State :=
  let s := match (s.eg p).onLine with
    | some f => if f.stomped && !f.byLoss then s.bump 0x2103 (p / 4) 6 else s
    | none => s
  (s.setEg p { s.eg p with onLine := none }).nextFrame p

def execEgressFrameEnd (t port : Nat) (s : State) : Res := act t (isPort port) s (egressFrameEnd port)

end Sys2Proof.Machine
end

