-- ==== Sys2Proof/Machine/Ingress.lean ====
section
/-! DEFINITION. The packet buffer of the network ports (04 R131 to R136): link delay, headroom, thresholds, the PFC the
module sends, and the frames that stand in the buffer. -/

namespace Sys2Proof.Machine

/-! ### Link delay and headroom (04 R132, R133) -/

/-- The measured link delay in ps: the median of the last 16 kept measurements, when at least 4 of the last 16 requests
produced one (04 R133). -/
def State.measuredDelay (s : State) (p : Nat) : Option Rat :=
  let x := s.port p
  if (x.delays.filter id).length < 4 then none else some (median (x.kept.map fun d => (d : Rat)))

/-- Link delay in ns, measured or assumed. -/
def State.linkDelay (s : State) (p : Nat) : Rat :=
  match s.measuredDelay p with
  | some d => d / 1000
  | none => (s.ob 0x3021 2 : Nat)

/-- PHY allowance for the lane rate of the mode (04 R132). -/
def State.phyAllowance (s : State) (p : Nat) : Nat := if s.modeOf p < 3 then s.ob 0x3021 5 else s.ob 0x3021 6

/-- Round up to a multiple of 1,024. -/
def ceilKi (q : Rat) : Nat := ((q / 1024).ceil.toNat) * 1024

/-- Headroom H of a lossless priority, before R136: the pin, or the formula of R132. -/
def State.headroomFormula (s : State) (p : Nat) : Nat :=
  let pin := s.o 0x3001 p 0xF
  if pin ≠ 0 then pin
  else
    let t : Rat := 2 * s.linkDelay p + (s.phyAllowance p : Nat) + (s.ob 0x3021 3 : Nat) + (s.ob 0x3021 7 : Nat)
    ceilKi ((1 + (s.ob 0x3021 4 : Nat) / 100) * ((s.rate p : Nat) * t / 8 + (2 * s.fMax p : Nat)))

/-- Share S of a logical port in its network port's packet buffer (04 R131). -/
def State.bufferShare (s : State) (p : Nat) : Nat := 1572864 / max 1 (modeSubs (s.modeOf p))

/-- Lossless priorities of a port. -/
def State.losslessSet (s : State) (p : Nat) : List Nat := (List.range 8).filter fun k => s.lossless p k

/-- Headroom in force of a priority before the reduction of R136. -/
def State.headroomSet (s : State) (p prio : Nat) : Nat :=
  match Tbl.find? (s.port p).headroom prio with
  | some h => h
  | none => s.headroomFormula p

/-- Sum of the headrooms before the reduction. -/
def State.headroomSum (s : State) (p : Nat) : Nat := sumNat ((s.losslessSet p).map fun k => s.headroomSet p k)

/-- The headrooms would leave less than 64 KiB of shared region (04 R136). -/
def State.headroomShortNow (s : State) (p : Nat) : Bool :=
  !(s.losslessSet p).isEmpty && decide (s.bufferShare p < s.headroomSum p + 65536)

/-- Headroom of a lossless priority after the reduction (04 R136). -/
def State.headroom (s : State) (p prio : Nat) : Nat :=
  if s.headroomShortNow p then
    s.headroomSet p prio * (s.bufferShare p - 65536) / max 1 (s.headroomSum p) / 1024 * 1024
  else s.headroomSet p prio

/-- Shared region of a port: its share less the headrooms. -/
def State.sharedRegion (s : State) (p : Nat) : Nat :=
  s.bufferShare p - sumNat ((s.losslessSet p).map fun k => s.headroom p k)

/-- XOFF and XON thresholds (04 R134). -/
def State.xoff (s : State) (p : Nat) : Nat := s.sharedRegion p / ((s.losslessSet p).length + 1) / 1024 * 1024
def State.xon (s : State) (p : Nat) : Nat := s.xoff p - 2 * s.fMax p

/-! ### Occupancy -/

/-- Frames in the packet buffer of a network port. -/
def State.buffer (s : State) (n : Nat) : List BufFrame := Tbl.get [] s.eth.buffer n

def State.setBuffer (s : State) (n : Nat) (b : List BufFrame) : State :=
  { s with eth := { s.eth with buffer := Tbl.set s.eth.buffer n b } }

/-- Bytes of a priority of a logical port in the shared region, or in its headroom. -/
def State.occupied (s : State) (p prio : Nat) (head : Bool) : Nat :=
  sumNat (((s.buffer (p / 4)).filter fun f => decide (f.port = p ∧ f.prio = prio) && (f.inHeadroom == head)).map
    BufFrame.bytes)

/-- Bytes of a logical port in its shared region. -/
def State.sharedUsed (s : State) (p : Nat) : Nat :=
  sumNat (((s.buffer (p / 4)).filter fun f => decide (f.port = p) && !f.inHeadroom).map BufFrame.bytes)

/-! ### PFC sent (04 R134) -/

/-- Send PFC for a priority: it goes at the next frame boundary (07 R252). -/
def State.queuePfc (s : State) (p prio quanta : Nat) : State :=
  if s.portUp p then
    let e := s.eg p
    (s.setEg p { e with pfcQ := e.pfcQ ++ [(prio, quanta)] }).nextFrame p
  else s

/-- Pause the partner when a lossless priority reaches XOFF. -/
def State.checkXoff (s : State) (p prio : Nat) : State :=
  let x := s.port p
  if s.lossless p prio && (Tbl.find? x.xoffSent prio).isNone && decide (s.xoff p ≤ s.occupied p prio false) then
    (s.setPort p { x with xoffSent := Tbl.set x.xoffSent prio s.now }).queuePfc p prio 0xFFFF
  else s

/-- Let the partner go on when the priority has fallen to XON. -/
def State.checkXon (s : State) (p prio : Nat) : State :=
  let x := s.port p
  if Tbl.has x.xoffSent prio && decide (s.occupied p prio false ≤ s.xon p) then
    (s.setPort p { x with xoffSent := Tbl.erase x.xoffSent prio }).queuePfc p prio 0
  else s

/-- Where an arriving frame stands: `some false` in the shared region, `some true` in headroom, `none` when neither has
room (04 R131, R134, R136). -/
def State.admitFrame (s : State) (p prio len : Nat) : Option Bool :=
  let fitsShared := decide (s.sharedUsed p + len ≤ s.sharedRegion p)
  if s.lossless p prio = false then (if fitsShared then some false else none)
  else
    let fitsHead := decide (s.occupied p prio true + len ≤ s.headroom p prio)
    if s.occupied p prio false < s.xoff p then
      (if fitsShared then some false else if fitsHead then some true else none)
    else if fitsHead then some true
    else if fitsShared then some false
    else none

/-- Take a frame into the buffer; a lossless frame that finds no room is dropped and counted (04 R136), another one counts where a transport
slice withholds credit from it (05 R167). -/
def State.bufferFrame (s : State) (p prio : Nat) (t : Train) : State :=
  match s.admitFrame p prio t.len with
  | some h =>
    let f : BufFrame := ⟨p, prio, t.len, h, t⟩
    (s.setBuffer (p / 4) (s.buffer (p / 4) ++ [f])).checkXoff p prio
  | none =>
    if s.lossless p prio then s.bump 0x3004 p 0xF
    else if s.withheld t.flow.src t.flow.dst then s.bump 0x3120 (t.flow.dst - 8) 0xA
    else s

/-- Replace the oldest frame of a flow in a list of buffered frames, or take it out. -/
def setTrain (f : Flow) (t : Option Train) : List BufFrame → List BufFrame
  | [] => []
  | b :: r =>
    if b.train.flow = f then
      match t with
      | some t => { b with train := t } :: r
      | none => r
    else b :: setTrain f t r

/-- The oldest frame of a flow in a network port's buffer has left for the fabric. -/
def State.frameLeft (s : State) (n : Nat) (f : Flow) : State :=
  match (s.buffer n).find? fun b => decide (b.train.flow = f) with
  | none => s
  | some b => (s.setBuffer n (setTrain f none (s.buffer n))).checkXon b.port b.prio

/-- The link of a port is lost while a frame's head is in the fabric: its last cell will carry the stomp bit (03 Tables 5 and 10; log
entry 128). -/
def State.stompOpen (s : State) (p : Nat) : State :=
  s.setBuffer (p / 4) ((s.buffer (p / 4)).map fun b =>
    if b.port = p ∧ 0 < b.train.sent ∧ b.train.bad = none then { b with train := { b.train with bad := some 5 } } else b)

/-! ### Recomputing headroom (04 R135, R136) -/

/-- Bring the headroom-short flag up to date; its rise raises the event (04 R136). -/
def State.checkShort (s : State) (p : Nat) : State :=
  let x := s.port p
  let now := s.headroomShortNow p
  let s := s.setPort p { x with short := now }
  if now && !x.short then s.raise .headroomShort [p] else s

/-- A new mode creates the port afresh: its H applies at once and the history starts anew (log entry 18). -/
def State.forceHeadroom (s : State) (p : Nat) : State :=
  let h := s.headroomFormula p
  let x := s.port p
  (s.setPort p { x with
    headroom := (s.losslessSet p).map fun k => (k, h)
    computed := (s.losslessSet p).map fun k => (k, [(s.now, h)]) }).checkShort p

/-- Values computed in the last 60 s. -/
def recentH (now : Nat) (hs : List (Nat × Nat)) : List (Nat × Nat) := hs.filter fun e => decide (now < e.1 + 60 * sNs)

/-- Apply a lower H to a priority when the last 60 s and its occupancy, headroom included, allow it (04 R135, R148). -/
def State.tryDecrease (s : State) (p prio : Nat) : State :=
  let x := s.port p
  let vals := (recentH s.now (Tbl.get [] x.computed prio)).map Prod.snd
  let cur := s.headroomSet p prio
  if vals.isEmpty || !(vals.all fun v => decide (v < cur)) then s
  else
    let s2 := s.setPort p { x with headroom := Tbl.set x.headroom prio (maxNat vals) }
    if s.occupied p prio true = 0 ∧ s.occupied p prio false < s2.xoff p then s2.checkShort p else s

/-- A new link-delay median, or a change of the port's settings: H is computed anew; an increase applies at once, and a priority that
has just become lossless takes H at once (04 R135; log entry 18). -/
def State.recomputeHeadroom (s : State) (p : Nat) : State :=
  let h := s.headroomFormula p
  let y := s.port p
  let keep {α : Type} (t : Tbl α) : Tbl α := t.filter fun e => s.lossless p e.1
  let s := s.setPort p { y with headroom := keep y.headroom, computed := keep y.computed }
  s.each (s.losslessSet p) fun s k =>
    let x := s.port p
    let hist := recentH s.now ((s.now, h) :: Tbl.get [] x.computed k)
    let cur := s.headroomSet p k
    let s := s.setPort p { x with computed := Tbl.set x.computed k hist, headroom := Tbl.set x.headroom k cur }
    if cur < h then
      let y := s.port p
      (s.setPort p { y with headroom := Tbl.set y.headroom k h }).checkShort p
    else (s.tryDecrease p k).checkShort p

end Sys2Proof.Machine
end

