-- ==== Sys2Proof/Machine/Fabric.lean ====
section
/-! DEFINITION. The cell fabric (03): spraying, credits, epochs, the resequencer, planes, port flushes, mirroring and the
sampler. -/

namespace Sys2Proof.Machine

/-! ### Flows -/

/-- Key of a flow. -/
def flowKey (f : Flow) : Nat := ((f.src * 128 + f.dst) * 4 + f.sub) * 8 + f.cls

/-- Key of a plane and destination. -/
def creditKey (plane dst : Nat) : Nat := plane * 128 + dst

/-- Key of a plane, destination and class. -/
def planeKey (plane dst c : Nat) : Nat := creditKey plane dst * 8 + c

/-- Status of a plane (2100h): 0 in service, 1 faulty, 2 taken out. -/
def State.planeStatus (s : State) (p : Nat) : Nat := s.ob 0x2100 (p + 1)

/-- Bitmap of the planes in service. -/
def State.planesUp (s : State) : Nat := sumNat ((List.range 4).map fun p => if s.planeStatus p = 0 then 2 ^ p else 0)

/-- Capacity published in 2030h:01: three quarters of R50's with three planes in service (03 R82). -/
def State.capacityNow (s : State) : Rat := s.fabricCapacity * (bitCount s.planesUp 4 : Nat) / 4

/-- Skew bound in ns (03 R89) and resequencer timeout (03 R90). -/
def State.skewBound (s : State) : Rat := 24909 / 10000 * s.planeD
def State.reseqTimeout (s : State) : Rat := (s.ob 0x2101 1 : Rat) / 10 * s.skewBound

/-- Source side of a flow: its own record once it has carried a cell, else the one that stands for the flows of its logical port, else
the one that stands for all. -/
def State.srcFlow (s : State) (f : Flow) : SrcFlow :=
  match Tbl.find? s.fab.src (flowKey f) with
  | some x => x
  | none => Tbl.get s.fab.idle s.fab.base (f.dst * 4 + f.sub)

def State.setSrc (s : State) (f : Flow) (x : SrcFlow) : State :=
  { s with fab := { s.fab with src := Tbl.set s.fab.src (flowKey f) x } }

/-- Change the source side of every flow. -/
def State.mapFlows (s : State) (g : SrcFlow → SrcFlow) : State :=
  { s with fab := { s.fab with
      src := s.fab.src.map fun e => (e.1, g e.2), base := s.fab.base.map fun e => (e.1, g e.2), idle := g s.fab.idle } }

def State.reseq (s : State) (f : Flow) : Reseq := Tbl.get {} s.fab.rsq (flowKey f)

def State.setReseq (s : State) (f : Flow) (x : Reseq) : State :=
  { s with fab := { s.fab with rsq := Tbl.set s.fab.rsq (flowKey f) x } }

/-- The cells on a plane toward a destination in a class, oldest first. -/
def State.planeCells (s : State) (plane dst c : Nat) : List Cell := Tbl.get [] s.fab.onPlane (planeKey plane dst c)

def State.setPlaneCells (s : State) (plane dst c : Nat) (l : List Cell) : State :=
  { s with fab := { s.fab with
      onPlane := if l.isEmpty then Tbl.erase s.fab.onPlane (planeKey plane dst c) else Tbl.set s.fab.onPlane (planeKey plane dst c) l } }

/-! ### Sending a cell (03 R77, R78, R84, R95, R96, R100) -/

/-- Credits a plane holds for a cell of class `c` to `dst`: 64, of which 8 are kept for Class 0 (03 R78; log entry 129). -/
def State.creditFor (s : State) (plane dst c : Nat) : Nat :=
  let u := Tbl.get (0, 0) s.fab.used (creditKey plane dst)
  let total := 64 - (u.1 + u.2)
  if c = 0 then total else min total (56 - u.2)

/-- The plane with the most credit among those allowed, ties in round-robin order from `first` (03 R77). -/
def State.pickPlane (s : State) (allowed dst c first : Nat) : Option Nat :=
  let order := (List.range 4).map fun i => (first + i) % 4
  order.foldl (init := none) fun best p =>
    if bit allowed p && bit s.planesUp p && decide (0 < s.creditFor p dst c) then
      match best with
      | none => some p
      | some b => if s.creditFor b dst c < s.creditFor p dst c then some p else some b
    else best

/-- Take or give back a credit. -/
def State.creditAdd (s : State) (plane dst c : Nat) (take : Bool) : State :=
  let u := Tbl.get (0, 0) s.fab.used (creditKey plane dst)
  let d (n : Nat) : Nat := if take then n + 1 else n - 1
  { s with fab := { s.fab with
      used := Tbl.set s.fab.used (creditKey plane dst) (if c = 0 then (d u.1, u.2) else (u.1, d u.2)) } }

/-- Probe marking: every Nth Class 0 cell of a source carries the mark, counted from reset (02 R67; log entry 130). -/
def State.probeMark (s : State) (f : Flow) : Bool × State :=
  if f.cls = 0 then
    let n := Tbl.get 0 s.core.probeCount f.src + 1
    let hit := decide (max 1 (s.ob 0x2020 5) ≤ n)
    (hit, { s with core := { s.core with probeCount := Tbl.set s.core.probeCount f.src (if hit then 0 else n) } })
  else (false, s)

/-- Whether the model holds the frames of a source until their cells have left: a network port's received frames and the copies at
the mirror unit. The cells of every other block are the command's operands (log entry 131). -/
def holdsTrains (src : Nat) : Bool := decide (src < 8 ∨ src = 66)

/-- The oldest frame of a flow at its source. -/
def State.trainOf (s : State) (f : Flow) : Option Train :=
  if f.src < 8 then ((s.buffer f.src).map BufFrame.train).find? fun t => decide (t.flow = f)
  else s.fab.copies.find? fun t => decide (t.flow = f)

/-- How much the address of a cell grows from one cell of a frame to the next: by a cell toward a network port, by 128 bytes toward a
transport slice, not at all where the address is opaque (03 Table 3). -/
def addrStep (dst : Nat) : Nat := if dst < 8 then 2 ^ 18 else if dst < 12 then 128 else 0

/-- What the next cell of a flow carries: a frame's next cell, or the operand, whose last cell is stomped when the source says so or
an input of it was stomped (03 R95, R96). -/
def State.nextBody (s : State) (f : Flow) (b : CellBody) : Option CellBody :=
  if holdsTrains f.src then (s.trainOf f).map fun t => t.body (addrStep f.dst)
  else
    let tainted := b.uses.any fun a => s.fab.tainted.contains (f.src, a)
    some { b with stomp := posEnds b.pos && (b.stomp || tainted), len := max 1 (min 128 b.len) }

/-- Replace the oldest frame of a flow in a list of frames, or take it out. -/
def setCopy (f : Flow) (t : Option Train) : List Train → List Train
  | [] => []
  | b :: r =>
    if b.flow = f then
      match t with
      | some t => t :: r
      | none => r
    else b :: setCopy f t r

/-- A cell of a flow has left its source, or been discarded there; with its last cell a frame leaves the source. -/
def State.cellGone (s : State) (f : Flow) (ends : Bool) : State :=
  match s.trainOf f with
  | none => s
  | some t =>
    if f.src < 8 then
      if ends then s.frameLeft f.src f
      else s.setBuffer f.src (setTrain f (some { t with sent := t.sent + 1 }) (s.buffer f.src))
    else if f.src = 66 then
      { s with fab := { s.fab with copies := setCopy f (if ends then none else some { t with sent := t.sent + 1 }) s.fab.copies } }
    else s

/-- The row of 2103h in which a source counts a stomp: the frame's own reason, or a data error (03 Table 5). -/
def State.stompReason (s : State) (f : Flow) : Nat :=
  if holdsTrains f.src then
    match s.trainOf f with
    | some t => t.bad.getD 4
    | none => 4
  else 4

/-- A source discards a cell toward a logical port that is down or being flushed: its bytes count at once, its frame with its last cell,
without a class where it goes to the port control or mirror queue (03 R98, R100, 07 R236). -/
def State.discardCell (s : State) (lp : Nat) (f : Flow) (b : CellBody) : State :=
  let s := s.add 0x2104 lp 0xA b.len
  let s := if posEnds b.pos then s.bump 0x2104 lp (if b.copy ∨ b.addr / 2 ^ 32 = controlKey then 0xD else 2 + f.cls) else s
  s.cellGone f (posEnds b.pos)

/-- Put a cell on a plane. -/
def State.sendOn (s : State) (p : Nat) (f : Flow) (b : CellBody) : State :=
  let x := s.srcFlow f
  let (probe, s) := s.probeMark f
  let c : Cell := { flow := f, epoch := x.epoch, seq := x.next, probe := probe, body := b }
  let s := ((s.setSrc f { x with next := x.next + 1 }).creditAdd p f.dst f.cls true).perf f.src 1
  let s := s.when (decide (20 ≤ f.src ∧ f.src < 28)) fun s => s.perf (392 + (f.src - 20)) b.len
  let s := (s.setPlaneCells p f.dst f.cls (s.planeCells p f.dst f.cls ++ [c]))
  let s := { s with fab := { s.fab with
      rr := Tbl.set s.fab.rr f.src ((p + 1) % 4), pairs := Tbl.modify 0 s.fab.pairs (f.src * 128 + f.dst) (· + 1) } }
  let s := if b.stomp && posEnds b.pos then s.bump 0x2103 f.src (s.stompReason f) else s
  s.cellGone f (posEnds b.pos)

/-- CELL_SEND: a source offers the next cell of a flow. Toward a logical port that is down, or while the flow waits for its flush
epoch, it is discarded (03 R85, R100); without credit, or while a transport slice withholds it (05 R167), it waits at the source. -/
def cellSend (f : Flow) (b : CellBody) (s : State) : State :=
  match s.nextBody f b with
  | none => s
  | some b =>
    let x := s.srcFlow f
    let lp := f.dst * 4 + f.sub
    if f.dst < 8 ∧ (s.portUp lp = false ∨ x.flushDue.isSome = true) then s.discardCell lp f b
    else
      match (if s.withheld f.src f.dst then none else s.pickPlane x.planes f.dst f.cls (Tbl.get 0 s.fab.rr f.src)) with
      | none => s
      | some p => s.sendOn p f b

def execCellSend (t : Nat) (flow : Flow) (body : CellBody) (s : State) : Res :=
  act t (isFlow flow) s (cellSend flow body)

/-! ### What a destination does with a frame or record (03 R97, Table 6) -/

/-- The row of 2103h in which a destination counts a stomped frame or record (03 Table 6). -/
def stompSub (dst : Nat) : Nat :=
  if dst < 8 then 6 else if (28 ≤ dst ∧ dst < 52) ∨ dst = 56 ∨ dst = 57 then 8 else 7

/-- What a destination other than a network port does with a stomped frame or record (03 Table 6). -/
def stompAct (dst : Nat) : StompAct :=
  if dst < 12 then .packetDiscarded
  else if (20 ≤ dst ∧ dst < 28) ∨ dst = 64 then .nothingWritten
  else if 28 ≤ dst ∧ dst < 52 then .noTlp
  else if 52 ≤ dst ∧ dst < 56 then .accumulationFailed
  else if dst = 56 ∨ dst = 57 then .poisonedTlp
  else .recordDiscarded

/-- The accumulation context that a cell's address names at its accumulator (03 Table 3, 09 R311). -/
def accContext (dst addr : Nat) : Nat := (dst - 52) * 256 + addr / 2 ^ 32 % 256

/-- Blocks that build other data from what they receive (03 R96). -/
def forwards (dst : Nat) : Bool := decide ((8 ≤ dst ∧ dst < 12) ∨ (52 ≤ dst ∧ dst < 56) ∨ dst = 66)

/-- A network port takes a frame from the fabric into the queue its address names (03 Tables 3 and 6): the mirror queue, the port control
queue, or its tenant's queue. -/
def State.takeFrame (s : State) (f : Flow) (x : Reseq) (byLoss : Bool) : State :=
  let lp := f.dst * 4 + f.sub
  let eg : EgFrame := { msg := .cells f x.data, tenant := x.tenant, cls := f.cls, len := x.bytes
                        stomped := x.stomped, byLoss := byLoss, at_ := s.now }
  if x.copy then
    s.pushMirror lp { frame := { length := x.bytes, content := x.data }, bytes := x.bytes, stomped := x.stomped, byLoss := byLoss }
  else if x.addr / 2 ^ 32 = controlKey then s.pushControl lp { eg with control := true, prio := s.ob 0x4007 1, dscp := s.ob 0x4007 2 }
  else s.enqueue lp eg

/-- The end of a frame or record at its destination, as its last cell is delivered or a loss ends it (`byLoss`, R94): a stomped one is
counted, in 2102h:07 only where a loss ended it, and treated as Table 6 states; a record for HBM is written as a whole. -/
def State.endRecord (s : State) (f : Flow) (x : Reseq) (byLoss : Bool) : State :=
  let s := s.when (forwards f.dst) fun s =>
    let others := s.fab.tainted.filter fun k => decide (k ≠ (f.dst, x.addr))
    { s with fab := { s.fab with tainted := if x.stomped then (f.dst, x.addr) :: others else others } }
  if f.dst < 8 then s.takeFrame f x byLoss
  else if x.stomped then
    let s := s.when (!byLoss) fun s => s.bump 0x2103 f.dst (stompSub f.dst)
    let s := s.when (decide (52 ≤ f.dst ∧ f.dst < 56)) fun s =>
      { s with fab := { s.fab with failedCtx := accContext f.dst x.addr :: s.fab.failedCtx } }
    s.emit (.stomped f x.addr (stompAct f.dst))
  else if 20 ≤ f.dst ∧ f.dst < 28 ∧ x.addr + x.bytes ≤ hbmEnd then { s with hbm := Memory.writeN s.hbm x.addr x.data x.bytes }
  else s

/-! ### Delivery (03 R87 to R97) -/

/-- Raise the resequencer-loss event, at most once per second per destination, with the counts since the previous one
(03 R94). -/
def State.lossEvent (s : State) (dst lost damaged : Nat) : State :=
  let x := Tbl.get {} s.fab.loss dst
  let x := { x with lost := x.lost + lost, damaged := x.damaged + damaged }
  let quiet := match x.last with
    | some l => decide (l + sNs ≤ s.now)
    | none => true
  if quiet then
    ({ s with fab := { s.fab with loss := Tbl.set s.fab.loss dst { last := some s.now } } }).raise .resequencerLoss
      [dst, x.lost, x.damaged]
  else { s with fab := { s.fab with loss := Tbl.set s.fab.loss dst x } }

/-- The record of a flow once a cell of its frame or record has been delivered. -/
def Reseq.take (x : Reseq) (c : Cell) : Reseq :=
  let y := if posStarts c.body.pos then
      { x with stomped := false, bytes := 0, data := 0, addr := c.body.addr, tenant := c.body.tenant, copy := c.body.copy } else x
  { y with
    skipping := false, skipCounted := false, isOpen := !(posEnds c.body.pos), stomped := y.stomped || c.body.stomp
    data := y.data + c.body.data % 256 ^ c.body.len * 256 ^ y.bytes, bytes := y.bytes + c.body.len }

/-- Deliver one cell in order. After a loss, cells up to the next first or only cell are discarded (03 R94); a frame
so discarded, whose end was not already counted, is counted once. -/
def State.deliverCell (s : State) (c : Cell) : State :=
  let x := s.reseq c.flow
  if x.skipping && !(posStarts c.body.pos) then
    let s := if x.skipCounted then s else (s.bump 0x2102 c.flow.dst 7).lossEvent c.flow.dst 0 1
    s.setReseq c.flow { x with skipCounted := true }
  else
    let y := x.take c
    let s := (s.setReseq c.flow y).emit (.deliver c)
    if posEnds c.body.pos then s.endRecord c.flow y false else s

/-- Deliver the held cells that follow in unbroken order (03 R87); `fuel` is at most the cells held. -/
def State.drain (f : Flow) : Nat → State → State
  | 0, s => s
  | n + 1, s =>
    let x := s.reseq f
    match x.held.find? fun c => decide (c.seq = x.next) with
    | none => s
    | some c =>
      let s := s.setReseq f { x with held := x.held.filter (fun d => decide (d.seq ≠ x.next)), next := x.next + 1 }
      State.drain f n (s.deliverCell c)

/-- End the frame or record whose first cell has been delivered as stomped: its destination acts on it, and it is counted in 2102h:07
(03 R94). -/
def State.endStomped (s : State) (f : Flow) : State :=
  let x := s.reseq f
  if x.isOpen then
    ((((s.bump 0x2102 f.dst 7).emit (.endStomped f)).setReseq f { x with isOpen := false }).endRecord f { x with stomped := true } true)
  else s

/-- Declare `n` numbers lost from the next expected one on, counting them in `sub` of 2102h: an open frame ends as
stomped, and what follows is discarded up to the next first or only cell (03 R91, R92, R94). -/
def State.declareLost (s : State) (f : Flow) (sub n : Nat) : State :=
  if n = 0 then s
  else
    let x := s.reseq f
    let s := (s.add 0x2102 f.dst sub n).endStomped f
    let s := s.setReseq f { s.reseq f with
      next := x.next + BitVec.ofNat 16 n, skipping := true, skipCounted := x.isOpen, isOpen := false }
    s.lossEvent f.dst n (if x.isOpen then 1 else 0)

/-- Distance of a sequence number ahead of the next expected one, modulo 65,536. -/
def Reseq.ahead (x : Reseq) (q : CellSeq) : Nat := (q - x.next).toNat

/-- Distance of the lowest held number. -/
def Reseq.lowest (x : Reseq) : Option Nat :=
  x.held.foldl (init := none) fun m c => match m with
    | none => some (x.ahead c.seq)
    | some k => some (min k (x.ahead c.seq))

/-- The timeout runs exactly while a cell is held behind a missing number (03 R90; log entry 132). -/
def State.retime (s : State) (f : Flow) (restart : Bool) : State :=
  let x := s.reseq f
  if x.held.isEmpty then s.setReseq f { x with since := none }
  else if restart || x.since.isNone then s.setReseq f { x with since := some s.now }
  else s

/-- Declare lost and deliver until every number below `limit` ahead of the start has been passed (03 R92): `left` is
how many numbers remain below the limit. -/
def State.advanceTo (f : Flow) : Nat → Nat → State → State
  | 0, _, s => s
  | fuel + 1, left, s =>
    if left = 0 then s
    else
      let x := s.reseq f
      let gap := match x.lowest with
        | some k => min k left
        | none => left
      if gap = 0 then
        match x.held.find? fun c => decide (c.seq = x.next) with
        | none => s
        | some c =>
          let s := s.setReseq f { x with held := x.held.filter (fun d => decide (d.seq ≠ x.next)), next := x.next + 1 }
          State.advanceTo f fuel (left - 1) (s.deliverCell c)
      else State.advanceTo f fuel (left - gap) (s.declareLost f 3 gap)

/-- Cells held at a destination, all flows together (03 R87). -/
def State.slotsUsed (s : State) (dst : Nat) : Nat :=
  sumNat (s.fab.rsq.map fun e => (e.2.held.filter fun c => decide (c.flow.dst = dst)).length)

/-- The cell leaves its plane, and its credit returns (03 R78; log entry 12). -/
def State.offPlane (s : State) (plane : Nat) (c : Cell) : State :=
  (s.setPlaneCells plane c.flow.dst c.flow.cls ((s.planeCells plane c.flow.dst c.flow.cls).erase c)).creditAdd plane c.flow.dst
    c.flow.cls false

/-- How many epochs an epoch of a flow lies behind the one its source is in, modulo 16. -/
def State.epochAge (s : State) (f : Flow) (e : Nat) : Nat := ((s.srcFlow f).epoch % 16 + 16 - e % 16) % 16

/-- An epoch nearer to the source's than the resequencer's is new, any other is old (03 R86; log entry 13). -/
def State.newerEpoch (s : State) (f : Flow) (e : Nat) : Bool := decide (s.epochAge f e < s.epochAge f (s.reseq f).epoch)

/-- Enter a new epoch: held cells of the older one are discarded and counted, its timeout is cancelled, and a frame whose first cell
had been delivered ends as stomped (03 R86; log entry 133). -/
def State.newEpoch (s : State) (f : Flow) (e : Nat) : State :=
  let x := s.reseq f
  ((s.add 0x2102 f.dst 5 x.held.length).endStomped f).setReseq f { epoch := e, next := 0 }

/-- The resequencer accepts the cell now: with every slot taken it accepts only what it can deliver or discard at once (03 R93). -/
def State.acceptable (s : State) (c : Cell) : Bool :=
  let x := s.reseq c.flow
  if c.epoch = x.epoch then
    let d := x.ahead c.seq
    decide (d = 0 ∨ 32768 ≤ d ∨ s.slotsUsed c.flow.dst < 1024) || x.held.any fun h => decide (h.seq = c.seq)
  else if s.newerEpoch c.flow c.epoch then decide (c.seq = 0 ∨ s.slotsUsed c.flow.dst < 1024 + x.held.length)
  else true

/-- Take a cell of the current epoch (03 R87, R88, R92). -/
def State.acceptCell (s : State) (c : Cell) : State :=
  let f := c.flow
  let x := s.reseq f
  let d := x.ahead c.seq
  if 32768 ≤ d then s.bump 0x2102 f.dst 4
  else if d = 0 then
    let s := s.setReseq f { x with next := x.next + 1 }
    let s := State.drain f 1024 (s.deliverCell c)
    s.retime f true
  else if d < 512 then
    if x.held.any fun h => decide (h.seq = c.seq) then s
    else (s.setReseq f { x with held := c :: x.held }).retime f false
  else
    let s := State.advanceTo f 2048 (d - 511) s
    let x := s.reseq f
    let s := State.drain f 1024 (s.setReseq f { x with held := c :: x.held })
    s.retime f true

/-- The class served next of Classes 1 to 7 after class `last`, round-robin, among those whose oldest cell can be accepted
(03 R80). -/
def State.nextClass (s : State) (plane dst last : Nat) : Option Cell :=
  ((List.range 7).map fun i => (last + i) % 7 + 1).findSome? fun k =>
    match s.planeCells plane dst k with
    | c :: _ => if s.acceptable c then some c else none
    | [] => none

/-- The cell that a plane gives to a destination next: Class 0 first, then the other classes in round-robin order, one cell at a time,
each class in the order of its cells; a cell that the resequencer cannot accept stays, and lets others pass (03 R80, R93; log
entry 134). -/
def State.nextCell (s : State) (plane dst : Nat) : Option Cell :=
  match s.planeCells plane dst 0 with
  | c :: _ => if s.acceptable c then some c else s.nextClass plane dst (Tbl.get 0 s.fab.lastCls (creditKey plane dst))
  | [] => s.nextClass plane dst (Tbl.get 0 s.fab.lastCls (creditKey plane dst))

/-- The plane served a cell of class `c`. -/
def State.served (s : State) (plane dst c : Nat) : State :=
  if c = 0 then s else { s with fab := { s.fab with lastCls := Tbl.set s.fab.lastCls (creditKey plane dst) c } }

/-- A payload whose correction failed in a plane is counted there (03 R81). -/
def State.correctionFailed (s : State) (plane : Nat) : State :=
  { s with fab := { s.fab with
      failures := Tbl.set s.fab.failures plane (within s.now msNs (s.now :: Tbl.get [] s.fab.failures plane)) } }

/-- CELL_ARRIVAL: the plane gives the destination its next cell. `flips` are the header bits in error, which the header check finds,
`payload` the finding of the plane's check codes, and for a probe `transitPs` its measured transit (03 R76, R80, R86, R87; 02 R67). -/
def cellArrival (plane dst flips : Nat) (payload : PayloadCheck) (transitPs : Nat) (s : State) : State :=
  match s.nextCell plane dst with
  | none => s
  | some c0 =>
    let s := (s.offPlane plane c0).served plane dst c0.flow.cls
    let failed := decide (payload = .failed)
    let s := if failed then s.correctionFailed plane else s
    let c : Cell := if failed then { c0 with body := { c0.body with stomp := true } } else c0
    let s := if c.probe then s.probeTransit plane dst transitPs else s
    if headerOk (cellHeader c0 ^^^ flips) = false then s.bump 0x2102 dst 6
    else
      let s := s.perf (68 + dst) 1
      let s := s.when (decide (20 ≤ dst ∧ dst < 28)) fun s => s.perf (400 + (dst - 20)) c.body.len
      if c.epoch = (s.reseq c.flow).epoch then s.acceptCell c
      else if s.newerEpoch c.flow c.epoch then (s.newEpoch c.flow c.epoch).acceptCell c
      else s.bump 0x2102 dst 5

def execCellArrival (t plane dst : Nat) (line : CellChecks) (transitPs : Nat) (s : State) : Res :=
  actMem t (isPlane plane && isAttachment dst) s (cellArrival plane dst line.flips line.payload transitPs)

/-- RESEQUENCER_TIMEOUT: every missing number up to the lowest held one is declared lost, the held cells follow in
order (03 R91). -/
def resequencerTimeout (f : Flow) (s : State) : State :=
  let x := s.reseq f
  match x.since, x.lowest with
  | some t0, some gap =>
    if ((s.now - t0 : Nat) : Rat) < s.reseqTimeout then s
    else
      let s := s.declareLost f 2 gap
      (State.drain f 1024 s).retime f true
  | _, _ => s

def execResequencerTimeout (t : Nat) (flow : Flow) (s : State) : Res :=
  actMem t (isFlow flow) s (resequencerTimeout flow)

/-! ### Planes and epochs (03 R81 to R85) -/

/-- A plane leaves service: no flow uses it until an epoch after its return (03 R81, R83). -/
def State.planeGone (s : State) (plane : Nat) : State := s.mapFlows fun x => { x with planes := clearBit x.planes plane }

/-- Every flow's next epoch falls due, so that it may use a returned plane (03 R83, R85). -/
def State.planeReturn (s : State) : State := s.mapFlows fun x => { x with planeDue := true }

/-- Another plane is faulty or taken out. -/
def State.otherPlaneOut (s : State) (plane : Nat) : Bool :=
  (List.range 4).any fun q => decide (q ≠ plane ∧ s.planeStatus q ≠ 0)

/-- 03 R83: a write of 2 is refused while another plane is faulty or taken out; a faulty plane's status is a read-only
state (log entry 14). -/
def planeStatusCode (plane v : Nat) (s : State) : Abort :=
  if s.planeStatus plane = 1 then abState
  else if v = 2 then need (!s.otherPlaneOut plane) abState
  else 0

/-- The effect of an accepted write (03 R83). -/
def setPlaneStatus (plane v : Nat) (s : State) : State :=
  let u := s.keepVal 0x2100 0 (plane + 1) (.nat v)
  if s.planeStatus plane = 2 ∧ v = 0 then u.planeReturn else if v = 2 then u.planeGone plane else u

/-- PLANE_STATUS_WRITE. -/
def planeStatusWrite (sess plane v : Nat) (s : State) : State :=
  s.writeAs sess 0x2100 (plane + 1) (.nat v) (planeStatusCode plane v) (setPlaneStatus plane v)

def execPlaneStatusWrite (t sess plane v : Nat) (s : State) : Res :=
  act t (isPlane plane) s (planeStatusWrite sess plane v)

/-- Take a plane out of service as faulty: its cells are lost (03 R81), and a plane the operator had taken out returns
at once (03 R82). -/
def State.failPlane (s : State) (plane : Nat) : State :=
  let s := (s.put 0x2100 0 (plane + 1) 1).raise .planeFaulty [plane]
  let used := s.fab.used.filter fun e => decide (e.1 / 128 ≠ plane)
  let s := ({ s with fab := { s.fab with
    onPlane := s.fab.onPlane.filter (fun e => decide (e.1 / 1024 ≠ plane)), used := used } }).planeGone plane
  s.each (List.range 4) fun s q =>
    if s.planeStatus q = 2 then ((s.put 0x2100 0 (q + 1) 0).planeReturn).raise .planeReturned [q] else s

/-- Number of faulty planes. -/
def State.faultyPlanes (s : State) : Nat := ((List.range 4).filter fun q => decide (s.planeStatus q = 1)).length

/-- When a flow may start its next epoch: four resequencer timeouts after it started the one it is in (03 R85), in whole ns. -/
def State.epochSpacing (s : State) : Nat := (4 * s.reseqTimeout).ceil.toNat

/-- Four resequencer timeouts have passed since the flow's epoch started (03 R85). -/
def State.epochSpaced (s : State) (x : SrcFlow) : Bool := decide (x.started + s.epochSpacing ≤ s.now)

/-- The next epoch of a flow has fallen due: for a flush at t0 + 1.0 µs (03 Table 7), for a plane return at once. -/
def SrcFlow.due (x : SrcFlow) (now : Nat) : Bool :=
  match x.flushDue with
  | some d => decide (d ≤ now)
  | none => x.planeDue

/-- The next epoch of a flow, started at `now` on the planes in service. -/
def State.nextEpoch (s : State) (x : SrcFlow) (now : Nat) : SrcFlow :=
  { epoch := (x.epoch + 1) % 16, next := 0, started := now, planes := s.planesUp }

/-- EPOCH_ADVANCE: a flow whose next epoch is due starts it, not before four timeouts have passed (03 R85). -/
def epochAdvance (f : Flow) (s : State) : State :=
  let x := s.srcFlow f
  if x.due s.now && s.epochSpaced x then s.setSrc f (s.nextEpoch x s.now) else s

def execEpochAdvance (t : Nat) (flow : Flow) (s : State) : Res := act t (isFlow flow) s (epochAdvance flow)

/-! ### Flush of a logical port (03 R98, R99) -/

/-- Keys of the flows toward a logical port. -/
def towardPort (p : Nat) (key : Nat) : Bool := decide (key / 32 % 128 = p / 4 ∧ key / 8 % 4 = p % 4)

/-- Frames flushed at a port so far. -/
def State.framesFlushed (s : State) (p : Nat) : Nat := sumNat ((List.range 8).map fun c => s.o 0x2104 p (2 + c)) + s.o 0x2104 p 0xD

/-- Start the flush at t0, now: queues emptied and counted, an epoch due at t0 + 1.0 µs on every flow toward the port (03 Table 7,
steps 1 to 3). -/
def State.startFlush (s : State) (p : Nat) : State :=
  let r : FlushRec := ⟨s.now, s.ptpNow, s.framesFlushed p, s.o 0x2104 p 0xA⟩
  let s := s.flushEgress p
  let owe (x : SrcFlow) : SrcFlow := { x with flushDue := some (s.now + 1000) }
  let src := s.fab.src.map fun e => if towardPort p e.1 then (e.1, owe e.2) else e
  let base := Tbl.set s.fab.base p (owe (Tbl.get s.fab.idle s.fab.base p))
  let s := { s with fab := { s.fab with flushes := Tbl.set s.fab.flushes p r, src := src, base := base } }
  s.bump 0x2104 p 0xB

/-- No flow toward the port that has carried cells still waits for its epoch. -/
def State.epochsDone (s : State) (p : Nat) : Bool :=
  s.fab.src.all fun e => !(towardPort p e.1 && e.2.flushDue.isSome)

/-- When a flow that has carried no cell toward the port starts its epoch: by itself, at the instant of Table 7 (03 R85, R98; log
entry 135). -/
def State.idleEpochAt (s : State) (p : Nat) (r : FlushRec) : Nat :=
  let x := Tbl.get s.fab.idle s.fab.base p
  max (r.t0 + 1000) (x.started + s.epochSpacing)

/-- When step 3 ended: the latest epoch start of a flow toward the port. -/
def State.step3End (s : State) (p : Nat) (r : FlushRec) : Nat :=
  maxNat (s.idleEpochAt p r :: (s.fab.src.filter fun e => towardPort p e.1).map fun e => e.2.started)

/-- Flows toward a port for which a resequencer or a plane still holds cells, or a frame stands open. -/
def State.flowsToward (s : State) (p : Nat) : List Flow :=
  let onPlanes := (s.fab.onPlane.flatMap fun e => e.2).map Cell.flow
  let held := (s.fab.rsq.filter fun e => towardPort p e.1).map fun e =>
    ({ src := e.1 / 4096, dst := e.1 / 32 % 128, sub := e.1 / 8 % 4, cls := e.1 % 8 } : Flow)
  ((onPlanes.filter fun f => decide (f.dst * 4 + f.sub = p)) ++ held).eraseDups

/-- Cells of a flow on the planes that belong to another epoch than its source's: they are discarded and counted (03 R86). -/
def State.purgePlanes (s : State) (f : Flow) : State :=
  let e := (s.srcFlow f).epoch
  s.each (List.range 4) fun s p =>
    let old := (s.planeCells p f.dst f.cls).filter fun c => decide (c.flow = f ∧ c.epoch ≠ e)
    (s.each old fun s c => s.offPlane p c).add 0x2102 f.dst 5 old.length

/-- Nothing of an old epoch of the flow is left: what it still held is discarded and counted, and the resequencer stands at the start
of the source's epoch (03 R86, R99). -/
def State.purgeFlow (s : State) (f : Flow) : State :=
  let s := s.purgePlanes f
  if (s.reseq f).epoch = (s.srcFlow f).epoch then s else s.newEpoch f (s.srcFlow f).epoch

/-- PORT_FLUSH_COMPLETE: one timeout after step 3 the flush is complete, and every cell of the old epochs is gone (03 Table 7, step 4,
R99). The event carries the counts since t0. -/
def portFlushComplete (p : Nat) (s : State) : State :=
  match Tbl.find? s.fab.flushes p with
  | none => s
  | some r =>
    if s.epochsDone p && decide (s.reseqTimeout ≤ ((s.now - s.step3End p r : Nat) : Rat)) && decide (s.step3End p r ≤ s.now) then
      let base := Tbl.get s.fab.idle s.fab.base p
      let s := { s with fab := { s.fab with base := Tbl.set s.fab.base p (s.nextEpoch base (s.idleEpochAt p r)) } }
      let s := s.each (s.flowsToward p) State.purgeFlow
      let s := { s with fab := { s.fab with flushes := Tbl.erase s.fab.flushes p } }
      let s := s.setVal 0x2104 p 0xC (.nat r.ptp0.toNat)
      (s.raise .portFlushed [p, s.framesFlushed p - r.frames, s.o 0x2104 p 0xA - r.bytes]).nextFrame p
    else s

def execPortFlushComplete (t port : Nat) (s : State) : Res := act t (isPort port) s (portFlushComplete port)

/-! ### Mirroring (03 R101 to R106) -/

/-- 03 R101: the designation of a logical port that holds a service address is refused. -/
def analysisPortCode (v : Nat) (s : State) : Abort :=
  need (decide (v = 255) || (s.rowsWith 0x3040 2 1).all fun r => decide (s.o 0x3040 r 3 ≠ v)) abJoin

/-- ANALYSIS_PORT_WRITE. -/
def analysisPortWrite (sess v : Nat) (s : State) : State :=
  s.writeAs sess 0x2108 0 (.nat v) (analysisPortCode v) (State.setObj 0x2108 0 (.nat v))

def execAnalysisPortWrite (t sess v : Nat) (s : State) : Res := act t true s (analysisPortWrite sess v)

/-- 03 R106: tenant and class match only egress frames. -/
def mirrorRuleCode (_ : Session) (st : Stage) (_ : State) : Abort :=
  need (decide (st.n 3 = 2 ∨ (st.n 0xD = 0xFFFF ∧ st.n 0xE = 0xFF))) abJoin

/-- FLOW_MIRROR_RULE_COMMIT. -/
def flowMirrorRuleCommit (sess : Nat) (s : State) : State :=
  s.commitAs sess 0x2110 1 mirrorRuleCode fun _ _ u => u

def execFlowMirrorRuleCommit (t sess : Nat) (s : State) : Res := act t true s (flowMirrorRuleCommit sess)

/-! ### The sampler (03 R109) -/

/-- SAMPLER_RING_READ: up to 64 unread records, oldest first, and only records returned are marked read (03 R109,
16 R572). -/
def samplerRingRead (sess max : Nat) (s : State) : State :=
  s.withSession sess fun _ =>
    let n := min 64 max
    ({ s with fab := { s.fab with samples := s.fab.samples.drop n } }).emit (.samples sess (s.fab.samples.take n))

def execSamplerRingRead (t sess max : Nat) (s : State) : Res := act t true s (samplerRingRead sess max)

end Sys2Proof.Machine
end

