-- ==== Sys2Proof/Machine/Inputs.lean ====
section
/-! DEFINITION. Filtered sideband inputs that may be declared faulty (18 R623, Table 5). -/

namespace Sys2Proof.Machine

/-- Keys of the inputs whose changes are counted: cage presence, near-port reset, management sideband, buttons. -/
def cageLine (n : Nat) : Nat := n
def perstLine (n : Nat) : Nat := 16 + n
def mgmtLine (k : Nat) : Nat := 32 + k
def buttonLine (n : Nat) : Nat := 64 + n

/-- Input `k` of the group with bitmap 5223h:`sub` is declared faulty. -/
def State.inputFaulty (s : State) (sub k : Nat) : Bool := bit (s.ob 0x5223 sub) k

/-- Declare an input faulty (18 R623). -/
def State.declareFaulty (s : State) (sub k : Nat) : State :=
  if s.inputFaulty sub k then s
  else (s.put 0x5223 0 sub (setBit (s.ob 0x5223 sub) k)).raise .inputFaulty [sub, k]

/-- Record an accepted change of an input; more than `limit` changes within `window` ns declare it faulty. -/
def State.inputChange (s : State) (line sub k limit window : Nat) : State :=
  let ts := within s.now window (s.now :: Tbl.get [] s.land.changes line)
  let s := { s with land := { s.land with changes := Tbl.set s.land.changes line ts } }
  if limit < ts.length then s.declareFaulty sub k else s

end Sys2Proof.Machine
end

