-- ==== Sys2Proof/Machine/Gates.lean ====
section
/-! DEFINITION. Time gates (07 R256 to R261): the administrative and the operational list of each logical port, their
checks, and where in its cycle a port stands. -/

namespace Sys2Proof.Machine

/-- The administrative list: entries of 4021h, in use by the number given (07 R256, R261). -/
def State.adminList (s : State) (p n : Nat) : List (Nat × Nat) :=
  (List.range n).map fun i => (s.o 0x4021 (p * 64 + i) 2, s.o 0x4021 (p * 64 + i) 3)

/-- Sum of the durations of a list (07 R257). -/
def cycleTime (l : List (Nat × Nat)) : Nat := sumNat (l.map Prod.fst)

/-- The longest unbroken open time of class `c` in a list laid out in time. -/
def longestOpen (c : Nat) : List (Nat × Nat) → Nat → Nat → Nat
  | [], run, best => max run best
  | (d, g) :: r, run, best => if bit g c then longestOpen c r (run + d) best else longestOpen c r 0 (max run best)

/-- 07 R259: every class open somewhere in the cycle is open unbroken for at least `need` ns somewhere. -/
def gateListOk (l : List (Nat × Nat)) (need : Nat) : Bool :=
  (List.range 8).all fun c =>
    !(l.any fun e => bit e.2 c) || alwaysOpen c l || decide (need ≤ longestOpen c (l ++ l) 0 0)

/-- Time of a largest frame with 20 bytes of overhead at a port (07 R259). -/
def State.largestFrameTime (s : State) (p : Nat) : Nat := s.lineTime p (s.fMax p + 20)

/-- The entry of a list that holds `off` ns after the start of a cycle, and what is left of it. -/
def entryAt (off : Nat) : List (Nat × Nat) → Nat → Nat × Nat
  | [], i => (i, 0)
  | (d, _) :: r, i => if off < d then (i, d - off) else entryAt (off - d) r (i + 1)

/-- Put a port where its list stands at the present PTP time (07 R257, R260). -/
def State.syncGate (s : State) (p : Nat) : State :=
  let g := s.gate p
  if g.oper.isEmpty then s
  else
    let off := ((s.ptpNow - g.base) % (max 1 (cycleTime g.oper) : Nat)).toNat
    let e := entryAt off g.oper 0
    s.setGate p { g with entry := e.1, entryEnd := s.ptpNow + e.2 }

/-- Every port with a list, after a step of PTP time or a change of its status. -/
def State.syncGates (s : State) : State :=
  s.each (List.range 32) fun s p => if (s.gate p).oper.isEmpty then s else (s.syncGate p).nextFrame p

/-- The first start of a cycle at or after the change time and after now (07 R257, R261). -/
def firstCycle (now change base cycle : Nat) : Nat :=
  let from_ := max (now + 1) change
  if from_ ≤ base then base else base + (from_ - base + cycle - 1) / cycle * cycle

/-- After a change of port mode or F_max an applied list may fail R259: the gates open and the event is raised
(07 R259). -/
def State.recheckGate (s : State) (p : Nat) : State :=
  let g := s.gate p
  if g.oper.isEmpty || g.invalid || gateListOk g.oper (s.largestFrameTime p) then s
  else (s.setGate p { g with invalid := true }).raise .gateListInvalid [p]

/-- GATE_LIST_CHANGE: the pending list becomes operational at its start (07 R261). -/
def gateListChange (p : Nat) (s : State) : State :=
  let g := s.gate p
  match g.pending with
  | some (start, l) =>
    if s.ptpNow < start then s
    else
      (((s.setGate p { g with oper := l, base := start, invalid := false, pending := none }).syncGate p).recheckGate p).nextFrame p
  | none => s

def execGateListChange (t port : Nat) (s : State) : Res := act t (isPort port) s (gateListChange port)

/-- GATE_ENTRY_END: the current entry ends and the next one holds (07 R256, R257). -/
def gateEntryEnd (p : Nat) (s : State) : State :=
  let g := s.gate p
  if g.oper.isEmpty ∨ s.ptpNow < g.entryEnd then s else (s.syncGate p).nextFrame p

def execGateEntryEnd (t port : Nat) (s : State) : Res := act t (isPort port) s (gateEntryEnd port)

/-- A commit that makes a list apply is refused when its cycle is longer than 1 s or R259 fails (log entry 19). -/
def gateSettingsCode (_ : Session) (st : Stage) (s : State) : Abort :=
  let l := s.adminList st.row (st.n 4)
  need (decide (st.n 2 = 0) || (decide (cycleTime l ≤ 1000000000) && gateListOk l (s.largestFrameTime st.row))) abJoin

/-- The effect of an accepted commit of 4020h. -/
def applyGateSettings (st : Stage) (_ : State) (u : State) : State :=
  let p := st.row
  let g := u.gate p
  if st.n 2 = 0 then (u.setGate p { g with oper := [], invalid := false, pending := none }).nextFrame p
  else
    let l := u.adminList p (st.n 4)
    let start := firstCycle u.ptpNow.toNat (st.n 5) (st.n 3) (max 1 (cycleTime l))
    u.setGate p { g with pending := some ((start : Int), l) }

/-- GATE_SETTINGS_COMMIT. -/
def gateSettingsCommit (sess : Nat) (s : State) : State := s.commitAs sess 0x4020 1 gateSettingsCode applyGateSettings

def execGateSettingsCommit (t sess : Nat) (s : State) : Res := act t true s (gateSettingsCommit sess)

/-- 07 R256: an entry whose bit 0 is 0 is refused, under the code R643 names for R256. -/
def gateEntryCode (_ : Session) (st : Stage) (_ : State) : Abort := need (bit (st.n 3) 0) abJoin

/-- GATE_LIST_ENTRY_COMMIT: the entry enters the administrative list (07 R256, R261). -/
def gateListEntryCommit (sess : Nat) (s : State) : State :=
  s.commitAs sess 0x4021 1 gateEntryCode fun _ _ u => u

def execGateListEntryCommit (t sess : Nat) (s : State) : Res := act t true s (gateListEntryCommit sess)

/-- Gates of a port now (4020h:07). -/
def State.gatesNow (s : State) (p : Nat) : Nat :=
  if s.gatesRun p then ((s.gate p).oper.getD (s.gate p).entry (0, 255)).2 else 255

/-- 4020h:08. -/
def State.gatesRunning (s : State) (p : Nat) : Nat :=
  if (s.gate p).invalid then 2 else if s.gatesRun p then 1 else 0

/-! ### Class marking (07 R236 to R238) -/

/-- 07 R238: Class 0 takes no priority that is lossless on a logical port. -/
def classPriorityCode (cls v : Nat) (s : State) : Abort :=
  need (decide (cls ≠ 0) || (List.range 32).all fun p => !s.lossless p v) abJoin

/-- CLASS_PRIORITY_WRITE. -/
def classPriorityWrite (sess cls v : Nat) (s : State) : State :=
  s.writeAs sess 0x4000 (cls + 1) (.nat v) (classPriorityCode cls v) (State.setObj 0x4000 (cls + 1) (.nat v))

def execClassPriorityWrite (t sess cls v : Nat) (s : State) : Res :=
  act t (isOctal cls) s (classPriorityWrite sess cls v)

end Sys2Proof.Machine
end

