-- ==== Sys2Proof/Machine/Ptp.lean ====
section
/-! DEFINITION. The PTP clock (04 R140 to R144): the active port, the offset from the master, and the time status. -/

namespace Sys2Proof.Machine

/-- The active PTP port (04 R141). -/
def State.ptpPort (s : State) : Nat := if s.ptp.standby then s.ob 0x3020 3 else s.ob 0x3020 2

/-- PTP is enabled and `p` is its active port with its link up. -/
def State.ptpOn (s : State) (p : Nat) : Bool :=
  decide (s.ob 0x3020 1 = 1 ∧ s.ptpPort = p) && s.portExists p && (s.port p).linkUp

/-- The persistent gate list of a port that has had none since boot is applied with its stored base time (07 R276). -/
def State.startGates (s : State) : State :=
  s.each ((List.range 32).filter fun p => decide (s.o 0x4020 p 2 = 1 ∧ (s.gate p).oper = [] ∧ (s.gate p).pending = none)) fun s p =>
    let l := s.adminList p (s.o 0x4020 p 4)
    let start := firstCycle s.ptpNow.toNat (s.o 0x4020 p 5) (s.o 0x4020 p 3) (max 1 (cycleTime l))
    s.setGate p { s.gate p with pending := some ((start : Int), l) }

/-- Time status (04 R143). A change of status opens or closes time gates (07 R260). -/
def State.setTimeStatus (s : State) (v : Nat) : State :=
  if s.ob 0x3020 7 = v then s
  else
    let s := ((s.put 0x3020 0 7 v).ledgerStatus v).syncGates
    if v = 2 then s.startGates else s

/-- The active port listens afresh: nothing heard before counts (04 R140, R141). -/
def PtpState.listen (p : PtpState) (now : Nat) : PtpState :=
  { p with best := none, foreign := [], lastAnnounce := none, listenFrom := now, good := 0, pendingSync := false, delayReqOut := false }

/-- Enter holdover; a clock never synchronised since reset stays so (04 R141, R143). -/
def State.holdover (s : State) : State :=
  let v := s.ob 0x3020 7
  let s := { s with ptp := s.ptp.listen s.now }
  if v = 1 ∨ v = 2 then { s with ptp := { s.ptp with holdoverSince := some s.now } }.setTimeStatus 3 else s

/-- A port that PTP could use: it exists and its link is up. -/
def State.ptpUsable (s : State) (p : Nat) : Bool := s.portExists p && (s.port p).linkUp

/-- The active port no longer serves: the standby port takes over from the primary, else holdover (04 R141). -/
def State.ptpFail (s : State) : State :=
  if !s.ptp.standby && decide (s.ob 0x3020 3 ≠ 0xFF) && s.ptpUsable (s.ob 0x3020 3) then
    { s with ptp := { s.ptp.listen s.now with standby := true, primaryGoodSince := none, primaryLast := none } }
  else s.holdover

/-- The active port declares link down (04 R141). -/
def State.ptpLinkDown (s : State) (p : Nat) : State :=
  if s.ob 0x3020 1 = 1 ∧ s.ptpPort = p then s.ptpFail
  else if s.ob 0x3020 2 = p then
    { s with ptp := { s.ptp with primaryGoodSince := none, primaryLast := none } }
  else s

/-- The primary port's announcements while the standby is active: since when they have come without a gap of three
intervals (04 R141). -/
def State.primaryAnnounce (s : State) (a : Announce) : State :=
  let unbroken := match s.ptp.primaryLast with
    | some l => decide (s.now < l.1 + 3 * l.2)
    | none => false
  let since := if unbroken then s.ptp.primaryGoodSince else some s.now
  { s with ptp := { s.ptp with primaryGoodSince := since, primaryLast := some (s.now, a.intervalNs) } }

/-! ### Best master clock (04 R140) -/

/-- Announce `a` names a better master than `b`, by the data set comparison of the default best master clock algorithm (IEEE 1588-2019;
log entry 21): of two grandmasters the one with the lower comparison vector and then the lower identity, of two paths to one grandmaster
the one with fewer steps and then the lower sender. -/
def announceBetter (a b : Announce) : Bool :=
  if a.grandmaster = b.grandmaster then decide (a.steps < b.steps ∨ (a.steps = b.steps ∧ a.sender < b.sender))
  else decide (a.vector < b.vector ∨ (a.vector = b.vector ∧ a.grandmaster < b.grandmaster))

/-- A master is qualified when two of its Announce messages lie within the last four announce intervals, and its steps are fewer than
255 (IEEE 1588-2019; log entry 21). -/
def Foreign.qualified (f : Foreign) (now : Nat) : Bool :=
  decide (2 ≤ (within now (4 * f.ann.intervalNs) f.times).length ∧ f.ann.steps < 255)

/-- Keep an Announce in the record of its sender. -/
def PtpState.hear (p : PtpState) (now : Nat) (a : Announce) : PtpState :=
  let old := match Tbl.find? p.foreign a.sender with
    | some f => within now (4 * a.intervalNs) f.times
    | none => []
  { p with foreign := Tbl.set p.foreign a.sender { ann := a, times := now :: old }, lastAnnounce := some now, announceNs := a.intervalNs }

/-- The best of the qualified masters. -/
def PtpState.chosen (p : PtpState) (now : Nat) : Option Announce :=
  p.foreign.foldl (init := none) fun best e =>
    if e.2.qualified now then
      match best with
      | none => some e.2.ann
      | some b => if announceBetter e.2.ann b then some e.2.ann else some b
    else best

/-- Follow the best master: its identity and UTC offset are taken over. -/
def State.followBest (s : State) : State :=
  match s.ptp.chosen s.now with
  | none => s
  | some a => { s with ptp := { s.ptp with best := some a, utc := a.utcOffset } }.setVal 0x3020 0 0xA (.oct 8 (a.grandmaster % 2 ^ 64))

/-- The port takes PTP messages in the domain: it is not the analysis port, which discards them (03 R101). -/
def State.ptpHears (s : State) (p domain : Nat) : Bool := decide (domain = s.ob 0x3020 6) && decide (s.ob 0x2108 0 ≠ p)

/-- PTP_ANNOUNCE_RECEIVED (04 R140, R141). -/
def ptpAnnounceReceived (p : Nat) (a : Announce) (s : State) : State :=
  if s.ptpHears p a.domain = false then s
  else if s.ptpOn p then { s with ptp := s.ptp.hear s.now a }.followBest
  else if s.ptp.standby && decide (s.ob 0x3020 1 = 1 ∧ s.ob 0x3020 2 = p) && s.ptpUsable p then s.primaryAnnounce a
  else s

def execPtpAnnounceReceived (t port : Nat) (a : Announce) (s : State) : Res :=
  act t (isPort port) s (ptpAnnounceReceived port a)

/-- A message of the master that the clock follows, on the active port and in its domain (04 R140). -/
def State.fromMaster (s : State) (p domain sender : Nat) : Bool :=
  s.ptpOn p && s.ptpHears p domain && (match s.ptp.best with
    | some b => decide (b.sender = sender)
    | none => false)

/-- Length of a Delay_Req frame in the transport chosen (log entry 20). -/
def delayReqLen (transport : Nat) : Nat := if transport = 0 then 64 else if transport = 1 then 90 else 110

/-- PTP_DELAY_REQ_SEND, under the delay request-response mechanism (04 R140). -/
def ptpDelayReqSend (s : State) : State :=
  if s.ob 0x3020 4 = 1 ∧ s.ptpOn s.ptpPort = true ∧ s.ptp.best.isSome = true then
    { s with ptp := { s.ptp with delayReqOut := true } }.enqueueCtl s.ptpPort (delayReqLen (s.ob 0x3020 5)) .delayReq
  else s

def execPtpDelayReqSend (t : Nat) (s : State) : Res := act t true s ptpDelayReqSend

/-- PTP_DELAY_RESP_RECEIVED: the mean path delay in ns (04 R140). -/
def ptpDelayRespReceived (p domain sender : Nat) (delay : Int) (s : State) : State :=
  if s.fromMaster p domain sender && s.ptp.delayReqOut then
    { s with ptp := { s.ptp with delayReqOut := false } }.setVal 0x3020 0 9 (.real (delay : Rat))
  else s

def execPtpDelayRespReceived (t port : Nat) (m : PtpMsg) (s : State) : Res :=
  act t (isPort port) s (ptpDelayRespReceived port m.domain m.sender m.value)

/-- PTP_ANNOUNCE_TIMEOUT: three announce intervals without an Announce, counted from the last one or from when the active port began to
listen (04 R141). In holdover with neither port usable the active port stays; a standby that has become usable is taken. -/
def ptpAnnounceTimeout (s : State) : State :=
  let since := s.ptp.lastAnnounce.getD s.ptp.listenFrom
  if dueAt s.now since (3 * s.ptp.announceNs) && decide (s.ob 0x3020 1 = 1) then s.ptpFail else s

def execPtpAnnounceTimeout (t : Nat) (s : State) : Res := act t true s ptpAnnounceTimeout

/-- PTP_PORT_RETURN: the primary has been up with Announce present for 10 s (04 R141). -/
def ptpPortReturn (s : State) : State :=
  match s.ptp.primaryGoodSince, s.ptp.primaryLast with
  | some g, some l =>
    if s.ptp.standby && s.ptpUsable (s.ob 0x3020 2) && dueAt s.now g (10 * sNs) && decide (s.now < l.1 + 3 * l.2) then
      { s with ptp := { s.ptp.listen s.now with standby := false, primaryGoodSince := none, primaryLast := none } }
    else s
  | _, _ => s

def execPtpPortReturn (t : Nat) (s : State) : Res := act t true s ptpPortReturn

/-- HOLDOVER_LIMIT_EXPIRY: the clock runs free (04 R143). -/
def holdoverLimitExpiry (s : State) : State :=
  match s.ptp.holdoverSince with
  | some h => if decide (s.ob 0x3020 7 = 3) && dueAt s.now h (s.ob 0x3020 0xC * sNs) then s.setTimeStatus 4 else s
  | none => s

def execHoldoverLimitExpiry (t : Nat) (s : State) : Res := act t true s holdoverLimitExpiry

end Sys2Proof.Machine
end

