-- ==== Sys2Proof/Machine/Ethernet.lean ====
section
/-! DEFINITION. The Ethernet ports (04): modes, cages, link up and down, reception, priority flow control, peer delay,
pause storms, settings and interfaces, ARP, neighbour discovery, echo and LLDP. -/

namespace Sys2Proof.Machine

/-! ### Class 0 oversubscription (07 R273) -/

/-- Tenants that hold Class 0 queue pairs on a port. -/
def State.class0Tenants (s : State) (p : Nat) : List Nat :=
  ((s.rdma.qps.filter fun e => decide (e.2.state ≠ 0 ∧ e.2.cls = 0 ∧ e.2.port = p)).map fun e => e.2.tenant).eraseDups

/-- Sum the Class 0 rates and bursts of a port; exceeding a quarter of the rate, or A_p, raises the event. -/
def State.checkOversubscribed (s : State) (p : Nat) : State :=
  let ts := s.class0Tenants p
  let rates := sumNat (ts.map fun k => s.o 0x4010 k 0xB)
  let bursts := sumNat (ts.map fun k => s.o 0x4010 k 0xC)
  if 250 * s.rate p < rates ∨ s.class0Allowance p < bursts then
    (s.put 0x4051 p 3 1).raise .class0Oversubscribed [p]
  else if s.o 0x4051 p 3 = 1 then s.put 0x4051 p 3 0 else s

/-! ### Link state (04 R119 to R122) -/

/-- Bytes of a MAC address from byte 2 of a violation's detail on (04 R122). -/
def macDetail (m : Mac) : Nat :=
  sumNat ((List.range 6).map fun i => (m / 256 ^ (5 - i) % 256) * 256 ^ (2 + i))

/-- A violation by a link partner (04 R122, R137). -/
def State.partnerViolation (s : State) (p condition : Nat) (mac : Mac) : State :=
  s.violation false 8 (s.port p).chassis condition (p + macDetail mac)

/-- Interface type of a logical port: set, or from the plug: 1 KR, 2 CR, 3 C2M, 0 not known (04 R118, 3001h:03). -/
def State.phyType (s : State) (p : Nat) : Nat :=
  let set := s.o 0x3001 p 3
  if set ≠ 0 then set
  else
    match s.ob 0x3006 (p / 4 + 1) with
    | 1 => 2
    | 2 => 3
    | _ => 0

/-- Every existing logical port of a cage has an interface type set (04 R118). -/
def State.typesSet (s : State) (n : Nat) : Bool :=
  (List.range 4).all fun k => !s.portExists (4 * n + k) || decide (s.o 0x3001 (4 * n + k) 3 ≠ 0)

/-- The plug lets the logical port come up (04 R118). -/
def State.cageAllows (s : State) (p : Nat) : Bool :=
  match s.ob 0x3006 (p / 4 + 1) with
  | 3 => false
  | 4 => s.typesSet (p / 4)
  | _ => true

/-- Hold the port down when its declarations within 60 s exceed the flap limit (04 R122). -/
def State.checkFlap (s : State) (p : Nat) : State :=
  let x := s.port p
  let limit := s.o 0x3001 p 7
  if limit ≠ 0 ∧ limit < x.downTimes.length then
    let s := s.setPort p { x with flapUntil := some (s.now + s.o 0x3001 p 8 * sNs) }
    (s.raise .linkFlapping [p]).partnerViolation p 0x30020A x.partnerMac
  else s

/-- A received pause ends, now or when it ran out: its time is counted (08 Table 6). -/
def State.pauseEnds (s : State) (p prio : Nat) : State :=
  let x := s.port p
  match Tbl.find? x.pausedSince prio, Tbl.find? x.pausedUntil prio with
  | some a, some b => s.perf (360 + p) (min s.now b - a)
  | _, _ => s

/-- Declare link down: the flush starts, pause state is cleared, a frame whose head is in the fabric is stomped, and the declaration
counts toward the flap limit where `flap` is set (04 R121, R122, R148; 03 R98). -/
def State.declareDown (s : State) (p : Nat) (flap : Bool) : State :=
  let x := s.port p
  let s := (s.each (x.pausedSince.map (·.1)) fun s prio => s.pauseEnds p prio).setPort p { x with
    linkUp := false, pausedUntil := [], pausedSince := [], xoffSent := [], delayOutstanding := false
    downTimes := within s.now (60 * sNs) (s.now :: x.downTimes) }
  let s := (((s.bump 0x3002 p 0xA).stompOpen p).startFlush p).syncLpi p
  let s := s.ptpLinkDown p
  if flap then s.checkFlap p else s

/-- LINK_UP: the PCS has held alignment for the dwell (04 R120); a port that is down by an operator, a hold, storms, its
plug or a partner without a common ability stays down. -/
def linkUp (p : Nat) (s : State) : State :=
  let x := s.port p
  if s.portExists p && !s.silent && !x.linkUp && !x.stormsOff && x.flapUntil.isNone && !x.noCommon &&
      decide (s.o 0x3001 p 2 = 1) && s.cageAllows p then
    let s := s.setPort p { x with linkUp := true }
    let s := if x.headroom.isEmpty then s.forceHeadroom p else s
    s.nextFrame p
  else s

def execLinkUp (t port : Nat) (s : State) : Res := act t (isPort port) s (linkUp port)

/-- LINK_DOWN (04 R121). -/
def linkDown (p : Nat) (_ : LinkDownCause) (s : State) : State :=
  if s.portExists p && (s.port p).linkUp then s.declareDown p true else s

def execLinkDown (t port : Nat) (cause : LinkDownCause) (s : State) : Res :=
  act t (isPort port) s (linkDown port cause)

/-- FLAP_HOLD_EXPIRY (04 R122). -/
def flapHoldExpiry (p : Nat) (s : State) : State :=
  match (s.port p).flapUntil with
  | some u => if u ≤ s.now then s.setPort p { s.port p with flapUntil := none } else s
  | none => s

def execFlapHoldExpiry (t port : Nat) (s : State) : Res := act t (isPort port) s (flapHoldExpiry port)

/-- AUTO_NEGOTIATION_COMPLETE, on the KR and CR types only (04 R119): whether the partner shares the port's ability, and whether
it supports low-power idle. The module supports it where 3001h:0B is not 0 (04 R146). -/
def autoNegotiationComplete (p : Nat) (common lpi : Bool) (s : State) : State :=
  let x := s.port p
  if s.portExists p && !x.linkUp && decide (s.phyType p ≠ 3) then
    (s.setPort p { x with noCommon := !common }).put 0x3002 p 0xC (if common && lpi && decide (s.o 0x3001 p 0xB ≠ 0) then 1 else 0)
  else s

def execAutoNegotiationComplete (t port : Nat) (partner : Negotiated) (s : State) : Res :=
  act t (isPort port) s (autoNegotiationComplete port partner.common partner.lpi)

/-- The outcome of a negotiation is void once the plug or the interface type changes (04 R119). -/
def State.forgetNegotiation (s : State) (p : Nat) : State :=
  (s.setPort p { s.port p with noCommon := false }).put 0x3002 p 0xC 0

/-! ### Port mode (04 R113, R115) -/

/-- A new rate or F_max reconfigures the port control shaper and the Class 0 meter (07 R245). -/
def State.rerate (s : State) (p : Nat) : State :=
  let e := s.eg p
  s.setEg p { e with
    control := e.control.map fun b => b.reconfigure s.now ((s.rate p : Rat) / 800) ((2 * s.fMax p : Nat) : Rat)
    meter := e.meter.map fun b => b.reconfigure s.now ((s.rate p : Rat) / 32) (s.class0Allowance p : Nat) }

/-- Take a logical port down for a mode change: down if it was up, which is a declaration like any other (04 R121), and flushed in
any case (04 R115). A flap hold that was running ends, and the flap count restarts (04 R148). -/
def State.modeDown (s : State) (p : Nat) : State :=
  if s.portExists p = false then s
  else
    let x := s.port p
    let s := if x.flapUntil.isSome then s.setPort p { x with flapUntil := none, downTimes := [] } else s
    if x.linkUp then s.declareDown p true else if s.flushing p then s else s.startFlush p

/-- Bring a logical port to the new mode's figures. -/
def State.modeFigures (s : State) (p : Nat) : State :=
  if s.portExists p then (((s.rerate p).forceHeadroom p).recheckGate p).checkOversubscribed p else s

/-- A mode that removes the analysis port ends its designation (04 R115). -/
def State.dropAnalysisPort (s : State) (n : Nat) : State :=
  let a := s.ob 0x2108 0
  if a / 4 = n ∧ a ≠ 0xFF ∧ s.portExists a = false then
    (s.keepVal 0x2108 0 0 (.nat 0xFF)).raise .analysisPortRemoved [a]
  else s

/-! ### Cages (04 R117, R118) -/

def State.cage (s : State) (n : Nat) : Cage := Tbl.get {} s.eth.cages n

def State.setCage (s : State) (n : Nat) (c : Cage) : State :=
  { s with eth := { s.eth with cages := Tbl.set s.eth.cages n c } }

/-- The logical ports of a cage (04 R113, R117). -/
def cagePorts (n : Nat) : List Nat := (List.range 4).map fun k => 4 * n + k

/-- Hold a plug in low power or release it. -/
def State.setLowPower (s : State) (n : Nat) (low : Bool) : State :=
  let c := s.cage n
  if c.lowPower = low then s else (s.setCage n { c with lowPower := low }).emit (.cagePower n low)

/-- Ports of a cage that may not run with its plug go down. -/
def State.enforceCage (s : State) (n : Nat) : State :=
  s.each (cagePorts n) fun s p =>
    if (s.port p).linkUp && !s.cageAllows p then s.declareDown p true else s

/-- An unreadable plug is released when the set types let its ports run and any of them is C2M (04 R118). -/
def State.unreadablePower (s : State) (n : Nat) : State :=
  let c2m := (List.range 4).any fun k => s.portExists (4 * n + k) && decide (s.o 0x3001 (4 * n + k) 3 = 3)
  (s.setLowPower n (!(s.typesSet n && c2m))).enforceCage n

/-- The effect of a mode write; a cage whose plug cannot be read is judged by the ports that now exist (04 R118). -/
def applyPortMode (n v : Nat) (s : State) : State :=
  let ps := cagePorts n
  let s := s.each ps State.modeDown
  let s := s.keepVal 0x3000 0 (n + 1) (.nat v)
  let s := s.each ps State.forgetNegotiation
  let s := (s.dropAnalysisPort n).each ps State.modeFigures
  s.when (decide (s.ob 0x3006 (n + 1) = 4)) fun s => s.unreadablePower n

/-- PORT_MODE_WRITE. -/
def portModeWrite (sess n v : Nat) (s : State) : State :=
  s.writeAs sess 0x3000 (n + 1) (.nat v) (fun _ => 0) (applyPortMode n v)

def execPortModeWrite (t sess port v : Nat) (s : State) : Res :=
  act t (isOctal port) s (portModeWrite sess port v)

/-- Classify a plug that has been read, or not (04 R118). -/
def State.classify (s : State) (n : Nat) (plug : Plug) : State :=
  let s := s.setCage n { s.cage n with present := true, plug := plug, retryAt := none }
  let s := s.each (cagePorts n) State.forgetNegotiation
  match plug with
  | .copper => s.put 0x3006 0 (n + 1) 1
  | .active mw =>
    if mw ≤ 3500 then (s.put 0x3006 0 (n + 1) 2).setLowPower n false
    else (((s.put 0x3006 0 (n + 1) 3).setLowPower n true).enforceCage n).raise .cagePower [n, mw]
  | .unreadable =>
    let s := s.setCage n { s.cage n with retryAt := some (s.now + 10 * sNs) }
    ((s.put 0x3006 0 (n + 1) 4).unreadablePower n).raise .cageUnreadable [n]

/-- An empty cage: its ports go down (04 R121). -/
def State.emptyCage (s : State) (n : Nat) : State :=
  let s := s.setCage n { s.cage n with present := false, plug := .unreadable, retryAt := none, lowPower := true }
  let s := s.put 0x3006 0 (n + 1) 0
  (s.each (cagePorts n) State.forgetNegotiation).each (cagePorts n) fun s p =>
    if (s.port p).linkUp then s.declareDown p true else s

/-- CAGE_PRESENCE_CHANGE: a filtered change of the presence line; a faulty line reads as an empty cage (04 R118,
18 R623). -/
def cagePresenceChange (n : Nat) (present : Bool) (plug : Plug) (s : State) : State :=
  let s := s.setCage n { s.cage n with level := present, fitted := plug }
  let s := s.inputChange (cageLine n) 1 n 8 (60 * sNs)
  if s.inputFaulty 1 n then (if (s.cage n).present then s.emptyCage n else s)
  else if present then s.classify n plug
  else s.emptyCage n

def execCagePresenceChange (t cage : Nat) (present : Bool) (plug : Plug) (s : State) : Res :=
  actPin t (isCage cage) s (fun u => u.setCage cage { u.cage cage with level := present, fitted := plug })
    (cagePresenceChange cage present plug)

/-- CAGE_READ_RETRY: every 10 s the read is tried again (04 R118). -/
def cageReadRetry (n : Nat) (plug : Plug) (s : State) : State :=
  let c := s.cage n
  match c.retryAt with
  | some u =>
    if s.now < u ∨ c.present = false then s
    else if plug = .unreadable then s.setCage n { c with retryAt := some (s.now + 10 * sNs) }
    else (s.setCage n { c with fitted := plug }).classify n plug
  | none => s

def execCageReadRetry (t cage : Nat) (plug : Plug) (s : State) : Res :=
  act t (isCage cage) s (cageReadRetry cage plug)

/-! ### Frames received (04 R123 to R126) -/

/-- MAC address of a logical port: the module's base MAC address plus its number (04 R127). -/
def portMac (p : Nat) : Mac := Config.baseMac + p

/-- Multicast addresses. -/
def macControlMac : Mac := 0x0180C2000001
def lldpMac : Mac := 0x0180C200000E

/-- The all-nodes and solicited-node multicasts of an IPv6 interface address (04 R123). -/
def v6Multicast (d : Mac) (a : Ip) : Bool :=
  !isV4 a && decide (d = 0x333300000001 ∨ d = 0x3333FF000000 + a % 2 ^ 24)

/-- PTP multicasts of the transport (04 R123). -/
def ptpMulticast (transport : Nat) (d : Mac) : Bool :=
  match transport with
  | 0 => decide (d = 0x011B19000000 ∨ d = 0x0180C200000E)
  | 1 => decide (d = 0x01005E000181 ∨ d = 0x01005E00006B)
  | _ => decide (d = 0x333300000181 ∨ d = 0x33330000006B)

/-- Frames that R124 does not apply to. -/
def State.vlanFree (s : State) (d : Mac) : Bool :=
  decide (d = macControlMac ∨ d = lldpMac) || (decide (s.ob 0x3020 5 = 0) && ptpMulticast 0 d)

/-- 04 R123. -/
def State.addressed (s : State) (p : Nat) (f : Frame) : Bool :=
  let arp := match f.l3 with
    | .arp _ => true
    | _ => false
  decide (f.dmac = portMac p) || (decide (f.dmac = 0xFFFFFFFFFFFF) && arp) ||
    decide (f.dmac = macControlMac ∨ f.dmac = lldpMac) || ptpMulticast (s.ob 0x3020 5) f.dmac ||
    (s.interfaces p).any fun r => v6Multicast f.dmac (s.o 0x3040 r 5)

/-- VLAN ID of a frame of at most one 8100h tag: 0 untagged or priority-tagged (04 R124). -/
def frameVid (f : Frame) : Option Nat :=
  match f.tags with
  | [] => some 0
  | [g] => if g.tpid = 0x8100 then some g.vid else none
  | _ => none

/-- 04 R124. -/
def State.vlanOk (s : State) (p : Nat) (f : Frame) : Bool :=
  match frameVid f with
  | some v => (s.interfaces p).any fun r => decide (s.o 0x3040 r 4 = v)
  | none => false

/-- Priority of a received frame: of its tag, or of 3001h:0A (04 R124). -/
def State.framePrio (s : State) (p : Nat) (f : Frame) : Nat :=
  match f.tags with
  | g :: _ => g.pcp % 8
  | [] => s.o 0x3001 p 0xA

/-- An interface row of the port with the address. -/
def State.interfaceOf (s : State) (p : Nat) (a : Ip) : Option Nat :=
  (s.interfaces p).find? fun r => decide (s.o 0x3040 r 5 = a)

/-- 04 R125: what the module answers on its interface addresses. -/
def State.scopeOk (s : State) (p : Nat) (f : Frame) : Bool :=
  match f.l3 with
  | .ip v6 _ dst fragment options extension proto dport icmp =>
    let multi := ptpMulticast (s.ob 0x3020 5) f.dmac || (s.interfaces p).any fun r => v6Multicast f.dmac (s.o 0x3040 r 5)
    !fragment && !options && !extension && ((s.interfaceOf p dst).isSome || multi) &&
      (decide (proto = 17 ∧ (dport = 319 ∨ dport = 320 ∨ dport = 4791)) ||
       decide (v6 = false ∧ proto = 1 ∧ icmp = 8) || decide (v6 = true ∧ proto = 58 ∧ (icmp = 128 ∨ icmp = 135)))
  | .none => false
  | _ => true

/-- Which stomp reason of 03 Table 5 a bad frame has, with the counter of 3003h for one found bad before its first cell
left (log entry 136). -/
def State.badReason (s : State) (p : Nat) (f : Frame) : Option (Nat × Nat) :=
  if f.lost ∨ f.fecOk = false then some (5, 6)
  else if f.fcsOk = false then some (2, 6)
  else if s.fMax p < f.length then some (3, 8)
  else none

/-- The analysis port takes only LLDP and PFC frames (03 R101). -/
def State.analysisDrops (s : State) (p : Nat) (f : Frame) : Bool :=
  decide (s.ob 0x2108 0 = p) &&
    (match f.l3 with
    | .lldp | .macControl => false
    | _ => true)

/-- Where a received frame goes: a RoCEv2 packet to the transport slice of its queue pair, in the class and for the tenant of the queue
pair that its BTH names where there is one, every other frame to the control complex in Class 1 (04 R125, 05 R155, 07 R237). -/
def State.frameTrain (s : State) (p : Nat) (f : Frame) (bad : Option Nat) : Train :=
  let roce := match f.l3 with
    | .ip _ _ _ _ _ _ proto dport _ => decide (proto = 17 ∧ dport = 4791)
    | _ => false
  let mk (dst cls tenant addr : Nat) : Train :=
    { flow := { src := p / 4, dst := dst, sub := 0, cls := cls }, len := f.length, data := f.content, bad := bad
      tenant := tenant, addr := addr }
  match roce, f.destQp with
  | true, some n =>
    let i := n % 131072
    match Tbl.find? s.rdma.qps i with
    | some q => if q.gen = n / 131072 ∧ q.state ≠ 0 then mk (8 + i % 4) q.cls q.tenant (i * 2 ^ 31)
      else mk (8 + i % 4) 1 0 (i * 2 ^ 31)
    | none => mk (8 + i % 4) 1 0 (i * 2 ^ 31)
  | _, _ => mk 65 1 0 0

/-- Check a frame and let it into the fabric (04 R123 to R126; log entry 23). MAC control frames end at the port. A
frame longer than one cell's 128 bytes is found bad only after its first cell has left, and is stomped and counted as its last cell leaves
(03 R95). -/
def State.filterFrame (s : State) (p : Nat) (f : Frame) : State :=
  if f.length < 64 then s.bump 0x3003 p 7
  else if s.analysisDrops p f then s
  else if s.addressed p f = false then s.bump 0x3003 p 9
  else if s.vlanFree f.dmac = false ∧ s.vlanOk p f = false then s.bump 0x3003 p 0xA
  else if s.vlanFree f.dmac = false ∧ s.scopeOk p f = false then s.bump 0x3003 p 0xB
  else
    match s.badReason p f with
    | some (reason, counter) =>
      if f.length ≤ 128 ∨ f.l3 = .macControl then s.bump 0x3003 p counter
      else s.bufferFrame p (s.framePrio p f) (s.frameTrain p f (some reason))
    | none => if f.l3 = .macControl then s else s.bufferFrame p (s.framePrio p f) (s.frameTrain p f none)

/-- FRAME_RECEIVED: counted, mirrored and sampled as received, then filtered. -/
def frameReceived (p : Nat) (f : Frame) (s : State) : State :=
  if s.portExists p && (s.port p).linkUp then
    let s := (s.bump 0x3003 p 2).add 0x3003 p 3 f.length
    let s := (s.add 0x3003 p 0xC f.fecCorrected).when (!f.fecOk) fun s => s.bump 0x3003 p 0xD
    let s := s.setPort p { s.port p with partnerMac := f.smac }
    let stomped := (s.badReason p f).isSome && decide (128 < f.length)
    let s := (s.mirror false p f 0 0 stomped).sample false p f stomped
    s.filterFrame p f
  else s

def execFrameReceived (t port : Nat) (frame : Frame) (s : State) : Res :=
  act t (isPort port) s (frameReceived port frame)

/-! ### Priority flow control (04 R129, R130, R134, R137) -/

/-- Take one priority of a received PFC frame: pause it or let it go, when it is lossless and not in a storm. -/
def State.takePause (p q : Nat) (s : State) (prio : Nat) : State :=
  if s.lossless p prio && !s.storming p prio then
    let x := s.port p
    if q = 0 then
      (s.pauseEnds p prio).setPort p { x with
        pausedUntil := Tbl.erase x.pausedUntil prio, pausedSince := Tbl.erase x.pausedSince prio }
    else
      let dur := (q * 512 + s.rate p - 1) / max 1 (s.rate p)
      let since := if s.paused p prio then Tbl.get s.now x.pausedSince prio else s.now
      let s := if s.paused p prio then s else s.pauseEnds p prio
      s.setPort p { x with
        pausedUntil := Tbl.set x.pausedUntil prio (s.now + dur), pausedSince := Tbl.set x.pausedSince prio since }
  else s

/-- Count one priority of a received PFC frame; a pause of the Class 0 priority is recorded (07 R270). -/
def State.countPfc (p : Nat) (s : State) (prio : Nat) : State :=
  let s := s.bump 0x3004 p (2 + prio)
  if s.ob 0x4000 1 = prio then
    (s.setVal 0x4051 p 5 (.nat s.ptpNow.toNat)).setPort p { s.port p with class0Pause := some s.now }
  else s

/-- PFC_FRAME_RECEIVED. -/
def pfcFrameReceived (p : Nat) (smac : Mac) (enable : Nat) (quanta : List Nat) (s : State) : State :=
  if s.portExists p && (s.port p).linkUp then
    let s := s.setPort p { s.port p with pfcMac := smac, partnerMac := smac }
    let named := (List.range 8).filter fun k => bit enable k
    let s := s.each named (State.countPfc p)
    let s := if named.any fun k => !s.lossless p k then s.bump 0x3004 p 0xB else s
    let s := s.each named fun s k => s.takePause p (quanta.getD k 0) k
    s.nextFrame p
  else s

def execPfcFrameReceived (t port : Nat) (smac : Mac) (enable : Nat) (quanta : List Nat) (s : State) : Res :=
  act t (isPort port) s (pfcFrameReceived port smac enable quanta)

/-- PAUSE_FRAME_RECEIVED: ignored and counted (04 R130). -/
def pauseFrameReceived (p : Nat) (s : State) : State :=
  if s.portExists p && (s.port p).linkUp then s.bump 0x3004 p 0xC else s

def execPauseFrameReceived (t port : Nat) (s : State) : Res := act t (isPort port) s (pauseFrameReceived port)

/-- PFC_PAUSE_EXPIRY: the pause time has run out (04 R129). -/
def pfcPauseExpiry (p prio : Nat) (s : State) : State :=
  let x := s.port p
  match Tbl.find? x.pausedUntil prio with
  | some u =>
    if u ≤ s.now then
      ((s.pauseEnds p prio).setPort p { x with
        pausedUntil := Tbl.erase x.pausedUntil prio, pausedSince := Tbl.erase x.pausedSince prio }).nextFrame p
    else s
  | none => s

def execPfcPauseExpiry (t port prio : Nat) (s : State) : Res :=
  act t (isPort port && isOctal prio) s (pfcPauseExpiry port prio)

/-- PFC_REFRESH: half the pause time of FFFFh quanta has elapsed above XON (04 R134). -/
def pfcRefresh (p prio : Nat) (s : State) : State :=
  let x := s.port p
  match Tbl.find? x.xoffSent prio with
  | some t0 =>
    if dueAt s.now t0 (65535 * 256 / max 1 (s.rate p)) then
      (s.setPort p { x with xoffSent := Tbl.set x.xoffSent prio s.now }).queuePfc p prio 0xFFFF
    else s
  | none => s

def execPfcRefresh (t port prio : Nat) (s : State) : Res :=
  act t (isPort port && isOctal prio) s (pfcRefresh port prio)

/-- Discard the frames queued for a priority, counting them (04 R137). -/
def State.discardPrio (s : State) (p prio : Nat) : State :=
  let e := s.eg p
  let hit (f : EgFrame) : Bool := decide (f.prio = prio)
  let n := sumNat (e.queues.map fun q => (q.2.filter hit).length)
  let qs := e.queues.map fun q => (q.1, q.2.filter fun f => !hit f)
  let gone := (qs.filter fun q => q.2.isEmpty).map Prod.fst
  let s := s.setEg p { e with queues := qs, sched := e.sched.filter fun q => !gone.contains q.1 }
  s.add 0x3004 p 0xE n

/-- PAUSE_STORM: the pause has not expired at any moment for the watchdog time (04 R137). The storm is declared once the quantum of
that instant has passed, so that a PFC frame with quanta 0 in it wins (04 R148). -/
def pauseStorm (p prio : Nat) (s : State) : State :=
  let x := s.port p
  match Tbl.find? x.pausedSince prio, Tbl.find? x.pausedUntil prio with
  | some t0, some u =>
    let w := s.o 0x3001 p 0xC * msNs
    let quantum := (512 + s.rate p - 1) / max 1 (s.rate p)
    if s.lossless p prio && dueAt s.now t0 (w + quantum) && decide (t0 + w ≤ u) then
      let times := within s.now (3600 * sNs) (s.now :: x.stormTimes)
      let s := (s.pauseEnds p prio).setPort p { x with
        pausedUntil := Tbl.erase x.pausedUntil prio, pausedSince := Tbl.erase x.pausedSince prio
        stormUntil := Tbl.set x.stormUntil prio (s.now + s.o 0x3001 p 0xD * msNs), stormTimes := times }
      let s := (s.discardPrio p prio).bump 0x3004 p 0xD
      let s := (s.partnerViolation p 0x30040D x.pfcMac).raise .pauseStorm [p, prio]
      if s.o 0x3001 p 0xE ≠ 0 ∧ s.o 0x3001 p 0xE < times.length then
        (s.setPort p { s.port p with stormsOff := true }).declareDown p true
      else s.nextFrame p
    else s
  | _, _ => s

def execPauseStorm (t port prio : Nat) (s : State) : Res :=
  act t (isPort port && isOctal prio) s (pauseStorm port prio)

/-- PAUSE_RECOVERY_END (04 R137). -/
def pauseRecoveryEnd (p prio : Nat) (s : State) : State :=
  let x := s.port p
  match Tbl.find? x.stormUntil prio with
  | some u => if u ≤ s.now then s.setPort p { x with stormUntil := Tbl.erase x.stormUntil prio } else s
  | none => s

def execPauseRecoveryEnd (t port prio : Nat) (s : State) : Res :=
  act t (isPort port && isOctal prio) s (pauseRecoveryEnd port prio)

/-! ### Peer delay and headroom (04 R133, R135) -/

/-- Keep the outcome of a request among the last 16, and a kept measurement among the last 16 of those (04 R133). -/
def State.pushDelay (s : State) (p : Nat) (d : Option Int) : State :=
  let x := s.port p
  let kept := match d with
    | some d => (d :: x.kept).take 16
    | none => x.kept
  (s.setPort p { x with delays := (d.isSome :: x.delays).take 16, kept := kept, delayOutstanding := false }).recomputeHeadroom p

/-- PDELAY_REQ_INTERVAL: a request on a port that is up; one left unanswered counts as not kept. -/
def pdelayReqInterval (p : Nat) (s : State) : State :=
  let x := s.port p
  let due := match x.delaySent with
    | some t0 => dueAt s.now t0 (s.ob 0x3021 1 * msNs)
    | none => true
  if s.portUp p && due then
    let s := if x.delayOutstanding then s.pushDelay p none else s
    (s.setPort p { s.port p with delayOutstanding := true, delaySent := some s.now }).enqueueCtl p 72 .pdelayReq
  else s

def execPdelayReqInterval (t port : Nat) (s : State) : Res := act t (isPort port) s (pdelayReqInterval port)

/-- PDELAY_REQ_RECEIVED: answered. -/
def pdelayReqReceived (p : Nat) (s : State) : State :=
  if s.portServes p then s.enqueueCtl p 72 .pdelayResp else s

def execPdelayReqReceived (t port : Nat) (s : State) : Res := act t (isPort port) s (pdelayReqReceived port)

/-- PDELAY_RESP_RECEIVED: a measurement from 0 ns to 10 µs is kept. -/
def pdelayRespReceived (p : Nat) (d : Int) (s : State) : State :=
  if (s.port p).delayOutstanding && decide (s.ob 0x2108 0 ≠ p) then
    let s := s.pushDelay p (if 0 ≤ d ∧ d ≤ 10000000 then some d else none)
    if s.ob 0x3020 4 = 2 ∧ s.ptpOn p = true then s.setVal 0x3020 0 9 (.real (s.linkDelay p)) else s
  else s

def execPdelayRespReceived (t port : Nat) (delayPs : Int) (s : State) : Res :=
  act t (isPort port) s (pdelayRespReceived port delayPs)

/-- HEADROOM_DECREASE (04 R135). -/
def headroomDecrease (p prio : Nat) (s : State) : State :=
  if s.lossless p prio then s.tryDecrease p prio else s

def execHeadroomDecrease (t port prio : Nat) (s : State) : Res :=
  act t (isPort port && isOctal prio) s (headroomDecrease port prio)

/-! ### Settings (04 R127, R128) -/

/-- 04 R128: at most two lossless priorities, a check of the value alone; not the priority of Class 0, a rule that joins
two objects. -/
def portSettingsCode (_ : Session) (st : Stage) (s : State) : Abort :=
  firstCode [need (decide (bitCount (st.n 9) 8 ≤ 2)) abRange, need (!bit (st.n 9) (s.ob 0x4000 1)) abJoin]

/-- The effect of an accepted commit of 3001h. -/
def applyPortSettings (st : Stage) (old u : State) : State :=
  let p := st.row
  let reopened := decide (old.o 0x3001 p 2 = 0 ∧ st.n 2 = 1)
  let u := if reopened then u.setPort p { u.port p with stormsOff := false, stormTimes := [] } else u
  let u := if (u.port p).linkUp && decide (st.n 2 = 0) then u.declareDown p true else u
  let u := if old.o 0x3001 p 3 ≠ st.n 3 then u.forgetNegotiation p else u
  let u := if u.ob 0x3006 (p / 4 + 1) = 4 then u.unreadablePower (p / 4) else u
  let u := u.recomputeHeadroom p
  if old.o 0x3001 p 4 ≠ st.n 4 then (((u.rerate p).recheckGate p).checkOversubscribed p).nextFrame p
  else u.nextFrame p

/-- PORT_SETTINGS_COMMIT. -/
def portSettingsCommit (sess : Nat) (s : State) : State := s.commitAs sess 0x3001 1 portSettingsCode applyPortSettings

def execPortSettingsCommit (t sess : Nat) (s : State) : Res := act t true s (portSettingsCommit sess)

/-- Table 5 of 04: an enabled row needs a prefix length; the analysis port holds no service address (03 R101). -/
def interfaceCode (_ : Session) (st : Stage) (s : State) : Abort :=
  need (decide (st.n 2 = 0) || decide (st.n 6 ≠ 0 ∧ st.n 3 ≠ s.ob 0x2108 0)) abJoin

/-! ### Answers on interface addresses (04 R125) -/

/-- ARP_REQUEST_RECEIVED. -/
def arpRequestReceived (p : Nat) (ip : Ip) (s : State) : State :=
  if s.portServes p && isV4 ip && (s.interfaceOf p ip).isSome then s.enqueueCtl p 64 (.arpReply ip) else s

def execArpRequestReceived (t port : Nat) (ip : Ip) (s : State) : Res :=
  act t (isPort port) s (arpRequestReceived port ip)

/-- NEIGHBOUR_SOLICITATION_RECEIVED. -/
def neighbourSolicitationReceived (p : Nat) (ip : Ip) (s : State) : State :=
  if s.portServes p && !isV4 ip && (s.interfaceOf p ip).isSome then s.enqueueCtl p 90 (.neighbourAdvert ip) else s

def execNeighbourSolicitationReceived (t port : Nat) (ip : Ip) (s : State) : Res :=
  act t (isPort port) s (neighbourSolicitationReceived port ip)

/-- ECHO_REQUEST_RECEIVED: at most 100 replies within any second of each logical port. -/
def echoRequestReceived (p : Nat) (ip : Ip) (len : Nat) (s : State) : State :=
  let x := s.port p
  let times := within s.now sNs x.echoTimes
  if s.portServes p && (s.interfaceOf p ip).isSome && decide (times.length < 100) then
    (s.setPort p { x with echoTimes := s.now :: times }).enqueueCtl p len (.echoReply ip)
  else s

def execEchoRequestReceived (t port : Nat) (ip : Ip) (len : Nat) (s : State) : Res :=
  act t (isPort port) s (echoRequestReceived port ip len)

/-! ### LLDP (04 R145) -/

/-- The LLDPDU of a port (04 R145; log entry 137). -/
def State.lldpdu (s : State) (p : Nat) : Lldp :=
  { chassisId := Config.baseMac, portId := p, ttl := 4 * s.ob 0x3030 2, systemName := (s.val 0x3030 0 3).toStr
    portDescription := Config.portDescription p, pfcBitmap := s.o 0x3001 p 9 }

/-- LLDP_TRANSMIT: at the interval, with a TTL of four intervals; the length is free (log entry 20). -/
def lldpTransmit (p : Nat) (s : State) : State :=
  let x := s.port p
  let iv := s.ob 0x3030 2
  let due := match x.lldpSent with
    | some t0 => dueAt s.now t0 (iv * sNs)
    | none => true
  if s.portUp p && decide (s.ob 0x3030 1 = 1) && due then
    let len := 64 + s.draw % 1455
    (s.drawn.setPort p { x with lldpSent := some s.now }).enqueueCtl p len (.lldp (s.lldpdu p))
  else s

def execLldpTransmit (t port : Nat) (s : State) : Res := act t (isPort port) s (lldpTransmit port)

/-- LLDPDU_RECEIVED: the partner's chassis ID and PFC enable are kept; a mismatch raises its event, and the module's own
settings never change. -/
def lldpduReceived (p : Nat) (pfc : Option Nat) (chassis : Nat) (smac : Mac) (s : State) : State :=
  if s.portExists p && (s.port p).linkUp then
    let s := s.setPort p { s.port p with chassis := chassis % 2 ^ 128, partnerMac := smac }
    match pfc with
    | some v =>
      let s := s.put 0x3002 p 0xB (v % 256)
      if v % 256 ≠ s.o 0x3001 p 9 then s.raise .pfcMismatch [p, v % 256] else s
    | none => s
  else s

def execLldpduReceived (t port : Nat) (pfc : Option Nat) (chassis : Nat) (smac : Mac) (s : State) : Res :=
  act t (isPort port) s (lldpduReceived port pfc chassis smac)

end Sys2Proof.Machine
end

