-- ==== Sys2Proof/Machine/Channels.lean ====
section
/-! DEFINITION. DMA channels and the bits of their descriptors (13 R439, R442, R443), and how a channel halts (R451). -/

namespace Sys2Proof.Machine

/-- A DMA channel. -/
def State.chan (s : State) (c : Nat) : DmaChan := Tbl.get {} s.dma c

def State.setChan (s : State) (c : Nat) (x : DmaChan) : State := { s with dma := Tbl.set s.dma c x }

def State.modChan (s : State) (c : Nat) (f : DmaChan → DmaChan) : State := s.setChan c (f (s.chan c))

def isChan (c : Nat) : Bool := decide (c < 64)

/-- The channel is a copy job's, and which (R439). -/
def jobOf (c : Nat) : Option Nat := if 12 ≤ c % 16 then some (c / 16 * 4 + (c % 16 - 12)) else none

/-- Channel of copy job `j`. -/
def jobChan (j : Nat) : Nat := 16 * (j / 4) + 12 + j % 4

/-! ### Descriptors (R442, R443) -/

/-- Bits of a descriptor. -/
def dField (d : BitVec 256) (lo n : Nat) : Nat := d.toNat / 2 ^ lo % 2 ^ n

def dNext (d : BitVec 256) : Nat := dField d 192 48
def dDst (d : BitVec 256) : Nat := dField d 128 48
def dSrc (d : BitVec 256) : Nat := dField d 64 48
def dLen (d : BitVec 256) : Nat := dField d 32 32
def dWidth (d : BitVec 256) : Nat := [4, 8, 16, 64].getD (dField d 10 2) 4
def dDstFixed (d : BitVec 256) : Bool := decide (dField d 9 1 = 1)
def dSrcFixed (d : BitVec 256) : Bool := decide (dField d 8 1 = 1)
def dToggle (d : BitVec 256) : Bool := decide (dField d 4 1 = 1)
def dInterrupt (d : BitVec 256) : Bool := decide (dField d 2 1 = 1)
def dEnd (d : BitVec 256) : Bool := decide (dField d 1 1 = 1)
def dGen (d : BitVec 256) : Bool := decide (dField d 0 1 = 1)

/-- A descriptor is invalid (R443). -/
def dInvalid (d : BitVec 256) : Bool :=
  decide (dField d 240 16 ≠ 0 ∨ dField d 176 16 ≠ 0 ∨ dField d 112 16 ≠ 0 ∨ dField d 12 20 ≠ 0 ∨ dField d 5 3 ≠ 0 ∨
    268435456 < dLen d) || (dDstFixed d && dSrcFixed d) ||
  (dSrcFixed d && decide (dSrc d % dWidth d ≠ 0 ∨ dLen d % dWidth d ≠ 0)) ||
  (dDstFixed d && decide (dDst d % dWidth d ≠ 0 ∨ dLen d % dWidth d ≠ 0)) ||
  (!dEnd d && decide (dNext d % 32 ≠ 0))

/-! ### Registers (R440, Table 1) -/

/-- What a dword of a channel's registers reads as; reserved bits and offsets read 0. -/
def DmaChan.read (x : DmaChan) (offset : Nat) : Nat :=
  let cur := match x.work with
    | (a, _) :: _ => a
    | [] => x.cur
  match offset with
  | 0x04 => (if x.state = 4 ∨ x.state = 5 then 65536 else 0) + x.code * 256 + (if x.pending then 128 else 0) +
      (if x.e then 64 else 0) + x.state
  | 0x08 => x.head % 2 ^ 32 / 32 * 32 + (if x.gen then 1 else 0)
  | 0x0C => x.head / 2 ^ 32
  | 0x10 => cur % 2 ^ 32
  | 0x14 => cur / 2 ^ 32
  | 0x18 => x.hopLimit
  | 0x1C => x.fetchTimeout
  | 0x20 => x.bytes % 2 ^ 32
  | 0x24 => x.bytes / 2 ^ 32
  | 0x28 => x.descs
  | 0x2C => x.hops
  | 0x30 => x.errAddr % 2 ^ 32
  | 0x34 => x.errAddr / 2 ^ 32
  | _ => 0

/-! ### Halts -/

/-- Halt the channel; Current descriptor holds the failing one (R454). -/
def State.dmaHalt (s : State) (c code addr : Nat) : State :=
  let x := s.chan c
  ((s.setChan c { x with
    cur := match x.work with
      | (a, _) :: _ => a
      | [] => x.cur
    state := 4, code := code, errAddr := addr % 2 ^ 48, fetching := none, work := [], park := none, asked := false
    pending := false }).bump 0x5341 c 8).raise .dmaHalted [c, code, addr % 2 ^ 48]

/-- A data read of start `run` of a channel is answered with error status: the channel halts with code 6 (Table 3). -/
def State.dmaReadLost (s : State) (c run : Nat) : State :=
  let x := s.chan c
  if x.run ≠ run ∨ x.asked = false then s
  else
    match x.work with
    | [] => s
    | (_, d) :: _ => s.dmaHalt c 6 (dSrc d + (if dSrcFixed d then 0 else x.moved))

end Sys2Proof.Machine
end

