-- ==== Sys2Proof/Machine/Crypto.lean ====
section
/-! DEFINITION. The key operations of the target (06 R222 to R226) over the AES-256 block cipher: XTS of IEEE 1619, GCM with 12-byte
nonces, the wrapping of namespace keys and the opening of a KEK import. Keys, blocks and ciphertexts are contents: byte 0 is the least
significant byte of the number. -/

namespace Sys2Proof.Machine

/-- The lowest `n` bytes of a number in the opposite order. -/
def swapBytes : Nat → Nat → Nat
  | 0, _ => 0
  | n + 1, v => v % 256 * 256 ^ n + swapBytes n (v / 256)

/-- The ASCII bytes of a text as a content. -/
def asciiContent (x : String) : Content := x.toList.foldr (fun c v => c.toNat % 256 + 256 * v) 0

/-- AES-256 of one block, and its inverse. -/
def aesBlock (key b : Nat) : Nat := (Config.aes256 (BitVec.ofNat 256 key) (BitVec.ofNat 128 b)).toNat
def aesInverse (key b : Nat) : Nat := ((Config.aes256 (BitVec.ofNat 256 key)).symm (BitVec.ofNat 128 b)).toNat

/-! ### XTS (06 R224) -/

/-- The tweak of the next block of a data unit: the product by α in GF(2¹²⁸) of IEEE 1619. -/
def xtsNext (t : Nat) : Nat := 2 * t % 2 ^ 128 ^^^ (if bit t 127 then 0x87 else 0)

/-- `n` blocks of a data unit from the tweak `t` on. -/
def xtsRun (f : Nat → Nat) : Nat → Nat → Content → Content
  | 0, _, _ => 0
  | n + 1, t, c => (f (c % 2 ^ 128 ^^^ t) ^^^ t) + 2 ^ 128 * xtsRun f n (xtsNext t) (c / 2 ^ 128)

/-- AES-256-XTS over one logical block of `size` bytes: the key pair's first key ciphers, its second makes the tweak of the namespace LBA
as a 128-bit little-endian value. -/
def xtsUnit (enc : Bool) (key lba size : Nat) (c : Content) : Content :=
  xtsRun (if enc then aesBlock (key % 2 ^ 256) else aesInverse (key % 2 ^ 256)) (size / 16) (aesBlock (key / 2 ^ 256) (lba % 2 ^ 128)) c

/-! ### GCM (06 R222, R223) -/

/-- Product in GF(2¹²⁸) as GCM numbers its bits, over the lowest `n` bits of `x` from the top one on. -/
def ghashMul : Nat → Nat → Nat → Nat → Nat
  | 0, _, _, z => z
  | n + 1, x, v, z =>
    ghashMul n x (if v % 2 = 1 then v / 2 ^^^ 0xE1 * 2 ^ 120 else v / 2) (if bit x n then z ^^^ v else z)

/-- The counter block of a nonce. -/
def gcmCounter (nonce i : Nat) : Nat := swapBytes 16 (swapBytes 12 nonce * 2 ^ 32 + i)

/-- `n` blocks ciphered from counter `i` on. -/
def gcmRun (key nonce : Nat) : Nat → Nat → Content → Content
  | 0, _, _ => 0
  | n + 1, i, c => (c % 2 ^ 128 ^^^ aesBlock key (gcmCounter nonce i)) + 2 ^ 128 * gcmRun key nonce n (i + 1) (c / 2 ^ 128)

/-- Blocks of `len` bytes as GHASH takes them, zeros filled up. -/
def ghashBlocks (len : Nat) (c : Content) : List Nat :=
  (List.range ((len + 15) / 16)).map fun i => swapBytes 16 (c % 256 ^ len / 2 ^ (128 * i) % 2 ^ 128)

/-- The tag over additional data and ciphertext. -/
def gcmTag (key nonce aadLen : Nat) (aad : Content) (len : Nat) (cipher : Content) : Nat :=
  let h := swapBytes 16 (aesBlock key 0)
  let blocks := ghashBlocks aadLen aad ++ ghashBlocks len cipher ++ [aadLen * 8 * 2 ^ 64 + len * 8]
  swapBytes 16 (blocks.foldl (fun y b => ghashMul 128 (y ^^^ b) h 0) 0) ^^^ aesBlock key (gcmCounter nonce 1)

/-- Open `len` bytes (whole blocks) where the tag holds. -/
def gcmOpen (key nonce aadLen : Nat) (aad : Content) (len : Nat) (cipher tag : Content) : Option Content :=
  if gcmTag key nonce aadLen aad len cipher = tag then some (gcmRun key nonce (len / 16) 2 cipher) else none

/-! ### Namespace keys and KEKs -/

/-- A namespace key wrapped under a KEK (06 R223): nonce, ciphertext and tag, 92 bytes (log entry 154). -/
def wrapKey (kek nonce key : Nat) : Content :=
  let c := gcmRun kek (nonce % 256 ^ 12) 4 2 key
  nonce % 256 ^ 12 + 256 ^ 12 * c + 256 ^ 76 * gcmTag kek (nonce % 256 ^ 12) 0 0 64 c

/-- The namespace key of a wrapped form, where the KEK opens it. -/
def unwrapKey (kek : Nat) (w : Content) : Option Nat :=
  gcmOpen kek (w % 256 ^ 12) 0 0 64 (w / 256 ^ 12 % 256 ^ 64) (w / 256 ^ 76 % 256 ^ 16)

/-- The check value of a KEK (06 R226): the first four bytes of AES-256 of a zero block, first byte most significant. -/
def kekCheck (kek : Nat) : Nat := swapBytes 4 (aesBlock kek 0 % 2 ^ 32)

/-- The wrapping key of an import (06 R222): the first 32 bytes of SHAKE256 over the two shared secrets, the text and the tenant. -/
def importKey (tenant mlkem x25519 : Nat) : Nat :=
  Config.shake256 80 (mlkem % 256 ^ 32 + 256 ^ 32 * (x25519 % 256 ^ 32) + 256 ^ 64 * asciiContent "SRZ tenant KEK" +
    256 ^ 78 * (tenant % 65536)) 32 % 256 ^ 32

/-- The KEK in an import of 1,180 bytes for a tenant (06 R222): ML-KEM-768 ciphertext, ephemeral X25519 key, nonce, encrypted KEK, tag;
none where it fails to decapsulate or to authenticate. -/
def openKek (tenant : Nat) (x : Content) : Option Nat :=
  match Config.mlkemOpen (x % 256 ^ 1088) with
  | none => none
  | some ss =>
    gcmOpen (importKey tenant ss (Config.x25519 (x / 256 ^ 1088 % 256 ^ 32))) (x / 256 ^ 1120 % 256 ^ 12) 2 (tenant % 65536) 32
      (x / 256 ^ 1132 % 256 ^ 32) (x / 256 ^ 1164 % 256 ^ 16)

/-- A KEK as the settings store holds it, sealed under the module's device key (06 R225), and opened again. -/
def sealKek (kek : Nat) : Nat := (Config.sealKek (BitVec.ofNat 256 kek)).toNat
def unsealKek (w : Nat) : Nat := (Config.sealKek.symm (BitVec.ofNat 256 w)).toNat

end Sys2Proof.Machine
end

