-- ==== Sys2Proof/Machine/RoceTx.lean ====
section
/-! DEFINITION. The sending side of the RDMA transport (05): queue-pair numbers, packet lengths, the per-QP window, the send
gate, acknowledgement of the module's packets, retransmission. -/

namespace Sys2Proof.Machine

/-! ### Numbers (05 R154, R155, R158) -/

/-- QPN on the wire. -/
def wireQpn (i : Nat) (q : Qp) : Nat := q.gen * 131072 + i

/-- Transport slice of an index (05 R155). -/
def sliceOf (i : Nat) : Nat := i % 4

/-- UDP source port of a queue pair (05 R158). -/
def qpSrcPort (wire : Nat) : Nat :=
  49152 + crc16 [wire % 256, wire / 256 % 256, wire / 65536 % 256] % 16384

/-- A PSN lies behind another: within the 2^23 numbers before it. -/
def psnBehind (a b : Psn) : Bool := decide ((b - a).toNat ≠ 0 ∧ (b - a).toNat ≤ 2 ^ 23)

/-- An RDMA WRITE packet (05 Table 1). -/
def isWriteOp : RoceOp → Bool
  | .writeFirst | .writeMiddle | .writeLast | .writeOnly => true
  | _ => false

/-- Packets of a length at an MTU; an empty message is one packet. -/
def packetsOf (len mtu : Nat) : Nat := max 1 ((len + mtu - 1) / max 1 mtu)

/-! ### Packet lengths (05 R157) -/

/-- Frame length of a packet from the destination MAC address through the FCS: Ethernet, a VLAN tag where the interface
has one, IPv4 or IPv6, UDP, BTH, extension header, payload, ICRC, FCS. -/
def State.packetLen (s : State) (q : Qp) (p : TxPkt) : Nat :=
  let vlan := if s.o 0x3040 q.ifRow 4 = 0 then 0 else 4
  let ip := if q.remoteIp / 2 ^ 32 = 0xFFFF then 20 else 40
  let ext := if p.hasReth then 16 else
    match p.op with
    | .acknowledge | .sendInvalidate => 4
    | .cnp => 16
    | _ => 0
  max 64 (14 + vlan + ip + 8 + 12 + ext + (p.bytes + 3) / 4 * 4 + 4 + 4)

/-- The peer holds the state of a twin queue pair, or will once a record on its way is confirmed (14 R487, R489). -/
def State.mirrored (s : State) (q : Qp) : Bool := q.twin && (q.copying || q.twinWait.isSome) && s.paired && s.peerFit

/-- The full state of a twin queue pair as a record carries it. -/
def State.qpRec (s : State) (i : Nat) (final : Bool) : QpStateRec :=
  let q := s.qp i
  let c := s.ctrl (q.cntlid.getD 0)
  { tenant := q.tenant, cls := q.cls, ifRow := q.ifRow, port := q.port, cluster := q.cluster, remoteIp := q.remoteIp
    remoteQpn := q.remoteQpn, srcPort := q.srcPort, mtu := q.mtu, pkey := q.pkey, depth := q.depth, commId := q.commId
    qid := q.qid, hsqsize := q.hsqsize, sqhd := q.sqhd, cntlid := q.cntlid, hostRow := c.hostRow, subsys := c.subsys
    discovery := c.discovery, hostid := c.hostid, kato := c.kato, cc := c.cc, expected := q.ePsn, next := q.nPsn
    oldest := q.oldest, msn := q.msn, bufs := q.bufs, sent := q.sent.map SentPkt.pkt
    reads := q.reads.map fun r => (r.psn, r.len, r.va, r.rkey), final := final }

/-- Send the state of a twin queue pair to the peer. -/
def State.sendQpRec (s : State) (i : Nat) (final : Bool) : State :=
  let r := s.qpRec i final
  s.sendRec .qpState (wireQpn i (s.qp i)) 0 (32 + 16 * (r.sent.length + r.reads.length)) (.qpState r)

/-- Tell the peer of a change in the state of a twin queue pair (14 R487). -/
def State.qpChanged (s : State) (i : Nat) : State := if s.mirrored (s.qp i) then s.sendQpRec i false else s

/-- Send the full state of a twin queue pair, after whose confirmation copies resume (14 R489). -/
def State.startCopies (s : State) (i : Nat) : State :=
  if (s.qp i).twin && s.paired && s.peerFit then
    let n := s.nextRec
    (s.setQp i { s.qp i with copying := false, twinWait := some n }).sendQpRec i false
  else s

/-- Put a packet of queue pair `i` into its egress queue (05 R160, R180). The data and response packets of a twin queue
pair also go to the peer, which transmits them too, while it is fit and holds the queue pair's state (14 R488, R489). -/
def State.sendPkt (s : State) (i : Nat) (p : TxPkt) (retx : Bool) : State :=
  let q := s.qp i
  let p := { p with destQp := q.remoteQpn, pkey := q.pkey }
  let f : EgFrame := { msg := .roce i p, tenant := q.tenant, cls := q.cls
                       len := s.packetLen q p, ect := decide (s.ob 0x3013 0 = 1), retx := retx }
  let s := s.setQp i { q with txCount := satAdd q.txCount 1, retxCount := if retx then satAdd q.retxCount 1 else q.retxCount }
  let both := isWriteOp p.op || decide (p.op = .sendOnly ∨ p.op = .sendInvalidate)
  let fit := s.paired && s.peerFit
  let s := s.when (q.copying && !fit) fun s => s.setQp i { s.qp i with copying := false }
  let s := s.when (q.twin && q.copying && both && !retx && fit) fun s =>
    s.sendRec .twinPacket (wireQpn i q) 0 (66 + p.bytes) (.twinPacket p)
  s.enqueue q.port f

/-! ### Location of contexts (05 R163 to R166) -/

/-- A packet or transmission of a queue pair sets its reference bit; it aborts a parking that has not committed, and a
parked context is refetched. -/
def State.touch (s : State) (i : Nat) : State :=
  let q := s.qp i
  match q.loc with
  | 2 => (s.setQp i { q with ref := true, loc := 0, parkStart := none }).bump 0x3120 (sliceOf i) 5
  | 1 => (s.setQp i { q with ref := true, loc := 3, parkStart := some s.now }).bump 0x3120 (sliceOf i) 6
  | _ => s.setQp i { q with ref := true }

/-! ### The window (05 R175 to R179) -/

/-- Floor of a queue pair's window. -/
def State.windowFloor (s : State) (q : Qp) : Nat := if q.cls = 0 then s.ob 0x3110 0xD else s.ob 0x3110 2

/-- Clamp a window, or take the pin (05 R176 clamp_window, R178, R179). -/
def State.clampWindow (s : State) (q : Qp) (w : Rat) : Nat :=
  if q.windowPin ≠ 0 then (if q.cls = 0 then max q.windowPin (s.ob 0x3110 0xD) else q.windowPin)
  else
    let w := min (max w (s.windowFloor q : Nat)) (s.ob 0x3110 3 : Nat)
    w.floor.toNat / 64 * 64

/-- Store a clamped window, and since when it stands at its floor (05 R185). -/
def State.setWindow (s : State) (q : Qp) (w : Rat) : Qp :=
  let v := s.clampWindow q w
  if v ≤ s.windowFloor q then
    { q with window := v, floorSince := if q.floorSince.isNone then some s.now else q.floorSince }
  else { q with window := v, floorSince := none, floorEvent := false }

/-- Base RTT in µs: the smallest sample over the base window (05 R175). -/
def State.baseRtt (s : State) (q : Qp) : Option Rat :=
  let xs := (q.rtts.filter fun e => decide (s.now < e.1 + s.ob 0x3110 0xB * sNs)).map Prod.snd
  xs.foldl (init := none) fun m x => match m with
    | none => some x
    | some y => some (min x y)

/-- The hold-off in ns: max(srtt, hold-off floor). -/
def State.holdOff (s : State) (q : Qp) : Rat := 1000 * max (q.srtt.getD 0) (s.ob 0x3110 0xC : Nat)

/-- The hold-off since the last decrease has passed. -/
def State.mayDecrease (s : State) (q : Qp) : Bool :=
  match q.lastDecrease with
  | none => true
  | some t => decide (s.holdOff q ≤ ((s.now - t : Nat) : Rat))

/-- On an RTT sample of `r` µs that acknowledges `acked` bytes. -/
def State.onRtt (s : State) (q : Qp) (r : Rat) (acked : Nat) : Qp :=
  let q := { q with
    srtt := some (match q.srtt with | none => r | some x => 7 / 8 * x + 1 / 8 * r)
    rtts := (s.now, r) :: q.rtts.filter fun e => decide (s.now < e.1 + s.ob 0x3110 0xB * sNs) }
  let target := (s.baseRtt q).getD r + (s.ob 0x3110 5 : Nat) / 10
  if target < r then
    if s.mayDecrease q then
      let f := max (1 - (s.ob 0x3110 6 : Nat) / 100 * (r - target) / r) (1 - (s.ob 0x3110 7 : Nat) / 100)
      s.setWindow { q with lastDecrease := some s.now } ((q.window : Rat) * f)
    else s.setWindow q q.window
  else s.setWindow q ((q.window : Rat) + (s.ob 0x3110 4 : Nat) * (acked : Rat) / (q.window : Rat))

/-- On a CNP. Alpha is a binary32 value (log entry 145). -/
def State.onCnp (s : State) (q : Qp) : Qp :=
  let g : Rat := (s.ob 0x3110 8 : Nat) / 256
  let q := { q with alpha := binary32 ((1 - g) * q.alpha + g), alphaAt := s.now }
  if s.mayDecrease q then s.setWindow { q with lastDecrease := some s.now } ((q.window : Rat) * (1 - q.alpha / 2))
  else s.setWindow q q.window

/-- Bytes in flight at the module's initiative: reads not fully arrived, and sent packets not acknowledged. -/
def Qp.outstanding (q : Qp) : Nat :=
  sumNat (q.reads.map fun r => r.len - r.got) + sumNat (q.sent.map fun u => u.pkt.bytes)

/-! ### The send gate (05 R177) -/

/-- The front message may go: resident, in RTS, no RNR wait, nothing to be sent again before it, a READ within the initiator depth, and the
window. -/
def Qp.gateOpen (q : Qp) (m : SendMsg) : Bool :=
  decide (q.loc = 0 ∧ q.state = 2) && q.rnrUntil.isNone && q.resend.isEmpty && (m.read.isNone || decide (q.reads.length < q.depth)) &&
    decide (q.outstanding = 0 ∨ q.outstanding + m.bytes ≤ q.window)

/-- Number the packets of a message from `n` on; the last one asks for an acknowledgement (05 R172). -/
def numberPkts (n : Psn) : List TxPkt → List TxPkt
  | [] => []
  | p :: r => { p with psn := n, ackReq := r.isEmpty } :: numberPkts (n + 1) r

/-- What is kept of a packet that is sent: no copy of data that its member still holds (05 R173). -/
def keptPkt (now : Nat) (p : TxPkt) : SentPkt :=
  { pkt := if p.src.isSome then { p with data := 0 } else p, at_ := now, last := p.ackReq }

/-- Send one message whole. A READ request takes as many PSNs as its responses (05 R174). -/
def State.sendMsg (s : State) (i : Nat) (m : SendMsg) : State :=
  let q := s.qp i
  match m.read, m.pkts with
  | some (va, key, off), p :: _ =>
    let p := { p with psn := q.nPsn, va := va, rkey := key, len := m.bytes, hasReth := true, ackReq := true }
    let r : ReadReq := { psn := q.nPsn, len := m.bytes, off := off, cmd := m.cmd.getD 0, va := va, rkey := key, at_ := s.now }
    let q := { q with
      nPsn := q.nPsn + BitVec.ofNat 24 (packetsOf m.bytes q.mtu), psnUsed := q.psnUsed + packetsOf m.bytes q.mtu
      reads := q.reads ++ [r]
      ackTimer := if q.ackTimer.isNone then some s.now else q.ackTimer }
    ((s.setQp i q).sendPkt i p false).qpChanged i
  | _, _ =>
    let ps := numberPkts q.nPsn m.pkts
    let q := { q with
      nPsn := q.nPsn + BitVec.ofNat 24 m.pkts.length, psnUsed := q.psnUsed + m.pkts.length, sent := q.sent ++ ps.map (keptPkt s.now)
      ackTimer := if q.ackTimer.isNone then some s.now else q.ackTimer }
    ((s.setQp i q).each ps fun s p => s.sendPkt i p false).qpChanged i

/-- A Class 0 read whose message the gate held at its first attempt does not conform (07 R270). -/
def State.gateHeld (s : State) (m : SendMsg) : State :=
  match m.cmd with
  | some c => if Tbl.has s.nvme.cmds c then s.setCmd c { s.cmd c with gateFirst := false } else s
  | none => s

/-- Let waiting messages go while the gate is open; `fuel` is at most the messages that wait. -/
def State.pump (i : Nat) : Nat → State → State
  | 0, s => s
  | n + 1, s =>
    let q := s.qp i
    match q.sendQ with
    | [] => s
    | m :: rest =>
      if q.gateOpen m then State.pump i n ((s.setQp i { q with sendQ := rest }).sendMsg i m)
      else if m.waited then s
      else (s.setQp i { q with sendQ := { m with waited := true } :: rest }).gateHeld m

/-- Pump everything that may go. -/
def State.pumpAll (s : State) (i : Nat) : State := State.pump i ((s.qp i).sendQ.length + 1) s

/-- Offer a message: the queue pair is touched, and the message goes or waits at the gate. -/
def State.postMsg (s : State) (i : Nat) (m : SendMsg) : State :=
  let s := s.touch i
  (s.setQp i { s.qp i with sendQ := (s.qp i).sendQ ++ [m] }).pumpAll i

/-- SEND_GATE_PASS (05 R177). -/
def sendGatePass (i : Nat) (s : State) : State := s.pumpAll i

def execSendGatePass (t idx : Nat) (s : State) : Res := act t (isQpIndex idx) s (sendGatePass idx)

/-! ### Acknowledgements the module sends (05 R169, R170) -/

/-- The AETH credit code of a number of free buffers: the largest of 0, 1, 2, 3, 4, 6, 8, 12, ... that it covers. -/
def creditCode (n : Nat) : Nat :=
  let steps := (List.range 31).map fun k => if k = 0 then 0 else if k = 1 then 1 else if k % 2 = 0 then 2 ^ (k / 2) else 3 * 2 ^ (k / 2 - 1)
  (steps.filter fun v => decide (v ≤ n)).length - 1

/-- Send an acknowledge packet with a syndrome: it carries the PSN given and the MSN. -/
def State.sendAeth (s : State) (i : Nat) (psn : Psn) (syndrome : Nat) : State :=
  let p : TxPkt := { op := .acknowledge, psn := psn, syndrome := syndrome, msn := (s.qp i).msn }
  s.sendPkt i p false

/-- Acknowledge everything before the expected PSN; on a twin queue pair once the peer has confirmed the records that cover it
(14 R487). -/
def State.sendAck (s : State) (i : Nat) : State :=
  let q := s.qp i
  if q.ackHold.isSome then s.setQp i { q with ackDue := true }
  else (s.setQp i { q with ackCount := 0, ackSince := none }).sendAeth i (q.ePsn - 1) (creditCode q.bufs)

/-- The coalescing delay has passed, on a resident queue pair: acknowledge. -/
def State.ackWaited (s : State) (i : Nat) : State :=
  match (s.qp i).ackSince with
  | some t0 => if dueAt s.now t0 (s.ob 0x3100 3 * 1000) then s.sendAck i else s
  | none => s

/-- ACK_COALESCING_TIMEOUT (05 R170): it aborts a parking, and a parked context is refetched before it takes effect (R165, R168). -/
def ackCoalescingTimeout (i : Nat) (s : State) : State :=
  match (s.qp i).ackSince with
  | some t0 =>
    if dueAt s.now t0 (s.ob 0x3100 3 * 1000) then
      let s := s.touch i
      if (s.qp i).loc = 0 then s.ackWaited i else s
    else s
  | none => s

def execAckCoalescingTimeout (t idx : Nat) (s : State) : Res := act t (isQpIndex idx) s (ackCoalescingTimeout idx)

/-! ### Retiring packets (05 R172, R175) -/

/-- The local ACK timeout in ns: 4.096 µs × 2^n. -/
def State.ackTimeout (s : State) : Nat := 4096 * 2 ^ s.ob 0x3100 4

/-- The first PSN of an RDMA READ whose response has never arrived. -/
def ReadReq.oldest (r : ReadReq) (mtu : Nat) : Psn := r.psn + BitVec.ofNat 24 (r.most / max 1 mtu)

/-- The oldest unacknowledged PSN. -/
def Qp.oldestPsn (q : Qp) : Psn :=
  match q.sent.head?, q.reads.head? with
  | some u, some r => if psnBehind (r.oldest q.mtu) u.pkt.psn then r.oldest q.mtu else u.pkt.psn
  | some u, none => u.pkt.psn
  | none, some r => r.oldest q.mtu
  | none, none => q.nPsn

/-- Something sent is unacknowledged. -/
def Qp.waiting (q : Qp) : Bool := !q.sent.isEmpty || !q.reads.isEmpty

/-- An acknowledgement that advances the oldest unacknowledged PSN restores both counts and restarts the timer (05 R172). -/
def State.progress (s : State) (q : Qp) : Qp :=
  let q := { q with ackTimer := if q.waiting then some s.now else none }
  if q.oldestPsn = q.oldest then q
  else { q with retries := s.ob 0x3100 5, rnrRetries := q.rnrCount, rnrFirst := none, rnrUntil := none, oldest := q.oldestPsn }

/-- RTT samples of the messages whose last packet is among those now acknowledged (05 R175): instants and bytes of
messages none of whose packets was retransmitted. -/
def ackedMessages : List SentPkt → Bool → Nat → List (Nat × Nat)
  | [], _, _ => []
  | u :: r, clean, bytes =>
    let clean := clean && !u.retx
    let bytes := bytes + u.pkt.bytes
    if u.last then (if clean then [(u.at_, bytes)] else []) ++ ackedMessages r true 0 else ackedMessages r clean bytes

/-- Take the RTT samples of an acknowledgement that arrived at the port at time `t`. -/
def State.takeSamples (s : State) (q : Qp) (t : Nat) (xs : List (Nat × Nat)) : Qp :=
  xs.foldl (init := q) fun q x => s.onRtt q (((t - x.1 : Nat) : Rat) / 1000) x.2

/-- Repeated packets of queue pair `i` up to PSN `a` that still wait in their egress queue are taken out (05 R189). -/
def State.dropRetx (s : State) (i : Nat) (a : Psn) : State :=
  let mine (f : EgFrame) : Bool := match f.msg with
    | .roce j p => decide (j = i) && f.retx && decide (p.op ≠ .rdmaReadRequest) && (p.psn == a || psnBehind p.psn a)
    | _ => false
  let e := s.eg (s.qp i).port
  s.setEg (s.qp i).port { e with queues := e.queues.map fun x => (x.1, x.2.filter fun f => !mine f) }

/-- Retire every packet up to PSN `a`, acknowledged by a packet that arrived at time `t`; the commands whose completion they carried are
returned. -/
def State.retire (s : State) (i : Nat) (a : Psn) (t : Nat) : State × List Nat :=
  let q := s.qp i
  let past (p : Psn) : Bool := p == a || psnBehind p a
  let acked := q.sent.filter fun u => past u.pkt.psn
  let left := q.sent.filter fun u => !past u.pkt.psn
  if acked.isEmpty then (s, [])
  else
    let again := q.resend.filter fun x => !past x.pkt.psn || decide (x.pkt.op = .rdmaReadRequest)
    let q := s.progress { q with sent := left, resend := again }
    let q := s.takeSamples q t (ackedMessages acked true 0)
    let done := acked.filterMap fun u => if u.pkt.cqe.isSome then u.pkt.cmd else none
    let s := s.setQp i q
    (s.when (acked.any fun u => u.retx) fun s => s.dropRetx i a, done)

/-- Packets to be sent again go as far as their data is there, in order (05 R173); `n` is at most their number. -/
def State.drainResend (i : Nat) : Nat → State → State
  | 0, s => s
  | n + 1, s =>
    let q := s.qp i
    match q.resend with
    | [] => s
    | x :: r => if x.ready then State.drainResend i n ((s.setQp i { q with resend := r }).sendPkt i x.pkt true) else s

/-- What an acknowledgement lets go: repeated packets in order, then messages that wait. -/
def State.afterAck (s : State) (i : Nat) : State := (State.drainResend i (s.qp i).resend.length s).pumpAll i

end Sys2Proof.Machine
end

