-- ==== Sys2Proof/Machine/Arrays.lean ====
section
/-! DEFINITION. Double-parity arrays (09, 10): geometry, the map from a namespace's blocks to members, parity arithmetic,
which chunks are available, and what the gather cache holds. -/

namespace Sys2Proof.Machine

/-! ### Geometry (09 R300 to R304) -/

/-- An array beside its row. -/
def State.arrS (s : State) (a : Nat) : ArrState := Tbl.get {} s.arr.arrs a

def State.setArr (s : State) (a : Nat) (x : ArrState) : State :=
  { s with arr := { s.arr with arrs := Tbl.set s.arr.arrs a x } }

def State.modArr (s : State) (a : Nat) (f : ArrState → ArrState) : State := s.setArr a (f (s.arrS a))

/-- The array is owned by this module (14 R468). -/
def State.owns (s : State) (a : Nat) : Bool := !s.twin.twinMode || decide (s.o 0x2410 a 3 + 1 = s.ob 0x2400 2)

/-- The array exists: its row is enabled. -/
def State.arrOn (s : State) (a : Nat) : Bool := decide (s.o 0x5000 a 2 = 1)

/-- Members, data chunks, spare positions, chunk size in bytes. -/
def State.aN (s : State) (a : Nat) : Nat := s.o 0x5000 a 3
def State.aD (s : State) (a : Nat) : Nat := s.o 0x5000 a 4
def State.aS (s : State) (a : Nat) : Nat := s.o 0x5000 a 5
def State.aC (s : State) (a : Nat) : Nat := s.o 0x5000 a 6 * 1024

/-- Byte `k` of an octet string of `n` bytes, byte 0 most significant. -/
def octByte (n v k : Nat) : Nat := v / 256 ^ (n - 1 - k) % 256

/-- An octet string from its bytes. -/
def octOf (bs : List Nat) : Val := .oct bs.length (bs.foldl (fun v b => v * 256 + b % 256) 0)

/-- Slot of a member. -/
def State.slotOf (s : State) (a m : Nat) : Nat := octByte 24 (s.o 0x5000 a 7) m

/-- Row of 5100h of a member. -/
def memRow (a m : Nat) : Nat := a * 24 + m

/-- Member state: 0 unused, 1 active, 2 missing, 3 lost and restored, 4 filling. -/
def State.memState (s : State) (a m : Nat) : Nat := s.o 0x5100 (memRow a m) 2

/-- Members 0 to N − 1. -/
def State.members (s : State) (a : Nat) : List Nat := List.range (s.aN a)

/-- Array and member in a slot. -/
def State.memberIn (s : State) (slot : Nat) : Option (Nat × Nat) :=
  ((List.range 4).filter s.arrOn).findSome? fun a =>
    ((s.members a).find? fun m => decide (s.slotOf a m = slot)).map fun m => (a, m)

/-- Member that holds position `p` of row `r` of `n` members, and the position of member `m` (09 R302). -/
def memberAt (n r p : Nat) : Nat := (p + n - r % n) % n
def posOf (n r m : Nat) : Nat := (m + r) % n

/-- Member byte offset of row `r`. -/
def rowBase (c r : Nat) : Nat := 8589934592 + r * c

/-- Row, data position and chunk offset of a data address (09 R303). -/
def place (d c addr : Nat) : Nat × Nat × Nat := (addr / (d * c), addr % (d * c) / c, addr % c)

/-- Data address of a row, position and chunk offset. -/
def dataAddr (d c r p o : Nat) : Nat := r * (d * c) + p * c + o

/-- Bytes of data of an array. -/
def State.arrCapacity (s : State) (a : Nat) : Nat := (s.arrS a).nRows * s.aD a * s.aC a

/-! ### Parity (09 R308, R309) -/

/-- Product by the generator 02h in GF(2^8) with polynomial 11Dh. -/
def gfDouble (a : Nat) : Nat := if 128 ≤ a then (a * 2) ^^^ 0x11D else a * 2

/-- Product in GF(2^8). -/
def gfMul (a b : Nat) : Nat :=
  let rec go : Nat → Nat → Nat → Nat
    | 0, _, _ => 0
    | n + 1, a, b => (if b % 2 = 1 then a else 0) ^^^ go n (gfDouble a) (b / 2)
  go 8 a b

/-- g^k. -/
def gfPow : Nat → Nat
  | 0 => 1
  | k + 1 => gfDouble (gfPow k)

/-- a^k. -/
def gfExp (a : Nat) : Nat → Nat
  | 0 => 1
  | k + 1 => gfMul a (gfExp a k)

/-- The inverse of a non-zero element. -/
def gfInv (a : Nat) : Nat := gfExp a 254

/-- g^(−k). -/
def gfPowNeg (k : Nat) : Nat := gfPow (255 - k % 255)

/-- Apply a map of bytes to each of `n` bytes. -/
def mapBytes (f : Nat → Nat) : Nat → Content → Content
  | 0, _ => 0
  | n + 1, c => f (c % 256) + 256 * mapBytes f n (c / 256)

/-- Multiply each of `n` bytes by `k`. -/
def scale (n k : Nat) (c : Content) : Content := mapBytes (gfMul k) n c

/-- P of data chunks. -/
def parityP (ds : List Content) : Content := ds.foldl Nat.xor 0

/-- Q of data chunks from position `i` on, over `n` bytes. -/
def parityQ (n : Nat) : Nat → List Content → Content
  | _, [] => 0
  | i, d :: r => scale n (gfPow i) d ^^^ parityQ n (i + 1) r

/-- A data chunk of a stripe of `d` data chunks over `n` bytes, from the chunks `v` that are known by position (09
Table 2): none where more than two chunks are missing. -/
def recoverData (n d : Nat) (v : Nat → Option Content) (x : Nat) : Option Content :=
  match v x with
  | some c => some c
  | none =>
    let others := (List.range d).filter fun i => decide (i ≠ x)
    let known := fun i => (v i).getD 0
    let pFold := parityP (others.map known)
    let qFold := (others.map fun i => scale n (gfPow i) (known i)).foldl Nat.xor 0
    match others.filter fun i => (v i).isNone with
    | [] =>
      match v d, v (d + 1) with
      | some p, _ => some (p ^^^ pFold)
      | none, some q => some (scale n (gfPowNeg x) (q ^^^ qFold))
      | none, none => none
    | [y] =>
      match v d, v (d + 1) with
      | some p, some q =>
        let lo := min x y
        let hi := max x y
        let pxy := p ^^^ pFold
        let qxy := q ^^^ qFold
        let den := gfInv (gfPow (hi - lo) ^^^ 1)
        let dLo := scale n den (scale n (gfPow (hi - lo)) pxy ^^^ scale n (gfPowNeg lo) qxy)
        some (if x = lo then dLo else pxy ^^^ dLo)
      | _, _ => none
    | _ => none

/-! ### Holders and availability (09 R328, 10 R350) -/

/-- Entries of the substitution list in the order in which they were made. -/
def insertSub (e : Subst) : List Subst → List Subst
  | [] => [e]
  | x :: r => if e.gen ≤ x.gen then e :: x :: r else x :: insertSub e r

def sortSubs (l : List Subst) : List Subst := l.foldr insertSub []

/-- Member that holds position `p` of row `r`, with the last entry that moved it. -/
def State.holder (s : State) (a r p : Nat) : Nat × Option Nat :=
  let n := s.aN a
  (sortSubs (s.arrS a).subs).foldl (init := (memberAt n r p, none)) fun h e =>
    if h.1 = e.member then (memberAt n r (s.aD a + 1 + e.k), some e.k) else h

/-- Bits of the segment map of row `r` (10 R350). -/
def State.segBits (s : State) (a r : Nat) : Nat := Tbl.get 0 (s.arrS a).segs (r / 1024)

/-- Row `r` lies in the segment in progress below its cursor, in the work that restores entry `k` (none: a filling
replacement, member `m`). -/
def State.belowCursor (s : State) (a r m : Nat) (k : Option Nat) : Bool :=
  match (s.arrS a).work with
  | none => false
  | some w =>
    decide (w.seg = r / 1024 ∧ r < w.cursor) &&
      (match k with
       | some k => decide (w.kind = 1 ∨ w.kind = k + 1)
       | none => decide ((w.kind = 4 ∨ w.kind = 5 ∨ w.kind = 6) ∧ w.member = m))

/-- The chunk at position `p` of row `r` is available (10 R350; log entry 25). -/
def State.available (s : State) (a r p : Nat) : Bool :=
  match s.holder a r p with
  | (m, none) =>
    decide (s.memState a m = 1) || (decide (s.memState a m = 4) && (bit (s.segBits a r) 2 || s.belowCursor a r m none))
  | (m, some k) =>
    decide (s.memState a m = 1) && (bit (s.segBits a r) (k - 1) || s.belowCursor a r m (some k))

/-- Positions 0 to D + 1 of a row that are unavailable. -/
def State.unavailable (s : State) (a r : Nat) : List Nat :=
  (List.range (s.aD a + 2)).filter fun p => !s.available a r p

/-- Missing members: active ones and those fully restored are not (10 R350). -/
def State.missing (s : State) (a : Nat) : List Nat :=
  (s.members a).filter fun m => decide (s.memState a m = 2 ∨ s.memState a m = 4) &&
    !((s.memState a m = 4) && (s.arrS a).subs.any fun e => decide (e.member = m) &&
      (List.range (((s.arrS a).nRows + 1023) / 1024)).all fun g => bit (Tbl.get 0 (s.arrS a).segs g) (e.k - 1))

/-- 5001h:02 follows the missing members. -/
def State.syncArray (s : State) (a : Nat) : State :=
  if s.arrOn a then
    s.put 0x5001 a 2 (if (s.arrS a).failed then 4 else min 4 (1 + (s.missing a).length))
  else s.put 0x5001 a 2 0

/-! ### Namespaces on an array (09 R306, R307) -/

/-- State of a namespace beside its row. -/
def State.ns (s : State) (n : Nat) : NsState := Tbl.get {} s.nvme.ns n

def State.setNs (s : State) (n : Nat) (x : NsState) : State :=
  { s with nvme := { s.nvme with ns := Tbl.set s.nvme.ns n x } }

/-- Array, LBA size and blocks of a namespace. -/
def State.nsArray (s : State) (n : Nat) : Nat := s.o 0x3230 n 6
def State.nsLba (s : State) (n : Nat) : Nat := s.o 0x3230 n 7
def State.nsBlocks (s : State) (n : Nat) : Nat := s.o 0x3230 n 8
def State.nsTenant (s : State) (n : Nat) : Nat := s.o 0x3230 n 5

/-- Array data address of a namespace byte offset, and how many bytes run on from there in its extent. -/
def locate : List (Nat × Nat) → Nat → Option (Nat × Nat)
  | [], _ => none
  | (g, n) :: r, off =>
    if off < n * 65536 then some (g * 65536 + off, n * 65536 - off) else locate r (off - n * 65536)

/-- Granules of a namespace, in order. -/
def NsState.granules (x : NsState) : List Nat := x.extents.flatMap fun e => (List.range e.2).map fun i => e.1 + i

/-- Cut `len` bytes at namespace offset `off` into runs that lie in one extent and one chunk: transfer offset, data
address, length. -/
def cutRuns (ext : List (Nat × Nat)) (c : Nat) : Nat → Nat → Nat → Nat → List (Nat × Nat × Nat)
  | 0, _, _, _ => []
  | fuel + 1, at_, off, len =>
    if len = 0 then []
    else
      match locate ext off with
      | none => []
      | some (addr, left) =>
        let k := min len (min left (c - addr % c))
        (at_, addr, k) :: cutRuns ext c fuel (at_ + k) (off + k) (len - k)

/-- The runs of `n` blocks from `lba` on. -/
def State.runs (s : State) (nsRow lba n : Nat) : List (Nat × Nat × Nat) :=
  let sz := s.nsLba nsRow
  cutRuns (s.ns nsRow).extents (s.aC (s.nsArray nsRow)) (n * sz / 512 + 1) 0 (lba * sz) (n * sz)

/-- A granule has been written since it was last deallocated (06 R209). -/
def State.granuleUsed (s : State) (a g : Nat) : Bool := (s.arrS a).used.contains g

/-- A granule stands as deallocated in the bitmap. -/
def State.bitmapFree (s : State) (a g : Nat) : Bool := !s.granuleUsed a g || (s.arrS a).leaving.contains g

/-! ### The gather cache (09 R314) -/

/-- Key of a 4 KiB page. -/
def pageKey (a page : Nat) : Nat := a * 2 ^ 40 + page

/-- Key of a row. -/
def rowKey (a r : Nat) : Nat := a * 2 ^ 40 + r

def State.page (s : State) (a page : Nat) : GPage := Tbl.get {} s.arr.pages (pageKey a page)

/-- Store a page; an empty one leaves the table. -/
def State.setPage (s : State) (a page : Nat) (g : GPage) : State :=
  let k := pageKey a page
  { s with arr := { s.arr with
      pages := if g.cur.isNone && g.snap.isNone then Tbl.erase s.arr.pages k else Tbl.set s.arr.pages k g } }

/-- Dirty sectors of a page, in either version. -/
def GPage.mask (g : GPage) : Nat :=
  (match g.cur with | some v => v.mask | none => 0) ||| (match g.snap with | some v => v.mask | none => 0)

/-- The version that holds sector `k`: the newest that is dirty there. -/
def GPage.version? (g : GPage) (k : Nat) : Option PageVer :=
  match g.cur, g.snap with
  | some v, w => if bit v.mask k then some v else w.bind fun w => if bit w.mask k then some w else none
  | none, w => w.bind fun w => if bit w.mask k then some w else none

/-- `n` bytes of a content from byte `o` on. -/
def slice (c : Content) (o n : Nat) : Content := c / 256 ^ o % 256 ^ n

/-- A field of an image's header (17 Table 2). -/
def Image.field (i : Image) (off len : Nat) : Nat := slice i.data off len

def Image.version (i : Image) : Nat := i.field 12 4

/-- Running version, 2300h:01; 0 in loader-only mode. -/
def State.runningVersion (s : State) : Nat := if s.loaderOnly then 0 else s.fw.running.version

/-- Put `n` bytes at byte `o` of a content. -/
def patch (c : Content) (o n : Nat) (x : Content) : Content :=
  c - slice c o n * 256 ^ o + x % 256 ^ n * 256 ^ o

/-- Ciphertext of `n` 512-byte sectors from data address `addr` on, where every one of them is dirty. -/
def State.gathered (s : State) (a : Nat) : Nat → Nat → Option Content
  | _, 0 => some 0
  | addr, n + 1 =>
    match (s.page a (addr / 4096)).version? (addr % 4096 / 512), s.gathered a (addr + 512) n with
    | some v, some rest => some (slice v.data (addr % 4096) 512 + 2 ^ 4096 * rest)
    | _, _ => none

/-- A block is dirty (01 R28). -/
def State.blockDirty (s : State) (a addr sz : Nat) : Bool := (s.gathered a addr (sz / 512)).isSome

/-- Row of a data address. -/
def State.rowOf (s : State) (a addr : Nat) : Nat := addr / (s.aD a * s.aC a)

/-- Pages of an array in the cache, by page number. -/
def State.pagesOf (s : State) (a : Nat) : List (Nat × GPage) :=
  (s.arr.pages.filter fun e => decide (e.1 / 2 ^ 40 = a)).map fun e => (e.1 % 2 ^ 40, e.2)

/-- Pages of a row in the cache. -/
def State.rowPages (s : State) (a r : Nat) : List (Nat × GPage) :=
  (s.pagesOf a).filter fun e => decide (s.rowOf a (e.1 * 4096) = r)

/-- Rows with dirty blocks: array and row. -/
def State.dirtyRows (s : State) : List (Nat × Nat) :=
  (s.arr.pages.map fun e => (e.1 / 2 ^ 40, s.rowOf (e.1 / 2 ^ 40) (e.1 % 2 ^ 40 * 4096))).eraseDups

/-- Dirty bytes that the module owns (5010h:01). -/
def State.dirtyBytes (s : State) : Nat := sumNat (s.arr.pages.map fun e => 512 * bitCount e.2.mask 8)

/-- Bytes promised to writes that have passed the dirty ceiling and are not dirty yet. -/
def State.reservedBytes (s : State) : Nat := sumNat (s.nvme.cmds.map fun e => e.2.reserved)

/-- The limit of dirty data: the module's ceiling, or W while paired (01 R34, 14 R480). -/
def State.dirtyLimit (s : State) : Nat := if s.paired then s.ob 0x2403 1 else s.ob 0x2201 2

/-- A share of the limit in percent. -/
def State.watermark (s : State) (pct : Nat) : Nat := s.dirtyLimit * pct / 100

/-- Objects that follow the cache: dirty bytes, dirty rows, flushes in progress, intent entries. -/
def State.syncDirty (s : State) : State :=
  let s := s.put 0x5010 0 1 s.dirtyBytes
  let s := s.put 0x5010 0 5 s.dirtyRows.length
  let s := s.put 0x5010 0 6 s.arr.flushes.length
  let s := s.put 0x5010 0 7 s.arr.intent.length
  s.when (decide (s.dirtyBytes ≠ 0)) State.notIdle

end Sys2Proof.Machine
end

