-- ==== Sys2Proof/Machine/MemQ.lean ====
section
/-! DEFINITION. Member commands: their queues at the drive-submission scheduler (07 R248 to R250), their submission to the
drive, and the writes of superblock and array records (09 R305). -/

namespace Sys2Proof.Machine

/-! ### Slots and member commands -/

def State.slotS (s : State) (n : Nat) : Slot := Tbl.get {} s.slot.slots n

def State.setSlot (s : State) (n : Nat) (x : Slot) : State :=
  { s with slot := { s.slot with slots := Tbl.set s.slot.slots n x } }

def State.mc (s : State) (k : Nat) : MemberCmd := Tbl.get { slot := 0 } s.slot.cmds k

def State.setMc (s : State) (k : Nat) (x : MemberCmd) : State :=
  { s with slot := { s.slot with cmds := Tbl.set s.slot.cmds k x } }

def State.memQ (s : State) (n : Nat) : MemberSched := Tbl.get {} s.sched.mem n

def State.setMemQ (s : State) (n : Nat) (x : MemberSched) : State :=
  { s with sched := { s.sched with mem := Tbl.set s.sched.mem n x } }

/-- The drive of the slot is configured and ready (11 Table 11, state 6), and no reset ladder runs. -/
def State.slotReady (s : State) (n : Nat) : Bool := decide (s.o 0x5200 n 2 = 6) && (s.slotS n).ladder.isNone

/-- Member commands of a slot: number and command. -/
def State.slotCmds (s : State) (n : Nat) : List (Nat × MemberCmd) := s.slot.cmds.filter fun e => decide (e.2.slot = n)

/-- Commands outstanding at the drive: submitted and their completion entry not arrived. -/
def State.outstanding (s : State) (n : Nat) : List (Nat × MemberCmd) :=
  (s.slotCmds n).filter fun e => e.2.cid.isSome

/-- Commands outstanding now (5200h:0D). -/
def State.syncSlot (s : State) (n : Nat) : State := s.put 0x5200 n 0xD (s.outstanding n).length

/-! ### Fair queueing at a member (07 R246, R250) -/

/-- Cost of a member command. -/
def State.mcCost (s : State) (c : MemberCmd) : Nat := c.len + s.ob 0x4005 1

/-- The tenant's member weight. -/
def State.memWeight (s : State) (tenant : Nat) : Nat := s.o 0x4010 tenant 3

def MemberSched.qs (m : MemberSched) (k : Nat) : QSched := Tbl.get { level := k / 4096 } m.sched k

def MemberSched.vt (m : MemberSched) (c : Nat) : Nat := Tbl.get 0 m.vtime c

/-- Wake a queue in class `level`. -/
def MemberSched.wake (m : MemberSched) (now level k cost weight : Nat) : MemberSched :=
  let st := m.vt level
  let q := { m.qs k with
    start := st, finish := tagFinish st cost weight, active := true, level := level, relief := 0, waitingSince := now }
  { m with sched := Tbl.set m.sched k q }

/-- Keys of backlogged tenant queues. -/
def MemberSched.backlog (m : MemberSched) : List Nat := (m.queues.filter fun q => !q.2.isEmpty).map Prod.fst

/-- Put a member command into its queue; a queue that was empty wakens at the virtual time. -/
def State.enqMember (s : State) (c : MemberCmd) : State :=
  let k := s.slot.nextCmd
  if c.op ≠ .read ∧ (s.arrS c.array).failed = true then { s with slot := { s.slot with nextCmd := k + 1 } } else
  let s := { s with slot := { s.slot with nextCmd := k + 1, cmds := Tbl.set s.slot.cmds k c } }
  let m := s.memQ c.slot
  if c.bg = 1 then s.setMemQ c.slot { m with rebuildQ := m.rebuildQ ++ [k] }
  else if c.bg = 2 then s.setMemQ c.slot { m with scrubQ := m.scrubQ ++ [k] }
  else
    let key := queueKey c.cls c.tenant
    let q := Tbl.get [] m.queues key
    let m := { m with queues := Tbl.set m.queues key (q ++ [k]) }
    s.setMemQ c.slot (if q.isEmpty then m.wake s.now c.cls key (s.mcCost c) (s.memWeight c.tenant) else m)

/-- The number that the next member command takes. -/
def State.nextMc (s : State) : Nat := s.slot.nextCmd

/-- Take a member command out of every queue of its slot. A queue that this empties loses its tags, and a class with no
backlogged queue its virtual time (07 R246, R264). -/
def MemberSched.drop (m : MemberSched) (k : Nat) : MemberSched :=
  let qs := m.queues.map fun q => (q.1, q.2.filter fun j => decide (j ≠ k))
  let left := (qs.filter fun q => !q.2.isEmpty).map Prod.fst
  let sched := m.sched.filter fun e => left.contains e.1
  { m with
    queues := qs
    sched := sched
    vtime := m.vtime.filter fun e => left.any fun j => decide ((Tbl.get { level := j / 4096 } sched j).level = e.1)
    rebuildQ := m.rebuildQ.filter fun j => decide (j ≠ k)
    scrubQ := m.scrubQ.filter fun j => decide (j ≠ k) }

/-- Forget a member command, with its stream context. -/
def State.dropMc (s : State) (k : Nat) : State :=
  let c := s.mc k
  let s := { s with slot := { s.slot with
    cmds := Tbl.erase s.slot.cmds k
    streams := match c.ctx with
      | some x => Tbl.erase s.slot.streams x
      | none => s.slot.streams } }
  (s.setMemQ c.slot ((s.memQ c.slot).drop k)).syncSlot c.slot

/-! ### Choosing the next member command (07 R248) -/

/-- The queue of class `c` with the smallest finish tag; ties go to the lowest tenant. -/
def MemberSched.pick (m : MemberSched) (c : Nat) : Option Nat :=
  (m.backlog.filter fun k => decide ((m.qs k).level = c)).foldl (init := none) fun best k =>
    match best with
    | none => some k
    | some b =>
      if (m.qs k).finish < (m.qs b).finish ∨ ((m.qs k).finish = (m.qs b).finish ∧ k % 4096 < b % 4096) then some k
      else some b

/-- The lowest of the classes from `c` on with a backlogged queue. -/
def MemberSched.pickFrom (m : MemberSched) (c : Nat) : Nat → Option (Nat × Nat)
  | 0 => none
  | n + 1 =>
    match m.pick c with
    | some k => some (c, k)
    | none => MemberSched.pickFrom m (c + 1) n

/-- Serve the head of tenant queue `k`, chosen in class `c` (07 R246, R264). -/
def State.serveMember (s : State) (n c k : Nat) : Option Nat × State :=
  let m := s.memQ n
  match Tbl.get [] m.queues k with
  | [] => (none, s)
  | j :: rest =>
    let cost := s.mcCost (s.mc j)
    let q := m.qs k
    let home := k / 4096
    let m := { m with queues := Tbl.set m.queues k rest, vtime := Tbl.set m.vtime c q.finish }
    let served := q.relief + cost
    let m := match rest with
      | [] => { m with sched := Tbl.erase m.sched k }
      | g :: _ =>
        let gc := s.mcCost (s.mc g)
        let w := s.memWeight (k % 4096)
        if c < home ∧ s.ob 0x4004 2 ≤ served then m.wake s.now home k gc w
        else
          let q2 := { q with start := q.finish, finish := tagFinish q.finish gc w, relief := served, waitingSince := s.now }
          { m with sched := Tbl.set m.sched k q2 }
    let m := if m.backlog.any fun j => decide ((m.qs j).level = c) then m
      else { m with vtime := Tbl.set m.vtime c 0 }
    (some j, s.setMemQ n m)

/-- Serve a background queue: 1 rebuild and copy-back, 2 scrub. -/
def State.serveBackground (s : State) (n kind : Nat) : Option Nat × State :=
  let m := s.memQ n
  if kind = 1 then
    match m.rebuildQ with
    | [] => (none, s)
    | j :: rest => (some j, s.setMemQ n { m with rebuildQ := rest })
  else
    match m.scrubQ with
    | [] => (none, s)
    | j :: rest => (some j, s.setMemQ n { m with scrubQ := rest })

/-- The background queue served at a step: rebuild before scrub, by the levels of the last 10 ms window. -/
def MemberSched.background (m : MemberSched) (step : Nat) : Option Nat :=
  if !m.rebuildQ.isEmpty && decide (m.rebuildStep = step) then some 1
  else if !m.scrubQ.isEmpty && decide (m.scrubStep = step) then some 2
  else none

/-- Entries of the drive's submission queues less one per queue, and the member command limit (11 R385). -/
def State.memberLimit (s : State) (n : Nat) : Nat := min (s.ob 0x5203 1) (s.o 0x5200 n 0xB * (s.o 0x5200 n 0xC - 1))

/-- What is submitted next at a slot (07 R248, R249): 64 of the outstanding commands are reserved for Class 0. -/
def State.chooseMember (s : State) (n : Nat) : Option Nat × State :=
  let m := s.memQ n
  let out := s.outstanding n
  let others := (out.filter fun e => decide (e.2.cls ≠ 0 ∨ e.2.bg ≠ 0)).length
  let limit := s.memberLimit n
  if limit ≤ out.length then (none, s)
  else
    match m.pick 0 with
    | some k => s.serveMember n 0 k
    | none =>
      if limit ≤ others + 64 then (none, s)
      else
        match m.background 2 with
        | some b => s.serveBackground n b
        | none =>
          match m.pickFrom 1 7 with
          | some (c, k) => s.serveMember n c k
          | none =>
            match m.background 4 with
            | some b => s.serveBackground n b
            | none =>
              match m.background 5 with
              | some b => s.serveBackground n b
              | none => (none, s)

/-- The lowest identifier from `c` on that no outstanding command of the slot uses. -/
def freeCid (used : List Nat) (c : Nat) : Nat → Nat
  | 0 => c
  | n + 1 => if used.contains c then freeCid used (c + 1) n else c

/-- Whether a member command moves its data through a stream context (01 R23, 09 R311). -/
def Purpose.streams : Purpose → Bool
  | .hostRead _ _ | .recon _ _ | .flushRead _ _ _ _ | .resend _ _ => true
  | _ => false

/-- A member read that serves a host (10 R335, R338). -/
def Purpose.servesHost : Purpose → Bool
  | .hostRead _ _ | .recon _ _ | .resend _ _ => true
  | _ => false

/-- What the queue of a command counts toward in the background shares (07 R266). -/
def MemberCmd.kind (c : MemberCmd) : Nat := c.bg

/-- Note that a read has been submitted to a member (10 R345). -/
def State.noteRead (s : State) (a m : Nat) : State :=
  s.modArr a fun x =>
    let y := Tbl.get {} x.stats m
    { x with stats := Tbl.set x.stats m { y with reads := s.now :: within s.now (s.ob 0x5107 3 * sNs) y.reads } }

/-- Send member command `k` to the drive: identifier, stream context, doorbell; a write carries FUA where the drive's volatile
cache cannot be disabled (11 R381). The drive service time of a Class 0
read starts at the doorbell of the command that carries its first bytes (07 R269). -/
def State.submitMember (s : State) (n k : Nat) : State :=
  let c := s.mc k
  let used := (s.outstanding n).filterMap fun e => e.2.cid
  let cid := freeCid used 0 (used.length + 1)
  let ctx := if c.purpose.streams then Tbl.freeKey s.slot.streams 0 65536 else none
  let s := match ctx with
    | some x => { s with slot := { s.slot with streams := Tbl.set s.slot.streams x k } }
    | none => s
  let s := s.setMc k { c with cid := some cid, ctx := ctx, since := s.now }
  let m := s.memQ n
  let recent := m.served.filter fun e => decide (s.now < e.1 + 10 * msNs)
  let s := s.setMemQ n { m with served := (s.now, s.mcCost c, c.bg) :: recent }
  let s := if c.op = .read then (s.bump 0x5100 (memRow c.array c.member) 8).noteRead c.array c.member else s
  let first := match c.purpose with
    | .hostRead i off => if off = 0 then some i else none
    | .recon rid _ => (Tbl.find? s.arr.recons rid).bind fun r => if r.off = 0 ∧ r.resend.isNone then some r.cmd else none
    | _ => none
  let s := match first with
    | some i =>
      let x := s.cmd i
      if Tbl.has s.nvme.cmds i && x.svcFrom.isNone then s.setCmd i { x with svcFrom := some s.now } else s
    | none => s
  ((s.perf (200 + n) 1).emit (.memberCmd n cid (c.engine % max 1 (s.o 0x5200 n 0xB)) c.op c.off c.len ctx
    (decide (c.op ≠ .read ∧ s.o 0x5200 n 0x10 = 2)))).syncSlot n

/-- MEMBER_SUBMIT (07 R248). -/
def memberSubmit (n : Nat) (s : State) : State :=
  if s.slotReady n then
    match s.chooseMember n with
    | (some k, u) => u.submitMember n k
    | (none, _) => s
  else s

def execMemberSubmit (t slot : Nat) (s : State) : Res := act t (isSlot slot) s (memberSubmit slot)

/-! ### Commands toward the members of an array -/

/-- Members that take writes: active or filling. -/
def State.activeMembers (s : State) (a : Nat) : List Nat :=
  (s.members a).filter fun m => decide (s.memState a m = 1 ∨ s.memState a m = 4)

/-- Largest transfer to a drive (11 R386). -/
def State.maxTransfer (s : State) (n : Nat) : Nat :=
  let mdts := s.o 0x5200 n 0x13
  if mdts = 0 then 262144 else min mdts 262144

/-- Cut a transfer of `len` bytes into commands of at most `k` bytes: offset and length. -/
def cutTransfer (k : Nat) : Nat → Nat → Nat → List (Nat × Nat)
  | 0, _, _ => []
  | fuel + 1, o, len =>
    if len = 0 then [] else (o, min len (max 1 k)) :: cutTransfer k fuel (o + max 1 k) (len - max 1 k)

/-- The metadata trio: the three lowest-numbered members that are not missing (09 R305). -/
def State.trio (s : State) (a : Nat) : List Nat := (s.arrS a).trio

/-- Write the superblock, with the next generation, to every active member; its two slots alternate (09 R304, R305). -/
def State.writeSuperblock (s : State) (a : Nat) : State :=
  if s.owns a = false then s else
  let s := s.modArr a fun x => { x with sbGen := x.sbGen + 1, savedWork := x.work }
  let off := (s.arrS a).sbGen % 2 * 4096
  s.each (s.activeMembers a) fun s m =>
    (s.enqMember { slot := s.slotOf a m, array := a, member := m, op := .write, off := off, len := 4096, cls := 1
                   purpose := .regions a, data := s.draw }).drawn

/-- Write a change of the array records to the trio (09 R304, R305; log entry 26). -/
def State.writeRecords (s : State) (a : Nat) : State :=
  s.each (if s.owns a then s.trio a else []) fun s m =>
    (s.enqMember { slot := s.slotOf a m, array := a, member := m, op := .write, off := 0x100000 + s.draw % 261888 * 4096
                   len := 4096, cls := 1, purpose := .regions a, data := s.draw }).drawn

end Sys2Proof.Machine
end

