-- ==== Sys2Proof/Machine/Nvme.lean ====
section
/-! DEFINITION. The NVMe target's shared operations (06): rows, controllers, ANA states, notices, and the completion of
commands toward network hosts and near hosts. -/

namespace Sys2Proof.Machine

/-! ### Rows and controllers -/

/-- Tenant of a controller: of its host row, or of its VF's binding (07 R234). -/
def State.ctrlTenant (s : State) (c : Ctrl) : Nat :=
  match c.vf with
  | some (p, v) => s.o 0x5301 (p * 64 + v - 1) 3
  | none => s.o 0x3220 c.hostRow 4

/-- Namespaces of the module: enabled rows of 3230h. -/
def State.nsRows (s : State) : List Nat := s.rowsWith 0x3230 2 1

/-- The namespaces a controller attaches (06 R193). -/
def State.attached (s : State) (c : Ctrl) : List Nat :=
  if c.discovery then []
  else s.nsRows.filter fun n => decide (s.o 0x3230 n 3 = c.subsys ∧ s.o 0x3230 n 5 = s.ctrlTenant c)

/-- The row of an NSID in a controller's subsystem, whoever its tenant is. -/
def State.nsOf (s : State) (c : Ctrl) (nsid : Nat) : Option Nat :=
  s.nsRows.find? fun n => decide (s.o 0x3230 n 3 = c.subsys ∧ s.o 0x3230 n 4 = nsid)

/-- Live controllers. -/
def State.liveCtrls (s : State) : List (Nat × Ctrl) := s.nvme.ctrls.filter fun e => decide (e.2.state ≠ 0)

/-- Controllers that attach namespace `n`. -/
def State.ctrlsOf (s : State) (n : Nat) : List (Nat × Ctrl) :=
  s.liveCtrls.filter fun e => !e.2.discovery && decide (e.2.subsys = s.o 0x3230 n 3 ∧ s.ctrlTenant e.2 = s.nsTenant n)

/-- Controllers in use, 3200h:01: VF controllers do not count (12 R418). -/
def State.ctrlCount (s : State) : Nat := (s.liveCtrls.filter fun e => e.2.vf.isNone).length

/-! ### Completions -/

/-- Key that a command's descriptors ask to invalidate (06 R220). -/
def invalidKey : DataPtr → Option Nat
  | .keyed d => if d.invalidate then some d.key else none
  | .lastSegment _ _ ds => (ds.find? fun d => d.invalidate).map fun d => d.key
  | _ => none

/-- Drop a command's record. -/
def State.eraseCmd (s : State) (id : Nat) : State :=
  { s with nvme := { s.nvme with cmds := Tbl.erase s.nvme.cmds id } }

/-- Near port and VF. -/
def State.nport (s : State) (p : Nat) : NearPort := Tbl.get {} s.np p

def State.setNport (s : State) (p : Nat) (x : NearPort) : State := { s with np := Tbl.set s.np p x }

def State.vf (s : State) (p v : Nat) : Vf := Tbl.get {} (s.nport p).vfs v

def State.setVf (s : State) (p v : Nat) (x : Vf) : State :=
  let n := s.nport p
  s.setNport p { n with vfs := Tbl.set n.vfs v x }

/-- A VF raises a vector. -/
def State.vfInterrupt (s : State) (p v k : Nat) : State :=
  let x := s.vf p v
  let y := x.msix.raise x.bme k
  let s := s.setVf p v { x with msix := y.1 }
  match y.2 with
  | some g => s.emit (.npMsix p v k g.1 g.2)
  | none => s

/-- Violations of a near-port function (12 R433, R434): logged, once a second at most past the log limit, and a VF is disabled at
its threshold until its next FLR. -/
def State.npViolation (s : State) (p func condition detail : Nat) : State :=
  let w := s.ob 0x5304 1 * sNs
  let old := if func = 0 then (s.nport p).pf0Violations else (s.vf p func).violations
  let ts := s.now :: within s.now w old
  let n := ts.length
  let s := s.violation (decide (s.ob 0x5304 2 ≠ 0 ∧ s.ob 0x5304 2 ≤ n)) 4 (p * 256 + func) condition detail
  if func = 0 then s.setNport p { s.nport p with pf0Violations := ts }
  else
    let x := s.vf p func
    if s.ob 0x5304 3 ≠ 0 ∧ s.ob 0x5304 3 ≤ n then s.setVf p func { x with violations := ts, cfs := true, ignoring := true }
    else s.setVf p func { x with violations := ts }

/-- Write a completion entry into a VF's completion queue, and raise its vector after it (01 R38, 12 "BARs"); where the
queue has no free entry it waits. -/
def State.writeCqe (s : State) (p v cq : Nat) (e : Cqe) : State :=
  let x := s.vf p v
  match Tbl.find? x.cqs cq with
  | none => s
  | some q =>
    if (q.tail + 1) % max 1 q.size = q.head then s.setVf p v { x with waits := x.waits ++ [⟨cq, e⟩] }
    else
      let next := (q.tail + 1) % max 1 q.size
      let q2 := { q with tail := next, phase := if next = 0 then !q.phase else q.phase }
      let s := s.setVf p v { x with cqs := Tbl.set x.cqs cq q2 }
      (s.emit (.npCqe p v cq (q.base + 16 * q.tail) e)).vfInterrupt p v q.vector

/-- Complete a command: on a queue pair the response capsule follows the data already queued there (01 R31), with the
current SQHD (06 R217), as SEND with Invalidate on success where a descriptor asks for it (R220); on a VF its
completion entry. The command stays until its response is acknowledged. -/
def State.complete (s : State) (id sct sc dw0 : Nat) : State :=
  if Tbl.has s.nvme.cmds id = false ∨ (s.cmd id).stage = .sending then s
  else
    let c := s.cmd id
    match c.qp, c.vf with
    | some i, _ =>
      let q := s.qp i
      if q.state = 2 ∨ q.state = 1 then
        let key := if sct = 0 ∧ sc = 0 then invalidKey c.cap.dptr else none
        let e : Cqe := { cid := c.cap.cid, sct := sct, sc := sc, dw0 := dw0, sqhd := q.sqhd, sqid := q.qid }
        let p : TxPkt := { op := if key.isSome then .sendInvalidate else .sendOnly, bytes := 16, cmd := some id
                           invalidate := key, cqe := some e }
        let s := s.setCmd id { c with stage := .sending, pieces := [], reserved := 0, pool := 0 }
        s.postMsg i { pkts := [p], bytes := 16, cmd := some id }
      else s.eraseCmd id
    | none, some (p, v, sq) =>
      let x := s.vf p v
      let head := match Tbl.find? x.sqs sq with
        | some q => q.head
        | none => 0
      let cq := match Tbl.find? x.sqs sq with
        | some q => q.cq
        | none => 0
      let e : Cqe := { cid := c.cap.cid, sct := sct, sc := sc, dw0 := dw0, sqhd := head, sqid := sq }
      ((s.meterCompletion c sct sc).eraseCmd id).writeCqe p v cq e
    | none, none => s.eraseCmd id

/-- Complete with success. -/
def State.succeed (s : State) (id : Nat) : State := s.complete id 0 0 0

/-! ### Data to the host -/

/-- Descriptors of a keyed transfer. -/
def keyedList : DataPtr → List KeyedSgl
  | .keyed d => [d]
  | .lastSegment _ _ ds => ds
  | _ => []

/-- The parts of a transfer range that fall into each descriptor: host address, key, transfer offset, length. -/
def sglParts : List KeyedSgl → Nat → Nat → Nat → List (Nat × Nat × Nat × Nat)
  | [], _, _, _ => []
  | d :: r, base, off, len =>
    let lo := max off base
    let hi := min (off + len) (base + d.len)
    (if lo < hi then [(d.addr + (lo - base), d.key, lo, hi - lo)] else []) ++ sglParts r (base + d.len) off len

/-- RDMA WRITE packets of one message: `n` bytes of `data` to host address `va` (05 R160; only the first carries the
address). -/
def writePkts (id key mtu : Nat) (info : Option HostData) : Nat → Nat → Nat → Nat → Content → List TxPkt
  | 0, _, _, _, _ => []
  | fuel + 1, k, va, n, data =>
    let m := min n (max 1 mtu)
    let op := if n ≤ m then (if k = 0 then .writeOnly else .writeLast) else if k = 0 then .writeFirst else .writeMiddle
    let p : TxPkt := { op := op, bytes := m, cmd := some id, va := va, rkey := key, len := n
                       data := data % 256 ^ m, info := info, hasReth := decide (k = 0) }
    if n ≤ m then [p] else p :: writePkts id key mtu none fuel (k + 1) (va + m) (n - m) (data / 256 ^ m)

/-- The blocks that `n` bytes of a command's transfer from offset `o` on lie in, where the transfer has array address `addr` at offset
`off`. -/
def State.blocksOf (s : State) (id array off addr o n : Nat) : BlockSrc :=
  let c := s.cmd id
  let sz := max 1 (s.nsLba c.nsRow)
  let lo := o / sz
  { array := array, addr := addr + lo * sz - off, nsRow := c.nsRow, lba := c.cap.slba + lo, blocks := (o + n + sz - 1) / sz - lo
    skip := o % sz }

/-- Name the blocks of the packets that carry a transfer from offset `o` on. -/
def State.nameBlocks (s : State) (id array off addr : Nat) : Nat → List TxPkt → List TxPkt
  | _, [] => []
  | o, p :: r => { p with src := some (s.blocksOf id array off addr o p.bytes) } :: s.nameBlocks id array off addr (o + p.bytes) r

/-- Send `len` bytes of a command's transfer, from transfer offset `off` on, to its host. Data that did not come from HBM has the array
and address `from_` that it can be read from again (05 R173). -/
def State.sendData (s : State) (id off len : Nat) (data : Content) (info : Option HostData := none)
    (from_ : Option (Nat × Nat) := none) : State :=
  let c := s.cmd id
  match c.qp, c.vf with
  | some i, _ =>
    let mtu := (s.qp i).mtu
    s.each (sglParts (keyedList c.cap.dptr) 0 off len) fun s x =>
      let d := data / 256 ^ (x.2.2.1 - off)
      let pkts := writePkts id x.2.1 mtu info (x.2.2.2 / max 1 mtu + 1) 0 x.1 x.2.2.2 d
      let pkts := match from_ with
        | some (a, addr) => s.nameBlocks id a off addr x.2.2.1 pkts
        | none => pkts
      s.postMsg i { pkts := pkts, bytes := x.2.2.2, cmd := some id }
  | none, some (p, v, _) =>
    match info with
    | some d => s.emit (.npInfo p v c.cap.cid d)
    | none => s.emit (.npData p v c.cap.cid off len data false {})
  | none, none => s

/-- Return a structure of `len` bytes and complete with success. -/
def State.answerData (s : State) (id len : Nat) (d : HostData) : State :=
  (s.sendData id 0 len 0 (some d)).succeed id

/-! ### Asynchronous events (06 R215, R207, R212, R214; log entry 27) -/

/-- Features of a controller at their value after its creation: Asynchronous Event Configuration 0900h on an I/O
controller. -/
def Ctrl.feature (c : Ctrl) (fid : Nat) : Nat :=
  Tbl.get (if fid = 0xB ∧ c.discovery = false then 0x900 else 0) c.features fid

/-- Deliver waiting events while an Asynchronous Event Request is outstanding. -/
def State.deliverEvents (k : Nat) : Nat → State → State
  | 0, s => s
  | n + 1, s =>
    let c := s.ctrl k
    match c.events, s.nvme.cmds.find? fun e => decide (e.2.cntlid = some k ∧ e.2.stage = .aer) with
    | ev :: rest, some (id, _) =>
      let s := s.setCtrl k { c with events := rest }
      State.deliverEvents k n (s.complete id 0 0 (ev.1 + ev.2.1 * 256 + ev.2.2 * 65536))
    | _, _ => s

/-- Raise an asynchronous event on a controller; one that already waits is not raised twice. -/
def State.asyncEvent (s : State) (k typ info log : Nat) : State :=
  let c := s.ctrl k
  if c.events.contains (typ, info, log) then s
  else State.deliverEvents k 5 (s.setCtrl k { c with events := c.events ++ [(typ, info, log)] })

/-- Namespace Attribute Changed notice (06 R195) on a controller, where its configuration enables it. -/
def State.nsNotice (s : State) (k nsid : Nat) : State :=
  let c := s.ctrl k
  let s := s.setCtrl k { c with changedNs := if c.changedNs.contains nsid then c.changedNs else c.changedNs ++ [nsid] }
  if bit (c.feature 0xB) 8 then s.asyncEvent k 2 0 4 else s

/-- Namespace Attribute Changed on every controller that attaches namespace `n`. -/
def State.nsChanged (s : State) (n : Nat) : State :=
  s.each (s.ctrlsOf n) fun s e => s.nsNotice e.1 (s.o 0x3230 n 4)

/-- Discovery log change on the discovery controllers of a host row, with its generation (06 R214). -/
def State.discoveryChanged (s : State) (h : Nat) : State :=
  let s := { s with nvme := { s.nvme with genctr := Tbl.modify 0 s.nvme.genctr h (· + 1) } }
  s.each (s.liveCtrls.filter fun e => e.2.discovery && decide (e.2.hostRow = h)) fun s e =>
    if bit (e.2.feature 0xB) 31 then s.asyncEvent e.1 2 0xF0 0x70 else s

/-! ### ANA states (06 R206, R207) -/

/-- State of the ANA group of an array. -/
def State.anaState (s : State) (a : Nat) : Nat :=
  if (s.arrS a).failed then 4
  else if s.twin.twinMode then
    (if s.o 0x2410 a 4 ≠ 0 ∨ (s.arrS a).recovering = true then 0xF else if s.owns a then 1 else 3)
  else 1

/-- Bring 3238h up to date, and raise the ANA change notice where the state of a group has changed. -/
def State.syncAna (s : State) (a : Nat) : State :=
  let v := if s.arrOn a then s.anaState a else 0
  if s.ob 0x3238 (a + 1) = v then s
  else
    let s := s.put 0x3238 0 (a + 1) v
    s.each s.liveCtrls fun s e =>
      if (s.attached e.2).any (fun n => decide (s.nsArray n = a)) && bit (e.2.feature 0xB) 11 then
        s.asyncEvent e.1 2 3 0xC
      else s

/-- The status that a command to the array's namespaces gets while its group is not Optimized. -/
def anaStatus (v : Nat) : Option (Nat × Nat) :=
  if v = 1 then none
  else if v = 3 then some (3, 2)
  else if v = 0xF then some (3, 3)
  else some (3, 1)

/-! ### Keys (06 R224, R225) -/

/-- Serial number as nine digits (17 R645). -/
def serialText (n : Nat) : String := String.ofList ((toString (10 ^ 9 + n % 10 ^ 9)).toList.drop 1)

/-- A reservation of a namespace goes to the peer (06 R210; log entry 155). -/
def State.sendResv (s : State) (r : Nat) : State :=
  let x := (s.ns r).resv
  s.sendRec .settings r 0 (16 + 24 * x.regs.length) (.reservation x.regs x.holder x.rtype x.gen x.ptpl)

/-- The reservation of a namespace changes: it goes into the array records, and to the peer, whose settings result the command waits for
(06 R210; log entry 155). -/
def State.storeResv (s : State) (r : Nat) (resv : Resv) (id : Nat) : State :=
  let s := (s.setNs r { s.ns r with resv := resv }).writeRecords (s.nsArray r)
  if s.paired then (s.setNs r { s.ns r with resvSent := (s.ns r).resvSent ++ [(s.nextRec, id)] }).sendResv r else s.succeed id

/-- Own serial number as text (16 R645). -/
def State.ownSerial (s : State) : String := serialText (s.ob 0x1018 4)

/-- The tenant's KEK is present. -/
def State.kekPresent (s : State) (tenant : Nat) : Bool := decide (s.o 0x3250 tenant 3 = 1)

/-- Encrypt or decrypt `n` blocks of namespace `r` from `lba` on, one XTS data unit each (06 R224). -/
def State.cipher (s : State) (enc : Bool) (r : Nat) : Nat → Nat → Content → Content
  | _, 0, _ => 0
  | lba, n + 1, c =>
    let sz := s.nsLba r
    xtsUnit enc ((s.ns r).key.getD 0) lba sz (c % 256 ^ sz) + 256 ^ sz * s.cipher enc r (lba + 1) n (c / 256 ^ sz)

end Sys2Proof.Machine
end

