-- ==== Sys2Proof/Machine/Gather.lean ====
section
/-! DEFINITION. The write-gather cache (09): making blocks dirty, intent entries, row flushes with their methods, parity
accumulators and the stripe journal. -/

namespace Sys2Proof.Machine

/-! ### Lost blocks (10 R362 to R364) -/

/-- A run of `b` blocks at `lba` with the blocks `lo` to `hi − 1` taken out. -/
def cutLost (r : LostRun) (lo hi : Nat) : List LostRun :=
  let e := r.lba + r.count
  (if r.lba < lo then [{ r with count := min lo e - r.lba }] else []) ++
    (if hi < e then [{ r with lba := max hi r.lba, count := e - max hi r.lba }] else [])

/-- Blocks `lba` to `lba + n − 1` of a namespace leave the lost-block list of its array. -/
def State.clearLost (s : State) (r lba n : Nat) : State :=
  let a := s.nsArray r
  let l := (s.arrS a).lost
  if l.any (fun x => decide (x.nsRow = r ∧ x.lba < lba + n ∧ lba < x.lba + x.count)) then
    let l := l.flatMap fun x => if x.nsRow = r ∧ x.lba < lba + n ∧ lba < x.lba + x.count then cutLost x lba (lba + n) else [x]
    ((s.modArr a fun y => { y with lost := l }).put 0x5121 0 (a + 1) l.length).writeRecords a
  else s

/-- The namespace that holds granule `g` of an array, with the granule's number in it. -/
def State.nsAt (s : State) (a g : Nat) : Option (Nat × Nat) :=
  (s.nsRows.filter fun r => decide (s.nsArray r = a)).findSome? fun r =>
    (((s.ns r).granules.zipIdx.find? fun e => decide (e.1 = g))).map fun e => (r, e.2)

/-- Add a run to a lost-block list; a run that continues one of the same namespace is merged into it (10 R362). -/
def addLost (x : LostRun) : List LostRun → List LostRun
  | [] => [x]
  | y :: r =>
    if y.nsRow = x.nsRow ∧ x.lba ≤ y.lba + y.count ∧ y.lba ≤ x.lba + x.count then
      let lo := min x.lba y.lba
      let hi := max (x.lba + x.count) (y.lba + y.count)
      { y with lba := lo, count := hi - lo } :: r
    else y :: addLost x r

/-- The blocks in `len` bytes at a data address are lost with a cause (10 R361, R362, R365). -/
def State.loseRange (s : State) (a addr len cause : Nat) : State :=
  match s.nsAt a (addr / 65536) with
  | none => s
  | some (r, i) =>
    let sz := s.nsLba r
    let lba := (i * 65536 + addr % 65536) / sz
    let n := (len + sz - 1) / sz
    let l := addLost { nsRow := r, lba := lba, count := n, time := s.ptpNow, cause := cause } (s.arrS a).lost
    if 65536 < l.length then
      let x := s.ns r
      ((s.setNs r { x with lostFull := true }).put 0x3230 r 9 1).raise .lostListFull [r, lba, n]
    else
      let s := (s.modArr a fun y => { y with lost := l }).put 0x5121 0 (a + 1) l.length
      (s.writeRecords a).raise .blocksLost [r, lba, n]

/-- A range of blocks touches a lost block. -/
def State.touchesLost (s : State) (r lba n : Nat) : Bool :=
  (s.arrS (s.nsArray r)).lost.any fun x => decide (x.nsRow = r ∧ x.lba < lba + n ∧ lba < x.lba + x.count)

/-! ### Writing pages (09 R314) -/

/-- Put `n` sectors of ciphertext at data address `addr` into the cache, as dirty. -/
def State.putSectors (s : State) (v : PageVer) (a : Nat) : Nat → Nat → Content → State
  | _, 0, _ => s
  | addr, n + 1, data =>
    let g := s.page a (addr / 4096)
    let k := addr % 4096 / 512
    let base := match g.cur, g.snap with
      | some x, _ => x
      | none, some x => { v with data := x.data, mask := 0 }
      | none, none => { v with data := 0, mask := 0 }
    let cur := { base with
      data := patch base.data (addr % 4096) 512 data, mask := setBit base.mask k, seq := max base.seq v.seq
      nsRow := v.nsRow, keyGen := v.keyGen }
    (s.setPage a (addr / 4096) { g with cur := some cur }).putSectors v a (addr + 512) n (data / 2 ^ 4096)

/-- Make every block of a deallocated granule of namespace `r` dirty with encrypted zeros (06 R209): `i` is the granule's
number in the namespace, `g` its number in the array. -/
def State.fillGranule (s : State) (v : PageVer) (r i g : Nat) : State :=
  let a := s.nsArray r
  let n := 65536 / s.nsLba r
  let z := s.cipher true r (i * n) n 0
  let s := s.modArr a fun x => { x with used := g :: x.used, leaving := g :: x.leaving }
  s.putSectors v a (g * 65536) 128 z

/-- Granules of a namespace with their position in it. -/
def NsState.numbered (x : NsState) : List (Nat × Nat) := x.granules.zipIdx.map fun e => (e.2, e.1)

/-- Fill the deallocated granules that `n` blocks from `lba` on touch. -/
def State.fillRange (s : State) (v : PageVer) (r lba n : Nat) : State :=
  let sz := s.nsLba r
  let lo := lba * sz / 65536
  let hi := ((lba + n) * sz + 65535) / 65536
  s.each ((s.ns r).numbered.filter fun e => decide (lo ≤ e.1 ∧ e.1 < hi)) fun s e =>
    if s.granuleUsed (s.nsArray r) e.2 then s else s.fillGranule v r e.1 e.2

/-! ### Intent entries (09 R323) -/

/-- Runs of a write by row: consecutive runs of one row that touch are one (transfer offset, address, length). -/
def mergeRows (row : Nat → Nat) : List (Nat × Nat × Nat) → List (Nat × Nat × Nat)
  | [] => []
  | (o, ad, n) :: rest =>
    match mergeRows row rest with
    | (o2, ad2, n2) :: tail =>
      if ad + n = ad2 ∧ row ad = row ad2 then (o, ad, n + n2) :: tail else (o, ad, n) :: (o2, ad2, n2) :: tail
    | [] => [(o, ad, n)]

/-- The entries of a write of `n` blocks from `lba` on. -/
def State.intentFor (s : State) (r lba n : Nat) (fua zeroes : Bool) : List IntentEntry :=
  let a := s.nsArray r
  let sz := s.nsLba r
  (mergeRows (s.rowOf a) (s.runs r lba n)).zipIdx.map fun e =>
    { seq := s.arr.intentSeq + e.2, nsRow := r, array := a, fua := fua, zeroes := zeroes, keyGen := s.o 0x3230 r 0xB
      slba := lba + e.1.1 / sz, count := e.1.2.2 / sz, addr := Config.freeNat (s.free + e.2), row := s.rowOf a e.1.2.1
      time := s.ptpNow.toNat }

/-- Give the entries their sequence numbers for good. -/
def State.takeIntents (s : State) (es : List IntentEntry) : State :=
  { s with free := s.free + es.length, arr := { s.arr with intentSeq := s.arr.intentSeq + es.length } }

/-- The intent ring holds its 1,048,576 entries (09 R324). -/
def State.ringFull (s : State) (n : Nat) : Bool := decide (1048576 < s.arr.intent.length + n)

/-- The blocks of a write become dirty: granules it touches are filled, its ciphertext goes into the cache, its entries
stand in the ring (01 write-gather flow steps 6 and 7). -/
def State.makeDirty (s : State) (r lba n : Nat) (cipher : Content) (es : List IntentEntry) (tenant cls : Nat) : State :=
  let a := s.nsArray r
  let v : PageVer := { data := 0, mask := 0, since := s.now, seq := maxNat (es.map fun e => e.seq), nsRow := r
                       keyGen := s.o 0x3230 r 0xB, tenant := tenant, cls := cls }
  let s := s.fillRange v r lba n
  let s := s.each (s.runs r lba n) fun s x => s.putSectors v a x.2.1 (x.2.2 / 512) (cipher / 256 ^ x.1)
  let s := { s with arr := { s.arr with intent := s.arr.intent ++ es } }
  (s.clearLost r lba n).syncDirty

/-! ### Deallocation (06 R209) -/

/-- Drop what the cache holds of the sectors `addr` to `addr + 512 n − 1`. -/
def State.dropSectors (s : State) (a : Nat) : Nat → Nat → State
  | _, 0 => s
  | addr, n + 1 =>
    let g := s.page a (addr / 4096)
    let k := addr % 4096 / 512
    let off (v : Option PageVer) : Option PageVer := v.bind fun v =>
      let m := clearBit v.mask k
      if m = 0 then none else some { v with mask := m }
    (s.setPage a (addr / 4096) { g with cur := off g.cur }).dropSectors a (addr + 512) n

/-- Deallocate granule `g` of an array. -/
def State.dealloc (s : State) (a g : Nat) : State :=
  let s := s.dropSectors a (g * 65536) 128
  s.modArr a fun x => { x with used := x.used.filter fun y => decide (y ≠ g), leaving := x.leaving.filter fun y => decide (y ≠ g) }

/-- Consecutive runs of ascending sequence numbers: first and last. -/
def seqRanges : List Nat → List (Nat × Nat)
  | [] => []
  | x :: r =>
    match seqRanges r with
    | (b, e) :: t => if x + 1 = b then (x, e) :: t else (x, x) :: (b, e) :: t
    | [] => [(x, x)]

/-- Intent entries whose row holds no block of the cache any more retire (09 R324), and the peer is told. -/
def State.retireClean (s : State) (a : Nat) : State :=
  let clean (e : IntentEntry) : Bool :=
    decide (e.array = a) && (s.rowPages a e.row).isEmpty && !Tbl.has s.arr.flushes (rowKey a e.row)
  let gone := s.arr.intent.filter clean
  let s := { s with arr := { s.arr with intent := s.arr.intent.filter fun e => !clean e } }
  if gone.isEmpty || !s.paired then s
  else
    let rs := seqRanges (gone.map fun e => e.seq)
    s.sendRec .mirrorRelease a 0 (16 * rs.length) (.ranges rs)

/-- Blocks that a command waits for are still dirty: an intent entry stands or, where the entry names number 0 (blocks that the fill of a
granule made dirty, which have no intent entry of their own), the row holds a block of the namespace that was dirty when the
command arrived. -/
def State.needOpen (s : State) (c : Cmd) (x : Nat × Nat × Nat) : Bool :=
  if x.2.2 ≠ 0 then s.arr.intent.any fun i => decide (i.seq = x.2.2)
  else (s.rowPages x.1 x.2.1).any fun e => [e.2.cur, e.2.snap].any fun v =>
    match v with
    | some v => decide (v.nsRow = c.nsRow ∧ v.since ≤ c.arrivedAt)
    | none => false

/-- A command still waits for blocks that were dirty. -/
def State.needsOpen (s : State) (c : Cmd) : Bool := c.need.any (s.needOpen c)

/-- Writes with FUA whose blocks have stopped being dirty complete (01 R35). -/
def State.settleWrites (s : State) : State :=
  let done := s.nvme.cmds.filter fun e => decide (e.2.stage = .flushing ∧ e.2.cap.opcode ≠ 0) && !s.needsOpen e.2
  s.each done fun s e => s.succeed e.1

/-- Deallocate the whole granules inside `n` blocks from `lba` on; the blocks of those granules leave the lost-block list
(10 R364). -/
def State.deallocRange (s : State) (r lba n : Nat) : State :=
  let sz := s.nsLba r
  let lo := (lba * sz + 65535) / 65536
  let hi := (lba + n) * sz / 65536
  let gs := (s.ns r).numbered.filter fun e => decide (lo ≤ e.1 ∧ e.1 < hi)
  if gs.isEmpty then s
  else
    let s := s.each gs fun s e => s.dealloc (s.nsArray r) e.2
    (((s.clearLost r (lo * 65536 / sz) ((hi - lo) * 65536 / sz)).retireClean (s.nsArray r)).writeRecords (s.nsArray r)).syncDirty.settleWrites

/-! ### Accumulators (09 R310) -/

def State.acc (s : State) (k : Nat) : Accum := Tbl.get {} s.arr.accs k

def State.setAcc (s : State) (k : Nat) (x : Accum) : State :=
  { s with arr := { s.arr with accs := Tbl.set s.arr.accs k x } }

/-- Store in use, in bytes. -/
def Accum.inUse (x : Accum) : Nat := sumNat (x.ctxs.map Prod.snd)

/-- Free store of an 8 MiB accumulator. -/
def Accum.free (x : Accum) : Nat := 8388608 - x.inUse

/-- An accumulator is in service. -/
def State.accOk (s : State) (k : Nat) : Bool := decide (s.o 0x5030 k 5 = 0)

/-- Some accumulator is in service; without one no write is admitted (09 R313). -/
def State.anyAcc (s : State) : Bool := (List.range 4).any s.accOk

def State.syncAcc (s : State) (k : Nat) : State :=
  (s.put 0x5030 k 2 (s.acc k).ctxs.length).put 0x5030 k 3 ((s.acc k).free / 1024)

/-- The accumulator in service with the most free store, ties to the lowest number. -/
def State.pickAcc (s : State) : Option Nat :=
  ((List.range 4).filter s.accOk).foldl (init := none) fun b k =>
    match b with
    | none => some k
    | some j => if (s.acc j).free < (s.acc k).free then some k else some j

/-- Store a context takes. -/
def State.ctxBytes (s : State) (c : Nat) : Nat := Tbl.get 0 (s.acc (c / 256)).ctxs (c % 256)

/-- Open a context over `u` bytes of chunk offsets: its number, 256 per accumulator. -/
def State.openCtx (s : State) (u : Nat) : Option Nat × State :=
  let bytes := 2 * ((u + 4095) / 4096 * 4096)
  match s.pickAcc with
  | none => (none, s)
  | some k =>
    let x := s.acc k
    if x.free < bytes then (none, s)
    else
      match Tbl.freeKey x.ctxs 0 256 with
      | none => (none, s)
      | some c => (some (k * 256 + c), (s.setAcc k { x with ctxs := Tbl.set x.ctxs c bytes }).syncAcc k)

/-- Close a context. -/
def State.closeCtx (s : State) (c : Option Nat) : State :=
  match c with
  | none => s
  | some c =>
    let x := s.acc (c / 256)
    let s := { s with fab := { s.fab with failedCtx := s.fab.failedCtx.filter fun k => decide (k ≠ c) } }
    (s.setAcc (c / 256) { x with ctxs := Tbl.erase x.ctxs (c % 256) }).syncAcc (c / 256)

/-! ### Flushes: what is due (09 R315, R316, R319) -/

def State.flush? (s : State) (a r : Nat) : Option Flush := Tbl.find? s.arr.flushes (rowKey a r)

def State.setFlush (s : State) (a r : Nat) (f : Flush) : State :=
  { s with arr := { s.arr with flushes := Tbl.set s.arr.flushes (rowKey a r) f } }

/-- Dirty pages of a row that no flush has taken. -/
def State.freshPages (s : State) (a r : Nat) : List (Nat × PageVer) :=
  (s.rowPages a r).filterMap fun e => e.2.cur.map fun v => (e.1, v)

/-- The oldest of dirty pages. -/
def oldestPage (ps : List (Nat × PageVer)) : Option PageVer :=
  ps.foldl (init := none) fun b e =>
    match b with
    | none => some e.2
    | some v => if e.2.since < v.since then some e.2 else some v

/-- A row holds a block under the retransmission hold of a read (05 R173, 09 R315), or is being read for a reconstruction, whose survivors must
be of one age (01 R29). -/
def State.rowHeld (s : State) (a r : Nat) : Bool :=
  (s.arr.recons.any fun e => e.2.ctx.isSome && decide (e.2.array = a ∧ s.rowOf a e.2.addr = r)) ||
  s.nvme.cmds.any fun e =>
    let c := e.2
    c.kept && c.qp.isSome && decide (s.nsArray c.nsRow = a) &&
      (s.runs c.nsRow c.cap.slba c.cap.nlb).any fun x => decide (s.rowOf a x.2.1 = r)

/-- A command waits for a flush of the row (01 R35). -/
def State.rowNeeded (s : State) (a r : Nat) : Bool :=
  s.nvme.cmds.any fun e => decide (e.2.stage = .flushing) &&
    e.2.need.any fun x => decide (x.1 = a ∧ x.2.1 = r) && s.needOpen e.2 x

/-- Every data block of the row is dirty. -/
def State.rowFull (s : State) (a r : Nat) : Bool :=
  let ps := s.freshPages a r
  decide (ps.length = s.aD a * s.aC a / 4096) && ps.all fun e => decide (e.2.mask = 255)

/-- The oldest dirty block of the row has been dirty for the gather time. -/
def State.gatherDue (s : State) (a r : Nat) : Bool :=
  match oldestPage (s.freshPages a r) with
  | some v => dueAt s.now v.since (s.ob 0x5010 2 * 1000)
  | none => false

/-- Since when the oldest block of a row that is not being flushed is dirty. -/
def State.rowSince (s : State) (a r : Nat) : Option Nat :=
  if (s.flush? a r).isSome then none else (oldestPage (s.freshPages a r)).map fun v => v.since

/-- An array whose ownership is being transferred, or a module about to restart, flushes every dirty row. -/
def State.drains (s : State) (a : Nat) : Bool := s.pwr.flushAll || decide (s.o 0x2410 a 4 = 1)

/-- The module may flush rows of the array: it owns it, the array works, no storm warning (15) has cut flushes short. -/
def State.mayFlush (s : State) (a : Nat) : Bool :=
  s.arrOn a && s.owns a && !(s.arrS a).failed && !s.silent

/-- The row may start a flush now: none is in progress, no hold, scrub is not reading it (09 R315, R316, R329). -/
def State.flushFree (s : State) (a r : Nat) : Bool :=
  s.mayFlush a && (s.flush? a r).isNone && !s.rowHeld a r && decide ((s.arrS a).scrubRow ≠ some r) &&
    !(match (s.arrS a).zeroing with
      | some z => decide (z.1 = r)
      | none => false)

/-- Dirty data has reached the flush watermark and this row is the oldest of those that may be flushed. -/
def State.overWatermark (s : State) (a r : Nat) : Bool :=
  decide (s.watermark (s.ob 0x5010 3) ≤ s.dirtyBytes) &&
    (match s.rowSince a r with
     | some t => s.dirtyRows.all fun x =>
        match s.rowSince x.1 x.2 with
        | some u => decide (t ≤ u) || !s.flushFree x.1 x.2
        | none => true
     | none => false)

/-- Granules that overlap a row. -/
def State.rowGranules (s : State) (a r : Nat) : List Nat :=
  let w := s.aD a * s.aC a
  (List.range ((w + 65535) / 65536 + 1)).filterMap fun i =>
    let g := r * w / 65536 + i
    if g * 65536 < (r + 1) * w then some g else none

/-- Data address of sector `k` of position `p`, column `col` of a row. -/
def State.sectorAddr (s : State) (a r p col k : Nat) : Nat := dataAddr (s.aD a) (s.aC a) r p (col * 4096 + k * 512)

/-- A granule's part in a row is dirty throughout. -/
def State.partDirty (s : State) (a r g : Nat) : Bool :=
  let w := s.aD a * s.aC a
  (List.range 128).all fun i =>
    let ad := g * 65536 + i * 512
    decide (ad / w ≠ r) || ((s.page a (ad / 4096)).version? (ad % 4096 / 512)).isSome

/-- A row is fresh: at or above the zeroing watermark, and every granule that overlaps it is free or deallocated (09
R319; log entry 28). -/
def State.rowFresh (s : State) (a r : Nat) : Bool :=
  decide ((s.arrS a).watermark ≤ r) &&
    (s.rowGranules a r).all fun g => !s.granuleUsed a g || ((s.arrS a).leaving.contains g && s.partDirty a r g)

/-! ### Contents of a row during its flush -/

/-- Sectors of a page of the snapshot that are dirty. -/
def State.snapMask (s : State) (a page : Nat) : Nat :=
  match (s.page a page).snap with
  | some v => v.mask
  | none => 0

/-- Page number of position `p`, column `col` of a row. -/
def State.pageOf (s : State) (a r p col : Nat) : Nat := s.sectorAddr a r p col 0 / 4096

/-- Sectors of a data page whose content the flush knows without a read: dirty in the snapshot, or in a granule that is
deallocated (09 R317). -/
def State.knownMask (s : State) (a r p col : Nat) : Nat :=
  let pg := s.pageOf a r p col
  let free := !s.granuleUsed a (pg / 16)
  if free then 255 else s.snapMask a pg

/-- A data page of a row counts as dirty in its flush: the snapshot holds dirty sectors of it, or it lies in a deallocated granule
(09 R317). -/
def State.takenAt (s : State) (a r p col : Nat) : Bool :=
  let pg := s.pageOf a r p col
  decide (s.snapMask a pg ≠ 0) || !s.granuleUsed a (pg / 16)

/-- New content of a data page: snapshot sectors over the old content (raw zeros in a deallocated granule). -/
def State.newData (s : State) (a r p col : Nat) (old : Content) : Content :=
  let pg := s.pageOf a r p col
  let base := if s.granuleUsed a (pg / 16) then old else 0
  match (s.page a pg).snap with
  | none => base
  | some v => (List.range 8).foldl (init := base) fun c k =>
      if bit v.mask k then patch c (k * 512) 512 (slice v.data (k * 512) 512) else c

/-- Old content of a position at a column, as read, or reconstructed from what was read (10 R351). -/
def State.oldData (s : State) (a : Nat) (f : Flush) (p col : Nat) : Content :=
  (recoverData 4096 (s.aD a) (fun i => Tbl.find? f.vals (col * 32 + i)) p).getD 0

/-! ### Method (09 R317) -/

/-- Clean data to read, and old data with P and Q to read, over the sectors that the snapshot makes dirty. -/
def State.flushCosts (s : State) (a r : Nat) (cols : List Nat) : Nat × Nat :=
  let d := s.aD a
  cols.foldl (init := (0, 0)) fun acc col =>
    (List.range 8).foldl (init := acc) fun acc k =>
      let snap := (List.range d).any fun p => bit (s.snapMask a (s.pageOf a r p col)) k
      if snap then
        let n := ((List.range d).filter fun p => bit (s.knownMask a r p col) k).length
        (acc.1 + (d - n) * 512, acc.2 + (n + 2) * 512)
      else acc

/-- The method of a flush: 0 full-stripe, 1 reconstruct-write, 2 read-modify-write; a row with an unavailable chunk uses
reconstruct-write unless it is full-stripe (10 R351). -/
def State.flushMethod (s : State) (a r : Nat) (fresh : Bool) (cols : List Nat) : Nat :=
  let c := s.flushCosts a r cols
  if fresh then 0
  else if c.1 = 0 then 0
  else if !(s.unavailable a r).isEmpty then 1
  else if s.ob 0x5010 0xA = 1 then 1
  else if s.ob 0x5010 0xA = 2 then 2
  else if c.1 ≤ c.2 then 1 else 2

/-- Contiguous runs of an ascending list of columns: first and count. -/
def runsOf : List Nat → List (Nat × Nat)
  | [] => []
  | c :: r =>
    match runsOf r with
    | (d, n) :: t => if c + 1 = d then (c, n + 1) :: t else (c, 1) :: (d, n) :: t
    | [] => [(c, 1)]

/-- Columns, ascending and once each. -/
def insertNat (x : Nat) : List Nat → List Nat
  | [] => [x]
  | y :: r => if x < y then x :: y :: r else if x = y then y :: r else y :: insertNat x r

def sortNat (l : List Nat) : List Nat := l.foldr insertNat []

/-! ### Stripe journal (09 R325 to R327) -/

/-- Little-endian bytes of a number. -/
def leBytes : Nat → Nat → List Nat
  | 0, _ => []
  | n + 1, v => v % 256 :: leBytes n (v / 256)

/-- One bit of CRC-32C. -/
def crc32Bits : Nat → Nat → Nat
  | 0, c => c
  | n + 1, c => crc32Bits n (if c % 2 = 1 then (c / 2) ^^^ 0x82F63B78 else c / 2)

/-- CRC-32C of bytes. -/
def crc32c (bs : List Nat) : Nat := (bs.foldl (fun c b => crc32Bits 8 (c ^^^ b)) 0xFFFFFFFF) ^^^ 0xFFFFFFFF

/-- A journal record as written (09 Table 7). -/
def encodeRec (r : JRec) : List Nat :=
  leBytes 1 r.typ ++ leBytes 1 r.method ++ leBytes 2 (if r.degraded then 1 else 0) ++ leBytes 4 r.map ++ leBytes 8 r.row ++
    leBytes 8 r.fseq ++ leBytes 4 r.start ++ leBytes 4 r.len ++ leBytes 8 r.mark ++ leBytes 8 r.time.toNat ++
    leBytes 4 r.subGen ++ leBytes 12 0

/-- A journal block as written to one copy (09 Table 6). -/
def encodeBlock (a copy seq time ident : Nat) (rs : List JRec) : List Nat :=
  let head := [0x53, 0x52, 0x5A, 0x4A] ++ leBytes 2 1 ++ [a, copy] ++ leBytes 8 seq ++ leBytes 8 time ++
    leBytes 2 rs.length ++ leBytes 2 0 ++ (leBytes 16 ident).reverse ++ leBytes 16 0
  let body := rs.flatMap encodeRec ++ List.replicate (64 * (63 - rs.length)) 0
  head ++ leBytes 4 (crc32c (head ++ [0, 0, 0, 0] ++ body)) ++ body

/-- Bytes as a content. -/
def contentOf : List Nat → Content
  | [] => 0
  | b :: r => b % 256 + 256 * contentOf r

/-- Queue a record for the next journal block. -/
def State.jAppend (s : State) (a : Nat) (r : JRec) : State :=
  s.modArr a fun x => { x with jwait := x.jwait ++ [(s.now, r)] }

/-- Open records that the write position reaches with the block after `seq`, restated (09 R327). -/
def ArrState.carried (x : ArrState) (seq : Nat) : List JRec :=
  (x.zone.filter fun e => decide (e.1 + 262144 ≤ seq + 1)).map fun e => { e.2 with typ := 3 }

/-- The journal members that are active, with their copy numbers. -/
def State.jMembers (s : State) (a : Nat) : List (Nat × Nat) :=
  let p := (s.arrS a).pair
  [(0, p.1), (1, p.2)].filter fun e => decide (s.memState a e.2 = 1)

/-- Write a block of at most 63 records, carried ones first, to both journal members. -/
def State.writeBlock (s : State) (a : Nat) : State :=
  let x := s.arrS a
  let carried := (x.carried x.jseq).take 63
  let n := 63 - carried.length
  let recs := carried ++ (x.jwait.take n).map Prod.snd
  let copies := s.jMembers a
  let s := s.setArr a { x with
    jwait := x.jwait.drop n, jseq := x.jseq + 1, jblocks := x.jblocks ++ [⟨x.jseq, recs, copies.map Prod.fst⟩] }
  let s := ((s.bump 0x5002 a 3).put 0x5002 a 4 x.jseq).add 0x5002 a 7 carried.length
  s.each copies fun s e =>
    s.enqMember { slot := s.slotOf a e.2, array := a, member := e.2, op := .write, cls := 1, len := 4096
                  off := 0x40000000 + x.jseq % 262144 * 4096, purpose := .journal a x.jseq e.1
                  data := contentOf (encodeBlock a e.1 x.jseq s.ptpNow.toNat x.ident recs) }

/-- JOURNAL_BLOCK_WRITE (09 R327). -/
def journalBlockWrite (a : Nat) (s : State) : State :=
  let x := s.arrS a
  let due := match x.jwait with
    | [] => false
    | e :: _ => decide (63 ≤ x.jwait.length) || dueAt s.now e.1 20000
  if due && s.mayFlush a then s.writeBlock a else s

def execJournalBlockWrite (t array : Nat) (s : State) : Res := act t (isArray array) s (journalBlockWrite array)

/-! ### Running a flush (09 R311, R312, R326) -/

/-- Member commands for columns of a position of a row, cut to the drive's largest transfer; above the pressure watermark those of a host's
flush go as Class 1 (09 R318). -/
def State.rowCmds (s : State) (a r p : Nat) (cols : List Nat) (op : DriveOp) (f : Flush) (content : Nat → Content) : List MemberCmd :=
  let m := if op = .write then f.target.getD (s.holder a r p).1 else (s.holder a r p).1
  let slot := s.slotOf a m
  let pressed := decide (f.bg = 0 ∧ s.watermark (s.ob 0x5010 4) ≤ s.dirtyBytes)
  (runsOf cols).flatMap fun run =>
    (cutTransfer (s.maxTransfer slot / 4096 * 4096) (run.2 + 1) (run.1 * 4096) (run.2 * 4096)).map fun c =>
      { slot := slot, array := a, member := m, op := op, off := rowBase (s.aC a) r + c.1, len := c.2
        tenant := f.tenant, cls := if pressed then 1 else f.cls, bg := f.bg
        purpose := if op = .read then .flushRead a r p (c.1 / 4096) else .flushWrite a r
        data := if op = .read then 0
          else (List.range (c.2 / 4096)).foldl (fun v i => v + content (c.1 / 4096 + i) * 256 ^ (4096 * i)) 0 }

/-- Submit the reads of a flush. -/
def State.addReads (s : State) (a r : Nat) (cs : List MemberCmd) : State :=
  s.each cs fun s c =>
    match s.flush? a r with
    | some f => (s.setFlush a r { f with reads := f.reads ++ [s.nextMc] }).enqMember c
    | none => s

/-- Submit writes of a flush. -/
def State.addWrites (s : State) (a r : Nat) (cs : List MemberCmd) : State :=
  s.each cs fun s c =>
    match s.flush? a r with
    | some f => (s.setFlush a r { f with writes := f.writes ++ [s.nextMc] }).enqMember c
    | none => s

/-- Columns of a position that the flush writes as data: those with a dirty sector, all in a full-stripe write. -/
def State.dataCols (s : State) (a r p : Nat) (f : Flush) : List Nat :=
  f.cols.filter fun col => decide (f.method = 0) || s.takenAt a r p col

/-- The data writes of a flush whose open record is durable and whose reads are in. -/
def State.issueData (s : State) (a r : Nat) (f : Flush) : State :=
  let d := s.aD a
  if f.method = 4 then
    s.each (f.repairs.filter fun x => s.available a r x.1) fun s x =>
      let m := (s.holder a r x.1).1
      s.addWrites a r [{ slot := s.slotOf a m, array := a, member := m, op := .write, off := rowBase (s.aC a) r + x.2.1
                         len := x.2.2.1, tenant := f.tenant, cls := f.cls, bg := f.bg, purpose := .flushWrite a r
                         data := x.2.2.2 }]
  else if f.method = 3 then
    s.each f.restores fun s p =>
      s.addWrites a r (s.rowCmds a r p f.cols .write f fun col => Tbl.get 0 f.fixed (col * 32 + p))
  else
    s.each (List.range d) fun s p =>
      if s.available a r p then
        s.addWrites a r (s.rowCmds a r p (s.dataCols a r p f) .write f fun col => s.newData a r p col (s.oldData a f p col))
      else s

/-- New P and Q of a column. -/
def State.newParity (s : State) (a r col : Nat) (f : Flush) : Content × Content :=
  let d := s.aD a
  if f.method = 2 then
    let dirty := (List.range d).filter fun p => s.takenAt a r p col
    let delta := dirty.map fun p => (p, s.oldData a f p col ^^^ s.newData a r p col (s.oldData a f p col))
    let p0 := Tbl.get 0 f.vals (col * 32 + d)
    let q0 := Tbl.get 0 f.vals (col * 32 + d + 1)
    (delta.foldl (fun v e => v ^^^ e.2) p0, delta.foldl (fun v e => v ^^^ scale 4096 (gfPow e.1) e.2) q0)
  else
    let ds := (List.range d).map fun p => s.newData a r p col (s.oldData a f p col)
    (parityP ds, parityQ 4096 0 ds)

/-- The P and Q writes of a flush. -/
def State.issueParity (s : State) (a r : Nat) (f : Flush) : State :=
  let d := s.aD a
  s.each [d, d + 1] fun s p =>
    if s.available a r p then
      s.addWrites a r (s.rowCmds a r p f.cols .write f fun col =>
        if p = d then (s.newParity a r col f).1 else (s.newParity a r col f).2)
    else s

/-- The closing record of a flush whose member writes have all completed. -/
def State.tryClose (s : State) (a r : Nat) : State :=
  match s.flush? a r with
  | some f =>
    if f.stage = .writing ∧ f.pqDone = true ∧ f.writes = [] then
      let x : JRec := { typ := 2, method := f.method, degraded := f.degraded, map := f.map, row := r, fseq := f.fseq
                        start := f.start, len := f.len, mark := f.mark, time := s.ptpNow, subGen := (s.arrS a).subGen }
      ((s.closeCtx f.ctx).setFlush a r { f with stage := .closing, ctx := none }).jAppend a x
    else s
  | none => s

/-- Contents that a rebuild restores, once its reads are in. -/
def State.rebuildContents (s : State) (a : Nat) (f : Flush) : Tbl Content :=
  let d := s.aD a
  f.restores.foldl (init := []) fun t p =>
    f.cols.foldl (init := t) fun t col =>
      let ds := (List.range d).map fun i => s.oldData a f i col
      let v := match Tbl.find? f.vals (col * 32 + p) with
        | some c => c
        | none => if p < d then ds.getD p 0 else if p = d then parityP ds else parityQ 4096 0 ds
      Tbl.set t (col * 32 + p) v

/-- Data columns that a rebuild cannot recover: position and column. -/
def State.unrecoverable (s : State) (a : Nat) (f : Flush) : List (Nat × Nat × Nat) :=
  let d := s.aD a
  (f.restores.filter fun p => decide (p < d)).flatMap fun p =>
    (f.cols.filter fun col => (recoverData 4096 d (fun i => Tbl.find? f.vals (col * 32 + i)) p).isNone).map fun col =>
      (p, col * 4096, 4096)

/-- The ranges whose old contents a reconstruct-write needs for parity and that can be neither read nor reconstructed: the clean sectors
of data chunks that are unavailable at a column with more than two of them so (10 R361). -/
def State.lostClean (s : State) (a r : Nat) (f : Flush) : List (Nat × Nat × Nat) :=
  let d := s.aD a
  (List.range d).flatMap fun p =>
    f.cols.flatMap fun col =>
      if (recoverData 4096 d (fun i => Tbl.find? f.vals (col * 32 + i)) p).isSome then []
      else
        (runsOf ((List.range 8).filter fun k => !bit (s.knownMask a r p col) k)).map fun x =>
          (p, col * 4096 + x.1 * 512, x.2 * 512)

/-- A flush whose open record is durable and whose reads are in goes on to its writes; what a rebuild cannot recover is
lost and restored as zeros (10 R361). -/
def State.advanceFlush (s : State) (a r : Nat) : State :=
  match s.flush? a r with
  | some f =>
    if f.stage = .opening ∧ f.openDone = true ∧ f.reads = [] then
      let f := { f with stage := .writing, pqDone := decide (3 ≤ f.method)
                        fixed := if f.method = 3 then s.rebuildContents a f else f.fixed }
      let lost := if f.method = 3 then s.unrecoverable a f else if f.method = 1 then s.lostClean a r f else []
      let s := s.each lost fun s x => s.loseRange a (dataAddr (s.aD a) (s.aC a) r x.1 x.2.1) x.2.2 1
      ((s.setFlush a r f).issueData a r f).tryClose a r
    else s
  | none => s

/-- Positions a flush reads at a column: for reconstruct-write the data not known, and everything available where a data
chunk it needs is unavailable; for read-modify-write the dirty data with P and Q. -/
def State.readCols (s : State) (a r p : Nat) (f : Flush) : List Nat :=
  let d := s.aD a
  f.cols.filter fun col =>
    let here := s.available a r p && !f.bad.contains p
    if f.method = 3 then here && (f.target.isNone || f.restores.contains p || !f.bad.isEmpty)
    else if f.method = 1 then
      let lacking := (List.range d).any fun i =>
        decide (s.knownMask a r i col ≠ 255) && (!s.available a r i || f.bad.contains i)
      here && (lacking || decide (p < d ∧ s.knownMask a r p col ≠ 255))
    else if f.method = 2 then
      decide (d ≤ p) || s.takenAt a r p col
    else false

/-- Submit what a flush reads from the members, and count it (5011h:06). -/
def State.issueReads (s : State) (a r : Nat) (f : Flush) : State :=
  s.each (List.range (s.aD a + 2)) fun s p =>
    let cols := s.readCols a r p f
    (s.addReads a r (s.rowCmds a r p cols .read f fun _ => 0)).add 0x5011 a 6 (if f.method ≤ 2 then 4096 * cols.length else 0)

/-- Members a flush writes, as a map of member numbers. -/
def State.flushMap (s : State) (a r : Nat) (ps : List Nat) : Nat :=
  ps.foldl (init := 0) fun m p => setBit m (s.holder a r p).1

/-- Start a flush that has its context: its open record is queued and its reads are submitted. -/
def State.openFlush (s : State) (a r : Nat) (f : Flush) : State :=
  let x : JRec := { typ := 1, method := f.method, degraded := f.degraded, map := f.map, row := r, fseq := f.fseq
                    start := f.start, len := f.len, mark := f.mark, time := s.ptpNow, subGen := (s.arrS a).subGen }
  let s := s.setFlush a r f
  let s := s.modArr a fun y => { y with fseq := y.fseq + 1 }
  ((s.jAppend a x).issueReads a r f).syncDirty

/-- Take the snapshot of a row (09 R316). -/
def State.snapshot (s : State) (a : Nat) (ps : List (Nat × PageVer)) : State :=
  s.each ps fun s e =>
    let g := s.page a e.1
    s.setPage a e.1 { cur := none, snap := g.cur }

/-- The 4 KiB columns of a row that its flush covers: all of a fresh row, else those of its dirty pages (09 R318). -/
def State.flushCols (s : State) (a r : Nat) : List Nat :=
  if s.rowFresh a r then List.range (s.aC a / 4096)
  else sortNat ((s.freshPages a r).map fun e => (place (s.aD a) (s.aC a) (e.1 * 4096)).2.2 / 4096)

/-- Start the flush of a row that is free to start (09 R315 to R318); recovery forces its method (10 R368). -/
def State.beginFlush (s : State) (a r : Nat) (forced : Option Nat := none) : State :=
  let ps := s.freshPages a r
  match oldestPage ps with
  | none => s
  | some old =>
    let d := s.aD a
    let fresh := s.rowFresh a r
    let cols := s.flushCols a r
    match s.openCtx (cols.length * 4096) with
    | (none, _) => s
    | (some k, u) =>
      let u := u.snapshot a ps
      let method := forced.getD (u.flushMethod a r fresh cols)
      let un := u.unavailable a r
      let lo := cols.headD 0
      let hi := cols.getLastD 0
      let dataPs := (List.range d).filter fun p => decide (method = 0) ||
        cols.any fun col => decide (u.snapMask a (u.pageOf a r p col) ≠ 0)
      let written := (dataPs ++ [d, d + 1]).filter fun p => u.available a r p
      let pressed := decide (u.watermark (u.ob 0x5010 4) ≤ u.dirtyBytes)
      let f : Flush := { fseq := (u.arrS a).fseq, method := method, pages := ps.map Prod.fst, start := lo * 4096
                         len := (hi + 1 - lo) * 4096, stage := .opening, ctx := some k, map := u.flushMap a r written
                         degraded := !un.isEmpty, mark := maxNat (ps.map fun e => e.2.seq), tenant := old.tenant
                         cls := if pressed ∨ old.cls = 0 then 1 else old.cls, cols := cols }
      let u := u.bump 0x5011 a (2 + method)
      let u := u.add 0x5011 a 5 (sumNat (ps.map fun e => 512 * bitCount e.2.mask 8))
      u.openFlush a r f

/-- FLUSH_START (09 R315). -/
def flushStart (a r : Nat) (s : State) : State :=
  if s.flushFree a r && (s.rowFull a r || s.gatherDue a r || s.overWatermark a r || s.rowNeeded a r || s.drains a) then
    s.beginFlush a r
  else s

def execFlushStart (t array row : Nat) (s : State) : Res := act t (isArray array) s (flushStart array row)

/-- GATHER_TIME_EXPIRY (09 R315). -/
def gatherTimeExpiry (a r : Nat) (s : State) : State :=
  if s.flushFree a r && s.gatherDue a r then s.beginFlush a r else s

def execGatherTimeExpiry (t array row : Nat) (s : State) : Res := act t (isArray array) s (gatherTimeExpiry array row)

/-! ### The end of a flush (09 R321, R324, 01 R28, R37) -/

/-- Granules of a row none of whose blocks is dirty any more leave the deallocated state in the bitmap (06 R209). -/
def State.settleGranules (s : State) (a r : Nat) : State :=
  let done := (s.rowGranules a r).filter fun g => (s.arrS a).leaving.contains g &&
    (List.range 16).all fun i => decide ((s.page a (g * 16 + i)).mask = 0)
  if done.isEmpty then s
  else (s.modArr a fun x => { x with leaving := x.leaving.filter fun g => !done.contains g }).writeRecords a

/-- Intent entries of a row up to a mark retire; in twin mode the peer is told to release their pages (14 R483). -/
def State.retireIntents (s : State) (a r mark : Nat) : State :=
  let gone := s.arr.intent.filter fun e => decide (e.array = a ∧ e.row = r ∧ e.seq ≤ mark)
  let s := { s with arr := { s.arr with intent := s.arr.intent.filter fun e => !decide (e.array = a ∧ e.row = r ∧ e.seq ≤ mark) } }
  if gone.isEmpty || !s.paired then s
  else
    let rs := seqRanges (gone.map fun e => e.seq)
    s.sendRec .mirrorRelease a 0 (16 * rs.length) (.ranges rs)

/-- The blocks of a flush stop being dirty. -/
def State.endFlush (s : State) (a r : Nat) (f : Flush) : State :=
  let s := s.each f.pages fun s p =>
    let g := s.page a p
    s.setPage a p { g with snap := none }
  let s := { s with arr := { s.arr with flushes := Tbl.erase s.arr.flushes (rowKey a r) } }
  ((s.retireIntents a r f.mark).settleGranules a r).syncDirty

/-- The closing record of the row's flush is durable: a host flush ends; a rebuilt row waits for REBUILD_ROW. -/
def State.closeDurable (s : State) (a r : Nat) : State :=
  match s.flush? a r with
  | some f =>
    if f.method = 3 then s.setFlush a r { f with stage := .closed }
    else s.endFlush a r f
  | none => s

/-- One record of a durable block takes effect. -/
def State.recDurable (s : State) (a seq : Nat) (x : JRec) : State :=
  if x.typ = 2 then
    let s := s.modArr a fun y => { y with zone := y.zone.filter fun e => decide (e.2.fseq ≠ x.fseq) }
    let s := s.put 0x5002 a 5 (s.arrS a).zone.length
    match s.flush? a x.row with
    | some f => if f.fseq = x.fseq ∧ f.stage = .closing then s.closeDurable a x.row else s
    | none => s
  else
    let s := s.modArr a fun y => { y with zone := (y.zone.filter fun e => decide (e.2.fseq ≠ x.fseq)) ++ [(seq, x)] }
    let s := s.put 0x5002 a 5 (s.arrS a).zone.length
    match s.flush? a x.row with
    | some f => if f.fseq = x.fseq ∧ x.typ = 1 then (s.setFlush a x.row { f with openDone := true }).advanceFlush a x.row else s
    | none => s

/-! ### Accumulations (09 R312, R313) -/

/-- The flush that uses a context. -/
def State.flushOfCtx (s : State) (c : Nat) : Option (Nat × Nat × Flush) :=
  (s.arr.flushes.find? fun e => decide (e.2.ctx = some c)).map fun e => (e.1 / 2 ^ 40, e.1 % 2 ^ 40, e.2)

/-- Every byte of a flush's data writes has been read by its drive. -/
def State.dataRead (s : State) (f : Flush) : Bool := f.writes.all fun k => decide ((s.mc k).len ≤ (s.mc k).got)

/-- Drop member commands from their queues and tables. -/
def State.dropMcs (s : State) (ks : List Nat) : State := s.each ks State.dropMc

/-- Repeat a flush with a new context, keeping its open record; without one it waits (09 R310, R313). -/
def State.repeatFlush (s : State) (a r : Nat) : State :=
  match s.flush? a r with
  | none => s
  | some f =>
    let s := (s.dropMcs (f.reads ++ f.writes)).closeCtx f.ctx
    let f := { f with reads := [], writes := [], vals := [], pqDone := false }
    match s.openCtx (f.cols.length * 4096) with
    | (some k, u) =>
      let f := { f with stage := .opening, ctx := some k }
      ((u.setFlush a r f).issueReads a r f).advanceFlush a r
    | (none, _) => s.setFlush a r { f with stage := .waitCtx, ctx := none }

/-- Flushes that wait for a context try again. -/
def State.resumeFlushes (s : State) : State :=
  s.each (s.arr.flushes.filter fun e => decide (e.2.stage = .waitCtx)) fun s e =>
    s.repeatFlush (e.1 / 2 ^ 40) (e.1 % 2 ^ 40)

/-- An accumulation is complete (09 R312): new P and Q are in staging and their member writes are submitted. -/
def State.foldedIn (c : Nat) (s : State) : State :=
  match s.flushOfCtx c with
  | some (a, r, f) =>
    if f.stage = .writing ∧ f.pqDone = false ∧ s.dataRead f = true then
      let n := s.ctxBytes c
      let s := ((s.closeCtx (some c)).setFlush a r { f with pqDone := true, ctx := none }).perf (408 + c / 256) n
      (s.issueParity a r f).tryClose a r
    else s
  | none => s

/-- A failure on accumulator `k`: the third within 1 s takes it out of service. -/
def State.accFailure (s : State) (k : Nat) : State :=
  let x := s.acc k
  let ts := s.now :: within s.now sNs x.fails
  let s := (s.setAcc k { x with fails := ts }).bump 0x5030 k 4
  if 3 ≤ ts.length ∧ s.accOk k = true then
    let s := (s.put 0x5030 k 5 1).raise .accumulatorFaulty [k]
    if s.anyAcc then s else s.raise .accumulatorsFailed
  else s

/-- Both copies of a journal block are written (09 R325, R326). -/
def State.blockDurable (a seq : Nat) (s : State) : State :=
  match (s.arrS a).jblocks.find? fun b => decide (b.seq = seq) with
  | some b =>
    if b.copies.isEmpty then
      let s := s.modArr a fun x => { x with jblocks := x.jblocks.filter fun y => decide (y.seq ≠ seq) }
      s.each b.recs fun s x => s.recDurable a seq x
    else s
  | none => s

end Sys2Proof.Machine
end

