-- ==== Sys2Proof/Machine/QpDown.lean ====
section
/-! DEFINITION. The end of queue pairs and controllers (05 R182 to R185, 06 R204, R205): what becomes of their commands, the
error log, violations by hosts (05 R188, 06 R230). -/

namespace Sys2Proof.Machine

/-! ### Reads that end early (05 R182) -/

/-- Commands of a queue pair. -/
def State.qpCmds (s : State) (i : Nat) : List (Nat × Cmd) := s.nvme.cmds.filter fun e => decide (e.2.qp = some i)

/-- A member command serves a command of the target, directly or through a reconstruction. -/
def State.serves (s : State) (c : MemberCmd) (id : Nat) : Bool :=
  match c.purpose with
  | .hostRead x _ => decide (x = id)
  | .recon rid _ =>
    match Tbl.find? s.arr.recons rid with
    | some r => decide (r.cmd = id)
    | none => false
  | _ => false

/-- Close the stream context of a member command: the drive still owes its completion entry (01 R23, 11 R395). -/
def State.closeStream (s : State) (k : Nat) : State :=
  let c := s.mc k
  if c.cid.isNone then s.dropMc k
  else
    let s := match c.ctx with
      | some x => { s with slot := { s.slot with streams := Tbl.erase s.slot.streams x } }
      | none => s
    s.setMc k { c with ctx := none, dead := true }

/-- End the member reads and reconstructions of a command. -/
def State.stopReads (s : State) (id : Nat) : State :=
  let ks := (s.slot.cmds.filter fun e => s.serves e.2 id).map Prod.fst
  let s := s.each ks State.closeStream
  let rs := s.arr.recons.filter fun e => decide (e.2.cmd = id)
  let s := s.each rs fun s e => s.closeCtx e.2.ctx
  { s with arr := { s.arr with recons := s.arr.recons.filter fun e => !decide (e.2.cmd = id) } }

/-- A write whose data is in the gather cache for good: its blocks are dirty already. -/
def Cmd.keptWrite (c : Cmd) : Bool :=
  decide (c.cap.opcode = 1 ∨ c.cap.opcode = 8) && decide (c.stage = .flushing ∨ c.stage = .sending)

/-- A write that is discarded. -/
def Cmd.lostWrite (c : Cmd) : Bool := decide (c.cap.opcode = 1 ∨ c.cap.opcode = 8) && !c.keptWrite

/-- A barrier or an erase that a command waits for goes on without it. -/
def State.endCmd (s : State) (id : Nat) : State := (s.stopReads id).eraseCmd id

/-- End the reads that fetch data of a queue pair again for a retransmission. -/
def State.stopResends (s : State) (i : Nat) : State :=
  let mine (r : Recon) : Bool := match r.resend with
    | some (j, _) => decide (j = i)
    | none => false
  let ks := (s.slot.cmds.filter fun e => match e.2.purpose with
    | .resend j _ => decide (j = i)
    | .recon rid _ => (Tbl.find? s.arr.recons rid).any mine
    | _ => false).map Prod.fst
  let s := s.each ks State.closeStream
  let s := s.each (s.arr.recons.filter fun e => mine e.2) fun s e => s.closeCtx e.2.ctx
  { s with arr := { s.arr with recons := s.arr.recons.filter fun e => !mine e.2 } }

/-- Frames of a queue pair that wait to be transmitted, other than a NAK that the module answers with, are never sent (05 R182). -/
def State.dropFrames (s : State) (i : Nat) : State :=
  let gone (f : EgFrame) : Bool := match f.msg with
    | .roce j p => decide (j = i) && !(decide (p.op = .acknowledge) && decide (0x60 ≤ p.syndrome))
    | _ => false
  let e := s.eg (s.qp i).port
  s.setEg (s.qp i).port { e with queues := e.queues.map fun x => (x.1, x.2.filter fun f => !gone f) }

/-- Capsules of a queue pair that no engine has taken yet. -/
def State.qpInputs (s : State) (i : Nat) : List Capsule :=
  (s.nvme.inputs.flatMap fun e => e.2.filter fun x => decide (x.qp = some i)).map EngineInput.cap

/-- Treat every command of a queue pair as R182 does. -/
def State.endQpCmds (s : State) (i : Nat) : State :=
  let s := (s.each ((s.qpCmds i).map Prod.fst) State.endCmd).stopResends i
  { s with nvme := { s.nvme with
      inputs := s.nvme.inputs.map fun e => (e.1, e.2.filter fun x => decide (x.qp ≠ some i)) } }

/-! ### The error state (05 R182, R183) -/

/-- Length of a CM MAD on the line (log entry 20). -/
def cmLen : Nat := 346

/-- The events of Table 3 for an error reason. -/
def State.qpErrorEvents (s : State) (q : Qp) (wire reason : Nat) (psn : Psn) (syndrome affected : Nat) : State :=
  let base := [wire, q.tenant, q.remoteIp, q.port]
  let s := if reason = 8 then s else s.raise .qpError (base ++ [reason, psn.toNat, syndrome])
  let s := if reason = 1 ∨ reason = 2 then s.raise .retryExhausted (base ++ [q.oldestPsn.toNat]) else s
  if reason = 3 then s.raise .remoteAccessNak (base ++ [affected]) else s

/-- Put queue pair `i` into the error state with a reason of Table 4; `host` marks a DREQ of the host, which is answered
by DREP instead of being sent one. A parking or a refetch goes on, and packets held meanwhile meet the error state (R166, R189). -/
def State.qpFail (s : State) (i reason : Nat) (psn : Psn) (syndrome : Nat) (host : Bool) : State :=
  let q := s.qp i
  if q.state = 1 ∨ q.state = 2 then
    let cs := s.qpCmds i
    let ins := s.qpInputs i
    let kept := (cs.filter fun e => e.2.keptWrite).length
    let lost := (cs.filter fun e => e.2.lostWrite).length +
      (ins.filter fun c => decide (q.privQid ≠ 0 ∧ (c.opcode = 1 ∨ c.opcode = 8))).length
    let cids := cs.map (fun x => x.2.cap.cid) ++ ins.map Capsule.cid
    let wire := wireQpn i q
    let e : QpErr := { time := s.ptpNow, qpn := wire, tenant := q.tenant, ip := q.remoteIp, reason := reason
                       syndrome := syndrome, psn := psn.toNat, affected := cids.length
                       cids := cids.take 8, kept := kept, discarded := lost }
    let s := (s.endQpCmds i).dropFrames i
    let s := { s with rdma := { s.rdma with errLog := (e :: s.rdma.errLog).take 256 } }
    let done : Qp := { q with
      state := if host then 4 else 3, sendQ := [], sent := [], reads := [], resend := [], ackTimer := none, rnrUntil := none
      ackSince := none, openBytes := none, openCapsule := none, floorSince := none
      dreqAt := if host then none else some s.now
      freeAt := if host then some (s.now + 4 * s.ackTimeout) else none }
    let s := (s.setQp i done).qpErrorEvents q wire reason psn syndrome cids.length
    s.enqueueCtl q.port cmLen (if host then .cmDrep q.remoteIp q.remoteQpn else .cmDreq q.remoteIp q.remoteQpn)
  else s

/-! ### Controllers (06 R203 to R205) -/

/-- The host identifier shown for a host row is that of its first live controller (06 Table 11). -/
def State.syncHost (s : State) (h : Nat) : State :=
  let hid := match s.liveCtrls.find? fun e => e.2.vf.isNone && decide (e.2.hostRow = h) with
    | some e => e.2.hostid
    | none => 0
  (s.setVal 0x3220 h 5 (.oct 16 hid)).put 0x3200 0 1 s.ctrlCount

/-- Delete a fabric controller: its queue pairs are ended by DREQ under reason 8, its ID rests for 10 s. -/
def State.deleteCtrl (s : State) (k : Nat) : State :=
  let c := s.ctrl k
  if c.state = 0 ∨ c.vf.isSome = true then s
  else
    let qs := c.adminQp.toList ++ c.ioQps.map Prod.snd
    let s := { s with nvme := { s.nvme with
      ctrls := Tbl.erase s.nvme.ctrls k, gone := (k, s.now) :: s.nvme.gone.filter fun e => decide (s.now < e.2 + 10 * sNs) } }
    (s.each qs fun s j => s.qpFail j 8 0 0 false).syncHost c.hostRow

/-- Delete a controller, but not before a Format NVM of its own has ended (06 R231). -/
def State.dismissCtrl (s : State) (k : Nat) : State :=
  if s.nvme.cmds.any fun e => decide (e.2.cntlid = some k ∧ e.2.stage = .erasing) then
    s.setCtrl k { s.ctrl k with doomed := true }
  else s.deleteCtrl k

/-- What the loss of a queue pair does to its controller (06 R204, R205). -/
def State.qpGone (s : State) (i : Nat) : State :=
  match (s.qp i).cntlid with
  | some k =>
    let c := s.ctrl k
    if c.state = 0 then s
    else if c.adminQp = some i then s.deleteCtrl k
    else s.setCtrl k { c with ioQps := c.ioQps.filter fun e => decide (e.2 ≠ i) }
  | none => s

/-- The error state, with what it does to the controller. -/
def State.qpDown (s : State) (i reason : Nat) (psn : Psn) (syndrome : Nat) : State :=
  if (s.qp i).state = 1 ∨ (s.qp i).state = 2 then (s.qpFail i reason psn syndrome false).qpGone i else s

/-! ### Violations by hosts (05 R188, 06 R230) -/

/-- Queue pairs of an address. -/
def State.qpsOfIp (s : State) (ip : Ip) : List Nat :=
  (s.rdma.qps.filter fun e => decide ((e.2.state = 1 ∨ e.2.state = 2) ∧ e.2.remoteIp = ip)).map Prod.fst

def State.offender (s : State) (ip : Ip) : Offender := Tbl.get {} s.rdma.offenders ip

def State.setOffender (s : State) (ip : Ip) (o : Offender) : State :=
  { s with rdma := { s.rdma with offenders := Tbl.set s.rdma.offenders ip o } }

/-- Offenders limited now. -/
def limitedNow (t : Tbl Offender) : Nat := (t.filter fun e => e.2.until_.isSome).length

/-- A violation of a remote IP address: logged, counted, and limited or disconnected at the thresholds of 3180h; a threshold that was
lowered below the count acts at the next violation. `tenant` and `port` are those of its events (05 R185). -/
def State.ipViolation (s : State) (ip : Ip) (wire tenant port condition : Nat) : State :=
  let o := s.offender ip
  let s := s.violation o.until_.isSome 1 ip condition wire
  let ts := s.now :: within s.now (s.ob 0x3180 1 * sNs) o.times
  let n := ts.length
  let limit := decide (s.ob 0x3180 2 ≠ 0 ∧ s.ob 0x3180 2 ≤ n) && o.until_.isNone
  let cut := decide (s.ob 0x3180 4 ≠ 0 ∧ s.ob 0x3180 4 ≤ n) && (decide (n = s.ob 0x3180 4) || !(s.qpsOfIp ip).isEmpty)
  let s := s.setOffender ip { times := ts, until_ := if limit then some (s.now + s.ob 0x3180 3 * sNs) else o.until_ }
  let s := s.put 0x3180 0 5 (limitedNow s.rdma.offenders)
  let s := if limit then s.raise .offenderLimited [wire, tenant, ip, port, n] else s
  if cut then (s.each (s.qpsOfIp ip) fun s i => s.qpDown i 9 0 0).raise .offenderDisconnected [wire, tenant, ip, port, n] else s

/-- OFFENDER_LIMIT_EXPIRY (05 R188). -/
def offenderLimitExpiry (ip : Ip) (s : State) : State :=
  let o := s.offender ip
  match o.until_ with
  | some u =>
    if u ≤ s.now then
      let s := s.setOffender ip { o with until_ := none }
      s.put 0x3180 0 5 (limitedNow s.rdma.offenders)
    else s
  | none => s

def execOffenderLimitExpiry (t : Nat) (ip : Ip) (s : State) : Res := act t true s (offenderLimitExpiry ip)

def State.hostOffender (s : State) (h : Nat) : Offender := Tbl.get {} s.nvme.offenders h

def State.setHostOffender (s : State) (h : Nat) (o : Offender) : State :=
  { s with nvme := { s.nvme with offenders := Tbl.set s.nvme.offenders h o } }

/-- A violation of a host NQN after a successful Connect, on a queue pair of a remote address (06 R229, R230). -/
def State.hostViolation (s : State) (h wire : Nat) (ip : Ip) (condition : Nat) : State :=
  let o := s.hostOffender h
  let s := s.violation o.until_.isSome 2 h condition wire ip
  let ts := s.now :: within s.now (s.ob 0x3280 1 * sNs) o.times
  let n := ts.length
  let limit := decide (s.ob 0x3280 2 ≠ 0 ∧ s.ob 0x3280 2 ≤ n) && o.until_.isNone
  let live := s.liveCtrls.any fun e => e.2.vf.isNone && decide (e.2.hostRow = h)
  let cut := decide (s.ob 0x3280 4 ≠ 0 ∧ s.ob 0x3280 4 ≤ n) && (decide (n = s.ob 0x3280 4) || live)
  let s := s.setHostOffender h { times := ts, until_ := if limit then some (s.now + s.ob 0x3280 3 * sNs) else o.until_ }
  let s := s.put 0x3280 0 5 (limitedNow s.nvme.offenders)
  let s := if limit then s.raise .hostOffenderLimited [h, n] else s
  if cut then
    let ks := (s.liveCtrls.filter fun e => e.2.vf.isNone && decide (e.2.hostRow = h)).map Prod.fst
    (s.each ks State.dismissCtrl).raise .hostOffenderDisconnected [h, n]
  else s

/-- HOST_LIMIT_EXPIRY (06 R230). -/
def hostLimitExpiry (h : Nat) (s : State) : State :=
  let o := s.hostOffender h
  match o.until_ with
  | some u =>
    if u ≤ s.now then
      let s := s.setHostOffender h { o with until_ := none }
      s.put 0x3280 0 5 (limitedNow s.nvme.offenders)
    else s
  | none => s

def execHostLimitExpiry (t hostRow : Nat) (s : State) : Res := act t (isHostRow hostRow) s (hostLimitExpiry hostRow)

/-! ### Keep Alive (06 R204) -/

/-- KATO rounded up to a multiple of 100 ms, in ms. -/
def roundKato (k : Nat) : Nat := (k + 99) / 100 * 100

/-- KEEP_ALIVE_EXPIRY: the controller's timer has run out. -/
def keepAliveExpiry (k : Nat) (s : State) : State :=
  let c := s.ctrl k
  if c.state ≠ 0 ∧ c.vf.isNone = true ∧ c.kato ≠ 0 ∧ dueAt s.now c.lastKeepAlive (c.kato * msNs) = true then s.deleteCtrl k
  else s

def execKeepAliveExpiry (t cntlid : Nat) (s : State) : Res :=
  act t (decide (cntlid < 65536)) s (keepAliveExpiry cntlid)

/-! ### Freeing an index (05 R183) -/

/-- Free an index: its generation is kept, and its pins end with it (05 R154, R191). -/
def State.freeQp (s : State) (i : Nat) : State :=
  let q := s.qp i
  let cur := Tbl.erase (Tbl.erase s.dict.cur (objKey 0x3101 i 5)) (objKey 0x3101 i 0x28)
  { s with
    rdma := { s.rdma with qps := Tbl.erase s.rdma.qps i, gens := Tbl.set s.rdma.gens i q.gen }
    dict := { s.dict with cur := cur } }

/-- QP_INDEX_FREE: 4 × the local ACK timeout after DREP, after the host's DREP, or after the response time. -/
def qpIndexFree (i : Nat) (s : State) : State :=
  let q := s.qp i
  match q.freeAt with
  | some u => if q.state = 4 ∧ u ≤ s.now then s.freeQp i else s
  | none => s

def execQpIndexFree (t idx : Nat) (s : State) : Res := act t (isQpIndex idx) s (qpIndexFree idx)

end Sys2Proof.Machine
end

