-- ==== Sys2Proof/Machine/WritePath.lean ====
section
/-! DEFINITION. Requests of a near port toward its host (12 R422, R423, R430), and the path of a write from its data to its
acknowledgement (01 write-gather and mirrored-write flows). -/

namespace Sys2Proof.Machine

/-! ### Outbound entries and tags (12 R422, R423, R430) -/

/-- Tags of a near port. -/
def NearPort.tagCount (n : NearPort) : Nat := if n.tag10 then 512 else 256

/-- Host region of 16 GiB that an address lies in. -/
def regionOf (addr : Nat) : Nat := addr / 2 ^ 34

/-- Take an engine entry (0 to 3,839) for a region of a function: a present one is shared. -/
def NearPort.takeEntry (n : NearPort) (func addr : Nat) : Option (Nat × NearPort) :=
  match n.entries.find? fun e => decide (e.2.func = func ∧ e.2.region = regionOf addr) with
  | some (i, e) => some (i, { n with entries := Tbl.set n.entries i { e with uses := e.uses + 1 } })
  | none =>
    match Tbl.freeKey n.entries 0 3840 with
    | some i => some (i, { n with entries := Tbl.set n.entries i ⟨func, regionOf addr, 1⟩ })
    | none => none

/-- Release an entry; it is free when its use count reaches 0. -/
def NearPort.releaseEntry (n : NearPort) (i : Option Nat) : NearPort :=
  match i with
  | none => n
  | some i =>
    match Tbl.find? n.entries i with
    | some e => if e.uses ≤ 1 then { n with entries := Tbl.erase n.entries i }
        else { n with entries := Tbl.set n.entries i { e with uses := e.uses - 1 } }
    | none => n

/-- Tags in use, and orphaned or quarantined (5303h:06 and 07). -/
def State.syncTags (s : State) (p : Nat) : State :=
  let t := (s.nport p).tags
  let bad := (t.filter fun e => e.2.orphaned || e.2.quarantined).length
  (s.put 0x5303 p 6 (t.length - bad)).put 0x5303 p 7 bad

/-- Bytes of a request, for the memory read TLP it sends. -/
def NpPurpose.bytes : NpPurpose → Nat
  | .sqEntry _ _ _ => 64
  | .writeData _ _ n => n
  | .copyJob _ _ n _ => n
  | .chain _ _ => 32

/-- The engine entry that a request takes; a DMA channel goes through the entry that its address names. -/
def NearPort.entryFor (n : NearPort) (w : NpWait) : Option (Option Nat × NearPort) :=
  match w.purpose with
  | .copyJob _ _ _ _ | .chain _ _ => some (none, n)
  | _ => (n.takeEntry w.func w.addr).map fun x => (some x.1, x.2)

/-- Attributes of an outbound entry as 5307h holds them (12 Table 6); an entry of the engines keeps the reset values. -/
def State.outAttr (s : State) (p i : Nat) : NpAttr :=
  let on (sub : Nat) : Bool := decide (s.o 0x5307 (p * 4096 + i) sub = 1)
  { noSnoop := on 7, relaxed := on 8, idOrdered := on 9, tc := s.o 0x5307 (p * 4096 + i) 0xA }

/-- Attributes of a request. -/
def State.purposeAttr (s : State) (p : Nat) : NpPurpose → NpAttr
  | .copyJob _ _ _ i | .chain _ i => s.outAttr p i
  | _ => {}

/-- Send a request: it takes an outbound entry and a tag, or waits, and a wait for an entry is counted. -/
def State.npSend (s : State) (p : Nat) (w : NpWait) : Option State :=
  let n := s.nport p
  match n.entryFor w with
  | none => none
  | some (i, n) =>
    match Tbl.freeKey n.tags 0 n.tagCount with
    | none => none
    | some tag =>
      let x : NpTag := { since := s.now, func := w.func, purpose := w.purpose, entry := i }
      let s := (s.setNport p { n with tags := Tbl.set n.tags tag x }).syncTags p
      some (s.emit (.npRead p tag w.func w.addr w.purpose.bytes (s.purposeAttr p w.purpose)))

/-- Queue in which a request waits: the class and tenant of its VF's binding; copy jobs, which are the port's own, go in
Class 7 (07 R255, 13 R441; log entry 162). -/
def State.npKey (s : State) (p : Nat) (w : NpWait) : Nat :=
  match w.purpose with
  | .copyJob c _ _ _ | .chain c _ => queueKey (s.chan c).cls 0
  | _ => queueKey (s.o 0x5301 (p * 64 + w.func - 1) 4) (s.o 0x5301 (p * 64 + w.func - 1) 3)

/-- Cost of a request on the near port's link: its bytes and the overhead bytes of its tenant's row. -/
def State.npCost (s : State) (k : Nat) (w : NpWait) : Nat := w.purpose.bytes + s.o 0x4010 (k % 4096) 6

/-- The fair queueing of a near port: the positions of the waiting requests, by queue. -/
def State.npQueues (s : State) (p : Nat) : MemberSched :=
  let n := s.nport p
  let qs := n.waits.zipIdx.foldl (init := ([] : Tbl (List Nat))) fun t e =>
    Tbl.modify [] t (s.npKey p e.1) fun l => l ++ [e.2]
  { queues := qs, sched := n.sched, vtime := n.vtime }

/-- The queues of a near port whose first request finds the outbound entry it needs. -/
def State.npReady (s : State) (p : Nat) : MemberSched :=
  let n := s.nport p
  let m := s.npQueues p
  { m with queues := m.queues.filter fun q =>
      (q.2.head?.bind fun i => n.waits[i]?).any fun w => (n.entryFor w).isSome }

/-- Take request `i`, the first of queue `k`, out of those that wait: the class's virtual time moves to its finish tag
(07 R246). -/
def State.npTake (s : State) (p k i : Nat) : State :=
  let n := s.nport p
  let m := s.npQueues p
  let q := m.qs k
  let sched := match (Tbl.get [] m.queues k).tail.head?.bind (fun j => n.waits[j]?) with
    | some g => Tbl.set m.sched k { q with start := q.finish, finish := tagFinish q.finish (s.npCost k g) (s.egWeight (k % 4096)) }
    | none => Tbl.erase m.sched k
  let rest := n.waits.eraseIdx i
  let others := rest.any fun w => decide (s.npKey p w / 4096 = k / 4096)
  s.setNport p { n with waits := rest, sched := sched, vtime := Tbl.set n.vtime (k / 4096) (if others then q.finish else 0) }

/-- Take requests out of those that wait; a queue that this empties loses its tags, and a class with no queue its virtual time. -/
def State.npForget (s : State) (p : Nat) (gone : NpWait → Bool) : State :=
  let n := s.nport p
  let rest := n.waits.filter fun w => !gone w
  let keys := rest.map (s.npKey p)
  s.setNport p { n with
    waits := rest
    sched := n.sched.filter fun e => keys.contains e.1
    vtime := n.vtime.filter fun e => (keys.map fun k => k / 4096).contains e.1 }

/-- Send what waits while there is room: Class 0 first, then Classes 1 to 7 in order, and within a class the queue that
fair queueing chooses (07 R235, R255). -/
def State.npDrain (p : Nat) : Nat → State → State
  | 0, s => s
  | n + 1, s =>
    match (s.npReady p).pickFrom 0 8 with
    | none => s
    | some (_, k) =>
      match Tbl.get [] (s.npQueues p).queues k with
      | [] => s
      | i :: _ =>
        match (s.nport p).waits[i]? with
        | none => s
        | some w =>
          match (s.npTake p k i).npSend p w with
          | some u => State.npDrain p n u
          | none => s

/-- A request of a function takes its place in its queue and is sent as soon as its turn comes and an outbound entry and a
tag are free; a wait for an entry is counted. -/
def State.npRequest (s : State) (p : Nat) (w : NpWait) : State :=
  let n := s.nport p
  let short := (n.entryFor w).isNone
  let k := s.npKey p w
  let m := s.npQueues p
  let m := if Tbl.get [] m.queues k = [] then m.wake s.now (k / 4096) k (s.npCost k w) (s.egWeight (k % 4096)) else m
  let s := s.setNport p { n with waits := n.waits ++ [w], sched := m.sched }
  (State.npDrain p (n.waits.length + 1) s).when short fun s => s.bump 0x5303 p 0xC

/-! ### Acknowledging a write -/

/-- The data of a command, in bytes that have come. -/
def Cmd.gotBytes (c : Cmd) : Nat := sumNat (c.got.map Prod.snd)

/-- Whether an acknowledgement waits for the peer's confirmation (01 R36, 14 R484, R497). -/
def State.mirrorNeeded (s : State) : Bool :=
  s.twin.twinMode && decide (s.twinPhase = 2) && s.twin.joining.isEmpty

/-- Cut a range of an array at the boundaries of its 4 KiB pages: offset in the range, length. -/
def cutPages : Nat → Nat → Nat → Nat → List (Nat × Nat)
  | 0, _, _, _ => []
  | k + 1, addr, off, len =>
    let n := min (len - off) (4096 - (addr + off) % 4096)
    if len ≤ off then [] else (off, n) :: cutPages k addr (off + n) len

/-- Pages of a write as a mirror record carries them. -/
def mirrorPages (a : Nat) (cipher : Content) (runs : List (Nat × Nat × Nat)) : List MirrorPage :=
  runs.flatMap fun x => (cutPages (x.2.2 / 512 + 1) x.2.1 0 x.2.2).map fun c =>
    { array := a, addr := x.2.1 + c.1, len := c.2, data := slice cipher (x.1 + c.1) c.2 }

/-- The write is acknowledged: its blocks become dirty; with FUA, or while the dirty ceiling is 0
(15 R536), the command waits for the flush of its rows (R35). The
write of a namespace under crypto-erase completes and is discarded (06 R227). -/
def State.commitWrite (s : State) (id : Nat) : State :=
  let c := s.cmd id
  let r := c.nsRow
  let s := s.setCmd id { c with reserved := 0, pool := 0, mirror := none }
  if (s.ns r).erasing then s.succeed id
  else
    let n := c.cap.nlb
    let plain := if c.cap.opcode = 8 then 0 else c.data
    let s := s.makeDirty r c.cap.slba n (s.cipher true r c.cap.slba n plain) c.entries c.tenant c.cls
    let s := if c.cap.fua = true ∨ s.dirtyLimit = 0 then
        s.setCmd id { s.cmd id with stage := .flushing, need := c.entries.map fun e => (e.array, e.row, e.seq) }
      else s.succeed id
    -- Write Zeroes with DEAC: the whole granules of its range are deallocated (06 R209)
    let s := if c.cap.opcode = 8 ∧ c.cap.deac = true then s.deallocRange r c.cap.slba n else s
    s.settleWrites

/-- The write's data is wholly in the gather cache: intent entries are made, and in twin mode one mirror record goes to
the peer (09 R321, R323). -/
def State.gatherDone (s : State) (id : Nat) : State :=
  let c := s.cmd id
  let r := c.nsRow
  let a := s.nsArray r
  let es := s.intentFor r c.cap.slba c.cap.nlb c.cap.fua (decide (c.cap.opcode = 8))
  let s := (s.takeIntents es).setCmd id { c with entries := es }
  if s.paired && !(s.ns r).erasing then
    let plain := if c.cap.opcode = 8 then 0 else c.data
    let pages := mirrorPages a (s.cipher true r c.cap.slba c.cap.nlb plain) (s.runs r c.cap.slba c.cap.nlb)
    let w := s.ob 0x2403 2 / 4096
    let ctx := es.length * 2 ^ 48 + s.draw % max 1 (w + 1 - pages.length) * 4096
    let seq := s.nextRec
    let s := s.drawn.sendRec .mirrorData ctx 0 (64 * es.length + 4096 * pages.length) (.mirror es pages)
    if s.mirrorNeeded then s.setCmd id { s.cmd id with stage := .confirming, mirror := some seq } else s.commitWrite id
  else s.commitWrite id

/-! ### Fetching write data -/

/-- Note that bytes of a command's data have come; `full` tells whether all have. -/
def State.takeData (s : State) (id off len : Nat) (data : Content) : State × Bool :=
  let c := s.cmd id
  let got := if c.got.any (fun g => decide (g.1 = off)) then c.got else c.got ++ [(off, len)]
  let c := { c with data := patch c.data off len data, got := got }
  (s.setCmd id c, decide (c.len ≤ c.gotBytes))

/-- Start fetching the data of a command: what the capsule carries is there at once; keyed descriptors are read by RDMA
READ within the queue pair's window (05 R174, R177); a near host's buffers by near-port reads. -/
def State.fetchData (s : State) (id : Nat) : State :=
  let c := s.cmd id
  match c.qp, c.vf with
  | some i, _ =>
    match c.cap.dptr with
    | .offsetBlock _ _ => s.setCmd id { c with data := c.cap.inData % 256 ^ c.len, got := [(0, c.len)] }
    | _ =>
      s.each (sglParts (keyedList c.cap.dptr) 0 0 c.len) fun s x =>
        let p : TxPkt := { op := .rdmaReadRequest, cmd := some id, hasReth := true }
        s.postMsg i { pkts := [p], bytes := x.2.2.2, cmd := some id, read := some (x.1, x.2.1, x.2.2.1) }
  | none, some (p, v, _) =>
    let addr := match c.cap.dptr with
      | .prp a _ => a
      | .sglList a _ => a
      | _ => 0
    s.npRequest p { func := v, addr := addr, purpose := .writeData id 0 c.len }
  | none, none => s

/-- All of a command's data has come. -/
def State.dataIn (s : State) (id : Nat) : Bool := decide ((s.cmd id).len ≤ (s.cmd id).gotBytes)

end Sys2Proof.Machine
end

