-- ==== Sys2Proof/Machine/Members.lean ====
section
/-! DEFINITION. What member commands serve and how they end (10): read-around times, pieces of host reads,
reconstruction, repairs, the loss of a member, rebuild, copy-back and zeroing. -/

namespace Sys2Proof.Machine

/-! ### Read-around times (10 R336, R337) -/

/-- First term of the read-around time of a class, in µs. -/
def State.aroundTerm (s : State) (a c : Nat) : Rat :=
  let pin := s.ob 0x5104 (c + 1)
  if pin ≠ 0 then pin
  else min (max ((s.ob 0x5101 (c + 1) : Rat) / 10 * (s.arrS a).lref) (s.ob 0x5102 (c + 1) : Nat)) (s.ob 0x5103 (c + 1) : Nat)

/-- Publish L_ref and the read-around times of an array. -/
def State.publishAround (s : State) (a : Nat) : State :=
  (s.setVal 0x5106 a 2 (.real (s.arrS a).lref)).each (List.range 8) fun s c =>
    s.setVal 0x5106 a (3 + c) (.real (s.aroundTerm a c))

/-- Read-around time of a Class `c` read of `b` bytes, in ns. -/
def State.aroundTime (s : State) (a c b : Nat) : Rat :=
  (s.val 0x5106 a (3 + c)).toRat * 1000 + ((b - 16384 : Nat) : Rat) / 1024 * (s.ob 0x5107 2 : Nat)

/-! ### Pieces of a command (01 R27, R31, R32) -/

/-- Change the piece at a transfer offset. -/
def Cmd.modPiece (c : Cmd) (off : Nat) (f : Piece → Piece) : Cmd :=
  { c with pieces := c.pieces.map fun p => if p.off = off then f p else p }

/-- All pieces have ended with their data. -/
def Cmd.readIn (c : Cmd) : Bool := c.pieces.all fun p => p.ended && p.data.isSome

/-- The stored plaintext of a command's range, from its pieces. -/
def Cmd.stored (c : Cmd) : Content := c.pieces.foldl (fun v p => v + (p.data.getD 0) * 256 ^ p.off) 0

/-- A Compare whose data and stored blocks are there: alone it completes; the first half of a fused pair lets the write
go on, or ends both (06 Table 7). -/
def State.tryCompare (s : State) (id : Nat) : State :=
  let c := s.cmd id
  if c.readIn && s.dataIn id then
    let same := decide (c.stored % 256 ^ c.len = c.data % 256 ^ c.len)
    match c.fused with
    | none => if same then s.succeed id else s.complete id 2 0x85 0
    | some w =>
      if same then
        if s.dataIn w then (s.succeed id).gatherDone w else s
      else ((s.bump 0x3270 0 0x19).complete id 2 0x85 0).complete w 0 9 0
  else s

/-- A command that reads has come further. -/
def State.tryReadDone (s : State) (id : Nat) : State :=
  let c := s.cmd id
  if Tbl.has s.nvme.cmds id && decide (c.stage = .reading) && c.readIn then
    if c.cap.opcode = 5 then s.tryCompare id else s.succeed id
  else s

/-- The ciphertext of a piece is there: it is decrypted, and a Read sends it to its host. -/
def State.pieceServed (s : State) (id off len : Nat) (data : Content) : State :=
  if Tbl.has s.nvme.cmds id = false then s
  else
    let c := s.cmd id
    let sz := s.nsLba c.nsRow
    let plain := s.cipher false c.nsRow (c.cap.slba + off / sz) (len / sz) data
    let s := s.setCmd id { c.modPiece off (fun p => { p with data := some plain }) with kept := c.kept || decide (c.cap.opcode = 2) }
    let from_ := (c.pieces.find? fun p => decide (p.off = off ∧ p.src ≠ .memory)).map fun p => (p.array, p.addr)
    if c.cap.opcode = 2 then s.sendData id off len plain none from_ else s

/-- A piece has ended with its data. -/
def State.pieceEnded (s : State) (id off : Nat) : State :=
  if Tbl.has s.nvme.cmds id = false then s
  else (s.setCmd id ((s.cmd id).modPiece off fun p => { p with ended := true })).tryReadDone id

/-- A command whose blocks cannot be recovered completes with Unrecovered Read Error (10 R363). -/
def State.readLost (s : State) (id : Nat) : State :=
  let c := s.cmd id
  let s := s.stopReads id
  match c.fused with
  | some w => (s.complete id 2 0x81 0).complete w 0 9 0
  | none => s.complete id 2 0x81 0

/-! ### Repairs and parity rewrites (10 R343, R361) -/

/-- Start a flush of a row that has no page: a repair (method 4), or a rewrite of parity over what can be read (method
1, with no data of its own). -/
def State.startFixed (s : State) (a r : Nat) (f : Flush) : Option State :=
  if s.mayFlush a && (s.flush? a r).isNone && !s.rowHeld a r then
    match s.openCtx f.len with
    | (some k, u) => some (u.openFlush a r { f with fseq := (u.arrS a).fseq, stage := .opening, ctx := some k })
    | (none, _) => none
  else none

/-- The flush for one waiting repair; position 99 stands for a parity rewrite. -/
def State.repairFlush (s : State) (a : Nat) (x : Nat × Nat × Nat × Nat × Content) : Flush :=
  let (r, p, o, n, data) := x
  if p = 99 then
    { fseq := 0, method := 1, start := o, len := n, cols := (List.range ((n + 4095) / 4096)).map fun i => o / 4096 + i
      degraded := true, map := s.flushMap a r [s.aD a, s.aD a + 1] }
  else { fseq := 0, method := 4, start := o, len := n, map := s.flushMap a r [p], repairs := [(p, o, n, data)] }

/-- Start the repairs whose rows are free. -/
def State.tryRepairs (s : State) (a : Nat) : State :=
  s.each (s.arrS a).repairWait fun s x =>
    match s.startFixed a x.1 (s.repairFlush a x) with
    | some u => u.modArr a fun y => { y with repairWait := y.repairWait.erase x }
    | none => s

/-- Ask for a repair of `n` bytes at chunk offset `o` of position `p`. -/
def State.askRepair (s : State) (a r p o n : Nat) (data : Content) : State :=
  (s.modArr a fun y => { y with repairWait := y.repairWait ++ [(r, p, o, n, data)] }).tryRepairs a

/-! ### Reconstruction (09 R309, 10 R339, R352) -/

/-- Positions to read so as to recover data position `x`, with `u` unavailable. -/
def planRecon (d x : Nat) (u : List Nat) : Option (List Nat) :=
  let others := (List.range d).filter fun i => decide (i ≠ x)
  match others.filter u.contains with
  | [] =>
    if u.contains d = false then some (others ++ [d])
    else if u.contains (d + 1) = false then some (others ++ [d + 1])
    else none
  | [y] =>
    if u.contains d = false ∧ u.contains (d + 1) = false then some ((others.filter fun i => decide (i ≠ y)) ++ [d, d + 1])
    else none
  | _ => none

/-- Read-arounds in progress: reconstructions that stand for a member read which has not ended (R340). -/
def State.syncArounds (s : State) (a : Nat) : State :=
  s.put 0x5106 a 0xB (s.arr.recons.filter fun e => e.2.around.isSome && decide (e.2.array = a)).length

def State.setRecon (s : State) (rid : Nat) (x : Recon) : State :=
  { s with arr := { s.arr with recons := Tbl.set s.arr.recons rid x } }

def State.eraseRecon (s : State) (rid : Nat) : State :=
  match Tbl.find? s.arr.recons rid with
  | some x => { s with arr := { s.arr with recons := Tbl.erase s.arr.recons rid } }.closeCtx x.ctx
  | none => s

/-- Submit the surviving reads that a reconstruction with a context still needs. -/
def State.issueRecon (s : State) (rid : Nat) (x : Recon) (ps : List Nat) : State :=
  let a := x.array
  let (r, _, o) := place (s.aD a) (s.aC a) x.addr
  let c := s.cmd x.cmd
  let (tenant, cls, engine) := match x.resend with
    | some (i, _) => ((s.qp i).tenant, (s.qp i).cls, (s.qp i).cluster * 4)
    | none => (c.tenant, c.cls, c.engine)
  s.each (ps.filter fun p => !Tbl.has x.vals p && !Tbl.has x.waits p) fun s p =>
    let m := (s.holder a r p).1
    let y := Tbl.get { cmd := 0, off := 0, array := 0, addr := 0, len := 0 } s.arr.recons rid
    let s := s.setRecon rid { y with waits := Tbl.set y.waits p s.nextMc }
    s.enqMember { slot := s.slotOf a m, array := a, member := m, op := .read, off := rowBase (s.aC a) r + o, len := x.len
                  tenant := tenant, cls := cls, engine := engine, purpose := .recon rid p }

/-- Positions that a reconstruction cannot read. -/
def State.reconOut (s : State) (x : Recon) : List Nat :=
  let (r, p, _) := place (s.aD x.array) (s.aC x.array) x.addr
  p :: (s.unavailable x.array r ++ x.failed)

/-- Read the range from its member after all: no further read-around is made of it (10 R339, R369). -/
def State.readMember (s : State) (id off a addr len : Nat) (again : Bool) : State :=
  let (r, p, o) := place (s.aD a) (s.aC a) addr
  let m := (s.holder a r p).1
  let c := s.cmd id
  s.enqMember { slot := s.slotOf a m, array := a, member := m, op := .read, off := rowBase (s.aC a) r + o, len := len
                tenant := c.tenant, cls := c.cls, engine := c.engine, purpose := .hostRead id off, excess := again }

/-- Blocks of a range are lost with more than two chunks unavailable (10 R361): every unavailable data chunk of the
range, and the parity over the rest is rewritten. -/
def State.loseStripe (s : State) (a addr len : Nat) (out : List Nat) : State :=
  let d := s.aD a
  let (r, _, o) := place d (s.aC a) addr
  let s := s.each ((List.range d).filter out.contains) fun s p => s.loseRange a (dataAddr d (s.aC a) r p o) len 1
  s.askRepair a r 99 (o / 4096 * 4096) ((o % 4096 + len + 4095) / 4096 * 4096) 0

/-- Plan or re-plan a reconstruction; where more than two chunks are unavailable the read goes back to the slow member,
or its blocks are lost. -/
def State.planOn (s : State) (rid : Nat) : State :=
  match Tbl.find? s.arr.recons rid with
  | none => s
  | some x =>
    let (_, p, _) := place (s.aD x.array) (s.aC x.array) x.addr
    match planRecon (s.aD x.array) p (s.reconOut x) with
    | some ps =>
      match x.ctx with
      | some _ => s.issueRecon rid x ps
      | none =>
        -- while the row is being flushed its chunks are of two ages (01 R29)
        if (s.flush? x.array (place (s.aD x.array) (s.aC x.array) x.addr).1).isSome then s else
        match s.openCtx x.len with
        | (some k, u) =>
          let x := { x with ctx := some k }
          (u.setRecon rid x).issueRecon rid x ps
        | (none, _) => s
    | none =>
      let out := s.reconOut x
      let s := s.each (x.waits.map Prod.snd) State.closeStream
      let s := (s.eraseRecon rid).syncArounds x.array
      match x.around with
      | some _ => s.readMember x.cmd x.off x.array x.addr x.len true
      | none =>
        let s := s.loseStripe x.array x.addr x.len out
        if x.resend.isSome then s else s.readLost x.cmd

/-- Start the reconstruction of a piece. -/
def State.startRecon (s : State) (id off a addr len : Nat) (failed : List Nat) (around : Option Nat) (repair : Bool) : State :=
  let rid := s.arr.nextRecon
  let s := s.thawNow
  let x : Recon := { cmd := id, off := off, array := a, addr := addr, len := len, failed := failed, around := around, repair := repair }
  let s := { s with arr := { s.arr with nextRecon := rid + 1 } }.setRecon rid x
  let s := s.setCmd id ((s.cmd id).modPiece off fun p => { p with src := .recon rid, ended := false })
  s.planOn rid

/-! ### Data read again for a retransmission (05 R173) -/

/-- The blocks of a packet that is to be sent again are there: they are decrypted anew, and packets go as far as their data is there. -/
def State.resendServed (s : State) (i : Nat) (psn : Psn) (data : Content) : State :=
  let q := s.qp i
  let fill (x : Resend) : Resend :=
    match x.pkt.src with
    | some b =>
      if x.pkt.psn = psn ∧ x.ready = false then
        { pkt := { x.pkt with data := s.cipher false b.nsRow b.lba b.blocks data / 256 ^ b.skip % 256 ^ x.pkt.bytes }, ready := true }
      else x
    | none => x
  (State.drainResend i q.resend.length (s.setQp i { q with resend := q.resend.map fill })).pumpAll i

/-- Reconstruct the blocks of a packet that is to be sent again. -/
def State.reconAgain (s : State) (i : Nat) (psn : Psn) (b : BlockSrc) (failed : List Nat) : State :=
  let rid := s.arr.nextRecon
  let s := s.thawNow
  let x : Recon := { cmd := s.nvme.nextCmd + 2 ^ 32, off := 0, array := b.array, addr := b.addr, len := b.blocks * s.nsLba b.nsRow
                     failed := failed, resend := some (i, psn) }
  ({ s with arr := { s.arr with nextRecon := rid + 1 } }.setRecon rid x).planOn rid

/-- Read the blocks of a packet again: from their member, or by reconstruction where it cannot be read. -/
def State.readAgain (s : State) (i : Nat) (psn : Psn) (b : BlockSrc) : State :=
  let a := b.array
  let (r, p, o) := place (s.aD a) (s.aC a) b.addr
  if s.available a r p then
    let m := (s.holder a r p).1
    let q := s.qp i
    s.enqMember { slot := s.slotOf a m, array := a, member := m, op := .read, off := rowBase (s.aC a) r + o
                  len := b.blocks * s.nsLba b.nsRow, tenant := q.tenant, cls := q.cls, engine := q.cluster * 4, purpose := .resend i psn }
  else s.reconAgain i psn b []

/-- Such a read has failed: the blocks are reconstructed. -/
def State.resendFailed (s : State) (i : Nat) (psn : Psn) : State :=
  match ((s.qp i).resend.find? fun x => decide (x.pkt.psn = psn) && !x.ready).bind fun x => x.pkt.src with
  | some b => s.reconAgain i psn b []
  | none => s

/-- Data of this packet is on its way already. -/
def State.reading (s : State) (i : Nat) (psn : Psn) : Bool :=
  (s.slot.cmds.any fun e => decide (e.2.purpose = .resend i psn) && !e.2.dead) ||
    s.arr.recons.any fun e => decide (e.2.resend = some (i, psn))

/-- Put a packet into its place by its distance from a PSN. -/
def insertPsn (key : Psn → Nat) (p : TxPkt) : List TxPkt → List TxPkt
  | [] => [p]
  | x :: r => if key p.psn ≤ key x.psn then p :: x :: r else x :: insertPsn key p r

/-- Retransmit every packet and READ request from PSN `a` on, in PSN order, with the same PSN, opcode, length and bytes (05 R172 to R174).
The responses of a READ land from its first byte on again. -/
def State.retransmitFrom (s : State) (i : Nat) (a : Psn) : State :=
  let q := s.qp i
  let again (p : Psn) : Bool := p == a || psnBehind a p
  let ends (r : ReadReq) : Psn := r.psn + BitVec.ofNat 24 (packetsOf r.len q.mtu - 1)
  let q2 := { q with
    sent := q.sent.map fun u => if again u.pkt.psn then { u with retx := true } else u
    reads := q.reads.map fun r => if again (ends r) then { r with retx := true, got := 0, dropping := true } else r
    ackTimer := if q.waiting then some s.now else none }
  let s := (s.setQp i q2).touch i
  let reads := (q2.reads.filter fun r => again (ends r)).map fun r =>
    ({ op := .rdmaReadRequest, psn := r.psn, va := r.va, rkey := r.rkey, len := r.len, hasReth := true, ackReq := true
       cmd := some r.cmd } : TxPkt)
  let pkts := (q2.sent.filter fun u => again u.pkt.psn).map SentPkt.pkt
  let key (p : Psn) : Nat := if again p then (p - a).toNat else 0
  let items := (pkts ++ reads).foldr (insertPsn key) []
  let s := s.setQp i { s.qp i with resend := items.map fun p => { pkt := p, ready := p.src.isNone } }
  let s := s.each items fun s p => match p.src with
    | some b => if s.reading i p.psn then s else s.readAgain i p.psn b
    | none => s
  State.drainResend i items.length s

/-- Reconstructions that wait for a context try again. -/
def State.resumeRecons (s : State) : State :=
  s.each ((s.arr.recons.filter fun e => e.2.ctx.isNone).map Prod.fst) State.planOn

/-- Work that waits for accumulator store goes on. -/
def State.resumeWork (s : State) : State := s.resumeFlushes.resumeRecons

/-- Every surviving read is in: the piece is served, and where a media error was the cause it is written back (10
R343). -/
def State.reconDone (s : State) (rid : Nat) (x : Recon) : State :=
  let a := x.array
  let (r, p, o) := place (s.aD a) (s.aC a) x.addr
  let v := (recoverData x.len (s.aD a) (fun i => Tbl.find? x.vals i) p).getD 0
  let s := (s.eraseRecon rid).syncArounds a
  match x.resend with
  | some (i, psn) => (s.resendServed i psn v).resumeWork
  | none =>
  let s := if x.off = 0 ∧ Tbl.has s.nvme.cmds x.cmd = true then s.setCmd x.cmd { s.cmd x.cmd with svcTo := some s.now } else s
  let s := (s.pieceServed x.cmd x.off x.len v).pieceEnded x.cmd x.off
  let s := if x.repair then (s.bump 0x5100 (memRow a (s.holder a r p).1) 0xE).askRepair a r p o x.len v else s
  s.resumeWork

/-- A surviving read is in. -/
def State.reconValue (s : State) (rid pos : Nat) (data : Content) : State :=
  match Tbl.find? s.arr.recons rid with
  | none => s
  | some x =>
    let x := { x with vals := Tbl.set x.vals pos data, waits := Tbl.erase x.waits pos }
    let s := s.setRecon rid x
    if x.waits.isEmpty && x.ctx.isSome then s.reconDone rid x else s

/-- A surviving read has failed: the other parity is used, or the range has too few chunks. -/
def State.reconFail (s : State) (rid pos : Nat) : State :=
  match Tbl.find? s.arr.recons rid with
  | none => s
  | some x => (s.setRecon rid { x with failed := pos :: x.failed, waits := Tbl.erase x.waits pos }).planOn rid

/-- ACCUMULATION_FAILED (09 R313): a flush is repeated with a new context; a reconstruction reads its survivors again. -/
def accumulationFailed (c : Nat) (s : State) : State :=
  match s.flushOfCtx c with
  | some (a, r, f) =>
    let s := (s.closeCtx (some c)).accFailure (c / 256)
    ((s.bump 0x5011 a 7).setFlush a r { f with ctx := none }).repeatFlush a r
  | none =>
    match s.arr.recons.find? fun e => decide (e.2.ctx = some c) with
    | some (rid, x) =>
      let s := s.each (x.waits.map Prod.snd) State.closeStream
      let s := (s.closeCtx (some c)).accFailure (c / 256)
      (s.setRecon rid { x with ctx := none, waits := [], vals := [] }).planOn rid
    | none => s

def execAccumulationFailed (t ctx : Nat) (s : State) : Res := act t (isContext ctx) s (accumulationFailed ctx)

/-! ### Flushes and failing members (10 R351, R353) -/

/-- A read of a flush is in. -/
def State.flushValue (s : State) (a r p col k : Nat) (len : Nat) (data : Content) : State :=
  match s.flush? a r with
  | none => s
  | some f =>
    let vals := (List.range (len / 4096)).foldl (init := f.vals) fun t i =>
      Tbl.set t ((col + i) * 32 + p) (slice data (4096 * i) 4096)
    (s.setFlush a r { f with vals := vals, reads := f.reads.erase k }).advanceFlush a r

/-- A read of a flush has failed: by a media error (`bad`), or with its member. A rebuild restores the unreadable chunk
too (10 R360). -/
def State.flushReadFail (s : State) (a r p : Nat) (bad : Bool) : State :=
  match s.flush? a r with
  | none => s
  | some f =>
    let f := { f with
      method := if f.method = 2 then 1 else f.method, degraded := f.degraded || !bad
      bad := if bad then p :: f.bad else f.bad
      restores := if bad ∧ f.method = 3 ∧ f.target = none then f.restores ++ [p] else f.restores }
    (s.setFlush a r f).repeatFlush a r

/-- A write of a flush has completed, or its member has dropped out of the flush. -/
def State.flushWritten (s : State) (a r k : Nat) (dropped : Bool) : State :=
  match s.flush? a r with
  | none => s
  | some f =>
    (s.setFlush a r { f with writes := f.writes.erase k, degraded := f.degraded || dropped }).tryClose a r

/-- A copy of a journal block is written, or its member is lost. -/
def State.journalWritten (s : State) (a seq copy : Nat) : State :=
  s.modArr a fun x => { x with jblocks := x.jblocks.map fun b =>
    if b.seq = seq then { b with copies := b.copies.erase copy } else b }

/-- A write of a row being zeroed has completed. -/
def State.zeroWritten (s : State) (a r k : Nat) : State :=
  s.modArr a fun x => match x.zeroing with
    | some (q, ks) => if q = r then { x with zeroing := some (q, ks.erase k) } else x
    | none => x

/-- RDMA WRITEs of a piece whose member command has failed, and which are not sent yet, are discarded (01 R32). -/
def State.unsend (s : State) (id off len : Nat) : State :=
  match (s.cmd id).qp with
  | none => s
  | some i =>
    let q := s.qp i
    let c := s.cmd id
    let mine (m : SendMsg) : Bool := decide (m.cmd = some id) && m.read.isNone && !m.pkts.isEmpty && m.pkts.all fun p =>
      isWriteOp p.op && (match p.src with
        | some b => decide (off ≤ (b.lba - c.cap.slba) * s.nsLba c.nsRow + b.skip ∧ (b.lba - c.cap.slba) * s.nsLba c.nsRow + b.skip < off + len)
        | none => false)
    s.setQp i { q with sendQ := q.sendQ.filter fun m => !mine m }

/-- A member command will never complete: its member is lost. -/
def State.memberFails (s : State) (k : Nat) : State :=
  let c := s.mc k
  if c.dead then s
  else
    match c.purpose with
    | .hostRead id off =>
      let x := s.cmd id
      let s := (s.closeStream k).unsend id off c.len
      if c.around.isSome || !Tbl.has s.nvme.cmds id then s
      else
        match x.pieces.find? fun p => decide (p.off = off) with
        | some p => s.startRecon id off p.array p.addr p.len [] none false
        | none => s
    | .recon rid pos => (s.closeStream k).reconFail rid pos
    | .flushRead a r p _ => (s.closeStream k).flushReadFail a r p false
    | .flushWrite a r => (s.closeStream k).flushWritten a r k true
    | .journal a q copy => (s.closeStream k).journalWritten a q copy
    | .zero a r => (s.closeStream k).zeroWritten a r k
    | .regions _ => s.closeStream k
    | .repair _ _ => s.closeStream k
    | .resend i psn => (s.closeStream k).resendFailed i psn

/-! ### Restoring work (10 R353 to R359) -/

/-- Segments of an array. -/
def State.segCount (s : State) (a : Nat) : Nat := ((s.arrS a).nRows + 1023) / 1024

/-- Bits of a segment. -/
def State.segMap (s : State) (a g : Nat) : Nat := Tbl.get 0 (s.arrS a).segs g

/-- The first segment that satisfies `p`. -/
def State.firstSeg (s : State) (a : Nat) (p : Nat → Bool) : Option Nat :=
  (List.range (s.segCount a)).find? fun g => p (s.segMap a g)

/-- The substitution entry of a member. -/
def State.entryOf (s : State) (a m : Nat) : Option Subst := (s.arrS a).subs.find? fun e => decide (e.member = m)

/-- A filling member without an entry. -/
def State.fillTarget (s : State) (a : Nat) : Option Nat :=
  (s.members a).find? fun m => decide (s.memState a m = 4) && (s.entryOf a m).isNone

/-- A filling member whose entry is restored throughout. -/
def State.copyTarget (s : State) (a : Nat) : Option Nat :=
  (s.members a).find? fun m => decide (s.memState a m = 4) &&
    (match s.entryOf a m with
     | some e => (s.firstSeg a fun b => !bit b (e.k - 1)).isNone
     | none => false)

/-- The next piece of restoring work (10 R354). -/
def State.nextWork (s : State) (a : Nat) : Option Work :=
  let subs := sortSubs (s.arrS a).subs
  let dbl := if 2 ≤ subs.length then s.firstSeg a fun b => !bit b 0 && !bit b 1 else none
  let fill := (s.fillTarget a).bind fun m => (s.firstSeg a fun b => !bit b 2).map fun g => (m, g)
  let single := subs.findSome? fun e => (s.firstSeg a fun b => !bit b (e.k - 1)).map fun g => (e, g)
  let copy := (s.copyTarget a).bind fun m => (s.firstSeg a fun b => !bit b 2).map fun g => (m, g)
  match dbl with
  | some g => some ⟨1, (subs.head?.map fun e => e.member).getD 255, g, g * 1024⟩
  | none =>
    match fill, single with
    | some (m, g), some (e, g2) => if 2 ≤ (s.missing a).length then some ⟨4, m, g, g * 1024⟩ else some ⟨e.k + 1, e.member, g2, g2 * 1024⟩
    | some (m, g), none => some ⟨if 2 ≤ (s.missing a).length then 4 else 5, m, g, g * 1024⟩
    | none, some (e, g2) => some ⟨e.k + 1, e.member, g2, g2 * 1024⟩
    | none, none => copy.map fun x => ⟨6, x.1, x.2, x.2 * 1024⟩

/-- Bits that a segment's work sets. -/
def workBits (kind : Nat) : List Nat :=
  if kind = 1 then [0, 1] else if kind = 2 then [0] else if kind = 3 then [1] else [2]

/-- Publish the work of an array (5110h). -/
def State.syncWork (s : State) (a : Nat) : State :=
  match (s.arrS a).work with
  | none => (s.put 0x5110 a 2 0).put 0x5110 a 3 255
  | some w =>
    let need := fun b => (workBits w.kind).any fun k => !bit b k
    let todo := ((List.range (s.segCount a)).filter fun g => need (s.segMap a g)).length
    let s := (s.put 0x5110 a 2 w.kind).put 0x5110 a 3 w.member
    let s := (s.put 0x5110 a 4 w.seg).put 0x5110 a 5 w.cursor
    (s.put 0x5110 a 6 (s.segCount a - todo)).put 0x5110 a 7 todo

/-- Publish the substitution list (5001h:08). -/
def State.syncSubs (s : State) (a : Nat) : State :=
  let at_ (k : Nat) : Nat := match (s.arrS a).subs.find? fun e => decide (e.k = k) with
    | some e => e.member
    | none => 255
  s.setVal 0x5001 a 8 (octOf [at_ 1, at_ 2])

/-- Clear bit `k` of every segment. -/
def State.clearSegs (s : State) (a k : Nat) : State :=
  s.modArr a fun x => { x with segs := x.segs.map fun e => (e.1, clearBit e.2 k) }

/-- Member states that follow from a completed segment: a lost member restored throughout, a filled member, a finished
copy-back (10 R350, R358, R359). -/
def State.settleWork (s : State) (a : Nat) (w : Work) : State :=
  let full (k : Nat) : Bool := (s.firstSeg a fun b => !bit b k).isNone
  if w.kind ≤ 3 then
    s.each ((s.arrS a).subs.filter fun e => full (e.k - 1) && decide (s.memState a e.member = 2)) fun s e =>
      ((s.put 0x5100 (memRow a e.member) 2 3).syncArray a).raise .memberRestored [a, e.member]
  else if full 2 then
    let s := match s.entryOf a w.member with
      | some e =>
        if w.kind = 6 then
          let s := s.modArr a fun x => { x with subs := x.subs.filter fun y => decide (y.k ≠ e.k) }
          s.clearSegs a (e.k - 1)
        else s
      | none => s
    let s := (s.modArr a fun x => { x with subGen := x.subGen + 1 }).clearSegs a 2
    let s := (s.put 0x5100 (memRow a w.member) 2 1).put 0x5111 (memRow a w.member) 4 3
    (((s.syncSubs a).syncArray a).writeSuperblock a).raise .memberRestored [a, w.member]
  else s

/-- Positions of row `r` that the work restores. -/
def State.restores (s : State) (a r : Nat) (w : Work) : List Nat :=
  (List.range (s.aD a + 2)).filter fun p =>
    match s.holder a r p with
    | (m, none) => decide ((w.kind = 4 ∨ w.kind = 5) ∧ m = w.member)
    | (_, some k) =>
      if w.kind = 1 then true
      else if w.kind = 2 ∨ w.kind = 3 then decide (k + 1 = w.kind)
      else if w.kind = 6 then decide (((s.entryOf a w.member).map fun e => e.k) = some k)
      else false

/-- The row at the cursor is done: the cursor moves on; at the end of a segment its bits are set. -/
def State.stepCursor (s : State) (a : Nat) (w : Work) : State :=
  let next := w.cursor + 1
  if next < (s.arrS a).nRows ∧ next / 1024 = w.seg then
    s.modArr a fun x => { x with work := some { w with cursor := next } }
  else
    let b := (workBits w.kind).foldl setBit (s.segMap a w.seg)
    let s := s.modArr a fun x => { x with segs := Tbl.set x.segs w.seg b, work := none }
    (s.writeRecords a).settleWork a w

/-- Take up the next piece of work; a fill or copy-back shows in 5111h:04. -/
def State.takeWork (s : State) (a : Nat) : State :=
  match s.nextWork a with
  | none => s
  | some w =>
    let s := s.modArr a fun x => { x with work := some w }
    if 4 ≤ w.kind then s.put 0x5111 (memRow a w.member) 4 2 else s

/-- Start what the cursor's row needs: fresh rows and rows without a chunk of the work are passed over (10 R356). -/
def State.runWork (a : Nat) : Nat → State → State
  | 0, s => s
  | n + 1, s =>
    let s := if (s.arrS a).work.isNone then s.takeWork a else s
    match (s.arrS a).work with
    | none => s
    | some w =>
      let r := w.cursor
      let ps := s.restores a r w
      if s.rowFresh a r || ps.isEmpty then State.runWork a n (s.stepCursor a w)
      else if !s.mayFlush a || (s.flush? a r).isSome || s.rowHeld a r then s
      else
        let c := s.aC a
        match s.openCtx c with
        | (none, _) => s
        | (some k, u) =>
          let target := if w.kind = 6 then some w.member else none
          let map := match target with
            | some m => setBit 0 m
            | none => u.flushMap a r ps
          let f : Flush := { fseq := (u.arrS a).fseq, method := 3, start := 0, len := c, stage := .opening, ctx := some k
                             map := map, degraded := decide (w.kind ≠ 6), cols := List.range (c / 4096), restores := ps
                             target := target, bg := 1 }
          u.openFlush a r f

/-- Let the restoring work of an array go on. -/
def State.kickWork (s : State) (a : Nat) : State :=
  if s.arrOn a && s.owns a && !(s.arrS a).failed && !(s.arrS a).recovering then
    ((State.runWork a 2048 s).tryRepairs a).syncWork a
  else s

/-- REBUILD_ROW (10 R353): the method 3 flush of the row has closed. -/
def rebuildRow (a r : Nat) (s : State) : State :=
  match s.flush? a r with
  | some f =>
    if f.method = 3 ∧ f.stage = .closed then
      let s := s.endFlush a r f
      let s := (s.bump 0x5110 a 8).add 0x5110 a 9 (4096 * f.cols.length * f.restores.length)
      match (s.arrS a).work with
      | some w => if w.cursor = r then ((s.stepCursor a w).kickWork a).resumeWork else s.kickWork a
      | none => s.kickWork a
    else s
  | none => s

def execRebuildRow (t array row : Nat) (s : State) : Res := act t (isArray array) s (rebuildRow array row)

/-! ### The loss of a member (10 R344 to R349) -/

/-- Members of the trio or pair: a lost one is replaced by the lowest-numbered active member outside. -/
def State.replaceIn (s : State) (a m : Nat) (l : List Nat) : List Nat :=
  if l.contains m then
    let rest := l.filter fun x => decide (x ≠ m)
    match (s.members a).find? fun x => decide (s.memState a x = 1) && !l.contains x with
    | some x => sortNat (x :: rest)
    | none => rest
  else l

/-- Publish trio and journal pair. -/
def State.syncRoles (s : State) (a : Nat) : State :=
  let x := s.arrS a
  (s.setVal 0x5001 a 9 (octOf [x.trio.getD 0 255, x.trio.getD 1 255, x.trio.getD 2 255])).put 0x5002 a 2 (x.pair.2 * 256 + x.pair.1)

/-- Write blocks until no record waits. -/
def State.flushJournal (a : Nat) : Nat → State → State
  | 0, s => s
  | n + 1, s => if (s.arrS a).jwait.isEmpty then s else State.flushJournal a n (s.writeBlock a)

/-- Re-form the trio (R348) and the journal pair (R349): the checkpoint restates every open record. -/
def State.reform (s : State) (a m : Nat) : State :=
  let x := s.arrS a
  let s := if x.trio.contains m then (s.setArr a { x with trio := s.replaceIn a m x.trio }).writeRecords a else s
  let s := if x.pair.1 = m ∨ x.pair.2 = m then
      let keep := if x.pair.1 = m then x.pair.2 else x.pair.1
      let new := ((s.members a).find? fun y => decide (s.memState a y = 1 ∧ y ≠ keep)).getD keep
      let pair := if x.pair.1 = m then (new, keep) else (keep, new)
      let s := s.modArr a fun y => { y with
        pair := pair, jwait := (y.zone.map fun e => (s.now, { e.2 with typ := 3 })) ++ y.jwait }
      let s := if (s.arrS a).jwait.isEmpty then s.writeBlock a else State.flushJournal a 64 s
      s.writeSuperblock a
    else s
  s.syncRoles a

/-- A member is lost with a cause (R347). -/
def State.loseMember (s : State) (a m cause : Nat) : State :=
  let filling := decide (s.memState a m = 4)
  let entry := s.entryOf a m
  let done := match entry with
    | some e => (s.firstSeg a fun b => !bit b (e.k - 1)).isNone
    | none => false
  let s := s.put 0x5100 (memRow a m) 2 (if filling && done then 3 else 2)
  let s := (s.put 0x5100 (memRow a m) 5 cause).put 0x5100 (memRow a m) 6 s.ptpNow.toNat
  let s := if filling then s.clearSegs a 2 else s
  let s := if entry.isSome then s
    else
      match (List.range (s.aS a)).find? fun i => !((s.arrS a).subs.any fun e => decide (e.k = i + 1)) with
      | some i => s.modArr a fun x => { x with subGen := x.subGen + 1, subs := x.subs ++ [⟨m, i + 1, x.subGen + 1⟩] }
      | none => s
  let s := s.modArr a fun x => { x with work := none }
  let s := ((s.syncSubs a).syncArray a).writeSuperblock a
  let s := s.reform a m
  let ks := (s.slot.cmds.filter fun e => decide (e.2.array = a ∧ e.2.member = m) && !e.2.dead).map Prod.fst
  let s := s.each ks State.memberFails
  ((s.raise .memberLost [a, m, cause]).syncAna a).kickWork a

/-- The array fails: nothing further is written to its members (R346). -/
def State.failArray (s : State) (a m cause : Nat) : State :=
  let s := s.modArr a fun x => { x with failed := true }
  let queued := s.slot.cmds.filter fun e => decide (e.2.array = a ∧ e.2.op ≠ .read) && e.2.cid.isNone && !e.2.dead
  let s := s.each (queued.map Prod.fst) State.dropMc
  let s := (s.put 0x5100 (memRow a m) 2 2).put 0x5100 (memRow a m) 5 cause
  let s := (s.put 0x5100 (memRow a m) 6 s.ptpNow.toNat).syncArray a
  let ks := (s.slot.cmds.filter fun e => decide (e.2.array = a ∧ e.2.member = m) && !e.2.dead).map Prod.fst
  let s := s.each ks State.memberFails
  (s.raise .memberLost [a, m, cause]).syncAna a

/-- The loss would leave three members missing at once. -/
def State.thirdLoss (s : State) (a m : Nat) : Bool :=
  decide (3 ≤ ((s.missing a).filter fun x => decide (x ≠ m)).length + 1)

/-- A member meets a cause of Table 2, subject to R346. -/
def State.memberCause (s : State) (a m cause : Nat) : State :=
  if s.arrOn a && s.owns a && !(s.arrS a).failed && decide (s.memState a m = 1 ∨ s.memState a m = 4) then
    if s.thirdLoss a m && decide (s.memState a m = 1) then
      if cause = 4 ∨ cause = 6 then s.raise .memberAtRisk [a, m, cause]
      else s.failArray a m cause
    else s.loseMember a m cause
  else s

/-- Statistics of a member. -/
def State.stat (s : State) (a m : Nat) : MemberStat := Tbl.get {} (s.arrS a).stats m

def State.setStat (s : State) (a m : Nat) (x : MemberStat) : State :=
  s.modArr a fun y => { y with stats := Tbl.set y.stats m x }

/-- An unrecovered read error: counted over 24 h, and cause 4 beyond the limit (R343, R344). -/
def State.mediaError (s : State) (a m : Nat) : State :=
  let x := s.stat a m
  let ts := s.now :: within s.now (86400 * sNs) x.mediaErrors
  let s := (s.setStat a m { x with mediaErrors := ts }).put 0x5100 (memRow a m) 0xC ts.length
  if s.ob 0x5107 7 < ts.length then s.memberCause a m 4 else s

end Sys2Proof.Machine
end

