-- ==== Sys2Proof/Machine/MemberOps.lean ====
section
/-! DEFINITION. Commands of members and arrays (09, 10): statistics, read-around, slowness, ejection, replacement, creation
and deletion of arrays, zeroing, scrub and recovery. -/

namespace Sys2Proof.Machine

/-! ### Flush and journal events that let other work go on -/

/-- ACCUMULATION_COMPLETE (09 R312): new P and Q are in staging; work that waits for store goes on. An accumulation that folded in a
stomped record has failed instead (03 R97, 09 R313). -/
def accumulationComplete (c : Nat) (s : State) : State :=
  if s.fab.failedCtx.contains c then accumulationFailed c s else (s.foldedIn c).resumeWork

def execAccumulationComplete (t ctx : Nat) (s : State) : Res := act t (isContext ctx) s (accumulationComplete ctx)

/-! ### Zeroing (09 R320) -/

/-- The member commands that zero row `r` of a member: Write Zeroes where the drive has it, else writes of zeros. -/
def State.zeroCmds (s : State) (a r m : Nat) : List MemberCmd :=
  let slot := s.slotOf a m
  let c := s.aC a
  let base : MemberCmd := { slot := slot, array := a, member := m, op := .writeZeroes, off := rowBase c r, len := c
                            cls := 7, bg := 2, purpose := .zero a r }
  if (s.slotS slot).info.writeZeroes then [base]
  else (cutTransfer (s.maxTransfer slot) (c / 512 + 1) 0 c).map fun x =>
    { base with op := .write, off := base.off + x.1, len := x.2 }

/-- Submit the zeroing of row `r`. -/
def State.zeroRow (s : State) (a r : Nat) : State :=
  let s := s.modArr a fun x => { x with zeroing := some (r, []) }
  s.each ((s.activeMembers a).flatMap fun m => s.zeroCmds a r m) fun s c =>
    let k := s.nextMc
    let s := s.modArr a fun x => { x with zeroing := x.zeroing.map fun z => (z.1, z.2 ++ [k]) }
    s.enqMember c

/-- Set the zeroing watermark. -/
def State.setWatermark (s : State) (a r : Nat) : State :=
  (s.modArr a fun x => { x with watermark := r, zeroing := none }).put 0x5001 a 6 r

/-- Start the next row to zero; rows that are not fresh are passed over, and a row being flushed is waited for. -/
def State.kickZero (a : Nat) : Nat → State → State
  | 0, s => s
  | n + 1, s =>
    let x := s.arrS a
    if s.mayFlush a && !s.pwr.lull && !x.recovering && x.zeroing.isNone && decide (x.watermark < x.nRows) then
      let r := x.watermark
      if (s.flush? a r).isSome then s
      else if s.rowFresh a r then s.zeroRow a r
      else State.kickZero a n (s.setWatermark a (r + 1))
    else s

/-- ZEROING_ROW_COMPLETE: every write of the row has completed. -/
def zeroingRowComplete (a r : Nat) (s : State) : State :=
  match (s.arrS a).zeroing with
  | some (q, ks) => if q = r ∧ ks = [] then State.kickZero a 1024 (s.setWatermark a (r + 1)) else s
  | none => s

def execZeroingRowComplete (t array row : Nat) (s : State) : Res :=
  act t (isArray array) s (zeroingRowComplete array row)

/-- ZEROING_WATERMARK_WRITE: at least once a second the watermark goes to the superblock. -/
def zeroingWatermarkWrite (a : Nat) (s : State) : State :=
  let x := s.arrS a
  if s.mayFlush a && decide (x.savedWatermark ≠ x.watermark ∨ x.savedWork ≠ x.work) then
    (s.setArr a { x with savedWatermark := x.watermark }).writeSuperblock a
  else s

def execZeroingWatermarkWrite (t array : Nat) (s : State) : Res :=
  act t (isArray array) s (zeroingWatermarkWrite array)

/-- Let what waits for the rows of an array go on: repairs, restoring work, zeroing. -/
def State.kick (s : State) (a : Nat) : State := State.kickZero a 1024 (s.kickWork a)

/-- JOURNAL_BLOCK_DURABLE (09 R325, R326): both copies of the block are written; flushes open or end. -/
def journalBlockDurable (a seq : Nat) (s : State) : State := ((s.blockDurable a seq).settleWrites.resumeWork).kick a

def execJournalBlockDurable (t array seq : Nat) (s : State) : Res :=
  act t (isArray array) s (journalBlockDurable array seq)

/-! ### Member statistics (10 R335 to R337) -/

/-- The 99th percentile of service times, in ns: the smallest that at least 99 % of them do not exceed (log entry 31). -/
def percentile99 (xs : List Nat) : Rat :=
  let a := sortAsc (xs.map fun x => (x : Rat))
  a.getD ((99 * a.length + 99) / 100 - 1) 0

/-- Samples of a member in the statistics window. -/
def State.windowSamples (s : State) (a m : Nat) : List Nat :=
  ((s.stat a m).samples.filter fun e => decide (s.now < e.1 + s.ob 0x5107 8 * msNs)).map Prod.snd

/-- Percentiles, in µs, of the active members that have at least 100 samples. -/
def State.percentiles (s : State) (a : Nat) : List Rat :=
  ((s.members a).filter fun m => decide (s.memState a m = 1 ∧ 100 ≤ (s.windowSamples a m).length)).map fun m =>
    percentile99 (s.windowSamples a m) / 1000

/-- The statistics of one array. -/
def State.updateStats (s : State) (a : Nat) : State :=
  let s := s.each (s.members a) fun s m =>
    let xs := s.windowSamples a m
    let s := s.setStat a m { s.stat a m with
      samples := (s.stat a m).samples.filter fun e => decide (s.now < e.1 + s.ob 0x5107 8 * msNs) }
    s.setVal 0x5100 (memRow a m) 7 (.real (if s.memState a m = 1 ∧ 100 ≤ xs.length then percentile99 xs / 1000 else 0))
  let ps := s.percentiles a
  let s := if 3 ≤ ps.length then s.modArr a fun x => { x with lref := median ps } else s
  s.publishAround a

/-- MEMBER_STATISTICS_UPDATE. -/
def memberStatisticsUpdate (s : State) : State :=
  if s.arr.statsAt.any fun u => !dueAt s.now u (100 * msNs) then s else
  let s := { s with arr := { s.arr with statsAt := some s.now } }
  s.each ((List.range 4).filter fun a => s.arrOn a && s.owns a) State.updateStats

def execMemberStatisticsUpdate (t : Nat) (s : State) : Res := act t true s memberStatisticsUpdate

/-! ### Reading around (10 R338 to R342) -/

/-- A member command by slot and identifier. -/
def State.mcOf (s : State) (slot cid : Nat) : Option Nat :=
  ((s.outstanding slot).find? fun e => decide (e.2.cid = some cid)).map Prod.fst

/-- The read is past its read-around time. -/
def State.pastAround (s : State) (c : MemberCmd) : Bool :=
  decide ((c.since : Rat) + s.aroundTime c.array c.cls c.len ≤ (s.now : Rat))

/-- Positions of row `r` whose member has a read of the same command that is past its read-around time. -/
def State.latePositions (s : State) (id a r : Nat) : List Nat :=
  (List.range (s.aD a + 2)).filter fun p =>
    s.slot.cmds.any fun e => e.2.cid.isSome && decide (e.2.array = a ∧ e.2.member = (s.holder a r p).1) && s.serves e.2 id &&
      s.pastAround e.2

/-- Read around the member read `k` of command `id`: its stream goes to discard and its range is reconstructed. -/
def State.goAround (s : State) (k id off : Nat) : State :=
  let c := s.mc k
  let a := c.array
  match (s.cmd id).pieces.find? fun p => decide (p.off = off) with
  | none => s
  | some pc =>
    let (r, p, _) := place (s.aD a) (s.aC a) pc.addr
    let late := s.latePositions id a r
    match planRecon (s.aD a) p (p :: (s.unavailable a r ++ late)) with
    | none => s
    | some _ =>
      if 4096 ≤ s.o 0x5106 a 0xB then (s.setMc k { c with excess := true }).bump 0x5106 a 0xC
      else
        let s := (s.setMc k { c with around := some s.now, dead := true }).bump 0x5100 (memRow a c.member) 9
        (s.startRecon id off a pc.addr pc.len late (some k) false).syncArounds a

/-- READ_AROUND: a host read is past its read-around time. -/
def readAround (slot cid : Nat) (s : State) : State :=
  match s.mcOf slot cid with
  | none => s
  | some k =>
    let c := s.mc k
    if c.dead || c.excess || c.late || !s.pastAround c then s
    else
      match c.purpose with
      | .hostRead id off => if Tbl.has s.nvme.cmds id then s.goAround k id off else s
      | .recon rid pos =>
        match Tbl.find? s.arr.recons rid with
        | none => s
        | some x =>
          let (_, p, _) := place (s.aD x.array) (s.aC x.array) x.addr
          match planRecon (s.aD x.array) p (pos :: s.reconOut x) with
          | none => s
          | some _ =>
            let s := (s.setMc k { c with around := some s.now, dead := true }).bump 0x5100 (memRow c.array c.member) 9
            s.reconFail rid pos
      | _ => s

def execReadAround (t slot cid : Nat) (s : State) : Res := act t (isSlot slot) s (readAround slot cid)

/-- A read-around is long (R342). -/
def State.countLong (s : State) (a m : Nat) : State :=
  let x := s.stat a m
  let s := s.setStat a m { x with longs := s.now :: within s.now (s.ob 0x5107 3 * sNs) x.longs }
  s.bump 0x5100 (memRow a m) 0xA

/-! ### Slowness, ejection (10 R345, R346) -/

/-- Both thresholds of R345 are met. -/
def State.slowMet (s : State) (a m : Nat) : Bool :=
  let x := s.stat a m
  let w := s.ob 0x5107 3 * sNs
  let longs := (within s.now w x.longs).length
  let reads := (within s.now w x.reads).length
  decide (s.ob 0x5107 5 ≤ longs ∧ s.ob 0x5107 6 * reads ≤ 1000 * longs)

/-- Evaluate one member. -/
def State.evaluateSlow (s : State) (a m : Nat) : State :=
  if s.memState a m = 1 ∧ s.slowMet a m = true then
    if s.missing a = [] ∧ s.ob 0x5107 0xA = 1 then s.memberCause a m 3
    else
      let x := s.stat a m
      let due := match x.slowEvent with
        | none => true
        | some u => dueAt s.now u (60 * sNs)
      if due then (s.setStat a m { x with slowEvent := some s.now }).raise .slowMember [a, m] else s
  else s

/-- SLOWNESS_EVALUATION, each second. -/
def slownessEvaluation (s : State) : State :=
  if s.arr.slowAt.any fun u => !dueAt s.now u sNs then s else
  let s := { s with arr := { s.arr with slowAt := some s.now } }
  s.each ((List.range 4).filter fun a => s.arrOn a && s.owns a && !(s.arrS a).failed) fun s a =>
    s.each (s.members a) fun s m => s.evaluateSlow a m

def execSlownessEvaluation (t : Nat) (s : State) : Res := act t true s slownessEvaluation

/-- Array and member of a row of 5100h or 5111h. -/
def rowMember (row : Nat) : Nat × Nat := (row / 24, row % 24)

/-- An ejection is refused where no active member of an array of this module stands in the row, or where three members
would be missing. -/
def ejectCode (_ : Session) (st : Stage) (s : State) : Abort :=
  let (a, m) := rowMember st.row
  need (decide (st.n 0xD ≠ 1) ||
    (s.arrOn a && s.owns a && !(s.arrS a).failed && decide (m < s.aN a) &&
      (decide (s.memState a m = 4) || (decide (s.memState a m = 1) && !s.thirdLoss a m)))) abState

/-- MEMBER_EJECT: a commit of 5100h. -/
def memberEject (sess : Nat) (s : State) : State :=
  s.commitAs sess 0x5100 1 ejectCode fun st _ u =>
    let (a, m) := rowMember st.row
    if st.n 0xD = 1 then u.memberCause a m 7 else u

def execMemberEject (t sess : Nat) (s : State) : Res := act t true s (memberEject sess)

/-! ### Replacement (10 R357) -/

/-- Why the drive in a slot cannot replace member `m`: 0 for none. -/
def State.replaceReason (s : State) (a m slot : Nat) : Nat :=
  let x := s.arrS a
  if s.o 0x5200 slot 0xA ≠ x.lbaSize then 4
  else if s.o 0x5200 slot 9 < rowBase (s.aC a) x.nRows then 5
  else
    match s.memberIn slot with
    | some (b, n) => if ¬(b = a ∧ n = m) ∧ (s.memState b n = 1 ∨ s.memState b n = 4) then 6 else 0
    | none => 0

/-- Byte `k` of an octet string replaced. -/
def setOct (n v k b : Nat) : Nat := v - octByte n v k * 256 ^ (n - 1 - k) + b % 256 * 256 ^ (n - 1 - k)

/-- Accept the drive in a slot as replacement for lost member `m`, or refuse it with its reason. -/
def State.acceptDrive (s : State) (a m slot : Nat) : State :=
  let why := s.replaceReason a m slot
  if why ≠ 0 then (s.put 0x5111 (memRow a m) 4 why).raise .replacementRefused [a, m, slot, why]
  else
    let s := s.setVal 0x5000 a 7 (.oct 24 (setOct 24 (s.o 0x5000 a 7) m slot))
    let s := (s.put 0x5100 (memRow a m) 2 4).put 0x5100 (memRow a m) 3 slot
    let s := s.setVal 0x5100 (memRow a m) 4 (s.val 0x5200 slot 6)
    let s := s.put 0x5111 (memRow a m) 4 (if (s.entryOf a m).isSome then 1 else 2)
    let s := s.setStat a m { replaced := true }
    ((((s.clearSegs a 2).syncArray a).writeSuperblock a).kick a)

/-- The drive in a slot has come up: an automatic replacement takes it (5107h:0B). -/
def State.autoReplace (s : State) (slot : Nat) : State :=
  match s.memberIn slot with
  | some (a, m) =>
    if s.ob 0x5107 0xB = 1 ∧ s.owns a = true ∧ (s.memState a m = 2 ∨ s.memState a m = 3) ∧ (s.arrS a).failed = false then
      s.acceptDrive a m slot
    else s
  | none => s

/-- Slot of the candidate that a stage of 5111h names. -/
def State.candidate (s : State) (st : Stage) : Nat :=
  let (a, m) := rowMember st.row
  if st.n 2 = 255 then s.slotOf a m else st.n 2

def replacementCode (_ : Session) (st : Stage) (s : State) : Abort :=
  let (a, m) := rowMember st.row
  need (decide (st.n 3 ≠ 1) || (s.arrOn a && s.owns a && !(s.arrS a).failed && decide (m < s.aN a) &&
    decide (s.memState a m = 2 ∨ s.memState a m = 3) && s.slotReady (s.candidate st))) abState

/-- REPLACEMENT_ACCEPT: a commit of 5111h. -/
def replacementAccept (sess : Nat) (s : State) : State :=
  s.commitAs sess 0x5111 1 replacementCode fun st _ u =>
    let (a, m) := rowMember st.row
    if st.n 3 = 1 then u.acceptDrive a m (u.candidate st) else u

def execReplacementAccept (t sess : Nat) (s : State) : Res := act t true s (replacementAccept sess)

/-! ### Creating and deleting arrays (09 R300, R301, R333) -/

/-- Slots of a staged slot map. -/
def Stage.mapSlots (st : Stage) : List Nat := (List.range (st.n 3)).map fun k => octByte 24 (st.n 7) k

/-- No value twice. -/
def distinct : List Nat → Bool
  | [] => true
  | x :: r => !r.contains x && distinct r

/-- Rows that members of these capacities give. -/
def rowsFor (caps : List Nat) (c : Nat) : Nat :=
  match caps with
  | [] => 0
  | x :: r => (r.foldl min x - 8589934592) / c

/-- The geometry of R300 holds. -/
def Stage.geometryOk (st : Stage) : Bool :=
  decide (4 ≤ st.n 3 ∧ st.n 3 ≤ 24 ∧ 2 ≤ st.n 4 ∧ st.n 5 ≤ 2 ∧ st.n 3 = st.n 4 + 2 + st.n 5) &&
    [16, 32, 64, 128, 256].contains (st.n 6) &&
    decide (st.n 8 = 0xFFFF ∨ (st.n 8 / 256 < st.n 3 ∧ st.n 8 % 256 < st.n 3 ∧ st.n 8 / 256 ≠ st.n 8 % 256)) &&
    distinct st.mapSlots && st.mapSlots.all fun n => decide (n < 24)

/-- The drives of a staged array suit it: ready, in no array, one LBA size, enough rows (R300, R301). -/
def State.drivesOk (s : State) (st : Stage) : Bool :=
  let slots := st.mapSlots
  let c := st.n 6 * 1024
  let n := rowsFor (slots.map fun x => s.o 0x5200 x 9) c
  (slots.all fun x => s.slotReady x && (s.memberIn x).isNone && decide (s.o 0x5200 x 0xA = s.o 0x5200 (slots.headD 0) 0xA)) &&
    decide (1024 ≤ n ∧ n * st.n 4 * c ≤ 2 ^ 51)

/-- The check of a commit of 5000h: what it creates must fit, what exists keeps its geometry, what holds a namespace is
not deleted. -/
def arrayCode (_ : Session) (st : Stage) (s : State) : Abort :=
  let a := st.row
  if s.arrOn a then
    if st.n 2 = 0 then need (s.nsRows.all fun n => decide (s.nsArray n ≠ a)) abState
    else need ((s.changed 0x5000 st).all fun e => decide (e.1 = 9)) abState
  else if st.n 2 = 1 then firstCode [need st.geometryOk abJoin, need (s.drivesOk st) abState]
  else 0

/-- A new array: superblock, trio, journal pair, status, and zeroing starts. -/
def State.createArray (s : State) (a : Nat) : State :=
  let slots := (List.range (s.aN a)).map fun m => s.slotOf a m
  let n := rowsFor (slots.map fun x => s.o 0x5200 x 9) (s.aC a)
  let pair := s.o 0x5000 a 8
  let x : ArrState := { lbaSize := s.o 0x5200 (slots.headD 0) 0xA, nRows := n, ident := s.draw % 2 ^ 128
                        trio := [0, 1, 2], pair := if pair = 0xFFFF then (0, s.aN a - 1) else (pair % 256, pair / 256) }
  let s := s.drawn.setArr a x
  let s := s.each (s.members a) fun s m =>
    let s := (s.put 0x5100 (memRow a m) 2 1).put 0x5100 (memRow a m) 3 (s.slotOf a m)
    (s.setVal 0x5100 (memRow a m) 4 (s.val 0x5200 (s.slotOf a m) 6)).put 0x5100 (memRow a m) 5 0
  let s := (s.put 0x5001 a 3 n).put 0x5001 a 4 (s.arrCapacity a)
  let s := (s.put 0x5001 a 5 (s.arrCapacity a / 65536)).put 0x5001 a 6 0
  let s := s.setVal 0x5001 a 7 (.oct 16 x.ident)
  let s := (((s.syncSubs a).syncRoles a).syncArray a).publishAround a
  let s := s.writeSuperblock a
  State.kickZero a 1024 (s.syncAna a)

/-- An array ceases to exist. -/
def State.deleteArray (s : State) (a n : Nat) : State :=
  let ks := (s.slot.cmds.filter fun e => decide (e.2.array = a)).map Prod.fst
  let s := s.each ks State.closeStream
  let s := { s with arr := { s.arr with arrs := Tbl.erase s.arr.arrs a } }
  let s := s.each (List.range n) fun s m => (s.put 0x5100 (memRow a m) 2 0).put 0x5111 (memRow a m) 4 0
  let s := ((s.put 0x5001 a 3 0).put 0x5001 a 4 0).put 0x5001 a 5 0
  ((s.syncArray a).syncSubs a).syncAna a

/-- The effect of a commit of 5000h. -/
def applyArray (st : Stage) (old u : State) : State :=
  let a := st.row
  if old.arrOn a then (if st.n 2 = 0 then u.deleteArray a (old.aN a) else u)
  else if st.n 2 = 1 then u.createArray a else u

/-- ARRAY_CREATE: a commit of 5000h with Enable 1. -/
def arrayCreate (sess : Nat) (s : State) : State := s.commitAs sess 0x5000 1 arrayCode applyArray

def execArrayCreate (t sess : Nat) (s : State) : Res := act t true s (arrayCreate sess)

/-- ARRAY_DELETE: a commit of 5000h with Enable 0. -/
def arrayDelete (sess : Nat) (s : State) : State := s.commitAs sess 0x5000 1 arrayCode applyArray

def execArrayDelete (t sess : Nat) (s : State) : Res := act t true s (arrayDelete sess)

/-! ### Scrub (09 R329 to R331) -/

/-- A 4 KiB column's contents by position. -/
def columnAt (c : StripeColumn) (d p : Nat) : Option Content :=
  if c.bad.contains p then none
  else if p < d then c.data[p]? else if p = d then some c.p else if p = d + 1 then some c.q else none

/-- The position `z` with S_Q = g^z S_P at every byte. -/
def locateBad (d : Nat) (sp sq : Content) : Option Nat := (List.range d).find? fun z => decide (scale 4096 (gfPow z) sp = sq)

/-- One repair of a column: a method 4 write with its event (R330). -/
def State.scrubFix (s : State) (a r p o : Nat) (data : Content) : State :=
  (s.askRepair a r p o 4096 data).raise .scrubRepair [a, r, p, o]

/-- A column some of whose reads failed: what failed is reconstructed and written back (R331). -/
def State.scrubMedia (s : State) (a r o : Nat) (c : StripeColumn) : State :=
  let d := s.aD a
  let s := s.each c.bad fun s p => s.mediaError a (s.holder a r p).1
  if 2 < c.bad.length then s.loseStripe a (dataAddr d (s.aC a) r 0 o) 4096 c.bad
  else
    let ds := (List.range d).map fun i => (recoverData 4096 d (columnAt c d) i).getD 0
    s.each c.bad fun s p =>
      (s.scrubFix a r p o (if p < d then ds.getD p 0 else if p = d then parityP ds else parityQ 4096 0 ds)).bump 0x5020 a 0xA

/-- One column (Table 8). -/
def State.scrubColumn (s : State) (a r : Nat) (e : StripeColumn × Nat) : State :=
  let (c, i) := e
  let o := i * 4096
  if !c.bad.isEmpty then s.scrubMedia a r o c
  else
    let d := s.aD a
    let sp := c.p ^^^ parityP c.data
    let sq := c.q ^^^ parityQ 4096 0 c.data
    if sp = 0 ∧ sq = 0 then s.bump 0x5020 a 6
    else if sp = 0 then (s.scrubFix a r (d + 1) o (parityQ 4096 0 c.data)).bump 0x5020 a 7
    else if sq = 0 then (s.scrubFix a r d o (parityP c.data)).bump 0x5020 a 7
    else
      match locateBad d sp sq with
      | some z => (s.scrubFix a r z o (c.data.getD z 0 ^^^ sp)).bump 0x5020 a 8
      | none =>
        let s := s.scrubFix a r d o (parityP c.data)
        let s := s.scrubFix a r (d + 1) o (parityQ 4096 0 c.data)
        (s.bump 0x5020 a 9).raise .unlocatableMismatch [a, r, o]

/-- The end of a pass. -/
def State.endPass (s : State) (a : Nat) : State :=
  if s.o 0x5020 a 3 = (s.arrS a).nRows ∧ (s.arrS a).scrubSkipped = [] then
    ((s.bump 0x5020 a 4).put 0x5020 a 5 s.ptpNow.toNat).put 0x5020 a 3 0
  else s

/-- The row cannot be read now: it holds a dirty block, or a flush of it is in progress. -/
def State.rowBusy (s : State) (a r : Nat) : Bool := (s.flush? a r).isSome || !(s.rowPages a r).isEmpty

/-- Scrub may run: the array is optimal, zeroed, and scrub is on. -/
def State.mayScrub (s : State) (a : Nat) : Bool :=
  s.mayFlush a && !s.pwr.lull && !(s.arrS a).recovering && (s.missing a).isEmpty && decide (s.o 0x5020 a 2 = 1) &&
    decide ((s.arrS a).nRows ≤ (s.arrS a).watermark)

/-- SCRUB_ROW: the row is the next of the pass, or the next of those skipped once the pass has gone through. -/
def scrubRow (a r : Nat) (cols : List StripeColumn) (s : State) : State :=
  if s.mayScrub a && decide (cols.length = s.aC a / 4096) && cols.all (fun c => decide (c.data.length = s.aD a)) then
    let x := s.arrS a
    let next := s.o 0x5020 a 3
    if r = next ∧ next < x.nRows then
      if s.rowBusy a r then
        ((s.setArr a { x with scrubSkipped := x.scrubSkipped ++ [(r, 0)] }).put 0x5020 a 3 (next + 1)).endPass a
      else ((s.each cols.zipIdx fun s e => s.scrubColumn a r e).put 0x5020 a 3 (next + 1)).endPass a
    else
      match x.scrubSkipped with
      | (q, n) :: rest =>
        if q = r ∧ next = x.nRows then
          if s.rowBusy a r then
            if 2 ≤ n then ((s.setArr a { x with scrubSkipped := rest }).bump 0x5020 a 0xB).endPass a
            else s.setArr a { x with scrubSkipped := rest ++ [(q, n + 1)] }
          else ((s.setArr a { x with scrubSkipped := rest }).each cols.zipIdx fun s e => s.scrubColumn a r e).endPass a
        else s
      | [] => s
  else s

def execScrubRow (t array row : Nat) (columns : List StripeColumn) (s : State) : Res :=
  act t (isArray array) s (scrubRow array row columns)

/-! ### Recovery (10 R366 to R368) -/

/-- Source of the dirty data: 0 none needed, 1 HBM, 2 vault, 3 peer mirror, 4 none found. -/
def dirtySource (e : RecoveryEnv) : Nat :=
  if e.hbmOk then 1 else if e.vaultOk then 2 else if e.mirrorOk then 3 else if e.dirtyExpected then 4 else 0

/-- Journal source of Table 5. -/
def State.journalSource (s : State) (a : Nat) : Nat :=
  let p := (s.arrS a).pair
  match decide (s.memState a p.1 = 1), decide (s.memState a p.2 = 1) with
  | true, true => 0
  | true, false => 1
  | false, true => 2
  | false, false => 3

/-- Drop the dirty data of an array, with its intent entries. -/
def State.dropDirty (s : State) (a : Nat) : State :=
  { s with arr := { s.arr with
      pages := s.arr.pages.filter fun e => decide (e.1 / 2 ^ 40 ≠ a)
      intent := s.arr.intent.filter fun e => decide (e.array ≠ a) } }

/-- Bring both versions of every page of an array together: a flush that recovery finds open is made again. -/
def State.mergePages (s : State) (a : Nat) : State :=
  let merge (g : GPage) : GPage :=
    match g.cur, g.snap with
    | some v, some w =>
      let data := (List.range 8).foldl (init := w.data) fun c k =>
        if bit v.mask k then patch c (k * 512) 512 (slice v.data (k * 512) 512) else c
      { cur := some { v with data := data, mask := v.mask ||| w.mask }, snap := none }
    | none, w => { cur := w, snap := none }
    | v, none => { cur := v, snap := none }
  { s with arr := { s.arr with
      pages := s.arr.pages.map fun e => if e.1 / 2 ^ 40 = a then (e.1, merge e.2) else e
      flushes := s.arr.flushes.filter fun e => decide (e.1 / 2 ^ 40 ≠ a) } }

/-- Open rows: those that the journal names, or with no journal every row of an unretired intent entry. -/
def State.openRows (s : State) (a : Nat) (e : RecoveryEnv) : List Nat :=
  if s.journalSource a = 3 then ((s.arr.intent.filter fun i => decide (i.array = a)).map fun i => i.row).eraseDups
  else (e.openRows.map Prod.fst).eraseDups

/-- Settle an open row (R368): flushed again where intent entries name it, else its parity is recomputed. -/
def State.settleRow (s : State) (a r : Nat) : State :=
  let named := s.arr.intent.any fun i => decide (i.array = a ∧ i.row = r)
  if named then (s.bump 0x5130 a 7).beginFlush a r (some 1)
  else
    let u := match (s.arrS a).zone.find? fun e => decide (e.2.row = r) with
      | some e => (e.2.start, e.2.len)
      | none => (0, s.aC a)
    (s.bump 0x5130 a 8).askRepair a r 99 u.1 u.2 0

/-- Write closing records for the open flush sequences found. -/
def State.closeOpen (s : State) (a : Nat) (e : RecoveryEnv) : State :=
  let s := s.each e.openRows fun s x =>
    s.jAppend a { typ := 2, method := 1, degraded := false, map := 0, row := x.1, fseq := x.2, start := 0, len := 0
                  mark := 0, time := s.ptpNow, subGen := (s.arrS a).subGen }
  let s := s.modArr a fun y => { y with zone := y.zone.filter fun z => !(e.openRows.any fun x => decide (x.2 = z.2.fseq)) }
  s.put 0x5002 a 5 (s.arrS a).zone.length

/-- Lose the torn columns found: row, position, column. -/
def State.loseTorn (s : State) (a : Nat) (e : RecoveryEnv) : State :=
  s.each e.tornColumns fun s x =>
    let s := s.loseRange a (dataAddr (s.aD a) (s.aC a) x.1 x.2.1 (x.2.2 * 4096)) 4096 2
    s.add 0x5130 a 9 (4096 / max 1 (s.arrS a).lbaSize)

/-- The copy that recovery takes from the vault: the newest complete one that names the array (15 R543). -/
def State.vaultCopy (s : State) (a : Nat) : Option CopyRegion :=
  ((s.pwr.regions.map Prod.snd).filter fun c => decide (c.state = 2) && (bit c.arrays a || bit c.arrays (a + 4))).foldl
    (init := none) fun b c => match b with
      | none => some c
      | some d => some (if d.seq < c.seq then c else d)

/-- Take the dirty pages and intent entries of an array from the vault copy (10 R366). -/
def State.restoreVault (s : State) (a : Nat) : State :=
  match s.vaultCopy a with
  | none => s
  | some c =>
    let s := s.dropDirty a
    let s := s.each ((c.pages ++ c.taken).filter fun e => decide (e.1 / 2 ^ 40 = a)) fun s e =>
      let now (v : Option PageVer) : Option PageVer := v.filter fun v => decide (v.keyGen = s.o 0x3230 v.nsRow 0xB)
      s.setPage a (e.1 % 2 ^ 40) { cur := now e.2.cur, snap := now e.2.snap }
    let es := c.intents.filter fun e => decide (e.array = a ∧ e.keyGen = s.o 0x3230 e.nsRow 0xB)
    { s with arr := { s.arr with
        intent := s.arr.intent ++ es, intentSeq := es.foldl (fun m e => max m (e.seq + 1)) s.arr.intentSeq } }

/-- During a takeover nothing goes to a member of a taken array before the peer's silence is certain (14 R498). -/
def State.mayRecover (s : State) (a : Nat) : Bool :=
  match s.twin.take with
  | none => true
  | some k => !k.left.contains a || s.twin.yieldIn || decide (k.trigger = 4) || (s.ob 0x2400 6 = 1 && s.twin.yieldRec.isSome)

/-- ARRAY_RECOVERY. -/
def arrayRecovery (a : Nat) (e : RecoveryEnv) (s : State) : State :=
  if s.arrOn a && s.owns a && (s.arrS a).recovering && s.mayRecover a && !s.silent then
    let src := dirtySource e
    let s := s.modArr a fun x => { x with
      sbGen := max x.sbGen e.superblockGen, lref := 200, jblocks := [], jwait := [], zeroing := none, work := x.savedWork
      repairWait := [], recovering := false, held := decide (src = 4) }
    let s := if src = 4 ∨ src = 0 then s.dropDirty a else if src = 2 then s.restoreVault a else s
    let s := s.mergePages a
    let rows := s.openRows a e
    let s := (((s.put 0x5130 a 3 e.occasion).put 0x5130 a 4 (s.journalSource a)).put 0x5130 a 5 src).put 0x5130 a 6 rows.length
    let s := ((s.put 0x5130 a 7 0).put 0x5130 a 8 0).put 0x5130 a 9 0
    let s := s.loseTorn a e
    let s := s.each rows fun s r => s.settleRow a r
    let s := (s.closeOpen a e).put 0x5130 a 2 s.ptpNow.toNat
    let s := if src = 4 then s.raise .acknowledgedDataLost [a] else s
    ((((s.writeSuperblock a).publishAround a).syncAna a).syncDirty).kick a
  else s

/-- ACKNOWLEDGE_LOSS: a commit of 5130h. -/
def acknowledgeLoss (sess : Nat) (s : State) : State :=
  s.commitAs sess 0x5130 1 (fun _ _ _ => 0) fun st _ u =>
    if st.n 0xA = 1 then u.modArr st.row fun x => { x with held := false } else u

def execAcknowledgeLoss (t sess : Nat) (s : State) : Res := act t true s (acknowledgeLoss sess)

end Sys2Proof.Machine
end

