-- ==== Sys2Proof/Machine/Slots.lean ====
section
/-! DEFINITION. Drive slots (11): sideband and bring-up, links, the module's requests and NVMe commands, the reset ladder, the
drive's transfers, misbehaviour, and the slot power that bring-up needs (15 R520, R524, R525, R528). -/

namespace Sys2Proof.Machine

def State.modSlot (s : State) (n : Nat) (f : Slot → Slot) : State := s.setSlot n (f (s.slotS n))

/-- State of a slot (5200h:02). -/
def State.slotState (s : State) (n : Nat) : Nat := s.o 0x5200 n 2

def State.setSlotState (s : State) (n v : Nat) : State := s.put 0x5200 n 2 v

/-! ### Slot power (15) -/

/-- A slot's allocation and the allocations of all slots, in W (15 R524). -/
def State.allocation (s : State) (n : Nat) : Rat := (s.val 0x2210 n 7).toRat

def State.allocated (s : State) : Rat := (List.range 24).foldl (fun v n => v + s.allocation n) 0

def State.setAllocation (s : State) (n : Nat) (w : Rat) : State :=
  let s := s.setVal 0x2210 n 7 (.real w)
  s.setVal 0x2211 0 2 (.real s.allocated)

/-- Open both feeds of a slot. -/
def State.openFeeds (s : State) (n : Nat) : State :=
  (s.modSlot n fun x => { x with auxOn := false, mainOn := false, ramping := none, powerGood := none }).setAllocation n 0

/-- A slot whose ramp is to start: auxiliary on, IFDET# sampled, 12 V neither on nor ramping. -/
def Slot.wantsRamp (x : Slot) : Bool :=
  x.auxOn && x.ifdet.isSome && !x.mainOn && x.ramping.isNone && x.retryAt.isNone && !x.latched

/-- At most four slots ramp at once. -/
def State.rampRoom (s : State) : Bool := decide ((s.slot.slots.filter fun e => e.2.ramping.isSome).length < 4)

/-- The other allocations and the slot's cap fit the budget. -/
def State.budgetFits (s : State) (n : Nat) : Bool :=
  decide (s.allocated - s.allocation n + (s.o 0x2210 n 6 : Nat) ≤ (s.ob 0x2211 1 : Nat))

/-- Start the 12 V ramp of a slot where the budget and the ramp limit allow; else it waits. -/
def State.tryRamp (s : State) (n : Nat) : State :=
  if s.pwr.storm || s.loaderOnly || !(s.slotS n).wantsRamp then s
  else if !s.budgetFits n then
    if s.o 0x2210 n 2 = 7 then s else (s.put 0x2210 n 2 7).raise .slotBudget [n]
  else if s.rampRoom then
    ((s.modSlot n fun x => { x with ramping := some s.now }).put 0x2210 n 2 2).setAllocation n (s.o 0x2210 n 6)
  else s.put 0x2210 n 2 1

/-! ### Bring-up (R389, Table 5) -/

/-- Step 1: an accepted drive gets its auxiliary feed. -/
def State.bringUp (s : State) (n : Nat) : State :=
  let s := s.modSlot n fun x => { x with
    accepted := some s.now, auxOn := true, mainOn := false, ramping := none, ifdet := none, powerGood := none, perst := true
    perstAt := none, linkUp := false, linkAt := none, tries := 0, dpc := none, ladder := none, smbus := [], pwrdis := false
    tempHigh := false, cfs := false, waitsTwin := false, bars := [], link := none, setup := none, bme := false }
  ((s.setSlotState n 1).put 0x5200 n 0x12 0).put 0x2210 n 2 1

/-- The slot may be powered: enabled, not switched off by the operator, no storm warning. -/
def State.slotEnabled (s : State) (n : Nat) : Bool :=
  decide (s.o 0x5201 n 2 = 1 ∧ s.o 0x2210 n 0xC = 0) && !s.pwr.storm && !s.loaderOnly

/-! ### Gone drives (R391, Table 6) -/

/-- Containment or a reset of the link frees the tags of a slot: each request that is outstanding completes to its requester with
error status (Table 6 step 2, R393). -/
def State.freeTags (s : State) (n : Nat) : State :=
  let ts := (s.slotS n).tags
  let s := s.modSlot n fun x => { x with tags := [] }
  s.each ts fun s e =>
    match e.2.dma with
    | some (c, run, _) => if e.2.quarantined then s else s.dmaReadLost c run
    | none => s

/-- A read over a slot's link takes a tag, or waits for one. -/
def State.slotAsk (s : State) (n : Nat) (u : TagUse) (off len : Nat) : Option State :=
  let y := s.slotS n
  (Tbl.freeKey y.tags 0 256).map fun tag =>
    (s.setSlot n { y with tags := Tbl.set y.tags tag u }).emit (.slotRead n tag off len)

/-- A drive is gone: its member is lost with cause 1, every command ends, the slot takes `state`. The four steps of Table 6
up to the member's loss happen at the event (log entry 32). -/
def State.driveGone (s : State) (n state : Nat) : State :=
  let was := s.slotState n
  let s := (s.freeTags n).modSlot n fun x => { x with
    linkUp := false, linkAt := none, ladder := none, askPeer := none, waitsTwin := false, bars := [], link := none
    setup := none, bme := false, adminAbort := none, smartAsked := none, smartLate := false, smartAt := none }
  let s := (s.setSlotState n state).put 0x5200 n 3 0
  let s := match s.memberIn n with
    | some (a, m) => s.memberCause a m 1
    | none => s
  let ks := ((s.slotCmds n).filter fun e => !e.2.dead).map Prod.fst
  let s := s.each ks State.memberFails
  let s := s.each ((s.slotCmds n).map Prod.fst) State.dropMc
  let s := (s.put 0x5200 n 4 0).put 0x5200 n 5 0
  if was = 0 then s else s.raise .driveGone [n, was]

/-- DPC contains a port: the drive is gone, and DPC may be released later. -/
def State.contain (s : State) (n : Nat) : State :=
  (s.driveGone n 7).modSlot n fun x => { x with dpc := some s.now }

/-- Turn a slot off by hand: an active member is ejected with cause 7 (R402). -/
def State.powerOffSlot (s : State) (n : Nat) : State :=
  let s := match s.memberIn n with
    | some (a, m) => s.memberCause a m 7
    | none => s
  let s := ((s.driveGone n 9).openFeeds n).modSlot n fun x => { x with pwrdis := true, perst := true }
  s.put 0x2210 n 2 6

/-- Power a slot again: a drive that is present is brought up as an inserted one. -/
def State.powerOnSlot (s : State) (n : Nat) : State :=
  if s.slotEnabled n then
    let s := s.modSlot n fun x => { x with pwrdis := false }
    if (s.slotS n).prsnt then s.bringUp n else (s.setSlotState n 0).put 0x2210 n 2 0
  else s

/-! ### Presence (R389, R390) -/

/-- Declare a presence line faulty, in case 1, 2 or 3 of R390. -/
def State.presenceFault (s : State) (n case : Nat) : State :=
  let s := (s.modSlot n fun x => { x with presenceCase := case }).put 0x5200 n 0x11 1
  let s := s.raise .presenceFaulty [n, case]
  if case = 3 then ((s.driveGone n 0).openFeeds n).put 0x2210 n 2 0 else s

/-- A change of PRSNT#: more than 8 within 60 s make the line faulty. -/
def State.presenceChange (s : State) (n : Nat) : State :=
  let x := s.slotS n
  let ts := s.now :: within s.now (60 * sNs) x.presenceTimes
  let s := s.setSlot n { x with presenceTimes := ts }
  if 8 < ts.length then s.presenceFault n 1 else s

/-- DRIVE_INSERTION: an insertion is accepted. -/
def driveInsertion (n : Nat) (s : State) : State :=
  let x := s.slotS n
  if x.presenceCase = 3 then s
  else if x.presenceCase ≠ 0 then
    match x.linkSteadyAt with
    | some u =>
      if x.linkUp = true ∧ s.slotState n = 0 ∧ dueAt s.now u (s.o 0x5201 n 5 * msNs) = true ∧ s.slotEnabled n = true then
        (s.setSlot n { x with accepted := some s.now, linkAt := some u }).setSlotState n 3
      else s
    | none => s
  else if x.prsnt then s
  else
    let s := (s.setSlot n { x with prsnt := true, prsntOffAt := none }).presenceChange n
    if (s.slotS n).presenceCase ≠ 0 then s
    else if s.slotEnabled n then s.bringUp n else s.setSlotState n 9

def execDriveInsertion (t slot : Nat) (s : State) : Res := act t (isSlot slot) s (driveInsertion slot)

/-- The drive has left its slot: power off, latch cleared. -/
def State.removed (s : State) (n : Nat) : State :=
  let s := (s.driveGone n 0).openFeeds n
  let s := s.modSlot n fun x => { x with perst := true, latched := false, retryAt := none, faults := [], trainFails := 0, dpc := none }
  s.put 0x2210 n 2 (if s.o 0x2210 n 0xC = 1 ∨ s.o 0x5201 n 2 = 0 then 6 else 0)

/-- DRIVE_REMOVAL: the filtered PRSNT# deasserts. -/
def driveRemoval (n : Nat) (s : State) : State :=
  let x := s.slotS n
  if x.presenceCase ≠ 0 ∨ x.prsnt = false then s
  else
    let s := (s.setSlot n { x with prsnt := false, prsntOffAt := some s.now }).presenceChange n
    if (s.slotS n).presenceCase ≠ 0 then s else s.removed n

def execDriveRemoval (t slot : Nat) (s : State) : Res := act t (isSlot slot) s (driveRemoval slot)

/-! ### Slot settings (5201h; 15 R528) -/

/-- The loss of the drive in a slot would leave three members of its array missing. -/
def State.slotThirdLoss (s : State) (n : Nat) : Bool :=
  match s.memberIn n with
  | some (a, m) => s.owns a && !(s.arrS a).failed && decide (s.memState a m = 1) && s.thirdLoss a m
  | none => false

/-- A commit that may turn a slot off: `off` tells whether it does. In twin mode the peer's consent is asked first, and
the commit waits for it (15 R528). -/
def State.powerCommit (s : State) (sess win : Nat) (off : Stage → State → Bool) (app : Stage → State → State → State) : State :=
  s.withSession sess fun x =>
    let st := s.stage x win
    let c := firstCode (s.commitCodes x win 1 st ++
      [need (!(off st s && s.slotThirdLoss st.row)) abState, s.storeCode (s.changesKept win st)])
    if c = 0 then
      if s.paired && off st s then
        let h : HeldCommit := ⟨sess, win, st, none, s.nextRec, s.now⟩
        ({ s with twin := { s.twin with held := s.twin.held ++ [h] } }).sendRec .driveRequest st.row 0 4 (.code 2)
      else (s.applyCommit sess win st app).reply sess 0
    else s.refuse sess c

/-- What a commit of 5201h does: the admin state, and clearing a presence fault. -/
def applySlotSettings (st : Stage) (old u : State) : State :=
  let n := st.row
  let u := if st.n 7 = 1 ∧ (u.slotS n).presenceCase ≠ 0 then
      (u.modSlot n fun x => { x with presenceCase := 0, presenceTimes := [], trainFails := 0 }).put 0x5200 n 0x11 0
    else u
  if old.o 0x5201 n 2 = 1 ∧ st.n 2 = 0 then u.powerOffSlot n
  else if old.o 0x5201 n 2 = 0 ∧ st.n 2 = 1 then u.powerOnSlot n
  else u

def slotTurnsOff (st : Stage) (s : State) : Bool := decide (s.o 0x5201 st.row 2 = 1 ∧ st.n 2 = 0)

/-- SLOT_ADMIN_STATE_WRITE: a commit of 5201h. -/
def slotAdminStateWrite (sess : Nat) (s : State) : State := s.powerCommit sess 0x5201 slotTurnsOff applySlotSettings

def execSlotAdminStateWrite (t sess : Nat) (s : State) : Res := act t true s (slotAdminStateWrite sess)

/-- CLEAR_PRESENCE_FAULT: a commit of 5201h with 07h at 1. -/
def clearPresenceFault (sess : Nat) (s : State) : State := s.powerCommit sess 0x5201 slotTurnsOff applySlotSettings

def execClearPresenceFault (t sess : Nat) (s : State) : Res := act t true s (clearPresenceFault sess)

/-! ### Bring-up steps 2 to 9 -/

/-- IFDET_SAMPLE: step 2, 5 ms after the auxiliary feed. -/
def ifdetSample (n : Nat) (nvme : Bool) (s : State) : State :=
  let x := s.slotS n
  match x.accepted with
  | some u =>
    if s.slotState n = 1 ∧ x.auxOn = true ∧ x.ifdet.isNone = true ∧ dueAt s.now u (5 * msNs) = true then
      (s.setSlot n { x with ifdet := some nvme }).tryRamp n
    else s
  | none => s

def execIfdetSample (t slot : Nat) (nvme : Bool) (s : State) : Res := act t (isSlot slot) s (ifdetSample slot nvme)

/-- PERST_RELEASE: step 4, 100 ms after power-good. -/
def perstRelease (n : Nat) (s : State) : State :=
  let x := s.slotS n
  match x.powerGood with
  | some u =>
    if s.slotState n = 1 ∧ dueAt s.now u (100 * msNs) = true ∧ s.silent = false then
      (s.setSlot n { x with perst := false, perstAt := some s.now }).setSlotState n 2
    else s
  | none => s

def execPerstRelease (t slot : Nat) (s : State) : Res := act t (isSlot slot) s (perstRelease slot)

/-- Nominal width of a slot link. -/
def State.slotWidth (s : State) : Nat := if s.twin.twinMode then 2 else 4

/-- The lanes that the module drives at a slot (00 R5): the first lane and their number. In twin mode module A drives lanes 0 and 1
and module B lanes 2 and 3; a module whose role is not settled drives none that the spec names. -/
def State.slotLanes (s : State) : Option (Nat × Nat) :=
  if s.twin.twinMode = false then some (0, 4)
  else if s.ob 0x2400 2 = 1 then some (0, 2)
  else if s.ob 0x2400 2 = 2 then some (2, 2)
  else none

/-- The levels of a slot's sideband outputs (11 R375, Table 4): `true` for an asserted line, a clock that runs, the activity
indicator's relay apart. -/
structure SlotPins where
  perst0 : Bool
  perst1 : Bool
  pwrdis : Bool
  dualPortEn : Bool
  refclk0 : Bool
  refclk1 : Bool
  downSpread : Bool
deriving DecidableEq, Repr

/-- The sideband outputs of a slot: in solo mode both PERST# lines are driven together; in twin mode module A drives PERST0# and
REFCLK0 and module B PERST1# and REFCLK1. With SRIS (5201h:03) the clock carries −0.5 % down-spread. -/
def State.slotPins (s : State) (n : Nat) : SlotPins :=
  let x := s.slotS n
  let solo := !s.twin.twinMode
  let isA := decide (s.ob 0x2400 2 = 1)
  let isB := decide (s.ob 0x2400 2 = 2)
  { perst0 := x.perst && (solo || isA), perst1 := x.perst && (solo || isB), pwrdis := x.pwrdis, dualPortEn := s.twin.twinMode
    refclk0 := x.clock && (solo || isA), refclk1 := x.clock && isB && !solo, downSpread := decide (s.o 0x5201 n 3 = 1) }

/-- The link's rate and width; a narrower or slower one than the nominal raises the event (11 R373). -/
def State.linkFigures (s : State) (n rate width : Nat) : State :=
  let s := (s.put 0x5200 n 4 rate).put 0x5200 n 5 width
  if rate < 64 ∨ width < s.slotWidth then s.raise .slotDegraded [n, rate, width] else s

/-- SLOT_LINK_UP: the link has trained. The first configuration request follows after 100 ms and takes a tag. -/
def slotLinkUp (n rate width : Nat) (s : State) : State :=
  let x := s.slotS n
  if x.linkUp then s
  else if x.ladder.isSome then (s.setSlot n { x with linkUp := true }).linkFigures n rate width
  else if s.slotState n = 2 then
    let tags := match Tbl.freeKey x.tags 0 256 with
      | some k => Tbl.set x.tags k { since := s.now + 100 * msNs }
      | none => x.tags
    let s := s.setSlot n { x with linkUp := true, linkAt := some s.now, trainFails := 0, tags := tags }
    (s.linkFigures n rate width).setSlotState n 3
  else if s.slotState n = 0 then
    let s := (s.setSlot n { x with linkUp := true, linkSteadyAt := some s.now }).linkFigures n rate width
    if x.presenceCase = 0 ∧ x.prsnt = false ∧ dueAt s.now (x.prsntOffAt.getD 0) sNs = true then s.presenceFault n 2 else s
  else s

def execSlotLinkUp (t slot rate width : Nat) (s : State) : Res :=
  act t (isSlot slot && [16, 32, 64].contains rate && [1, 2, 4].contains width) s fun u =>
    u.when (decide (width ≤ u.slotWidth)) (slotLinkUp slot rate width)

/-- Cycle PERST# and train again, at most three times; then the link has failed. -/
def State.retrain (s : State) (n : Nat) : State :=
  let s := s.freeTags n
  let x := s.slotS n
  if x.tries < 3 then
    (s.setSlot n { x with tries := x.tries + 1, perst := false, perstAt := some s.now, linkUp := false, linkAt := none }).setSlotState n 2
  else
    let s := (s.setSlot n { x with trainFails := x.trainFails + 1, linkUp := false, linkAt := none }).setSlotState n 10
    if 3 ≤ x.trainFails + 1 ∧ x.prsnt = true ∧ x.presenceCase = 0 then s.presenceFault n 3 else s

/-- LINK_TRAINING_TIMEOUT: no link within 100 ms of the release of PERST#. -/
def linkTrainingTimeout (n : Nat) (s : State) : State :=
  match (s.slotS n).perstAt with
  | some u => if s.slotState n = 2 ∧ dueAt s.now u (100 * msNs) = true then s.retrain n else s
  | none => s

def execLinkTrainingTimeout (t slot : Nat) (s : State) : Res := act t (isSlot slot) s (linkTrainingTimeout slot)

/-- Put a BAR into a list ordered by size, after those of its size. -/
def insertBar (x : Nat × Nat) : List (Nat × Nat) → List (Nat × Nat)
  | [] => [x]
  | y :: r => if y.2 < x.2 then x :: y :: r else y :: insertBar x r

/-- Offsets in the slot's window for BARs in the order in which they are assigned: number, offset, size. -/
def layBars (off : Nat) : List (Nat × Nat) → List (Nat × Nat × Nat)
  | [] => []
  | (i, n) :: r => (i, off, n) :: layBars (off + n) r

/-- Assign memory BARs of the given sizes inside the slot's window, in descending order of size from its start (01 R22, 11 R377):
offset and size of each, by BAR. -/
def assignBars (sizes : List Nat) : List (Nat × Nat) :=
  let laid := layBars 0 ((sizes.zipIdx.map fun e => (e.2, e.1)).foldl (fun l x => insertBar x l) [])
  (List.range sizes.length).map fun i =>
    match laid.find? fun e => decide (e.1 = i) with
    | some e => e.2
    | none => (0, 0)

/-- Module address of an offset in a slot's BAR window (01 R22). -/
def barAddr (n off : Nat) : Nat := 0x100000000000 + n * 2 ^ 32 + off

/-- How the module programs the link and the drive of a slot (11 R372, R374, R377). -/
def State.linkSetupOf (s : State) (n : Nat) (i : DriveInfo) : LinkSetup :=
  { bus := n + 1, flit := decide (s.o 0x5200 n 4 = 64) || i.flit, maxPayload := min 512 i.maxPayload }

/-- I/O queues granted, their entries, and the commands they hold in all (R384, R385). -/
def drvQueues (i : DriveInfo) : Nat := min 32 (min i.sqGranted i.cqGranted)
def drvEntries (i : DriveInfo) : Nat := min (i.mqes + 1) 256

/-- The first condition of Table 2 that fails, leaving out condition 8; 0 for none. -/
def refusal (x : Slot) (i : DriveInfo) : Nat :=
  if 2 ^ 32 < sumNat i.bars then 1
  else if i.classCode ≠ 0x010802 then 2
  else if i.ns1Ok = false ∨ ¬(i.lbaSize = 512 ∨ i.lbaSize = 4096) then 3
  else if i.mdts ≠ 0 ∧ i.mdts < 32768 then 4
  else if i.sqGranted < 4 ∨ i.cqGranted < 4 then 5
  else if i.cfs then 7
  else if x.ifdet = some false then 9
  else if drvQueues i * (drvEntries i - 1) < 128 then 10
  else 0

/-- Leave a drive unconfigured with a reason. -/
def State.refuseDrive (s : State) (n reason : Nat) : State :=
  ((s.setSlotState n 5).put 0x5200 n 3 reason).raise .driveRefused [n, reason]

/-- The power state that R525 chooses: the lowest-numbered operational one that fits, as number and W. -/
def State.choosePower (s : State) (n : Nat) (i : DriveInfo) : Option (Nat × Rat) :=
  let room : Rat := min (s.o 0x2210 n 6 : Nat) ((s.ob 0x2211 1 : Nat) - (s.allocated - s.allocation n))
  (i.powerStates.zipIdx.find? fun e => e.1.2 && decide ((e.1.1 : Rat) / 1000 ≤ room)).map fun e => (e.2, (e.1.1 : Rat) / 1000)

/-- This module sets Power Management: module A, or the module that runs alone. -/
def State.setsPower (s : State) : Bool := !s.twin.twinMode || decide (s.ob 0x2400 2 = 1) || decide (s.twinPhase = 3)

/-- The controller of a drive is set by Table 3 and its queues are created (11 R380, R384). -/
def State.buildCtrl (s : State) (n : Nat) : State :=
  let x := s.slotS n
  let d : DriveSetup := { clearWce := decide (x.info.vwc = 1), powerState := x.powerState, queues := drvQueues x.info, entries := drvEntries x.info }
  (s.setSlot n { x with setup := some d, bme := true }).emit (.driveSetup n d)

/-- Allocate by a power state. -/
def State.takePower (s : State) (n ps : Nat) (w : Rat) : State :=
  (s.modSlot n fun x => { x with powerState := ps }).setAllocation n w

/-- Steps 8 and 9: the controller is initialised, the drive is ready. -/
def State.finishReady (s : State) (n : Nat) : State :=
  let i := (s.slotS n).info
  let chosen := if s.setsPower then s.choosePower n i
    else (i.powerStates[i.powerState]?).map fun e => (i.powerState, (e.1 : Rat) / 1000)
  match chosen with
  | none => (((s.modSlot n fun x => { x with mainOn := false, powerGood := none, linkUp := false }).put 0x2210 n 2 7).setAllocation n 0
      |>.setSlotState n 1).raise .slotBudget [n]
  | some (ps, w) =>
    let s := ((s.takePower n ps w).setSlotState n 6).put 0x5200 n 3 0
    let s := ((s.setVal 0x5200 n 6 (.str i.serial)).setVal 0x5200 n 7 (.str i.model)).setVal 0x5200 n 8 (.str i.firmware)
    let s := ((s.put 0x5200 n 9 i.capacity).put 0x5200 n 0xA i.lbaSize).put 0x5200 n 0xB (drvQueues i)
    let s := ((s.put 0x5200 n 0xC (drvEntries i)).put 0x5200 n 0x10 i.vwc).put 0x5200 n 0x13 i.mdts
    let s := (s.modSlot n fun x => { x with
      ready := true, tags := [], waitsTwin := false, askPeer := none, smartAsked := some s.now }).buildCtrl n
    let s := match s.memberIn n with
      | some (a, m) => s.setVal 0x5100 (memRow a m) 4 (.str i.serial)
      | none => s
    (s.raise .driveReady [n]).autoReplace n

/-- Condition 8 (R378): in twin mode the drive shows NMIC, and while paired the peer reaches it too. -/
def State.twinCondition (s : State) (n : Nat) : State :=
  let x := s.slotS n
  if s.twin.twinMode = false then s.finishReady n
  else if s.paired then
    if x.info.nmic then
      let q := s.nextRec
      (s.setSlot n { x with askPeer := some q, askKind := 1, waitsTwin := false }).sendRec .driveRequest n 0 4 (.code 1)
    else s.refuseDrive n 8
  else if s.twinPhase = 3 then (if x.info.nmic then s.finishReady n else s.refuseDrive n 8)
  else (s.setSlot n { x with waitsTwin := true }).put 0x5200 n 3 8

/-- DRIVE_READY: CSTS.RDY has reached 1; the conditions of Table 2 decide. -/
def driveReady (n : Nat) (i : DriveInfo) (s : State) : State :=
  let x := s.slotS n
  match x.linkAt with
  | some u =>
    if s.slotState n = 3 ∧ dueAt s.now u (100 * msNs) = true then
      let why := refusal x i
      let l := s.linkSetupOf n i
      let s := ((s.setSlot n { x with info := i, tags := [], link := some l, bars := if why = 1 then [] else assignBars i.bars }).setSlotState n
        4).emit (.linkSetup n l)
      if why = 0 ∨ 8 < why then
        (if why ≠ 0 ∧ ¬(s.twin.twinMode = true ∧ i.nmic = false) then s.refuseDrive n why else s.twinCondition n)
      else s.refuseDrive n why
    else s
  | none => s

def execDriveReady (t slot : Nat) (info : DriveInfo) (s : State) : Res := act t (isSlot slot) s (driveReady slot info)

/-- What the module allows CSTS.RDY, in ns: CAP.TO × 500 ms up to 30 s, and 30 s where CAP.TO is 0 (11 R383). -/
def readyAllowance (capTo : Nat) : Nat := if capTo = 0 then 30 * sNs else min (capTo * 500 * msNs) (30 * sNs)

/-- READY_TIMEOUT: CSTS.RDY has not reached 1 within the allowance, which starts from the CAP.TO read from the drive (log entry 33). -/
def readyTimeout (n capTo : Nat) (s : State) : State :=
  match (s.slotS n).linkAt with
  | some u => if s.slotState n = 3 ∧ dueAt s.now u (100 * msNs + readyAllowance capTo) = true then s.refuseDrive n 6 else s
  | none => s

def execReadyTimeout (t : Nat) (d : ReadyWait) (s : State) : Res := act t (isSlot d.slot) s (readyTimeout d.slot d.capTo)

/-- SLOT_LINK_DOWN: Data Link Layer Link Active has fallen. -/
def slotLinkDown (n : Nat) (s : State) : State :=
  let x := s.slotS n
  if x.linkUp = false then s
  else
    let s := s.bump 0x5202 n 5
    match x.ladder with
    | some (k, _) => if 3 ≤ k then s.setSlot n { x with linkUp := false } else s.contain n
    | none =>
      if x.presenceCase ≠ 0 then
        let s := if s.slotState n = 0 then s else s.driveGone n 0
        s.modSlot n fun y => { y with linkUp := false, linkSteadyAt := none, perst := false }
      else if x.prsnt = true ∧ (s.slotState n = 3 ∨ s.slotState n = 4) then s.retrain n
      else if s.slotState n = 0 then s.setSlot n { x with linkUp := false, linkSteadyAt := none }
      else s.contain n

def execSlotLinkDown (t slot : Nat) (s : State) : Res := act t (isSlot slot) s (slotLinkDown slot)

/-- AER_ERROR_MESSAGE (Table 1): a non-fatal error is counted and logged. -/
def aerErrorMessage (n : Nat) (k : AerKind) (s : State) : State :=
  match k with
  | .correctable => s.bump 0x5202 n 2
  | .nonFatal => (s.bump 0x5202 n 3).modSlot n fun x => { x with aer := k :: x.aer }
  | .fatal => ((s.bump 0x5202 n 4).modSlot n fun x => { x with aer := k :: x.aer }).contain n

def execAerErrorMessage (t slot : Nat) (kind : AerKind) (s : State) : Res :=
  act t (isSlot slot) s fun u => u.when (u.slotS slot).linkUp (aerErrorMessage slot kind)

/-- DPC_RELEASE: 1 s after containment with PRSNT# asserted, bring-up runs again from step 4. -/
def dpcRelease (n : Nat) (s : State) : State :=
  let x := s.slotS n
  match x.dpc with
  | some u =>
    if s.slotState n = 7 ∧ x.prsnt = true ∧ dueAt s.now u sNs = true then
      (s.setSlot n { x with dpc := none, perst := false, perstAt := some s.now, tries := 0 }).setSlotState n 2
    else s
  | none => s

def execDpcRelease (t slot : Nat) (s : State) : Res := act t (isSlot slot) s (dpcRelease slot)

/-! ### The reset ladder (R396, R397) -/

/-- Put a member command that had been submitted back at the front of its queue. -/
def State.requeue (s : State) (k : Nat) : State :=
  let c := s.mc k
  let s := match c.ctx with
    | some x => { s with slot := { s.slot with streams := Tbl.erase s.slot.streams x } }
    | none => s
  let s := s.setMc k { c with cid := none, ctx := none, got := 0, data := if c.op = .read then 0 else c.data, late := false, abortAt := none }
  let m := s.memQ c.slot
  if c.bg = 1 then s.setMemQ c.slot { m with rebuildQ := k :: m.rebuildQ }
  else if c.bg = 2 then s.setMemQ c.slot { m with scrubQ := k :: m.scrubQ }
  else
    let key := queueKey c.cls c.tenant
    let q := Tbl.get [] m.queues key
    let m := { m with queues := Tbl.set m.queues key (k :: q) }
    s.setMemQ c.slot (if q.isEmpty then m.wake s.now c.cls key (s.mcCost c) (s.memWeight c.tenant) else m)

/-- A step of the ladder ends every command at the drive: reads are served otherwise; writes and a read that R346 repeats
are submitted again after the ladder (log entry 34). -/
def State.endOutstanding (s : State) (n : Nat) : State :=
  let s := s.each (s.outstanding n) fun s e =>
    let (k, c) := e
    if c.dead then s.dropMc k
    else if c.op = .read && !c.retried then (s.memberFails k).dropMc k
    else s.requeue k
  s.syncSlot n

/-- Start a step: 1 controller reset, 2 function level reset, 3 bus reset, 4 PERST#, 5 power cycle. -/
def State.ladderStep (s : State) (n k : Nat) : State :=
  let s := ((s.bump 0x5202 n (8 + k)).setSlotState n 4).endOutstanding n
  (if 3 ≤ k then s.freeTags n else s).modSlot n fun x => { x with
    ladder := some (k, s.now), cfs := false
    perst := decide (4 ≤ k)
    setup := none
    bme := false
    smartAsked := none
    smartLate := false
    adminAbort := none
    pwrdis := if k = 5 then true else x.pwrdis
    askPeer := none }

/-- Start the ladder at step `k` where the drive is in use and no ladder runs. -/
def State.startLadder (s : State) (n k : Nat) : State :=
  if s.slotState n = 6 ∧ (s.slotS n).ladder.isNone = true then s.ladderStep n k else s

/-- The step has failed: the next one, with the peer's consent to step 5 in twin mode. -/
def State.ladderNext (s : State) (n k : Nat) : State :=
  if 5 ≤ k then s.driveGone n 10
  else if k = 4 ∧ s.paired = true then
    let q := s.nextRec
    (s.modSlot n fun x => { x with askPeer := some q, askKind := 2 }).sendRec .driveRequest n 0 4 (.code 2)
  else s.ladderStep n (k + 1)

/-- The time that a step of the ladder takes at least, in ns: function level reset 100 ms, 100 ms after the link of a bus reset is up,
PERST# asserted for 100 ms, the slot held off for 1 s (11 Table 7). -/
def ladderTime (k : Nat) : Nat := if k = 1 then 0 else if k = 5 then sNs else 100 * msNs

/-- RESET_LADDER_STEP: where CSTS.RDY has reached 1 and Identify Controller succeeds the ladder stops and the controller is rebuilt;
else the next step follows. -/
def resetLadderStep (n : Nat) (ok : Bool) (s : State) : State :=
  let x := s.slotS n
  match x.ladder with
  | some (k, u) =>
    if x.askPeer.isSome then s
    else if ok then
      if dueAt s.now u (ladderTime k) = false then s
      else ((s.setSlot n { x with
        ladder := none, pwrdis := false, perst := false, linkUp := true, smartAsked := some s.now }).setSlotState n 6).buildCtrl n
    else s.ladderNext n k
  | none => s

def execResetLadderStep (t slot : Nat) (ok : Bool) (s : State) : Res := act t (isSlot slot) s (resetLadderStep slot ok)

/-- CONTROLLER_FATAL_STATUS: CSTS.CFS is set while the controller runs. -/
def controllerFatalStatus (n : Nat) (s : State) : State :=
  if s.slotState n = 6 ∧ (s.slotS n).ladder.isNone = true then
    ((s.bump 0x5202 n 0x16).modSlot n fun x => { x with cfs := true }).startLadder n 1
  else s

def execControllerFatalStatus (t slot : Nat) (s : State) : Res := act t (isSlot slot) s (controllerFatalStatus slot)

/-! ### Misbehaviour (R399 to R401) -/

/-- Disable a slot: its link is held in reset and the drive is gone. -/
def State.disableSlot (s : State) (n : Nat) : State :=
  (s.driveGone n 8).modSlot n fun x => { x with perst := true }

/-- A violation by the drive of a slot, counted under 5202h:`sub`. -/
def State.slotViolation (s : State) (n sub detail : Nat) : State :=
  let x := s.slotS n
  let ts := s.now :: within s.now (s.ob 0x5210 1 * sNs) x.violations
  let limit := s.ob 0x5210 2
  let limited := decide (limit ≠ 0 ∧ limit ≤ ts.length)
  let s := (s.bump 0x5202 n sub).violation limited 3 n (0x5202 * 256 + sub) detail
  let s := (s.setSlot n { x with violations := ts }).put 0x5202 n 0x18 ts.length
  let s := if limited && decide (ts.length = limit) then s.raise .slotOffender [n, ts.length] else s
  if s.ob 0x5210 3 ≠ 0 ∧ s.ob 0x5210 3 ≤ ts.length ∧ s.slotState n ≠ 8 then
    (if s.slotThirdLoss n then s.raise .slotAtRisk [n] else s.disableSlot n)
  else s

/-! ### The module's requests (R392 to R394) -/

/-! ### Timeouts of member commands (R395, 10 R344, R346) -/

/-- Send Abort for a member command that has passed its timeout; its resources stay reserved. -/
def State.abortMc (s : State) (k : Nat) : State :=
  let c := s.mc k
  match c.cid with
  | some cid =>
    if c.late then s
    else (s.setMc k { c with late := true, abortAt := some s.now }).emit (.driveAbort c.slot cid)
  | none => s

/-- A member command has not completed within the member timeout: it is aborted and its member lost with cause 2, unless
that would leave three missing: then the controller is reset and the command submitted once more. -/
def State.timeoutMc (s : State) (n cid : Nat) : State :=
  match s.mcOf n cid with
  | none => s
  | some k =>
    let c := s.mc k
    if c.late || !dueAt s.now c.since (s.ob 0x5107 1 * msNs) then s
    else
      let s := s.abortMc k
      let s := if c.around.isSome then
          let s := s.countLong c.array c.member
          match c.ctx with
          | some x => ({ s with slot := { s.slot with streams := Tbl.erase s.slot.streams x } }).setMc k { s.mc k with ctx := none }
          | none => s
        else s
      if s.memState c.array c.member = 1 ∧ s.thirdLoss c.array c.member = true ∧ c.retried = false then
        (s.setMc k { s.mc k with retried := true }).startLadder n 1
      else s.memberCause c.array c.member 2

/-- MEMBER_TIMEOUT (10 R344). -/
def memberTimeout (slot cid : Nat) (s : State) : State := s.timeoutMc slot cid

def execMemberTimeout (t slot cid : Nat) (s : State) : Res := act t (isSlot slot) s (memberTimeout slot cid)

/-- Since when the SMART / Health log has been due: since it was asked for, or since the poll interval has passed, which is 1 s while the
SMBus is faulty (11 R386, R388). -/
def State.smartSince (s : State) (n : Nat) : Option Nat :=
  let x := s.slotS n
  match x.smartAsked, x.smartAt with
  | some u, _ => some u
  | none, some u => some (u + (if s.o 0x5200 n 0x12 = 1 then sNs else s.ob 0x5203 6 * sNs))
  | none, none => none

/-- The read of the log, the module's admin command at a drive that runs, has not completed within the admin timeout: it is aborted
(11 R383, R395). -/
def State.timeoutAdmin (s : State) (n cid : Nat) : State :=
  match s.smartSince n with
  | some u =>
    if s.slotState n = 6 ∧ (s.slotS n).smartLate = false ∧ dueAt s.now u (s.ob 0x5203 3 * msNs) = true then
      (s.modSlot n fun x => { x with smartLate := true, adminAbort := some (cid, s.now) }).emit (.driveAbort n cid)
    else s
  | none => s

/-- NVME_COMMAND_TIMEOUT (11 R395): the timeout of an I/O command is the member timeout, that of an admin command the admin timeout. -/
def nvmeCommandTimeout (slot cid : Nat) (admin : Bool) (s : State) : State :=
  if admin then s.timeoutAdmin slot cid else s.timeoutMc slot cid

def execNvmeCommandTimeout (t slot : Nat) (c : DriveCmdId) (s : State) : Res :=
  act t (isSlot slot) s (nvmeCommandTimeout slot c.cid c.admin)

/-- ABORT_TIMEOUT: an Abort has not completed within 1 s. -/
def abortTimeout (slot cid : Nat) (s : State) : State :=
  let late := match (s.slotS slot).adminAbort with
    | some (i, u) => decide (i = cid) && dueAt s.now u sNs
    | none => false
  if late then (s.modSlot slot fun x => { x with adminAbort := none }).startLadder slot 1
  else
  match s.mcOf slot cid with
  | none => s
  | some k =>
    match (s.mc k).abortAt with
    | some u => if dueAt s.now u sNs then (s.setMc k { s.mc k with abortAt := none }).startLadder slot 1 else s
    | none => s

def execAbortTimeout (t slot cid : Nat) (s : State) : Res := act t (isSlot slot) s (abortTimeout slot cid)

/-! ### The drive's transfers (01 R24, R25, 11 R398) -/

/-- Stream window: context and offset of an address. -/
def streamAddr (addr : Nat) : Option (Nat × Nat) :=
  if 0x20000000000 ≤ addr ∧ addr < 0x30000000000 then some ((addr - 0x20000000000) / 2 ^ 24, addr % 2 ^ 24) else none

/-- Data of a member read lies in its stream context. -/
def State.streamData (s : State) (k off len : Nat) (data : Content) : State :=
  let c := s.mc k
  let first := decide (c.got = 0)
  let s := s.setMc k { c with data := patch c.data off len data, got := c.got + len }
  match c.purpose with
  | .hostRead id po =>
    if Tbl.has s.nvme.cmds id = false then s
    else
      let s := if first && decide (po = 0) then
          let x := s.cmd id
          s.setCmd id { x with svcTo := if x.svcTo.isNone then some s.now else x.svcTo }
        else s
      if c.len ≤ c.got + len ∧ c.poison = false ∧ c.overrun = false then s.pieceServed id po c.len (s.mc k).data else s
  | _ => s

/-- The outstanding command of an operation that uses no stream context, whose granted HBM buffer holds an address range. -/
def State.grantAt (s : State) (n addr len : Nat) (op : DriveOp) : Option (Nat × MemberCmd) :=
  (s.outstanding n).find? fun e =>
    decide (e.2.op = op ∧ e.2.ctx = none ∧ Config.grantBase e.1 ≤ addr ∧ addr + len ≤ Config.grantBase e.1 + e.2.len)

/-- An address range lies in the queues and PRP pages that are granted to the slot while its controller runs (11 R384). -/
def State.queueAt (s : State) (n addr len : Nat) : Bool :=
  let g := Config.queueGrant n
  decide (s.slotState n = 3 ∨ s.slotState n = 4 ∨ s.slotState n = 6) && decide (g.1 ≤ addr ∧ addr + len ≤ g.1 + g.2)

/-- A drive's write outside the stream windows: into a buffer granted for an outstanding read it lands in HBM, into the slot's
queues it is left to the port, and anywhere else it is refused (01 R24, Table 3). -/
def State.hbmWrite (s : State) (n addr len : Nat) (poisoned : Bool) (data : Content) : State :=
  match s.grantAt n addr len .read with
  | some (k, c) =>
    if poisoned then (s.setMc k { c with poison := true, got := c.got + len }).bump 0x5202 n 0xE
    else (s.perf (224 + n) len).setMc k { c with data := patch c.data (addr - Config.grantBase k) len data, got := c.got + len }
  | none => if s.queueAt n addr len then s else s.slotViolation n 0x10 addr

/-- DRIVE_UPSTREAM_WRITE. A malformed TLP is discarded, as a non-fatal error (Table 8). -/
def driveUpstreamWrite (n addr len : Nat) (poisoned malformed : Bool) (data : Content) (s : State) : State :=
  if malformed then
    ((s.bump 0x5202 n 3).modSlot n fun x => { x with aer := .nonFatal :: x.aer }).slotViolation n 0x12 addr
  else
  match streamAddr addr with
  | none => s.hbmWrite n addr len poisoned data
  | some (ctx, off) =>
    match Tbl.find? s.slot.streams ctx with
    | none => s.slotViolation n 0x10 addr
    | some k =>
      let c := s.mc k
      if c.slot ≠ n then s.slotViolation n 0x10 addr
      else if c.around.isSome then (if poisoned then s.bump 0x5202 n 0xE else s)
      else if c.len < off + len then (s.setMc k { c with overrun := true }).slotViolation n 0x10 addr
      else if poisoned then
        let s := (s.setMc k { c with poison := true, got := c.got + len }).bump 0x5202 n 0xE
        -- toward a near host the record leaves with its poison mark (12 R428)
        match c.purpose with
        | .hostRead id po =>
          match (s.cmd id).qp, (s.cmd id).vf with
          | none, some (p, v, _) => (s.bump 0x5303 p 0xD).emit (.npData p v (s.cmd id).cap.cid (po + off) len 0 true {})
          | _, _ => s
        | _ => s
      else (s.perf (224 + n) len).streamData k off len data

def execDriveUpstreamWrite (t slot addr len : Nat) (flaws : TlpFlaws) (data : Content) (s : State) : Res :=
  act t (isSlot slot) s fun u => u.when (u.slotS slot).linkUp (driveUpstreamWrite slot addr len flaws.poisoned flaws.malformed data)

/-- DRIVE_UPSTREAM_READ: data of a granted write, the slot's queues and PRP pages, or a refusal. -/
def driveUpstreamRead (n addr len : Nat) (s : State) : State :=
  match s.grantAt n addr len .write with
  | some (k, c) =>
    (s.setMc k { c with got := c.got + len }).emit
      (.driveRead n addr len true (slice c.data (addr - Config.grantBase k) len))
  | none =>
    if s.queueAt n addr len then (s.emit (.driveRead n addr len true s.draw)).drawn
    else (s.emit (.driveRead n addr len false 0)).slotViolation n 0x10 addr

def execDriveUpstreamRead (t slot addr len : Nat) (s : State) : Res :=
  act t (isSlot slot) s fun u => u.when (u.slotS slot).linkUp (driveUpstreamRead slot addr len)

/-! ### Completion entries (R379, R399, 10 R335, R341 to R344) -/

/-- Record the service time of a read that serves a host. -/
def State.sampleRead (s : State) (c : MemberCmd) : State :=
  if c.op = .read && c.purpose.servesHost && decide (c.len ≤ 16384 ∧ s.memState c.array c.member = 1) then
    let x := s.stat c.array c.member
    s.setStat c.array c.member { x with samples := (s.now, s.now - c.since) :: x.samples }
  else s

/-- The completion of a command that nothing waits for any more. -/
def State.discardEntry (s : State) (k : Nat) (c : MemberCmd) : State :=
  let s := if c.around.isSome then
      let s := (s.sampleRead c).bump 0x5100 (memRow c.array c.member) 0xB
      if c.late = false ∧ (s.ob 0x5107 4 : Nat) * s.aroundTime c.array c.cls c.len < ((s.now - c.since : Nat) : Rat) then
        s.countLong c.array c.member
      else s
    else if c.late then s.bump 0x5202 c.slot 8
    else s
  s.dropMc k

/-- A member read has failed: `media` where it counts as an unrecovered read error. -/
def State.readFailed (s : State) (k : Nat) (c : MemberCmd) (media : Bool) : State :=
  let s := match c.purpose with
    | .hostRead id off =>
      let s := (s.closeStream k).unsend id off c.len
      if Tbl.has s.nvme.cmds id then
        match (s.cmd id).pieces.find? fun (p : Piece) => decide (p.off = off) with
        | some p => s.startRecon id off p.array p.addr p.len [] none media
        | none => s
      else s
    | .recon rid pos => s.reconFail rid pos
    | .flushRead a r p _ => s.flushReadFail a r p media
    | .resend i psn => s.resendFailed i psn
    | _ => s
  let s := s.dropMc k
  if media then s.mediaError c.array c.member else s

/-- A member read has ended well. -/
def State.readGood (s : State) (k : Nat) (c : MemberCmd) : State :=
  let s := s.dropMc k
  match c.purpose with
  | .hostRead id off => s.pieceEnded id off
  | .recon rid pos => s.reconValue rid pos c.data
  | .resend i psn => s.resendServed i psn c.data
  | .flushRead a r p col => s.flushValue a r p col k c.len c.data
  | _ => s

/-- A member write has ended. -/
def State.writeGood (s : State) (k : Nat) (c : MemberCmd) : State :=
  let s := s.dropMc k
  match c.purpose with
  | .flushWrite a r => s.flushWritten a r k false
  | .journal a q copy => s.journalWritten a q copy
  | .zero a r => s.zeroWritten a r k
  | _ => s

/-- A member write has ended with an error: the member is lost with cause 5, and what waited goes on without it. -/
def State.writeBad (s : State) (k : Nat) (c : MemberCmd) : State :=
  let s := s.memberCause c.array c.member 5
  if Tbl.has s.slot.cmds k then (s.memberFails k).dropMc k else s

/-- The entry of a command that something waits for. -/
def State.takeEntry (s : State) (k : Nat) (c : MemberCmd) (st : DriveStatus) : State :=
  let s := s.sampleRead c
  if c.op = .read then
    if c.poison then s.readFailed k c true
    else if c.overrun then s.readFailed k c false
    else
      match st with
      | .success =>
        if c.len ≤ c.got then s.readGood k c else (s.slotViolation c.slot 0x15 k).readFailed k c false
      | .mediaError => s.readFailed k c true
      | _ => s.readFailed k c false
  else
    match st with
    | .success => s.writeGood k c
    | _ => s.writeBad k c

/-- An entry in the admin completion queue: the Abort of an admin command has completed, or nothing waits for it. -/
def State.adminEntry (s : State) (n cid : Nat) : State :=
  if ((s.slotS n).adminAbort.map Prod.fst) = some cid then s.modSlot n fun x => { x with adminAbort := none }
  else s.slotViolation n 0x13 cid

/-- COMPLETION_ENTRY. -/
def completionEntry (n : Nat) (e : DriveEntry) (s : State) : State :=
  if e.poisoned || !e.phaseOk || !e.headOk then (s.slotViolation n 0x14 e.cid).startLadder n 1
  else
    match s.mcOf n e.cid with
    | none => if e.queue = 0 then s.adminEntry n e.cid else s.slotViolation n 0x13 e.cid
    | some k =>
      let c := s.mc k
      if e.queue = 0 then
        if c.abortAt.isSome then s.setMc k { c with abortAt := none } else s.adminEntry n e.cid
      else if e.queue ≠ c.engine % max 1 (s.o 0x5200 n 0xB) + 1 then s.slotViolation n 0x13 e.cid
      else if c.dead || c.late then s.discardEntry k c
      else
        let s := s.perf (272 + n) ((s.now - c.since) / 64)
        (s.when (decide (c.op ≠ .read)) fun s => s.perf (248 + n) c.len).takeEntry k c e.status

def execCompletionEntry (t slot : Nat) (e : DriveEntry) (s : State) : Res :=
  act t (isSlot slot) s fun u => u.when (decide (u.slotState slot = 6)) (completionEntry slot e)

/-! ### Health (R386, R388) -/

/-- Report a temperature, with an event when it first exceeds the drive's warning threshold. -/
def State.driveTemp (s : State) (n : Nat) (temp warn : Int) : State :=
  let high := decide (warn < temp)
  let was := (s.slotS n).tempHigh
  let s := (s.setVal 0x5200 n 0xE (.int temp)).modSlot n fun x => { x with tempHigh := high }
  if high && !was then s.raise .driveTemperature [n, temp.toNat] else s

/-- SMBUS_HEALTH_POLL, once a second while the slot has power and its bus works. -/
def smbusHealthPoll (n : Nat) (temp warn : Int) (s : State) : State :=
  let x := s.slotS n
  if x.auxOn = true ∧ s.o 0x5200 n 0x12 = 0 then (s.setSlot n { x with smbusAt := some s.now }).driveTemp n temp warn else s

def execSmbusHealthPoll (t slot : Nat) (temp warn : Int) (s : State) : Res :=
  act t (isSlot slot) s (smbusHealthPoll slot temp warn)

/-- SMBUS_STUCK_RECOVERY: the third within 60 s declares the bus faulty. -/
def smbusStuckRecovery (n : Nat) (s : State) : State :=
  let x := s.slotS n
  let ts := s.now :: within s.now (60 * sNs) x.smbus
  let s := (s.setSlot n { x with smbus := ts }).bump 0x5202 n 0xF
  if 3 ≤ ts.length then s.put 0x5200 n 0x12 1 else s

def execSmbusStuckRecovery (t slot : Nat) (s : State) : Res := act t (isSlot slot) s (smbusStuckRecovery slot)

/-- The log is due. -/
def State.smartDue (s : State) (n : Nat) : Bool :=
  match s.smartSince n with
  | some u => decide (u ≤ s.now)
  | none => false

/-- SMART_POLL: the SMART / Health log has been read. A log that comes after its read was aborted is discarded (R395). -/
def smartPoll (n critical : Nat) (temp warn : Int) (ps : Nat) (s : State) : State :=
  if s.slotState n = 6 ∧ (s.slotS n).smartLate = true then
    (s.modSlot n fun x => { x with smartLate := false, smartAsked := none, smartAt := some s.now }).bump 0x5202 n 8
  else if s.slotState n = 6 ∧ s.smartDue n = true then
    let s := (s.modSlot n fun x => { x with smartAsked := none, smartAt := some s.now }).put 0x5200 n 0xF critical
    let s := if s.o 0x5200 n 0x12 = 1 then s.driveTemp n temp warn else s
    let s := if s.setsPower then s
      else match (s.slotS n).info.powerStates[ps]? with
        | some e => s.takePower n ps ((e.1 : Rat) / 1000)
        | none => s
    if bit critical 2 || bit critical 3 then
      match s.memberIn n with
      | some (a, m) => s.memberCause a m 6
      | none => s
    else s
  else s

def execSmartPoll (t slot critical : Nat) (temp warn : Int) (powerState : Nat) (s : State) : Res :=
  act t (isSlot slot && decide (critical < 256)) s (smartPoll slot critical temp warn powerState)

/-- DRIVE_ASYNC_EVENT: the log is read at once; an event of a reserved type is discarded. -/
def driveAsyncEvent (n : Nat) (k : AsyncKind) (s : State) : State :=
  match k with
  | .reserved => s.bump 0x5202 n 0x17
  | _ => s.modSlot n fun x => { x with smartAsked := some (x.smartAsked.getD s.now) }

def execDriveAsyncEvent (t slot : Nat) (kind : AsyncKind) (s : State) : Res :=
  act t (isSlot slot) s fun u => u.when (decide (u.slotState slot = 6)) (driveAsyncEvent slot kind)

end Sys2Proof.Machine
end

