-- ==== Sys2Proof/Machine/SlotPower.lean ====
section
/-! DEFINITION. Slot power (15 R520 to R528): ramps, faults with their retries, and the operator's switch. -/

namespace Sys2Proof.Machine

/-- SLOT_RAMP_START (R524): waiting ramps start in slot order. -/
def slotRampStart (n : Nat) (s : State) : State :=
  if (List.range n).any (fun m => (s.slotS m).wantsRamp && decide (s.o 0x2210 m 2 ≠ 7)) then s else s.tryRamp n

def execSlotRampStart (t slot : Nat) (s : State) : Res := act t (isSlot slot) s (slotRampStart slot)

/-- SLOT_POWER_GOOD (R521): the reference clock starts (11 Table 5, step 3) and never stops again (11 R375). -/
def slotPowerGood (n : Nat) (s : State) : State :=
  let x := s.slotS n
  if x.ramping.isSome then
    (s.setSlot n { x with ramping := none, mainOn := true, powerGood := some s.now, clock := true }).put 0x2210 n 2 3
  else s

def execSlotPowerGood (t slot : Nat) (s : State) : Res := act t (isSlot slot) s (slotPowerGood slot)

/-- The peer feeds the slot: in twin mode, while the modules are paired (R526, R527; log entry 35). -/
def State.peerFeeds (s : State) : Bool := s.paired

/-- A slot fault (R523, R527): both feeds open; the drive is gone unless the peer feeds it; the feed retries after 1 s, and
latches off at the fourth fault within 60 s. During a storm warning nothing retries. -/
def State.slotFault (s : State) (n cause : Nat) : State :=
  let x := s.slotS n
  let fs := s.now :: within s.now (60 * sNs) x.faults
  let latch := decide (3 < fs.length)
  let s := ((s.put 0x2210 n 3 cause).bump 0x2210 n 0xA).when (decide (cause = 3)) fun s => s.bump 0x2210 n 0xB
  let s := s.raise .slotPowerFault [n, cause]
  let s := s.openFeeds n
  let peer := s.peerFeeds
  let s := s.put 0x2210 n 0xE (if peer then 1 else 0)
  let s := if peer then s.raise .slotFeedLost [n] else s.driveGone n 1
  let s := s.modSlot n fun y => { y with
    faults := fs, latched := latch, retryAt := if latch || s.pwr.storm then none else some (s.now + sNs) }
  s.put 0x2210 n 2 (if latch then 5 else if peer then 8 else if s.pwr.storm then 0 else 4)

/-- SLOT_RAMP_TIMEOUT (R521): fault cause 1. -/
def slotRampTimeout (n : Nat) (s : State) : State :=
  match (s.slotS n).ramping with
  | some u => if dueAt s.now u (s.o 0x2210 n 5 * msNs) then s.slotFault n 1 else s
  | none => s

def execSlotRampTimeout (t slot : Nat) (s : State) : Res := act t (isSlot slot) s (slotRampTimeout slot)

/-- SLOT_EARLY_SHORT (R521): fault cause 2. -/
def slotEarlyShort (n : Nat) (s : State) : State :=
  match (s.slotS n).ramping with
  | some u => if dueAt s.now u msNs then s.slotFault n 2 else s
  | none => s

def execSlotEarlyShort (t slot : Nat) (s : State) : Res := act t (isSlot slot) s (slotEarlyShort slot)

/-- SLOT_SQUALL_TRIP (R521): fault cause 3, armed from ramp start. -/
def slotSquallTrip (n : Nat) (s : State) : State :=
  let x := s.slotS n
  if x.ramping.isSome || x.mainOn then s.slotFault n 3 else s

def execSlotSquallTrip (t slot : Nat) (s : State) : Res := act t (isSlot slot) s (slotSquallTrip slot)

/-- SLOT_OVERCURRENT (R522): fault cause 4. -/
def slotOvercurrent (n : Nat) (s : State) : State := if (s.slotS n).mainOn then s.slotFault n 4 else s

def execSlotOvercurrent (t slot : Nat) (s : State) : Res := act t (isSlot slot) s (slotOvercurrent slot)

/-- AUXILIARY_OVERCURRENT (R522): fault cause 5. -/
def auxiliaryOvercurrent (n : Nat) (s : State) : State := if (s.slotS n).auxOn then s.slotFault n 5 else s

def execAuxiliaryOvercurrent (t slot : Nat) (s : State) : Res := act t (isSlot slot) s (auxiliaryOvercurrent slot)

/-- Feed a slot again after a fault: a drive that is gone is brought up; the module's own feed of a slot that the peer kept
alive ramps again. -/
def State.refeed (s : State) (n : Nat) : State :=
  if s.slotEnabled n then
    if s.o 0x2210 n 2 = 8 then
      ((s.modSlot n fun x => { x with auxOn := true, retryAt := none }).put 0x2210 n 2 1).tryRamp n
    else if (s.slotS n).prsnt then (s.modSlot n fun x => { x with retryAt := none }).bringUp n
    else (s.modSlot n fun x => { x with retryAt := none }).put 0x2210 n 2 0
  else s

/-- SLOT_RETRY (R523). -/
def slotRetry (n : Nat) (s : State) : State :=
  let x := s.slotS n
  match x.retryAt with
  | some u => if u ≤ s.now ∧ x.latched = false then s.refeed n else s
  | none => s

def execSlotRetry (t slot : Nat) (s : State) : Res := act t (isSlot slot) s (slotRetry slot)

/-- What a commit of 2210h does: the latch cleared, the slot switched off or on. -/
def applySlotPower (st : Stage) (old u : State) : State :=
  let n := st.row
  let u := if st.n 0xD = 1 ∧ (u.slotS n).latched = true then
      (u.modSlot n fun x => { x with latched := false, faults := [] }).refeed n
    else u
  if old.o 0x2210 n 0xC = 0 ∧ st.n 0xC = 1 then u.powerOffSlot n
  else if old.o 0x2210 n 0xC = 1 ∧ st.n 0xC = 0 then u.powerOnSlot n
  else u

def powerTurnsOff (st : Stage) (s : State) : Bool := decide (s.o 0x2210 st.row 0xC = 0 ∧ st.n 0xC = 1)

/-- SLOT_LATCH_CLEAR (R523): a commit of 2210h with 0Dh at 1. -/
def slotLatchClear (sess : Nat) (s : State) : State := s.powerCommit sess 0x2210 powerTurnsOff applySlotPower

def execSlotLatchClear (t sess : Nat) (s : State) : Res := act t true s (slotLatchClear sess)

/-- SLOT_POWER_OFF (R528): a commit of 2210h. -/
def slotPowerOff (sess : Nat) (s : State) : State := s.powerCommit sess 0x2210 powerTurnsOff applySlotPower

def execSlotPowerOff (t sess : Nat) (s : State) : Res := act t true s (slotPowerOff sess)

/-- SLOT_OVERDRAW_CHECK (R525): power measured over 1 s, in mW. -/
def slotOverdrawCheck (n powerMw : Nat) (s : State) : State :=
  let s := s.setVal 0x2210 n 8 (.real ((powerMw : Rat) / 1000))
  if (s.slotS n).mainOn = true ∧ 11 / 10 * s.allocation n < (powerMw : Rat) / 1000 then s.raise .slotOverdraw [n, powerMw] else s

def execSlotOverdrawCheck (t slot powerMw : Nat) (s : State) : Res :=
  act t (isSlot slot) s (slotOverdrawCheck slot powerMw)

end Sys2Proof.Machine
end

