-- ==== Sys2Proof/Machine/Front.lean ====
section
/-! DEFINITION. How a capsule becomes a command (06 R215 to R219, R229; 07 R239 to R242, R642): engine inputs, the capsule
conditions of Table 7, admission and the dirty ceiling. -/

namespace Sys2Proof.Machine

/-! ### What a capsule asks for -/

/-- Blocks named by an I/O command that carries an LBA range: opcodes of Write, Read, Compare, Write Zeroes and Verify. -/
def hasLba (o : Nat) : Bool := decide (o = 1 ∨ o = 2 ∨ o = 5 ∨ o = 8 ∨ o = 0xC)

/-- Reservation Register, Report, Acquire and Release. -/
def isResvOp (o : Nat) : Bool := decide (o = 0xD ∨ o = 0xE ∨ o = 0x11 ∨ o = 0x15)

/-- Transfer length of an I/O command over blocks of `lba` bytes (07 R642). -/
def xferLen (lba : Nat) (c : Capsule) : Nat :=
  if c.opcode = 1 ∨ c.opcode = 2 ∨ c.opcode = 5 then c.nlb * lba
  else if c.opcode = 9 then 16 * c.ranges.length
  else if isResvOp c.opcode then c.dataLen
  else 0

/-- Bytes that an admin command moves: a log page, an Identify structure, a host identifier. -/
def adminLen (c : Capsule) : Nat :=
  if c.opcode = 2 then c.dataLen
  else if c.opcode = 6 then 4096
  else if (c.opcode = 9 ∨ c.opcode = 0xA) ∧ c.fid = 0x81 then 16
  else 0

/-- The command moves its data from its host to the module. -/
def toModule (admin : Bool) (c : Capsule) : Bool :=
  if c.opcode = 0x7F then decide (c.fctype = 1)
  else if admin then decide (c.opcode = 9 ∧ c.fid = 0x81)
  else decide (c.opcode = 1 ∨ c.opcode = 5 ∨ c.opcode = 9 ∨ c.opcode = 0xD ∨ c.opcode = 0x11 ∨ c.opcode = 0x15)

/-- Opcodes of 06 Table 4 and 12 R415, Fabrics apart. -/
def opcodeOk (admin vf : Bool) (o : Nat) : Bool :=
  if admin then [0x02, 0x06, 0x08, 0x09, 0x0A, 0x0C, 0x18, 0x80].contains o || (vf && [0x00, 0x01, 0x04, 0x05].contains o)
  else [0x00, 0x01, 0x02, 0x05, 0x08, 0x09, 0x0C, 0x0D, 0x0E, 0x11, 0x15].contains o

/-- Fabrics command types of 06 Table 4. -/
def fctypeOk (admin : Bool) (f : Nat) : Bool := if admin then [0, 1, 4].contains f else [1, 8].contains f

/-! ### Answers of 06 Table 7 -/

/-- An answer: status code type, code, counter of 3270h (0: none), whether it is a violation. -/
abbrev Answer := Nat × Nat × Nat × Bool

/-- The answer when a condition holds. -/
def whenBad (b : Bool) (sct sc k : Nat) (v : Bool) : Option Answer := if b then some (sct, sc, k, v) else none

/-- The first condition that applies. -/
def firstBad : List (Option Answer) → Option Answer
  | [] => none
  | some a :: _ => some a
  | none :: r => firstBad r

/-- A violation by the sender of a command: of its remote address before Connect, of its host NQN after it (06 R230), of
its near-port function on a VF. -/
def State.capsuleViolation (s : State) (c : Cmd) (k : Nat) : State :=
  let cond := 0x3270 * 256 + k
  match c.qp, c.vf with
  | some i, _ =>
    let q := s.qp i
    match q.cntlid with
    | some h => s.hostViolation (s.ctrl h).hostRow (wireQpn i q) q.remoteIp cond
    | none => s.ipViolation q.remoteIp (wireQpn i q) q.tenant q.port cond
  | none, some (p, v, _) => s.npViolation p v cond c.cap.cid
  | none, none => s

/-- Answer a command as a row of Table 7 states, with a value in Dword 0. -/
def State.answer (s : State) (id : Nat) (x : Answer) (dw0 : Nat := 0) : State :=
  let c := s.cmd id
  let s := s.when (decide (x.2.2.1 ≠ 0)) fun s => s.bump 0x3270 0 x.2.2.1
  let s := s.complete id x.1 x.2.1 dw0
  s.when x.2.2.2 fun s => s.capsuleViolation c x.2.2.1

/-! ### Data descriptors (06 R218, R219; 12 R417) -/

/-- Bytes that keyed descriptors describe. -/
def sglBytes (ds : List KeyedSgl) : Nat := sumNat (ds.map fun d => d.len)

/-- Invalidate Key stands at most on the last descriptor of a list. -/
def invalidateLast : List KeyedSgl → Bool
  | [] => true
  | [_] => true
  | d :: r => !d.invalidate && invalidateLast r

/-- Conditions 0Ch to 0Fh on a network queue, for a command that moves `n` bytes. -/
def networkDptr (c : Capsule) (n : Nat) (inward : Bool) : Option Answer :=
  let bad (k sc : Nat) : Option Answer := some (0, sc, k, true)
  if c.psdt ≠ 1 then bad 0xC 0x11
  else
    match c.dptr with
    | .none => whenBad (decide (0 < n)) 0 0x0F 0xF true
    | .prp _ _ => bad 0xC 0x11
    | .sglList _ _ => bad 0xC 0x11
    | .other => bad 0xC 0x11
    | .offsetBlock o len =>
      if o ≠ 0 ∨ c.inLen < len ∨ inward = false then bad 0xD 0x16
      else whenBad (decide (len < n)) 0 0x0F 0xF true
    | .keyed d => whenBad (decide (d.len < n)) 0 0x0F 0xF true
    | .lastSegment o len ds =>
      if ds.length < 2 ∨ invalidateLast ds = false then bad 0xC 0x11
      else if o ≠ 0 then bad 0xD 0x16
      else if 16 < ds.length ∨ c.inLen < max len (16 * ds.length) then bad 0xE 0x0E
      else whenBad (decide (sglBytes ds < n)) 0 0x0F 0xF true

/-- The same on a near port: PRP lists and address SGLs. -/
def nearDptr (c : Capsule) (n : Nat) : Option Answer :=
  if n = 0 then none
  else
    match c.dptr with
    | .prp _ ok => if c.psdt ≠ 0 then some (0, 0x11, 0xC, true) else whenBad (!ok) 0 0x13 0 false
    | .sglList _ len => if c.psdt ≠ 1 ∧ c.psdt ≠ 2 then some (0, 0x11, 0xC, true) else whenBad (decide (len < n)) 0 0x0F 0xF true
    | _ => some (0, 0x11, 0xC, true)

/-! ### Reservations as commands meet them (06 R210, R211; log entry 40) -/

/-- Host identifier `h` holds the reservation: every registrant does in the All Registrants types. -/
def Resv.holds (x : Resv) (h : Nat) : Bool :=
  if 5 ≤ x.rtype then Tbl.has x.regs h else decide (x.rtype ≠ 0 ∧ x.holder = some h)

/-- A command of host `h` conflicts with the reservation: `writes` tells whether it writes. -/
def Resv.conflict (x : Resv) (h : Nat) (writes : Bool) : Bool :=
  if x.rtype = 0 ∨ x.holds h = true then false
  else if 3 ≤ x.rtype ∧ Tbl.has x.regs h = true then false
  else if writes then true
  else decide (x.rtype = 2 ∨ x.rtype = 4 ∨ x.rtype = 6)

/-- Which commands a reservation concerns, and whether they write. -/
def resvGroup (admin : Bool) (o : Nat) : Option Bool :=
  if admin then (if o = 0x80 then some true else none)
  else if o = 2 ∨ o = 5 ∨ o = 0xC then some false
  else if o = 0 ∨ o = 1 ∨ o = 8 ∨ o = 9 then some true
  else none

/-! ### Conditions of the namespace -/

/-- The command names a namespace: every I/O command, and Format NVM. -/
def namesNs (admin : Bool) (o : Nat) : Bool := if admin then decide (o = 0x80) else true

/-- The blocks a command names lie inside namespace `r`. -/
def State.inNs (s : State) (r : Nat) (c : Capsule) : Bool :=
  let n := s.nsBlocks r
  if hasLba c.opcode then decide (c.slba + c.nlb ≤ n)
  else if c.opcode = 9 then c.ranges.all fun x => decide (x.1 + x.2 ≤ n)
  else true

/-- Conditions 10h to 16h. -/
def State.nsBad (s : State) (k : Ctrl) (admin : Bool) (host : Nat) (c : Capsule) : Option Answer :=
  match s.nsOf k c.nsid with
  | none => some (0, 0x0B, 0x10, false)
  | some r =>
    if s.nsTenant r ≠ s.ctrlTenant k then some (0, 0x0B, 0x11, true)
    else
      let a := s.nsArray r
      firstBad
        [whenBad (!admin && !s.inNs r c) 0 0x80 0x12 false,
         (anaStatus (s.anaState a)).map fun st => (st.1, st.2, 0x13, false),
         whenBad (!admin && !s.kekPresent (s.nsTenant r)) 0 0x82 0x14 false,
         whenBad (!admin && (decide (s.o 0x3230 r 9 = 1) || (s.arrS a).held)) 0 0x82 0 false,
         whenBad (s.ns r).erasing 0 0x84 0x15 false,
         match resvGroup admin c.opcode with
         | some w => whenBad ((s.ns r).resv.conflict host w) 0 0x83 0x16 false
         | none => none]

/-! ### Table 7 up to the fused conditions -/

/-- Blocks of the namespace a controller's command names are this long; 0 without one. -/
def State.lbaFor (s : State) (k : Ctrl) (nsid : Nat) : Nat :=
  match s.nsOf k nsid with
  | some r => s.nsLba r
  | none => 0

/-- Bytes that a command moves; Connect moves its 1,024 bytes of data. -/
def State.moves (s : State) (k : Ctrl) (admin : Bool) (c : Capsule) : Nat :=
  if c.opcode = 0x7F then (if c.fctype = 1 then 1024 else 0) else if admin then adminLen c else xferLen (s.lbaFor k c.nsid) c

/-- Condition 0Bh: a reserved field, a field out of range, a transfer beyond MDTS. ONCS bit 4 is 0, so a save bit and a select field
are reserved (06 Table 4, "no save"; log entry 42); so is the metadata pointer (R218). -/
def fieldBad (admin : Bool) (c : Capsule) (n : Nat) : Bool :=
  !c.reservedOk || decide (c.fuse = 3) || decide (1048576 < n) ||
    (!admin && hasLba c.opcode && decide (c.nlb = 0 ∨ 65536 < c.nlb)) ||
    (!admin && decide (c.opcode = 9) && decide (c.ranges.length = 0 ∨ 256 < c.ranges.length)) ||
    (!admin && decide (c.fuse ≠ 0 ∧ 16 < c.nlb)) || decide (c.mptr ≠ 0) ||
    (admin && (decide (c.opcode = 9) && c.save || decide (c.opcode = 0xA ∧ c.sel ≠ 0)))

/-- The first condition of Table 7 that a command of a connected queue falls into, up to the reservation conflict. -/
def State.capsuleBad (s : State) (k : Ctrl) (admin vf dupCid : Bool) (host : Nat) (c : Capsule) : Option Answer :=
  let fabrics := decide (c.opcode = 0x7F)
  let n := s.moves k admin c
  firstBad
    [whenBad (fabrics && !vf && decide (c.fctype = 1)) 0 0x0C 3 true,
     whenBad (fabrics && !vf && !fctypeOk admin c.fctype) 0 1 4 false,
     whenBad dupCid 0 3 9 true,
     whenBad ((vf || !fabrics) && !opcodeOk admin vf c.opcode) 0 1 0xA false,
     whenBad (fieldBad admin c n) 0 2 0xB false,
     if vf then nearDptr c n else networkDptr c n (toModule admin c),
     if !fabrics && namesNs admin c.opcode then s.nsBad k admin host c else none]

/-! ### Engine inputs (07 R239) -/

/-- Number of a submission queue among all of them. -/
def queueOf (qp : Option Nat) (vf : Option (Nat × Nat × Nat)) : Nat :=
  match qp, vf with
  | some i, _ => i
  | none, some (p, v, q) => 2 ^ 20 + (p * 128 + v) * 256 + q
  | none, none => 0

/-- The fixed controller ID of VF `v` on near port `p` (12 R418). -/
def State.vfCtrl (s : State) (p v : Nat) : Nat :=
  (if s.twin.twinMode ∧ s.ob 0x2400 2 = 1 then 0x7F70 else 0xFF70) + 64 * p + v - 1

/-- Controller of an input's queue. -/
def State.ctrlOf (s : State) (x : EngineInput) : Option Nat :=
  match x.qp, x.vf with
  | some i, _ => (s.qp i).cntlid
  | none, some (p, v, _) => some (s.vfCtrl p v)
  | none, none => none

/-- The input came on an admin queue. -/
def State.onAdmin (s : State) (x : EngineInput) : Bool :=
  match x.qp, x.vf with
  | some i, _ => decide ((s.qp i).qid = 0)
  | none, some (_, _, q) => decide (q = 0)
  | none, none => true

/-- A command with this identifier is outstanding on the queue: its completion has not been built. -/
def State.cidTaken (s : State) (x : EngineInput) : Bool :=
  s.nvme.cmds.any fun e => decide (e.2.qp = x.qp ∧ e.2.vf = x.vf ∧ e.2.cap.cid = x.cap.cid ∧ e.2.stage ≠ .sending)

/-- Class 0 bucket of a tenant on a logical port (07 R241): rate 4010h:0B in Mb/s. -/
def State.class0Bucket (s : State) (tenant port : Nat) : Bucket :=
  match Tbl.find? (Tbl.get {} s.sched.adm tenant).class0 port with
  | some b => b
  | none => Bucket.create s.now ((s.o 0x4010 tenant 0xB : Rat) / 8000) (s.o 0x4010 tenant 0xC : Nat)

/-- A shared bucket of a tenant (07 R240), none when its rate is 0: 7 the IOPS bucket, 9 the data bucket in MB/s. -/
def State.sharedBucket (s : State) (tenant sub : Nat) : Option Bucket :=
  let r := s.o 0x4010 tenant sub
  if r = 0 then none
  else
    let a : Admission := Tbl.get {} s.sched.adm tenant
    match (if sub = 7 then a.iops else a.data) with
    | some b => some b
    | none => some (Bucket.create s.now ((r : Rat) / (if sub = 7 then 1000000000 else 1000)) (s.o 0x4010 tenant (sub + 1) : Nat))

/-- The command is charged to the Class 0 bucket of its port (07 R241). -/
def Cmd.class0Charged (c : Cmd) : Bool := decide (c.cls = 0) && c.qp.isSome

/-- The buckets of a command can pay for it. Flush charges nothing. -/
def State.canPay (s : State) (c : Cmd) : Bool :=
  if c.cap.opcode = 0 then true
  else if c.class0Charged then (s.class0Bucket c.tenant c.port).pays s.now (c.len + 128)
  else
    let ok (sub cost : Nat) : Bool :=
      match s.sharedBucket c.tenant sub with
      | some b => b.pays s.now cost
      | none => true
    ok 7 1 && ok 9 c.len

/-- Charge the buckets of an admitted command. -/
def State.charge (s : State) (c : Cmd) : State :=
  let a : Admission := Tbl.get {} s.sched.adm c.tenant
  let set (a : Admission) : State := { s with sched := { s.sched with adm := Tbl.set s.sched.adm c.tenant a } }
  if c.cap.opcode = 0 then s
  else if c.class0Charged then
    set { a with class0 := Tbl.set a.class0 c.port ((s.class0Bucket c.tenant c.port).charge s.now (c.len + 128)) }
  else
    set { a with
      iops := (s.sharedBucket c.tenant 7).map fun b => b.charge s.now 1
      data := (s.sharedBucket c.tenant 9).map fun b => b.charge s.now c.len }

/-- The record of a command taken from an input, and its number. -/
def State.newCmd (s : State) (x : EngineInput) (engine : Nat) : Nat × State :=
  let id := s.nvme.nextCmd
  let k := s.ctrlOf x
  let ctl := match k with
    | some k => s.ctrl k
    | none => {}
  let admin := s.onAdmin x
  let row := if k.isSome && namesNs admin x.cap.opcode then (s.nsOf ctl x.cap.nsid).getD 0 else 0
  let c : Cmd := {
    qp := x.qp, vf := x.vf, cntlid := k, cap := x.cap, host := ctl.hostid
    tenant := if k.isSome then s.ctrlTenant ctl else 0
    cls := x.cls, nsRow := row, arrivedAt := x.arrivedAt, engine := engine
    port := match x.qp with | some i => (s.qp i).port | none => 0
    len := if k.isSome then s.moves ctl admin x.cap else 0
    pool := (x.cap.inLen + 4095) / 4096 }
  (id, { s with nvme := { s.nvme with nextCmd := id + 1, cmds := Tbl.set s.nvme.cmds id c } })

/-- Dirty blocks of a namespace, as the intent entries that a Flush waits for and, under number 0, the rows that hold dirty
blocks of it (01 R35). -/
def State.dirtyNeed (s : State) (r : Nat) : List (Nat × Nat × Nat) :=
  let a := s.nsArray r
  let rows := ((s.pagesOf a).filter fun e => [e.2.cur, e.2.snap].any fun v =>
    match v with
    | some v => decide (v.nsRow = r)
    | none => false).map fun e => s.rowOf a (e.1 * 4096)
  (s.arr.intent.filter fun e => decide (e.nsRow = r)).map (fun e => (e.array, e.row, e.seq)) ++
    rows.eraseDups.map fun row => (a, row, 0)

/-- A command that has passed every condition: admin commands may act, I/O commands wait at admission. Whether a Class 0
command finds its bucket able to pay is tested here, at its arrival (07 R270). -/
def State.acceptCmd (s : State) (id : Nat) (admin : Bool) : State :=
  let c := s.cmd id
  if admin ∨ c.cap.opcode = 0x7F then s.setCmd id { c with stage := .ready }
  else
    let s := s.notIdle
    let pays := s.canPay c
    let conform := !c.class0Charged || pays
    let s := s.when (!pays) fun s => s.bump 0x4011 c.tenant 3
    let s := s.when (!conform) fun s => s.bump 0x4011 c.tenant 4
    s.setCmd id { c with
      stage := .waitAdmit, waitedAt := some s.now, conform := conform
      need := if c.cap.opcode = 0 then s.dirtyNeed c.nsRow else [] }

/-- The first half of a fused pair that waits on a queue. -/
def State.fuseHalf (s : State) (x : EngineInput) : Option Nat :=
  (s.nvme.cmds.find? fun e => decide (e.2.qp = x.qp ∧ e.2.vf = x.vf ∧ e.2.stage = .fuseWait)).map fun e => e.1

def State.setFuseFailed (s : State) (x : EngineInput) (b : Bool) : State :=
  let k := queueOf x.qp x.vf
  let l := s.nvme.fuseFailed.filter fun j => decide (j ≠ k)
  { s with nvme := { s.nvme with fuseFailed := if b then k :: l else l } }

/-- The fused conditions 17h and 18h, and pairing: `f` is the first half that waits, `failed` tells that the first half
has failed already. -/
def State.fuse (s : State) (id : Nat) (x : EngineInput) (f : Option Nat) (failed : Bool) : State :=
  if x.cap.fuse = 1 then s.setCmd id { s.cmd id with stage := .fuseWait }
  else if x.cap.fuse = 2 then
    match f with
    | none => if failed then s.complete id 0 9 0 else s.answer id (0, 0x0A, 0x17, true)
    | some h =>
      let a := (s.cmd h).cap
      let b := x.cap
      if a.opcode ≠ 5 ∨ b.opcode ≠ 1 then (s.complete h 0 2 0).answer id (0, 2, 0x18, true)
      else if a.nsid ≠ b.nsid ∨ a.slba ≠ b.slba ∨ a.nlb ≠ b.nlb then (s.complete h 0 2 0).answer id (0, 2, 0xB, false)
      else
        let s := s.setCmd h { s.cmd h with fused := some id }
        let s := s.setCmd id { s.cmd id with fused := some h }
        (s.acceptCmd h false).acceptCmd id false
  else s.acceptCmd id (s.onAdmin x)

/-- An engine takes a capsule: the head of its submission queue moves on, its receive buffer is posted again (05 R171), and the
first condition of Table 7 that applies answers it. -/
def State.takeCapsule (s : State) (x : EngineInput) (engine : Nat) : State :=
  let s := s.perf (136 + engine) 1
  let first := match x.qp with
    | some i => !(s.qp i).begun
    | none => false
  let s := match x.qp with
    | some i =>
      let q := s.qp i
      s.setQp i { q with sqhd := (q.sqhd + 1) % (q.hsqsize + 1), bufs := q.bufs + 1, begun := true }
    | none => s
  let dup := s.cidTaken x
  let half := s.fuseHalf x
  let failed := s.nvme.fuseFailed.contains (queueOf x.qp x.vf)
  let s := s.setFuseFailed x false
  let (id, s) := s.newCmd x engine
  -- a first half whose next capsule is no second half is without its partner
  let s := match half with
    | some h => if x.cap.fuse = 2 then s else s.answer h (0, 0x0A, 0x17, true)
    | none => s
  match s.ctrlOf x with
  | none =>
    if x.cap.opcode = 0x7F ∧ x.cap.fctype = 1 ∧ first = true then s.setCmd id { s.cmd id with stage := .ready }
    else s.answer id (0, 0x0C, 3, true)
  | some k =>
    let ctl := s.ctrl k
    match s.capsuleBad ctl (s.onAdmin x) x.vf.isSome dup ctl.hostid x.cap with
    | some b =>
      let s := s.answer id b
      if x.cap.fuse = 1 then s.setFuseFailed x true
      else if x.cap.fuse = 2 then
        match half with
        | some h => s.complete h 0 9 0
        | none => s
      else s
    | none => s.fuse id x half failed

/-- The capsule that an engine takes next: of the lowest class, the oldest. -/
def nextInput (l : List EngineInput) : Option EngineInput :=
  l.foldl (init := none) fun b x =>
    match b with
    | none => some x
    | some y => if x.cls < y.cls then some x else some y

/-- In Lull a capsule starts Thaw unless E00 or E01 may serve it: a read, Compare or Verify, or an admin command that changes no
row; a Class 0 command or commands above the Thaw rate start it too (15 R548). -/
def State.thaws (s : State) (x : EngineInput) : Bool :=
  let admin := s.onAdmin x
  (if admin then decide (x.cap.opcode = 0x80) else !([2, 5, 0xC].contains x.cap.opcode)) ||
  decide (x.cls = 0 ∧ admin = false ∧ s.ob 0x2220 5 = 1) ||
  decide (s.ob 0x2220 4 ≤ 1000 * (within s.now msNs s.pwr.serveTimes).length)

/-- An engine that Lull stops, or Lull's 200,000 commands per second used up. -/
def State.lullHolds (s : State) (e : Nat) : Bool :=
  s.pwr.lull && (decide (2 ≤ e) || decide (200000 ≤ (within s.now sNs s.pwr.serveTimes).length))

/-- Count a command that is served in Lull. -/
def State.lullServe (s : State) : State :=
  if s.pwr.lull then { s with pwr := { s.pwr with serveTimes := s.now :: within s.now sNs s.pwr.serveTimes } } else s

/-- ENGINE_CAPSULE_TAKE (07 R239), with what Lull makes of it. -/
def engineCapsuleTake (e : Nat) (s : State) : State :=
  let l := Tbl.get [] s.nvme.inputs e
  match nextInput l with
  | none => s
  | some x =>
    let s := if s.pwr.lull && s.thaws x then s.thawNow else s
    if s.lullHolds e then s else
    let s := s.lullServe
    { s with nvme := { s.nvme with inputs := Tbl.set s.nvme.inputs e (l.erase x) } }.takeCapsule x e

def execEngineCapsuleTake (t engine : Nat) (s : State) : Res := act t (isEngine engine) s (engineCapsuleTake engine)

/-! ### Admission (07 R240 to R242) -/

/-- Reservation Register, Acquire and Release: the commands that change a reservation. -/
def changesResv (o : Nat) : Bool := decide (o = 0xD ∨ o = 0x11 ∨ o = 0x15)

/-- A reservation change of the command's namespace is under way: commands admitted after it meet the new state (06 R211). -/
def State.barred (s : State) (c : Cmd) : Bool := (s.ns c.nsRow).barrier.any fun k => Tbl.has s.nvme.cmds k

/-- A reservation command that has been admitted starts a barrier of its namespace. -/
def State.bar (s : State) (r id : Nat) : State := s.setNs r { s.ns r with barrier := (s.ns r).barrier ++ [id] }

/-- The barrier of a command ends. -/
def State.unbar (s : State) (r id : Nat) : State :=
  s.setNs r { s.ns r with barrier := (s.ns r).barrier.filter fun k => decide (k ≠ id) }

/-- The oldest command of a tenant and class that waits at admission; none while an activation or a revert flushes (17 R605; log
entry 87). -/
def State.admitHead (s : State) (tenant cls : Nat) : Option (Nat × Cmd) :=
  if s.fw.goal.isSome then none else
  s.nvme.cmds.find? fun e => decide (e.2.stage = .waitAdmit ∧ e.2.tenant = tenant ∧ e.2.cls = cls) && !s.barred e.2

/-- The command of a tenant that admission takes next: of the lowest class that has one, the oldest. A Class 0 head
short in the Class 0 bucket of its port does not hold back the other classes, which pay from other buckets; a head
short in a shared bucket does. -/
def State.pickAdmit (s : State) (tenant c : Nat) : Nat → Option Nat
  | 0 => none
  | n + 1 =>
    match s.admitHead tenant c with
    | none => s.pickAdmit tenant (c + 1) n
    | some (id, x) => if s.canPay x then some id else if x.class0Charged then s.pickAdmit tenant (c + 1) n else none

/-- Sectors of a data range that are not dirty yet, in bytes. -/
def State.cleanBytes (s : State) (a : Nat) : Nat → Nat → Nat
  | _, 0 => 0
  | addr, n + 1 => (if s.blockDirty a addr 512 then 0 else 512) + s.cleanBytes a (addr + 512) n

/-- By how much `n` blocks from `lba` on would raise the dirty data (01 R34): the clean sectors, and every block of a
deallocated granule they touch (06 R209). -/
def State.newDirty (s : State) (r lba n : Nat) : Nat :=
  let a := s.nsArray r
  let rs := s.runs r lba n
  let used := rs.filter fun x => s.granuleUsed a (x.2.1 / 65536)
  let fresh := ((rs.flatMap fun x => (List.range (x.2.2 / 65536 + 2)).filterMap fun i =>
    let g := x.2.1 / 65536 + i
    if g * 65536 < x.2.1 + x.2.2 ∧ s.granuleUsed a g = false then some g else none)).eraseDups
  sumNat (used.map fun x => s.cleanBytes a x.2.1 (x.2.2 / 512)) + 65536 * fresh.length

/-- Room that a write needs below the dirty ceiling. Of a Write Zeroes that deallocates, only the blocks outside whole
granules become dirty. -/
def State.roomFor (s : State) (c : Cmd) : Nat :=
  if c.cap.opcode = 8 ∧ c.cap.deac = true then
    let sz := s.nsLba c.nsRow
    let g := 65536 / max 1 sz
    let lo := (c.cap.slba + g - 1) / g * g
    let hi := (c.cap.slba + c.cap.nlb) / g * g
    if lo < hi then
      s.newDirty c.nsRow c.cap.slba (lo - c.cap.slba) + s.newDirty c.nsRow hi (c.cap.slba + c.cap.nlb - hi)
    else s.newDirty c.nsRow c.cap.slba c.cap.nlb
  else s.newDirty c.nsRow c.cap.slba c.cap.nlb

/-- The write fits: below the ceiling as a whole, with room in the intent ring and an accumulator in service (01 R34, 09
R313, R324). While the ceiling is 0 writes pass, since each waits for its flush (15 R536; log entry 69). -/
def State.writeFits (s : State) (c : Cmd) : Bool :=
  let limit := if s.dirtyLimit = 0 then s.ob 0x2201 1 * 1048576 else s.dirtyLimit
  decide (s.dirtyBytes + s.reservedBytes + s.roomFor c ≤ limit) &&
    !s.ringFull (s.intentFor c.nsRow c.cap.slba c.cap.nlb false false).length && s.anyAcc

/-- Writes that wait on the dirty ceiling, as the queues of their tenants and classes. -/
def State.dirtyQueues (s : State) : MemberSched :=
  let ws := s.nvme.cmds.filter fun e => decide (e.2.stage = .waitDirty)
  let qs := ws.foldl (init := ([] : Tbl (List Nat))) fun t e =>
    Tbl.modify [] t (queueKey e.2.cls e.2.tenant) fun l => l ++ [e.1]
  { queues := qs, sched := s.sched.dirtySched, vtime := s.sched.dirtyVtime }

/-- Keep the tags of the dirty-ceiling queues. -/
def State.keepDirty (s : State) (m : MemberSched) : State :=
  { s with sched := { s.sched with dirtySched := m.sched, dirtyVtime := m.vtime } }

/-- Let a write past the dirty ceiling. -/
def State.passDirty (s : State) (id : Nat) : State :=
  let c := s.cmd id
  s.setCmd id { c with stage := .ready, reserved := s.roomFor c, waited := s.now - c.waitedAt.getD s.now }

/-- A write that has passed its buckets meets the dirty ceiling; it waits there behind other writes. -/
def State.meetCeiling (s : State) (id : Nat) : State :=
  let c := s.cmd id
  let m := s.dirtyQueues
  if m.backlog.isEmpty && s.writeFits c then s.passDirty id
  else
    let s := s.when (s.ringFull (s.intentFor c.nsRow c.cap.slba c.cap.nlb false false).length) fun s => s.bump 0x5010 0 9
    let k := queueKey c.cls c.tenant
    let fresh := (Tbl.get [] m.queues k).isEmpty
    let m := if m.backlog.any (fun j => decide (j / 4096 = c.cls)) then m else { m with vtime := Tbl.set m.vtime c.cls 0 }
    let s := if fresh then s.keepDirty (m.wake s.now c.cls k c.len (s.memWeight c.tenant)) else s
    s.setCmd id { c with stage := .waitDirty }

/-- Admit a command: its namespace is looked at again, its buckets are charged. -/
def State.letIn (s : State) (id : Nat) : State :=
  let c := s.cmd id
  let ctl := match c.cntlid with
    | some k => s.ctrl k
    | none => {}
  match s.nsBad ctl false c.host c.cap with
  | some b =>
    let s := s.answer id (b.1, b.2.1, b.2.2.1, false)
    match c.fused with
    | some w => s.complete w 0 9 0
    | none => s
  | none =>
    let s := (s.charge c).setCmd id { c with waited := s.now - c.waitedAt.getD s.now }
    if c.cap.opcode = 1 ∨ c.cap.opcode = 8 then s.meetCeiling id
    else
      let s := s.setCmd id { s.cmd id with stage := .ready }
      if changesResv c.cap.opcode then s.bar c.nsRow id else s

/-- COMMAND_ADMIT (07 R240 to R242). -/
def commandAdmit (tenant : Nat) (s : State) : State :=
  match s.pickAdmit tenant 0 8 with
  | some id => s.letIn id
  | none => s

def execCommandAdmit (t tenant : Nat) (s : State) : Res := act t (isTenant tenant) s (commandAdmit tenant)

/-- DIRTY_CEILING_ADMIT (07 R242): the write that fair queueing chooses in the lowest class passes once the whole of it
fits; nothing passes it before. -/
def dirtyCeilingAdmit (s : State) : State :=
  let m := s.dirtyQueues
  match (if s.fw.goal.isSome then none else m.pickFrom 0 8) with
  | none => s
  | some (c, k) =>
    match Tbl.get [] m.queues k with
    | [] => s
    | id :: rest =>
      if s.writeFits (s.cmd id) then
        let q := m.qs k
        let m := { m with vtime := Tbl.set m.vtime c q.finish }
        let m := match rest with
          | [] => { m with sched := Tbl.erase m.sched k }
          | g :: _ =>
            let q2 := { q with start := q.finish, finish := tagFinish q.finish (s.cmd g).len (s.memWeight (k % 4096)) }
            { m with sched := Tbl.set m.sched k q2 }
        let others := m.backlog.any fun j => decide (j / 4096 = c ∧ (j ≠ k ∨ rest ≠ []))
        let m := if others then m else { m with vtime := Tbl.set m.vtime c 0 }
        (s.keepDirty m).passDirty id
      else s

def execDirtyCeilingAdmit (t : Nat) (s : State) : Res := act t true s dirtyCeilingAdmit

end Sys2Proof.Machine
end

