-- ==== Sys2Proof/Machine/IoCmds.lean ====
section
/-! DEFINITION. The I/O commands of the target (06 Table 4; 01 flows): where the blocks of a read come from, Read, Compare,
Verify, Write, Compare and Write, Write Zeroes, Dataset Management and Flush. -/

namespace Sys2Proof.Machine

/-- The command has been admitted, may act, and is an I/O command with this opcode. -/
def State.readyIo (s : State) (id o : Nat) : Bool :=
  let c := s.cmd id
  Tbl.has s.nvme.cmds id && decide (c.stage = .ready ∧ c.cap.opcode = o) && s.isIoCmd c

/-! ### Where the data of a read comes from (01 R27, 06 R209) -/

/-- Source of one block: 0 the gather cache, 1 a deallocated granule, 2 its member, 3 reconstruction. -/
def State.blockSource (s : State) (a addr sz : Nat) : Nat :=
  if s.granuleUsed a (addr / 65536) = false then 1
  else if s.blockDirty a addr sz then 0
  else
    let (r, p, _) := place (s.aD a) (s.aC a) addr
    if s.available a r p then 2 else 3

/-- Runs of equal source in `n` blocks from a transfer offset and an address: source, transfer offset, address, length. -/
def State.sourceRuns (s : State) (a sz : Nat) : Nat → Nat → Nat → List (Nat × Nat × Nat × Nat)
  | _, _, 0 => []
  | off, addr, n + 1 =>
    let k := s.blockSource a addr sz
    match s.sourceRuns a sz (off + sz) (addr + sz) n with
    | (k2, o2, a2, l2) :: r => if k = k2 then (k, off, addr, sz + l2) :: r else (k, off, addr, sz) :: (k2, o2, a2, l2) :: r
    | [] => [(k, off, addr, sz)]

/-- Cut a run from a member into transfers that its drive takes (11 R386). -/
def State.cutSource (s : State) (a : Nat) (x : Nat × Nat × Nat × Nat) : List (Nat × Nat × Nat × Nat) :=
  let (k, off, addr, len) := x
  if k = 2 then
    let (r, p, _) := place (s.aD a) (s.aC a) addr
    let m := s.maxTransfer (s.slotOf a (s.holder a r p).1)
    (cutTransfer m (len / max 1 m + 1) 0 len).map fun c => (k, off + c.1, addr + c.1, c.2)
  else [x]

/-- Serve one piece of a read from its source. -/
def State.servePiece (s : State) (id a : Nat) (x : Nat × Nat × Nat × Nat) : State :=
  let (k, off, addr, len) := x
  if (s.cmd id).stage ≠ .reading then s
  else if k = 0 then
    (s.pieceServed id off len ((s.gathered a addr (len / 512)).getD 0)).pieceEnded id off
  else if k = 1 then
    let c := s.cmd id
    let s := s.setCmd id { c.modPiece off (fun p => { p with data := some 0 }) with kept := c.kept || decide (c.cap.opcode = 2) }
    (if c.cap.opcode = 2 then s.sendData id off len 0 else s).pieceEnded id off
  else if k = 2 then
    let s := s.setCmd id ((s.cmd id).modPiece off fun p => { p with src := .member s.nextMc })
    s.readMember id off a addr len false
  else s.startRecon id off a addr len [] none false

/-- Start reading the blocks of a command. -/
def State.startRead (s : State) (id : Nat) : State :=
  let c := s.cmd id
  let r := c.nsRow
  let a := s.nsArray r
  let sz := s.nsLba r
  let parts := (s.runs r c.cap.slba c.cap.nlb).flatMap fun x =>
    (s.sourceRuns a sz x.1 x.2.1 (x.2.2 / max 1 sz)).flatMap (s.cutSource a)
  let pieces := parts.map fun x => ({ off := x.2.1, array := a, addr := x.2.2.1, len := x.2.2.2, src := .memory } : Piece)
  let s := s.setCmd id { c with stage := .reading, pieces := pieces }
  s.each parts fun s x => s.servePiece id a x

/-- Read the blocks of a command, unless one of them is lost (10 R363). -/
def State.readBlocks (s : State) (id : Nat) : State :=
  let c := s.cmd id
  if s.touchesLost c.nsRow c.cap.slba c.cap.nlb then s.readLost id else s.startRead id

/-- READ (01 read flow). -/
def read (id : Nat) (s : State) : State := if s.readyIo id 2 then s.readBlocks id else s

def execRead (t c : Nat) (s : State) : Res := act t true s (read c)

/-- VERIFY (06 Table 4): reads and checks without transfer. -/
def verify (id : Nat) (s : State) : State := if s.readyIo id 0xC then s.readBlocks id else s

def execVerify (t c : Nat) (s : State) : Res := act t true s (verify c)

/-! ### Compare, and Compare and Write -/

/-- COMPARE (06 Table 4): its data is fetched and the stored blocks are read; it completes when both are there. -/
def compare (id : Nat) (s : State) : State :=
  if s.readyIo id 5 && (s.cmd id).fused.isNone then
    if s.touchesLost (s.cmd id).nsRow (s.cmd id).cap.slba (s.cmd id).cap.nlb then s.readLost id
    else ((s.fetchData id).startRead id).tryReadDone id
  else s

def execCompare (t c : Nat) (s : State) : Res := act t true s (compare c)

/-- COMPARE_AND_WRITE (06 Table 4): `id` is the Compare; both halves have been admitted. -/
def compareAndWrite (id : Nat) (s : State) : State :=
  match (s.cmd id).fused with
  | some w =>
    if s.readyIo id 5 && s.readyIo w 1 then
      if s.touchesLost (s.cmd id).nsRow (s.cmd id).cap.slba (s.cmd id).cap.nlb then s.readLost id
      else
        let s := (s.setCmd w { s.cmd w with stage := .fetching }).fetchData w
        ((s.fetchData id).startRead id).tryReadDone id
    else s
  | none => s

def execCompareAndWrite (t c : Nat) (s : State) : Res := act t true s (compareAndWrite c)

/-! ### Writes -/

/-- An inherited write whose mirror record was confirmed: its data came with the peer's mirror (14 R500). -/
def State.inMirror (s : State) (id : Nat) : Bool :=
  match (s.cmd id).qp with
  | some i => s.twin.fromMirror.contains (i, (s.cmd id).cap.cid)
  | none => false

/-- Complete such a write; with FUA it waits for the flush of its rows. -/
def State.mirrorWrite (s : State) (id : Nat) : State :=
  let c := s.cmd id
  let s := { s with twin := { s.twin with
    fromMirror := s.twin.fromMirror.filter fun e => decide (some e.1 ≠ c.qp ∨ e.2 ≠ c.cap.cid) } }
  let mine := s.arr.intent.filter fun e =>
    decide (e.nsRow = c.nsRow ∧ c.cap.slba ≤ e.slba ∧ e.slba < c.cap.slba + c.cap.nlb)
  let s := s.setCmd id { c with reserved := 0, pool := 0 }
  if c.cap.fua = true ∨ s.dirtyLimit = 0 then
    (s.setCmd id { s.cmd id with stage := .flushing, need := mine.map fun e => (e.array, e.row, e.seq) }).settleWrites
  else s.succeed id

/-- WRITE (01 write-gather flow): data in the capsule is there at once, other data is fetched. -/
def write (id : Nat) (s : State) : State :=
  if s.readyIo id 1 && (s.cmd id).fused.isNone then
    if s.inMirror id then s.mirrorWrite id else
    let s := (s.setCmd id { s.cmd id with stage := .fetching }).fetchData id
    if s.dataIn id then s.gatherDone id else s
  else s

def execWrite (t c : Nat) (s : State) : Res := act t true s (write c)

/-- WRITE_ZEROES (06 R209): encrypted zeros become dirty; with DEAC the whole granules of the range are deallocated. -/
def writeZeroes (id : Nat) (s : State) : State :=
  if s.readyIo id 8 then (s.setCmd id { s.cmd id with stage := .fetching }).gatherDone id else s

def execWriteZeroes (t c : Nat) (s : State) : Res := act t true s (writeZeroes c)

/-- A Dataset Management whose ranges are there: with AD, whole granules inside them are deallocated (06 R209). -/
def State.deallocate (s : State) (id : Nat) : State :=
  let c := s.cmd id
  let s := if c.cap.ad then s.each c.cap.ranges fun s x => s.deallocRange c.nsRow x.1 x.2 else s
  s.succeed id

/-- DATASET_MANAGEMENT. -/
def datasetManagement (id : Nat) (s : State) : State :=
  if s.readyIo id 9 then
    let s := (s.setCmd id { s.cmd id with stage := .fetching }).fetchData id
    if s.dataIn id then s.deallocate id else s
  else s

def execDatasetManagement (t c : Nat) (s : State) : Res := act t true s (datasetManagement c)

/-! ### Flush (01 R35) -/

/-- FLUSH: it completes once every block of the namespace that was dirty at its arrival has stopped being dirty. -/
def flush (id : Nat) (s : State) : State :=
  if s.readyIo id 0 then
    if s.needsOpen (s.cmd id) then s.setCmd id { s.cmd id with stage := .flushing } else s.succeed id
  else s

def execFlush (t c : Nat) (s : State) : Res := act t true s (flush c)

/-- FLUSH_COMPLETE. -/
def flushComplete (id : Nat) (s : State) : State :=
  let c := s.cmd id
  if Tbl.has s.nvme.cmds id && decide (c.stage = .flushing ∧ c.cap.opcode = 0) && !s.needsOpen c then s.succeed id else s

def execFlushComplete (t c : Nat) (s : State) : Res := act t true s (flushComplete c)

end Sys2Proof.Machine
end

