-- ==== Sys2Proof/Machine/Erase.lean ====
section
/-! DEFINITION. Namespaces as they come and go, their keys and the tenants' KEKs (06 R195, R196, R222 to R228; 09 R306, R307):
allocation of granules, crypto-erase, import and destruction of a KEK, and the commits of 3210h, 3220h, 3224h, 3230h,
3240h and 3250h. -/

namespace Sys2Proof.Machine

/-! ### Granules of an array (09 R306, R307) -/

/-- Extents of every namespace on an array, those under deletion among them. -/
def State.extentsOn (s : State) (a : Nat) : List (Nat × Nat) :=
  (s.nvme.ns.filter fun e => decide (s.nsArray e.1 = a)).flatMap fun e => e.2.extents

/-- Insert an extent by address. -/
def insertExt (x : Nat × Nat) : List (Nat × Nat) → List (Nat × Nat)
  | [] => [x]
  | y :: r => if x.1 ≤ y.1 then x :: y :: r else y :: insertExt x r

/-- Free runs between taken extents in address order, from granule `lo` up to `top`. -/
def freeRuns (top : Nat) : Nat → List (Nat × Nat) → List (Nat × Nat)
  | lo, [] => if lo < top then [(lo, top - lo)] else []
  | lo, e :: r => (if lo < e.1 then [(lo, e.1 - lo)] else []) ++ freeRuns top (max lo (e.1 + e.2)) r

/-- Whole granules of an array. -/
def State.granuleCount (s : State) (a : Nat) : Nat := s.arrCapacity a / 65536

/-- Free runs of an array. -/
def State.freeOn (s : State) (a : Nat) : List (Nat × Nat) :=
  freeRuns (s.granuleCount a) 0 ((s.extentsOn a).foldr insertExt [])

/-- Take `n` granules from free runs in ascending order. -/
def takeRuns : Nat → List (Nat × Nat) → Option (List (Nat × Nat))
  | 0, _ => some []
  | _ + 1, [] => none
  | n + 1, e :: r =>
    if n + 1 ≤ e.2 then some [(e.1, n + 1)]
    else (takeRuns (n + 1 - e.2) r).map fun l => e :: l

/-- Extents for `n` more granules beside `have_` extents (R306): the lowest single run that holds them, else runs in
ascending order; at most 64 extents in all. -/
def State.allocate (s : State) (a n have_ : Nat) : Option (List (Nat × Nat)) :=
  let free := s.freeOn a
  let l := match free.find? fun e => decide (n ≤ e.2) with
    | some e => some (if n = 0 then [] else [(e.1, n)])
    | none => takeRuns n free
  l.bind fun l => if have_ + l.length ≤ 64 then some l else none

/-- Granules that a size in blocks takes (06 R196). -/
def granulesFor (blocks lba : Nat) : Nat := (blocks * lba + 65535) / 65536

/-- 5001h:05 follows the extents. -/
def State.syncFree (s : State) (a : Nat) : State :=
  s.put 0x5001 a 5 (s.granuleCount a - sumNat ((s.extentsOn a).map Prod.snd))

/-- Granules of a namespace that hold data. -/
def State.usedOf (s : State) (r : Nat) : List Nat :=
  let ext := (s.ns r).extents
  (s.arrS (s.nsArray r)).used.filter fun g => ext.any fun e => decide (e.1 ≤ g ∧ g < e.1 + e.2)

/-- NUSE and 3230h:0D: blocks in granules that the bitmap does not show as deallocated (06 Table 5). -/
def State.nuse (s : State) (r : Nat) : Nat :=
  let a := s.nsArray r
  min (s.nsBlocks r) (((s.usedOf r).filter fun g => !s.bitmapFree a g).length * (65536 / max 1 (s.nsLba r)))

/-- State of a namespace, 3230h:09. -/
def State.syncNsState (s : State) (r : Nat) : State :=
  let x := s.ns r
  let v := if x.erasing then 2 else if !s.kekPresent (s.nsTenant r) || x.key.isNone || x.lostFull || (s.arrS (s.nsArray r)).held then 1 else 0
  s.put 0x3230 r 9 v

/-! ### Crypto-erase (06 R227, R228) -/

/-- A command has passed admission and has not ended: the erase waits for it. -/
def Cmd.pastAdmission (c : Cmd) : Bool :=
  match c.stage with
  | .ready | .reading | .fetching | .confirming | .flushing | .barrier => true
  | _ => false

/-- Commands of a namespace on I/O queues. -/
def State.nsCmds (s : State) (r : Nat) : List (Nat × Cmd) :=
  s.nvme.cmds.filter fun e => decide (e.2.nsRow = r) && s.isIoCmd e.2

/-- The namespace's key is made here: solo, by the owner of its array, and by a module without a peer (06 R223). -/
def State.makesKey (s : State) (r : Nat) : Bool := !s.twin.twinMode || s.owns (s.nsArray r) || !s.paired

/-- A namespace gets a key: it is wrapped under the KEK of its tenant, where that is present, the wrapped copies go to the settings store and,
at the owner, into the array records (06 R223). -/
def State.takeKey (s : State) (r key : Nat) : State :=
  let x := s.ns r
  match Tbl.find? s.nvme.keks (s.nsTenant r) with
  | none => s.setNs r { x with key := some key, memberKey := none, storeKey := none }
  | some kek =>
    let w := wrapKey kek s.draw key
    let own := s.makesKey r
    let s := (s.setNs r { x with key := some key, storeKey := some w, memberKey := if own then some w else x.memberKey }).drawn
    let s := if own then s.writeRecords (s.nsArray r) else s
    if s.paired && own then s.sendRec .key r 0 92 (.key (some w)) else s

/-- The wrapped copies and the key of a namespace are overwritten (06 R227 step 3). -/
def State.zeroKey (s : State) (r : Nat) : State := s.setNs r { s.ns r with key := none, memberKey := none, storeKey := none }

/-- Start a crypto-erase (06 Table 6, steps 1 and 2): commands not past admission end with `sct`/`sc`, reads whose blocks
may be retransmitted lose their queue pair (reason 12), dirty blocks are dropped, and the peer is told. -/
def State.startErase (s : State) (r : Nat) (cmd : Option Nat) (deleting : Bool) (sc : Nat) : State :=
  let x := s.ns r
  if s.twin.take.any fun k => !k.left.isEmpty then
    s.setNs r { x with eraseLater := some (sc, deleting), eraseCmd := if cmd.isSome then cmd else x.eraseCmd }
  else
  let s := s.setNs r { x with erasing := true, deleting := deleting || x.deleting
                              eraseCmd := if cmd.isSome then cmd else x.eraseCmd }
  if x.erasing then s.syncNsState r
  else
    let a := s.nsArray r
    let early := (s.nsCmds r).filter fun e => decide (e.2.stage = .waitAdmit ∨ e.2.stage = .waitDirty ∨ e.2.stage = .fuseWait)
    let s := s.each early fun s e => s.complete e.1 0 sc 0
    let held := ((s.nsCmds r).filter fun e => e.2.kept && e.2.qp.isSome).filterMap fun e => e.2.qp
    let s := s.each held.eraseDups fun s i => s.qpDown i 12 0 0
    let s := s.each (s.usedOf r) fun s g => s.dropSectors a (g * 65536) 128
    let s := (s.retireClean a).syncDirty.settleWrites
    let s := s.syncNsState r
    if s.paired && s.makesKey r then
      let seq := s.nextRec
      let s := s.setNs r { s.ns r with keyAsked := some seq, keyDone := false }
      s.sendRec .key r 0 0 (.key none)
    else s.setNs r { s.ns r with keyAsked := none, keyDone := true }

/-- The key that the wrapped copies of a namespace give under a KEK: that of the settings store, else that of the members. -/
def NsState.opened (x : NsState) (kek : Nat) : Option Nat :=
  (x.storeKey.bind (unwrapKey kek)).orElse fun _ => x.memberKey.bind (unwrapKey kek)

/-- A namespace meets the KEK of its tenant: a key in use is wrapped under it, else the wrapped copies are opened with it (06 R225, R226). -/
def State.meetKek (s : State) (kek r : Nat) : State :=
  let s := match (s.ns r).key with
    | some k => s.takeKey r k
    | none => s.setNs r { s.ns r with key := (s.ns r).opened kek }
  s.syncNsState r

/-- A KEK takes service: its check value, its sealed form where the policy keeps it, and the keys of the tenant's namespaces rewrapped
under it (R225, R226). -/
def State.applyKek (s : State) (tenant kek : Nat) : State :=
  let s := { s with nvme := { s.nvme with
    keks := Tbl.set s.nvme.keks tenant kek
    sealed := if s.o 0x3250 tenant 2 = 0 then Tbl.set s.nvme.sealed tenant (sealKek kek) else Tbl.erase s.nvme.sealed tenant } }
  let s := (s.put 0x3250 tenant 3 1).setVal 0x3250 tenant 5 (.oct 4 (kekCheck kek))
  s.each (s.nsRows.filter fun r => decide (s.nsTenant r = tenant)) fun s r => s.meetKek kek r

/-- A crypto-erase of the tenant is in progress. -/
def State.tenantErasing (s : State) (tenant : Nat) : Bool :=
  s.nvme.ns.any fun e => e.2.erasing && decide (s.nsTenant e.1 = tenant)

/-- Imports that waited for the erases of their tenant apply (06 Table 8). -/
def State.applyImports (s : State) : State :=
  let go := s.nvme.imports.filter fun e => !s.tenantErasing e.1
  let s := { s with nvme := { s.nvme with imports := s.nvme.imports.filter fun e => s.tenantErasing e.1 } }
  s.each go fun s e => s.applyKek e.1 e.2

/-- Controllers that were to go once their host's Format NVM has ended (06 Table 8). -/
def State.dropDoomed (s : State) : State :=
  let ks := (s.nvme.ctrls.filter fun e => e.2.doomed &&
    !(s.nvme.cmds.any fun c => decide (c.2.cntlid = some e.1 ∧ c.2.stage = .erasing))).map Prod.fst
  s.each ks State.deleteCtrl

/-- The erase of a namespace may end: no command past admission is left, and the peer has zeroised its copy. -/
def State.eraseReady (s : State) (r : Nat) : Bool :=
  let x := s.ns r
  x.erasing && x.keyDone && !((s.nsCmds r).any fun e => e.2.pastAdmission) && (x.deleting || s.makesKey r)

/-- The end of a crypto-erase (R227 steps 3 and 4): the old key and its copies overwritten, a new key, the next generation, every granule
deallocated, the Format NVM completed and the notices raised; a deleted namespace gives its granules back. -/
def State.finishErase (s : State) (r : Nat) (take : State → State) : State :=
  let x := s.ns r
  let a := s.nsArray r
  let s := s.zeroKey r
  let s := s.each (s.usedOf r) fun s g => s.dealloc a g
  let s := s.clearLost r 0 (s.nsBlocks r)
  let s := s.put 0x3230 r 0xB ((s.o 0x3230 r 0xB + 1) % 2 ^ 32)
  let s := (s.writeRecords a).syncDirty
  let s := if x.deleting then (s.setNs r {}).syncFree a
    else take (s.setNs r { s.ns r with erasing := false, eraseCmd := none, lostFull := false, keyAsked := none, keyDone := true })
  let s := if x.deleting then s.put 0x3230 r 9 0 else (s.syncNsState r).nsChanged r
  let s := match x.eraseCmd with
    | some id => s.succeed id
    | none => s
  s.applyImports.dropDoomed

/-- A new key from the deterministic random bit generator. -/
def State.newKey (s : State) (r : Nat) : State := s.drawn.takeKey r (s.draw % 2 ^ 512)

/-- CRYPTO_ERASE_COMPLETE (R227 steps 3 and 4). -/
def cryptoEraseComplete (r : Nat) (s : State) : State :=
  if s.eraseReady r then s.finishErase r fun s => s.newKey r else s

def execCryptoEraseComplete (t nsRow : Nat) (s : State) : Res := act t (isNsRow nsRow) s (cryptoEraseComplete nsRow)

/-! ### Discovery lists (06 R213, R214) -/

/-- No tenant restriction of an interface row, or the tenant itself (04, 3040h:08). -/
def State.ifAllows (s : State) (row tenant : Nat) : Bool := decide (s.o 0x3040 row 8 = 0xFFFF ∨ s.o 0x3040 row 8 = tenant)

/-- Enabled grants of a host row. -/
def State.grantsOf (s : State) (h : Nat) : List Nat :=
  ((s.rowsWith 0x3224 2 1).filter fun g => decide (s.o 0x3224 g 3 = h ∧ s.o 0x3210 (s.o 0x3224 g 4) 2 = 1)).map fun g => s.o 0x3224 g 4

/-- Enabled listeners of a type that a host's tenant may use, ascending. -/
def State.listenersFor (s : State) (h type : Nat) : List Nat :=
  sortNat ((s.rowsWith 0x3240 2 1).filter fun l =>
    decide (s.o 0x3240 l 5 = type) && s.ifAllows (s.o 0x3240 l 3) (s.o 0x3220 h 4))

/-- Entries of a host's discovery log: subsystem row and listener row, ascending, then the discovery subsystem at each discovery listener
(06 Table 3; log entry 157); at most 256. -/
def State.discovery (s : State) (h : Nat) : List (Option Nat × Nat) :=
  if s.o 0x3220 h 2 ≠ 1 then []
  else
    let subs := sortNat (s.grantsOf h)
    ((subs.flatMap fun x => (s.listenersFor h 1).map fun l => (some x, l)) ++ (s.listenersFor h 2).map fun l => (none, l)).take 256

/-- What a host's discovery log says of its entries: the rows and their settings. -/
def State.discoveryText (s : State) (h : Nat) : List (Option Nat × Nat × String × Val × Nat) :=
  (s.discovery h).map fun e =>
    (e.1, e.2, (s.val 0x3210 (e.1.getD 0) 3).toStr, s.val 0x3040 (s.o 0x3240 e.2 3) 5, s.o 0x3240 e.2 4)

/-- After a commit, hosts whose list has changed get a new generation and the notice. -/
def State.refreshDiscovery (s old : State) : State :=
  let hs := (old.rowsWith 0x3220 2 1 ++ s.rowsWith 0x3220 2 1).eraseDups
  s.each hs fun s h => if old.discoveryText h = s.discoveryText h then s else s.discoveryChanged h

/-! ### Subsystems, hosts, grants, listeners (06 R194, R232) -/

/-- Another row of a window holds this NQN. -/
def State.nqnTaken (s : State) (win row : Nat) (nqn : String) : Bool :=
  nqn ≠ "" && s.dict.cur.any fun e =>
    decide (e.1 % 256 = 3 ∧ e.1 / 256 / 2 ^ 64 = win ∧ e.1 / 256 % 2 ^ 64 ≠ row ∧ e.2 = .str nqn)

/-- Commit of 3210h: the NQN is unique among rows. -/
def subsystemCode (_ : Session) (st : Stage) (s : State) : Abort :=
  need (!s.nqnTaken 0x3210 st.row (st.val 3).toStr) abJoin

def applySubsystem (_ : Stage) (old u : State) : State := u.refreshDiscovery old

/-- SUBSYSTEM_COMMIT. -/
def subsystemCommit (sess : Nat) (s : State) : State := s.commitAs sess 0x3210 1 subsystemCode applySubsystem

def execSubsystemCommit (t sess : Nat) (s : State) : Res := act t true s (subsystemCommit sess)

/-- Controllers of a host row. -/
def State.hostCtrls (s : State) (h : Nat) : List Nat :=
  (s.liveCtrls.filter fun e => e.2.vf.isNone && decide (e.2.hostRow = h)).map Prod.fst

/-- Commit of 3220h: the NQN is unique, the tenant fixed while a controller of the host exists. -/
def hostCode (_ : Session) (st : Stage) (s : State) : Abort :=
  firstCode [need (!s.nqnTaken 0x3220 st.row (st.val 3).toStr) abJoin,
    need (decide (st.n 4 = s.o 0x3220 st.row 4) || (s.hostCtrls st.row).isEmpty) abState]

/-- Enable 0 deletes the host's controllers. -/
def applyHost (st : Stage) (old u : State) : State :=
  let u := if st.n 2 = 0 then u.each (u.hostCtrls st.row) State.dismissCtrl else u
  (u.refreshDiscovery old).syncHolders

/-- HOST_NQN_COMMIT. -/
def hostNqnCommit (sess : Nat) (s : State) : State := s.commitAs sess 0x3220 1 hostCode applyHost

def execHostNqnCommit (t sess : Nat) (s : State) : Res := act t true s (hostNqnCommit sess)

/-- An enabled grant joins a host to a subsystem. -/
def State.granted (s : State) (h sub : Nat) : Bool :=
  (s.rowsWith 0x3224 2 1).any fun g => decide (s.o 0x3224 g 3 = h ∧ s.o 0x3224 g 4 = sub)

/-- Commit of 3224h: the controllers that no grant admits any more are deleted (R194). -/
def applyGrant (_ : Stage) (old u : State) : State :=
  let ks := (u.liveCtrls.filter fun e => e.2.vf.isNone && !e.2.discovery && !u.granted e.2.hostRow e.2.subsys).map Prod.fst
  (u.each ks State.dismissCtrl).refreshDiscovery old

/-- GRANT_COMMIT. -/
def grantCommit (sess : Nat) (s : State) : State := s.commitAs sess 0x3224 1 (fun _ _ _ => 0) applyGrant

def execGrantCommit (t sess : Nat) (s : State) : Res := act t true s (grantCommit sess)

/-- Commit of 3240h. -/
def applyListener (_ : Stage) (old u : State) : State := u.refreshDiscovery old

/-- LISTENER_COMMIT. -/
def listenerCommit (sess : Nat) (s : State) : State := s.commitAs sess 0x3240 1 (fun _ _ _ => 0) applyListener

def execListenerCommit (t sess : Nat) (s : State) : Res := act t true s (listenerCommit sess)

/-- INTERFACE_COMMIT (04 Table 5): the row applies. -/
def interfaceCommit (sess : Nat) (s : State) : State :=
  s.commitAs sess 0x3040 1 interfaceCode fun _ old u => u.refreshDiscovery old

def execInterfaceCommit (t sess : Nat) (s : State) : Res := act t true s (interfaceCommit sess)

/-! ### Namespaces (06 R195, R196, R228) -/

/-- More granules that the stage of a namespace asks for. -/
def State.moreGranules (s : State) (st : Stage) : Nat :=
  granulesFor (st.n 8) (st.n 7) - sumNat ((s.ns st.row).extents.map Prod.snd)

/-- Commit of 3230h. -/
def namespaceCode (_ : Session) (st : Stage) (s : State) : Abort :=
  let r := st.row
  let x := s.ns r
  let room := (s.allocate (st.n 6) (s.moreGranules st) x.extents.length).isSome
  if s.o 0x3230 r 2 = 1 then
    firstCode
      [need ([3, 4, 5, 6, 7].all fun k => decide (st.n k = s.o 0x3230 r k)) abState,
       need (decide (s.nsBlocks r ≤ st.n 8)) abState,
       need (decide (st.n 0xC = 0) || !x.erasing) abState,
       need (decide (st.n 2 = 0) || room) abState]
  else if st.n 2 = 1 then
    firstCode
      [need (decide (1 ≤ st.n 4 ∧ st.n 4 ≤ 8192)) abRange,
       need (!(s.nsRows.any fun n => decide (n ≠ r ∧ s.o 0x3230 n 3 = st.n 3 ∧ s.o 0x3230 n 4 = st.n 4))) abState,
       need (decide (st.n 0xC = 0)) abState,
       need (!x.erasing) abState,
       need (s.arrOn (st.n 6) && !(s.arrS (st.n 6)).failed && room) abState,
       need (s.kekPresent (st.n 5)) abState]
  else need (decide (st.n 0xC = 0)) abState

/-- A new namespace: its granules, its key, its NGUID; the owner of its array makes the key and passes it wrapped to the peer (R223). -/
def State.createNs (s : State) (r : Nat) (ext : List (Nat × Nat)) : State :=
  let id := s.nvme.ngBase
  let s := s.setNs r { extents := ext }
  let s := { s with nvme := { s.nvme with ngBase := id + 1 } }
  let s := s.setVal 0x3230 r 0xA (.oct 16 ((Config.nguidBase * 2 ^ 64 + id) % 2 ^ 128))
  let s := s.writeRecords (s.nsArray r)
  let s := if s.makesKey r then s.newKey r else s
  ((s.syncNsState r).syncFree (s.nsArray r)).nsChanged r

/-- Effect of a commit of 3230h. -/
def applyNamespace (st : Stage) (old u : State) : State :=
  let r := st.row
  let u := u.syncHolders
  let was := old.o 0x3230 r 2
  if was = 0 ∧ st.n 2 = 1 then
    u.createNs r ((old.allocate (st.n 6) (old.moreGranules st) 0).getD [])
  else if was = 1 ∧ st.n 2 = 0 then
    let u := u.startErase r none true 0x0B
    u.each (old.ctrlsOf r) fun s e => s.nsNotice e.1 (old.o 0x3230 r 4)
  else if was = 1 then
    let a := old.nsArray r
    let u := match old.allocate a (old.moreGranules st) (old.ns r).extents.length with
      | some l => if l.isEmpty then u
          else ((u.setNs r { u.ns r with extents := (u.ns r).extents ++ l }).syncFree a).writeRecords a
      | none => u
    let u := if old.nsBlocks r < st.n 8 then u.nsChanged r else u
    if st.n 0xC = 1 then u.startErase r none false 0x84 else u
  else u

/-- NAMESPACE_COMMIT. -/
def namespaceCommit (sess : Nat) (s : State) : State := s.commitAs sess 0x3230 1 namespaceCode applyNamespace

def execNamespaceCommit (t sess : Nat) (s : State) : Res := act t true s (namespaceCommit sess)

/-- NAMESPACE_CRYPTO_ERASE: the same commit, with 3230h:0C at 1. -/
def namespaceCryptoErase (sess : Nat) (s : State) : State := s.commitAs sess 0x3230 1 namespaceCode applyNamespace

def execNamespaceCryptoErase (t sess : Nat) (s : State) : Res := act t true s (namespaceCryptoErase sess)

/-! ### Tenant keys (06 R222, R225, R226, R228) -/

/-- The stage carries an import. -/
def Stage.imports (st : Stage) : Bool :=
  match st.val 4 with
  | .oct n _ => decide (n ≠ 0)
  | _ => false

/-- The KEK in the import of a stage (R222). -/
def Stage.kek (st : Stage) : Option Nat :=
  match st.val 4 with
  | .oct n v => if n = 1180 then openKek st.row (swapBytes 1180 v) else none
  | _ => none

/-- Commit of 3250h: an import has 1,180 bytes, decapsulates and authenticates; in policy 0 it must go into the settings store (R225; 16
R561, R643). -/
def tenantKeyCode (_ : Session) (st : Stage) (s : State) : Abort :=
  let len := match st.val 4 with
    | .oct n _ => n
    | _ => 0
  if st.imports then
    firstCode [need (decide (len = 1180)) abLength, need st.kek.isSome abRange, need (decide (st.n 6 = 0)) abJoin,
      s.storeCode (decide (st.n 2 = 0))]
  else 0

/-- The KEK of a tenant goes, and every namespace of the tenant is crypto-erased. -/
def State.destroyKek (s : State) (tenant : Nat) : State :=
  let s := { s with nvme := { s.nvme with
    keks := Tbl.erase s.nvme.keks tenant, sealed := Tbl.erase s.nvme.sealed tenant, imports := s.nvme.imports.filter fun e => decide (e.1 ≠ tenant) } }
  let s := (s.put 0x3250 tenant 3 0).setVal 0x3250 tenant 5 (.oct 4 0)
  s.each (s.nsRows.filter fun r => decide (s.nsTenant r = tenant)) fun s r =>
    if s.makesKey r then s.startErase r none false 0x84 else (s.zeroKey r).syncNsState r

/-- A change of the policy seals a KEK in the settings store or takes it out (R225). -/
def State.sealPolicy (s : State) (tenant : Nat) : State :=
  { s with nvme := { s.nvme with sealed := match Tbl.find? s.nvme.keks tenant with
      | some k => if s.o 0x3250 tenant 2 = 0 then Tbl.set s.nvme.sealed tenant (sealKek k) else Tbl.erase s.nvme.sealed tenant
      | none => s.nvme.sealed } }

/-- Effect of a commit of 3250h. -/
def applyTenantKey (st : Stage) (_ u : State) : State :=
  if st.imports then
    match st.kek with
    | some k =>
      if u.tenantErasing st.row then
        { u with nvme := { u.nvme with imports := (u.nvme.imports.filter fun e => decide (e.1 ≠ st.row)) ++ [(st.row, k)] } }
      else u.applyKek st.row k
    | none => u
  else if st.n 6 = 1 then u.destroyKek st.row
  else u.sealPolicy st.row

/-- TENANT_KEY_IMPORT: a commit of 3250h whose stage carries an import. -/
def tenantKeyImport (sess v : Nat) (s : State) : State := s.commitAs sess 0x3250 v tenantKeyCode applyTenantKey

def execTenantKeyImport (t sess v : Nat) (s : State) : Res := act t true s (tenantKeyImport sess v)

/-- TENANT_KEY_DESTROY: a commit of 3250h with 3250h:06 at 1. -/
def tenantKeyDestroy (sess : Nat) (s : State) : State := s.commitAs sess 0x3250 1 tenantKeyCode applyTenantKey

def execTenantKeyDestroy (t sess : Nat) (s : State) : Res := act t true s (tenantKeyDestroy sess)

end Sys2Proof.Machine
end

