-- ==== Sys2Proof/Machine/Admin.lean ====
section
/-! DEFINITION. Connect, properties, Keep Alive and the admin commands of a controller (06 R200 to R205, R213 to R217, Table
4; 12 R415, R416). -/

namespace Sys2Proof.Machine

/-! ### Connect (06 R200) -/

/-- The well-known NQN of the discovery subsystem (06 R213). -/
def discoveryNqn : String := "nqn.2014-08.org.nvmexpress.discovery"

/-- The enabled row of a window that holds an NQN. -/
def State.nqnRow (s : State) (win : Nat) (nqn : String) : Option Nat :=
  (s.rowsWith win 2 1).find? fun r => decide (s.val win r 3 = .str nqn)

/-- Controller IDs for fabric controllers (06 R201, 12 R418): lowest and number of them, VF IDs left out. -/
def State.ctrlRange (s : State) : Nat × Nat :=
  if s.twin.twinMode = false then (1, 0xFF6F)
  else if s.ob 0x2400 2 = 1 then (1, 0x7F6F)
  else (0x8001, 0xFF6F - 0x8000)

/-- The lowest controller ID from `k` on that is free and was not deleted within the last 10 s. -/
def State.freeCtrl (s : State) (k : Nat) : Nat → Option Nat
  | 0 => none
  | n + 1 =>
    if Tbl.has s.nvme.ctrls k || s.nvme.gone.any (fun e => decide (e.1 = k ∧ s.now < e.2 + 10 * sNs)) then s.freeCtrl (k + 1) n
    else some k

/-- A host NQN is limited under R230. -/
def State.hostLimited (s : State) (h : Nat) : Bool := (s.hostOffender h).until_.isSome

/-- Step 3 of R200 for host `h`, subsystem `sub` (none: discovery): Dword 0 for the first parameter that is invalid, its byte offset and in
bit 16 whether it lies in the Connect data (NVMe over Fabrics; log entry 156). -/
def State.connectParams (s : State) (q : Qp) (c : Capsule) (h : Nat) (sub : Option Nat) : Option Nat :=
  let io := decide (q.privQid ≠ 0)
  let k := s.ctrl c.cntlid
  let live := decide (k.state ≠ 0 ∧ k.hostRow = h) && k.vf.isNone && decide (some k.subsys = sub ∧ k.discovery = false)
  if c.qid ≠ q.privQid then some 42
  else if c.sqsize ≠ q.hsqsize then some 44
  else if io && !live then some 0x10010
  else if io && k.ioQps.any (fun e => decide (e.1 = c.qid)) then some 42
  else if !io && decide (c.cntlid ≠ 0xFFFF) then some 0x10010
  else if !io && (decide (600000 < c.kato) || sub.isSome && decide (c.kato = 0)) then some 48
  else if c.hostid = 0 ∨ (s.hostCtrls h).any (fun k => decide ((s.ctrl k).hostid ≠ c.hostid)) = true then some 0x10000
  else none

/-- The answer to a Connect that fails a step of R200 or a later row of Table 7, with its Dword 0, or its host row and subsystem. -/
def State.connectCheck (s : State) (q : Qp) (c : Capsule) : Except (Answer × Nat) (Nat × Option Nat) :=
  if c.recfmt ≠ 0 then .error ((1, 0x80, 5, true), 0)
  else
    let disc := decide (c.subnqn = discoveryNqn)
    let sub := s.nqnRow 0x3210 c.subnqn
    match s.nqnRow 0x3220 c.hostnqn with
    | none => .error ((1, 0x84, 6, true), 0)
    | some h =>
      let joined := if disc then true else match sub with
        | some x => s.granted h x
        | none => false
      if !joined || !s.ifAllows q.ifRow (s.o 0x3220 h 4) || decide (q.listenerType ≠ if disc then 2 else 1) then
        .error ((1, 0x84, 6, true), 0)
      else
        let sub := if disc then none else sub
        match s.connectParams q c h sub with
        | some dw0 => .error ((1, 0x82, 7, true), dw0)
        | none =>
          if 8192 ≤ s.ctrlCount ∨ s.hostLimited h = true then .error ((1, 0x81, 8, false), 0)
          else
            match firstBad [whenBad (fieldBad true c 1024) 0 2 0xB false, networkDptr c 1024 true] with
            | some a => .error (a, 0)
            | none => .ok (h, sub)

/-- A Connect has succeeded on queue pair `i`: it belongs to controller `k` of host row `h`, and is a twin under the conditions
of 14 R486 (log entry 66). -/
def State.joinQueue (s : State) (id i k h : Nat) : State :=
  let tenant := s.o 0x3220 h 4
  let s := s.setQp i { s.qp i with cntlid := some k, qid := (s.qp i).privQid, tenant := tenant }
  let s := s.setCmd id { s.cmd id with cntlid := some k, tenant := tenant }
  let s := if s.paired && s.peerFit && decide (s.o 0x2450 tenant 2 = 1) then
      (s.setQp i { s.qp i with twin := true }).startCopies i
    else s
  (s.syncHost h).complete id 0 0 k

/-- CONNECT. -/
def connect (id : Nat) (s : State) : State :=
  let c := s.cmd id
  match c.qp with
  | some i =>
    let q := s.qp i
    if Tbl.has s.nvme.cmds id && decide (c.stage = .ready ∧ c.cap.opcode = 0x7F ∧ c.cap.fctype = 1) && q.cntlid.isNone then
      match s.connectCheck q c.cap with
      | .error a => s.answer id a.1 a.2
      | .ok (h, sub) =>
        if q.privQid = 0 then
          match s.freeCtrl s.ctrlRange.1 s.ctrlRange.2 with
          | some k =>
            let x : Ctrl := { state := 1, hostRow := h, subsys := sub.getD 0, discovery := sub.isNone, hostid := c.cap.hostid
                              kato := roundKato c.cap.kato, lastKeepAlive := c.arrivedAt, adminQp := some i }
            (s.setCtrl k x).joinQueue id i k h
          | none => s.answer id (1, 0x81, 8, false)
        else
          let k := c.cap.cntlid
          let x := s.ctrl k
          (s.setCtrl k { x with ioQps := x.ioQps ++ [(q.privQid, i)] }).joinQueue id i k h
    else s
  | none => s

def execConnect (t c : Nat) (s : State) : Res := act t true s (connect c)

/-! ### Admin commands -/

/-- The controller of a command that may act on its admin queue with this opcode. -/
def State.readyAdmin (s : State) (id o : Nat) : Option Nat :=
  let c := s.cmd id
  if Tbl.has s.nvme.cmds id && decide (c.stage = .ready ∧ c.cap.opcode = o) && (decide (o = 0x7F) || !s.isIoCmd c) then c.cntlid
  else none

/-- CAP: MQES 00FFh, CQR 1, TO 2, CSS NVM command set (06 Table 1). -/
def capValue : Nat := 0xFF + 2 ^ 16 + 2 * 2 ^ 24 + 2 ^ 37

/-- CSTS of a controller: RDY follows CC.EN; SHST. -/
def Ctrl.csts (c : Ctrl) : Nat := c.cc % 2 + c.shst * 4

/-- PROPERTY_GET (06 R202). -/
def propertyGet (id : Nat) (s : State) : State :=
  match s.readyAdmin id 0x7F with
  | some k =>
    let c := s.ctrl k
    if (s.cmd id).cap.fctype ≠ 4 then s
    else
      match (s.cmd id).cap.propOffset with
      | 0 => s.complete id 0 0 capValue
      | 8 => s.complete id 0 0 0x20000
      | 0x14 => s.complete id 0 0 c.cc
      | 0x1C => s.complete id 0 0 c.csts
      | _ => s.complete id 0 2 0
  | none => s

def execPropertyGet (t c : Nat) (s : State) : Res := act t true s (propertyGet c)

/-- Values of CC that CAP allows: memory page size 4 KiB, NVM command set, round robin; SHN 0 to 2; the fields above
reserved. -/
def ccOk (v : Nat) : Bool := decide (v / 16 % 1024 = 0 ∧ v / 16384 % 4 ≠ 3)

/-- CC without its reserved bits 3:1 and 31:24, which are ignored and read 0 (00 R15). -/
def ccBits (v : Nat) : Nat := v % 16777216 / 16 * 16 + v % 2

/-- A write of CC (06 R203): EN from 1 to 0 ends the I/O queue pairs and resets the controller, SHN of 1 or 2 sets SHST. -/
def State.writeCc (s : State) (k v : Nat) : State :=
  let c := s.ctrl k
  if c.cc % 2 = 1 ∧ v % 2 = 0 then
    let aers := (s.nvme.cmds.filter fun e => decide (e.2.cntlid = some k ∧ e.2.stage = .aer)).map Prod.fst
    let s := s.each (c.ioQps.map Prod.snd) fun s j => s.qpFail j 8 0 0 false
    let s := s.each aers State.eraseCmd
    let shut := decide (v / 16384 % 4 ≠ 0)
    s.setCtrl k { c with
      state := if shut then 3 else 1, cc := v, shst := if shut then 2 else 0
      ioQps := [], features := [], events := [], changedNs := [], rsvLog := [] }
  else
    let shst := if v / 16384 % 4 = 0 then (if v % 2 = 1 ∧ c.cc % 2 = 0 then 0 else c.shst) else 2
    s.setCtrl k { c with cc := v, shst := shst, state := if shst = 2 then 3 else if v % 2 = 1 then 2 else 1 }

/-- PROPERTY_SET (06 R202, R203). -/
def propertySet (id : Nat) (s : State) : State :=
  match s.readyAdmin id 0x7F with
  | some k =>
    let c := (s.cmd id).cap
    if c.fctype ≠ 0 then s
    else if c.propOffset = 0x14 ∧ ccOk c.value = true then (s.writeCc k (ccBits c.value)).succeed id
    else s.complete id 0 2 0
  | none => s

def execPropertySet (t c : Nat) (s : State) : Res := act t true s (propertySet c)

/-- KEEP_ALIVE (06 R204): at or past the controller's expiry the expiry wins (06 Table 8). -/
def keepAlive (id : Nat) (s : State) : State :=
  match s.readyAdmin id 0x18 with
  | some k =>
    let c := s.ctrl k
    let at_ := (s.cmd id).arrivedAt
    if c.vf.isNone ∧ c.kato ≠ 0 ∧ dueAt at_ c.lastKeepAlive (c.kato * msNs) = true then s.deleteCtrl k
    else (s.setCtrl k { c with lastKeepAlive := at_ }).succeed id
  | none => s

def execKeepAlive (t c : Nat) (s : State) : Res := act t true s (keepAlive c)

/-! ### Log pages (06 R214, R215) -/

/-- A number in lower-case hexadecimal, without leading zeros. -/
def hexText (n : Nat) : String := String.ofList (Nat.toDigits 16 n)

/-- An address as text: IPv4 in dotted decimal, IPv6 as its eight groups (06 Table 3; log entry 157). -/
def addressText (ip : Ip) : String :=
  if ip / 2 ^ 32 = 0xFFFF then ".".intercalate ((List.range 4).map fun i => toString (ip / 256 ^ (3 - i) % 256))
  else ":".intercalate ((List.range 8).map fun i => hexText (ip / 65536 ^ (7 - i) % 65536))

/-- Entry of the discovery log (06 Table 3): of a subsystem row and a listener row, or of the discovery subsystem and a listener. -/
def State.discoveryEntry (s : State) (e : Option Nat × Nat) : List (String × HostField) :=
  let ip := (s.val 0x3040 (s.o 0x3240 e.2 3) 5).toNat
  let nqn := match e.1 with
    | some x => (s.val 0x3210 x 3).toStr
    | none => discoveryNqn
  [("TRTYPE", .n 1), ("ADRFAM", .n (if ip / 2 ^ 32 = 0xFFFF then 1 else 2)), ("SUBTYPE", .n (if e.1.isSome then 2 else 3)), ("TREQ", .n 2),
   ("PORTID", .n e.2), ("CNTLID", .n 0xFFFF), ("ASQSZ", .n 32), ("TRSVCID", .s (toString (s.o 0x3240 e.2 4))),
   ("SUBNQN", .s nqn), ("TRADDR", .s (addressText ip)), ("QPTYPE", .n 1), ("PRTYPE", .n 4), ("CMS", .n 1)]

/-- ANA log page: one entry per group with the attached namespaces in it. -/
def State.anaEntry (s : State) (c : Ctrl) (a : Nat) : List (String × HostField) :=
  let ns := (s.attached c).filter fun n => decide (s.nsArray n = a)
  [("GRPID", .n (a + 1)), ("STATE", .n (s.anaState a)), ("NSIDS", .l (sortNat (ns.map fun n => s.o 0x3230 n 4)))]

/-- The log page `lid` of a controller; none where it is not supported. -/
def State.logPage (s : State) (c : Ctrl) (lid : Nat) : Option HostData :=
  if lid = 0x70 then
    (if c.discovery then
      let l := s.discovery c.hostRow
      some { kind := "discovery", fields := [("GENCTR", .n (Tbl.get 0 s.nvme.genctr c.hostRow)), ("NUMREC", .n l.length)]
             rows := l.map s.discoveryEntry }
    else none)
  else if lid = 1 then some { kind := "error information" }
  else if lid = 2 then some { kind := "SMART" }
  else if lid = 3 then some { kind := "firmware slot", fields := [("FRS1", .n s.runningVersion)] }
  else if lid = 4 then some { kind := "changed namespaces", fields := [("NSIDS", .l c.changedNs)] }
  else if lid = 5 then
    some { kind := "commands", fields := [("ADMIN", .l [2, 6, 8, 9, 0xA, 0xC, 0x18, 0x80]),
                                          ("IO", .l [0, 1, 2, 5, 8, 9, 0xC, 0xD, 0xE, 0x11, 0x15])] }
  else if lid = 0xC then some { kind := "ANA", rows := ((List.range 4).filter s.arrOn).map (s.anaEntry c) }
  else if lid = 0x80 then
    some { kind := "reservation notification"
           fields := match c.rsvLog with
             | [] => [("TYPE", .n 0)]
             | e :: r => [("LPC", .n ((c.rsvCount - r.length) % 2 ^ 64)), ("TYPE", .n e.1), ("NALP", .n (min 255 r.length)),
                 ("NSID", .n e.2)] }
  else none

/-- GET_LOG_PAGE: reading the changed-namespace list clears it, reading a reservation notification removes it. -/
def getLogPage (id : Nat) (s : State) : State :=
  match s.readyAdmin id 2 with
  | some k =>
    let c := s.ctrl k
    let cap := (s.cmd id).cap
    match s.logPage c cap.lid with
    | some d =>
      let s := s.setCtrl k { c with
        changedNs := if cap.lid = 4 then [] else c.changedNs, rsvLog := if cap.lid = 0x80 then c.rsvLog.drop 1 else c.rsvLog }
      s.answerData id cap.dataLen d
    | none => s.complete id 1 9 0
  | none => s

def execGetLogPage (t c : Nat) (s : State) : Res := act t true s (getLogPage c)

/-! ### Identify (06 R216 Table 5, 12 R416) -/

/-- Identify Controller: Table 5, with the fields that NVMe Base 2.0 requires beside it. The serial number is the one that 3210h:04 gives
the subsystem, else the module's (log entry 158). -/
def State.identifyCtrl (s : State) (k : Nat) (c : Ctrl) : HostData :=
  let vf := c.vf.isSome
  let given := if c.discovery then "" else (s.val 0x3210 c.subsys 4).toStr
  let sn := if given = "" then s.ownSerial else given
  let nqn := if c.discovery then discoveryNqn else (s.val 0x3210 c.subsys 3).toStr
  { kind := "controller"
    fields := [("MN", .s "Haphor Serinzor SRZ-3224"), ("SN", .s sn), ("CNTLID", .n k), ("VER", .n 0x20000), ("MDTS", .n 8),
      ("OAES", .n (if c.discovery then 2 ^ 31 else 2 ^ 8 + 2 ^ 11)), ("SQES", .n 0x66), ("CQES", .n 0x44),
      ("CNTRLTYPE", .n (if c.discovery then 2 else 1)), ("CMIC", .n 0xA), ("OACS", .n 2), ("ACL", .n 3), ("AERL", .n 3),
      ("ANACAP", .n 0x5D), ("ANATT", .n 10), ("ANAGRPMAX", .n 4), ("NANAGRPID", .n 4), ("MAXCMD", .n (if vf then 0 else 256)),
      ("NN", .n 8192), ("ONCS", .n 0xAD), ("FUSES", .n 1), ("FNA", .n 4), ("VWC", .n 0),
      ("SGLS", .n (if vf then 1 else 0x140005)), ("IOCCSZ", .n (if vf then 0 else 1028)), ("IORCSZ", .n (if vf then 0 else 1)),
      ("ICDOFF", .n 0), ("MSDBD", .n (if vf then 0 else 16)), ("KAS", .n 1), ("SUBNQN", .s nqn)] }

/-- Identify Namespace. -/
def State.identifyNs (s : State) (r : Nat) : HostData :=
  let sz := s.nsLba r
  { kind := "namespace"
    fields := [("NSZE", .n (s.nsBlocks r)), ("NCAP", .n (s.nsBlocks r)), ("NUSE", .n (s.nuse r)), ("NLBAF", .n 0), ("FLBAS", .n 0),
      ("LBADS", .n (if sz = 512 then 9 else 12)), ("MS", .n 0), ("DLFEAT", .n 9), ("NPDG", .n (65536 / max 1 sz - 1)),
      ("NPDA", .n (65536 / max 1 sz - 1)), ("NMIC", .n 1), ("RESCAP", .n 0x7F), ("ANAGRPID", .n (s.nsArray r + 1)),
      ("NGUID", .n (s.val 0x3230 r 0xA).toNat)] }

/-- The namespace that an NSID names for a controller, or the answer (06 Table 7, 10h and 11h). -/
def State.nsNamed (s : State) (c : Ctrl) (nsid : Nat) : Except Answer Nat :=
  match s.nsOf c nsid with
  | none => .error (0, 0x0B, 0x10, false)
  | some r => if s.nsTenant r = s.ctrlTenant c then .ok r else .error (0, 0x0B, 0x11, true)

/-- IDENTIFY. -/
def identify (id : Nat) (s : State) : State :=
  match s.readyAdmin id 6 with
  | some k =>
    let c := s.ctrl k
    let cap := (s.cmd id).cap
    if cap.cns = 1 then s.answerData id 4096 (s.identifyCtrl k c)
    else if cap.cns = 2 then
      let l := (sortNat ((s.attached c).map fun n => s.o 0x3230 n 4)).filter fun n => decide (cap.nsid < n)
      s.answerData id 4096 { kind := "active namespaces", fields := [("NSIDS", .l (l.take 1024))] }
    else if cap.cns = 0 ∨ cap.cns = 3 then
      match s.nsNamed c cap.nsid with
      | .error a => s.answer id a
      | .ok r =>
        if cap.cns = 0 then s.answerData id 4096 (s.identifyNs r)
        else s.answerData id 4096 { kind := "namespace descriptors", fields := [("NGUID", .n (s.val 0x3230 r 0xA).toNat)] }
    else s.complete id 0 2 0
  | none => s

def execIdentify (t c : Nat) (s : State) : Res := act t true s (identify c)

/-! ### Abort, features, events, Format NVM, Disconnect -/

/-- A command lies on submission queue `sqid` of controller `k` under identifier `cid`. -/
def State.onQueue (s : State) (k sqid cid : Nat) (qp : Option Nat) (vf : Option (Nat × Nat × Nat)) (c : Capsule) : Bool :=
  decide (c.cid = cid) &&
    (match qp, vf with
     | some i, _ => decide ((s.qp i).cntlid = some k ∧ (s.qp i).qid = sqid)
     | none, some (p, v, q) => decide (s.vfCtrl p v = k ∧ q = sqid)
     | none, none => false)

/-- Abort a command that has been taken and is not past array admission. -/
def State.abortCmd (s : State) (id : Nat) : State :=
  let c := s.cmd id
  let s := s.complete id 0 7 0
  match c.fused with
  | some w => s.complete w 0 9 0
  | none => s

/-- End a capsule that still waits at its engine, with a status. -/
def State.endInput (s : State) (e : Nat) (x : EngineInput) (sct sc : Nat) : State :=
  let s := { s with nvme := { s.nvme with inputs := Tbl.modify [] s.nvme.inputs e fun l => l.erase x } }
  let s := match x.qp with
    | some i => s.setQp i { s.qp i with
        sqhd := ((s.qp i).sqhd + 1) % ((s.qp i).hsqsize + 1), bufs := (s.qp i).bufs + 1, begun := true }
    | none => s
  let (id, s) := s.newCmd x e
  s.complete id sct sc 0

/-- Stages of a command not past array admission. -/
def CmdStage.early : CmdStage → Bool
  | .fuseWait | .waitAdmit | .waitDirty | .aer => true
  | _ => false

/-- ABORT (06 Table 4): Dword 0 bit 0 tells that nothing was aborted. -/
def abort (id : Nat) (s : State) : State :=
  match s.readyAdmin id 8 with
  | some k =>
    let cap := (s.cmd id).cap
    let waiting := (s.nvme.cmds.filter fun e => decide (e.2.cntlid = some k ∧ e.2.stage = .ready ∧ e.2.cap.opcode = 8) &&
      !s.isIoCmd e.2).length
    if 4 < waiting then s.complete id 1 3 0
    else
      match s.nvme.cmds.find? fun e => e.2.stage.early && s.onQueue k cap.sqid cap.acid e.2.qp e.2.vf e.2.cap with
      | some (j, _) => (s.abortCmd j).succeed id
      | none =>
        let ins := s.nvme.inputs.flatMap fun e => e.2.map fun x => (e.1, x)
        match ins.find? fun e => s.onQueue k cap.sqid cap.acid e.2.qp e.2.vf e.2.cap with
        | some (e, x) => (s.endInput e x 0 7).succeed id
        | none => s.complete id 0 0 1
  | none => s

def execAbort (t c : Nat) (s : State) : Res := act t true s (abort c)

/-- Key of a feature that is kept for each namespace. -/
def nsFeature (fid nsid : Nat) : Nat := fid * 2 ^ 32 + nsid

/-- The host identifier feature takes its value: on a VF it is the host identifier (12 R419), on a network controller that of Connect
stays the one that reservations go by (06 R210; log entry 42). -/
def State.takeHostid (s : State) (id : Nat) : State :=
  match (s.cmd id).cntlid with
  | some k =>
    let c := s.ctrl k
    let h := (s.cmd id).cap.hostid
    let s := match c.vf with
      | some (p, v) => (s.setCtrl k { c with hostid := h }).setVf p v { s.vf p v with hostid := h }
      | none => s.setCtrl k { c with features := Tbl.set c.features 0x81 h }
    s.succeed id
  | none => s

/-- SET_FEATURES (06 R215, R217; 12 R419; log entry 42). -/
def setFeatures (id : Nat) (s : State) : State :=
  match s.readyAdmin id 9 with
  | some k =>
    let c := s.ctrl k
    let cap := (s.cmd id).cap
    let put (key : Nat) : State := s.setCtrl k { c with features := Tbl.set c.features key cap.value }
    match cap.fid with
    | 0x07 => s.complete id 0 0 (127 * 65536 + 127)
    | 0x0B => (put 0xB).succeed id
    | 0x0F =>
      if (cap.value = 0 ∧ c.vf.isNone = true ∧ c.discovery = false) ∨ 600000 < cap.value then s.complete id 0 2 0
      else (s.setCtrl k { c with kato := roundKato cap.value }).succeed id
    | 0x81 =>
      let s := (s.setCmd id { s.cmd id with stage := .fetching }).fetchData id
      if s.dataIn id then s.takeHostid id else s
    | 0x82 =>
      if cap.nsid = 0xFFFFFFFF then
        let fs := (s.attached c).foldl (fun t n => Tbl.set t (nsFeature 0x82 (s.o 0x3230 n 4)) cap.value) c.features
        (s.setCtrl k { c with features := fs }).succeed id
      else
        match s.nsNamed c cap.nsid with
        | .error a => s.answer id a
        | .ok _ => (put (nsFeature 0x82 cap.nsid)).succeed id
    | 0x83 =>
      match s.nsNamed c cap.nsid with
      | .error a => s.answer id a
      | .ok r =>
        s.storeResv r { (s.ns r).resv with ptpl := decide (cap.value % 2 = 1) } id
    | _ => s.complete id 0 2 0
  | none => s

def execSetFeatures (t c : Nat) (s : State) : Res := act t true s (setFeatures c)

/-- GET_FEATURES. -/
def getFeatures (id : Nat) (s : State) : State :=
  match s.readyAdmin id 0xA with
  | some k =>
    let c := s.ctrl k
    let cap := (s.cmd id).cap
    match cap.fid with
    | 0x07 => s.complete id 0 0 (127 * 65536 + 127)
    | 0x0B => s.complete id 0 0 (c.feature 0xB)
    | 0x0F => s.complete id 0 0 c.kato
    | 0x81 => s.answerData id 16 { kind := "host identifier", fields := [("HOSTID", .n (Tbl.get c.hostid c.features 0x81))] }
    | 0x82 =>
      match s.nsNamed c cap.nsid with
      | .error a => s.answer id a
      | .ok _ => s.complete id 0 0 (Tbl.get 0 c.features (nsFeature 0x82 cap.nsid))
    | 0x83 =>
      match s.nsNamed c cap.nsid with
      | .error a => s.answer id a
      | .ok r => s.complete id 0 0 (if (s.ns r).resv.ptpl then 1 else 0)
    | _ => s.complete id 0 2 0
  | none => s

def execGetFeatures (t c : Nat) (s : State) : Res := act t true s (getFeatures c)

/-- ASYNCHRONOUS_EVENT_REQUEST: held until an event completes it; at most 4 stand. -/
def asynchronousEventRequest (id : Nat) (s : State) : State :=
  match s.readyAdmin id 0xC with
  | some k =>
    let n := (s.nvme.cmds.filter fun e => decide (e.2.cntlid = some k ∧ e.2.stage = .aer)).length
    if 4 ≤ n then s.complete id 1 5 0
    else State.deliverEvents k 5 (s.setCmd id { s.cmd id with stage := .aer })
  | none => s

def execAsynchronousEventRequest (t c : Nat) (s : State) : Res := act t true s (asynchronousEventRequest c)

/-- FORMAT_NVM (06 R228, Table 6): SES 010b with the current LBA format starts a crypto-erase. -/
def formatNvm (id : Nat) (s : State) : State :=
  match s.readyAdmin id 0x80 with
  | some k =>
    let cap := (s.cmd id).cap
    if cap.ses ≠ 2 ∨ cap.lbaf ≠ 0 then s.complete id 0 2 0
    else
      match s.nsBad (s.ctrl k) true (s.cmd id).host cap with
      | some b => s.answer id b
      | none =>
        let r := (s.nsOf (s.ctrl k) cap.nsid).getD 0
        (s.setCmd id { s.cmd id with stage := .erasing }).startErase r (some id) false 0x84
  | none => s

def execFormatNvm (t c : Nat) (s : State) : Res := act t true s (formatNvm c)

/-- DISCONNECT (06 Table 4): the command completes, and its queue pair is ended as R183 does once the response has arrived. -/
def disconnect (id : Nat) (s : State) : State :=
  match s.readyAdmin id 0x7F, (s.cmd id).qp with
  | some _, some i =>
    if (s.cmd id).cap.fctype = 8 ∧ (s.qp i).qid ≠ 0 then
      let s := s.succeed id
      s.setQp i { s.qp i with ending := some id }
    else s
  | _, _ => s

def execDisconnect (t c : Nat) (s : State) : Res := act t true s (disconnect c)

end Sys2Proof.Machine
end

