-- ==== Sys2Proof/Machine/Meter.lean ====
section
/-! DEFINITION. The metering ledger (08): closing, sealing and archiving pages, the page format, what a PTP step does to the
open page, and the performance counters. -/

namespace Sys2Proof.Machine

/-! ### Gauges and records (R277, R287) -/

/-- Namespaces of a tenant that this module owns. -/
def State.ownedNs (s : State) (tenant : Nat) : List Nat :=
  s.nsRows.filter fun r => decide (s.nsTenant r = tenant) && s.owns (s.nsArray r)

/-- Meters 13 to 15 of a tenant now (08 Table 1). -/
def State.gauges (s : State) (tenant : Nat) : List Nat :=
  let ns := s.ownedNs tenant
  [sumNat (ns.map fun r => s.nsBlocks r * s.nsLba r), sumNat (ns.map fun r => s.nuse r * s.nsLba r),
    (s.rdma.qps.filter fun e => decide (e.2.state = 2 ∧ e.2.tenant = tenant)).length]

/-- Counting meter `m` of a tenant in a minute. -/
def State.meterOf (s : State) (minute tenant m : Nat) : Nat := Tbl.get 0 s.meter.counts (meterKey minute tenant m)

/-- The sixteen meters of a tenant in the open page. -/
def State.metersNow (s : State) (tenant : Nat) : List Nat :=
  ((List.range 13).map fun m => s.meterOf (minuteOf s.meter.start) tenant m) ++ s.gauges tenant

/-- Tenants with a record in the open page: those that held a row, and those with a count (R287). -/
def State.recordTenants (s : State) : List Nat :=
  let k := minuteOf s.meter.start
  let counted := s.meter.counts.filter fun e => decide (e.1 / 16 / 4096 = k ∧ 0 < e.2)
  let all := counted.foldl (fun t e => Tbl.set t (e.1 / 16 % 4096) 0) (s.meter.recs.map fun e => (e.1, 0))
  all.map (·.1)

/-! ### Closing a page (R281, R283 to R285) -/

/-- Close the open page at PTP time `upTo` with more flags, and open the next at `start` with flags of its own besides those
of the time status. No page of zero length is written (R294). -/
def State.closePage (s : State) (upTo start : Int) (more next : Nat) : State :=
  let x := s.meter
  let k := minuteOf x.start
  let status := s.ob 0x3020 7
  let opened (y : MeterState) : MeterState :=
    { y with
      start := start, flags := next + statusFlags status, late := 0, holders := s.ledgerHolders
      recs := s.ledgerHolders.map fun t => (t, 0) }
  if upTo = x.start then { s with meter := { x with start := start, flags := next + statusFlags status } }
  else
    let page : LedgerPage := {
      seq := x.seq + 1, flags := x.flags + more, from_ := x.start, upTo := upTo, status := status, utc := s.ptp.utc
      grandmaster := s.o 0x3020 0 0xA, late := x.late, version := s.runningVersion, closedAt := s.now
      recs := s.recordTenants.map fun t => { tenant := t, flags := Tbl.get 0 x.recs t, meters := s.metersNow t } }
    let rest := x.counts.filter fun e => decide (e.1 / 16 / 4096 ≠ k)
    let s := { s with meter := opened { x with seq := x.seq + 1, closing := x.closing ++ [page], counts := rest } }
    let s := (s.bump 0x4100 0 1).put 0x4100 0 2 page.seq
    let unacked : Nat := (s.meter.vault.filter fun p => decide (s.ob 0x4100 5 < p.seq)).length
    if s.ob 0x4100 6 * 10080 < unacked * 100 then s.raise .retentionWarning [page.seq, unacked] else s

/-- The boundary that ends the open page's minute. -/
def State.pageEnd (s : State) : Int := (s.meter.start / minuteNs + 1) * minuteNs

/-- Close the open page at its boundary. A page that does not begin on a boundary is short (08 Table 2). -/
def State.closeMinute (s : State) : State :=
  s.closePage s.pageEnd s.pageEnd (if s.meter.start % minuteNs = 0 then 0 else 2) 0

/-- Close every page whose boundary lies before a time, oldest first. -/
def State.closeDue (s : State) (upTo : Int) : State :=
  s.each (List.range ((upTo - s.meter.start) / minuteNs + 1).toNat) fun s _ => if s.pageEnd < upTo then s.closeMinute else s

/-- MINUTE_CLOSE: the boundary has come. -/
def minuteClose (s : State) : State := if s.pageEnd ≤ s.ptpNow then s.closeMinute else s

def execMinuteClose (t : Nat) (s : State) : Res := act t true s minuteClose

/-! ### Page format (R286 to R288) -/

/-- The `n` low bytes of a number in reverse order, most significant first: a little-endian field (R13). -/
def leField : Nat → Nat → Nat
  | 0, _ => 0
  | n + 1, v => v % 256 * 256 ^ n + leField n (v / 256)

/-- Fields of (bytes, value), each little-endian, as one octet string, first byte most significant. -/
def leFields (fs : List (Nat × Nat)) : Nat × Nat :=
  fs.foldl (fun a f => (a.1 + f.1, a.2 * 256 ^ f.1 + leField f.1 f.2)) (0, 0)

/-- A signed time or offset as an unsigned field. -/
def wrapInt (bits : Nat) (v : Int) : Nat := (v % (2 ^ bits : Nat)).toNat

/-- ASCII characters, padded with zeros. -/
def asciiField (n : Nat) (v : String) : Nat :=
  ((v.toList.take n).foldl (fun (a : Nat × Nat) c => (a.1 * 256, a.2 + c.toNat * a.1)) (1, 0)).2

/-- The signed part M of a page (08 Tables 3 and 4): its length and bytes. -/
def LedgerPage.message (p : LedgerPage) (serial : Nat) : Nat × Nat :=
  leFields ([(4, asciiField 4 "SRZL"), (2, 1), (2, p.flags), (8, p.seq), (8, wrapInt 64 p.from_), (8, wrapInt 64 p.upTo),
      (16, asciiField 16 (serialText serial)), (48, leField 48 p.prevHash), (2, p.recs.length), (1, p.status), (1, 0),
      (2, wrapInt 16 p.utc), (2, 0), (8, leField 8 p.grandmaster), (4, p.late), (4, p.version), (8, 0)] ++
    p.recs.flatMap fun r => [(2, r.tenant), (2, r.flags), (4, 0)] ++ r.meters.map fun v => (8, v))

/-- The whole page: M, its Ed25519 signature and its ML-DSA-65 signature under "SRZ-3224 ledger" (R288). -/
def LedgerPage.bytes (p : LedgerPage) (serial : Nat) : Nat × Nat :=
  let m := p.message serial
  (m.1 + 3373, (m.2 * 256 ^ 64 + Config.ed25519 m.1 m.2 % 256 ^ 64) * 256 ^ 3309 +
    Config.mldsa65 "SRZ-3224 ledger" m.1 m.2 % 256 ^ 3309)

/-! ### Seal, vault, readout (R282, R290 to R292) -/

/-- Objects 4100h:03 and 4100h:04. -/
def State.syncPages (s : State) : State :=
  let oldest (ps : List LedgerPage) : Nat :=
    match ps.getLast? with
    | some p => p.seq
    | none => 0
  (s.put 0x4100 0 3 (oldest s.meter.hbm)).put 0x4100 0 4 (oldest s.meter.vault)

/-- Seal and sign one page: it takes the hash of the page before it, and HBM keeps the 1,440 newest. -/
def State.sealPage (s : State) (p : LedgerPage) : State :=
  let p := { p with prevHash := s.meter.lastHash }
  let b := p.bytes (s.ob 0x1018 4)
  let h := Config.sha384 b.1 b.2 % 2 ^ 384
  let x := s.meter
  { s with meter := { x with
      closing := x.closing.filter fun q => decide (q.seq ≠ p.seq), hbm := ({ p with hash := h } :: x.hbm).take 1440
      lastHash := h } }.syncPages

/-- PAGE_SEAL: 5 ms after an interval's end its page is sealed. -/
def pageSeal (s : State) : State :=
  s.each (s.meter.closing.filter fun p => dueAt s.now p.closedAt (5 * msNs)) State.sealPage

def execPageSeal (t : Nat) (s : State) : Res := act t true s pageSeal

/-- Write a sealed page into the vault, which keeps the 10,080 newest; a page that billing has not acknowledged is
overwritten all the same (R292). -/
def State.archivePage (s : State) (p : LedgerPage) : State :=
  let x := s.meter
  let all := p :: x.vault
  let s := { s with meter := { x with vault := all.take 10080 } }
  let s := s.each (all.drop 10080) fun s q =>
    if s.ob 0x4100 5 < q.seq then (s.bump 0x4100 0 7).raise .pageOverwritten [q.seq] else s
  s.syncPages

/-- LEDGER_VAULT_WRITE: pages go to the vault in the order of their numbers. -/
def ledgerVaultWrite (seq : Nat) (s : State) : State :=
  match s.meter.hbm.find? fun p => decide (p.seq = seq) with
  | some p => if s.meter.vault.any fun q => decide (seq ≤ q.seq) then s else s.archivePage p
  | none => s

def execLedgerVaultWrite (t seq : Nat) (s : State) : Res := act t true s (ledgerVaultWrite seq)

/-- A write of 4100h:05 names a closed page no older than the one held (R292). -/
def billingCode (v : Nat) (s : State) : Abort := need (decide (v ≤ s.meter.seq ∧ s.ob 0x4100 5 ≤ v)) abState

/-- BILLING_ACKNOWLEDGE. -/
def billingAcknowledge (sess v : Nat) (s : State) : State :=
  s.writeAs sess 0x4100 5 (.nat v) (billingCode v) (State.setObj 0x4100 5 (.nat v))

def execBillingAcknowledge (t sess v : Nat) (s : State) : Res := act t true s (billingAcknowledge sess v)

/-- The page a sequence number names, and where it is: 1 HBM, 2 the vault only (R291). -/
def State.pageBySeq (s : State) (seq : Nat) : Option (LedgerPage × Nat) :=
  match s.meter.hbm.find? fun p => decide (p.seq = seq) with
  | some p => some (p, 1)
  | none => (s.meter.vault.find? fun p => decide (p.seq = seq)).map fun p => (p, 2)

/-- Fields 02h to 06h of the readout window 4110h (08 Table 8). -/
def State.readPage (s : State) (seq sub : Nat) : Val :=
  match s.pageBySeq seq with
  | none => if sub = 2 then .oct 0 0 else .nat 0
  | some (p, loc) =>
    let b := p.bytes (s.ob 0x1018 4)
    if sub = 2 then .oct b.1 b.2 else if sub = 3 then .nat b.1 else if sub = 4 then .nat loc
    else if sub = 5 then .nat (wrapInt 64 p.from_) else .nat p.flags

/-- Fields 02h to 12h of 4120h for a tenant (R293). -/
def State.readLive (s : State) (tenant sub : Nat) : Val :=
  if sub = 0x12 then .nat (wrapInt 64 s.meter.start) else .nat ((s.metersNow tenant).getD (sub - 2) 0)

/-! ### A step of PTP time, a storm warning, a reset (08 Table 2) -/

/-- The page closes at the time before a step and the next one starts at the time after it. -/
def State.stepPages (s : State) (before after : Int) : State := (s.closeDue before).closePage before after 6 8

/-- A storm warning closes the open page, seals every page that waits, and archives all with the vault copy. -/
def State.stormPages (s : State) : State :=
  let s := (s.closeDue s.ptpNow).closePage s.ptpNow s.ptpNow 34 16
  s.each s.meter.closing State.sealPage

/-- Pages in HBM that the vault does not hold yet go into it, oldest first. -/
def State.archiveAll (s : State) : State :=
  s.each (s.meter.hbm.filter fun p => !(s.meter.vault.any fun q => decide (p.seq ≤ q.seq))).reverse State.archivePage

/-- A rate correction lies within the 50 ppm of R144. -/
def clampRate (r : Int) : Int := max (-50000) (min 50000 r)

/-- Correct the clock by an offset from the master: slewed up to 1 ms, stepped beyond (04 R144). The rate correction that the servo sets
with it stays in force until the next one, through holdover and beyond (R143; log entry 138). -/
def State.correctClock (s : State) (offset : Int) : State :=
  let shown := s.ptp.offset + s.ptp.slewed s.now + s.ptp.drift s.now
  let rate := clampRate (Config.ptpRate s.ptp.rate offset)
  if -1000000 ≤ offset ∧ offset ≤ 1000000 then
    { s with ptp := { s.ptp with offset := shown, slew := -offset, slewFrom := s.now, rate := rate, rateFrom := s.now } }
  else
    let before := s.ptpNow
    let s := { s with ptp := { s.ptp with
        offset := shown - offset, slew := 0, slewFrom := s.now, rate := rate, rateFrom := s.now } }
    ((s.raise .timeStepped [offset.natAbs]).stepPages before s.ptpNow).syncGates

/-- The status after a Sync: 16 in a row within 100 ns lock the clock (04 R143; log entry 22). -/
def syncStatus (old good : Nat) : Nat := if 16 ≤ good then 2 else if old = 2 ∧ 0 < good then 2 else 1

/-- A Sync, complete with its origin time, gives an offset (04 R143, R144). -/
def State.takeOffset (s : State) (offset : Int) : State :=
  let good := if -100 ≤ offset ∧ offset ≤ 100 then s.ptp.good + 1 else 0
  let s := s.setVal 0x3020 0 8 (.int (max (-2147483648) (min 2147483647 offset)))
  let s := s.correctClock offset
  let s := { s with ptp := { s.ptp with good := good, holdoverSince := none, pendingSync := false } }
  s.setTimeStatus (syncStatus (s.ob 0x3020 7) good)

/-- PTP_SYNC_RECEIVED: a one-step Sync gives the offset, a two-step one waits for its Follow_Up (04 R140). -/
def ptpSyncReceived (p domain sender : Nat) (offset : Int) (twoStep : Bool) (s : State) : State :=
  if s.fromMaster p domain sender then
    if twoStep then { s with ptp := { s.ptp with pendingSync := true } } else s.takeOffset offset
  else s

def execPtpSyncReceived (t port : Nat) (m : PtpMsg) (twoStep : Bool) (s : State) : Res :=
  act t (isPort port) s (ptpSyncReceived port m.domain m.sender m.value twoStep)

/-- PTP_FOLLOW_UP_RECEIVED. -/
def ptpFollowUpReceived (p domain sender : Nat) (offset : Int) (s : State) : State :=
  if s.fromMaster p domain sender && s.ptp.pendingSync then s.takeOffset offset else s

def execPtpFollowUpReceived (t port : Nat) (m : PtpMsg) (s : State) : Res :=
  act t (isPort port) s (ptpFollowUpReceived port m.domain m.sender m.value)

/-! ### Performance counters (R295 to R297) -/

/-- Read counter `n`: its value, latched alone with its time. Reserved counters read 0; the busy time of an engine (168 to
199) is not stated by the manual and reads a free value. -/
def State.latchCounter (s : State) (n : Nat) : Nat × State :=
  let v := if 420 ≤ n then 0 else if 168 ≤ n ∧ n < 200 then s.draw % 2 ^ 48 else s.ob (0x6800 + n) 1
  (v, s.drawn.put (0x6800 + n) 0 2 (wrapInt 64 s.ptpNow))

/-- COUNTER_LATCH_READ: only a session of Engineer level or above may read (R295). -/
def counterLatchRead (sess n : Nat) (s : State) : State :=
  s.withSession sess fun x =>
    if x.level < 2 then s.refuse sess abLevel
    else
      let (v, u) := s.latchCounter n
      u.reply sess 0 (some (.nat v))

def execCounterLatchRead (t sess n : Nat) (s : State) : Res := act t (decide (n < 1024)) s (counterLatchRead sess n)

end Sys2Proof.Machine
end

