-- ==== Sys2Proof/Machine/Vault.lean ====
section
/-! DEFINITION. The layout of the boot flash (17 R588). The vault's layout (15 R541, Table 5) and what stands where in it: the copies and their catalogues (R542, Table 6), the
ledger archive (08 R290) and the fallback image (17 R589). The records that the firmware keeps in the vault are held once, in their own
parts of the state; their bytes in the vault window are computed from them here. -/

namespace Sys2Proof.Machine

/-- The first address of the vault window (01 R20). -/
def vaultBase : Nat := 0x10000000000

/-- The regions of the vault (15 Table 5), in the order of their offsets. -/
inductive VaultPart where
  | catalogues
  | copy0
  | copy1
  | fallback
  | archive
  | reserve
  deriving DecidableEq, Repr

/-- Offset of a region from the vault window's first address. -/
def VaultPart.offset : VaultPart → Nat
  | .catalogues => 0
  | .copy0 => 0x4000000
  | .copy1 => 0xD4000000
  | .fallback => 0x1A4000000
  | .archive => 0x1C4000000
  | .reserve => 0x324000000

/-- Size of a region in bytes. -/
def VaultPart.size : VaultPart → Nat
  | .catalogues => 0x4000000
  | .copy0 | .copy1 => 0xD0000000
  | .fallback => 0x20000000
  | .archive => 0x160000000
  | .reserve => 0xDC000000

/-- Where the fallback image and the settings snapshot start in the fallback region, and how long each may be (17 R589). -/
def fallbackImageRoom : Nat × Nat := (0, 0xC000000)
def snapshotRoom : Nat × Nat := (0xC000000, 0x2000000)

/-- The ranges of the boot flash (17 Table 1). -/
inductive FlashPart where
  | loader
  | identity
  | slot
  | settings
  | status
  deriving DecidableEq, Repr

/-- First address of a range of the boot flash. -/
def FlashPart.offset : FlashPart → Nat
  | .loader => 0
  | .identity => 0x800000
  | .slot => 0x1000000
  | .settings => 0xD000000
  | .status => 0xF000000

/-- Size of a range of the boot flash in bytes. -/
def FlashPart.size : FlashPart → Nat
  | .loader | .identity => 0x800000
  | .slot => 0xC000000
  | .settings => 0x2000000
  | .status => 0x1000000

/-- The part that holds copy region `k`. -/
def copyPart (k : Nat) : VaultPart := if k = 0 then .copy0 else .copy1

/-- The catalogue of copy region `k` stands alone in page `k` of the first region (log entry 174). -/
def catalogueOffset (k : Nat) : Nat := 16384 * k

/-- A ledger page takes up to 35 vault pages; page number `seq` stands in the place of the page that it overwrites (R290; log entry 174). -/
def archiveOffset (seq : Nat) : Nat := VaultPart.archive.offset + (seq - 1) % 10080 * (35 * 16384)

/-! ### The copies (R542) -/

def State.copyRegion (s : State) (k : Nat) : CopyRegion := Tbl.get {} s.pwr.regions k

def State.setRegion (s : State) (k : Nat) (c : CopyRegion) : State :=
  { s with pwr := { s.pwr with regions := Tbl.set s.pwr.regions k c } }

/-- An intent-ring entry (09 Table 5): its 64 bytes, as a little-endian number. -/
def intentBytes (e : IntentEntry) : Nat :=
  let m := leFields [(8, e.seq), (2, e.nsRow), (1, e.array), (1, (if e.fua then 1 else 0) + (if e.zeroes then 2 else 0)), (4, e.keyGen),
    (8, e.slba), (4, e.count), (4, 0), (8, e.addr), (8, e.row), (8, e.time), (4, 0)]
  let v := leField 60 m.2
  v + crc32c (leBytes 60 v) * 256 ^ 60

/-- Where an entry stands in the ring of 1,048,576 entries. -/
def intentPlace (e : IntentEntry) : Nat := e.seq % 1048576 * 64

/-- The version of a page that is copied. -/
def GPage.copied (g : GPage) : Option PageVer := g.cur.orElse fun _ => g.snap

/-- Put a page before the first one of a higher intent sequence. -/
def insertPage (x : PageVer) : List PageVer → List PageVer
  | [] => [x]
  | y :: r => if x.seq < y.seq then x :: y :: r else y :: insertPage x r

/-- Pages in ascending order of intent sequence (R542). -/
def inIntentOrder (ps : Tbl GPage) : List PageVer := (ps.filterMap fun e => e.2.copied).foldl (fun l x => insertPage x l) []

/-- What a copy holds after its intent ring, in copy order: length and bytes of each page. -/
def CopyRegion.pieces (c : CopyRegion) (serial : Nat) : List (Nat × Content) :=
  ((inIntentOrder c.pages ++ inIntentOrder c.taken).map fun v => (4096, v.data)) ++
    c.ledger.map fun p => ((p.bytes serial).1, leField (p.bytes serial).1 (p.bytes serial).2)

/-- The bytes that a copy moves: the intent ring, the pages and the ledger pages. -/
def CopyRegion.total (c : CopyRegion) (serial : Nat) : Nat := 67108864 + sumNat ((c.pieces serial).map Prod.fst)

/-- The copy's digest (Table 6): SHA-384 of the copied data, in copy order. -/
def CopyRegion.digestOf (c : CopyRegion) (serial : Nat) : Nat :=
  let ring : Nat := sumNat (c.intents.map fun e => leField 64 (intentBytes e) * 256 ^ (67108864 - 64 - intentPlace e))
  let m := leFields (c.pieces serial)
  Config.sha384 (67108864 + m.1) (ring * 256 ^ m.1 + m.2)

/-- The least and greatest sequence of the intent entries of a copy. -/
def CopyRegion.firstIntent (c : CopyRegion) : Nat := match c.intents with
  | [] => 0
  | e :: r => r.foldl (fun m x => min m x.seq) e.seq

def CopyRegion.lastIntent (c : CopyRegion) : Nat := c.intents.foldl (fun m x => max m x.seq) 0

/-- The catalogue of a copy (Table 6): its 256 bytes, as a little-endian number. A copy cut off leaves it in state 1. -/
def CopyRegion.catalogueBytes (c : CopyRegion) (k serial : Nat) : Nat :=
  let m := leFields [(4, asciiField 4 "SRZV"), (2, 1), (1, k), (1, if c.state = 2 then 2 else 1), (8, c.seq),
    (8, wrapInt 64 c.stormTime), (8, wrapInt 64 c.doneTime), (16, asciiField 16 (serialText serial)), (8, 67108864),
    (8, c.pages.length), (8, c.taken.length), (8, c.ledger.length), (8, c.firstIntent), (8, c.lastIntent), (1, c.arrays), (7, 0),
    (48, leField 48 c.digest), (100, 0)]
  let v := leField 252 m.2
  v + crc32c (leBytes 252 v) * 256 ^ 252

/-! ### What stands in the vault window -/

/-- A run of bytes: offset, length, contents. -/
abbrev VaultRun := Nat × Nat × Content

/-- Pieces one after the other from an offset on. -/
def layOut : Nat → List (Nat × Content) → List VaultRun
  | _, [] => []
  | off, (n, v) :: r => (off, n, v) :: layOut (off + n) r

/-- The runs of copy region `k`: the catalogue, and in state 2 the ring's entries and what follows the ring. An idle region is erased. -/
def State.copyRuns (s : State) (k : Nat) : List VaultRun :=
  let c := s.copyRegion k
  let at_ := (copyPart k).offset
  if c.state = 0 then []
  else (catalogueOffset k, 256, c.catalogueBytes k (s.ob 0x1018 4)) ::
    (if c.state = 2 then
      c.intents.map (fun e => (at_ + intentPlace e, 64, intentBytes e)) ++ layOut (at_ + 67108864) (c.pieces (s.ob 0x1018 4))
    else [])

/-- Every run of bytes that the firmware keeps in the vault. -/
def State.vaultRuns (s : State) : List VaultRun :=
  s.copyRuns 0 ++ s.copyRuns 1 ++
  (match s.fw.fallback with
    | some i => [(VaultPart.fallback.offset + fallbackImageRoom.1, min i.len fallbackImageRoom.2, i.data)]
    | none => []) ++
  s.meter.vault.map fun p =>
    (archiveOffset p.seq, (p.bytes (s.ob 0x1018 4)).1, leField (p.bytes (s.ob 0x1018 4)).1 (p.bytes (s.ob 0x1018 4)).2)

/-- One byte of the vault, by its offset. -/
def State.vaultByte (s : State) (runs : List VaultRun) (off : Nat) : Nat :=
  match runs.find? fun r => decide (r.1 ≤ off ∧ off < r.1 + r.2.1) with
  | some r => r.2.2 / 256 ^ (off - r.1) % 256
  | none => (Memory.read s.hbm (vaultBase + off)).toNat

/-- Bytes of the vault from an offset on. -/
def State.vaultBytes (s : State) (runs : List VaultRun) (off : Nat) : Nat → Content
  | 0 => 0
  | n + 1 => s.vaultByte runs off + 256 * s.vaultBytes runs (off + 1) n

/-- Bytes of module memory: HBM, or the vault. -/
def State.memRead (s : State) (addr len : Nat) : Content :=
  if vaultBase ≤ addr ∧ addr < vaultBase + 0x400000000 then s.vaultBytes s.vaultRuns (addr - vaultBase) len
  else Memory.readN s.hbm addr len

end Sys2Proof.Machine
end

