-- ==== Sys2Proof/Machine/Dma.lean ====
section
/-! DEFINITION. The DMA engine (13): channels, descriptors, chaining, errors, the disable bit, and the operator's copy jobs.
Memory of the module is `State.hbm`, keyed by module address: HBM and the vault window. -/

namespace Sys2Proof.Machine

/-! ### Where an address lies (R442, R445, R458; 01 R20 to R26) -/

/-- A range of the module address space that a channel may reach: memory of the module, a slot's BAR window with the
offset in it, or a near host's memory with the outbound entry and the host's address. -/
inductive DmaRegion where
  | memory
  | slot (n off : Nat)
  | near (p entry addr : Nat)
deriving DecidableEq, Repr

/-- A slot is listed by no array. -/
def State.slotFree (s : State) (n : Nat) : Bool :=
  (List.range 4).all fun a => (s.members a).all fun m => decide (s.slotOf a m ≠ n)

/-- An outbound entry of a port that allows a read or a write, and the host address it maps offset 0 to (12 R422, R423). The
entries of PF0 refuse while its Bus Master Enable is clear (R432). -/
def State.outboundBase (s : State) (p i : Nat) (write : Bool) : Option Nat :=
  if 3840 ≤ i then
    let r := p * 4096 + i
    if s.o 0x5307 r 4 = 1 ∧ s.o 0x5307 r (if write then 5 else 6) = 1 ∧ (s.nport p).bme = true ∧ (s.nport p).linkUp = true then
      some (s.o 0x5307 r 2 * 2 ^ 34)
    else none
  else
    match Tbl.find? (s.nport p).entries i with
    | some e => some (e.region * 2 ^ 34)
    | none => none

/-- Where `len` bytes at `addr` lie for channel `c`, or none where the access is refused or reserved. `fixed` is a fixed
address. -/
def State.region (s : State) (c addr len : Nat) (write fixed : Bool) : Option DmaRegion :=
  let job := (jobOf c).isSome
  let last := addr + (len - 1)
  if addr < 0xC000000000 then
    let low := if job then s.ob 0x5305 2 else 0
    if last < hbmEnd ∧ low ≤ addr ∧ (job = false ∨ low ≠ 0) then some .memory else none
  else if 0x10000000000 ≤ addr ∧ last < 0x10400000000 then
    if job = false ∧ fixed = false ∧ addr % 16384 = 0 ∧ len % 16384 = 0 then some .memory else none
  else if 0x100000000000 ≤ addr ∧ last < 0x101800000000 then
    let n := (addr - 0x100000000000) / 2 ^ 32
    let off := addr % 2 ^ 32
    let inWindow := decide (last / 2 ^ 32 = addr / 2 ^ 32)
    let b := (s.slotS n).bars.headD (0, 0)
    let free := decide (s.slotState n = 6 ∧ (off + len ≤ b.1 ∨ b.1 + b.2 ≤ off)) && s.slotFree n
    if inWindow && (!job || free) then some (.slot n off) else none
  else if 0x800000000000 ≤ addr ∧ last < 0x1000000000000 then
    let p := (addr - 0x800000000000) / 2 ^ 46
    let i := addr % 2 ^ 46 / 2 ^ 34
    if last / 2 ^ 34 ≠ addr / 2 ^ 34 ∨ (job = true ∧ i < 3840) then none
    else (s.outboundBase p i write).map fun b => .near p i (b + addr % 2 ^ 34)
  else none

/-! ### Checks (R443, R445) -/

/-- The first address that a descriptor may not reach. -/
def State.badAddress (s : State) (c : Nat) (d : BitVec 256) : Option Nat :=
  if dLen d = 0 then none
  else
    let n (fixed : Bool) : Nat := if fixed then dWidth d else dLen d
    if (s.region c (dSrc d) (n (dSrcFixed d)) false (dSrcFixed d)).isNone then some (dSrc d)
    else if (s.region c (dDst d) (n (dDstFixed d)) true (dDstFixed d)).isNone then some (dDst d)
    else none

/-! ### Moving data (R445, R446) -/

/-- Repeat a unit of `w` bytes over `n` bytes. -/
def repeatUnit (w unit : Nat) : Nat → Nat
  | 0 => 0
  | k + 1 => unit + 256 ^ w * repeatUnit w unit k

/-- What a descriptor reads from module memory. -/
def State.dmaRead (s : State) (d : BitVec 256) : Content :=
  if dSrcFixed d then repeatUnit (dWidth d) (s.memRead (dSrc d) (dWidth d)) (dLen d / dWidth d)
  else s.memRead (dSrc d) (dLen d)

/-- Dwords of a TLP for `n` bytes at `a`, and its first and last byte enables (R446). -/
def tlpDwords (a n : Nat) : Nat := (a % 4 + n + 3) / 4

def firstEnables (a n : Nat) : Nat := 2 ^ min 4 (a % 4 + n) - 2 ^ (a % 4)

def lastEnables (a n : Nat) : Nat := if tlpDwords a n ≤ 1 then 0 else 2 ^ ((a + n - 1) % 4 + 1) - 1

/-- Bytes of a TLP at `a` of which `n` are left to move: it crosses no 4 KiB boundary, and its dwords hold at most `lim` bytes. -/
def tlpBytes (lim a n : Nat) : Nat := min n (min (4096 - a % 4096) (lim - a % 4))

/-- The TLPs of `n` bytes at `a`: address, offset in the range, and bytes. -/
def tlpPieces (lim : Nat) : Nat → Nat → Nat → Nat → List (Nat × Nat × Nat)
  | 0, _, _, _ => []
  | k + 1, a, off, n =>
    if n = 0 then []
    else
      let m := tlpBytes lim a n
      (a, off, m) :: tlpPieces lim k (a + m) (off + m) (n - m)

/-- The TLPs of a write: a fixed address takes unit after unit. -/
def writePieces (lim a len : Nat) (fixed : Option Nat) : List (Nat × Nat × Nat) :=
  match fixed with
  | some w => (List.range (len / w)).map fun k => (a, k * w, w)
  | none => tlpPieces lim (len / 64 + 4) a 0 len

/-- Max Payload Size and Max Read Request Size of a slot's link and of a near port, in bytes. -/
def State.slotMps (s : State) (n : Nat) : Nat := ((s.slotS n).link.map fun l => l.maxPayload).getD 128

def State.slotMrrs (s : State) (n : Nat) : Nat := ((s.slotS n).link.map fun l => l.maxReadRequest).getD 128

def NearPort.mps (n : NearPort) : Nat := 128 * 2 ^ (n.devCtl / 32 % 8)

def NearPort.mrrs (n : NearPort) : Nat := 128 * 2 ^ (n.devCtl / 4096 % 8)

/-- Write bytes of a descriptor, from byte `off` of its range on. A fixed destination takes unit after unit at one address. -/
def State.dmaWrite (s : State) (c : Nat) (d : BitVec 256) (off len : Nat) (data : Content) : State :=
  if len = 0 then s
  else
    let w := dWidth d
    let fixed := dDstFixed d
    match s.region c (dDst d) (if fixed then w else dLen d) true fixed with
    | some .memory =>
      if fixed then { s with hbm := Memory.writeN s.hbm (dDst d) (data / 256 ^ (len - w)) w }
      else { s with hbm := Memory.writeN s.hbm (dDst d + off) data len }
    | some (.slot n o) =>
      s.each (writePieces (s.slotMps n) (if fixed then o else o + off) len (if fixed then some w else none)) fun s x =>
        s.emit (.slotBulk n x.1 x.2.2 (data / 256 ^ x.2.1 % 256 ^ x.2.2))
    | some (.near p i a) =>
      s.each (writePieces (s.nport p).mps (if fixed then a else a + off) len (if fixed then some w else none)) fun s x =>
        s.emit (.npBulk p 0 x.1 x.2.2 (data / 256 ^ x.2.1 % 256 ^ x.2.2) (s.outAttr p i))
    | none => s

/-- The first descriptor of a channel has its source in a PCIe window. -/
def State.remoteSource (s : State) (c : Nat) (d : BitVec 256) : Bool :=
  match s.region c (dSrc d) (if dSrcFixed d then dWidth d else dLen d) false (dSrcFixed d) with
  | some .memory => false
  | some _ => decide (dLen d ≠ 0)
  | none => false

/-- Bytes of the next read toward PCIe at `a`. -/
def nextChunk (lim a : Nat) (d : BitVec 256) (moved : Nat) : Nat :=
  if dSrcFixed d then dWidth d else tlpBytes lim a (dLen d - moved)

/-! ### Halts and stops (R448, R451, R454, R455) -/

/-- A descriptor in a PCIe window is read with one 32-byte request, whose tag the port holds. -/
def State.chainRead (s : State) (c : Nat) : State :=
  let x := s.chan c
  if x.own.isSome ∨ (jobOf c).isSome then s
  else
    match s.region c x.cur 32 false false with
    | some (.near p i a) => s.npRequest p { func := 0, addr := a, purpose := .chain c i }
    | some (.slot k o) => (s.slotAsk k { since := s.now, chain := some c } o 32).getD s
    | _ => s

/-- Read the descriptor at `cur`; a copy job's lies in the exchange region, aligned to 32 bytes. -/
def State.dmaFetch (s : State) (c : Nat) : State := (s.setChan c { s.chan c with fetching := some s.now }).chainRead c

/-- The tags of a channel's descriptor reads become free, or quarantined where the read has timed out (R453). -/
def State.chainTags (s : State) (c : Nat) (late : Bool) : State :=
  match s.region c (s.chan c).cur 32 false false with
  | some (.near p _ _) =>
    let mine (w : NpPurpose) : Bool := match w with
      | .chain k _ => decide (k = c)
      | _ => false
    let s := s.npForget p fun w => mine w.purpose
    let n := s.nport p
    let hit (e : Nat × NpTag) : Bool := mine e.2.purpose && !e.2.quarantined && !e.2.orphaned
    let tags := if late then n.tags.map fun e => if hit e then (e.1, { e.2 with quarantined := true }) else e
      else n.tags.filter fun e => !hit e
    let s := (s.setNport p { n with tags := tags }).syncTags p
    State.npDrain p n.waits.length s
  | some (.slot k _) =>
    let x := s.slotS k
    let hit (e : Nat × TagUse) : Bool := decide (e.2.chain = some c) && !e.2.quarantined
    let tags := if late then x.tags.map fun e => if hit e then (e.1, { e.2 with quarantined := true }) else e
      else x.tags.filter fun e => !hit e
    s.setSlot k { x with tags := tags }
  | _ => s

/-- Once every accepted descriptor is complete, do what was put off: report a halt, or stop, unless a doorbell is pending. -/
def State.dmaPark (s : State) (c : Nat) : State :=
  let x := s.chan c
  match x.park with
  | none => s
  | some k =>
    if x.work.isEmpty = false then s
    else
      let s := s.notIdle
      match k with
      | .halt code addr => s.dmaHalt c code addr
      | .atEnd =>
        if x.pending then (s.setChan c { x with pending := false, park := none, follow := true }).dmaFetch c
        else s.setChan c { x with state := 2, park := none, follow := true }
      | .onGeneration =>
        if x.pending then (s.setChan c { x with pending := false, park := none }).dmaFetch c
        else s.setChan c { x with state := 3, park := none }

def State.parkAs (s : State) (c : Nat) (k : DmaPark) : State :=
  (s.setChan c { s.chan c with park := some k }).dmaPark c

/-- Go on to the next descriptor after `d`; where its address may not hold a descriptor the channel meets an address
error. -/
def State.dmaFollow (s : State) (c : Nat) (d : BitVec 256) : State :=
  let x := s.chan c
  let x := { x with e := if dToggle d then !x.e else x.e, cur := dNext d, follow := false }
  (s.setChan c x).dmaFetch c

/-! ### Requests toward PCIe -/

/-- Ask for the next piece of the first descriptor's source. -/
def State.dmaAsk (s : State) (c : Nat) : State :=
  let x := s.chan c
  match x.work with
  | [] => s
  | (_, d) :: _ =>
    if x.asked ∨ dLen d ≤ x.moved then s
    else
      match s.region c (dSrc d) (if dSrcFixed d then dWidth d else dLen d) false (dSrcFixed d) with
      | some (.near p i a) =>
        let a := if dSrcFixed d then a else a + x.moved
        let n := nextChunk (s.nport p).mrrs a d x.moved
        (s.setChan c { x with asked := true }).npRequest p { func := 0, addr := a, purpose := .copyJob c x.run n i }
      | some (.slot k o) =>
        let o := if dSrcFixed d then o else o + x.moved
        let n := nextChunk (s.slotMrrs k) o d x.moved
        ((s.setChan c { x with asked := true }).slotAsk k { since := s.now, dma := some (c, x.run, n) } o n).getD s
      | _ => s

/-- A piece of the first descriptor's source has come, or failed. -/
def State.dmaData (s : State) (c run n : Nat) (ok : Bool) (data : Content) : State :=
  let x := s.chan c
  if x.run ≠ run ∨ x.asked = false then s
  else
    match x.work with
    | [] => s
    | (_, d) :: _ =>
      if ok then
        let s := s.dmaWrite c d x.moved n data
        (s.setChan c { x with moved := x.moved + n, asked := false }).dmaAsk c
      else s.dmaReadLost c run

/-! ### The rows -/

/-- Start the chain at Chain head (R447). -/
def State.dmaBegin (s : State) (c : Nat) : State :=
  let x := s.chan c
  (s.setChan c { x with
    state := 1, e := x.gen, cur := x.head, hops := 0, bytes := 0, descs := 0, pending := false, follow := false
    work := [], moved := 0, asked := false, park := none, run := x.run + 1 }).dmaFetch c

/-- Doorbells and Starts with no effect, 5341h:09. -/
def State.dmaIgnored (s : State) (c : Nat) : State := s.bump 0x5341 c 9

/-- DMA_START: `setup` are the registers that firmware writes before Start; each keeps the bits its fields have (log entry 171). -/
def dmaStart (c : Nat) (setup : Option DmaSetup) (s : State) : State :=
  let s := match setup with
    | some u => s.setChan c { s.chan c with
        head := u.head % 2 ^ 48 / 32 * 32, gen := u.gen, hopLimit := u.hopLimit % 2 ^ 24
        fetchTimeout := u.fetchTimeout % 2 ^ 16, cls := u.cls % 8, own := none }
    | none => s
  let s := if (jobOf c).isSome then s.thawNow else s
  if (s.chan c).state = 0 then s.dmaBegin c else s.dmaIgnored c

def execDmaStart (t ch : Nat) (setup : Option DmaSetup) (s : State) : Res := act t (isChan ch) s (dmaStart ch setup)

/-- DMA_EXTEND (R449). -/
def dmaExtend (c : Nat) (s : State) : State :=
  let x := s.chan c
  if x.state = 1 then s.setChan c { x with hops := 0, pending := true }
  else if x.state = 2 ∨ x.state = 3 then (s.setChan c { x with hops := 0, state := 1 }).dmaFetch c
  else s.dmaIgnored c

def execDmaExtend (t ch : Nat) (s : State) : Res := act t (isChan ch) s (dmaExtend ch)

/-- DMA_DISABLE: the channel stops at once, and what R456 calls undefined takes free values. -/
def dmaDisable (c : Nat) (s : State) : State :=
  let x := s.chan c
  let f (k : Nat) : Nat := Config.freeNat (s.free + k)
  ({ s.setChan c { x with
      state := 5, code := 8, fetching := none, work := [], park := none, asked := false, pending := false, run := x.run + 1
      bytes := f 0 % 2 ^ 48, descs := f 1 % 2 ^ 32, cur := f 2 % 2 ^ 43 * 32, hops := f 3 % 2 ^ 24, errAddr := f 4 % 2 ^ 48 }
    with free := s.free + 5 }).bump 0x5341 c 8

def execDmaDisable (t ch : Nat) (s : State) : Res := act t (isChan ch) s (dmaDisable ch)

/-- DMA_HALT_CLEAR: writing 1 to Halted returns a halted or disabled channel to state 0. -/
def dmaHaltClear (c : Nat) (s : State) : State :=
  let x := s.chan c
  if x.state = 4 ∨ x.state = 5 then s.setChan c { x with state := 0, code := 0 } else s

def execDmaHaltClear (t ch : Nat) (s : State) : Res := act t (isChan ch) s (dmaHaltClear ch)

/-- The descriptor that a read of `cur` returns: what the module built for a mode 0 job, the bytes of the exchange region, and
elsewhere what the command carries. -/
def State.dmaSees (s : State) (c : Nat) (d : BitVec 256) : BitVec 256 :=
  let x := s.chan c
  match x.own with
  | some o => o
  | none =>
    if s.ob 0x5305 2 ≠ 0 ∧ s.ob 0x5305 2 ≤ x.cur ∧ x.cur + 32 ≤ hbmEnd then BitVec.ofNat 256 (Memory.readN s.hbm x.cur 32) else d

/-- The channel may read a descriptor at `cur` (R442). -/
def State.dmaMayFetch (s : State) (c : Nat) : Bool :=
  let x := s.chan c
  x.own.isSome ||
    (match s.region c x.cur 32 false false with
      | some .memory => decide (x.cur < hbmEnd)
      | some _ => (jobOf c).isNone
      | none => false)

/-- DMA_DESCRIPTOR_FETCHED: the algorithm of R448 on the descriptor that has been read. -/
def dmaDescriptorFetched (c : Nat) (d : BitVec 256) (ok : Bool) (s : State) : State :=
  let x := s.chan c
  if x.state ≠ 1 ∨ x.fetching.isNone = true then s
  else
    let may := s.dmaMayFetch c
    let d := s.dmaSees c d
    let s := (s.chainTags c false).modChan c fun x => { x with fetching := none }
    if may = false then s.parkAs c (.halt 1 x.cur)
    else if ok = false then s.parkAs c (.halt 5 x.cur)
    else if x.follow then
      if dEnd d then s.parkAs c .atEnd
      else if dNext d % 32 ≠ 0 then s.parkAs c (.halt 2 x.cur)
      else s.dmaFollow c d
    else if dGen d ≠ x.e then s.parkAs c .onGeneration
    else
      let s := s.modChan c fun x => { x with hops := (x.hops + 1) % 2 ^ 24 }
      if x.hopLimit < x.hops + 1 then s.parkAs c (.halt 3 x.cur)
      else if dInvalid d then s.parkAs c (.halt 2 x.cur)
      else
        match s.badAddress c d with
        | some a => s.parkAs c (.halt 1 a)
        | none =>
          let y := s.chan c
          let s := s.setChan c { y with work := y.work ++ [(x.cur, d)] }
          let s := s.dmaAsk c
          if dEnd d then s.parkAs c .atEnd else s.dmaFollow c d

def execDmaDescriptorFetched (t ch : Nat) (d : BitVec 256) (ok : Bool) (s : State) : Res :=
  act t (isChan ch) s (dmaDescriptorFetched ch d ok)

/-- The signal of a completed descriptor (R444, R457). -/
def State.dmaSignals (s : State) (c : Nat) (d : BitVec 256) : State :=
  if dInterrupt d = false then s
  else
    match jobOf c with
    | none => s.emit (.dmaSignal c)
    | some j => s.raise .copyJobDescriptor [j, (s.chan c).descs]

/-- DMA_DESCRIPTOR_COMPLETE: the oldest accepted descriptor is complete, its data wholly moved. A window that has closed since the
descriptor was accepted is an address error. -/
def dmaDescriptorComplete (c : Nat) (s : State) : State :=
  let x := s.chan c
  match x.work with
  | [] => s
  | (_, d) :: rest =>
    let remote := s.remoteSource c d
    if let some a := s.badAddress c d then s.dmaHalt c 1 a
    else if remote ∧ x.moved < dLen d then s
    else
      let s := if remote then s else s.dmaWrite c d 0 (dLen d) (s.dmaRead d)
      let s := s.setChan c { x with
        work := rest, moved := 0, asked := false, bytes := (x.bytes + dLen d) % 2 ^ 48, descs := (x.descs + 1) % 2 ^ 32 }
      let s := s.dmaSignals c d
      let s := match jobOf c with
        | some j => if x.own.isSome then s.raise .copyJobComplete [j] else s
        | none => s
      (s.dmaAsk c).dmaPark c

def execDmaDescriptorComplete (t ch : Nat) (s : State) : Res := actMem t (isChan ch) s (dmaDescriptorComplete ch)

/-- DMA_TRANSFER_ERROR: a data read or a write of the oldest accepted descriptor was answered with error status. -/
def dmaTransferError (c : Nat) (write : Bool) (addr : Nat) (s : State) : State :=
  if (s.chan c).work.isEmpty then s else s.dmaHalt c (if write then 7 else 6) addr

def execDmaTransferError (t ch : Nat) (write : Bool) (addr : Nat) (s : State) : Res :=
  act t (isChan ch && decide (addr < 2 ^ 48)) s (dmaTransferError ch write addr)

/-- DMA_FETCH_TIMEOUT. -/
def dmaFetchTimeout (c : Nat) (s : State) : State :=
  let x := s.chan c
  match x.fetching with
  | some u => if dueAt s.now u (x.fetchTimeout * 1000) then 
      ((s.chainTags c true).modChan c fun x => { x with fetching := none }).parkAs c (.halt 4 x.cur)
    else s
  | none => s

def execDmaFetchTimeout (t ch : Nat) (s : State) : Res := act t (isChan ch) s (dmaFetchTimeout ch)

/-- SLOT_COMPLETION: a completion for a tag of the module; the data of a DMA read goes to its channel, and reads that wait for a tag
are sent. -/
def slotCompletion (n tag : Nat) (st : CplStatus) (poisoned : Bool) (data : Content) (s : State) : State :=
  let x := s.slotS n
  match Tbl.find? x.tags tag with
  | none => s.slotViolation n 0x11 tag
  | some u =>
    let s := s.setSlot n { x with tags := Tbl.erase x.tags tag }
    if u.quarantined then s.bump 0x5202 n 7
    else if st = .configRetry ∧ s.slotState n = 3 ∧ (match x.linkAt with | some v => decide (s.now < v + 1100 * msNs) | none => false) = true then
      -- retried for at most 1 s from the first request (11 Table 5, step 6)
      s.setSlot n { x with tags := Tbl.set x.tags tag { u with since := s.now } }
    else
      let s := if poisoned then s.bump 0x5202 n 0xE else s
      let s := match u.dma with
        | some (c, run, k) => s.dmaData c run k (!poisoned && decide (st = CplStatus.successful)) data
        | none => s
      s.each (List.range 64) State.dmaAsk

def execSlotCompletion (t slot tag : Nat) (status : CplStatus) (poisoned : Bool) (data : Content) (s : State) : Res :=
  actMem t (isSlot slot) s fun u => u.when (u.slotS slot).linkUp (slotCompletion slot tag status poisoned data)

/-- COMPLETION_TIMEOUT: the request fails and its tag is quarantined. -/
def completionTimeout (n tag : Nat) (s : State) : State :=
  let x := s.slotS n
  match Tbl.find? x.tags tag with
  | some u =>
    if u.quarantined = false ∧ dueAt s.now u.since (s.ob 0x5203 2 * msNs) = true then
      let tags := Tbl.set x.tags tag { u with quarantined := true }
      let due := match x.cplEvent with
        | none => true
        | some v => dueAt s.now v sNs
      let s := (s.setSlot n { x with tags := tags, cplEvent := if due then some s.now else x.cplEvent }).bump 0x5202 n 6
      let s := if due then s.raise .completionTimeout [n] else s
      let s := match u.dma with
        | some (c, run, k) => s.dmaData c run k false 0
        | none => s
      if 64 < (tags.filter fun e => e.2.quarantined).length then s.startLadder n 3 else s
    else s
  | none => s

def execCompletionTimeout (t slot tag : Nat) (s : State) : Res := actMem t (isSlot slot) s (completionTimeout slot tag)

/-! ### Bus Master Enable of PF0, and the storm warning (12 R432; R459) -/

/-- Channels whose transfer goes through an operator entry of port `p` halt with an address error. -/
def State.haltThrough (s : State) (p : Nat) : State :=
  s.each (List.range 64) fun s c =>
    match (s.chan c).work with
    | [] => s
    | (_, d) :: _ =>
      let through (a : Nat) : Bool := decide (0x800000000000 + p * 2 ^ 46 + 3840 * 2 ^ 34 ≤ a ∧ a < 0x800000000000 + (p + 1) * 2 ^ 46)
      if through (dSrc d) then s.dmaHalt c 1 (dSrc d)
      else if through (dDst d) then s.dmaHalt c 1 (dDst d)
      else s

/-- PFWARN_N disables every copy-job channel (R459). -/
def State.disableJobs (s : State) : State :=
  (s.each (List.range 16) fun s j => dmaDisable (jobChan j) s).raise .copyJobsDisabled

/-! ### Copy jobs (R457, R461) -/

/-- Commit of 5340h: Start needs state 0; the flags hold bits 11:8 alone; a chain head is 32-byte aligned. -/
def copyJobCode (_ : Session) (st : Stage) (s : State) : Abort :=
  firstCode [need (decide (st.n 6 % 256 = 0 ∧ st.n 6 < 4096)) abRange, need (decide (st.n 7 % 32 = 0)) abRange,
    need (decide (st.n 0xA = 0 ∨ (s.chan (jobChan st.row)).state = 0)) abState]

/-- The descriptor of a mode 0 job: generation 0, End of chain and Interrupt at 1. -/
def jobDescriptor (st : Stage) : BitVec 256 :=
  BitVec.ofNat 256 (st.n 4 % 2 ^ 48 * 2 ^ 128 + st.n 3 % 2 ^ 48 * 2 ^ 64 + st.n 5 * 2 ^ 32 + st.n 6 + 6)

/-- Effect of a commit of 5340h: start, extend, disable, clear, in the order of the fields. -/
def applyCopyJob (st : Stage) (_ u : State) : State :=
  let c := jobChan st.row
  let u :=
    if st.n 0xA = 1 then
      let x := u.chan c
      let x := { x with hopLimit := st.n 9, cls := 7, own := if st.n 2 = 0 then some (jobDescriptor st) else none
                        head := if st.n 2 = 0 then Config.jobDescriptor st.row else st.n 7
                        gen := decide (st.n 2 ≠ 0 ∧ st.n 8 = 1) }
      (u.setChan c x).dmaBegin c
    else u
  let u := if st.n 0xB = 1 then dmaExtend c u else u
  let u := if st.n 0xC = 1 then dmaDisable c u else u
  if st.n 0xD = 1 then dmaHaltClear c u else u

/-- COPY_JOB_START, COPY_JOB_EXTEND, COPY_JOB_DISABLE, COPY_JOB_CLEAR: a commit of 5340h with the field of that name. -/
def copyJobCommit (sess : Nat) (s : State) : State := s.commitAs sess 0x5340 1 copyJobCode applyCopyJob

def copyJobStart (sess : Nat) (s : State) : State := copyJobCommit sess s
def execCopyJobStart (t sess : Nat) (s : State) : Res := act t true s (copyJobStart sess)
def copyJobExtend (sess : Nat) (s : State) : State := copyJobCommit sess s
def execCopyJobExtend (t sess : Nat) (s : State) : Res := act t true s (copyJobExtend sess)
def copyJobDisable (sess : Nat) (s : State) : State := copyJobCommit sess s
def execCopyJobDisable (t sess : Nat) (s : State) : Res := act t true s (copyJobDisable sess)
def copyJobClear (sess : Nat) (s : State) : State := copyJobCommit sess s
def execCopyJobClear (t sess : Nat) (s : State) : Res := act t true s (copyJobClear sess)

/-- Fields 02h to 0Ah of 5341h that show a channel's registers. -/
def State.readChan (s : State) (c sub : Nat) : Option Val :=
  let x := s.chan c
  match sub with
  | 2 => some (.nat x.state)
  | 3 => some (.nat x.code)
  | 4 => some (.nat x.bytes)
  | 5 => some (.nat x.descs)
  | 6 => some (.nat (match x.work with | (a, _) :: _ => a | [] => x.cur))
  | 7 => some (.nat x.errAddr)
  | 0xA => some (.nat (if x.e then 1 else 0))
  | _ => none

end Sys2Proof.Machine
end

