-- ==== Sys2Proof/Machine/Resv.lean ====
section
/-! DEFINITION. Reservations (06 R210 to R212; log entry 40): what each command does to a namespace's reservation, the
barrier it takes effect at, notifications, and what follows once the data of a command has arrived. -/

namespace Sys2Proof.Machine

/-! ### The reservation itself -/

/-- Outcome of a reservation command: status (0 success), the new state, what registrants are told (host, type: 1
registration preempted, 2 reservation released, 3 reservation preempted), the hosts preempted. -/
structure ResvOut where
  sc : Nat := 0
  resv : Resv
  told : List (Nat × Nat) := []
  out : List Nat := []

/-- Refuse with a status. -/
def Resv.refuse (x : Resv) (sc : Nat) : ResvOut := { sc := sc, resv := x }

/-- Hosts other than `h`. -/
def Resv.others (x : Resv) (h : Nat) : List Nat := (x.regs.map Prod.fst).filter fun g => decide (g ≠ h)

/-- Host `h` is registered with key `key`. -/
def Resv.keyIs (x : Resv) (h key : Nat) : Bool := decide (Tbl.find? x.regs h = some key)

/-- Persist Through Power Loss as a command changes it. -/
def Resv.setPtpl (x : Resv) (v : Nat) : Resv := if v = 2 then { x with ptpl := false } else if v = 3 then { x with ptpl := true } else x

/-- The reservation ends; registrants other than `h` are told where its type had them share it. -/
def Resv.release (x : Resv) (h : Nat) : Resv × List (Nat × Nat) :=
  ({ x with holder := none, rtype := 0 }, if 3 ≤ x.rtype then (x.others h).map fun g => (g, 2) else [])

/-- Host `h` leaves: its own reservation ends, an All Registrants one with its last registrant. -/
def Resv.unregister (x : Resv) (h : Nat) : Resv × List (Nat × Nat) :=
  let y := { x with regs := Tbl.erase x.regs h }
  if x.rtype ≠ 0 ∧ (if 5 ≤ x.rtype then y.regs = [] else x.holder = some h) then y.release h else (y, [])

/-- Reservation Register (actions 0 register, 1 unregister, 2 replace). -/
def Resv.register (x : Resv) (h : Nat) (c : Capsule) : ResvOut :=
  let known := Tbl.has x.regs h
  let y := x.setPtpl c.ptpl
  let y := { y with gen := (x.gen + 1) % 2 ^ 32 }
  if c.raction = 0 then
    if known then (if x.keyIs h c.prkey || c.iekey then { resv := y } else x.refuse 0x83)
    else if 64 ≤ x.regs.length then x.refuse 6
    else { resv := { y with regs := Tbl.set y.regs h c.prkey } }
  else if c.raction = 1 then
    if known && (c.iekey || x.keyIs h c.crkey) then { resv := (y.unregister h).1, told := (y.unregister h).2 } else x.refuse 0x83
  else if c.raction = 2 then
    if known && (c.iekey || x.keyIs h c.crkey) then { resv := { y with regs := Tbl.set y.regs h c.prkey } } else x.refuse 0x83
  else x.refuse 2

/-- Remove the registrants with a key, the preempting host apart. -/
def Resv.preempted (x : Resv) (h key : Nat) : List Nat :=
  (x.regs.filter fun e => decide (e.2 = key ∧ e.1 ≠ h)).map Prod.fst

def Resv.drop (x : Resv) (hs : List Nat) : Resv := { x with regs := x.regs.filter fun e => !hs.contains e.1 }

/-- Preempt by host `h` with the key `c.prkey`. -/
def Resv.preempt (x : Resv) (h : Nat) (c : Capsule) : ResvOut :=
  let all := 5 ≤ x.rtype
  let takes := if 5 ≤ x.rtype then decide (c.prkey = 0)
    else decide (x.rtype ≠ 0) && (match x.holder with
      | some g => x.keyIs g c.prkey
      | none => false)
  let gone := if all ∧ c.prkey = 0 then x.others h else x.preempted h c.prkey
  let y := { (x.drop gone) with gen := (x.gen + 1) % 2 ^ 32 }
  if c.prkey = 0 ∧ takes = false then x.refuse 2
  else if takes then
    { resv := { y with holder := some h, rtype := c.rtype }, out := gone
      told := (gone.map fun g => (g, 1)) ++
        (if x.rtype ≠ c.rtype then ((y.others h).map fun g => (g, 2)) else []) }
  else if gone.isEmpty && !x.keyIs h c.prkey then x.refuse 0x83
  else { resv := y, out := gone, told := gone.map fun g => (g, 1) }

/-- Reservation Acquire (actions 0 acquire, 1 preempt, 2 preempt and abort). -/
def Resv.acquire (x : Resv) (h : Nat) (c : Capsule) : ResvOut :=
  if c.rtype = 0 ∨ 6 < c.rtype ∨ 2 < c.raction then x.refuse 2
  else if !x.keyIs h c.crkey then x.refuse 0x83
  else if c.raction = 0 then
    if x.rtype = 0 then { resv := { x with holder := some h, rtype := c.rtype } }
    else if x.holds h && decide (x.rtype = c.rtype) then { resv := x }
    else x.refuse 0x83
  else x.preempt h c

/-- Reservation Release (actions 0 release, 1 clear). -/
def Resv.releaseCmd (x : Resv) (h : Nat) (c : Capsule) : ResvOut :=
  if 1 < c.raction then x.refuse 2
  else if !x.keyIs h c.crkey then x.refuse 0x83
  else if c.raction = 1 then
    { resv := { x with regs := [], holder := none, rtype := 0, gen := (x.gen + 1) % 2 ^ 32 }
      told := (x.others h).map fun g => (g, 3) }
  else if x.rtype = 0 ∨ x.holds h = false then { resv := x }
  else if x.rtype ≠ c.rtype then x.refuse 2
  else { resv := (x.release h).1, told := (x.release h).2 }

/-- What a reservation command does. -/
def Resv.apply (x : Resv) (h : Nat) (c : Capsule) : ResvOut :=
  if c.opcode = 0xD then x.register h c
  else if c.opcode = 0x11 then x.acquire h c
  else x.releaseCmd h c

/-! ### Notifications and the barrier (06 R211, R212) -/

/-- Tell the controllers of a host about a namespace's reservation, where their mask (feature 82h) lets them be told. -/
def State.tellHost (s : State) (r : Nat) (e : Nat × Nat) : State :=
  let nsid := s.o 0x3230 r 4
  s.each (s.ctrlsOf r) fun s k =>
    if k.2.hostid = e.1 ∧ bit (Tbl.get 0 k.2.features (nsFeature 0x82 nsid)) e.2 = false then
      let c := s.ctrl k.1
      (s.setCtrl k.1 { c with rsvLog := c.rsvLog ++ [(e.2, nsid)], rsvCount := c.rsvCount + 1 }).asyncEvent k.1 6 0 0x80
    else s

/-- A capsule that no engine has taken is an I/O command of one of the hosts to a namespace. -/
def State.inputOf (s : State) (r : Nat) (hs : List Nat) (x : EngineInput) : Bool :=
  match s.ctrlOf x with
  | some k => !s.onAdmin x && decide (x.cap.opcode ≠ 0x7F) && hs.contains (s.ctrl k).hostid &&
      decide (s.nsOf (s.ctrl k) x.cap.nsid = some r)
  | none => false

/-- End the commands of preempted hosts that have not passed admission, those at engine inputs among them (06 R211). -/
def State.endPreempted (s : State) (r : Nat) (hs : List Nat) : State :=
  let l := (s.nsCmds r).filter fun e => hs.contains e.2.host && (e.2.stage.early || decide (e.2.stage = .waitDirty))
  let s := s.each l fun s e => s.complete e.1 0 0x1B 0
  let ins := (s.nvme.inputs.flatMap fun e => e.2.map fun x => (e.1, x)).filter fun e => s.inputOf r hs e.2
  s.each ins fun s e => s.endInput e.1 e.2 0 0x1B

/-- The command is Preempt and Abort. -/
def Capsule.aborts (c : Capsule) : Bool := decide (c.opcode = 0x11 ∧ c.raction = 2)

/-- A reservation command whose data is there is ready at the barrier that its admission has started; one of a VF without a host
identifier is refused (12 R419). -/
def State.toBarrier (s : State) (id : Nat) : State :=
  let c := s.cmd id
  if c.vf.isSome ∧ c.host = 0 then (s.unbar c.nsRow id).complete id 0 0x0C 0
  else
    let s := s.setCmd id { c with stage := .barrier }
    let o := (s.ns c.nsRow).resv.apply c.host c.cap
    if Capsule.aborts c.cap ∧ o.sc = 0 then s.endPreempted c.nsRow o.out else s

/-- The reservation change at the head of the barrier takes effect and its command completes. -/
def State.applyResv (s : State) (r id : Nat) : State :=
  let x := s.ns r
  let c := s.cmd id
  let s := s.unbar r id
  if Tbl.has s.nvme.cmds id = false then s
  else
    let o := x.resv.apply c.host c.cap
    if o.sc ≠ 0 then
      (s.when (decide (o.sc = 0x83)) fun s => s.bump 0x3270 0 0x16).complete id 0 o.sc 0
    else
      let s := s.each o.told fun s e => s.tellHost r e
      let s := if Capsule.aborts c.cap then s.endPreempted r o.out else s
      s.storeResv r o.resv id

/-- RESERVATION_BARRIER_COMPLETE: every command of the namespace admitted before has passed array admission. -/
def reservationBarrierComplete (r : Nat) (s : State) : State :=
  match (s.ns r).barrier with
  | [] => s
  | id :: _ =>
    if Tbl.has s.nvme.cmds id && (decide ((s.cmd id).stage ≠ .barrier) || (s.nsCmds r).any fun e => decide (e.2.stage = .waitDirty))
    then s
    else s.applyResv r id

def execReservationBarrierComplete (t nsRow : Nat) (s : State) : Res :=
  act t (isNsRow nsRow) s (reservationBarrierComplete nsRow)

/-- A reservation command that carries data: it is fetched first. -/
def State.resvCmd (s : State) (id o : Nat) : State :=
  if s.readyIo id o then
    let s := (s.setCmd id { s.cmd id with stage := .fetching }).fetchData id
    if s.dataIn id then s.toBarrier id else s
  else s

/-- RESERVATION_REGISTER. -/
def reservationRegister (id : Nat) (s : State) : State := s.resvCmd id 0xD

def execReservationRegister (t c : Nat) (s : State) : Res := act t true s (reservationRegister c)

/-- RESERVATION_ACQUIRE. -/
def reservationAcquire (id : Nat) (s : State) : State := s.resvCmd id 0x11

def execReservationAcquire (t c : Nat) (s : State) : Res := act t true s (reservationAcquire c)

/-- RESERVATION_RELEASE. -/
def reservationRelease (id : Nat) (s : State) : State := s.resvCmd id 0x15

def execReservationRelease (t c : Nat) (s : State) : Res := act t true s (reservationRelease c)

/-- RESERVATION_REPORT. -/
def reservationReport (id : Nat) (s : State) : State :=
  if s.readyIo id 0xE then
    let c := s.cmd id
    let x := (s.ns c.nsRow).resv
    if c.vf.isSome ∧ c.host = 0 then s.complete id 0 0x0C 0
    else s.answerData id c.len {
      kind := "reservation"
      fields := [("GEN", .n x.gen), ("RTYPE", .n x.rtype), ("REGCTL", .n x.regs.length), ("PTPLS", .n (if x.ptpl then 1 else 0))]
      rows := x.regs.map fun e => [("HOSTID", .n e.1), ("RKEY", .n e.2), ("RCSTS", .n (if x.holds e.1 then 1 else 0))] }
  else s

def execReservationReport (t c : Nat) (s : State) : Res := act t true s (reservationReport c)

/-! ### The data of a command has arrived -/

/-- All data of a command that fetches some has come: it goes on as its kind does. -/
def State.dataArrived (s : State) (id : Nat) : State :=
  let c := s.cmd id
  if Tbl.has s.nvme.cmds id = false || !s.dataIn id then s
  else if s.isIoCmd c = false then (if c.stage = .fetching ∧ c.cap.opcode = 9 then s.takeHostid id else s)
  else if c.cap.opcode = 5 then (if c.stage = .reading then s.tryCompare id else s)
  else if c.stage ≠ .fetching then s
  else if c.cap.opcode = 1 then
    match c.fused with
    | some h => s.tryCompare h
    | none => s.gatherDone id
  else if c.cap.opcode = 9 then s.deallocate id
  else if isResvOp c.cap.opcode then s.toBarrier id
  else s

/-- Bytes of a command's data have come. -/
def State.bringData (s : State) (id off len : Nat) (data : Content) : State :=
  if Tbl.has s.nvme.cmds id then
    let (s, all) := s.takeData id off len data
    if all then s.dataArrived id else s
  else s

end Sys2Proof.Machine
end

