-- ==== Sys2Proof/Machine/Sched.lean ====
section
/-! DEFINITION. Scheduling that is not tied to one frame or command (07 R245, R262 to R268, R273): commits of 4010h, starved
queues, the shares and targets of background work. -/

namespace Sys2Proof.Machine

/-! ### Commit of 4010h (07 R245, R273) -/

/-- Reconfigure the buckets of a tenant. A rate of 0 takes the bucket away, so that a later one starts full. -/
def State.rebucket (s : State) (tenant : Nat) : State :=
  let get (sub : Nat) : Nat := s.o 0x4010 tenant sub
  let re (b : Option Bucket) (sub : Nat) (unit : Rat) : Option Bucket :=
    if get sub = 0 then none else b.map fun b => b.reconfigure s.now ((get sub : Rat) / unit) (get (sub + 1) : Nat)
  let a : Admission := Tbl.get {} s.sched.adm tenant
  let a := { a with
    iops := re a.iops 7 1000000000, data := re a.data 9 1000
    class0 := a.class0.filterMap fun e => (re (some e.2) 0xB 8000).map fun b => (e.1, b) }
  let eg := s.sched.eg.map fun e =>
    match re (Tbl.find? e.2.shapers tenant) 4 8000 with
    | some b => (e.1, { e.2 with shapers := Tbl.set e.2.shapers tenant b })
    | none => (e.1, { e.2 with shapers := Tbl.erase e.2.shapers tenant })
  { s with sched := { s.sched with adm := Tbl.set s.sched.adm tenant a, eg := eg } }

/-- Admit the waiting commands of a tenant while its buckets allow. -/
def State.admitAll (s : State) (tenant : Nat) : Nat → State
  | 0 => s
  | n + 1 =>
    match s.pickAdmit tenant 0 8 with
    | some id => (s.letIn id).admitAll tenant n
    | none => s

/-- Effect of a commit of 4010h: what waits is tested against the new settings in the same decision. -/
def applyTenantSched (st : Stage) (_ u : State) : State :=
  let u := u.rebucket st.row
  let u := u.admitAll st.row u.nvme.cmds.length
  (u.each (List.range 32) fun s p => if s.portExists p then (s.checkOversubscribed p).nextFrame p else s)

/-- TENANT_SCHEDULING_COMMIT. -/
def tenantSchedulingCommit (sess : Nat) (s : State) : State := s.commitAs sess 0x4010 1 (fun _ _ _ => 0) applyTenantSched

def execTenantSchedulingCommit (t sess : Nat) (s : State) : Res := act t true s (tenantSchedulingCommit sess)

/-! ### Starved queues (07 R262 to R264) -/

/-- Minute of PTP time. -/
def State.ptpMinute (s : State) : Int := s.ptpNow / 60000000000

/-- Count a promotion of queue `k`: how many it has had in this minute. -/
def countPromo (t : Tbl (Int × Nat)) (k : Nat) (m : Int) : Nat × Tbl (Int × Nat) :=
  let n := match Tbl.find? t k with
    | some (m2, n) => if m2 = m then n + 1 else 1
    | none => 1
  (n, Tbl.set t k (m, n))

/-- An egress queue that is starved moves up one class. -/
def State.promoteEgress (s : State) (p k : Nat) : State :=
  let e := s.eg p
  let q := e.qs k
  let m := s.ptpMinute
  match e.head? k with
  | none => s
  | some f =>
    let urgent := s.ob 0x4002 (q.level + 1) * 1000
    if 2 ≤ q.level ∧ q.active = true ∧ s.eligible p f = true ∧ q.heldBack = false ∧ dueAt s.now q.waitingSince urgent = true then
      let (n, promos) := countPromo e.promos k m
      let e := { (e.wake s.now (q.level - 1) k (s.frameCost f) (s.egWeight f.tenant)).settleClass e.backlog q.level with promos := promos }
      let s := (s.setEg p e).bump 0x4011 (k % 4096) 5
      let s := if 100 < n ∧ e.starvedMinute ≠ some m then
          (s.setEg p { e with starvedMinute := some m }).raise .starvation [0, p, k / 4096, k % 4096]
        else s
      s.nextFrame p
    else s

/-- A member queue that is starved moves up one class. -/
def State.promoteMember (s : State) (n k : Nat) : State :=
  let x := s.memQ n
  let q := x.qs k
  let m := s.ptpMinute
  match Tbl.get [] x.queues k with
  | [] => s
  | j :: _ =>
    let urgent := s.ob 0x4003 (q.level + 1) * msNs
    if 2 ≤ q.level ∧ dueAt s.now q.waitingSince urgent = true then
      let (c, promos) := countPromo x.promos k m
      let x := x.wake s.now (q.level - 1) k (s.mcCost (s.mc j)) (s.memWeight (k % 4096))
      let left := x.backlog.any fun j => decide ((x.qs j).level = q.level)
      let x := { x with promos := promos, vtime := if left then x.vtime else Tbl.set x.vtime q.level 0 }
      let s := (s.setMemQ n x).bump 0x4011 (k % 4096) 6
      if 100 < c ∧ x.starvedMinute ≠ some m then
        (s.setMemQ n { x with starvedMinute := some m }).raise .starvation [1, n, k / 4096, k % 4096]
      else s
    else s

/-- Whether a queue reference names a queue of the module. -/
def QueueRef.ok : QueueRef → Bool
  | .egress p c t => isPort p && decide (c < 8) && isTenant t
  | .member n c t => isSlot n && decide (c < 8) && isTenant t

/-- QUEUE_STARVED (07 R262, R263). -/
def queueStarved (q : QueueRef) (s : State) : State :=
  match q with
  | .egress p c t => s.promoteEgress p (queueKey c t)
  | .member n c t => s.promoteMember n (queueKey c t)

def execQueueStarved (t : Nat) (q : QueueRef) (s : State) : Res := act t (QueueRef.ok q) s (queueStarved q)

/-! ### Background shares (07 R265, R266) -/

/-- Rung of an array's rebuild and copy-back work (07 Table 3). -/
def State.rungOf (s : State) (a : Nat) : Nat :=
  let st := s.o 0x5001 a 2
  if st = 3 then 2 else if st = 2 ∨ (s.arrS a).work.isSome = true then 1 else 0

/-- Floor and target of a rung, in percent. -/
def State.floorOf (s : State) (rung : Nat) : Nat := s.ob 0x4030 (1 + 2 * rung)
def State.ceilingOf (s : State) (rung : Nat) : Nat := s.ob 0x4030 (2 + 2 * rung)
def State.targetOf (s : State) (rung : Nat) : Nat := s.ob 0x4030 ([8, 0xA, 0xB].getD rung 8)

/-- The step of R248 at which a background queue is served, from its rung and what it was served of the last 10 ms. -/
def State.bgStep (s : State) (rung part total : Nat) : Nat :=
  if part * 100 < s.floorOf rung * total ∨ (total = 0 ∧ 0 < s.floorOf rung) then 2
  else if part * 100 < s.targetOf rung * total ∨ (total = 0 ∧ 0 < s.targetOf rung) then (if rung = 2 then 2 else 4)
  else 5

/-- Shares of one member's background queues over the last 10 ms. -/
def State.updateShare (s : State) (n : Nat) : State :=
  match s.memberIn n with
  | none => s
  | some (a, _) =>
    let m := s.memQ n
    let recent := m.served.filter fun e => decide (s.now < e.1 + 10 * msNs)
    let cost (l : List (Nat × Nat × Nat)) : Nat := sumNat (l.map fun e => e.2.1)
    let total := cost recent
    let part (k : Nat) : Nat := cost (recent.filter fun e => decide (e.2.2 = k))
    let rung := max 1 (s.rungOf a)
    s.setMemQ n { m with
      served := recent, rung := s.rungOf a, rebuildStep := s.bgStep rung (part 1) total, scrubStep := s.bgStep 0 (part 2) total }

/-- BACKGROUND_SHARE_UPDATE: every 10 ms. An array that has left rung 0 ends Lull and its idle time (15 R546, R548). -/
def backgroundShareUpdate (s : State) : State :=
  if (match s.sched.lastShare with | some u => dueAt s.now u (10 * msNs) | none => true) then
    let s := { s with sched := { s.sched with lastShare := some s.now } }
    let s := s.each ((List.range 4).filter s.arrOn) fun s a => s.put 0x5110 a 0xA (s.rungOf a)
    let off := (List.range 4).any fun a => s.arrOn a && decide (s.rungOf a ≠ 0)
    let s := if off then s.thawNow.notIdle else s
    s.each (List.range 24) State.updateShare
  else s

def execBackgroundShareUpdate (t : Nat) (s : State) : Res := act t true s backgroundShareUpdate

/-! ### Background targets (07 R267, R268) -/

/-- Slack from the largest latency of the last 100 ms. -/
def State.slackNow (s : State) : Rat :=
  let xs := (s.sched.slack.filter fun e => decide (s.now < e.1 + 100 * msNs)).map Prod.snd
  if xs.isEmpty then 1 else (6000 - (maxNat xs : Rat)) / 6000

/-- Target of a rung at a slack, in whole percent (log entry 43); a pin replaces it, between floor and ceiling. -/
def State.computeTarget (s : State) (slack : Rat) (rung : Nat) : Nat :=
  let lo := s.floorOf rung
  let hi := s.ceilingOf rung
  let pin := s.ob 0x4030 7
  if pin ≠ 0 then max lo (min hi pin)
  else ((lo : Rat) + ((hi : Rat) - lo) * min 1 (max 0 ((slack - 1 / 4) / (1 / 2)))).floor.toNat

/-- BACKGROUND_TARGET_UPDATE: every 100 ms. -/
def backgroundTargetUpdate (s : State) : State :=
  if (match s.sched.lastTarget with | some u => dueAt s.now u (100 * msNs) | none => true) then
    let k := s.slackNow
    let s := { s with sched := { s.sched with lastTarget := some s.now } }
    let s := s.setVal 0x4030 0 9 (.real k)
    s.each [(0, 8), (1, 0xA), (2, 0xB)] fun s e => s.put 0x4030 0 e.2 (s.computeTarget k e.1)
  else s

def execBackgroundTargetUpdate (t : Nat) (s : State) : Res := act t true s backgroundTargetUpdate

end Sys2Proof.Machine
end

