-- ==== Sys2Proof/Machine/Energy.lean ====
section
/-! DEFINITION. The holdup forecast, the dirty ceiling, the vault test and Lull (15 R529 to R536, R544 to R548), and the twin
share W that follows the ceilings (14 R480). -/

namespace Sys2Proof.Machine

/-! ### Twin share (14 R480) -/

/-- The twin share W and the size of the mirror window while the modules are paired: half the lesser of both dirty ceilings,
in whole pages, and 64 MiB more. -/
def State.syncShare (s : State) : State :=
  if s.paired then
    let peer := match s.twin.peer with
      | some h => h.ceiling
      | none => 0
    let w := min (s.ob 0x2201 2) peer / 2 / 4096 * 4096
    (s.put 0x2403 0 1 w).put 0x2403 0 2 (w + 67108864)
  else s

/-! ### Holdup forecast (15 R530, R531) -/

/-- C_meas in mF: the median of the last five measurements; before the first after a boot 0.95 times the stored median, or
5.44 mF. -/
def State.capNow (s : State) : Rat :=
  match s.pwr.caps, s.pwr.storedCap with
  | [], some c => 95 / 100 * c
  | [], none => 544 / 100
  | xs, _ => median xs

/-- Energy that a capacitance in mF gives from a store voltage down to a lower one, in J. -/
def capEnergy (c v low : Rat) : Rat := c / 2000 * (v * v - low * low)

/-- E_f = 0.87 × ½ × C_meas × (V_store² − 28²), in J. -/
def State.forecast (s : State) : Rat := 87 / 100 * capEnergy s.capNow s.pwr.storeV 28

/-- The charge voltage in V: 72.0, or what gives 17.70 J where that is lower, in whole millivolts (log entry 73). -/
def State.chargeVoltage (s : State) : Rat :=
  let c := s.capNow
  if c = 0 then 72
  else min 72 ((Nat.sqrt ((35400 / c * 1000000).floor.toNat) : Rat) / 1000)

/-! ### Dirty ceiling (15 R533 to R536, R545) -/

/-- An idle copy region. -/
def State.idleRegion (s : State) : Option Nat := [0, 1].find? fun k => decide ((s.copyRegion k).state = 0)

/-- The vault is usable (R545). -/
def State.vaultUsable (s : State) : Bool := s.idleRegion.isSome && decide (4 ≤ s.pwr.rate) && s.pwr.testOk

/-- B in GB/s. -/
def State.vaultRate (s : State) : Rat := min 12 s.pwr.rate

/-- E_need of `c` bytes at `b` GB/s, in J (R533). -/
def energyNeed (b : Rat) (c : Nat) : Rat := 56 * (2 / 1000 + ((c + 83886080 : Nat) : Rat) / (b * 1000000000))

/-- The automatic ceiling for a forecast of `e` J at `b` GB/s with margin `m` percent: the largest multiple of 64 MiB whose
E_need fits; 0 below 256 MiB, where the ceiling is 0. -/
def autoCeiling (e b : Rat) (m : Nat) : Nat :=
  let secs := (100 - (m : Rat)) / 100 * e / 56 - 2 / 1000
  let k := ((secs * b * 1000000000 - 83886080) / 67108864).floor.toNat
  if k < 4 then 0 else k * 67108864

def State.autoNow (s : State) : Nat :=
  if s.vaultUsable then autoCeiling s.forecast s.vaultRate (s.ob 0x2201 0xB) else 0

/-- Put a dirty ceiling in force. -/
def State.setCeiling (s : State) (v : Nat) : State :=
  let old := s.ob 0x2201 2
  let s := (s.put 0x2201 0 2 v).setVal 0x2202 0 0xC (.real (energyNeed s.vaultRate v))
  let s := if v < old then s.raise .ceilingLowered [old, v, (s.forecast * 1000).floor.toNat] else s
  let s := if v = 0 ∧ old ≠ 0 then s.raise .holdupInsufficient else s
  s.syncShare.syncDirty

/-- Follow the automatic ceiling and the limit: a fall applies at once, a rise waits (R535). -/
def State.updateCeiling (s : State) : State :=
  let auto := s.autoNow
  let goal := min auto (s.ob 0x2201 1 * 1048576)
  let cur := s.ob 0x2201 2
  let rise := if goal ≤ cur then none else
    match s.pwr.rise with
    | none => some (goal, s.now)
    | some (v, u) => some (min v goal, u)
  let s := { s with pwr := { s.pwr with auto := auto, rise := rise } }
  if goal < cur then s.setCeiling goal else s

/-- The stored energy of R529 in J: the holdup store's at its measured voltage; what VBUS, the slot outputs and the rails add, whose
voltages no command brings, is a free value (log entry 74). -/
def State.storedEnergy (s : State) : Rat := capEnergy s.capNow s.pwr.storeV 0 + (s.draw : Nat)

/-- HOLDUP_FORECAST, every 100 ms: `storeMv` is the measured store voltage. -/
def holdupForecast (storeMv : Nat) (s : State) : State :=
  let s := { s with pwr := { s.pwr with storeV := (storeMv : Rat) / 1000 } }
  let s := (s.setVal 0x2202 0 1 (.real s.forecast)).setVal 0x2202 0 2 (.real s.pwr.storeV)
  let s := (s.setVal 0x2202 0 3 (.real s.capNow)).setVal 0x2202 0 9 (.real s.chargeVoltage)
  let s := (s.setVal 0x2202 0 0xB (.real s.storedEnergy)).drawn
  if s.pwr.storm then s else s.updateCeiling

def execHoldupForecast (t storeMv : Nat) (s : State) : Res := act t true s (holdupForecast storeMv)

/-- DIRTY_CEILING_RISE: the automatic ceiling has stayed at or above the new value for 10 s. -/
def dirtyCeilingRise (s : State) : State :=
  match s.pwr.rise with
  | some (v, u) =>
    if dueAt s.now u (10 * sNs) && decide (s.ob 0x2201 2 < v) && !s.pwr.storm then
      ({ s with pwr := { s.pwr with rise := none } }.setCeiling v).updateCeiling
    else s
  | none => s

def execDirtyCeilingRise (t : Nat) (s : State) : Res := act t true s dirtyCeilingRise

/-- CAPACITANCE_MEASUREMENT (R532): C = 2.0 mC divided by the drop; `dropMv` in mV. A storm warning abandons it. -/
def capacitanceMeasurement (dropMv : Nat) (s : State) : State :=
  let due := match s.pwr.measuredAt with
    | some u => dueAt s.now u (s.ob 0x2202 5 * sNs)
    | none => true
  if s.pwr.storm || !due then s
  else
    let s := ({ s with pwr := { s.pwr with measuredAt := some s.now } }).put 0x2202 0 6 s.ptpNow.toNat
    let c : Rat := 2000 / (dropMv : Rat)
    if dropMv = 0 ∨ c < 3 ∨ 8 < c then s.raise .holdupStoreFault [dropMv]
    else
      let caps := (c :: s.pwr.caps).take 5
      let s := { s with pwr := { s.pwr with caps := caps, storedCap := some (median caps) } }
      let s := s.setVal 0x2202 0 3 (.real s.capNow)
      if c < 544 / 100 then s.raise .holdupAging [dropMv] else s

def execCapacitanceMeasurement (t dropMv : Nat) (s : State) : Res := act t true s (capacitanceMeasurement dropMv)

/-- COPY_REGION_ERASE (R544): a copy that recovery has used for every array it names, or one that is not valid, is erased and
the region is idle. -/
def copyRegionErase (k : Nat) (s : State) : State :=
  let c := s.copyRegion k
  let named := (List.range 4).filter fun a => bit c.arrays a || bit c.arrays (a + 4)
  if s.pwr.storm then s
  else if c.state = 3 ∨ (c.state = 2 ∧ named.all (fun a => !(s.arrS a).recovering) = true) then
    (s.setRegion k { state := 0, seq := c.seq }).updateCeiling
  else s

def execCopyRegionErase (t region : Nat) (s : State) : Res := act t (decide (region < 2)) s (copyRegionErase region)

/-- VAULT_TEST (R545): the measured rate in MB/s, and whether the test read back. -/
def vaultTest (rate : Nat) (readOk : Bool) (s : State) : State :=
  let s := { s with pwr := { s.pwr with rate := (rate : Rat) / 1000, testOk := readOk } }
  let s := s.setVal 0x2201 0 0xD (.real s.vaultRate)
  let s := if s.vaultUsable then s else s.raise .vaultFailed [rate]
  s.updateCeiling

def execVaultTest (t rate : Nat) (readOk : Bool) (s : State) : Res := act t true s (vaultTest rate readOk)

/-! ### Lull (15 R546 to R548) -/

/-- The conditions under which the module may stand in Lull. -/
def State.idle (s : State) : Bool :=
  decide (s.dirtyBytes = 0) && !s.silent && !s.pwr.lull &&
  (s.nvme.cmds.all fun e => !s.isIoCmd e.2) && (s.nvme.inputs.all fun e => e.2.isEmpty) &&
  ((List.range 4).all fun a => !s.arrOn a || decide (s.rungOf a = 0)) &&
  (s.dma.all fun e => (jobOf e.1).isNone || decide (e.2.state ≠ 1))

/-- LULL_ENTRY: mode 1 after the idle time, mode 2 1 ms after the last condition is met, mode 0 never. -/
def lullEntry (s : State) : State :=
  let wait := if s.ob 0x2220 1 = 2 then msNs else s.ob 0x2220 2 * msNs
  if s.ob 0x2220 1 ≠ 0 ∧ s.idle = true ∧ dueAt s.now s.pwr.idleSince wait = true then
    let s := { s with pwr := { s.pwr with lull := true, lullAt := s.now, serveTimes := [] } }
    ((s.each (List.range 32) State.syncLpi).put 0x2220 0 3 2).bump 0x2220 0 6
  else s

def execLullEntry (t : Nat) (s : State) : Res := act t true s lullEntry

/-- Whether a trigger starts Thaw (R548). -/
def State.thawStarts (s : State) : ThawTrigger → Bool
  | .class0 => decide (s.ob 0x2220 5 = 1)
  | .operator => decide (s.ob 0x2220 1 = 0)
  | .command | .commandRate | .mirrorData | .rung | .copyJob => true

/-- THAW: HBM and every engine are back in full service; the core ramps from its Lull voltage (02 R63). -/
def thaw (trigger : ThawTrigger) (s : State) : State := if s.thawStarts trigger then s.thawNow else s

def execThaw (t : Nat) (trigger : ThawTrigger) (s : State) : Res := act t true s (thaw trigger)

end Sys2Proof.Machine
end

