-- ==== Sys2Proof/Machine/Roce.lean ====
section
/-! DEFINITION. The receiving side of the RDMA transport (05): connection management, the checks of Table 5, SENDs and the
capsules they carry, acknowledgements, READ responses, timers, parking, and commits of 3101h. -/

namespace Sys2Proof.Machine

/-! ### Connecting (05 R156 to R162, 06 R198, R199) -/

/-- Base of the service IDs of NVMe-oF: the RDMA IP port space (06 "Listeners and connection"). -/
def serviceBase : Nat := 0x01060000

/-- The enabled listener of an interface row and service ID. -/
def State.listenerOf (s : State) (ifRow service : Nat) : Option Nat :=
  (s.rowsWith 0x3240 2 1).find? fun l => decide (s.o 0x3240 l 3 = ifRow ∧ service = serviceBase + s.o 0x3240 l 4)

/-- The reject status for a REQ's private data (06 R199), 0 where it is accepted. -/
def State.privStatus (s : State) (r : CmReq) (listenerType : Nat) : Nat :=
  let admin := s.rdma.qps.any fun e =>
    decide (e.2.remoteIp = r.srcIp ∧ e.2.privQid = 0 ∧ (e.2.state = 1 ∨ e.2.state = 2)) && e.2.cntlid.isSome
  if r.privLen < 32 then 1
  else if r.recfmt ≠ 0 then 2
  else if 128 < r.qid ∨ (r.qid ≠ 0 ∧ listenerType = 1 ∧ admin = false) then 3
  else if (if r.qid = 0 then 31 else 255) < r.hsqsize then 4
  else if r.hrqsize < r.hsqsize + 1 then 5
  else if r.qid ≠ 0 ∧ r.respRes = 0 then 7
  else 0

/-- The path MTU of a queue pair (05 R157). -/
def State.pathMtu (s : State) (port reqMtu : Nat) : Option Nat :=
  [4096, 2048, 1024].find? fun m => decide (m ≤ reqMtu ∧ m ≤ s.ob 0x3100 1 ∧ m + 102 ≤ s.fMax port)

/-- Queue pairs of a slice in RTR or RTS. -/
def State.sliceLoad (s : State) (sl : Nat) : Nat :=
  (s.rdma.qps.filter fun e => decide (sliceOf e.1 = sl ∧ (e.2.state = 1 ∨ e.2.state = 2))).length

/-- The index is that of a standby context of the peer's (14 R486; log entry 71). -/
def State.standsBy (s : State) (i : Nat) : Bool := s.twin.standby.any fun e => decide (e.1 % 131072 = i)

/-- The lowest free index of a slice, from `i` on. -/
def State.freeIndexFrom (s : State) (i : Nat) : Nat → Option Nat
  | 0 => none
  | n + 1 => if Tbl.has s.rdma.qps i || s.standsBy i then s.freeIndexFrom (i + 4) n else some i

/-- The index that an accepted REQ takes (05 R155). -/
def State.freeIndex (s : State) : Option Nat :=
  let cand := (List.range 4).filterMap fun sl => (s.freeIndexFrom sl 32768).map fun i => (s.sliceLoad sl, i)
  (cand.foldl (init := (none : Option (Nat × Nat))) fun b x =>
    match b with
    | none => some x
    | some y => if x.1 < y.1 then some x else some y).map Prod.snd

/-- Pinned contexts of a slice. -/
def State.pinnedIn (s : State) (sl : Nat) : Nat :=
  (s.rdma.qps.filter fun e => decide (sliceOf e.1 = sl) && e.2.pin).length

/-- The engine cluster with the fewest queue pairs bound (05 R161). -/
def State.pickCluster (s : State) : Nat :=
  let load (c : Nat) : Nat := (s.rdma.qps.filter fun e => decide (e.2.cluster = c ∧ (e.2.state = 1 ∨ e.2.state = 2))).length
  (List.range 8).foldl (fun b c => if load c < load b then c else b) 0

/-- Answer a REQ with REJ. -/
def State.reject (s : State) (port : Nat) (ip : Ip) (reason status : Nat) : State :=
  s.enqueueCtl port cmLen (.cmRej ip reason status)

/-- Answer with REP (05 R158): responder resources 0, the initiator depth, the RNR retry count, and the private data of 06 R199: format 0
and the receive queue size HSQSIZE + 1. -/
def State.sendRep (s : State) (i : Nat) : State :=
  let q := s.qp i
  s.enqueueCtl q.port cmLen (.cmRep q.remoteIp (wireQpn i q) q.startPsn.toNat 0 q.depth q.rnrCount 0 (q.hsqsize + 1))

/-- The module may send an MRA before it answers a REQ (05 R153): whether, and the service timeout it states, is open (log entry 146). -/
def State.mayMra (s : State) (port : Nat) (ip : Ip) : State :=
  let u := s.drawn
  if s.draw % 2 = 1 then u.drawn.enqueueCtl port cmLen (.cmMra ip (u.draw % 32)) else u

/-- The window on connect (05 R176): the initial window, held in multiples of 64 bytes, and on Class 0 never below its floor (R178). -/
def State.firstWindow (s : State) (q : Qp) : Qp :=
  let w := s.ob 0x3110 1 / 64 * 64
  let w := if q.cls = 0 then max w (s.ob 0x3110 0xD) else w
  { q with window := w, floorSince := if w ≤ s.windowFloor q then some s.now else none }

/-- Accept a REQ on index `i`. -/
def State.acceptReq (s : State) (port ifRow l i mtu : Nat) (r : CmReq) : State :=
  let g := Tbl.get 0 s.rdma.gens i
  let gen := if 127 ≤ g then 1 else g + 1
  let cls := s.o 0x3240 l 6
  let psn : Psn := BitVec.ofNat 24 s.draw
  let q : Qp := {
    state := 1, gen := gen, pin := decide (cls = 0), cls := cls, ifRow := ifRow, port := port, remoteIp := r.srcIp
    remoteQpn := r.remoteQpn, srcPort := qpSrcPort (gen * 131072 + i), mtu := mtu, pkey := r.pkey, cluster := s.pickCluster
    ePsn := r.psn, nPsn := psn, oldest := psn, startPsn := psn, depth := min 16 r.respRes, alpha := (s.ob 0x3110 0xA : Rat) / 256
    retries := s.ob 0x3100 5, rnrRetries := r.rnrRetry, rnrCount := r.rnrRetry, bufs := r.hsqsize + 1, commId := r.localCommId
    rtrAt := s.now, alphaAt := s.now, residentSince := s.now, listenerType := s.o 0x3240 l 5, privQid := r.qid
    hsqsize := r.hsqsize }
  let s := s.drawn
  let s := (s.setQp i (s.firstWindow q)).put 0x3101 i 5 (if cls = 0 then 1 else 0)
  (s.mayMra port r.srcIp).sendRep i

/-- CM_REQ. -/
def cmReq (port : Nat) (r : CmReq) (s : State) : State :=
  if s.portServes port = false then s
  else
    match s.rdma.qps.find? fun e => decide (e.2.commId = r.localCommId ∧ e.2.remoteIp = r.srcIp ∧ (e.2.state = 1 ∨ e.2.state = 2)) with
    | some (i, q) => if q.state = 1 then s.sendRep i else s
    | none =>
      match s.interfaceOf port r.destIp with
      | none => s.reject port r.srcIp 8 0
      | some row =>
        match s.listenerOf row r.serviceId with
        | none => s.reject port r.srcIp 8 0
        | some l =>
          if (s.offender r.srcIp).until_.isSome then s.reject port r.srcIp 3 0
          else
            let st := s.privStatus r (s.o 0x3240 l 5)
            if st ≠ 0 then s.reject port r.srcIp 28 st
            else
              match s.pathMtu port r.mtu with
              | none => s.reject port r.srcIp 5 0
              | some mtu =>
                match s.freeIndex with
                | none => (s.reject port r.srcIp 1 0).raise .contextStoreFull [0, 0, r.srcIp, port, 1]
                | some i =>
                  if s.o 0x3240 l 6 = 0 ∧ s.ob 0x3100 8 ≤ s.pinnedIn (sliceOf i) then
                    (s.reject port r.srcIp 3 0).raise .pinCapacity [0, 0, r.srcIp, port, sliceOf i]
                  else s.acceptReq port row l i mtu r

def execCmReq (t port : Nat) (req : CmReq) (s : State) : Res := act t (isPort port) s (cmReq port req)

/-- The index of a wire QPN whose generation is current. -/
def State.qpnIndex (s : State) (qpn : Nat) : Option Nat :=
  let i := qpn % 131072
  match Tbl.find? s.rdma.qps i with
  | some q => if q.gen = qpn / 131072 then some i else none
  | none => none

/-- A wire QPN: 24 bits. -/
def isQpn (n : Nat) : Bool := decide (n < 2 ^ 24)

/-- Enter RTS. -/
def State.enterRts (s : State) (i : Nat) : State :=
  let q := s.qp i
  if q.state = 1 then (s.setQp i { q with state := 2 }).pumpAll i else s

/-- CM_RTU (05 R159). -/
def cmRtu (qpn : Nat) (s : State) : State :=
  match s.qpnIndex qpn with
  | some i => s.enterRts i
  | none => s

def execCmRtu (t qpn : Nat) (s : State) : Res := act t (isQpn qpn) s (cmRtu qpn)

/-- CM_REJ: a queue pair in RTR ends at once (05 R159). -/
def cmRej (qpn : Nat) (s : State) : State :=
  match s.qpnIndex qpn with
  | some i => if (s.qp i).state = 1 then s.freeQp i else s
  | none => s

def execCmRej (t qpn : Nat) (s : State) : Res := act t (isQpn qpn) s (cmRej qpn)

/-- CM_DREQ (05 R183): the queue pair ends as in R182, DREP answers. One that already waits for a DREP is closed too. -/
def cmDreq (qpn : Nat) (s : State) : State :=
  match s.qpnIndex qpn with
  | some i =>
    let q := s.qp i
    if q.state = 1 ∨ q.state = 2 then (s.qpFail i 8 0 0 true).qpGone i
    else if q.state = 3 then
      (s.setQp i { q with state := 4, dreqAt := none, freeAt := some (s.now + 4 * s.ackTimeout) }).enqueueCtl q.port cmLen
        (.cmDrep q.remoteIp q.remoteQpn)
    else s
  | none => s

def execCmDreq (t qpn : Nat) (s : State) : Res := act t (isQpn qpn) s (cmDreq qpn)

/-- CM_DREP: it answers the module's DREQ. -/
def cmDrep (qpn : Nat) (s : State) : State :=
  match s.qpnIndex qpn with
  | some i =>
    let q := s.qp i
    if q.state = 3 then s.setQp i { q with state := 4, dreqAt := none, freeAt := some (s.now + 4 * s.ackTimeout) } else s
  | none => s

def execCmDrep (t qpn : Nat) (s : State) : Res := act t (isQpn qpn) s (cmDrep qpn)

/-- CM_RESPONSE_TIMEOUT (05 R159, R183). -/
def cmResponseTimeout (i : Nat) (s : State) : State :=
  let q := s.qp i
  let d := s.ob 0x3100 7 * msNs
  if q.state = 1 ∧ dueAt s.now q.rtrAt d = true then
    (s.raise .cmTimeout [wireQpn i q, q.tenant, q.remoteIp, q.port]).freeQp i
  else if q.state = 3 then
    match q.dreqAt with
    | some u => if dueAt s.now u d then s.setQp i { q with state := 4, freeAt := some (s.now + 4 * s.ackTimeout) } else s
    | none => s
  else s

def execCmResponseTimeout (t idx : Nat) (s : State) : Res := act t (isQpIndex idx) s (cmResponseTimeout idx)

/-! ### Capsules to the engines (05 R161) -/

/-- Commands in progress at an engine, its input among them. -/
def State.engineLoad (s : State) (e : Nat) : Nat :=
  (Tbl.get [] s.nvme.inputs e).length +
    (s.nvme.cmds.filter fun c => decide (c.2.engine = e ∧ c.2.stage ≠ .sending ∧ c.2.stage ≠ .aer)).length

/-- The engines in service that serve cluster `k` (four engines each): in Lull E00 and E01 serve every cluster (15 R548). -/
def State.enginesOf (s : State) (k : Nat) : List Nat := if s.pwr.lull then [0, 1] else (List.range 4).map fun j => k * 4 + j

/-- The engine that takes a capsule of cluster `k`. -/
def State.pickEngine (s : State) (k : Nat) (admin : Bool) (fuse last : Nat) : Nat :=
  let es := s.enginesOf k
  let first := es.headD 0
  if admin then first
  else if fuse = 2 then last
  else es.foldl (fun b e => if s.engineLoad e < s.engineLoad b then e else b) first

/-- A whole capsule has arrived on a queue pair. -/
def State.deliverCapsule (s : State) (i : Nat) (c : Capsule) : State :=
  let q := s.qp i
  let e := s.pickEngine q.cluster (decide (q.privQid = 0)) c.fuse q.lastEngine
  let x : EngineInput := { qp := some i, vf := none, cap := c, cls := q.cls, arrivedAt := s.now }
  let s := s.setQp i { q with lastEngine := e }
  { s with nvme := { s.nvme with inputs := Tbl.modify [] s.nvme.inputs e fun l => l ++ [x] } }

/-! ### Answers to packets (05 R169, R186) -/

/-- Count a row of Table 5. -/
def State.rowCount (s : State) (k : Nat) : State := s.bump 0x3122 0 k

/-- Count a row of Table 5 that is a violation by a packet's sender, on queue pair `i` where it names one. -/
def State.rowViol (s : State) (k : Nat) (i : Option Nat) (p : RocePkt) : State :=
  let s := s.rowCount k
  match i with
  | some i => s.ipViolation p.srcIp (wireQpn i (s.qp i)) (s.qp i).tenant p.port (0x3122 * 256 + k)
  | none => s.ipViolation p.srcIp 1 0 p.port (0x3122 * 256 + k)

/-- NAK a packet with a syndrome and put the queue pair into the error state, reason 7. -/
def State.nakFail (s : State) (i k syndrome : Nat) (p : RocePkt) : State :=
  let q := s.qp i
  let s := s.sendAeth i q.ePsn syndrome
  (s.rowViol k (some i) p).qpDown i 7 p.psn syndrome

/-- Bytes of the capsule pool in use, in 4 KiB pages (06 R221). -/
def State.poolUsed (s : State) : Nat :=
  sumNat (s.nvme.cmds.map fun e => e.2.pool) +
    sumNat (s.nvme.inputs.flatMap fun e => e.2.map fun x => (x.cap.inLen + 4095) / 4096)

/-- The pool takes the in-capsule data that a SEND may carry. -/
def State.poolTakes (s : State) (p : RocePkt) : Bool :=
  let pages := match p.capsule with
    | some c => (c.inLen + 4095) / 4096
    | none => 4
  decide (s.poolUsed + pages ≤ 262144)

/-- RNR NAK with the timer of 3100h:06: syndrome 001b and the timer code. -/
def State.sendRnr (s : State) (i : Nat) : State := s.sendAeth i (s.qp i).ePsn (0x20 + s.ob 0x3100 6 % 32)

/-- Send a CNP for a packet marked CE (05 R180). -/
def State.answerCe (s : State) (i : Nat) (p : RocePkt) : State :=
  if p.ce = false then s
  else
    let s := s.bump 0x3111 0 3
    let q := s.qp i
    let free := match q.lastCnp with
      | some u => dueAt s.now u (s.ob 0x3111 2 * 1000)
      | none => true
    if s.ob 0x3111 1 = 1 ∧ free = true then
      ((s.setQp i { q with lastCnp := some s.now, cnpTx := satAdd q.cnpTx 1 }).bump 0x3111 0 4).sendPkt i { op := .cnp } false
    else s

/-- Count a packet toward coalescing, and acknowledge where it is time (05 R170). -/
def State.ackLater (s : State) (i : Nat) (asked : Bool) : State :=
  let q := s.qp i
  let q := { q with ackCount := q.ackCount + 1, ackSince := if q.ackSince.isNone then some s.now else q.ackSince }
  let s := s.setQp i q
  if asked ∨ s.ob 0x3100 2 ≤ q.ackCount then s.sendAck i else s

/-- First or only packet of a message; last or only. -/
def RoceOp.opens : RoceOp → Bool
  | .sendFirst | .sendOnly => true
  | _ => false

def RoceOp.closes : RoceOp → Bool
  | .sendLast | .sendOnly => true
  | _ => false

/-- Rows 3122h:0A to 0D for a SEND packet with the expected PSN: 0 where none applies. -/
def sendRow (q : Qp) (p : RocePkt) : Nat :=
  let sofar := if RoceOp.opens p.op then 0 else q.openBytes.getD 0
  if 16448 < sofar + p.payload then 0xA
  else if RoceOp.opens p.op && decide (q.bufs = 0) && q.openBytes.isNone then 0xB
  else if RoceOp.opens p.op != q.openBytes.isNone then 0xC
  else if q.mtu < p.payload ∨ (RoceOp.closes p.op = false ∧ (p.payload < q.mtu ∨ p.pad ≠ 0)) then 0xD
  else 0

/-- A packet of a twin queue pair's capsule goes to the peer, then the transport state; the acknowledgement waits until both
are confirmed (14 R487). -/
def State.tellCapsule (s : State) (i : Nat) (p : RocePkt) : State :=
  let q := s.qp i
  if s.mirrored q then
    let s := (s.sendRec .capsule (wireQpn i q) 0 (p.payload + 12) (.packet p))
    let n := s.nextRec
    (s.setQp i { s.qp i with ackHold := some n }).qpChanged i
  else s

/-- Execute a SEND packet with the expected PSN. -/
def State.execSend (s : State) (i : Nat) (p : RocePkt) : State :=
  let q := s.qp i
  let total := (if RoceOp.opens p.op then 0 else q.openBytes.getD 0) + p.payload
  let cap := match p.capsule with
    | some c => some c
    | none => if RoceOp.opens p.op then none else q.openCapsule
  if RoceOp.closes p.op then
    if total < 64 then
      let cond := 0x3270 * 256 + 2
      let s := (s.sendAeth i q.ePsn 0x61).bump 0x3270 0 2
      let s := match q.cntlid with
        | some k => s.hostViolation (s.ctrl k).hostRow (wireQpn i q) q.remoteIp cond
        | none => s.ipViolation q.remoteIp (wireQpn i q) q.tenant q.port cond
      s.qpDown i 7 p.psn 0x61
    else
      let q := { q with
        ePsn := q.ePsn + 1, nakSent := false, openBytes := none, openCapsule := none, bufs := q.bufs - 1, msn := (q.msn + 1) % 2 ^ 24 }
      (((s.setQp i q).deliverCapsule i (cap.getD {})).tellCapsule i p).ackLater i p.ackReq
  else
    let q := { q with ePsn := q.ePsn + 1, nakSent := false, openBytes := some total, openCapsule := cap }
    ((s.setQp i q).tellCapsule i p).ackLater i p.ackReq

/-- A SEND of a host (05 R169, R186 steps 4 and 5). One with the expected PSN ends the silence after a sequence NAK, and a valid one enters RTS
(R159). -/
def State.rxSend (s : State) (i : Nat) (p : RocePkt) : State :=
  let q := s.qp i
  if p.psn ≠ q.ePsn then
    if q.mtu < p.payload then s.nakFail i 0xD 0x61 p
    else if psnBehind p.psn q.ePsn then
      ((s.rowCount 0xF).setQp i { q with dups := satAdd q.dups 1 }).sendAck i
    else
      let s := s.rowCount 0xE
      if q.nakSent then s else (s.setQp i { q with nakSent := true }).sendAeth i q.ePsn 0x60
  else
    let s := s.setQp i { q with nakSent := false }
    let k := sendRow q p
    if k = 0xB then (s.sendRnr i).rowViol 0xB (some i) p
    else if k ≠ 0 then s.nakFail i k 0x61 p
    else
      let s := s.enterRts i
      if RoceOp.opens p.op && !s.poolTakes p then (s.sendRnr i).bump 0x3200 0 7 else s.execSend i p

/-! ### Acknowledgements (05 R172) -/

/-- The module has sent this PSN: it lies behind the next one, and not before the starting one. -/
def Qp.hasSent (q : Qp) (psn : Psn) : Bool := psnBehind psn q.nPsn && decide ((q.nPsn - psn).toNat ≤ q.psnUsed)

/-- Retire packets up to a PSN, acknowledged at time `t`; the commands whose responses are acknowledged are done. -/
def State.retireTo (s : State) (i : Nat) (psn : Psn) (t : Nat) : State :=
  let (s, done) := s.retire i psn t
  let s := (s.each done State.eraseCmd).qpChanged i
  -- a Disconnect whose response has arrived ends the queue pair (06 Table 4)
  if (s.qp i).ending.any done.contains then s.qpDown i 8 0 0 else s

/-- A failure that uses up a retry: retransmit from `psn`, or leave for the error state (05 R172). -/
def State.retryFrom (s : State) (i : Nat) (psn : Psn) (syndrome : Nat) : State :=
  let q := s.qp i
  if q.retries = 0 then s.qpDown i 1 psn syndrome
  else (s.setQp i { q with retries := q.retries - 1 }).retransmitFrom i psn

/-- An ACK. -/
def State.rxAck (s : State) (i : Nat) (p : RocePkt) (t : Nat) : State :=
  let q := s.qp i
  if q.hasSent p.psn then (s.retireTo i p.psn t).afterAck i else s.rowViol 0x10 (some i) p

/-- Time of an RNR timer code, in ns (IBTA; log entry 51). -/
def rnrTime (code : Nat) : Nat :=
  10000 * [65536, 1, 2, 3, 4, 6, 8, 12, 16, 24, 32, 48, 64, 96, 128, 192, 256, 384, 512, 768, 1024, 1536, 2048, 3072, 4096,
    6144, 8192, 12288, 16384, 24576, 32768, 49152].getD (code % 32) 1

/-- An RNR NAK: wait its timer; a count of 7 is unlimited but for the wall time. -/
def State.rxRnr (s : State) (i : Nat) (p : RocePkt) (t : Nat) : State :=
  let s := s.retireTo i (p.psn - 1) t
  let q := s.qp i
  if q.rnrCount ≠ 7 ∧ q.rnrRetries = 0 then s.qpDown i 2 p.psn p.syndrome
  else
    let first := match q.rnrFirst with
      | some (n, u) => if n = p.psn.toNat then (n, u) else (p.psn.toNat, s.now)
      | none => (p.psn.toNat, s.now)
    s.setQp i { q with
      rnrRetries := if q.rnrCount = 7 then 7 else q.rnrRetries - 1, rnrUntil := some (s.now + rnrTime p.syndrome)
      rnrFirst := some first, ackTimer := none }

/-- A NAK, by its syndrome. -/
def State.rxNak (s : State) (i : Nat) (p : RocePkt) (t : Nat) : State :=
  let q := s.qp i
  if q.hasSent p.psn = false then s.rowViol 0x10 (some i) p
  else
    let s := s.setQp i { q with nakRx := satAdd q.nakRx 1 }
    if p.syndrome / 32 = 1 then s.rxRnr i p t
    else if p.syndrome = 0x60 then ((s.retireTo i (p.psn - 1) t).retryFrom i p.psn 0x60).afterAck i
    else if p.syndrome = 0x61 then s.qpDown i 5 p.psn 0x61
    else if p.syndrome = 0x62 then s.qpDown i 3 p.psn 0x62
    else if p.syndrome = 0x63 then s.qpDown i 4 p.psn 0x63
    else (s.rowViol 0x13 (some i) p).qpDown i 11 p.psn p.syndrome

/-! ### READ responses (05 R172, R174, R175) -/

/-- The outstanding READ that a response PSN belongs to. -/
def Qp.readOf (q : Qp) (psn : Psn) : Option ReadReq :=
  q.reads.find? fun r => decide ((psn - r.psn).toNat < packetsOf r.len q.mtu)

/-- The response packet's length and opcode are those of its place in the READ. -/
def respFits (q : Qp) (r : ReadReq) (k : Nat) (p : RocePkt) : Bool :=
  let n := packetsOf r.len q.mtu
  let last := decide (k + 1 = n)
  let op := match p.op with
    | .readRespOnly => decide (n = 1)
    | .readRespFirst => decide (k = 0 ∧ 1 < n)
    | .readRespMiddle => decide (0 < k) && !last
    | .readRespLast => decide (0 < k) && last
    | _ => false
  op && decide (p.payload = if last then r.len - (n - 1) * q.mtu else q.mtu)

/-- An in-order response lands; an earlier packet is retired by it. -/
def State.landResp (s : State) (i : Nat) (r : ReadReq) (p : RocePkt) (t : Nat) : State :=
  let s := s.retireTo i (r.psn - 1) t
  let q := s.qp i
  let got := r.got + p.payload
  let reads := if r.len ≤ got then q.reads.filter fun x => decide (x.psn ≠ r.psn)
    else q.reads.map fun x => if x.psn = r.psn then { x with got := got, most := max x.most got, dropping := false } else x
  let q := s.progress { q with reads := reads }
  let q := if r.got = 0 ∧ r.retx = false then s.onRtt q (((t - r.at_ : Nat) : Rat) / 1000) r.len else q
  ((s.setQp i q).bringData r.cmd (r.off + r.got) p.payload p.data).afterAck i

/-- An RDMA READ response. Once one arrives beyond the next expected, the READ is sent again, and every response before the first of the
repeated ones is discarded (05 R172). -/
def State.rxResponse (s : State) (i : Nat) (p : RocePkt) (t : Nat) : State :=
  let q := s.qp i
  match q.readOf p.psn with
  | none => s.rowViol 0x11 (some i) p
  | some r =>
    let k := (p.psn - r.psn).toNat
    let next := r.got / max 1 q.mtu
    if k < next ∨ (r.dropping ∧ k ≠ next) then s
    else if next < k then s.retryFrom i r.psn 0
    else if respFits q r k p then s.landResp i r p t
    else (s.rowViol 0x12 (some i) p).qpDown i 6 p.psn 0

/-- A CNP (05 R181). -/
def State.rxCnp (s : State) (i : Nat) : State :=
  let q := s.qp i
  if q.state = 2 then s.setQp i { s.onCnp q with cnpRx := satAdd q.cnpRx 1 }
  else s.rowCount 0x14

/-! ### Reception (05 R186) -/

/-- A packet of a queue pair whose context is resident, past row 3122h:04, that arrived at its port at time `t`. -/
def State.rxResident (s : State) (i : Nat) (p : RocePkt) (t : Nat) : State :=
  let q := s.qp i
  if q.state ≠ 1 ∧ q.state ≠ 2 then s.rowCount 5
  else if p.srcIp ≠ q.remoteIp ∨ p.port ≠ q.port ∨ p.ifRow ≠ q.ifRow then s.rowViol 6 (some i) p
  else if p.pkey ≠ q.pkey then s.rowViol 7 (some i) p
  else
    let ts := s.ptpNow - (p.frameLen * 8 / max 1 (s.rate p.port) : Nat)
    let s := (s.setQp i { q with rxCount := satAdd q.rxCount 1 }).meterAddAt ts q.tenant 9 p.frameLen
    let s := s.answerCe i p
    match p.op with
    | .writeFirst | .writeMiddle | .writeLast | .writeOnly | .rdmaReadRequest => s.nakFail i 8 0x62 p
    | .atomic | .immediate | .sendInvalidate => s.nakFail i 9 0x61 p
    | .sendFirst | .sendMiddle | .sendLast | .sendOnly => s.rxSend i p
    | .acknowledge => if p.syndrome < 32 then s.rxAck i p t else s.rxNak i p t
    | .readRespFirst | .readRespMiddle | .readRespLast | .readRespOnly => s.rxResponse i p t
    | .cnp => s.rxCnp i
    | .other => s

/-- Hold a packet of a parked queue pair (05 R166). Where it fills the slice's hold store, the slice begins to withhold credits (R167), and
the event tells of the discards since the previous one, at most once per second (log entry 52). -/
def State.holdPkt (s : State) (i : Nat) (p : RocePkt) : State :=
  let sl := sliceOf i
  let before := s.holdFull sl
  let q := s.qp i
  let s := (s.setQp i { q with held := q.held ++ [(s.now, p)] }).bump 0x3120 sl 7
  let (old, since) := match Tbl.find? s.rdma.holdEvents sl with
    | some (u, n) => (dueAt s.now u sNs, s.o 0x3120 sl 0xA - n)
    | none => (true, s.o 0x3120 sl 0xA)
  if !before && s.holdFull sl && old then
    { s with rdma := { s.rdma with holdEvents := Tbl.set s.rdma.holdEvents sl (s.now, s.o 0x3120 sl 0xA) } }.raise .holdStoreFull
      [wireQpn i q, q.tenant, q.remoteIp, q.port, sl, since]
  else s

/-- A parking whose commit comes at this very moment has committed before a packet that meets it (05 R189): PARKING_COMMIT of the queue pair
waits in the queue with no later time. -/
def State.commitsNow (s : State) (i : Nat) : Bool :=
  decide ((s.qp i).loc = 2) && s.pending.any fun c => match c with
    | .parkingCommit t j => decide (j = i ∧ t ≤ s.now)
    | _ => false

/-- The commit of a parking: the location flips to parked in one step (05 R164). A pinned context is never parked (R162). -/
def State.commitParking (s : State) (i : Nat) : State :=
  let q := s.qp i
  if q.loc = 2 ∧ q.pin = false then (s.setQp i { q with loc := 1, parkStart := none }).bump 0x3120 (sliceOf i) 4 else s

/-- A RoCEv2 packet arrives. -/
def State.receive (s : State) (p : RocePkt) : State :=
  if s.portServes p.port = false then s
  else if p.stomped then s.bump 0x2103 (8 + sliceOf p.destQp) 7
  else if p.icrcOk = false then s.bump 0x3122 0 2
  else if p.destQp = 1 then (if p.madOk then s else s.rowViol 0x15 none p)
  else if p.tver ≠ 0 ∨ p.op = .other then s.bump 0x3122 0 3
  else
    match s.qpnIndex p.destQp with
    | none => s.bump 0x3122 0 4
    | some i =>
      let s := if s.commitsNow i then s.commitParking i else s
      let s := (s.touch i).perf (412 + sliceOf i) 1
      if (s.qp i).loc = 0 then s.rxResident i p s.now else s.holdPkt i p

/-- ROCE_REQUEST_PACKET. -/
def roceRequestPacket (p : RocePkt) (s : State) : State := s.receive p

def execRoceRequestPacket (t : Nat) (pkt : RocePkt) (s : State) : Res := act t (isPort pkt.port) s (roceRequestPacket pkt)

/-- ROCE_ACK. -/
def roceAck (p : RocePkt) (s : State) : State := s.receive p

def execRoceAck (t : Nat) (pkt : RocePkt) (s : State) : Res := act t (isPort pkt.port) s (roceAck pkt)

/-- ROCE_NAK. -/
def roceNak (p : RocePkt) (s : State) : State := s.receive p

def execRoceNak (t : Nat) (pkt : RocePkt) (s : State) : Res := act t (isPort pkt.port) s (roceNak pkt)

/-- RDMA_READ_RESPONSE. -/
def rdmaReadResponse (p : RocePkt) (s : State) : State := s.receive p

def execRdmaReadResponse (t : Nat) (pkt : RocePkt) (s : State) : Res := act t (isPort pkt.port) s (rdmaReadResponse pkt)

/-- CNP_RECEIVED. -/
def cnpReceived (p : RocePkt) (s : State) : State := s.receive p

def execCnpReceived (t : Nat) (pkt : RocePkt) (s : State) : Res := act t (isPort pkt.port) s (cnpReceived pkt)

/-! ### Timers (05 R168, R172, R176, R185) -/

/-- The local ACK timer has run out, and its queue pair is resident. -/
def State.ackExpired (s : State) (i : Nat) : State :=
  let q := s.qp i
  match q.ackTimer with
  | some u =>
    if dueAt s.now u s.ackTimeout && q.waiting && q.rnrUntil.isNone then s.retryFrom i q.oldestPsn 0 else s
  | none => s

/-- The timer of an RNR NAK has run out, and its queue pair is resident: retransmit from its PSN. -/
def State.rnrExpired (s : State) (i : Nat) : State :=
  let q := s.qp i
  match q.rnrUntil, q.rnrFirst with
  | some u, some (n, _) =>
    if u ≤ s.now then ((s.setQp i { q with rnrUntil := none }).retransmitFrom i (BitVec.ofNat 24 n)).pumpAll i else s
  | _, _ => s

/-- Whether one of the two timers has run out. -/
def State.timerDue (s : State) (q : Qp) : Bool :=
  (match q.ackTimer with | some u => dueAt s.now u s.ackTimeout | none => false) ||
    (match q.rnrUntil with | some u => decide (u ≤ s.now) | none => false)

/-- An expiry for a queue pair: one that is not resident is refetched first (05 R165, R168). -/
def State.expire (s : State) (i : Nat) (f : State → State) : State :=
  if s.timerDue (s.qp i) && decide ((s.qp i).state = 2) then
    let s := s.touch i
    if (s.qp i).loc = 0 then f s else s
  else s

/-- LOCAL_ACK_TIMEOUT. -/
def localAckTimeout (i : Nat) (s : State) : State := s.expire i fun s => s.ackExpired i

def execLocalAckTimeout (t idx : Nat) (s : State) : Res := act t (isQpIndex idx) s (localAckTimeout idx)

/-- RNR_TIMER_EXPIRY. -/
def rnrTimerExpiry (i : Nat) (s : State) : State := s.expire i fun s => s.rnrExpired i

def execRnrTimerExpiry (t idx : Nat) (s : State) : Res := act t (isQpIndex idx) s (rnrTimerExpiry idx)

/-- RNR NAKs for one PSN have lasted for 3100h:0D, and the queue pair is resident. -/
def State.wallExpired (s : State) (i : Nat) : State :=
  match (s.qp i).rnrFirst with
  | some (n, u) => if dueAt s.now u (s.ob 0x3100 0xD * sNs) then s.qpDown i 2 (BitVec.ofNat 24 n) 0 else s
  | none => s

/-- RNR_WALL_TIME_EXPIRY: it aborts a parking, and a parked context is refetched before it takes effect (05 R165, R168). -/
def rnrWallTimeExpiry (i : Nat) (s : State) : State :=
  match (s.qp i).rnrFirst with
  | some (_, u) =>
    if dueAt s.now u (s.ob 0x3100 0xD * sNs) then
      let s := s.touch i
      if (s.qp i).loc = 0 then s.wallExpired i else s
    else s
  | none => s

def execRnrWallTimeExpiry (t idx : Nat) (s : State) : Res := act t (isQpIndex idx) s (rnrWallTimeExpiry idx)

/-- ALPHA_TIMER_EXPIRY: it aborts a parking (05 R165); the timer of a parked queue pair runs in the slice and needs no refetch (R168). -/
def alphaTimerExpiry (i : Nat) (s : State) : State :=
  let q := s.qp i
  if (q.state = 1 ∨ q.state = 2) ∧ dueAt s.now q.alphaAt (s.ob 0x3110 9 * 1000) = true then
    let s := if q.loc = 2 then s.touch i else s
    s.setQp i { s.qp i with alpha := binary32 ((1 - (s.ob 0x3110 8 : Rat) / 256) * q.alpha), alphaAt := s.now }
  else s

def execAlphaTimerExpiry (t idx : Nat) (s : State) : Res := act t (isQpIndex idx) s (alphaTimerExpiry idx)

/-- WINDOW_AT_FLOOR: the window has stood at its floor for 1 s. -/
def windowAtFloor (i : Nat) (s : State) : State :=
  let q := s.qp i
  match q.floorSince with
  | some u =>
    if dueAt s.now u sNs && !q.floorEvent then
      (s.setQp i { q with floorEvent := true }).raise .windowAtFloor 
        [wireQpn i q, q.tenant, q.remoteIp, q.port, q.window, real32 q.alpha, real32 (q.srtt.getD 0)]
    else s
  | none => s

def execWindowAtFloor (t idx : Nat) (s : State) : Res := act t (isQpIndex idx) s (windowAtFloor idx)

/-! ### Parking (05 R163 to R166) -/

/-- Contexts of a slice that take a resident slot. -/
def State.residentIn (s : State) (sl : Nat) : Nat :=
  (s.rdma.qps.filter fun e => decide (sliceOf e.1 = sl ∧ e.2.loc ≠ 1)).length

/-- A frame of the queue pair stands in its egress queue or on the line. -/
def State.transmitting (s : State) (i : Nat) (q : Qp) : Bool :=
  let mine (f : EgFrame) : Bool := match f.msg with
    | .roce j _ => decide (j = i)
    | _ => false
  let e := s.eg q.port
  (Tbl.get [] e.queues (queueKey q.cls q.tenant)).any mine || (match e.onLine with | some f => mine f | none => false)

/-- A context that the sweep may take. -/
def State.parkable (s : State) (i : Nat) (q : Qp) : Bool :=
  decide (q.loc = 0) && !q.pin && !s.transmitting i q && dueAt s.now q.residentSince (s.ob 0x3100 0xA * 1000)

/-- The clock sweep from the hand: the candidates in order; each loses its reference bit until one has none. -/
def State.sweep (s : State) : List Nat → List Nat → Option Nat × List Nat
  | [], seen => (none, seen)
  | i :: r, seen => if (s.qp i).ref && !seen.contains i then s.sweep r (i :: seen) else (some i, seen)

/-- PARKING_START: a slice short of its refetch reserve chooses a victim. -/
def parkingStart (sl : Nat) (s : State) : State :=
  if s.residentIn sl + s.ob 0x3100 9 ≤ 4096 then s
  else
    let hand := Tbl.get 0 s.rdma.hands sl
    let cand := (s.rdma.qps.filter fun e => decide (sliceOf e.1 = sl) && s.parkable e.1 e.2).map Prod.fst
    let order := (cand.filter fun i => decide (hand ≤ i)) ++ (cand.filter fun i => decide (i < hand))
    match s.sweep (order ++ order) [] with
    | (some v, seen) =>
      let s := s.each seen fun s i => s.setQp i { s.qp i with ref := false }
      let s := s.setQp v { s.qp v with loc := 2, parkStart := some s.now }
      { s with rdma := { s.rdma with hands := Tbl.set s.rdma.hands sl (v + 4) } }
    | (none, _) => s.bump 0x3120 sl 9

def execParkingStart (t slice : Nat) (s : State) : Res := act t (isSlice slice) s (parkingStart slice)

/-- PARKING_COMMIT. -/
def parkingCommit (i : Nat) (s : State) : State := s.commitParking i

def execParkingCommit (t idx : Nat) (s : State) : Res := act t (isQpIndex idx) s (parkingCommit idx)

/-- CONTEXT_REFETCH_COMPLETE: the held packets are processed in arrival order, then what waited to be sent and timers
that ran out meanwhile take effect. -/
def contextRefetchComplete (i : Nat) (s : State) : State :=
  let q := s.qp i
  if q.loc = 3 then
    let sl := sliceOf i
    let longest := maxNat (q.held.map fun h => s.now - h.1)
    let s := s.setQp i { q with loc := 0, parkStart := none, residentSince := s.now, held := [] }
    let s := s.put 0x3120 sl 8 (max (s.o 0x3120 sl 8) longest)
    let s := s.each q.held fun s h => s.rxResident i h.2 h.1
    let s := if (s.qp i).state = 1 ∨ (s.qp i).state = 2 then s.ackWaited i else s
    if (s.qp i).state = 2 then (((s.wallExpired i).ackExpired i).rnrExpired i).pumpAll i else s
  else s

def execContextRefetchComplete (t idx : Nat) (s : State) : Res := act t (isQpIndex idx) s (contextRefetchComplete idx)

/-! ### Commits of 3101h (05 R162, R179, R190) -/

/-- A pin that the slice cannot take. -/
def State.pinRefused (s : State) (st : Stage) : Bool :=
  decide (st.n 5 = 1) && !(s.qp st.row).pin && decide (s.ob 0x3100 8 ≤ s.pinnedIn (sliceOf st.row))

/-- Commit of 3101h: the queue pair exists, a Class 0 one stays pinned, the slice has a pin left. -/
def qpCode (_ : Session) (st : Stage) (s : State) : Abort :=
  let q := s.qp st.row
  firstCode [need (Tbl.has s.rdma.qps st.row) abState, need (decide (st.n 5 = 1 ∨ q.cls ≠ 0)) abState, need (!s.pinRefused st) abState]

/-- Pin, window pin and forced error apply together. A context that is being parked or is parked when it is pinned becomes resident (05 R162; log
entry 147). -/
def applyQp (st : Stage) (_ u : State) : State :=
  let i := st.row
  let q := u.qp i
  let q := { q with pin := decide (st.n 5 = 1), windowPin := st.n 0x28 }
  let u := u.setQp i (u.setWindow q (q.window : Nat))
  let u := if st.n 5 = 1 ∧ st.n 0x27 ≠ 1 ∧ q.loc ≠ 0 then u.touch i else u
  if st.n 0x27 = 1 then u.qpDown i 10 0 0 else if q.state = 2 ∧ q.loc = 0 then u.pumpAll i else u

/-- A commit of 3101h; a refused pin raises its event. -/
def State.commitQp (s : State) (sess : Nat) : State :=
  let u := s.commitAs sess 0x3101 1 qpCode applyQp
  match s.session? sess with
  | some x =>
    let st := s.stage x 0x3101
    let q := s.qp st.row
    if Tbl.has s.rdma.qps st.row && s.pinRefused st && decide (firstCode (s.commitCodes x 0x3101 1 st) = 0) then
      u.raise .pinCapacity [wireQpn st.row q, q.tenant, q.remoteIp, q.port, sliceOf st.row]
    else u
  | none => u

/-- QP_PIN_COMMIT. -/
def qpPinCommit (sess : Nat) (s : State) : State := s.commitQp sess

def execQpPinCommit (t sess : Nat) (s : State) : Res := act t true s (qpPinCommit sess)

/-- QP_WINDOW_PIN_COMMIT. -/
def qpWindowPinCommit (sess : Nat) (s : State) : State := s.commitQp sess

def execQpWindowPinCommit (t sess : Nat) (s : State) : Res := act t true s (qpWindowPinCommit sess)

/-- QP_FORCE_ERROR. -/
def qpForceError (sess : Nat) (s : State) : State := s.commitQp sess

def execQpForceError (t sess : Nat) (s : State) : Res := act t true s (qpForceError sess)

end Sys2Proof.Machine
end

