-- ==== Sys2Proof/Machine/NearPorts.lean ====
section
/-! DEFINITION. Near ports (12): link and resets, configuration space, VFs as NVMe controllers, inbound windows, the requests of
the module toward a near host, and near-host misbehaviour. -/

namespace Sys2Proof.Machine

/-- A near port, and a VF number. -/
def isNp (p : Nat) : Bool := decide (p < 2)
def isVf (v : Nat) : Bool := decide (1 ≤ v ∧ v ≤ 64)

/-- Row of 5301h and 5302h of a VF. -/
def vfRow (p v : Nat) : Nat := p * 64 + v - 1

/-! ### AER and fatal status -/

/-- Log an uncorrectable error in PF0's AER and raise PF0 vector 2 (12 R427). Kinds: 0 Poisoned TLP Received, 1 Completion
Timeout, 2 Unexpected Completion, 3 Malformed TLP. -/
def State.logAer (s : State) (p kind func : Nat) : State :=
  let n := s.nport p
  (s.setNport p { n with aer := (kind, func) :: n.aer }).pfInterrupt p 2

/-- CSTS.CFS of a VF is set. -/
def State.vfFatal (s : State) (p v : Nat) : State := s.setVf p v { s.vf p v with cfs := true }

/-! ### Ending a VF's commands (R431, R432) -/

/-- Treat every command of a VF as 05 R182 does. -/
def State.endVfCmds (s : State) (p v : Nat) : State :=
  let mine (q : Option (Nat × Nat × Nat)) : Bool :=
    match q with
    | some (a, b, _) => decide (a = p ∧ b = v)
    | none => false
  let ids := (s.nvme.cmds.filter fun e => mine e.2.vf).map Prod.fst
  let s := s.each ids State.endCmd
  { s with nvme := { s.nvme with inputs := s.nvme.inputs.map fun e => (e.1, e.2.filter fun x => !mine x.vf) } }

/-- Orphan the outstanding tags of a function; its waiting requests are dropped. -/
def State.orphan (s : State) (p func : Nat) : State :=
  let s := s.npForget p fun w => decide (w.func = func)
  let n := s.nport p
  (s.setNport p { n with
    tags := n.tags.map fun e =>
      if e.2.func = func ∧ e.2.quarantined = false then (e.1, { e.2 with orphaned := true }) else e }).syncTags p

/-- The VF has requests outstanding. -/
def State.vfBusy (s : State) (p v : Nat) : Bool :=
  (s.nport p).tags.any (fun e => decide (e.2.func = v) && !e.2.orphaned) || (s.nport p).waits.any (fun w => decide (w.func = v)) ||
    s.nvme.cmds.any fun e => match e.2.vf with
      | some (a, b, _) => decide (a = p ∧ b = v)
      | none => false

/-- Bus Master Enable of a VF is cleared (R431). -/
def busMasterClear (p v : Nat) (s : State) : State :=
  if (s.vf p v).bme = false then s
  else
    let busy := s.vfBusy p v
    let s := s.setVf p v { s.vf p v with bme := false }
    if busy then ((s.orphan p v).vfFatal p v).endVfCmds p v else s

def execVfBusMasterClear (t port vf : Nat) (s : State) : Res := act t (isNp port && isVf vf) s (busMasterClear port vf)

/-- The controller of a VF is gone. -/
def State.dropVfCtrl (s : State) (p v : Nat) : State :=
  { s with nvme := { s.nvme with ctrls := Tbl.erase s.nvme.ctrls (s.vfCtrl p v) } }

/-- What an FLR does to a VF (R432, Table 9): tags orphaned, commands ended, the function at its reset values. -/
def State.resetVf (s : State) (p v : Nat) : State :=
  let s := ((s.orphan p v).endVfCmds p v).dropVfCtrl p v
  s.setVf p v { violations := (s.vf p v).violations }

/-- VF_FLR. -/
def vfFlr (p v : Nat) (s : State) : State := (s.resetVf p v).bump 0x5303 p 0xB

def execVfFlr (t port vf : Nat) (s : State) : Res := act t (isNp port && isVf vf) s (vfFlr port vf)

/-- An FLR of every VF of a port. -/
def State.resetVfs (s : State) (p : Nat) : State := s.each ((List.range 64).map fun k => k + 1) fun s v => s.resetVf p v

/-- NumVFs and VF Enable as 5303h:05 shows them. -/
def State.setVfEnable (s : State) (p : Nat) (on : Bool) (n : Nat) : State :=
  (s.setNport p { s.nport p with vfEnable := on, numVfs := n }).put 0x5303 p 5 ((if on then 256 else 0) + n)

/-- VF_ENABLE_CLEAR: acts as an FLR of every VF. -/
def vfEnableClear (p : Nat) (s : State) : State :=
  if (s.nport p).vfEnable then (s.resetVfs p).setVfEnable p false (s.nport p).numVfs else s

def execVfEnableClear (t port : Nat) (s : State) : Res := act t (isNp port) s (vfEnableClear port)

/-- The mailbox request in progress is abandoned and the session of the window ends (R432). -/
def State.endWindow (s : State) (p : Nat) : State :=
  let s := { s with sess := { s.sess with tbl := Tbl.erase s.sess.tbl (2 + p) }
                    rings := Tbl.set s.rings p {} }
  s.setNport p { s.nport p with mailbox := {}, spdm := {} }

/-- PF0 and every VF of the port at their reset values. -/
def State.resetPort (s : State) (p : Nat) : State :=
  let s := ((s.haltThrough p).resetVfs p).orphan p 0 |>.endWindow p
  let n := s.nport p
  let n := { n with
    bme := false, memEnable := false, d3 := false, tag10 := false, ctoRange := 0, devCtl := 0x2810, aer := []
    bar0 := 0, bar2 := 0, vfBar := 0, vfMse := false }
  (s.setNport p n).setVfEnable p false 0

/-- PF0_FLR. -/
def pf0Flr (p : Nat) (s : State) : State := (s.resetPort p).bump 0x5303 p 0xB

def execPf0Flr (t port : Nat) (s : State) : Res := act t (isNp port) s (pf0Flr port)

/-! ### Link and reset (R405 to R408, R432) -/

/-- The committed settings of 5300h come into force. -/
def State.takeNpSettings (s : State) (p : Nat) : State :=
  s.setNport p { s.nport p with cfg :=
    { enable := decide (s.o 0x5300 p 2 = 1), maxRate := s.o 0x5300 p 3, clock := s.o 0x5300 p 4
      svid := s.o 0x5300 p 5, ssid := s.o 0x5300 p 6, bar2 := s.o 0x5300 p 7 } }

/-- The link leaves: Detect while in reset or disabled, else training. -/
def State.npLinkGone (s : State) (p : Nat) : State :=
  let s := s.takeNpSettings p
  let n := s.nport p
  let train := !n.perst && n.cfg.enable && !s.inputFaulty 2 p
  let s := s.setNport p { n with linkUp := false, training := if train then some s.now else none, width := 0, rate := 0 }
  ((s.put 0x5303 p 2 (if train then 1 else 0)).put 0x5303 p 3 0).put 0x5303 p 4 0

/-- The reset input of a port while the module boots: its level, and training where the port is enabled (R407). -/
def npPerstPin (p : Nat) (reset : Bool) (s : State) : State :=
  let n := s.nport p
  let train := !reset && n.cfg.enable && s.pwr.good
  s.setNport p { n with perst := reset, linkUp := false, training := if train then some s.now else none, width := 0, rate := 0 }

/-- NP_PERST_DEASSERT: an enabled port starts training (R407, R408). -/
def npPerstDeassert (p : Nat) (s : State) : State :=
  if (s.nport p).perst then
    let s := s.inputChange (perstLine p) 2 p 16 sNs
    (s.setNport p { s.nport p with perst := false }).npLinkGone p
  else s

def execNpPerstDeassert (t port : Nat) (s : State) : Res := actPin t (isNp port) s (npPerstPin port false) (npPerstDeassert port)

/-- The link comes up. -/
def State.npTrained (s : State) (p width rate : Nat) : State :=
  s.setNport p { s.nport p with linkUp := true, training := none, width := width, rate := rate }

/-- What 5303h shows of a link that is up; fewer than eight lanes or less than the highest rate allowed raise an event (R405). -/
def State.npShowLink (s : State) (p : Nat) : State :=
  let n := s.nport p
  let s := ((s.put 0x5303 p 2 2).put 0x5303 p 3 n.width).put 0x5303 p 4 n.rate
  if n.width < 8 ∨ n.rate < n.cfg.maxRate then s.raise .nearPortDegraded [p, n.width, n.rate] else s

/-- FLIT mode is in use at 64 GT/s (R405). -/
def NearPort.flit (n : NearPort) : Bool := n.linkUp && decide (n.rate = 64)

/-- NEAR_PORT_LINK_UP: width and rate are reported; fewer than eight lanes or less than the highest rate allowed raise an
event (R405). -/
def nearPortLinkUp (p width rate : Nat) (s : State) : State :=
  if (s.nport p).training.isSome then (s.npTrained p width rate).npShowLink p else s

def execNearPortLinkUp (t port width rate : Nat) (s : State) : Res :=
  actPin t (isNp port && decide (1 ≤ width ∧ width ≤ 8) && [16, 32, 64].contains rate) s
    (fun u => u.when (u.nport port).training.isSome fun u => u.npTrained port width rate) (nearPortLinkUp port width rate)

/-- NP_RESET: a hot reset, an assertion of the reset input or a link down (R432). -/
def npReset (p : Nat) (kind : NpResetKind) (s : State) : State :=
  match kind with
  | .hotReset => if (s.nport p).linkUp then s.resetPort p else s
  | .perstAssert =>
    if (s.nport p).perst then s
    else
      let s := (s.inputChange (perstLine p) 2 p 16 sNs).resetPort p
      (s.setNport p { s.nport p with perst := true }).npLinkGone p
  | .linkDown => if (s.nport p).linkUp then (s.resetPort p).npLinkGone p else s

def execNpReset (t port : Nat) (kind : NpResetKind) (s : State) : Res :=
  actPin t (isNp port) s (if kind = .perstAssert then npPerstPin port true else id) (npReset port kind)

/-! ### Configuration space (R409 to R411, R420) -/

/-- The header of a capability: the identifier that PCIe Base 6.0 gives it, and the next offset (log entry 167). -/
def capHeader (id next : Nat) : Nat := next * 256 + id

/-- The header of an extended capability: identifier, version (left open) and next offset. -/
def extHeader (func offset id next : Nat) : Nat := next * 2 ^ 20 + Config.pcieField func offset / 65536 % 16 * 65536 + id

/-- Message Control of MSI-X with the header of the capability. -/
def Msix.control (m : Msix) (size next : Nat) : Nat :=
  (if m.on then 2 ^ 31 else 0) + (if m.mask then 2 ^ 30 else 0) + (size - 1) * 65536 + capHeader 0x11 next

/-- The capability chain (12 Table 2) as configuration space shows it; `none` where another field stands. -/
def State.capRead (s : State) (p func offset : Nat) : Option Nat :=
  let pf := decide (func = 0)
  let n := s.nport p
  let m := if pf then (Tbl.get {} s.rings p).msix else (s.vf p func).msix
  match offset with
  | 0x40 => if pf then some (3 * 65536 + capHeader 1 0x48) else none
  | 0x44 => if pf then some (8 + (if n.d3 then 3 else 0)) else none
  | 0x48 => some (m.control (if pf then 8 else 129) 0x60)
  | 0x4C => some (if pf then 0x4000 else 0x2000)
  | 0x50 => some (if pf then 0x5000 else 0x3000)
  | 0x60 => some (2 * 65536 + capHeader 0x10 0)
  | 0x64 => some (setBit (Config.pcieField func offset % 2 ^ 28) 28)
  | 0x68 => if pf then some (Config.pcieField func offset % 2 ^ 32 / 65536 * 65536 + n.devCtl) else none
  | 0x84 => some (Config.pcieField func offset % 2 ^ 32 / 2 ^ 18 * 2 ^ 18 + 3 * 65536 +
      Config.pcieField func offset % 65536 / 32 * 32 + (if pf then 7 else 0))
  | 0x88 => if pf then some ((if n.tag10 then 4096 else 0) + n.ctoRange) else none
  | 0x100 => some (if pf then extHeader func offset 1 0x148 else extHeader func offset 0xE 0)
  | 0x148 => if pf then some (extHeader func offset 0xE 0x150) else none
  | 0x150 => if pf then some (extHeader func offset 0x10 0x190) else none
  | 0x190 => if pf then some (extHeader func offset 0x19 0x1B0) else none
  | 0x1B0 => if pf then some (extHeader func offset 0x25 0x1C0) else none
  | 0x1C0 => if pf then some (extHeader func offset 0x26 0x1F0) else none
  | 0x1F0 => if pf then some (extHeader func offset 0x2A 0x220) else none
  | 0x220 => if pf then some (extHeader func offset 0x31 0x240) else none
  | 0x240 => if pf then some (extHeader func offset 0x27 0x270) else none
  | 0x270 => if pf then some (extHeader func offset 0x2E 0x290) else none
  | 0x290 => if pf then some (extHeader func offset 3 0x2A0) else none
  | 0x2A0 => if pf then some (extHeader func offset 0xB 0) else none
  | 0x2A4 => if pf then some (Config.pcieField func offset % 2 ^ 32 / 2 ^ 20 * 2 ^ 20 + 65536 + 1) else none
  | _ => none

/-- A 64-bit BAR with its type bits: 4 for 64-bit memory, 8 more where it is prefetchable (R420). -/
def barDword (base bits : Nat) (high : Bool) : Nat := if high then base / 2 ^ 32 else base % 2 ^ 32 + bits

/-- A dword of configuration space of PF0 (`func` 0) or a VF. -/
def State.configRead (s : State) (p func offset : Nat) : Nat :=
  let n := s.nport p
  let pf := decide (func = 0)
  let x := s.vf p func
  match offset with
  | 0x00 => if pf then 0x32241F3C else 0xFFFFFFFF
  | 0x04 => if pf then (if n.memEnable then 2 else 0) + (if n.bme then 4 else 0) + 2 ^ 20 else (if x.bme then 4 else 0) + 2 ^ 20
  | 0x08 => if pf then 0x08800001 else 0x01080201
  | 0x0C => 0
  | 0x10 => if pf then barDword n.bar0 4 false else 0
  | 0x14 => if pf then barDword n.bar0 4 true else 0
  | 0x18 => if pf && decide (n.cfg.bar2 ≠ 0) then barDword n.bar2 12 false else 0
  | 0x1C => if pf && decide (n.cfg.bar2 ≠ 0) then barDword n.bar2 12 true else 0
  | 0x20 => 0
  | 0x24 => 0
  | 0x2C => n.cfg.ssid * 65536 + n.cfg.svid
  | 0x34 => if pf then 0x40 else 0x48
  | 0x3C => 0
  | 0x158 => if pf then (if n.vfEnable then 1 else 0) + (if n.vfMse then 8 else 0) else 0
  | 0x15C => if pf then 64 * 65536 + 64 else 0
  | 0x160 => if pf then n.numVfs else 0
  | 0x164 => if pf then 65537 else 0
  | 0x168 => if pf then 0x32250000 else 0
  | 0x174 => if pf then barDword n.vfBar 4 false else 0
  | 0x178 => if pf then barDword n.vfBar 4 true else 0
  | 0x294 => if pf then s.ob 0x1018 4 else 0
  | 0x298 => 0
  | _ => (s.capRead p func offset).getD (Config.pcieField func offset % 2 ^ 32)

/-- Bus Master Enable of PF0 is cleared: the operator entries refuse, and the copy jobs through them meet an address
error (R432). -/
def State.setPf0Bme (s : State) (p : Nat) (on : Bool) : State :=
  let was := (s.nport p).bme
  let s := s.setNport p { s.nport p with bme := on }
  if was && !on then s.haltThrough p else s

/-- Pending vectors of a function leave as far as they may. -/
def State.releaseMsix (s : State) (p func : Nat) : State :=
  if func = 0 then
    let r := Tbl.get {} s.rings p
    let y := r.msix.release (s.nport p).bme
    ({ s with rings := Tbl.set s.rings p { r with msix := y.1 } } : State).each y.2.reverse fun s v =>
      s.emit (.msix p v (r.msix.message v).1 (r.msix.message v).2)
  else
    let x := s.vf p func
    let y := x.msix.release x.bme
    (s.setVf p func { x with msix := y.1 }).each y.2.reverse fun s v =>
      s.emit (.npMsix p func v (x.msix.message v).1 (x.msix.message v).2)

/-- Change MSI-X of a function; what was pending leaves as far as it may now. -/
def State.modMsix (s : State) (p func : Nat) (f : Msix → Msix) : State :=
  let s : State := if func = 0 then
      let r := Tbl.get {} s.rings p
      { s with rings := Tbl.set s.rings p { r with msix := f r.msix } }
    else s.setVf p func { s.vf p func with msix := f (s.vf p func).msix }
  s.releaseMsix p func

/-- A BAR of 2^`k` bytes after a write of one of its dwords: its low bits stay 0. -/
def barWrite (k old : Nat) (high : Bool) (v : Nat) : Nat :=
  (if high then old % 2 ^ 32 + v % 2 ^ 32 * 2 ^ 32 else old / 2 ^ 32 * 2 ^ 32 + v % 2 ^ 32) / 2 ^ k * 2 ^ k

/-- A write of a BAR of PF0 or of the VFs (R420). -/
def State.writeBar (s : State) (p offset v : Nat) : State :=
  let n := s.nport p
  match offset with
  | 0x10 => s.setNport p { n with bar0 := barWrite 20 n.bar0 false v }
  | 0x14 => s.setNport p { n with bar0 := barWrite 20 n.bar0 true v }
  | 0x18 => s.setNport p { n with bar2 := if n.cfg.bar2 = 0 then 0 else barWrite n.cfg.bar2 n.bar2 false v }
  | 0x1C => s.setNport p { n with bar2 := if n.cfg.bar2 = 0 then 0 else barWrite n.cfg.bar2 n.bar2 true v }
  | 0x174 => s.setNport p { n with vfBar := barWrite 14 n.vfBar false v }
  | 0x178 => s.setNport p { n with vfBar := barWrite 14 n.vfBar true v }
  | _ => s

/-- A configuration write. Power state D3hot of PF0 acts as a clear of Bus Master Enable on every function (R431). -/
def configWrite (p func offset v : Nat) (s : State) : State :=
  if offset = 4 then
    if func = 0 then
      let s := (s.setPf0Bme p (bit v 2)).releaseMsix p 0
      s.setNport p { s.nport p with memEnable := bit v 1 }
    else if bit v 2 then (s.setVf p func { s.vf p func with bme := true }).releaseMsix p func
    else busMasterClear p func s
  else if offset = 0x68 ∧ func = 0 ∧ bit v 15 = false then s.setNport p { s.nport p with devCtl := v % 32768 }
  else if offset = 0x68 ∧ bit v 15 = true then (if func = 0 then pf0Flr p s else vfFlr p func s)
  else if offset = 0x48 then s.modMsix p func fun m => { m with on := bit v 31, mask := bit v 30 }
  else if func ≠ 0 then s
  else if offset = 0x44 then
    let d3 := decide (v % 4 = 3)
    let s := s.setNport p { s.nport p with d3 := d3 }
    if d3 then
      s.each ((List.range 64).map fun k => k + 1) (fun s k => busMasterClear p k s) |>.setPf0Bme p false
    else s
  else if offset = 0x88 then s.setNport p { s.nport p with ctoRange := v % 16, tag10 := bit v 12 }
  else if offset = 0x158 then
    let s := s.setNport p { s.nport p with vfMse := bit v 3 }
    if bit v 0 then s.setVfEnable p true (s.nport p).numVfs else vfEnableClear p s
  else if offset = 0x160 then
    if (s.nport p).vfEnable then s else s.setVfEnable p false (min 64 (v % 65536))
  else s.writeBar p offset v

/-- The function exists: PF0, and the VFs that VF Enable and NumVFs show. -/
def State.funcExists (s : State) (p func : Nat) : Bool :=
  decide (func = 0) || ((s.nport p).vfEnable && decide (func ≤ (s.nport p).numVfs))

/-- NP_CONFIG_REQUEST. While the module boots it answers Request Retry Status (status 2; R407); a request to a function that does not
exist answers Unsupported Request (status 1). -/
def npConfigRequest (p func offset : Nat) (w : Option Nat) (s : State) : State :=
  if (s.nport p).linkUp = false then s
  else if (s.nport p).ready = false then s.emit (.npReply p func 2 0 4)
  else if s.funcExists p func = false then s.emit (.npReply p func 1 0 4)
  else
    match w with
    | some v => (configWrite p func offset v s).emit (.npReply p func 0 0 0)
    | none => s.emit (.npReply p func 0 (s.configRead p func offset) 4)

def execNpConfigRequest (t port func offset : Nat) (w : Option Nat) (s : State) : Res :=
  actPin t (isNp port && decide (func ≤ 64 ∧ offset < 4096 ∧ offset % 4 = 0)) s (npConfigRequest port func offset w)
    (npConfigRequest port func offset w)

/-! ### VF registers and doorbells (R412 to R415, R433) -/

/-- A request of a function goes out only while its Bus Master Enable is set (R431). -/
def State.vfRequest (s : State) (p v addr : Nat) (w : NpPurpose) : State :=
  if (s.vf p v).bme then s.npRequest p { func := v, addr := addr, purpose := w } else s

/-- Fetch the next entry of a submission queue, one at a time (log entry 60). -/
def State.fetchEntry (s : State) (p v q : Nat) : State :=
  let x := s.vf p v
  match Tbl.find? x.sqs q with
  | some sq =>
    if sq.busy = false ∧ sq.head ≠ sq.tail ∧ x.bme = true then
      let s := s.setVf p v { x with sqs := Tbl.set x.sqs q { sq with busy := true } }
      s.vfRequest p v (sq.base + 64 * sq.head) (.sqEntry v q sq.head)
    else s
  | none => s

/-- Completions that wait for room are written once the near host has moved the head. -/
def State.flushCqes (p v : Nat) : Nat → State → State
  | 0, s => s
  | k + 1, s =>
    let x := s.vf p v
    match x.waits with
    | [] => s
    | w :: r => State.flushCqes p v k ((s.setVf p v { x with waits := r }).writeCqe p v w.cq w.cqe)

/-- A tail or head doorbell. -/
def vfRing (p v offset value : Nat) (s : State) : State :=
  let x := s.vf p v
  let y := (offset - 0x1000) / 8
  let k := s.vfCtrl p v
  let bad (info sub : Nat) : State := (((s.bump 0x5303 p sub).npViolation p v (0x5303 * 256 + sub) value).asyncEvent k 0 info 1)
  if (offset - 0x1000) % 8 = 0 then
    match Tbl.find? x.sqs y with
    | none => bad 0 0xF
    | some q =>
      if q.size ≤ value then bad 1 0x10
      else (s.setVf p v { x with sqs := Tbl.set x.sqs y { q with tail := value } }).fetchEntry p v y
  else
    match Tbl.find? x.cqs y with
    | none => bad 0 0xF
    | some q =>
      let sz := max 1 q.size
      if q.size ≤ value ∨ (q.tail + sz - q.head) % sz < (value + sz - q.head) % sz then bad 1 0x10
      else
        let s := s.setVf p v { x with cqs := Tbl.set x.cqs y { q with head := value } }
        State.flushCqes p v x.waits.length s

/-- End the controller of a VF: CC.EN is 0. -/
def State.vfDisable (s : State) (p v cc : Nat) : State :=
  let s := ((s.orphan p v).endVfCmds p v).dropVfCtrl p v
  s.setVf p v { s.vf p v with cc := cc, rdy := false, cfs := false, shst := 0, hostid := 0, sqs := [], cqs := [], waits := [] }

/-- Enable the controller of a VF: its admin queues are those of AQA, ASQ and ACQ. -/
def State.vfEnable (s : State) (p v cc : Nat) : State :=
  let x := s.vf p v
  let c : Ctrl := { state := 2, vf := some (p, v), subsys := s.o 0x5301 (vfRow p v) 5, cc := cc, hostid := x.hostid }
  let s := s.setVf p v { x with
    cc := cc, rdy := true, shst := 0
    sqs := [(0, { base := x.asq, size := x.aqa % 4096 + 1 })], cqs := [(0, { base := x.acq, size := x.aqa / 65536 % 4096 + 1 })] }
  s.setCtrl (s.vfCtrl p v) c

/-- Values of CC that CAP allows, with entry sizes 2⁶ and 2⁴ when it enables. -/
def vfCcOk (v : Nat) : Bool := ccOk v && (decide (v % 2 = 0) || decide (v / 65536 % 256 = 0x46))

/-- A write of CC (R412, R414): EN is ignored while the binding row is not enabled; 0 resets the controller; SHN sets SHST. -/
def vfCcWrite (p v value : Nat) (s : State) : State :=
  let value := ccBits value
  let x := s.vf p v
  if s.funcExists p v = false ∨ vfCcOk value = false then s
  else if value % 2 = 0 then
    if x.cc % 2 = 1 ∨ x.cfs = true then s.vfDisable p v value else s.setVf p v { x with cc := value }
  else if x.cc % 2 = 0 then
    if s.o 0x5301 (vfRow p v) 2 = 1 ∧ x.aqa % 4096 ≠ 0 ∧ x.aqa / 65536 % 4096 ≠ 0 ∧ x.cfs = false ∧ s.silent = false then s.vfEnable p v value else s
  else
    let shst := if value / 16384 % 4 = 0 then x.shst else 2
    let k := s.vfCtrl p v
    (s.setVf p v { x with cc := value, shst := shst }).setCtrl k { s.ctrl k with
      cc := value, shst := shst, state := if shst = 2 then 3 else 2 }

def execVfCcWrite (t port vf value : Nat) (s : State) : Res :=
  act t (isNp port && isVf vf && decide (value < 2 ^ 32)) s (vfCcWrite port vf value)

/-- Replace the low or high dword of an address register; queue bases are 4 KiB aligned. -/
def setDword (old : Nat) (high : Bool) (v : Nat) : Nat :=
  if high then old % 2 ^ 32 + v * 2 ^ 32 else old / 2 ^ 32 * 2 ^ 32 + v / 4096 * 4096

/-- A dword of an MSI-X table entry without its reserved bits (00 R15; PCIe Base 6.0). -/
def msixBits (offset v : Nat) : Nat := if offset % 16 = 0 then v / 4 * 4 else if offset % 16 = 12 then v % 2 else v

/-- Write a dword of the table; a dword that reads as at reset is not listed. -/
def Msix.write (m : Msix) (o v : Nat) : Msix :=
  let d := msixBits o v
  { m with table := if d = (if o % 16 = 12 then 1 else 0) then Tbl.erase m.table o else Tbl.set m.table o d }

/-- Pending bits as a dword of the array shows them. -/
def Msix.bits (m : Msix) (i : Nat) : Nat :=
  (m.pending.filter fun v => decide (v / 32 = i)).foldl (fun a v => setBit a (v % 32)) 0

/-- What a dword of BAR0 of a VF reads as (Table 3, Table 4); doorbells and reserved offsets read 0. No row of the command table reads
BAR0: this says what such a read shows (log entry 168). -/
def State.vfRead (s : State) (p v offset : Nat) : Nat :=
  let x := s.vf p v
  match offset with
  | 0x00 => 2 * 2 ^ 24 + 2 ^ 16 + 0x3FF
  | 0x04 => 2 ^ 5
  | 0x08 => 0x20000
  | 0x14 => x.cc
  | 0x1C => (if x.rdy then 1 else 0) + (if x.cfs then 2 else 0) + 4 * x.shst
  | 0x24 => x.aqa
  | 0x28 => x.asq % 2 ^ 32
  | 0x2C => x.asq / 2 ^ 32
  | 0x30 => x.acq % 2 ^ 32
  | 0x34 => x.acq / 2 ^ 32
  | _ => if 0x2000 ≤ offset ∧ offset < 0x2810 then x.msix.dword (offset - 0x2000)
    else if 0x3000 ≤ offset ∧ offset < 0x3018 then x.msix.bits ((offset - 0x3000) / 4)
    else 0

/-- What a register of the control window reads as (Table 8), and its MSI-X table and pending bits (Table 7); the ready bit is bit 0 of
008h (17 R597). -/
def State.pf0Read (s : State) (p offset : Nat) : Nat :=
  let r := Tbl.get {} s.rings p
  let n := s.nport p
  match offset with
  | 0x000 => 0x5A530001
  | 0x004 => s.runningVersion
  | 0x008 => (if n.ready then 1 else 0) + (if n.mailbox.status = 1 then 2 else 0) + (if r.overflow then 4 else 0) +
      (if s.ob 0x2400 4 = 4 then 8 else 0)
  | 0x00C => if r.enable then 1 else 0
  | 0x010 => n.mailbox.reqLen
  | 0x018 => n.mailbox.respLen
  | 0x01C => n.mailbox.status
  | 0x020 => r.head
  | 0x024 => (r.head + r.ring.length) % 512
  | _ => if 0x4000 ≤ offset ∧ offset < 0x4080 then r.msix.dword (offset - 0x4000)
    else if 0x5000 ≤ offset ∧ offset < 0x5008 then r.msix.bits ((offset - 0x5000) / 4)
    else 0

/-- A write into BAR0 of a VF below the doorbells. -/
def vfRegister (p v offset value : Nat) (s : State) : State :=
  let x := s.vf p v
  match offset with
  | 0x14 => vfCcWrite p v value s
  | 0x24 => if x.cc % 2 = 0 then s.setVf p v { x with aqa := Nat.land value 0x0FFF0FFF } else s
  | 0x28 => if x.cc % 2 = 0 then s.setVf p v { x with asq := setDword x.asq false value } else s
  | 0x2C => if x.cc % 2 = 0 then s.setVf p v { x with asq := setDword x.asq true value } else s
  | 0x30 => if x.cc % 2 = 0 then s.setVf p v { x with acq := setDword x.acq false value } else s
  | 0x34 => if x.cc % 2 = 0 then s.setVf p v { x with acq := setDword x.acq true value } else s
  | _ => if 0x2000 ≤ offset ∧ offset < 0x2810 then s.modMsix p v fun m => m.write (offset - 0x2000) value else s

/-- A write into the control window of PF0 (R424, Table 8) apart from the mailbox: event enable, overflow, event head, and the
MSI-X table. -/
def pf0Register (p offset value : Nat) (s : State) : State :=
  let r := Tbl.get {} s.rings p
  let n := s.nport p
  let set (r : EventRing) : State := { s with rings := Tbl.set s.rings p r }
  match offset with
  | 0x008 => if bit value 2 then set { r with overflow := false } else s
  | 0x00C => set { r with enable := bit value 0 }
  | 0x010 => s.setNport p { n with mailbox := { n.mailbox with reqLen := value % 8192 } }
  | 0x020 =>
    let used := (value % 512 + 512 - r.head) % 512
    set { r with head := value % 512, ring := r.ring.drop used }
  | _ => if 0x4000 ≤ offset ∧ offset < 0x4080 then s.modMsix p 0 fun m => m.write (offset - 0x4000) value else s

/-- The port decodes BAR0 of a function: memory space is enabled for PF0, or for the VFs (PCIe Base 6.0, log entry 105). -/
def State.decodes (s : State) (p v : Nat) : Bool := if v = 0 then (s.nport p).memEnable else (s.nport p).vfMse

/-- VF_DOORBELL: a write into BAR0 of a function; from offset 1000h of a VF on it rings a doorbell. A write that is not
dword-aligned is discarded (R433). Function 0 is PF0, whose BAR0 is the control window (log entry 61). -/
def vfDoorbell (p v offset value : Nat) (s : State) : State :=
  if (s.nport p).linkUp = false ∨ s.funcExists p v = false ∨ s.decodes p v = false then s
  else if offset % 4 ≠ 0 then (s.bump 0x5303 p 0x11).npViolation p v (0x5303 * 256 + 0x11) offset
  else if v = 0 then pf0Register p offset value s
  else if offset < 0x1000 ∨ 0x2000 ≤ offset then vfRegister p v offset value s
  else
    let x := s.vf p v
    if x.ignoring ∨ x.cfs ∨ x.cc % 2 = 0 then s else vfRing p v offset value s

def execVfDoorbell (t port vf offset value : Nat) (s : State) : Res :=
  act t (isNp port && decide (vf ≤ 64 ∧ value < 2 ^ 32 ∧ offset < (if vf = 0 then 2 ^ 20 else 2 ^ 14))) s
    (vfDoorbell port vf offset value)

/-! ### Queue commands of a VF (R415; status codes of NVMe, log entry 62) -/

/-- The VF of an admin command that may act with opcode `o`. -/
def State.readyVf (s : State) (id o : Nat) : Option (Nat × Nat) :=
  match s.readyAdmin id o, (s.cmd id).vf with
  | some _, some (p, v, _) => some (p, v)
  | _, _ => none

/-- I/O queues created, as 5302h:04 shows them. -/
def State.syncVf (s : State) (p v : Nat) : State :=
  s.put 0x5302 (vfRow p v) 4 ((s.vf p v).sqs.filter fun e => decide (e.1 ≠ 0)).length

/-- Base address of a queue that a command creates. -/
def queueBase : DataPtr → Nat
  | .prp a _ => a
  | .sglList a _ => a
  | _ => 0

/-- The checks on a new queue: 1/01h queue identifier, 1/02h size, 0/02h not contiguous, 0/13h base not page aligned. -/
def newQueueBad (exists_ : Bool) (c : Capsule) : Option (Nat × Nat) :=
  if c.qid = 0 ∨ 128 < c.qid ∨ exists_ = true then some (1, 1)
  else if c.qsize = 0 ∨ 1023 < c.qsize then some (1, 2)
  else if c.pc = false then some (0, 2)
  else if queueBase c.dptr % 4096 ≠ 0 then some (0, 0x13)
  else none

/-- CREATE_IO_COMPLETION_QUEUE: an interrupt vector above 128 returns 1/08h. -/
def createIoCompletionQueue (id : Nat) (s : State) : State :=
  match s.readyVf id 5 with
  | some (p, v) =>
    let x := s.vf p v
    let c := (s.cmd id).cap
    match newQueueBad (Tbl.has x.cqs c.qid) c with
    | some b => s.complete id b.1 b.2 0
    | none =>
      if 128 < c.vector then s.complete id 1 8 0
      else
        let q : CplQ := { base := queueBase c.dptr, size := c.qsize + 1, vector := c.vector }
        (s.setVf p v { x with cqs := Tbl.set x.cqs c.qid q }).succeed id
  | none => s

def execCreateIoCompletionQueue (t c : Nat) (s : State) : Res := act t true s (createIoCompletionQueue c)

/-- CREATE_IO_SUBMISSION_QUEUE: a completion queue that does not exist returns 1/00h. -/
def createIoSubmissionQueue (id : Nat) (s : State) : State :=
  match s.readyVf id 1 with
  | some (p, v) =>
    let x := s.vf p v
    let c := (s.cmd id).cap
    match newQueueBad (Tbl.has x.sqs c.qid) c with
    | some b => s.complete id b.1 b.2 0
    | none =>
      if c.cqid = 0 ∨ Tbl.has x.cqs c.cqid = false then s.complete id 1 0 0
      else
        let q : SubQ := { base := queueBase c.dptr, size := c.qsize + 1, cq := c.cqid }
        ((s.setVf p v { x with sqs := Tbl.set x.sqs c.qid q }).syncVf p v).succeed id
  | none => s

def execCreateIoSubmissionQueue (t c : Nat) (s : State) : Res := act t true s (createIoSubmissionQueue c)

/-- DELETE_IO_SUBMISSION_QUEUE: the commands of the queue end with 0/08h, and its waiting fetches are dropped. -/
def deleteIoSubmissionQueue (id : Nat) (s : State) : State :=
  match s.readyVf id 0 with
  | some (p, v) =>
    let c := (s.cmd id).cap
    if c.qid = 0 ∨ Tbl.has (s.vf p v).sqs c.qid = false then s.complete id 1 1 0
    else
      let ids : List Nat := (s.nvme.cmds.filter fun e => decide (e.2.vf = some (p, v, c.qid))).map Prod.fst
      let s : State := s.each ids fun s i => (s.stopReads i).complete i 0 8 0
      let s : State := { s with nvme := { s.nvme with
        inputs := s.nvme.inputs.map fun e => (e.1, e.2.filter fun y => decide (y.vf ≠ some (p, v, c.qid))) } }
      let x := s.vf p v
      ((s.setVf p v { x with sqs := Tbl.erase x.sqs c.qid }).syncVf p v).succeed id
  | none => s

def execDeleteIoSubmissionQueue (t c : Nat) (s : State) : Res := act t true s (deleteIoSubmissionQueue c)

/-- DELETE_IO_COMPLETION_QUEUE: one that a submission queue still uses returns 1/0Ch. -/
def deleteIoCompletionQueue (id : Nat) (s : State) : State :=
  match s.readyVf id 4 with
  | some (p, v) =>
    let x := s.vf p v
    let c := (s.cmd id).cap
    if c.qid = 0 ∨ Tbl.has x.cqs c.qid = false then s.complete id 1 1 0
    else if x.sqs.any (fun (e : Nat × SubQ) => decide (e.1 ≠ 0 ∧ e.2.cq = c.qid)) then s.complete id 1 0xC 0
    else
      (s.setVf p v { x with cqs := Tbl.erase x.cqs c.qid, waits := x.waits.filter fun w => decide (w.cq ≠ c.qid) }).succeed id
  | none => s

def execDeleteIoCompletionQueue (t c : Nat) (s : State) : Res := act t true s (deleteIoCompletionQueue c)

/-! ### Completions from the near host (R429 to R431, R433) -/

/-- Completion timeout of a port in ns: the upper end of the sub-range in Device Control 2 (R411). -/
def NearPort.timeout (n : NearPort) : Nat :=
  match n.ctoRange with
  | 1 => 100000
  | 2 => 10 * msNs
  | 5 => 55 * msNs
  | 6 => 210 * msNs
  | 9 => 900 * msNs
  | 10 => 3500 * msNs
  | _ => 50 * msNs

/-- Free a tag and release its entry; what waits is sent. -/
def State.freeTag (s : State) (p tag : Nat) : State :=
  let n := s.nport p
  match Tbl.find? n.tags tag with
  | some x =>
    let s := (s.setNport p ({ n with tags := Tbl.erase n.tags tag }.releaseEntry x.entry)).syncTags p
    State.npDrain p n.waits.length s
  | none => s

/-- A command's data does not come: it ends with 0/04h and no block changes. -/
def State.dataFailed (s : State) (id : Nat) : State :=
  if Tbl.has s.nvme.cmds id then (s.stopReads id).complete id 0 4 0 else s

/-- What a request that fails does to what it was for (R429, R430). -/
def State.npFailed (s : State) (p : Nat) (w : NpPurpose) : State :=
  match w with
  | .sqEntry v _ _ => s.vfFatal p v
  | .writeData id _ _ => s.dataFailed id
  | .copyJob c run n _ => s.dmaData c run n false 0
  | .chain _ _ => s

/-- An entry of a submission queue has been fetched: the queue's head moves on, an engine gets the command, and the next entry
is fetched. -/
def State.entryFetched (s : State) (p v q : Nat) (cap : Capsule) : State :=
  let x := s.vf p v
  match Tbl.find? x.sqs q with
  | some sq =>
    let sq := { sq with head := (sq.head + 1) % max 1 sq.size, busy := false }
    let i : EngineInput := { qp := none, vf := some (p, v, q), cap := cap
                             cls := s.o 0x5301 (vfRow p v) 4, arrivedAt := s.now }
    let e := s.draw % 32
    let s := (s.setVf p v { x with sqs := Tbl.set x.sqs q sq }).drawn
    let s := { s with nvme := { s.nvme with inputs := Tbl.modify [] s.nvme.inputs e fun l => l ++ [i] } }
    s.fetchEntry p v q
  | none => s

/-- NP_COMPLETION for a tag of an engine. Copy jobs take the data of theirs. -/
def npDelivered (p : Nat) (x : NpTag) (status : CplStatus) (poisoned : Bool) (entry : Option Capsule) (data : Content)
    (s : State) : State :=
  if poisoned then ((s.bump 0x5303 p 0xE).logAer p 0 x.func).npFailed p x.purpose
  else if status ≠ .successful then s.npFailed p x.purpose
  else
    match x.purpose, entry with
    | .sqEntry v q _, some cap => s.entryFetched p v q cap
    | .sqEntry v _ _, none => s.vfFatal p v
    | .writeData id off len, _ => s.bringData id off len data
    | .copyJob c run n _, _ => s.dmaData c run n true data
    | .chain _ _, _ => s

/-- NP_COMPLETION: delivered, discarded for a quarantined or orphaned tag, or unexpected. -/
def npCompletion (p tag : Nat) (status : CplStatus) (poisoned : Bool) (entry : Option Capsule) (data : Content) (s : State) :
    State :=
  match Tbl.find? (s.nport p).tags tag with
  | none => ((s.bump 0x5303 p 0x14).logAer p 2 0).npViolation p 0 (0x5303 * 256 + 0x14) tag
  | some x =>
    let s := s.freeTag p tag
    if x.orphaned then s.bump 0x5303 p 0xA
    else if x.quarantined then s.bump 0x5303 p 9
    else npDelivered p x status poisoned entry data s

def execNpCompletion (t port tag : Nat) (status : CplStatus) (poisoned : Bool) (entry : Option Capsule) (data : Content)
    (s : State) : Res := actMem t (isNp port) s fun u =>
    u.when (u.nport port).linkUp (npCompletion port tag status poisoned entry data)

/-- NP_COMPLETION_TIMEOUT: the request fails and its tag is quarantined; an orphaned tag is freed. -/
def npCompletionTimeout (p tag : Nat) (s : State) : State :=
  let n := s.nport p
  match Tbl.find? n.tags tag with
  | some x =>
    if dueAt s.now x.since n.timeout = false ∨ x.quarantined = true then s
    else if x.orphaned then s.freeTag p tag
    else
      let s := (s.setNport p { n with tags := Tbl.set n.tags tag { x with quarantined := true } }).syncTags p
      ((s.bump 0x5303 p 8).logAer p 1 x.func).npFailed p x.purpose
  | none => s

def execNpCompletionTimeout (t port tag : Nat) (s : State) : Res := act t (isNp port) s (npCompletionTimeout port tag)

/-! ### Inbound windows (R421) -/

/-- The valid inbound entry of a port that holds a range of BAR2, and the module address it leads to. -/
def State.inboundAt (s : State) (p offset len : Nat) (write : Bool) : Option Nat :=
  let rows := (List.range 16).map fun k => p * 16 + k
  let hit := rows.find? fun r =>
    let base := s.o 0x5306 r 3 * 4096
    decide (s.o 0x5306 r 7 = 1 ∧ s.o 0x5306 r (if write then 5 else 6) = 1 ∧ base ≤ offset ∧
      offset + len ≤ base + 2 ^ s.o 0x5306 r 4)
  hit.map fun r => s.o 0x5306 r 2 * 4096 + (offset - s.o 0x5306 r 3 * 4096)

/-- NP_BAR2_ACCESS: an address that BAR2 does not decode is Unsupported Request (log entry 105). A read is answered with its data or Unsupported Request; a write reaches memory, or is discarded. A malformed TLP is discarded, counted and logged (Table 10). -/
def npBar2Access (p offset len : Nat) (w : Option Content) (poisoned malformed : Bool) (s : State) : State :=
  let n := s.nport p
  if n.linkUp = false then s
  else if malformed then ((s.bump 0x5303 p 0x15).logAer p 3 0).npViolation p 0 (0x5303 * 256 + 0x15) offset
  else if (n.memEnable && decide (n.cfg.bar2 ≠ 0 ∧ offset + len ≤ 2 ^ n.cfg.bar2)) = false then
    if w.isNone then s.emit (.npReply p 0 1 0 len) else s
  else if offset % 4 ≠ 0 ∨ len % 4 ≠ 0 then
    let s := (s.bump 0x5303 p 0x11).npViolation p 0 (0x5303 * 256 + 0x11) offset
    if w.isNone then s.emit (.npReply p 0 0 (2 ^ (8 * len) - 1) len) else s
  else if w.isSome ∧ poisoned = true then (s.bump 0x5303 p 0xE).logAer p 0 0
  else
    match s.inboundAt p offset len w.isSome, w with
    | some a, some d => { s with hbm := Memory.writeN s.hbm a d len }
    | some a, none => s.emit (.npReply p 0 0 (Memory.readN s.hbm a len) len)
    | none, _ =>
      let s := (s.bump 0x5303 p 0x12).npViolation p 0 (0x5303 * 256 + 0x12) offset
      if w.isNone then s.emit (.npReply p 0 1 0 len) else s

def execNpBar2Access (t port offset len : Nat) (w : Option Content) (flaws : TlpFlaws) (s : State) : Res :=
  actMem t (isNp port) s (npBar2Access port offset len w flaws.poisoned flaws.malformed)

/-- Commit of 5306h: a valid entry is aligned to its size, inside BAR2 and the exchange region, and overlaps no other. -/
def inboundCode (_ : Session) (st : Stage) (s : State) : Abort :=
  if st.n 7 = 0 then 0
  else
    let p := st.row / 16
    let size := 2 ^ st.n 4
    let base := st.n 3 * 4096
    let target := st.n 2 * 4096
    let bar := (s.nport p).cfg.bar2
    let xbase := s.ob 0x5305 2
    let xsize := hbmEnd - xbase
    let clash := (List.range 16).any fun k =>
      let r := p * 16 + k
      let b := s.o 0x5306 r 3 * 4096
      decide (r ≠ st.row ∧ s.o 0x5306 r 7 = 1 ∧ b < base + size ∧ base < b + 2 ^ s.o 0x5306 r 4)
    firstCode [need (decide (12 ≤ st.n 4 ∧ st.n 4 ≤ 34)) abRange,
      need (decide (base % size = 0 ∧ target % size = 0)) abJoin,
      need (decide (bar ≠ 0 ∧ base + size ≤ 2 ^ bar)) abJoin,
      need (decide (xbase ≠ 0 ∧ xbase ≤ target ∧ target + size ≤ xbase + xsize)) abJoin,
      need (!clash) abJoin]

/-- INBOUND_ENTRY_COMMIT. -/
def inboundEntryCommit (sess : Nat) (s : State) : State := s.commitAs sess 0x5306 1 inboundCode (fun _ _ u => u)

def execInboundEntryCommit (t sess : Nat) (s : State) : Res := act t true s (inboundEntryCommit sess)

/-! ### Other rows of the near ports (R412, R422) -/

/-- Commit of 5301h: not while the VF's controller is enabled, save to write 0 to Enable alone. -/
def vfBindingCode (_ : Session) (st : Stage) (s : State) : Abort :=
  let p := st.row / 64
  let v := st.row % 64 + 1
  let onlyOff := decide (st.n 2 = 0) && [3, 4, 5].all fun k => decide (st.n k = s.o 0x5301 st.row k)
  need (decide ((s.vf p v).cc % 2 = 0) || onlyOff) abState

/-- Enable 0 on a running VF sets CSTS.CFS and ends its commands (R412). -/
def applyVfBinding (st : Stage) (_ u : State) : State :=
  let p := st.row / 64
  let v := st.row % 64 + 1
  if st.n 2 = 0 ∧ (u.vf p v).cc % 2 = 1 then ((u.orphan p v).vfFatal p v).endVfCmds p v else u

/-- VF_BINDING_COMMIT. -/
def vfBindingCommit (sess : Nat) (s : State) : State := s.commitAs sess 0x5301 1 vfBindingCode applyVfBinding

def execVfBindingCommit (t sess : Nat) (s : State) : Res := act t true s (vfBindingCommit sess)

/-- Commit of 5307h: entries 3,840 to 4,095 of a port only, and they name PF0 (R422). -/
def outboundCode (_ : Session) (st : Stage) (_ : State) : Abort :=
  firstCode [need (decide (3840 ≤ st.row % 4096)) abState, need (decide (st.n 3 = 0)) abJoin]

/-- Fields of 5302h for a VF that change by themselves (12 Table 13). -/
def State.readVf (s : State) (row sub : Nat) : Val :=
  let p := row / 64
  let v := row % 64 + 1
  let x := s.vf p v
  match sub with
  | 2 => .nat (if s.funcExists p v = false then 0 else if x.cfs then 4 else if s.o 0x5301 row 2 = 0 then 1
      else if x.cc % 2 = 1 then 3 else 2)
  | 3 => .nat (s.vfCtrl p v)
  | 4 => .nat (x.sqs.filter fun e => decide (e.1 ≠ 0)).length
  | 5 => .oct 16 x.hostid
  | 6 => .nat (Tbl.get (0, 0) s.nvme.served (s.vfCtrl p v)).1
  | 7 => .nat (Tbl.get (0, 0) s.nvme.served (s.vfCtrl p v)).2
  | _ => .nat (within s.now (s.ob 0x5304 1 * sNs) x.violations).length

/-- Fields of 5307h that change by themselves: those the engines set in entries below 3,840, and the use count of the others. -/
def State.readOutbound (s : State) (row sub : Nat) : Option Val :=
  if row % 4096 < 3840 then
    match Tbl.find? (s.nport (row / 4096)).entries (row % 4096) with
    | some e =>
      match sub with
      | 2 => some (.nat e.region)
      | 3 => some (.nat e.func)
      | 4 | 5 | 6 => some (.nat 1)
      | 0xB => some (.nat e.uses)
      | _ => none
    | none => none
  else if sub = 0xB then
    some (.nat ((s.nport (row / 4096)).tags.filter fun e => match e.2.purpose with
      | .copyJob _ _ _ i | .chain _ i => decide (i = row % 4096)
      | _ => false).length)
  else none

/-- A near port as a reset leaves it: its input level and the settings in force; the link trains again while the module boots. -/
def NearPort.restart (n : NearPort) (now : Nat) (power : Bool) : NearPort :=
  { perst := n.perst, cfg := n.cfg, ready := false
    training := if !n.perst && n.cfg.enable && power then some now else none }

/-- Both near ports at a reset. -/
def State.npRestart (s : State) (power : Bool) : State :=
  { s with np := [0, 1].map fun p => (p, (s.nport p).restart s.now power) }

/-- A near port at the end of the boot: the committed settings are in force, and a link that came up meanwhile stays (R407). -/
def State.npBoot (s : State) (p : Nat) : State :=
  if (s.nport p).linkUp = true ∧ s.o 0x5300 p 2 = 1 then (s.takeNpSettings p).npShowLink p else s.npLinkGone p

end Sys2Proof.Machine
end

