-- ==== Sys2Proof/Machine/TwinOps.lean ====
section
/-! DEFINITION. Twin shelves (14): the twin link's acknowledgements, silence, yield, pairing, takeover and the changes of home
that its records and rows bring about. -/

namespace Sys2Proof.Machine

/-! ### Sending and acknowledging records (14 R476, R477) -/

/-- A record number lies behind another, modulo 2^32. -/
def recBehind (a b : RecSeq) : Bool := decide ((b - a).toNat ≠ 0 ∧ (b - a).toNat < 2 ^ 31)

/-- Send records that wait while the limits allow it. -/
def State.drainRecs : Nat → State → State
  | 0, s => s
  | n + 1, s =>
    match s.twin.sendWait with
    | [] => s
    | r :: rest =>
      if s.sendRoom r then State.drainRecs n ({ s with twin := { s.twin with sendWait := rest } }.sendNow r) else s

/-- A queue pair whose records up to `a` are confirmed: its acknowledgement may go, its copies resume (R487, R489). -/
def State.confirmQp (a : RecSeq) (s : State) (i : Nat) : State :=
  let q := s.qp i
  let held (n : Option RecSeq) : Bool := match n with
    | some k => !recBehind k a
    | none => false
  let synced := q.twinWait.isSome && !held q.twinWait
  let q := { q with copying := q.copying || synced, twinWait := if synced then none else q.twinWait }
  if q.ackHold.isSome && !held q.ackHold then
    let s := s.setQp i { q with ackHold := none, ackDue := false }
    if q.ackDue then s.sendAck i else s
  else s.setQp i q

/-- Queue pairs that wait for confirmations. -/
def State.waitingQps (s : State) : List Nat :=
  (s.rdma.qps.filter fun e => e.2.ackHold.isSome || e.2.twinWait.isSome).map Prod.fst

/-- The peer has delivered every record behind `a`. -/
def State.takeAck (s : State) (a : RecSeq) : State :=
  let left := s.twin.unacked.filter fun u => !recBehind u.rec_.seq a
  let s := { s with twin := { s.twin with unacked := left } }
  State.drainRecs (s.twin.sendWait.length) (s.each s.waitingQps (State.confirmQp a))

/-- Acknowledgements wait for the peer no more (14 R489). -/
def State.releaseAcks (s : State) : State :=
  s.each s.waitingQps fun s i =>
    let q := s.qp i
    let s := s.setQp i { q with ackHold := none, ackDue := false, twinWait := none, copying := false }
    if q.ackDue then s.sendAck i else s

/-! ### Objects of the twin link -/

/-- Capacity in GB/s per direction (R472, R475, R478). -/
def State.syncCapacity (s : State) : State :=
  let c := if s.twin.groups = 0 then 0 else if s.twin.groups = 3 ∧ s.twin.split = true then 200 else 100
  s.setVal 0x2402 0 2 (.real c)

/-- A lane group changes its state: 0 down, 1 training, 2 in service, 3 out of service (R478). -/
def State.setGroup (s : State) (g state : Nat) : State :=
  let was := s.o 0x2420 g 2
  let s := { s with twin := { s.twin with
    groups := if state = 2 then setBit s.twin.groups g else clearBit s.twin.groups g
    outOf := if state = 3 then Tbl.set s.twin.outOf g s.now else Tbl.erase s.twin.outOf g } }
  let s := (s.put 0x2420 g 2 state).syncCapacity
  if was = state then s else s.raise .twinGroup [g, state]

/-- Pages of the mirror window that the data of a record takes. -/
def windowPages (ps : List MirrorPage) : Nat := (ps.map fun p => (p.array, p.addr / 4096)).eraseDups.length

/-- The mirror window's use and the writes that await a confirmation (2403h:03, 04). -/
def State.syncMirror (s : State) : State :=
  let pages := sumNat (s.twin.mirror.map fun m => windowPages m.pages)
  (s.put 0x2403 0 3 (4096 * pages)).put 0x2403 0 4 (s.nvme.cmds.filter fun e => e.2.mirror.isSome).length

/-- Drive YIELD_OUT_N (R494). -/
def State.setYieldOut (s : State) (asserted : Bool) : State :=
  if s.twin.yieldOut = asserted then s
  else { s with twin := { s.twin with yieldOut := asserted, failedAt := s.now } }.emit (.yieldLine asserted)

/-- The module as the dictionary numbers it: 0 A, 1 B. -/
def State.ownIndex (s : State) : Nat := s.ob 0x2400 2 - 1

/-- Rows of 3040h in use. -/
def State.ifRows (s : State) : List Nat := (List.range 512).filter fun r => decide (s.o 0x3040 r 2 = 1 ∨ s.o 0x3040 r 3 ≠ 0)

/-- Arrays that exist. -/
def State.arrays (s : State) : List Nat := (List.range 4).filter s.arrOn

/-! ### Silence (14 Table 5 steps 1 to 4; 15 Table 4) -/

/-- Every command, queue pair and fabric controller ends where it stands: nothing more is said to a host. -/
def State.dropHosts (s : State) : State :=
  let s := { s with nvme := { s.nvme with
    cmds := [], inputs := [], ctrls := s.nvme.ctrls.filter fun e => e.2.vf.isSome, fuseFailed := [] } }
  let s := s.each (s.rdma.qps.map Prod.fst) State.freeQp
  (s.put 0x3200 0 1 s.ctrlCount).syncMirror

/-- Every member command, flush and restoring work stops where it stands; dirty pages stay in HBM. -/
def State.dropDrives (s : State) : State :=
  let s := s.each s.arrays fun s a => (s.mergePages a).modArr a fun x => { x with
    jwait := [], jblocks := [], zeroing := none, work := none, repairWait := [] }
  let s := { s with
    slot := { s.slot with cmds := [], streams := [] }
    arr := { s.arr with recons := [], accs := s.arr.accs.map fun (e : Nat × Accum) => (e.1, { e.2 with ctxs := [] }) }
    sched := { s.sched with mem := s.sched.mem.map fun (e : Nat × MemberSched) =>
      (e.1, { e.2 with queues := [], rebuildQ := [], scrubQ := [] }) } }
  (s.each (List.range 4) State.syncAcc).each (List.range 24) State.syncSlot

/-- PERST# of the module's own port of a slot is asserted. -/
def State.holdSlot (s : State) (n : Nat) : State :=
  let x := s.slotS n
  if x.linkUp || !x.perst then
    let s := s.freeTags n
    let x := s.slotS n
    ((s.setSlot n { x with perst := true, linkUp := false, linkAt := none, ladder := none, ready := false, bars := []
                           link := none, setup := none, bme := false
                           waitsTwin := false, askPeer := none }).setSlotState n 1).put 0x5200 n 4 0
  else s

/-- Every VF sets CSTS.CFS. -/
def State.failVfs (s : State) : State :=
  s.each [0, 1] fun s p => s.each ((List.range (s.nport p).numVfs).map (· + 1)) fun s v =>
    if (s.vf p v).cc % 2 = 1 then s.vfFatal p v else s

/-- The logical ports go down and are flushed, the VFs fail (step 2). -/
def State.portsOff (s : State) : State :=
  let s := { s with twin := { s.twin with stopped := true } }
  let s := s.each ((List.range 32).filter fun p => (s.port p).linkUp) fun s p => s.declareDown p false
  s.failVfs

/-- Steps 1 to 4 of Table 5: the module is silent and says so on YIELD_OUT_N. -/
def State.silence (s : State) : State :=
  let s := s.dropHosts.portsOff.dropDrives
  (s.each (List.range 24) State.holdSlot).setYieldOut true

/-- Commits and writes that wait for the peer are refused. -/
def State.refuseHeld (s : State) : State :=
  let hs := s.twin.held
  let s := { s with twin := { s.twin with held := [] } }
  s.each hs fun s h => s.reply h.sess abState

/-- Count a yield (R496). -/
def State.countYield (s : State) : State :=
  let ts := s.now :: within s.now (3600 * sNs) s.twin.yieldTimes
  { s with twin := { s.twin with yieldTimes := ts, recheck := none, takerDone := none } }.put 0x2404 0 0xA ts.length

/-- The module has yielded: state 4. -/
def State.enterYield (s : State) (items : Nat) : State :=
  (((s.put 0x2400 0 4 4).refuseHeld).countYield).raise .yielded [items]

/-- Yield for the items of Table 4 (R493). -/
def State.yieldNow (s : State) (items : Nat) : State :=
  if s.twin.stopped then s
  else
    let s := s.silence
    let s := if s.twin.linked then s.sendRec .yield items 0 0 .none else s
    s.enterYield items

/-- Hardware silences the module within 1 µs, without a yield record (R494). -/
def State.hardYield (s : State) (item : Nat) (ev : Ev) : State :=
  let s := (s.put 0x2404 0 1 1).put 0x2404 0 2 (setBit (s.ob 0x2404 2) item)
  let s := (if s.twin.stopped then s else s.silence).raise ev
  if s.twin.twinMode then s.enterYield (2 ^ item) else s

/-! ### Shelf settings (14 R466, R467) -/

/-- The chapter's check of a shelf setting's row. -/
def shelfCode (win : Nat) : Session → Stage → State → Abort :=
  match win with
  | 0x3040 => interfaceCode
  | 0x3210 => subsystemCode
  | 0x3220 => hostCode
  | 0x3230 => namespaceCode
  | 0x5000 => arrayCode
  | _ => fun _ _ _ => 0

/-- An array's ownership moves: the group reads Change while its owner drains it (R471). -/
def State.startTransfer (s : State) (a : Nat) : State :=
  let s := s.put 0x2410 a 4 1
  let s := if s.owns a then
      let ids := (s.nvme.cmds.filter fun e => s.isIoCmd e.2 && decide (s.nsArray e.2.nsRow = a ∧
        (e.2.stage = .waitAdmit ∨ e.2.stage = .waitDirty ∨ e.2.stage = .fuseWait))).map Prod.fst
      s.each ids fun s id => s.complete id 3 3 0
    else s
  s.syncAna a

/-- Effect of a commit of 2410h: paired, the array is transferred to its new home; else only the home is kept. -/
def applyArrayHome (st : Stage) (_ u : State) : State :=
  let a := st.row
  if u.paired && u.arrOn a && decide (u.o 0x2410 a 3 ≠ st.n 2 ∧ u.o 0x2410 a 4 = 0) then u.startTransfer a else u

/-- Announce the addresses of an interface row on its logical port (Table 6 step 4). -/
def State.announceRow (s : State) (row : Nat) : State :=
  let port := s.o 0x3040 row 3
  let ip := s.o 0x3040 row 5
  if s.portUp port then s.enqueueCtl port (if isV4 ip then 64 else 90) (.announceAddress ip) else s

/-- Queue pairs of an interface row. -/
def State.qpsOn (s : State) (row : Nat) : List Nat :=
  (s.rdma.qps.filter fun e => decide (e.2.ifRow = row ∧ (e.2.state = 1 ∨ e.2.state = 2))).map Prod.fst

/-- A queue pair that passes to the peer leaves this module, its commands with it. -/
def State.leaveQp (s : State) (i : Nat) : State :=
  let s := s.sendQpRec i true
  let s := s.endQpCmds i
  let k := (s.qp i).cntlid
  let s := s.freeQp i
  match k with
  | some c =>
    let x := s.ctrl c
    let x := { x with adminQp := if x.adminQp = some i then none else x.adminQp
                      ioQps := x.ioQps.filter fun e => decide (e.2 ≠ i) }
    if x.adminQp.isNone && x.ioQps.isEmpty then
      ({ s with nvme := { s.nvme with ctrls := Tbl.erase s.nvme.ctrls c } }).syncHost x.hostRow
    else s.setCtrl c x
  | none => s

/-- An interface row moves to the module `home`: twin queue pairs pass with their final state, the others end by DREQ (R471). -/
def State.moveInterface (s : State) (row home : Nat) : State :=
  let was := s.o 0x2412 row 3
  let s := if was = s.ownIndex ∧ home ≠ was then
      s.each (s.qpsOn row) fun s i => if (s.qp i).twin then s.leaveQp i else s.qpDown i 8 0 0
    else s
  let s := s.put 0x2412 row 3 home
  if was ≠ home ∧ home = s.ownIndex then s.announceRow row else s

/-- Effect of a commit of 2412h. -/
def applyInterfaceHome (st : Stage) (_ u : State) : State :=
  if u.paired then u.moveInterface st.row (st.n 2) else u

/-- The chapter's effect of a shelf setting's row. -/
def shelfApp (win : Nat) : Stage → State → State → State :=
  match win with
  | 0x2410 => applyArrayHome
  | 0x2412 => applyInterfaceHome
  | 0x3040 => fun _ old u => u.refreshDiscovery old
  | 0x3210 => applySubsystem
  | 0x3220 => applyHost
  | 0x3224 => applyGrant
  | 0x3230 => applyNamespace
  | 0x3240 => applyListener
  | 0x5000 => applyArray
  | _ => fun _ _ u => u

/-- A slot commit that waited for the peer's consent (15 R528). -/
def slotApp (win : Nat) : Stage → State → State → State := if win = 0x5201 then applySlotSettings else applySlotPower

/-- Apply a held commit or write. -/
def State.applyHeld (s : State) (h : HeldCommit) : State :=
  match h.object with
  | some (sub, v) => s.setObj h.win sub v
  | none =>
    if h.win = 0x5201 ∨ h.win = 0x2210 then s.applyCommit h.sess h.win h.stage (slotApp h.win)
    else s.applyCommit h.sess h.win h.stage (shelfApp h.win)

/-- Take the commit that waits for the answer to record `n`. -/
def State.takeHeld (s : State) (n : RecSeq) : Option HeldCommit × State :=
  match s.twin.held.find? fun h => decide (h.seq = n) with
  | some h => (some h, { s with twin := { s.twin with held := s.twin.held.filter fun x => decide (x.seq ≠ n) } })
  | none => (none, s)

/-- The windows of Table 1. -/
def shelfWindows : List Nat := [0x2410, 0x2412, 0x2450, 0x3040, 0x3210, 0x3220, 0x3224, 0x3230, 0x3240, 0x5000]

/-- The staged form of a row that a record brings: the row's values with the record's fields in place. -/
def State.recStage (s : State) (win row : Nat) (fields : List (Nat × Val)) : Stage :=
  let st := s.loadStage win row
  { st with fields := fields.foldl (fun t e => Tbl.set t e.1 e.2) st.fields }

/-- Rows of a window that hold a value of their own. -/
def State.keptRows (s : State) (win : Nat) : List Nat :=
  ((s.dict.cur.filter fun e => decide (e.1 / 256 / 2 ^ 64 = win)).map fun e => e.1 / 256 % 2 ^ 64).eraseDups

/-- Send every row of Table 1 to the peer (R467). -/
def State.sendShelf (s : State) : State :=
  let s := s.sendRec .settings s.twin.configGen 0 32 (.settings 0x2402 0 [(1, s.val 0x2402 0 1)])
  s.each shelfWindows fun s win =>
    s.each (s.keptRows win) fun s row =>
      let fs := (s.loadStage win row).fields
      s.sendRec .settings s.twin.configGen 0 (16 + 16 * fs.length) (.settings win row fs)

/-- Forget the stored copies of Table 1; they come from the peer (R467). -/
def State.forgetShelf (s : State) : State :=
  let keep (e : Nat × Val) : Bool :=
    let idx := e.1 / 256 / 2 ^ 64
    !shelfWindows.contains idx || (decide ((idx = 0x2410 ∨ idx = 0x2412) ∧ e.1 % 256 ≠ 2)) ||
      (decide (idx = 0x3230) && [9, 0xA, 0xB].contains (e.1 % 256))
  { s with
    dict := { s.dict with cur := s.dict.cur.filter keep, store := s.dict.store.filter keep }
    twin := { s.twin with adopting := true } }

/-- Take a row that the winning module sends: an array or namespace that this module knows keeps what stands on its members. -/
def State.adoptRow (s : State) (win row : Nat) (fields : List (Nat × Val)) : State :=
  if win = 0x2402 then s.each fields fun s e => s.setObj 0x2402 e.1 e.2
  else
    let st := s.recStage win row fields
    let known := (decide (win = 0x5000) && Tbl.has s.arr.arrs row) || (decide (win = 0x3230) && Tbl.has s.nvme.ns row)
    let u := s.storeRow win st
    if known ∨ win = 0x2410 ∨ win = 0x2412 then u else shelfApp win st s u

/-! ### Pairing (14 R463 to R467, R474, R480) -/

def State.hello (s : State) : Hello :=
  { serial := s.ownSerial, firmware := s.runningVersion, configGen := s.twin.configGen, serving := decide (s.twinPhase = 3)
    role := s.ob 0x2400 2, ceiling := s.ob 0x2201 2 }

/-- A hello goes out on both lane groups, outside the record series of a pairing (log entry 75). -/
def State.sendHello (s : State) : State :=
  let r : TwinRec := { typ := .hello, epoch := s.ob 0x2402 6, bytes := 38, payload := .hello s.hello }
  let s := s.each ((List.range 2).filter fun g => bit s.twin.groups g) fun s g => (s.bump 0x2420 g 3).perf (416 + g) 1
  { s with twin := { s.twin with lastHello := some s.now } }.emit (.twinRec s.twin.groups r)

/-- Set the owner of an array. -/
def State.setOwner (s : State) (a owner : Nat) : State := (s.put 0x2410 a 3 owner).put 0x2410 a 4 0

/-- The array waits for its recovery here. -/
def State.awaitRecovery (s : State) (a : Nat) : State := (s.modArr a fun x => { x with recovering := true }).syncAna a

/-- Slots whose condition 8 was not yet decided are judged again (11 Table 2). -/
def State.retrySlots (s : State) : State :=
  s.each ((List.range 24).filter fun n => (s.slotS n).waitsTwin) State.twinCondition

/-- Send the wrapped keys and the reservations of the namespaces this module owns (06 R210, R223). -/
def State.sendKeys (s : State) : State :=
  s.each (s.nsRows.filter fun r => s.owns (s.nsArray r)) fun s r =>
    let s := match (s.ns r).storeKey with
      | some w => s.sendRec .key r 0 92 (.key (some w))
      | none => s
    s.sendResv r

/-- Mirror the dirty pages present at pairing to the joiner (R497). -/
def State.mirrorAll (s : State) : State :=
  let step (s : State) (e : Nat × GPage) : State :=
    match e.2.cur.orElse fun _ => e.2.snap with
    | none => s
    | some v =>
      let a := e.1 / 2 ^ 40
      let addr := e.1 % 2 ^ 40 * 4096
      let row := s.rowOf a addr
      let es := s.arr.intent.filter fun i => decide (i.array = a ∧ i.row = row)
      let n := s.nextRec
      let pages := ((List.range 8).filter fun k => bit v.mask k).map fun k =>
        ({ array := a, addr := addr + 512 * k, len := 512, data := slice v.data (512 * k) 512 } : MirrorPage)
      let ctx := es.length * 2 ^ 48 + s.draw % max 1 (s.ob 0x2403 2 / 4096 + 1 - pages.length) * 4096
      let s := s.drawn.sendRec .mirrorData ctx 0 (64 * es.length + 4096) (.mirror es pages)
      { s with twin := { s.twin with joining := s.twin.joining ++ [n] } }
  s.each (s.arr.pages.filter fun e => s.owns (e.1 / 2 ^ 40)) step

/-- The roles and the record series of a new pairing. -/
def State.startPairing (s : State) (role epoch : Nat) (h : Hello) : State :=
  let s := ((s.put 0x2400 0 2 role).setVal 0x2400 0 3 (.str h.serial)).put 0x2402 0 6 epoch
  { s with twin := { s.twin with
    nextSeq := 0, expected := 0, unacked := [], sendWait := [], early := [], linked := true, pairedAt := s.now
    split := decide (s.ob 0x2402 1 = 1), lastSent := some s.now, lastBeat := some s.now, lastDelivered := some s.now
    peer := some h, health := none, linkLost := false, lostAt := none, mirror := [], closed := [], joining := [], standby := []
    take := none, yieldRec := none, fitSince := none, shadowFails := [], fromMirror := [], held := [] } }

/-- Two modules that have exchanged hellos pair. -/
def State.pairWith (s : State) (r : TwinRec) (h : Hello) : State :=
  let serving := decide (s.twinPhase = 3)
  let lower := decide (s.ownSerial < h.serial)
  let role := if serving then s.ob 0x2400 2 else if h.serving then 3 - h.role else if lower then 1 else 2
  let epoch := (max (s.ob 0x2402 6) r.epoch + 1) % 65536
  let wins := serving || (!h.serving && (decide (h.configGen < s.twin.configGen) ||
    decide (h.configGen = s.twin.configGen ∧ role = 1)))
  let s := s.sendHello.startPairing role epoch h
  let s := (s.put 0x2400 0 4 2).syncCapacity
  let s := if serving then s
    else
      let owner (home : Nat) : Nat := if h.serving then h.role - 1 else home
      let s := s.each (List.range 4) fun s a => s.setOwner a (owner (s.o 0x2410 a 2))
      s.each s.ifRows fun s row => s.put 0x2412 row 3 (owner (s.o 0x2412 row 2))
  let s := s.syncShare
  let s := if wins then s.sendShelf
    else ({ s with twin := { s.twin with configGen := h.configGen } }.forgetShelf).raise .settingsReplaced [h.configGen]
  let s := if serving then
      let s := s.mirrorAll
      if s.twin.joining.isEmpty then s else s.put 0x2400 0 4 5
    else
      let s := s.each (s.arrays.filter fun a => !s.owns a) State.dropDirty
      s.each (s.arrays.filter s.owns) State.awaitRecovery
  let s := s.each s.arrays State.syncAna
  s.sendKeys.retrySlots

/-! ### Running alone and takeover (14 R465, R479, R484, R498, R500) -/

/-- Reservation commands that await the peer's confirmation complete without it (06 R210). -/
def State.ackReservations (s : State) : State :=
  s.each s.nvme.ns fun s e =>
    (s.setNs e.1 { s.ns e.1 with resvSent := [] }).each e.2.resvSent fun s x => s.succeed x.2

/-- Writes that await a confirmation are acknowledged without a mirror (R484). -/
def State.ackUnmirrored (s : State) : State :=
  let s := s.ackReservations
  let ids := (s.nvme.cmds.filter fun e => e.2.mirror.isSome && decide (e.2.stage = .confirming)).map Prod.fst
  (s.each ids State.commitWrite).syncMirror

/-- A mirror record of a taken array goes into the gather cache, its entries into the ring under numbers of this module; blocks of an
older key generation are discarded (06 R227). -/
def State.takeMirror (taken : List Nat) (s : State) (m : MirrorRec) : State :=
  let es := m.entries.filter fun e => taken.contains e.array && decide (e.keyGen = s.o 0x3230 e.nsRow 0xB)
  let base := s.arr.intentSeq
  let es := es.zipIdx.map fun e => { e.1 with seq := base + e.2 }
  let s := { s with arr := { s.arr with intentSeq := base + es.length, intent := s.arr.intent ++ es } }
  s.each (m.pages.filter fun p => taken.contains p.array) fun s p =>
    match es.find? fun e => decide (e.array = p.array ∧ e.row = s.rowOf p.array p.addr) with
    | none => s
    | some e =>
      let v : PageVer := { data := 0, mask := 0, since := s.now, seq := e.seq, nsRow := e.nsRow, keyGen := e.keyGen
                           tenant := s.nsTenant e.nsRow, cls := 1 }
      let g := p.addr / 65536
      let s := if (s.arrS p.array).used.contains g then s else s.modArr p.array fun x => { x with used := g :: x.used }
      s.putSectors v p.array p.addr (p.len / 512) p.data

/-- Every block of a write capsule is covered by mirrored entries of its namespace. -/
def State.mirrorCovers (s : State) (ctl : Ctrl) (c : Capsule) : Bool :=
  match s.nsOf ctl c.nsid with
  | none => false
  | some r =>
    let n := sumNat ((s.arr.intent.filter fun e =>
      decide (e.nsRow = r ∧ c.slba ≤ e.slba ∧ e.slba + e.count ≤ c.slba + c.nlb)).map IntentEntry.count)
    decide (c.opcode = 1 ∧ c.nlb ≤ n)

/-- The controller of an inherited queue pair, with its ID. -/
def State.inheritCtrl (s : State) (r : QpStateRec) (i : Nat) : State :=
  match r.cntlid with
  | none => s
  | some k =>
    let c := s.ctrl k
    let c := if c.state = 0 then
        { state := if r.cc % 2 = 1 then 2 else 1, hostRow := r.hostRow, subsys := r.subsys, discovery := r.discovery
          hostid := r.hostid, kato := r.kato, cc := r.cc }
      else c
    let c := { c with lastKeepAlive := s.now }
    let c := if r.qid = 0 then { c with adminQp := some i } else { c with ioQps := c.ioQps ++ [(r.qid, i)] }
    (s.setCtrl k c).syncHost c.hostRow

/-- A standby context becomes a queue pair of this module and resumes (R500). -/
def State.inherit (s : State) (wire : Nat) : State :=
  match Tbl.find? s.twin.standby wire with
  | none => s
  | some b =>
    let i := wire % 131072
    let r := b.rec_
    let s := { s with twin := { s.twin with standby := Tbl.erase s.twin.standby wire } }
    if Tbl.has s.rdma.qps i then
      { s with twin := { s.twin with take := s.twin.take.map fun (k : Takeover) => { k with lost := k.lost + 1 } } }
    else
      let q : Qp := {
        state := 2, gen := wire / 131072, tenant := r.tenant, cls := r.cls, ifRow := r.ifRow, port := r.port
        remoteIp := r.remoteIp, remoteQpn := r.remoteQpn, srcPort := r.srcPort, mtu := r.mtu, pkey := r.pkey
        cluster := r.cluster, ePsn := r.expected, nPsn := r.next, oldest := r.oldest, msn := r.msn, depth := r.depth
        alpha := (s.ob 0x3110 0xA : Rat) / 256, psnUsed := 2 ^ 24, retries := s.ob 0x3100 5, bufs := r.bufs, twin := true, commId := r.commId
        alphaAt := s.now, residentSince := s.now, privQid := r.qid, qid := r.qid, hsqsize := r.hsqsize, cntlid := r.cntlid
        sqhd := r.sqhd
        sent := r.sent.map fun p => ({ pkt := { p with cmd := none }, at_ := s.now, retx := true } : SentPkt)
        reads := r.reads.map fun x =>
          ({ psn := x.1, len := x.2.1, cmd := s.nvme.nextCmd + 2 ^ 32, va := x.2.2.1, rkey := x.2.2.2, at_ := s.now
             retx := true } : ReadReq) }
      let s := (s.setQp i (s.setWindow q (s.ob 0x3110 1 : Nat))).inheritCtrl r i
      let ctl := s.ctrl (r.cntlid.getD 0)
      let done := (b.caps.filter fun c => s.mirrorCovers ctl c).map fun c => (i, c.cid)
      let s := { s with twin := { s.twin with
        fromMirror := s.twin.fromMirror ++ done, take := s.twin.take.map fun (k : Takeover) => { k with continued := k.continued + 1 } } }
      let s := s.retransmitFrom i r.oldest
      s.each b.caps fun s c => s.deliverCapsule i c

/-- Crypto-erases that came during the takeover start (Table 7). -/
def State.startErases (s : State) : State :=
  s.each s.nvme.ns fun s e =>
    match e.2.eraseLater with
    | some (sc, deleting) =>
      (s.setNs e.1 { s.ns e.1 with eraseLater := none }).startErase e.1 e.2.eraseCmd deleting sc
    | none => s

/-- Step 7 of Table 6: every taken array has been recovered; inherited queue pairs resume, and the peer is told. -/
def State.finishTakeover (s : State) : State :=
  match s.twin.take with
  | none => s
  | some k =>
    if k.left.isEmpty then
      let s := s.each (s.twin.standby.map Prod.fst) State.inherit
      let bits := sumNat (k.taken.map fun a => 2 ^ a)
      let k := s.twin.take.getD k
      let s := if s.twin.linked then s.sendRec .takeoverComplete bits 0 0 .none else s
      let s := ((s.put 0x2430 0 1 k.ptp0.toNat).put 0x2430 0 2 ((s.now - k.t0) / 1000)).put 0x2430 0 3 bits
      let s := ((s.put 0x2430 0 4 k.trigger).put 0x2430 0 5 k.continued).put 0x2430 0 6 k.lost
      (s.raise .takeover [bits, k.trigger]).startErases
    else s

/-- Take over (R498, Table 6): 1 by a record, 2 by the line, 3 at a lost link, 4 by the operator. A module under a storm
warning never does (15 R538). -/
def State.takeOver (s : State) (trigger : Nat) : State :=
  if s.silent || s.twin.take.any (fun k => !k.left.isEmpty) then s
  else
    let me := s.ownIndex
    let taken := s.arrays.filter fun a => decide (s.o 0x2410 a 3 ≠ me ∨ s.o 0x2410 a 4 = 2)
    let k : Takeover := { t0 := s.now, ptp0 := s.ptpNow, trigger := trigger, left := taken, taken := taken }
    let hs := s.twin.held
    let s := { s with twin := { s.twin with take := some k, closed := taken, held := [], joining := [], recheck := none } }
    let s := s.put 0x2400 0 4 3
    -- a drain is abandoned, and the activation waits (17 Table 9)
    let s := if s.fw.drainAt.isSome then ({ s with fw := { s.fw with drainAt := none } }).put 0x2302 0 6 2 else s
    -- a settings commit as the peer yields applies locally (Table 7)
    let s := s.each hs fun s h =>
      if h.win = 0x5201 ∨ h.win = 0x2210 then s.reply h.sess abState
      else ((s.applyHeld h).configStep h.win (match h.object with | some o => o.1 | none => 0)).reply h.sess 0
    let s := s.releaseAcks
    let s := if s.twin.yieldIn || decide (s.ob 0x2400 6 = 1) then s.ackUnmirrored else s
    let s := s.each (List.range 4) fun s a => s.setOwner a me
    let s := s.each (s.arrays.filter fun a => !taken.contains a) State.syncAna
    let ms := s.twin.mirror
    let s := { s with twin := { s.twin with mirror := [] } }
    let s := (s.each ms (State.takeMirror taken)).syncMirror.syncDirty
    let s := s.each taken State.awaitRecovery
    let rows := s.ifRows.filter fun r => decide (s.o 0x2412 r 3 ≠ me)
    let s := s.each rows fun s r => (s.put 0x2412 r 3 me).announceRow r
    s.finishTakeover

/-- Run alone with the arrays that `own` names as its own (R465, R479). -/
def State.runAlone (s : State) (all : Bool) : State :=
  let me := s.ownIndex
  let s := { s with twin := { s.twin with joining := [], recheck := none } }
  let s := (s.put 0x2400 0 4 3).releaseAcks
  let s := if all then
      let s := s.each (List.range 4) fun s a => s.setOwner a me
      let s := s.each s.ifRows fun s r => s.put 0x2412 r 3 me
      s.each s.arrays State.awaitRecovery
    else s
  (s.each s.arrays State.syncAna).retrySlots

/-- An array's recovery has ended: a transfer is complete, a takeover goes on (Table 6 step 6). -/
def State.recovered (s : State) (a : Nat) : State :=
  let s := s.when (decide (s.o 0x2410 a 4 = 2)) fun s => (s.put 0x2410 a 4 0).syncAna a
  match s.twin.take with
  | some k =>
    if k.left.contains a then
      ({ s with twin := { s.twin with take := some { k with left := k.left.filter fun b => decide (b ≠ a) } } }).finishTakeover
    else s
  | none => s

/-- ARRAY_RECOVERY (10 R366 to R368), at boot, after a transfer and at a takeover. -/
def arrayRecovers (a : Nat) (e : RecoveryEnv) (s : State) : State :=
  let u := arrayRecovery a e s
  if (s.arrS a).recovering && !(u.arrS a).recovering then u.recovered a else u

def execArrayRecovery (t array : Nat) (env : RecoveryEnv) (s : State) : Res :=
  act t (isArray array) s (arrayRecovers array env)

/-- Draining owners whose array is clean and idle hand it over (R471 steps 2 and 3); the mirror window is open for it from then on. -/
def State.endTransfers (s : State) : State :=
  s.each (s.arrays.filter fun a => s.owns a && decide (s.o 0x2410 a 4 = 1)) fun s a =>
    let busy := s.nvme.cmds.any fun e => s.isIoCmd e.2 && decide (s.nsArray e.2.nsRow = a)
    if (s.pagesOf a).isEmpty && !busy && !(s.arr.flushes.any fun e => decide (e.1 / 2 ^ 40 = a)) then
      let s := s.sendRec .ownershipTransfer a 0 0 .none
      let s := { s with twin := { s.twin with closed := s.twin.closed.filter fun b => decide (b ≠ a) } }
      (s.setOwner a (1 - s.ownIndex)).syncAna a
    else s

/-! ### The yield line (14 R494, R495) -/

/-- Declare YIELD_IN_N faulty: it is ignored from then on. -/
def State.lineFaulty (s : State) : State :=
  if s.ob 0x2400 6 = 1 then s else (s.put 0x2400 0 6 1).raise .yieldLineFaulty

/-- The two criteria that time decides: asserted for 100 ms while the peer shows itself serving, or deasserted 100 ms after
its yield record. -/
def State.checkLine (s : State) : State :=
  let w := 100 * msNs
  let shows := match s.twin.health with
    | some (u, h) => decide (s.now < u + 2 * sNs ∧ h.verdict = 0)
    | none => false
  let beats := match s.twin.lastDelivered with
    | some u => decide (s.now < u + s.ob 0x2402 5 * 1000)
    | none => false
  let a := s.twin.linked && s.twin.yieldRec.isNone && beats && s.twin.yieldIn && shows && dueAt s.now s.twin.yieldInSince w && dueAt s.now s.twin.pairedAt w
  let b := match s.twin.yieldRec with
    | some u => !s.twin.yieldIn && dueAt s.now u w
    | none => false
  if a || b then s.lineFaulty else s

end Sys2Proof.Machine
end

