-- ==== Sys2Proof/Machine/Twin.lean ====
section
/-! DEFINITION. The twin link (14): what each record does when it is delivered, how arriving copies are sorted, the link's timers,
and the lane groups. -/

namespace Sys2Proof.Machine

/-! ### Delivered records (14 Table 3) -/

/-- Reject a mirror data record: 1 window closed, 2 malformed (R485). -/
def State.rejectRec (s : State) (r : TwinRec) (reason : Nat) : State :=
  (s.sendRec .reject reason r.seq 0 .none).bump 0x2403 0 5

/-- Mirror data (R482, R485). It ends Lull (15 R548). -/
def State.onMirrorData (s : State) (r : TwinRec) (es : List IntentEntry) (pages : List MirrorPage) : State :=
  let s := s.thawNow
  let off := r.ctx % 2 ^ 48
  if es.any (fun e => s.twin.closed.contains e.array) then s.rejectRec r 1
  else if s.ob 0x2403 2 < off + 4096 * windowPages pages then
    (s.rejectRec r 2).violation false 5 0 (0x2403 * 256 + 5) 2
  else
    let s := { s with twin := { s.twin with mirror := s.twin.mirror ++ [(⟨off, es, pages⟩ : MirrorRec)] } }
    -- the peer's key generation travels with its entries (06 R227)
    let s := s.each es fun s e => s.put 0x3230 e.nsRow 0xB e.keyGen
    (s.sendRec .mirrorConfirm 0 r.seq 0 .none).syncMirror

/-- The command whose mirror record carries a number. -/
def State.mirrorCmd (s : State) (n : RecSeq) : Option Nat :=
  (s.nvme.cmds.find? fun e => decide (e.2.mirror = some n)).map Prod.fst

/-- Mirror confirm (01 R36): the write is acknowledged; pages present at pairing are counted off (R497). -/
def State.onMirrorConfirm (s : State) (r : TwinRec) : State :=
  let left := s.twin.joining.filter fun n => decide (n ≠ r.ref)
  let s := { s with twin := { s.twin with joining := left } }
  let s := if left.isEmpty ∧ s.twinPhase = 5 then s.put 0x2400 0 4 2 else s
  match s.mirrorCmd r.ref with
  | some id => if (s.cmd id).stage = .confirming then (s.commitWrite id).syncMirror else s
  | none => s

/-- Mirror release (R483): the named entries retire, and pages that no entry names any more are freed. -/
def State.onMirrorRelease (s : State) (a : Nat) (rs : List (Nat × Nat)) : State :=
  let gone (e : IntentEntry) : Bool := decide (e.array = a) && rs.any fun x => decide (x.1 ≤ e.seq ∧ e.seq ≤ x.2)
  let ms := s.twin.mirror.map fun (m : MirrorRec) =>
    let es := m.entries.filter fun e => !gone e
    let named (p : MirrorPage) : Bool := es.any fun e => decide (e.array = p.array ∧ e.row = s.rowOf p.array p.addr)
    { m with entries := es, pages := m.pages.filter named }
  ({ s with twin := { s.twin with mirror := ms.filter fun m => !m.entries.isEmpty } }).syncMirror

/-- Reject (R485): the write concerned is never acknowledged. -/
def State.onReject (s : State) (r : TwinRec) : State :=
  let s := s.bump 0x2403 0 6
  match s.mirrorCmd r.ref with
  | some id => (s.setCmd id { s.cmd id with mirror := none }).syncMirror
  | none => s

/-- The check that the receiver of a settings record makes of it under its own rules (R466). -/
def State.settingsCode (s : State) (win row : Nat) (fields : List (Nat × Val)) : Abort :=
  if win = 0x2402 then firstCode (fields.map fun e => writeRange 0x2402 e.1 e.2)
  else
    let st := s.recStage win row fields
    firstCode [need (shelfWindows.contains win) abNoIndex, s.changedRange win st, shelfCode win {} st s]

/-- Settings (R466): checked and applied with the answer, or taken as the winner's stored copies after a pairing (R467). -/
def State.onSettings (s : State) (r : TwinRec) (win row : Nat) (fields : List (Nat × Val)) : State :=
  if s.twin.adopting then s.adoptRow win row fields
  else if s.settingsCode win row fields = 0 then
    let st := s.recStage win row fields
    let s := if win = 0x2402 then s.each fields fun s e => s.setObj 0x2402 e.1 e.2
      else shelfApp win st s (s.storeRow win st)
    s.sendRec .settingsResult 0 r.seq 0 .none
  else s.sendRec .settingsResult 1 r.seq 0 .none

/-- The peer holds a reservation change: the command that made it completes (06 R210). -/
def State.confirmResv (s : State) (ref : RecSeq) : State :=
  s.each s.nvme.ns fun s e =>
    let done := e.2.resvSent.filter fun x => decide (x.1 = ref)
    if done.isEmpty then s
    else
      (s.setNs e.1 { s.ns e.1 with resvSent := e.2.resvSent.filter fun x => decide (x.1 ≠ ref) }).each done fun s x => s.succeed x.2

/-- Settings result (R466). -/
def State.onSettingsResult (s : State) (r : TwinRec) : State :=
  match s.takeHeld r.ref with
  | (some h, s) => if r.ctx = 0 then (s.applyHeld h).reply h.sess 0 else s.reply h.sess abState
  | (none, s) => s.confirmResv r.ref

def State.standbyOf (s : State) (wire : Nat) : Standby := Tbl.get { rec_ := {} } s.twin.standby wire

def State.setStandby (s : State) (wire : Nat) (b : Standby) : State :=
  { s with twin := { s.twin with standby := Tbl.set s.twin.standby wire b } }

/-- Capsule (R487): a host packet that carries a capsule or a part of one. -/
def State.onCapsule (s : State) (wire : Nat) (p : RocePkt) : State :=
  let b := s.standbyOf wire
  let cap := match p.capsule with
    | some c => some c
    | none => if RoceOp.opens p.op then none else b.openCap
  if RoceOp.closes p.op then
    s.setStandby wire { b with openCap := none, caps := b.caps ++ cap.toList }
  else s.setStandby wire { b with openCap := cap }

/-- Capsules whose response is among some packets are answered. -/
def answeredBy (ps : List TxPkt) (caps : List Capsule) : List Capsule :=
  caps.filter fun c => !(ps.any fun p => match p.cqe with
    | some e => decide (e.cid = c.cid)
    | none => false)

/-- QP state (R487); a final state passes the queue pair to this module (R471). -/
def State.onQpState (s : State) (wire : Nat) (q : QpStateRec) : State :=
  let b := s.standbyOf wire
  let s := s.setStandby wire { b with rec_ := q, caps := answeredBy q.sent b.caps }
  if q.final then s.inherit wire else s

/-- Twin packet (R488, R489): transmitted once from the logical port of the same number, or skipped while it is down. -/
def State.onTwinPacket (s : State) (wire : Nat) (p : TxPkt) : State :=
  match Tbl.find? s.twin.standby wire with
  | none => s
  | some b =>
    let r := b.rec_
    let s := s.setStandby wire { b with caps := answeredBy [p] b.caps }
    if s.portUp r.port then
      let q : Qp := { ifRow := r.ifRow, remoteIp := r.remoteIp }
      let f : EgFrame := { msg := .roce (131072 + wire % 131072) { p with destQp := r.remoteQpn }, tenant := r.tenant
                           cls := r.cls, len := s.packetLen q p, ect := decide (s.ob 0x3013 0 = 1) }
      (s.bump 0x2403 0 7).enqueue r.port f
    else s.bump 0x2403 0 8

/-- Yield (R498): the peer is silent. -/
def State.onYield (s : State) : State :=
  let s := { s with twin := { s.twin with yieldRec := some s.now } }
  if s.paired then s.takeOver 1 else s

/-- Takeover complete (R496). -/
def State.onTakeoverComplete (s : State) : State :=
  if s.twinPhase = 4 then { s with twin := { s.twin with takerDone := some s.now } } else s

/-- Ownership transfer (R471 step 4): the mirror window closes for the array, and it is assembled here. -/
def State.onTransfer (s : State) (a : Nat) : State :=
  if s.arrOn a && !s.owns a && !s.silent then
    let s := { s with twin := { s.twin with closed := a :: s.twin.closed } }
    ((s.put 0x2410 a 3 s.ownIndex).put 0x2410 a 4 2).awaitRecovery a
  else s

/-- Put a health report into a row of 2440h. -/
def State.showHealth (s : State) (row : Nat) (h : Health) : State :=
  let s := ((s.put 0x2440 row 2 h.time).put 0x2440 row 3 h.verdict).put 0x2440 row 4 h.items
  let s := ((s.put 0x2440 row 5 (if h.fit then 1 else 0)).put 0x2440 row 6 h.reachable).put 0x2440 row 7 h.shadowReads
  let s := ((s.put 0x2440 row 8 h.shadowFailures).put 0x2440 row 9 h.rowsVerified).put 0x2440 row 0xA h.mismatches
  let s := ((s.put 0x2440 row 0xB h.codewords).put 0x2440 row 0xC h.voltage).put 0x2440 row 0xD h.days
  ((s.setVal 0x2440 row 0xE (.real h.forecast)).put 0x2440 row 0xF h.ceiling).put 0x2440 row 0x10 h.firmware

/-- Since when the peer is fit without a break (R497). -/
def State.markFit (s : State) : State :=
  let f := if s.peerFit then (if s.twin.fitSince.isSome then s.twin.fitSince else some s.now) else none
  { s with twin := { s.twin with fitSince := f } }

/-- Health report (R491): the peer's fitness and ceiling; twin queue pairs whose copies had stopped start them again. -/
def State.onHealth (s : State) (h : Health) : State :=
  let s := { s with twin := { s.twin with
    health := some (s.now, h), peer := s.twin.peer.map fun (p : Hello) => { p with ceiling := h.ceiling } } }
  let s := ((s.showHealth 1 h).syncShare).markFit
  let qs := (s.rdma.qps.filter fun e => e.2.twin && !e.2.copying && e.2.twinWait.isNone).map Prod.fst
  s.each qs State.startCopies

/-- The drive of a slot is within this module's reach (11 Table 2 condition 8). -/
def State.reaches (s : State) (n : Nat) : Bool := (s.slotS n).linkUp

/-- The power of a slot may be cycled for the peer: the drive is no active member of an array this module owns, and the peer has
not yielded (11 R397, 15 R528, 14 Table 7). -/
def State.consents (s : State) (n : Nat) : Bool :=
  s.paired && match s.memberIn n with
    | some (a, m) => !(s.owns a && decide (s.memState a m = 1))
    | none => true

/-- Drive request: 1 asks the reach of a drive, 2 the consent to a power cycle. -/
def State.onDriveRequest (s : State) (r : TwinRec) (kind : Nat) : State :=
  let yes := if kind = 1 then s.reaches r.ctx else s.consents r.ctx
  s.sendRec .driveReply r.ctx r.seq 4 (.code (if yes then 0 else 1))

/-- Drive reply: it ends the bring-up condition, the reset ladder's question or a slot commit. -/
def State.onDriveReply (s : State) (r : TwinRec) (answer : Nat) : State :=
  match (List.range 24).find? fun n => decide ((s.slotS n).askPeer = some r.ref) with
  | some n =>
    let kind := (s.slotS n).askKind
    let s := s.modSlot n fun x => { x with askPeer := none }
    if kind = 1 then (if answer = 0 then s.finishReady n else s.refuseDrive n 8)
    else if answer = 0 then s.ladderStep n 5
    else (s.driveGone n 10).raise .resetRefused [n]
  | none =>
    match s.takeHeld r.ref with
    | (some h, s) => if answer = 0 then (s.applyHeld h).reply h.sess 0 else s.reply h.sess abState
    | (none, s) => s

/-- Reservation of a namespace (06 R210; log entry 155): it is taken over and confirmed. -/
def State.onReservation (s : State) (r : TwinRec) (x : Resv) : State :=
  (s.setNs r.ctx { s.ns r.ctx with resv := x }).sendRec .settingsResult 0 r.seq 0 .none

/-- Key (06 R223, R227): a wrapped namespace key to keep, or an erase notice: the copy is zeroised, the mirrored data dropped. -/
def State.onKey (s : State) (r : TwinRec) (key : Option Nat) : State :=
  let n := r.ctx
  match key with
  | some k =>
    (match (Tbl.find? s.nvme.keks (s.nsTenant n)).bind fun kek => unwrapKey kek k with
    | some key =>
      let take (s : State) : State := s.setNs n { s.ns n with key := some key, storeKey := some k }
      let s := if (s.ns n).erasing && !s.makesKey n then s.finishErase n take else take s
      (s.syncNsState n).sendRec .keyReply n r.seq 4 (.code 0)
    | none => s.sendRec .keyReply n r.seq 4 (.code 1))
  | none =>
    let ms := s.twin.mirror.map fun (m : MirrorRec) =>
      let es := m.entries.filter fun e => decide (e.nsRow ≠ n)
      { m with entries := es, pages := m.pages.filter fun p =>
          es.any fun e => decide (e.array = p.array ∧ e.row = s.rowOf p.array p.addr) }
    let s := ({ s with twin := { s.twin with mirror := ms.filter fun m => !m.entries.isEmpty } } : State).zeroKey n
    let s := if s.o 0x3230 n 2 = 1 then (s.setNs n { s.ns n with erasing := true }).syncNsState n else s
    s.syncMirror.sendRec .keyReply n r.seq 4 (.code 0)

/-- Key reply: the peer has zeroised its copy (06 R227 step 3). -/
def State.onKeyReply (s : State) (r : TwinRec) (answer : Nat) : State :=
  let x := s.ns r.ctx
  if x.keyAsked = some r.ref ∧ answer = 0 then s.setNs r.ctx { x with keyAsked := none, keyDone := true } else s

/-- What a delivered record does, by its type; its payload must be of that type. A record that only a paired module serves
does nothing on another. -/
def State.actOn (s : State) (r : TwinRec) : State :=
  let paired (f : State → State) : State := if s.paired then f s else s
  match r.typ, r.payload with
  | .mirrorData, .mirror es ps => paired fun s => s.onMirrorData r es ps
  | .mirrorConfirm, _ => paired fun s => s.onMirrorConfirm r
  | .mirrorRelease, .ranges rs => paired fun s => s.onMirrorRelease r.ctx rs
  | .reject, _ => paired fun s => s.onReject r
  | .settings, .reservation regs h ty gen ptpl => paired fun s => s.onReservation r { regs := regs, holder := h, rtype := ty, gen := gen, ptpl := ptpl }
  | .settings, .settings win row fs => paired fun s => s.onSettings r win row fs
  | .settingsResult, _ => s.onSettingsResult r
  | .capsule, .packet p => paired fun s => s.onCapsule r.ctx p
  | .qpState, .qpState q => paired fun s => s.onQpState r.ctx q
  | .twinPacket, .twinPacket p => paired fun s => s.onTwinPacket r.ctx p
  | .yield, _ => s.onYield
  | .takeoverComplete, _ => s.onTakeoverComplete
  | .ownershipTransfer, _ => paired fun s => s.onTransfer r.ctx
  | .healthReport, .health h => s.onHealth h
  | .driveRequest, .code k => s.onDriveRequest r k
  | .driveReply, .code k => s.onDriveReply r k
  | .key, .key k => paired fun s => s.onKey r k
  | .keyReply, .code k => s.onKeyReply r k
  | _, _ => s

/-- A hello pairs two modules of which this one is not yet paired (R463, R464; log entry 75); two modules that both serve do
not pair. -/
def State.onHello (s : State) (r : TwinRec) (h : Hello) : State :=
  if s.twin.twinMode && decide (s.twinPhase = 1 ∨ s.twinPhase = 3) && !s.silent &&
      !(decide (s.twinPhase = 3) && h.serving) && !(s.twin.take.any fun k => !k.left.isEmpty) then
    s.pairWith r h
  else s

/-- Deliver a record of the series: it acknowledges, it shows the link alive, and it acts. The winner's settings end with the
first record of another type (R467). -/
def State.deliver (s : State) (r : TwinRec) : State :=
  let s := { s with twin := { s.twin with
    expected := if r.seq = s.twin.expected then s.twin.expected + 1 else s.twin.expected
    lastDelivered := some s.now, linkLost := false, lostAt := none
    adopting := s.twin.adopting && decide (r.typ = RecType.settings) } }
  (s.takeAck r.ack).actOn r

/-- Deliver held records that follow in unbroken order. -/
def State.deliverHeld : Nat → State → State
  | 0, s => s
  | n + 1, s =>
    match s.twin.early.find? fun r => decide (r.seq = s.twin.expected) with
    | none => s
    | some r =>
      State.deliverHeld n (({ s with twin := { s.twin with early := s.twin.early.erase r } }).deliver r)

/-- TWIN_RECORD_COPY (R476): `corrected` and `uncorrectable` FEC codewords carried it (2420h:09 and 0Ah). Copies are checked in the order of the rule. A hello reaches a module that is not paired outside
the record series. -/
def twinRecordCopy (g : Nat) (r : TwinRec) (headerOk payloadOk : Bool) (corrected uncorrectable : Nat) (s : State) : State :=
  let s := (s.bump 0x2420 g 4).perf (418 + g) 1
  let s := (s.add 0x2420 g 9 corrected).add 0x2420 g 0xA uncorrectable
  if headerOk = false then s.bump 0x2420 g 6
  else
    match r.typ, r.payload with
    | .hello, .hello h =>
      if payloadOk = false then s.bump 0x2420 g 7
      else if s.twin.linked && s.paired then s
      else s.onHello r h
    | _, _ =>
      if s.twin.linked = false ∨ r.epoch ≠ s.ob 0x2402 6 then s
      else if recBehind r.seq s.twin.expected then s.bump 0x2420 g 5
      else if payloadOk = false then s.bump 0x2420 g 7
      else if r.seq = s.twin.expected then
        let u := s.deliver r
        State.deliverHeld u.twin.early.length u
      else if (r.seq - s.twin.expected).toNat ≤ 65536 then
        if s.twin.early.any fun x => decide (x.seq = r.seq) then s else { s with twin := { s.twin with early := s.twin.early ++ [r] } }
      else s

def execTwinRecordCopy (t group : Nat) (r : TwinRec) (crc : RecordChecks) (fec : FecCounts) (s : State) : Res :=
  act t (isGroup group) s (twinRecordCopy group r crc.headerOk crc.payloadOk fec.corrected fec.uncorrectable)

/-- A record of one type is delivered. -/
def deliverAs (ty : RecType) (r : TwinRec) (s : State) : State :=
  if r.typ = ty ∧ s.twin.linked = true then s.deliver r else s

/-- HELLO. -/
def hello (r : TwinRec) (s : State) : State :=
  match r.typ, r.payload with
  | .hello, .hello h => if s.twin.linked && s.paired then s else s.onHello r h
  | _, _ => s

def execHello (t : Nat) (r : TwinRec) (s : State) : Res := act t true s (hello r)

def heartbeat (r : TwinRec) (s : State) : State := deliverAs .heartbeat r s
def execHeartbeat (t : Nat) (r : TwinRec) (s : State) : Res := act t true s (heartbeat r)

def acknowledge (r : TwinRec) (s : State) : State := deliverAs .acknowledge r s
def execAcknowledge (t : Nat) (r : TwinRec) (s : State) : Res := act t true s (acknowledge r)

def mirrorData (r : TwinRec) (s : State) : State := deliverAs .mirrorData r s
def execMirrorData (t : Nat) (r : TwinRec) (s : State) : Res := act t true s (mirrorData r)

def mirrorConfirm (r : TwinRec) (s : State) : State := deliverAs .mirrorConfirm r s
def execMirrorConfirm (t : Nat) (r : TwinRec) (s : State) : Res := act t true s (mirrorConfirm r)

def mirrorRelease (r : TwinRec) (s : State) : State := deliverAs .mirrorRelease r s
def execMirrorRelease (t : Nat) (r : TwinRec) (s : State) : Res := act t true s (mirrorRelease r)

def reject (r : TwinRec) (s : State) : State := deliverAs .reject r s
def execReject (t : Nat) (r : TwinRec) (s : State) : Res := act t true s (reject r)

def settings (r : TwinRec) (s : State) : State := deliverAs .settings r s
def execSettings (t : Nat) (r : TwinRec) (s : State) : Res := act t true s (settings r)

def settingsResult (r : TwinRec) (s : State) : State := deliverAs .settingsResult r s
def execSettingsResult (t : Nat) (r : TwinRec) (s : State) : Res := act t true s (settingsResult r)

def capsule (r : TwinRec) (s : State) : State := deliverAs .capsule r s
def execCapsule (t : Nat) (r : TwinRec) (s : State) : Res := act t true s (capsule r)

def qpState (r : TwinRec) (s : State) : State := deliverAs .qpState r s
def execQpState (t : Nat) (r : TwinRec) (s : State) : Res := act t true s (qpState r)

def twinPacket (r : TwinRec) (s : State) : State := deliverAs .twinPacket r s
def execTwinPacket (t : Nat) (r : TwinRec) (s : State) : Res := act t true s (twinPacket r)

def yield (r : TwinRec) (s : State) : State := deliverAs .yield r s
def execYield (t : Nat) (r : TwinRec) (s : State) : Res := act t true s (yield r)

def takeoverComplete (r : TwinRec) (s : State) : State := deliverAs .takeoverComplete r s
def execTakeoverComplete (t : Nat) (r : TwinRec) (s : State) : Res := act t true s (takeoverComplete r)

def ownershipTransfer (r : TwinRec) (s : State) : State := deliverAs .ownershipTransfer r s
def execOwnershipTransfer (t : Nat) (r : TwinRec) (s : State) : Res := act t true s (ownershipTransfer r)

def healthReport (r : TwinRec) (s : State) : State := deliverAs .healthReport r s
def execHealthReport (t : Nat) (r : TwinRec) (s : State) : Res := act t true s (healthReport r)

def driveRequest (r : TwinRec) (s : State) : State := deliverAs .driveRequest r s
def execDriveRequest (t : Nat) (r : TwinRec) (s : State) : Res := act t true s (driveRequest r)

def driveReply (r : TwinRec) (s : State) : State := deliverAs .driveReply r s
def execDriveReply (t : Nat) (r : TwinRec) (s : State) : Res := act t true s (driveReply r)

def key (r : TwinRec) (s : State) : State := deliverAs .key r s
def execKey (t : Nat) (r : TwinRec) (s : State) : Res := act t true s (key r)

def keyReply (r : TwinRec) (s : State) : State := deliverAs .keyReply r s
def execKeyReply (t : Nat) (r : TwinRec) (s : State) : Res := act t true s (keyReply r)

/-! ### Timers of the link (14 R463, R477, R466) -/

/-- An instant lies at least `d` back, or there is none. -/
def State.since (s : State) (u : Option Nat) (d : Nat) : Bool :=
  match u with
  | some t => dueAt s.now t d
  | none => true

/-- HELLO_SEND: every 1 ms while the module is not paired. -/
def helloSend (s : State) : State :=
  if s.twin.twinMode && decide (s.twinPhase = 1 ∨ s.twinPhase = 3) && !s.silent && s.since s.twin.lastHello msNs then s.sendHello
  else s

def execHelloSend (t : Nat) (s : State) : Res := act t true s helloSend

/-- ACKNOWLEDGE_SEND_TIMER: nothing has been sent for 2 µs. -/
def acknowledgeSendTimer (s : State) : State :=
  if s.twin.linked && s.since s.twin.lastSent 2000 then s.sendRec .acknowledge 0 0 0 .none else s

def execAcknowledgeSendTimer (t : Nat) (s : State) : Res := act t true s acknowledgeSendTimer

/-- HEARTBEAT_SEND_TIMER: nothing else waits to be sent, and the last heartbeat lies 50 µs back. -/
def heartbeatSendTimer (s : State) : State :=
  if s.twin.linked && s.twin.sendWait.isEmpty && s.since s.twin.lastBeat 50000 then
    { s with twin := { s.twin with lastBeat := some s.now } }.sendRec .heartbeat 0 0 0 .none
  else s

def execHeartbeatSendTimer (t : Nat) (s : State) : Res := act t true s heartbeatSendTimer

/-- TWIN_RETRANSMIT: a record unacknowledged after 2402h:03 goes out again on every group in service. -/
def twinRetransmit (n : RecSeq) (s : State) : State :=
  match s.twin.unacked.find? fun u => decide (u.rec_.seq = n) with
  | some u =>
    if s.twin.linked && dueAt s.now u.at_ (s.ob 0x2402 3 * 1000) then
      let g := s.twin.groups
      let r := { u.rec_ with retransmission := true, ack := s.twin.expected }
      let us := s.twin.unacked.map fun x => if x.rec_.seq = n then { x with at_ := s.now, groups := g } else x
      let s := { s with twin := { s.twin with unacked := us, lastSent := some s.now } }
      let s := s.each ((List.range 2).filter fun k => bit g k) fun s k =>
        ((s.bump 0x2420 k 3).bump 0x2420 k 8).perf (416 + k) 1
      s.emit (.twinRec g r)
    else s
  | none => s

def execTwinRetransmit (t : Nat) (seq : RecSeq) (s : State) : Res := act t true s (twinRetransmit seq)

/-- SETTINGS_RESULT_TIMEOUT: commits without an answer for 100 ms are refused (R466). -/
def settingsResultTimeout (s : State) : State :=
  let late := s.twin.held.filter fun h => dueAt s.now h.since (100 * msNs)
  let s := { s with twin := { s.twin with held := s.twin.held.filter fun h => !dueAt s.now h.since (100 * msNs) } }
  s.each late fun s h => s.reply h.sess abState

def execSettingsResultTimeout (t : Nat) (s : State) : Res := act t true s settingsResultTimeout

/-! ### Lane groups (14 R478) -/

/-- LANE_GROUP_OUT_OF_SERVICE. -/
def laneGroupOutOfService (g : Nat) (s : State) : State :=
  if s.twin.twinMode && decide (s.o 0x2420 g 2 = 2) then s.setGroup g 3 else s

def execLaneGroupOutOfService (t group : Nat) (s : State) : Res := act t (isGroup group) s (laneGroupOutOfService group)

/-- LANE_GROUP_RETRAIN: 10 s after it went out of service. -/
def laneGroupRetrain (g : Nat) (s : State) : State :=
  match Tbl.find? s.twin.outOf g with
  | some u => if dueAt s.now u (10 * sNs) then s.setGroup g 1 else s
  | none => s

def execLaneGroupRetrain (t group : Nat) (s : State) : Res := act t (isGroup group) s (laneGroupRetrain group)

/-- LANE_GROUP_IN_SERVICE: the group has finished training. -/
def laneGroupInService (g : Nat) (s : State) : State :=
  if s.twin.twinMode && decide (s.o 0x2420 g 2 < 2) then s.setGroup g 2 else s

def execLaneGroupInService (t group : Nat) (s : State) : Res := act t (isGroup group) s (laneGroupInService group)

end Sys2Proof.Machine
end

