-- ==== Sys2Proof/Machine/TwinRows.lean ====
section
/-! DEFINITION. The self-verdict, yield and takeover, changes of home, the standby's self-test and health reports (14), and
plane faults (03 R81, R82). -/

namespace Sys2Proof.Machine

/-! ### Running alone, a lost link (14 R465, R479) -/

/-- TWIN_SETTLE_EXPIRY: `otherDown` of the drives present report the link of their other port as down. -/
def twinSettleExpiry (otherDown : Nat) (s : State) : State :=
  if s.twin.twinMode && decide (s.twinPhase = 1) && !s.silent && dueAt s.now s.twin.settleFrom (s.ob 0x2401 1 * sNs) then
    let present := ((List.range 24).filter fun n => (s.slotS n).prsnt).length
    if s.twin.yieldIn = true ∧ present < 2 * otherDown then (s.put 0x2400 0 2 1).runAlone true
    else if s.since s.twin.lastUnpaired (60 * sNs) then
      { s with twin := { s.twin with lastUnpaired := some s.now } }.raise .twinUnpaired
    else s
  else s

def execTwinSettleExpiry (t otherDown : Nat) (s : State) : Res := act t true s (twinSettleExpiry otherDown)

/-- No record delivered, or one unacknowledged, for the link-lost time. -/
def State.linkGone (s : State) : Bool :=
  let w := s.ob 0x2402 5 * 1000
  s.since s.twin.lastDelivered w || s.twin.unacked.any fun u => dueAt s.now u.first w

/-- TWIN_LINK_LOST. -/
def twinLinkLost (s : State) : State :=
  if s.paired && !s.twin.linkLost && s.linkGone then
    let faulty := decide (s.ob 0x2400 6 = 1)
    let s := { s with twin := { s.twin with linkLost := true, lostAt := some s.now } }
    if s.twin.yieldIn && !faulty then s.takeOver 3
    else if s.ob 0x2400 2 = 2 then
      ((s.put 0x2404 0 1 1).put 0x2404 0 2 (setBit (s.ob 0x2404 2) 10)).yieldNow (setBit (s.ob 0x2404 2) 10)
    else s
  else s

def execTwinLinkLost (t : Nat) (s : State) : Res := act t true s twinLinkLost

/-- RUN_ALONE_WAIT_EXPIRY: with the line faulty, module A runs alone for its own arrays 10 ms after the loss. -/
def runAloneWaitExpiry (s : State) : State :=
  match s.twin.lostAt with
  | some u =>
    if s.paired && s.twin.linkLost && decide (s.ob 0x2400 6 = 1 ∧ s.ob 0x2400 2 = 1) && dueAt s.now u (10 * msNs) then
      (s.runAlone false).ackUnmirrored
    else s
  | none => s

def execRunAloneWaitExpiry (t : Nat) (s : State) : Res := act t true s runAloneWaitExpiry

/-- FORCE_TAKEOVER: refused unless the link is lost with the line faulty. -/
def forceTakeoverCode (v : Nat) (s : State) : Abort :=
  firstCode [need (decide (v = 1)) abRange, need (s.twin.linkLost && decide (s.ob 0x2400 6 = 1) && !s.silent) abState]

def forceTakeover (sess v : Nat) (s : State) : State :=
  s.writeAs sess 0x2404 9 (.nat v) (forceTakeoverCode v) fun s => s.takeOver 4

def execForceTakeover (t sess v : Nat) (s : State) : Res := act t true s (forceTakeover sess v)

/-! ### Homes (14 R469, R471, R486, R497) -/

/-- ARRAY_HOME_COMMIT. -/
def arrayHomeCommit (sess : Nat) (s : State) : State := s.commitAs sess 0x2410 1 (shelfCode 0x2410) applyArrayHome

def execArrayHomeCommit (t sess : Nat) (s : State) : Res := act t true s (arrayHomeCommit sess)

/-- INTERFACE_HOME_COMMIT. -/
def interfaceHomeCommit (sess : Nat) (s : State) : State := s.commitAs sess 0x2412 1 (shelfCode 0x2412) applyInterfaceHome

def execInterfaceHomeCommit (t sess : Nat) (s : State) : Res := act t true s (interfaceHomeCommit sess)

/-- TENANT_TWIN_COMMIT: it applies to queue pairs connected later. -/
def tenantTwinCommit (sess : Nat) (s : State) : State := s.commitAs sess 0x2450 1 (shelfCode 0x2450) (shelfApp 0x2450)

def execTenantTwinCommit (t sess : Nat) (s : State) : Res := act t true s (tenantTwinCommit sess)

/-- HAND_BACK: the joiner has been fit for the dwell; arrays and interface rows whose home it is go back (log entry 76). -/
def handBack (s : State) : State :=
  match s.twin.fitSince with
  | some u =>
    if s.paired && decide (s.twinPhase = 2 ∧ s.ob 0x2401 5 = 1) && s.peerFit && dueAt s.now u (s.ob 0x2401 6 * sNs) then
      let other := 1 - s.ownIndex
      let s := s.each (s.arrays.filter fun a => s.owns a && decide (s.o 0x2410 a 2 = other ∧ s.o 0x2410 a 4 = 0))
        State.startTransfer
      let rows := s.ifRows.filter fun r => decide (s.o 0x2412 r 3 = s.ownIndex ∧ s.o 0x2412 r 2 = other)
      s.each rows fun s r => s.moveInterface r other
    else s
  | none => s

def execHandBack (t : Nat) (s : State) : Res := act t true s handBack

/-! ### The yield line (14 R494, R495, R498) -/

/-- The filtered level of YIELD_IN_N. -/
def State.yieldPin (s : State) (asserted : Bool) : State :=
  { s with twin := { s.twin with
      yieldIn := asserted, yieldInSince := if s.twin.yieldIn = asserted then s.twin.yieldInSince else s.now } }

/-- A change of the filtered line: more than 4 within 1 s declare it faulty. -/
def State.lineChange (s : State) (asserted : Bool) : State :=
  let ts := s.now :: within s.now sNs s.twin.lineChanges
  let s := { s.yieldPin asserted with twin := { (s.yieldPin asserted).twin with lineChanges := ts } }
  let s := s.put 0x2400 0 5 (if asserted then 1 else 0)
  if 4 < ts.length then s.lineFaulty else s

/-- YIELD_IN_ASSERT: the peer is silent. -/
def yieldInAssert (s : State) : State :=
  if s.twin.yieldIn then s
  else
    let s := s.lineChange true
    if s.ob 0x2400 6 = 1 then s.markFit
    else if s.paired then (s.takeOver (if s.twin.linkLost then 3 else 2)).markFit
    else if s.twin.take.isSome then s.ackUnmirrored
    else s.markFit

def execYieldInAssert (t : Nat) (s : State) : Res := actPin t true s (fun u => u.yieldPin true) yieldInAssert

/-- YIELD_IN_DEASSERT. -/
def yieldInDeassert (s : State) : State := if s.twin.yieldIn then (s.lineChange false).markFit else s

def execYieldInDeassert (t : Nat) (s : State) : Res := actPin t true s (fun u => u.yieldPin false) yieldInDeassert

/-- CLEAR_YIELD_LINE_FAULT. -/
def clearLineFault (s : State) : State :=
  { s with twin := { s.twin with lineChanges := [], yieldRec := none, yieldInSince := s.now } }.put 0x2400 0 6 0

def clearYieldLineFault (sess v : Nat) (s : State) : State :=
  s.writeAs sess 0x2400 7 (.nat v) (fun _ => need (decide (v = 1)) abRange) clearLineFault

def execClearYieldLineFault (t sess v : Nat) (s : State) : Res := act t true s (clearYieldLineFault sess v)

/-- TAKEOVER_ANNOUNCE: again at t0 + 100 ms and at t0 + 1 s. -/
def takeoverAnnounce (s : State) : State :=
  match s.twin.take with
  | some k =>
    let d := if k.announced = 1 then 100 * msNs else sNs
    if k.announced < 3 ∧ dueAt s.now k.t0 d = true ∧ s.silent = false then
      let s := { s with twin := { s.twin with take := some { k with announced := k.announced + 1 } } }
      s.each (s.ifRows.filter fun r => decide (s.o 0x2412 r 2 ≠ s.ownIndex)) State.announceRow
    else s
  | none => s

def execTakeoverAnnounce (t : Nat) (s : State) : Res := act t true s takeoverAnnounce

/-! ### Self-verdict (14 R490 to R494) -/

/-- What a counter gained since the last evaluation goes into the sliding window of its item. -/
def State.windowCount (s : State) (k cur width : Nat) : State :=
  let last := Tbl.get 0 s.twin.counted k
  let gain := if last ≤ cur then cur - last else cur
  let kept := (Tbl.get [] s.twin.moved k).filter fun e => decide (s.now < e.1 + width)
  { s with twin := { s.twin with
      counted := Tbl.set s.twin.counted k cur
      moved := Tbl.set s.twin.moved k (if gain = 0 then kept else (s.now, gain) :: kept) } }

/-- Sum over the window of an item. -/
def State.windowSum (s : State) (k : Nat) : Nat := sumNat ((Tbl.get [] s.twin.moved k).map Prod.snd)

/-- Own slot ports contained or failed whose drives the peer reaches (item 12). -/
def State.lostPorts (s : State) : Nat :=
  match s.twin.health with
  | some (_, h) =>
    ((List.range 24).filter fun n => decide (s.slotState n = 7 ∨ s.slotState n = 10) && bit h.reachable n).length
  | none => 0

/-- The items of Table 4 that hold, of those that an evaluation sees: 1 to 12 but for 10, which the loss of the link sets. -/
def State.verdictItems (s : State) (enginesOut : Nat) : Nat :=
  let slow := match s.twin.slowSince with
    | some u => decide (u + sNs < s.now)
    | none => false
  let on (k : Nat) (b : Bool) : Nat := if b then 2 ^ k else 0
  on 1 (decide (2 ≤ s.faultyPlanes)) + on 2 (decide (s.ob 0x2002 6 ≠ 0)) + on 3 slow + on 4 (!s.anyAcc) +
  on 5 (decide (s.ob 0x2404 3 < s.windowSum 5)) +
  on 6 (decide (s.ob 0x2404 4 < s.windowSum 6 ∨ s.ob 0x2404 5 < s.windowSum 16)) + on 7 (decide (s.ob 0x2404 6 < s.windowSum 7)) +
  on 8 (!s.vaultUsable || decide (s.ob 0x2201 2 = 0)) + on 9 (decide (32 - enginesOut < 24)) +
  on 10 (s.twin.linkLost && decide (s.ob 0x2400 2 = 2)) + on 11 s.twin.opYield + on 12 (decide (s.ob 0x2404 7 < s.lostPorts))

/-- Items of kind "always": 0, 1, 10, 11 and 13. -/
def alwaysItems (items : Nat) : Bool := [0, 1, 10, 11, 13].any fun k => bit items k

/-- The verdict as the objects show it. -/
def State.showVerdict (s : State) (items : Nat) : State :=
  let s := if items = 0 ∧ s.ob 0x2404 1 = 0 then s else { s with twin := { s.twin with failedAt := s.now } }
  (s.put 0x2404 0 1 (if items = 0 then 0 else 1)).put 0x2404 0 2 items

/-- Drive YIELD_OUT_N high once the module serves with its verdict passing; it stays so while the module goes on serving (log
entry 81). -/
def State.syncYieldOut (s : State) : State :=
  let serving := !s.silent && (!s.twin.twinMode || s.paired || decide (s.twinPhase = 3))
  if serving ∧ s.ob 0x2404 1 = 0 then s.setYieldOut false else if serving then s else s.setYieldOut true

/-- Act on the verdict (R492): `was` is the verdict before. -/
def State.actVerdict (s : State) (was items : Nat) : State :=
  if items = 0 then if was = 1 then s.raise .verdictPassed else s
  else if s.twin.twinMode = false then if was = 0 then s.raise .verdictFailed [items] else s
  else if alwaysItems items then s.yieldNow items
  else if s.paired && s.peerFit then
    if s.ob 0x2400 2 = 2 then s.yieldNow items
    else if s.twin.recheck.isSome then s
    else { s with twin := { s.twin with recheck := some s.now } }
  else if was = 0 then s.raise .verdictFailed [items]
  else s

/-- SELF_VERDICT_EVALUATION, every 1 ms: `enginesOut` engines are out of service, `hbmErrors` uncorrectable HBM errors came
since the last one. -/
def selfVerdictEvaluation (enginesOut hbmErrors : Nat) (s : State) : State :=
  if s.silent then s
  else
    let was := s.ob 0x2404 1
    let s := s.each (List.replicate (min hbmErrors 1) ()) fun s _ => s.raise .hbmUncorrectable [hbmErrors]
    let s := (s.windowCount 5 (s.ob 0x4050 5) (60 * sNs)).windowCount 6 (s.ob 0x2020 7) (60 * sNs)
    let s := s.windowCount 16 (s.ob 0x2021 7) (60 * sNs)
    let s := s.windowCount 7 (Tbl.get 0 s.twin.counted 7 + hbmErrors) (3600 * sNs)
    let slow := if s.ob 0x2002 7 = 0 then none else if s.twin.slowSince.isSome then s.twin.slowSince else some s.now
    let s := { s with twin := { s.twin with slowSince := slow } }
    let s := s.put 0x2404 0 0xA (within s.now (3600 * sNs) s.twin.yieldTimes).length
    let items := s.verdictItems enginesOut
    let s := (s.showVerdict items).actVerdict was items
    if s.silent then s else s.endTransfers.checkLine.markFit.syncYieldOut

def execSelfVerdictEvaluation (t enginesOut hbmErrors : Nat) (s : State) : Res :=
  act t (decide (enginesOut ≤ 32)) s (selfVerdictEvaluation enginesOut hbmErrors)

/-- YIELD_RECHECK: module A, 1 ms after its decision, yields if the items still hold and the peer has not yielded meanwhile. -/
def yieldRecheck (s : State) : State :=
  match s.twin.recheck with
  | some u =>
    if dueAt s.now u msNs && !s.silent then
      let s := { s with twin := { s.twin with recheck := none } }
      if s.paired && s.peerFit && decide (s.ob 0x2404 2 ≠ 0) then s.yieldNow (s.ob 0x2404 2)
      else if s.ob 0x2404 2 ≠ 0 then s.raise .verdictFailed [s.ob 0x2404 2]
      else s
    else s
  | none => s

def execYieldRecheck (t : Nat) (s : State) : Res := act t true s yieldRecheck

/-- FORCE_YIELD: item 11. -/
def setOpYield (s : State) : State :=
  let s := { s with twin := { s.twin with opYield := true } }
  let was := s.ob 0x2404 1
  let items := setBit (s.ob 0x2404 2) 11
  if s.silent then s else (s.showVerdict items).actVerdict was items

def forceYield (sess v : Nat) (s : State) : State :=
  s.writeAs sess 0x2404 8 (.nat v) (fun _ => need (decide (v = 1)) abRange) setOpYield

def execForceYield (t sess v : Nat) (s : State) : Res := act t true s (forceYield sess v)

/-- YIELD_WATCHDOG_EXPIRY: item 13. -/
def yieldWatchdogExpiry (s : State) : State := s.hardYield 13 .watchdogExpiry

def execYieldWatchdogExpiry (t : Nat) (s : State) : Res := act t true s yieldWatchdogExpiry

/-- LOCKSTEP_MISMATCH: item 0. -/
def lockstepMismatch (s : State) : State := s.hardYield 0 .lockstepMismatch

def execLockstepMismatch (t : Nat) (s : State) : Res := act t true s lockstepMismatch

/-! ### Plane faults (03 R81, R82) -/

/-- PLANE_FAULT: a stage has not acknowledged within 1 µs, or more than 16 cells in 1 ms needed payload correction that failed. The plane goes out of service; a second fault fails the fabric: in twin mode the module yields under item 1, in
solo mode it stops serving until its next reset. -/
def planeFault (plane : Nat) (cause : PlaneCause) (s : State) : State :=
  let few := decide ((within s.now msNs (Tbl.get [] s.fab.failures plane)).length ≤ 16)
  if s.planeStatus plane = 1 ∨ (cause = .correctionFailures ∧ few = true) then s
  else
    let s := s.failPlane plane
    if 2 ≤ s.faultyPlanes ∧ s.silent = false then
      let was := s.ob 0x2404 1
      let items := setBit (s.ob 0x2404 2) 1
      let s := s.showVerdict items
      if s.twin.twinMode then s.actVerdict was items else (s.raise .fabricFailed [plane]).silence
    else s

def execPlaneFault (t plane : Nat) (cause : PlaneCause) (s : State) : Res := act t (isPlane plane) s (planeFault plane cause)

/-! ### Standby self-test and health reports (14 R503 to R506) -/

/-- Array of the peer's to which the drive of a slot belongs. -/
def State.peerArray (s : State) (n : Nat) : Option Nat :=
  match s.memberIn n with
  | some (a, _) => if s.paired && !s.owns a then some a else none
  | none => none

/-- Drives within reach: the drive is ready and has not failed three shadow reads in a row. -/
def State.reachable (s : State) : Nat :=
  sumNat ((List.range 24).map fun n =>
    if s.slotState n = 6 ∧ Tbl.get 0 s.twin.shadowFails n < 3 then 2 ^ n else 0)

/-- STANDBY_SHADOW_READ: a read of a superblock or of a random chunk, with its outcome. -/
def standbyShadowRead (n : Nat) (ok : Bool) (s : State) : State :=
  if (s.peerArray n).isNone then s
  else
    let s := s.bump 0x2440 0 7
    let f := if ok then 0 else Tbl.get 0 s.twin.shadowFails n + 1
    let s := { s with twin := { s.twin with shadowFails := Tbl.set s.twin.shadowFails n f } }
    (if ok then s else s.bump 0x2440 0 8).put 0x2440 0 6 s.reachable

def execStandbyShadowRead (t slot : Nat) (ok : Bool) (s : State) : Res := act t (isSlot slot) s (standbyShadowRead slot ok)

/-- The syndromes of a column are not both zero. -/
def columnBad (c : StripeColumn) : Bool :=
  c.bad.isEmpty && decide (c.p ^^^ parityP c.data ≠ 0 ∨ c.q ^^^ parityQ 4096 0 c.data ≠ 0)

/-- STANDBY_PARITY_VERIFY: a row of the peer's, read whole; one with unreleased mirrored entries is skipped or discarded. -/
def standbyParityVerify (a row : Nat) (cols : List StripeColumn) (s : State) : State :=
  let named := s.twin.mirror.any fun m => m.entries.any fun e => decide (e.array = a ∧ e.row = row)
  if !s.arrOn a || !s.paired || s.owns a || named then s
  else
    let s := s.bump 0x2440 0 9
    if cols.any columnBad then (s.bump 0x2440 0 0xA).raise .standbyMismatch [a, row] else s

def execStandbyParityVerify (t array row : Nat) (columns : List StripeColumn) (s : State) : Res :=
  act t (isArray array) s (standbyParityVerify array row columns)

/-- The module would take over: its verdict passes, both groups are in service, no drive port of the self-test has failed. -/
def State.fitToTake (s : State) : Bool :=
  decide (s.ob 0x2404 1 = 0 ∧ s.twin.groups = 3) && !s.silent && s.twin.shadowFails.all fun e => decide (e.2 < 3)

/-- The report of this moment. -/
def State.ownHealth (s : State) : Health :=
  let words (g : Nat) : Nat := min 65535 (s.windowSum (32 + g))
  { time := s.ptpNow.toNat, verdict := s.ob 0x2404 1, items := s.ob 0x2404 2, fit := s.fitToTake, reachable := s.reachable
    shadowReads := s.o 0x2440 0 7, shadowFailures := s.o 0x2440 0 8, rowsVerified := s.o 0x2440 0 9
    mismatches := s.o 0x2440 0 0xA, codewords := words 0 * 65536 + words 1, voltage := s.o 0x2440 0 0xC
    days := s.o 0x2440 0 0xD, forecast := s.forecast, ceiling := s.ob 0x2201 2, firmware := s.runningVersion }

/-- HEALTH_REPORT_SEND: every 1 s; row 0 of 2440h shows it. -/
def healthReportSend (s : State) : State :=
  if s.twin.twinMode && s.since s.twin.lastReport sNs then
    let s := (s.windowCount 32 (s.o 0x2420 0 0xA) (3600 * sNs)).windowCount 33 (s.o 0x2420 1 0xA) (3600 * sNs)
    let s := { s with twin := { s.twin with lastReport := some s.now } }
    let h := s.ownHealth
    let s := s.showHealth 0 h
    if s.twin.linked then s.sendRec .healthReport 0 0 96 (.health h) else s
  else s

def execHealthReportSend (t : Nat) (s : State) : Res := act t true s healthReportSend

/-- Least-squares slope of daily voltages, in 0.1 mV a day: the first of the list is the newest. -/
def slope (vs : List Nat) : Rat :=
  let n : Rat := (vs.length : Nat)
  let xy := vs.reverse.zipIdx.map fun e => ((e.2 : Rat), ((e.1 : Nat) : Rat))
  let sx := (xy.map Prod.fst).foldl (· + ·) 0
  let sy := (xy.map Prod.snd).foldl (· + ·) 0
  let sxy := (xy.map fun e => e.1 * e.2).foldl (· + ·) 0
  let sxx := (xy.map fun e => e.1 * e.1).foldl (· + ·) 0
  let d := n * sxx - sx * sx
  if d = 0 then 0 else (n * sxy - sx * sy) / d

/-- Days until the voltage reaches the ceiling of 820 mV; FFFFh without an upward trend (log entry 82). -/
def daysToCeiling (vs : List Nat) : Nat :=
  let m := slope vs
  if m ≤ 0 then 0xFFFF
  else min 0xFFFE ((8200 - ((vs.headD 8200 : Nat) : Rat)) / m).floor.toNat

/-- VOLTAGE_TREND_DAILY: a day on which another operating point than balanced stands gives no voltage (log entry 82). -/
def voltageTrendDaily (s : State) : State :=
  if decide (s.ob 0x2000 0 = 1) && s.since (s.twin.volts.head?.map Prod.fst) (86400 * sNs) then
    let vs := ((s.now, s.vcore) :: s.twin.volts.filter fun e => decide (s.now < e.1 + 30 * 86400 * sNs)).take 30
    let d := daysToCeiling (vs.map Prod.snd)
    let s := { s with twin := { s.twin with volts := vs } }
    let s := (s.put 0x2440 0 0xC (s.vcore / 10)).put 0x2440 0 0xD d
    if d < 180 then s.raise .barometerTrend [d] else s
  else s

def execVoltageTrendDaily (t : Nat) (s : State) : Res := act t true s voltageTrendDaily

end Sys2Proof.Machine
end

