-- ==== Sys2Proof/Machine/Power.lean ====
section
/-! DEFINITION. Power entry (15 R512 to R519), the storm warning with its vault copy (R537 to R543) and the thermal shutdown
(18 R620), which ends service in the same way. -/

namespace Sys2Proof.Machine

/-! ### Ending service (15 Table 4, 18 Table 3) -/

/-- The 256 newest events go into the vault (16 R581). -/
def State.saveEvents (s : State) : State := { s with ev := { s.ev with vault := s.ev.log.take 256 } }

/-- The open ledger page is closed as at a planned reset (08 Table 2), and every closed page is sealed. -/
def State.plannedPage (s : State) : State :=
  let s := s.closePage s.ptpNow s.ptpNow 2 16
  s.each s.meter.closing State.sealPage

/-- A transfer of an image in progress ends with a refusal reason (17 Table 3). -/
def State.endTransfer (s : State) (reason : Nat) : State :=
  if s.ob 0x2301 1 = 1 ∨ s.ob 0x2301 1 = 2 then
    (s.put 0x2301 0 1 4).put 0x2301 0 6 reason
  else s

/-- Cancel an activation: state 5 and an event (17 R605, R606). Arrays not yet transferred are taken back and admission opens. -/
def State.cancelActivation (s : State) : State :=
  let me := s.ownIndex
  let s := if s.fw.drainAt.isSome then
      s.each (s.arrays.filter fun a => decide (s.o 0x2410 a 3 = me ∧ s.o 0x2410 a 4 = 1)) fun s a =>
        (s.put 0x2410 a 4 0).syncAna a
    else s
  let s := { s with
    fw := { s.fw with goal := none, drainAt := none }
    pwr := { s.pwr with flushAll := false } }
  (((s.put 0x2302 0 6 5).put 0x2302 0 0xB 0).keepVal 0x2302 0 1 (.nat 0)).raise .activationCancelled [s.ob 0x2302 5]

/-- What of a firmware update a storm warning ends: a transfer, a drain or the flush of an activation (17 Table 9). -/
def State.stormFirmware (s : State) : State :=
  let s := s.endTransfer 9
  if s.fw.drainAt.isSome ∨ s.fw.goal = some .activate then s.cancelActivation else s

/-- Arrays that a takeover in progress is still recovering. -/
def State.takenArrays (s : State) : List Nat :=
  match s.twin.take with
  | some k => k.left
  | none => []

/-- The holdup switch is closed, and the copy to an idle region starts, 1.1 ms after a storm warning and 10 us after a thermal shutdown
(15 Table 4, R542; 18 Table 3): intent ring, own dirty pages, pages of arrays being taken, ledger pages. -/
def State.startCopy (s : State) (ledger : List LedgerPage) : State :=
  let from_ := s.now + (if s.pwr.storm then 1100000 else 10000)
  let s := { s with pwr := { s.pwr with holdup := true, copyAt := from_ } }
  match s.idleRegion with
  | none => s
  | some k =>
    let taken := s.takenArrays
    let own := s.arrays.filter fun a => s.owns a && !taken.contains a
    let c : CopyRegion :=
      { state := 1, seq := s.pwr.copySeq, stormTime := s.ptpNow, intents := s.arr.intent
        pages := s.arr.pages.filter fun e => !taken.contains (e.1 / 2 ^ 40)
        taken := s.arr.pages.filter fun e => taken.contains (e.1 / 2 ^ 40)
        ledger := ledger
        arrays := sumNat (own.map fun a => 2 ^ a) + sumNat (taken.map fun a => 2 ^ (a + 4)) }
    { s with pwr := { s.pwr with copyTo := some k, copySeq := s.pwr.copySeq + 1 } }.setRegion k c

/-- Ledger pages that the vault does not hold yet. -/
def State.unarchived (s : State) : List LedgerPage :=
  s.meter.hbm.filter fun p => !(s.meter.vault.any fun q => decide (p.seq ≤ q.seq))

/-- Steps 1 to 5 of Table 4. Commits that wait for the peer get no answer (16 Table 9). -/
def State.stormStarts (s : State) : State :=
  let s := { s with
    pwr := { s.pwr with storm := true, stormAt := some s.now, pfwarn := true, pfwarnAt := some s.now, lull := false }
    land := { s.land with testAt := none }
    twin := { s.twin with held := [] } }
  let s := (s.emit (.pfwarnLine true)).put 0x2220 0 3 0
  let s := (s.keepVal 0x2201 0 6 (.nat (satAdd (s.ob 0x2201 6) 1))).keepVal 0x2201 0 7 (.nat s.ptpNow.toNat)
  let s := (s.raise .stormWarning).disableJobs.stormPages.stormFirmware
  let s := s.dropHosts.portsOff.dropDrives
  let s := s.each ((List.range 24).filter fun n => decide (s.slotState n = 6)) fun s n => s.emit (.driveShutdown n)
  let s := s.each (List.range 24) fun s n =>
    ((s.holdSlot n).openFeeds n).put 0x2210 n 2 0
  let s := s.setYieldOut true
  let s := if s.twin.twinMode then
      (if s.twin.linked then s.sendRec .yield 0 0 0 .none else s).enterYield 0
    else s
  (s.startCopy s.unarchived).saveEvents

/-- A storm warning is declared, once; before boot completes nothing is dirty and nothing is copied (Table 8). A thermal shutdown whose
copy runs continues it, with PFWARN_N asserted (18 Table 13). -/
def State.storm (s : State) : State :=
  if s.pwr.storm then s
  else if s.pwr.off then
    if s.pwr.good then { s with pwr := { s.pwr with storm := true, stormAt := some s.now } } else s
  else if s.land.hot then
    let s := { s with pwr := { s.pwr with
      storm := true, stormAt := some s.now, pfwarn := true, pfwarnAt := some s.now, holdup := true } }
    ((s.emit (.pfwarnLine true)).keepVal 0x2201 0 6 (.nat (satAdd (s.ob 0x2201 6) 1))).keepVal 0x2201 0 7 (.nat s.ptpNow.toNat)
  else s.stormStarts

/-- STORM_WARNING (R537). -/
def stormWarning (_ : StormCause) (s : State) : State := s.storm

def execStormWarning (t : Nat) (cause : StormCause) (s : State) : Res := actAll t true s (stormWarning cause)

/-- Every rail but housekeeping goes off: HBM and what it held is lost, the vault stays (01 Table 2; 15 R540). -/
def State.railsOff (s : State) : State :=
  let drove := s.pwr.pfwarn
  let s := { s.npRestart false with
    hbm := s.hbm.filter fun c => decide (0x10000000000 ≤ c.1)
    arr := { s.arr with pages := [], intent := [] }
    meter := { s.meter with hbm := [] }
    land := { s.land with lamps := 0 }
    twin := { s.twin with mirror := [], linked := false, groups := 0 }
    pwr := { s.pwr with off := true, pfwarn := false, copyTo := none, holdup := false } }
  if drove then s.emit (.pfwarnLine false) else s

/-- The copy ends with a result: 1 valid, 2 cut off, 3 holdup path trip; the rails go off. -/
def State.endCopy (s : State) (result : Nat) : State :=
  let s := match s.pwr.copyTo with
    | none => s
    | some k =>
      let c := s.copyRegion k
      let s := s.keepVal 0x2201 0 8 (.nat result)
      if result = 1 then
        let serial := s.ob 0x1018 4
        let s := (s.keepVal 0x2201 0 9 (.nat (c.total serial))).keepVal 0x2201 0 0xA (.nat ((s.now - s.pwr.copyAt) / 1000))
        (s.setRegion k { c with state := 2, doneTime := s.ptpNow, bytes := c.total serial, digest := c.digestOf serial }).archiveAll
      else s.setRegion k { c with state := 3, intents := [], pages := [], taken := [] }
  s.railsOff

/-- VAULT_COPY_COMPLETE (R537 step 6, R542): also the copy of a thermal shutdown. -/
def vaultCopyComplete (s : State) : State :=
  if !s.pwr.off && (s.pwr.storm || s.land.hot) then s.endCopy 1 else s

def execVaultCopyComplete (t : Nat) (s : State) : Res := actAll t true s vaultCopyComplete

/-- HOLDUP_PATH_TRIP (R543): fault cause 5. -/
def holdupPathTrip (s : State) : State :=
  if !s.pwr.off && s.pwr.storm then { s with pwr := { s.pwr with cause := 5 } }.endCopy 3 else s

def execHoldupPathTrip (t : Nat) (s : State) : Res := actAll t true s holdupPathTrip

/-- COPY_CUT_OFF (R543): the holdup store is exhausted. -/
def copyCutOff (s : State) : State := if !s.pwr.off && s.pwr.storm then s.endCopy 2 else s

def execCopyCutOff (t : Nat) (s : State) : Res := actAll t true s copyCutOff

/-! ### Input switch (R512 to R519) -/

/-- The current limit of the input switch in 0.1 A (R515): 2200h:04 up to input power-good, 40 A after it. -/
def State.inputLimit (s : State) : Nat := if s.pwr.good then 400 else s.ob 0x2200 4

/-- The input switch opens. -/
def State.openSwitch (s : State) : State :=
  ({ s with pwr := { s.pwr with gate := false, good := false, lost := true } }).emit (.inputSwitch false)

/-- Its gate starts to turn on, with the inrush limit in force. -/
def State.closeSwitch (s : State) : State :=
  let s := { s with pwr := { s.pwr with gate := true, gateAt := s.now, good := false, retryAt := none } }
  (s.emit (.inputSwitch true)).emit (.inputLimit s.inputLimit)

/-- A latched switch may close again once VIN has been below 20 V for 1 s (R519): here, 1 s and more after VIN fell below the
undervoltage lockout, when it is qualified anew (log entry 175). -/
def State.clearLatch (s : State) : State :=
  match s.pwr.sagAt with
  | some u =>
    if dueAt s.now u sNs then { s with pwr := { s.pwr with latched := false, faults := [], sagAt := none } }
    else { s with pwr := { s.pwr with sagAt := none } }
  | none => s

/-- The start threshold in mV: the higher of 34.0 V and the storm threshold plus 2.0 V. -/
def State.startMv (s : State) : Nat := max 34000 (s.ob 0x2201 4 * 100 + 2000)

/-- VIN_QUALIFIED: VIN has stayed above the start threshold for 10 ms. -/
def vinQualified (vinMv : Nat) (s : State) : State :=
  let s := (s.setVal 0x2200 0 1 (.real ((vinMv : Rat) / 1000))).clearLatch
  if !s.pwr.gate && !s.pwr.latched && !s.pwr.lockout && s.pwr.retryAt.isNone && !s.pwr.storm && decide (s.startMv < vinMv) then
    s.closeSwitch
  else s

def execVinQualified (t vinMv : Nat) (s : State) : Res := actAll t true s (vinQualified vinMv)

/-- INPUT_POWER_GOOD (R516), at least 1 ms after gate start. -/
def inputPowerGood (s : State) : State :=
  if s.pwr.gate && !s.pwr.good && dueAt s.now s.pwr.gateAt msNs then
    let s := { s with pwr := { s.pwr with good := true, goodAt := s.now } }
    s.emit (.inputLimit s.inputLimit)
  else s

def execInputPowerGood (t : Nat) (s : State) : Res := actAll t true s inputPowerGood

/-- An input fault (R519): the switch opens, housekeeping keeps the cause, and the switch retries or, past the limit, stays open.
An overvoltage lockout waits for its release instead. After power-good the storm warning runs. -/
def State.inputFaults (s : State) (cause : Nat) (served : Bool) : State :=
  let fs := s.now :: within s.now (60 * sNs) s.pwr.faults
  let latch := decide (s.ob 0x2200 7 < fs.length)
  let s := (s.bump 0x2200 0 8).openSwitch
  let s := { s with pwr := { s.pwr with
    faults := fs, cause := cause, latched := s.pwr.latched || latch, lockout := s.pwr.lockout || decide (cause = 4)
    retryAt := if latch ∨ cause = 4 then none else some (s.now + s.ob 0x2200 6 * msNs) } }
  if served then s.storm else s

/-- INRUSH_FAULT_TIMER (R515): the limiter has been active for the fault timer. At the instant of power-good the timer wins. -/
def inrushFaultTimer (s : State) : State :=
  let served := s.pwr.good && decide (s.pwr.goodAt ≠ s.now)
  let from_ := if served then s.pwr.goodAt else s.pwr.gateAt
  if s.pwr.gate && dueAt s.now from_ (s.ob 0x2200 5 * msNs) then s.inputFaults 1 served else s

def execInrushFaultTimer (t : Nat) (s : State) : Res := actAll t true s inrushFaultTimer

/-- EARLY_SHORT (R517): VBUS has not reached 2.0 V within 1 ms of gate start. -/
def earlyShort (s : State) : State :=
  if s.pwr.gate && !s.pwr.good && dueAt s.now s.pwr.gateAt msNs then s.inputFaults 2 false else s

def execEarlyShort (t : Nat) (s : State) : Res := actAll t true s earlyShort

/-- INPUT_SQUALL_TRIP (R517), armed from gate start. -/
def inputSquallTrip (s : State) : State :=
  if s.pwr.gate then (s.bump 0x2200 0 0xA).inputFaults 3 s.pwr.good else s

def execInputSquallTrip (t : Nat) (s : State) : Res := actAll t true s inputSquallTrip

/-- OVERVOLTAGE_LOCKOUT (R513). -/
def overvoltageLockout (s : State) : State :=
  if s.pwr.lockout then s
  else if s.pwr.gate then (s.bump 0x2200 0 0xB).inputFaults 4 s.pwr.good
  else { s with pwr := { s.pwr with lockout := true, cause := 4 } }.bump 0x2200 0 0xB

def execOvervoltageLockout (t : Nat) (s : State) : Res := actAll t true s overvoltageLockout

/-- OVERVOLTAGE_RELEASE (R513): VIN has been below 75.0 V for 100 ms; the module then starts as at power-up. -/
def overvoltageRelease (s : State) : State := { s with pwr := { s.pwr with lockout := false } }

def execOvervoltageRelease (t : Nat) (s : State) : Res := actAll t true s overvoltageRelease

/-- UNDERVOLTAGE_LOCKOUT (R512): VIN below 30.0 V for 5 µs. -/
def undervoltageLockout (s : State) : State :=
  let s := if s.pwr.latched then { s with pwr := { s.pwr with sagAt := some s.now } } else s
  if s.pwr.gate then s.openSwitch else s

def execUndervoltageLockout (t : Nat) (s : State) : Res := actAll t true s undervoltageLockout

/-- INPUT_RETRY (R519). -/
def inputRetry (s : State) : State :=
  match s.pwr.retryAt with
  | some u => if u ≤ s.now ∧ s.pwr.latched = false ∧ s.pwr.lockout = false then s.closeSwitch else s
  | none => s

def execInputRetry (t : Nat) (s : State) : Res := actAll t true s inputRetry

/-- STORM_RESTART (R540): VIN has stayed above the threshold plus 2.0 V for 1 s; the switch closes again where it had opened, and the
module may boot. -/
def stormRestart (s : State) : State :=
  if s.pwr.storm && s.pwr.off then
    let s := { s with pwr := { s.pwr with storm := false } }
    if !s.pwr.gate && !s.pwr.latched && !s.pwr.lockout && s.pwr.retryAt.isNone then s.closeSwitch else s
  else s

def execStormRestart (t : Nat) (s : State) : Res := actAll t true s stormRestart

/-! ### Settings and PFWARN_N (R512, R518, R539) -/

/-- STORM_THRESHOLD_WRITE: above 36.0 V it ends service inside the recommended range. -/
def setStormThreshold (v : Nat) (s : State) : State :=
  let s := s.setObj 0x2201 4 (.nat v)
  if 360 < v then s.raise .stormThresholdHigh [v] else s

def stormThresholdWrite (sess v : Nat) (s : State) : State :=
  s.writeAs sess 0x2201 4 (.nat v) (fun _ => 0) (setStormThreshold v)

def execStormThresholdWrite (t sess v : Nat) (s : State) : Res := act t true s (stormThresholdWrite sess v)

/-- The fault timer must leave time for the ramp: 33.75 / I ms (R518). -/
def inrushOk (limit timer : Nat) : Bool := decide (3375 ≤ timer * limit * 10)

/-- Check of a write of 2200h:04 or 05. -/
def inrushCode (sub v : Nat) (s : State) : Abort :=
  need (inrushOk (if sub = 4 then v else s.ob 0x2200 4) (if sub = 5 then v else s.ob 0x2200 5)) abJoin

/-- PFWARN_READBACK_FAULT (R539): the line reads deasserted 10 µs after its assertion, or asserted for 10 s while the module does not
drive it. -/
def pfwarnReadbackFault (s : State) : State :=
  let late := match s.pwr.pfwarnAt with
    | some u => dueAt s.now u 10000
    | none => true
  if s.ob 0x2201 0xE = 1 then s
  else if s.pwr.pfwarn && !late then s
  else (s.put 0x2201 0 0xE 1).raise .pfwarnFaulty

def execPfwarnReadbackFault (t : Nat) (s : State) : Res := act t true s pfwarnReadbackFault

/-- CLEAR_PFWARN_FAULT. -/
def clearPfwarnFault (sess v : Nat) (s : State) : State :=
  s.writeAs sess 0x2201 0xF (.nat v) (fun _ => need (decide (v = 1)) abRange) fun s => s.put 0x2201 0 0xE 0

def execClearPfwarnFault (t sess v : Nat) (s : State) : Res := act t true s (clearPfwarnFault sess v)

/-! ### Thermal shutdown (18 R620) -/

/-- THERMAL_SHUTDOWN: 115.0 °C for 1 ms. While the modules are paired nothing is copied and the rails go off; else the copy runs
until VAULT_COPY_COMPLETE. A thermal shutdown during a storm warning changes nothing: the storm's copy goes on. -/
def thermalShutdown (tj : Int) (s : State) : State :=
  if s.pwr.off = true ∨ tj < 1150 ∨ s.land.hot = true ∨ s.pwr.storm = true then s
  else
    let paired := s.paired
    let s := { s with land := { s.land with hot := true } }
    let s := (s.setVal 0x2006 0 0 (.int tj)).raise .thermalShutdown [tj.toNat]
    let s := (s.keepVal 0x2007 0 1 (.nat (satAdd (s.ob 0x2007 1) 1))).keepVal 0x2007 0 2 (.nat s.ptpNow.toNat)
    let s := s.plannedPage.stormFirmware
    let s := s.silence
    let s := (s.each (List.range 24) fun s n => (s.openFeeds n).put 0x2210 n 2 0).saveEvents
    let s := if s.twin.twinMode then s.enterYield 0 else s
    if paired then s.railsOff else s.startCopy s.unarchived

def execThermalShutdown (t : Nat) (tj : Int) (s : State) : Res :=
  actAll t true s (thermalShutdown tj)

/-- THERMAL_RESTART: the hottest sensor has been below 95.0 °C for 10 s; the module starts as at power-up. -/
def thermalRestart (tj : Int) (s : State) : State :=
  if s.land.hot && s.pwr.off && decide (tj < 950) then { s with land := { s.land with hot := false } } else s

def execThermalRestart (t : Nat) (tj : Int) (s : State) : Res := actAll t true s (thermalRestart tj)

end Sys2Proof.Machine
end

