-- ==== Sys2Proof/Machine/Lands.lean ====
section
/-! DEFINITION. Lands (18): thermal warning, management sidebands, indicator lines with their lamps and buttons, faulty inputs. -/

namespace Sys2Proof.Machine

/-! ### Thermal warning (R620) -/

/-- THERMAL_WARNING: at 105.0 °C or above; the event comes at most once a minute. -/
def thermalWarning (tj : Int) (s : State) : State :=
  if tj < 1050 then s
  else
    let s := (s.setVal 0x2006 0 0 (.int tj)).put 0x2007 0 6 1
    let due := match s.land.warnedAt with
      | some u => dueAt s.now u (60 * sNs)
      | none => true
    if due then { s with land := { s.land with warnedAt := some s.now } }.raise .thermalWarning [tj.toNat] else s

def execThermalWarning (t : Nat) (tj : Int) (s : State) : Res := act t true s (thermalWarning tj)

/-- THERMAL_WARNING_CLEAR: below 103.0 °C. -/
def thermalWarningClear (tj : Int) (s : State) : State :=
  if tj < 1030 then (s.setVal 0x2006 0 0 (.int tj)).put 0x2007 0 6 0 else s

def execThermalWarningClear (t : Nat) (tj : Int) (s : State) : Res := act t true s (thermalWarningClear tj)

/-! ### Management sidebands (R623; 16 R565) -/

/-- The port may have a link: its cage reads as fitted and its signal is not lost; a faulty line is not heeded. -/
def State.mgmtMayLink (s : State) (p : Nat) : Bool :=
  (s.inputFaulty 3 (2 * p) || bit s.land.mgmt (2 * p)) && (s.inputFaulty 3 (2 * p + 1) || !bit s.land.mgmt (2 * p + 1))

/-- A port that may not have a link is down. -/
def State.syncMgmt (s : State) (p : Nat) : State := if s.mgmtMayLink p then s else s.put 0x1111 0 (1 + p) 0

/-- Where a sideband of a port stands in the filtered levels. -/
def mgmtBit (p : Nat) (which : MgmtSideband) : Nat := 2 * p + (match which with | .prs => 0 | .los => 1)

/-- The filtered level of a sideband. -/
def State.mgmtPin (s : State) (p : Nat) (which : MgmtSideband) (asserted : Bool) : State :=
  let k := mgmtBit p which
  { s with land := { s.land with mgmt := if asserted then setBit s.land.mgmt k else clearBit s.land.mgmt k } }

/-- MANAGEMENT_SIDEBAND_CHANGE: `asserted` is the filtered state of Mn_PRS_N (a plug is fitted) or Mn_LOS (no signal). -/
def managementSidebandChange (p : Nat) (which : MgmtSideband) (asserted : Bool) (s : State) : State :=
  let k := mgmtBit p which
  if bit s.land.mgmt k = asserted then s
  else
    ((s.mgmtPin p which asserted).inputChange (mgmtLine k) 3 k 8 (60 * sNs)).syncMgmt p

def execManagementSidebandChange (t port : Nat) (which : MgmtSideband) (level : Bool) (s : State) : Res :=
  actPin t (decide (port < 2)) s (fun u => u.mgmtPin port which level) (managementSidebandChange port which level)

/-- MANAGEMENT_LINK_CHANGE (16 R565): 0 down, 1 1000BASE-X, 2 10GBASE-R. -/
def managementLinkChange (p state : Nat) (s : State) : State :=
  if state = 0 ∨ s.mgmtMayLink p = true then s.put 0x1111 0 (1 + p) state else s

def execManagementLinkChange (t port state : Nat) (s : State) : Res :=
  act t (decide (port < 2 ∧ state < 3)) s (managementLinkChange port state)

/-! ### Lamps (R624, R626, R627) -/

/-- Whether a line is in use: never driven and never sensed otherwise. -/
def State.lineUsed (s : State) (n : Nat) : Bool := bit (s.ob 0x5220 6) n

/-- A lamp test runs. -/
def State.testing (s : State) : Bool :=
  match s.land.testAt with
  | some u => !dueAt s.now u (3 * sNs)
  | none => false

/-- The lit half of a blink of a period in ns. -/
def State.blink (s : State) (period : Nat) : Bool := decide (s.now % period < period / 2)
def State.hz1 (s : State) : Bool := s.blink sNs
def State.hz4 (s : State) : Bool := s.blink (250 * msNs)

/-- The lamp of slot `n`. -/
def State.slotLamp (s : State) (n : Nat) : Bool :=
  let lost : Bool := match s.memberIn n with
    | some (a, m) => (s.missing a).contains m
    | none => false
  let dark : Bool := match Tbl.find? s.land.pulses n with
    | some u => !dueAt s.now u (50 * msNs)
    | none => false
  if lost || [5, 7, 8, 10].contains (s.slotState n) then s.hz4
  else if s.slotState n = 6 then !dark else false

/-- The lamp of network port `n`. -/
def State.portLamp (s : State) (n : Nat) : Bool :=
  let ps := (List.range 4).map fun k => 4 * n + k
  if ps.any (fun p => (s.port p).flapUntil.isSome || (s.port p).stormsOff) then s.hz4
  else ps.any fun p => (s.port p).linkUp

/-- The module serves. -/
def State.serving (s : State) : Bool := !s.silent && (!s.twin.twinMode || s.paired || decide (s.twinPhase = 3))

/-- The default functions of Table 7. -/
def State.lampDefault (s : State) (n : Nat) : Bool :=
  if n < 24 then s.slotLamp n
  else if n < 32 then s.portLamp (n - 24)
  else match n with
    | 32 => decide (s.ob 0x1111 1 ≠ 0)
    | 33 => decide (s.ob 0x1111 2 ≠ 0)
    | 34 => if s.ob 0x2300 4 = 3 then s.hz4 else if s.ob 0x2300 4 = 1 then s.hz1 else s.serving
    | 35 => if s.twinPhase = 4 then s.hz4 else decide (s.ev.register ≠ 0)
    | 36 => decide (s.ob 0x5220 5 = 1) && s.hz1
    | 37 => if s.pwr.storm then true else decide (s.ob 0x2201 2 = 0) && s.hz1
    | _ => false

/-- Whether a line is lit in the drive phase of a frame. -/
def State.lampOn (s : State) (n : Nat) : Bool :=
  s.lineUsed n &&
    (if s.testing then true
     else if s.pwr.storm then decide (n = 37)
     else match s.ob 0x5221 (n + 1) with
       | 0 => s.lampDefault n
       | 1 => false
       | 2 => true
       | 3 => s.hz1
       | _ => s.hz4)

/-! ### Buttons (R624, R625) -/

def State.button (s : State) (n : Nat) : Button := Tbl.get {} s.land.buttons n

def State.setButton (s : State) (n : Nat) (b : Button) : State :=
  { s with land := { s.land with buttons := Tbl.set s.land.buttons n b } }

/-- A sample: below 0.3 V pressed, above 0.6 V released, between the two as before. -/
def readSense (mv : Nat) (before : Bool) : Bool := if mv < 300 then true else if 600 < mv then false else before

/-- A release is counted and told; the button of IND36 toggles module locate (R627), as a write of 5220h:05 would (log entry 86). -/
def State.released (s : State) (n held : Nat) : State :=
  let s := (s.bump 0x5222 0 (n + 1)).raise .button [n, held / 1000000]
  if n = 36 then
    if s.dict.storeOk then s.setKeep 0x5220 0 5 (.nat (1 - s.ob 0x5220 5)) else s.raise .settingsStoreFailed
  else s

/-- The sample of one line. -/
def State.sense (s : State) (n mv : Nat) : State :=
  if !s.lineUsed n then { s with land := { s.land with buttons := Tbl.erase s.land.buttons n } }
  else if s.inputFaulty 4 n then s
  else
    let b := s.button n
    let r := readSense mv b.reading
    let run := if r = b.pressed then 0 else b.run + 1
    let s :=
      if run < 20 then s.setButton n { b with reading := r, run := run }
      else
        let held := s.now - b.since
        let s := s.setButton n { reading := r, run := 0, pressed := r, since := s.now }
        let s := s.inputChange (buttonLine n) 4 n 20 (10 * sNs)
        if s.inputFaulty 4 n ∨ r = true then s else s.released n held
    let b := s.button n
    let s := if b.pressed && dueAt s.now b.since (30 * sNs) then s.declareFaulty 4 n else s
    if s.inputFaulty 4 n then s.setButton n {} else s

/-- INDICATOR_FRAME: frames follow one another at 1,000 µs. `senseMv` are the samples of the sense phase, `driveMv` the
voltages of driven lines, which only a lamp test measures. Lit lines take the current of 5220h:01 at the duty of 5220h:02, in a lamp
test 10 mA at full brightness. -/
def indicatorFrame (senseMv driveMv : List Nat) (s : State) : State :=
  let due := match s.land.frameAt with
    | some u => dueAt s.now u msNs
    | none => true
  if due then
    let lit := (List.range 48).filter s.lampOn
    let drive := if s.testing then (10, 100) else (s.ob 0x5220 1, s.ob 0x5220 2)
    let s := { s with land := { s.land with frameAt := some s.now, lamps := sumNat (lit.map fun n => 2 ^ n), drive := drive } }
    let s := if s.testing then
        let open_ := (List.range 48).filter fun n => s.lineUsed n && decide (3000 < driveMv.getD n 0)
        { s with land := { s.land with
          frames := s.land.frames + 1
          opens := open_.foldl (fun t n => Tbl.set t n (Tbl.get 0 t n + 1)) s.land.opens } }
      else s
    s.each (List.range 48) fun s n => s.sense n (senseMv.getD n 1000)
  else s

def execIndicatorFrame (t : Nat) (senseMv driveMv : List Nat) (s : State) : Res := act t true s (indicatorFrame senseMv driveMv)

/-- LAMP_TEST (R626). -/
def startLampTest (s : State) : State :=
  if s.pwr.storm then s else { s with land := { s.land with testAt := some s.now, frames := 0, opens := [] } }

def lampTest (sess v : Nat) (s : State) : State :=
  s.writeAs sess 0x5220 3 (.nat v) (fun _ => need (decide (v = 1)) abRange) startLampTest

def execLampTest (t sess v : Nat) (s : State) : Res := act t true s (lampTest sess v)

/-- LAMP_TEST_END: after 3 s, lines open in more than half of the frames. -/
def lampTestEnd (s : State) : State :=
  match s.land.testAt with
  | some u =>
    if dueAt s.now u (3 * sNs) then
      let ns := (s.land.opens.filter fun e => decide (s.land.frames < 2 * e.2)).map Prod.fst
      let v := sumNat (ns.map fun n => 2 ^ n)
      let s := { s with land := { s.land with testAt := none } }.put 0x5220 0 4 v
      if v = 0 then s else s.raise .lampOpen [v]
    else s
  | none => s

def execLampTestEnd (t : Nat) (s : State) : Res := act t true s lampTestEnd

/-- ACTIVITY_PULSE (R627): the slot's lamp is dark for 50 ms. -/
def activityPulse (n : Nat) (s : State) : State := { s with land := { s.land with pulses := Tbl.set s.land.pulses n s.now } }

def execActivityPulse (t slot : Nat) (s : State) : Res := act t (isSlot slot) s (activityPulse slot)

/-! ### Faulty inputs (R623) -/

/-- A cage or a near port whose line is no longer faulty is read again. -/
def State.rereadCage (s : State) (n : Nat) : State :=
  let c := s.cage n
  if c.level then s.classify n c.fitted else s.emptyCage n

def State.rereadPerst (s : State) (p : Nat) : State := if (s.nport p).perst then s else s.npLinkGone p

/-- CLEAR_FAULTY_INPUTS. -/
def clearFaults (s : State) : State :=
  let cages := (List.range 8).filter (s.inputFaulty 1)
  let ports := (List.range 2).filter (s.inputFaulty 2)
  let s := { s with land := { s.land with changes := [] } }
  let s := (((s.put 0x5223 0 1 0).put 0x5223 0 2 0).put 0x5223 0 3 0).put 0x5223 0 4 0
  let s := (s.each cages State.rereadCage).each ports State.rereadPerst
  s.each [0, 1] State.syncMgmt

def clearFaultyInputs (sess v : Nat) (s : State) : State :=
  s.writeAs sess 0x5223 5 (.nat v) (fun _ => need (decide (v = 1)) abRange) clearFaults

def execClearFaultyInputs (t sess v : Nat) (s : State) : Res := act t true s (clearFaultyInputs sess v)

end Sys2Proof.Machine
end

