-- ==== Sys2Proof/Machine/Firmware.lean ====
section
/-! DEFINITION. Images, transfer, activation, trial and attestation (17), and the module's reset (14 R494, R496). -/

namespace Sys2Proof.Machine

/-! ### Image header (R590, R594) -/

def Image.svn (i : Image) : Nat := i.field 16 1
def Image.format (i : Image) : Nat := i.field 17 1
def Image.payload (i : Image) : Nat := i.field 24 8
def Image.buildTime (i : Image) : Nat := i.field 184 8
def Image.keySet (i : Image) : Nat := i.field 192 1
def Image.lowest (i : Image) : Nat := i.field 193 1

/-- SHA-384 of the header and payload. -/
def Image.digest (i : Image) : Nat := Config.sha384 i.len (leField i.len i.data) % 2 ^ 384

/-- Table 3 codes 1 to 5, which the boot ROM checks as well (Table 4). -/
def State.headerCode (s : State) (i : Image) : Nat :=
  if i.field 0 4 ≠ 0x465A5253 ∨ i.field 4 2 ≠ 1 ∨ i.field 6 2 ≠ 4096 then 1
  else if i.field 8 4 ≠ 0x3224 then 2
  else if FlashPart.slot.size < 4096 + i.payload then 3
  else if i.svn < s.ob 0x2300 3 then 4
  else if 3 < i.keySet ∨ bit (s.ob 0x2300 0xB) i.keySet = true then 5
  else 0

/-- The loader's check of a received header, in the order of Table 3. -/
def State.receiveCode (s : State) (i : Image) : Nat :=
  let c := s.headerCode i
  if c ≠ 0 then c
  else if s.fw.running.format < i.field 18 1 then 6
  else if Config.loaderVersion < i.field 20 4 then 7
  else 0

/-! ### Receiving an image (R593 to R595) -/

/-- A transfer runs. -/
def State.receiving (s : State) : Bool := decide (s.ob 0x2301 1 = 1 ∨ s.ob 0x2301 1 = 2)

/-- An activation is scheduled or under way. -/
def State.activating (s : State) : Bool := decide (1 ≤ s.ob 0x2302 6 ∧ s.ob 0x2302 6 ≤ 4)

/-- IMAGE_BEGIN: refused in image states 1 and 2, while an activation is scheduled and during a storm warning. -/
def beginCode (v : Nat) (s : State) : Abort :=
  firstCode [need (decide (v = 1)) abRange,
    need (decide (s.ob 0x2300 4 ≠ 1 ∧ s.ob 0x2300 4 ≠ 2) && !s.activating && !s.pwr.storm) abState]

def State.beginTransfer (s : State) : State :=
  (({ s with fw := { s.fw with rx := 0, rxLen := 0, rxAt := s.now } }).put 0x2301 0 1 1).put 0x2301 0 6 0

def imageBegin (sess v : Nat) (s : State) : State :=
  s.writeAs sess 0x2301 4 (.nat v) (beginCode v) State.beginTransfer

def execImageBegin (t sess v : Nat) (s : State) : Res := act t true s (imageBegin sess v)

/-- The header has arrived: a failed check ends the transfer and leaves the slot untouched, a passing one erases the slot. -/
def State.headerArrives (s : State) : State :=
  let c := s.receiveCode { len := 4096, data := s.fw.rx }
  if c ≠ 0 then s.endTransfer c
  else { s with fw := { s.fw with slot := none, fresh := false, rejected := false } }.put 0x2301 0 1 2

/-- The last byte has arrived: the payload's digest decides. -/
def State.imageArrives (s : State) (digestOk : Bool) : State :=
  if digestOk then
    let i : Image := { len := s.fw.rxLen, data := s.fw.rx }
    let s := { s with fw := { s.fw with slot := some i, fresh := true, trial := false, trialBoots := 0 } }
    (s.put 0x2301 0 1 3).raise .firmwareReceived [i.version]
  else s.endTransfer 8

/-- Append a piece of an image; bytes beyond the image's end are not kept (log entry 88). -/
def State.appendImage (s : State) (len : Nat) (content : Content) (c : ImageCheck) : State :=
  let rx := s.fw.rx + content % 256 ^ len * 256 ^ s.fw.rxLen
  let s := { s with fw := { s.fw with rx := rx, rxLen := s.fw.rxLen + len, rxAt := s.now } }
  let s := if s.ob 0x2301 1 = 1 ∧ 4096 ≤ s.fw.rxLen then s.headerArrives else s
  let total := 4096 + slice s.fw.rx 24 8
  if s.ob 0x2301 1 = 2 ∧ total ≤ s.fw.rxLen then
    { s with fw := { s.fw with rx := slice s.fw.rx 0 total, rxLen := total } }.imageArrives c.digestOk
  else s

/-- IMAGE_DATA. -/
def imageData (sess len : Nat) (content : Content) (c : ImageCheck) (s : State) : State :=
  s.writeAs sess 0x2301 3 (.oct len (leField len content)) (fun s => need s.receiving abState) fun s =>
    s.appendImage len content c

def execImageData (t sess len : Nat) (content : Content) (check : ImageCheck) (s : State) : Res :=
  act t true s (imageData sess len content check)

/-- IMAGE_ABORT. -/
def imageAbort (sess v : Nat) (s : State) : State :=
  s.writeAs sess 0x2301 5 (.nat v) (fun _ => need (decide (v = 1)) abRange) fun s => s.endTransfer 9

def execImageAbort (t sess v : Nat) (s : State) : Res := act t true s (imageAbort sess v)

/-- IMAGE_TRANSFER_TIMEOUT: no data for 600 s. -/
def imageTransferTimeout (s : State) : State := if dueAt s.now s.fw.rxAt (600 * sNs) then s.endTransfer 10 else s

def execImageTransferTimeout (t : Nat) (s : State) : Res := act t true s imageTransferTimeout

/-- SLOT_REWRITE_COMPLETE (R598): the slot holds the fallback image again. -/
def slotRewriteComplete (s : State) : State :=
  if s.ob 0x2300 4 = 2 then
    let f := s.fw
    { s with fw := { f with slot := f.fallback, rejected := false, fresh := false, trial := false, trialBoots := 0 } }.put 0x2300 0 4 0
  else s

def execSlotRewriteComplete (t : Nat) (s : State) : Res := act t true s slotRewriteComplete

/-! ### Reset of the module (14 R494, R496; 17 R605) -/

/-- The module resets: its ports are silent, its drive ports in PERST#, YIELD_OUT_N asserted, and no yield record is sent. A planned
reset closes the ledger page and saves the event log (08 R283, 16 R581); in an unplanned one the open page's counts are lost. -/
def State.resetModule (s : State) (planned : Bool) : State :=
  let s := s.endTransfer 9
  let s := if planned then s.plannedPage.saveEvents
    else { s with meter := { s.meter with counts := [], flags := 272 } }
  let s := (s.each s.meter.closing State.sealPage).archiveAll
  let s := s.silence.npRestart true
  { s with
    twin := { s.twin with linked := false, groups := 0, held := [] }
    fw := { s.fw with goal := none, drainAt := none }
    pwr := { s.pwr with off := true, flushAll := false } }

/-- MODULE_RESET. -/
def moduleReset (kind : ResetKind) (s : State) : State := s.resetModule (decide (kind = .planned))

def execModuleReset (t : Nat) (kind : ResetKind) (s : State) : Res := act t true s (moduleReset kind)

/-- REJOIN_RESET (14 R496): a yielded module resets itself 2401h:03 after the peer's takeover-complete record, unless it has
yielded 2401h:04 times within the last hour. -/
def rejoinReset (s : State) : State :=
  match s.twin.takerDone with
  | some u =>
    if s.twinPhase = 4 ∧ s.ob 0x2401 2 = 1 ∧ dueAt s.now u (s.ob 0x2401 3 * sNs) = true ∧
        (within s.now (3600 * sNs) s.twin.yieldTimes).length < s.ob 0x2401 4 then s.resetModule true
    else s
  | none => s

def execRejoinReset (t : Nat) (s : State) : Res := act t true s rejoinReset

/-! ### Activation (R604 to R606) -/

/-- The time status lets an activation proceed. -/
def State.timeGood (s : State) : Bool := decide (s.ob 0x3020 7 = 2 ∨ s.ob 0x3020 7 = 3)

/-- The due time has come. -/
def State.activationIsDue (s : State) : Bool :=
  decide ((s.ob 0x2302 6 = 1 ∨ s.ob 0x2302 6 = 2) ∧ (s.ob 0x2302 0xB : Int) ≤ s.ptpNow)

/-- Snapshot of the settings, state 4 and the planned reset into the new image; its first boot starts the trial (R600). -/
def State.activate (s : State) : State :=
  let s := s.keepVal 0x2302 0 1 (.nat 0)
  let s := { s with
    dict := { s.dict with changes := 0 }
    fw := { s.fw with snapshot := s.dict.store, trial := true, trialBoots := 0, fresh := false } }
  (s.put 0x2302 0 6 4).resetModule true

/-- Close admission and flush every dirty row. -/
def State.fastFlush (s : State) (goal : FlushGoal) : State :=
  let s := { s with
    fw := { s.fw with goal := some goal, flushAt := s.now }
    pwr := { s.pwr with flushAll := true } }
  s.each s.arrays fun s a => (s.kick a).syncDirty

/-- Once nothing is dirty, what the flush was for happens. -/
def State.afterFlush (s : State) : State :=
  match s.fw.goal with
  | some g => if s.dirtyBytes ≠ 0 then s else if g = .activate then s.activate else s.resetModule true
  | none => s

/-- ACTIVATION_DUE. A module in twin mode waits for DRAIN_START, one in loader-only mode has nothing to flush; the command also stands
for the end of a flush (log entry 89). -/
def activationDue (s : State) : State :=
  if s.fw.goal.isSome then s.afterFlush
  else if s.activationIsDue then
    if s.loaderOnly then (if s.ob 0x2301 1 = 3 then s.activate else s.cancelActivation)
    else if s.ob 0x2301 1 ≠ 3 then s.cancelActivation
    else if s.timeGood = false ∨ s.twin.twinMode = true then s.put 0x2302 0 6 2
    else ((s.put 0x2302 0 6 3).fastFlush .activate).afterFlush
  else s

def execActivationDue (t : Nat) (s : State) : Res := act t true s activationDue

/-- Due time of an activation at written time `due`: mode, rank and interval in force count. -/
def State.dueTime (s : State) (due : Nat) : Nat :=
  if s.ob 0x2302 2 = 1 then due + s.ob 0x2302 3 * s.ob 0x2302 4 * sNs else due

/-- A scheduled activation is cancelled as long as it has not begun. -/
def State.cancelScheduled (s : State) : State :=
  if 1 ≤ s.ob 0x2302 6 ∧ s.ob 0x2302 6 ≤ 3 then s.cancelActivation else s

/-- 2302h:01 is written: 0 cancels, a time schedules; one already past, and any in loader-only mode, activates at once. -/
def State.schedule (s : State) (due : Nat) : State :=
  if due = 0 then (s.keepVal 0x2302 0 1 (.nat 0)).cancelScheduled
  else
    let s := s.keepVal 0x2302 0 1 (.nat due)
    let s := (s.put 0x2302 0 0xB (s.dueTime due)).put 0x2302 0 6 1
    if s.loaderOnly then activationDue (s.put 0x2302 0 0xB 0)
    else if (s.dueTime due : Int) ≤ s.ptpNow then activationDue s
    else s

/-- The write is refused unless the transfer state is 3 or the module is in loader-only mode, and while an activation has begun. -/
def scheduleCode (due : Nat) (s : State) : Abort :=
  need (decide (due = 0 ∨ s.ob 0x2301 1 = 3) || s.loaderOnly) abState

/-- ACTIVATION_SCHEDULE. -/
def activationSchedule (sess due : Nat) (s : State) : State :=
  s.writeAs sess 0x2302 1 (.nat due) (scheduleCode due) fun s => s.schedule due

def execActivationSchedule (t sess due : Nat) (s : State) : Res := act t true s (activationSchedule sess due)

/-- ACTIVATION_CANCEL. -/
def activationCancel (sess v : Nat) (s : State) : State :=
  s.writeAs sess 0x2302 7 (.nat v) (fun _ => need (decide (v = 1)) abRange) State.cancelScheduled

def execActivationCancel (t sess v : Nat) (s : State) : Res := act t true s (activationCancel sess v)

/-- ACTIVATION_WAIT_TIMEOUT: the time status has not become 2 or 3 within 600 s of the due time. -/
def activationWaitTimeout (s : State) : State :=
  if s.ob 0x2302 6 = 2 ∧ s.timeGood = false ∧ (s.ob 0x2302 0xB + 600 * sNs : Int) ≤ s.ptpNow then s.cancelActivation else s

def execActivationWaitTimeout (t : Nat) (s : State) : Res := act t true s activationWaitTimeout

/-- ACTIVATION_FLUSH_TIMEOUT: dirty data has not reached 0 within 60 s; admission opens again. A revert that meets it waits for the next
reset (log entry 91). -/
def activationFlushTimeout (s : State) : State :=
  match s.fw.goal with
  | none => s
  | some g =>
    if s.dirtyBytes = 0 then s.afterFlush
    else if dueAt s.now s.fw.flushAt (60 * sNs) then
      if g = .activate then s.cancelActivation
      else { s with fw := { s.fw with goal := none }, pwr := { s.pwr with flushAll := false } }
    else s

def execActivationFlushTimeout (t : Nat) (s : State) : Res := act t true s activationFlushTimeout

/-- Arrays that this module still owns. -/
def State.ownArrays (s : State) : List Nat := s.arrays.filter fun a => decide (s.o 0x2410 a 3 = s.ownIndex)

/-- Table 5 step 3, once the peer has assembled every array. -/
def State.afterDrain (s : State) : State := if s.ownArrays.isEmpty then s.activate else s

/-- Table 5 step 1: each array and each interface row active here goes to the peer; the homes stay. -/
def State.startDrain (s : State) : State :=
  let other := 1 - s.ownIndex
  let rows := s.ifRows.filter fun r => decide (s.o 0x2412 r 3 = s.ownIndex)
  let s := { s with fw := { s.fw with drainAt := some s.now } }.put 0x2302 0 6 3
  let s := s.each (s.ownArrays.filter fun a => decide (s.o 0x2410 a 4 = 0)) State.startTransfer
  let s := s.each rows fun s r => s.moveInterface r other
  s.each s.arrays fun s a => (s.kick a).syncDirty

/-- R606: the peer is fit and is not draining its own arrays to this module, and the module serves. -/
def State.mayDrain (s : State) : Bool :=
  s.twin.twinMode && s.activationIsDue && s.timeGood && decide (s.ob 0x2301 1 = 3) && s.paired && s.peerFit && s.serving &&
    s.arrays.all fun a => decide (s.o 0x2410 a 4 ≠ 2)

/-- When both modules are due, module B goes first (R606). Whether B is due no record tells: unless the peer already runs the version that
module A has received, it is a free value (log entry 177). -/
def State.peerFirst (s : State) : Bool :=
  decide (s.ownIndex = 0) && (s.twin.health.map fun h => h.2.firmware) != s.fw.slot.map Image.version && decide (s.draw % 2 = 1)

/-- DRAIN_START; the command also stands for the end of a drain (log entry 89). -/
def drainStart (s : State) : State :=
  if s.fw.drainAt.isSome then s.afterDrain
  else if s.mayDrain then (if s.peerFirst then s.drawn else s.drawn.startDrain.afterDrain)
  else s

def execDrainStart (t : Nat) (s : State) : Res := act t true s drainStart

/-- DRAIN_TIMEOUT: not every array has been assembled by the peer within 9 s. -/
def drainTimeout (s : State) : State :=
  match s.fw.drainAt with
  | some u => if s.ownArrays.isEmpty then s.afterDrain else if dueAt s.now u (9 * sNs) then s.cancelActivation else s
  | none => s

def execDrainTimeout (t : Nat) (s : State) : Res := act t true s drainTimeout

/-! ### Confirmation and revert (R600 to R603) -/

/-- The four steps of R601. -/
def State.confirmImage (s : State) : State :=
  let i := s.fw.running
  let s := if s.ob 0x2300 3 < i.svn then s.keepVal 0x2300 0 3 (.nat i.svn) else s
  let revoked := ((List.range 4).filter fun k => decide (k < i.lowest)).foldl setBit (s.ob 0x2300 0xB)
  let s := s.keepVal 0x2300 0 0xB (.nat revoked)
  let s := { s with
    dict := { s.dict with changes := 0 }
    fw := { s.fw with fallback := some i, snapshot := s.dict.store, trial := false, trialBoots := 0 } }
  ((s.put 0x2300 0 4 0).put 0x2300 0 5 0).raise .firmwareConfirmed [i.version]

/-- An image in trial is confirmed; in another image state the write has no effect (log entry 92). -/
def State.confirm (s : State) : State := if s.ob 0x2300 4 = 1 then s.confirmImage else s

/-- CONFIRM. -/
def confirm (sess v : Nat) (s : State) : State :=
  s.writeAs sess 0x2302 8 (.nat v) (fun _ => need (decide (v = 1)) abRange) State.confirm

def execConfirm (t sess v : Nat) (s : State) : Res := act t true s (confirm sess v)

/-- TRIAL_TIME_EXPIRY: the image has served for 2302h:0A without a break with its verdict passing throughout. -/
def trialTimeExpiry (s : State) : State :=
  if s.serving && decide (s.ob 0x2404 1 = 0 ∧ s.ob 0x2302 0xA ≠ 0) && !s.fw.rejected &&
      dueAt s.now (max s.fw.bootAt s.twin.failedAt) (s.ob 0x2302 0xA * sNs) then s.confirm
  else s

def execTrialTimeExpiry (t : Nat) (s : State) : Res := act t true s trialTimeExpiry

/-- The slot image is rejected and the module resets once it has flushed. -/
def State.revertImage (s : State) : State :=
  ({ s with fw := { s.fw with rejected := true } }.fastFlush .revert).afterFlush

/-- REVERT: refused unless the image is in trial. -/
def revertCode (v : Nat) (s : State) : Abort :=
  firstCode [need (decide (v = 1)) abRange, need (decide (s.ob 0x2300 4 = 1)) abState]

def revert (sess v : Nat) (s : State) : State := s.writeAs sess 0x2302 9 (.nat v) (revertCode v) State.revertImage

def execRevert (t sess v : Nat) (s : State) : Res := act t true s (revert sess v)

/-! ### Identity and attestation (R607 to R611) -/

/-- A trailer as R288 lays it out: the Ed25519 and the ML-DSA-65 signature of the bytes before it. -/
def signed (context : String) (m : Nat × Nat) : Nat × Nat :=
  (m.1 + 3373, (m.2 * 256 ^ 64 + Config.ed25519 m.1 m.2 % 256 ^ 64) * 256 ^ 3309 + Config.mldsa65 context m.1 m.2 % 256 ^ 3309)

/-- The key-establishment record (Table 6). -/
def State.keyRecord (s : State) : Nat × Nat :=
  signed "SRZ-3224 key establishment" (leFields [(4, asciiField 4 "SRZK"), (2, 1), (2, 0), (16, asciiField 16 (serialText (s.ob 0x1018 4))),
    (1184, leField 1184 Config.mlkemKey), (32, leField 32 Config.x25519Key), (8, Config.keyIssueTime)])

/-- Flags of the report (Table 7). -/
def State.reportFlags (s : State) : Nat :=
  (if s.fw.source = 2 then 1 else 0) + (if s.ob 0x2300 4 = 1 then 2 else 0) + (if s.loaderOnly then 4 else 0) +
    (if s.ob 0x1120 4 = 1 then 8 else 0)

def State.imageDigest (i : Option Image) : Nat :=
  match i with
  | some i => i.digest
  | none => 0

/-- The report that attests the module to the session of `nonce` (Table 7). -/
def State.report (s : State) (nonce : Nat) : Nat × Nat :=
  signed "SRZ-3224 attestation" (leFields [(4, asciiField 4 "SRZA"), (2, 1), (2, s.reportFlags), (16, asciiField 16 (serialText (s.ob 0x1018 4))),
    (48, leField 48 nonce), (8, wrapInt 64 s.ptpNow), (1, s.ob 0x3020 7), (1, s.fw.running.svn), (1, s.ob 0x2300 3),
    (1, s.ob 0x2300 0xB), (4, s.runningVersion), (4, (s.fw.fallback.map Image.version).getD 0), (48, leField 48 Config.bootRomDigest),
    (48, leField 48 Config.loaderDigest), (48, leField 48 s.fw.running.digest), (48, leField 48 (State.imageDigest s.fw.fallback)),
    (48, leField 48 (Config.settingsDigest s.dict.store)), (8, s.twin.configGen), (12, 0)])

/-- The session keeps its own nonce. -/
def State.setNonce (s : State) (sess nonce : Nat) : State :=
  s.withSession sess fun x => s.setSession sess { x with nonce := nonce }

/-- ATTESTATION_NONCE_WRITE. -/
def attestationNonceWrite (sess nonce : Nat) (s : State) : State :=
  s.writeAs sess 0x2320 1 (.oct 48 nonce) (fun _ => 0) fun s => s.setNonce sess nonce

def execAttestationNonceWrite (t sess nonce : Nat) (s : State) : Res := act t true s (attestationNonceWrite sess nonce)

/-- ATTESTATION_REPORT_READ: the report is built from the session's nonce at the read. -/
def attestationReportRead (sess : Nat) (s : State) : State :=
  s.withSession sess fun x =>
    let r := s.report x.nonce
    s.reply sess 0 (some (.oct r.1 r.2))

def execAttestationReportRead (t sess : Nat) (s : State) : Res := act t true s (attestationReportRead sess)

/-- Objects of 17 Table 10 that the image tables give. -/
def State.readFirmware (s : State) (idx sub : Nat) : Option Val :=
  match idx, sub with
  | 0x2300, 1 => some (.nat s.runningVersion)
  | 0x2300, 2 => some (.nat (if s.loaderOnly then 0 else s.fw.running.svn))
  | 0x2300, 6 => some (.nat ((s.fw.fallback.map Image.version).getD 0))
  | 0x2300, 7 => some (.nat ((s.fw.slot.map Image.version).getD 0))
  | 0x2300, 8 => some (.nat (Config.bootRomVersion % 2 ^ 32))
  | 0x2300, 9 => some (.nat (Config.loaderVersion % 2 ^ 32))
  | 0x2300, 0xA => some (.nat s.fw.running.format)
  | 0x2300, 0xC => some (.nat s.fw.source)
  | 0x2301, 2 => some (.nat s.fw.rxLen)
  | 0x2310, 1 => some (.oct (Config.chain 1).1 ((Config.chain 1).2 % 256 ^ (Config.chain 1).1))
  | 0x2310, 2 => some (.oct (Config.chain 2).1 ((Config.chain 2).2 % 256 ^ (Config.chain 2).1))
  | 0x2310, 3 => some (.oct s.keyRecord.1 s.keyRecord.2)
  | _, _ => none

end Sys2Proof.Machine
end

