-- ==== Sys2Proof/Machine/Boot.lean ====
section
/-! DEFINITION. The boot (17 R596 to R603): the boot ROM's choice of an image, the settings it starts from, and the state that
every chapter takes afresh or keeps at a reset. -/

namespace Sys2Proof.Machine

/-! ### Boot choices (17 Table 4) -/

/-- Why the boot ROM does not take an image; 0 if it takes it. Codes 1 to 5 and 8 are those of Table 3; 11 a signature, 12 a GCM
tag, 15 no image (log entry 93). -/
def State.imageCode (s : State) (i : Option Image) (c : ImageCheck) : Nat :=
  match i with
  | none => 15
  | some i =>
    if c.signaturesOk = false then 11
    else if s.headerCode i ≠ 0 then s.headerCode i
    else if c.digestOk = false then 8
    else if c.tagsOk = false then 12
    else 0

/-- The same for the slot: 13 three trial boots, 14 rejected by a revert, 16 received and not yet activated (Table 9). -/
def State.slotCode (s : State) (c : ImageCheck) : Nat :=
  if s.fw.slot.isSome ∧ s.fw.fresh = true then 16
  else
    let k := s.imageCode s.fw.slot c
    if k ≠ 0 then k
    else if s.fw.rejected then 14
    else if s.fw.trial = true ∧ 3 ≤ s.fw.trialBoots then 13
    else 0

/-- The source the boot ROM takes: 1 slot, 2 fallback, 3 loader only. -/
def State.bootSource (s : State) (e : BootEnv) : Nat :=
  if s.slotCode e.slot = 0 then 1 else if s.imageCode s.fw.fallback e.fallback = 0 then 2 else 3

/-! ### Settings at boot (16 R561 to R563, 17 R602) -/

/-- Index of a key of the object tables, its row and its sub-index. -/
def keyIdx (k : Nat) : Nat := k / 256 / 2 ^ 64
def keyRow (k : Nat) : Nat := k / 256 % 2 ^ 64
def keySub (k : Nat) : Nat := k % 256

/-- What a restore of defaults keeps (R563), and what the vault or fuses hold rather than the settings store. -/
def keptByRestore (k : Nat) : Bool :=
  let i := keyIdx k
  !Dict.keeps i (keySub k) || decide (i = 0x1130 ∨ (i = 0x1110 ∧ keySub k ≤ 4) ∨ i = 0x3250 ∨ (0x2300 ≤ i ∧ i ≤ 0x23FF))

/-- What a boot from the fallback image does not restore from the snapshot: sealed tenant KEKs, and what is no setting. -/
def keptByFallback (k : Nat) : Bool := !Dict.keeps (keyIdx k) (keySub k) || decide (keyIdx k = 0x3250)

/-- The settings store after a restore of defaults that waits for this boot. -/
def State.restoreStore (s : State) : State :=
  if s.dict.restorePending then
    { s with dict := { s.dict with store := s.dict.store.filter fun e => keptByRestore e.1, restorePending := false } }
  else s

/-- The settings store of the snapshot. -/
def State.snapshotStore (s : State) : State :=
  let keep := s.dict.store.filter fun e => keptByFallback e.1
  let back := s.fw.snapshot.filter fun e => !keptByFallback e.1
  { s with dict := { s.dict with store := back.foldl (fun t e => Tbl.set t e.1 e.2) keep } }

/-- Status values that the members, the vault or housekeeping keep across a reset (09 R334, 10 R371, 06 R233). -/
def survives (k : Nat) : Bool :=
  let i := keyIdx k
  let b := keySub k
  decide ((i = 0x5001 ∧ 2 ≤ b ∧ b ≤ 9) ∨ (i = 0x5100 ∧ 2 ≤ b ∧ b ≤ 6) ∨ (i = 0x5111 ∧ b = 4) ∨ i = 0x5121 ∨
    (i = 0x3230 ∧ 9 ≤ b ∧ b ≤ 11) ∨ (i = 0x2200 ∧ b = 1))

/-- Objects at boot: what survives, and the settings store where it is read. -/
def State.loadObjects (s : State) (readable : Bool) : State :=
  let kept := s.dict.cur.filter fun e => survives e.1
  let st := if readable then s.dict.store else s.dict.store.filter fun e => !Dict.keeps (keyIdx e.1) (keySub e.1)
  { s with dict := { s.dict with cur := st.foldl (fun t e => Tbl.set t e.1 e.2) kept, gens := [] } }

/-- The factory state (16 R577): no enabled account has level Operator or above. -/
def State.inFactory (s : State) : Bool := (List.range 32).all fun r => decide (s.o 0x1130 r 2 = 0 ∨ s.o 0x1130 r 3 = 0)

/-! ### State taken afresh -/

/-- Arrays at boot: geometry, lists, segment map and journal stay on the members, dirty pages in HBM where it was kept; every array awaits
its recovery (10 R366). -/
def ArrState.afterReset (x : ArrState) : ArrState :=
  { x with
    zeroing := none, jwait := [], jblocks := [], recovering := true, stats := [], lref := 200
    scrubSkipped := [], scrubRow := none, repairWait := [] }

/-- Namespaces at boot: a reservation stays where it persists through power loss (06 R210), keys are there wrapped only (R223). -/
def NsState.afterReset (x : NsState) : NsState :=
  { x with
    key := none
    resv := if x.resv.ptpl then x.resv else { gen := x.resv.gen }
    resvSent := []
    eraseCmd := none, keyAsked := none, keyDone := true, barrier := [] }

/-- A copy region whose copy was cut short is invalid (15 R543). -/
def CopyRegion.afterReset (c : CopyRegion) : CopyRegion :=
  if c.state = 1 then { c with state := 3, intents := [], pages := [], taken := [] } else c

/-- The units of the module at reset: volatile state starts anew. -/
def State.freshUnits (s : State) : State :=
  { s with
    vcore := 8200
    rings := []
    sess := { nextId := s.sess.nextId }
    ev := { seq := s.ev.seq, log := s.ev.vault, vault := s.ev.vault }
    core := { voltSince := s.now, windowFrom := s.now }
    fab := {}
    eth := { cages := s.eth.cages.map fun e => (e.1, { level := e.2.level, fitted := e.2.fitted }) }
    ptp := { offset := s.ptp.offset, slew := s.ptp.slew, slewFrom := s.ptp.slewFrom, rate := s.ptp.rate
             rateFrom := s.ptp.rateFrom, listenFrom := s.now }
    rdma := {}
    sched := {}
    nvme := { ns := s.nvme.ns.map fun e => (e.1, e.2.afterReset), nextCmd := s.nvme.nextCmd, sealed := s.nvme.sealed
              ngBase := s.nvme.ngBase }
    arr := { s.arr with arrs := s.arr.arrs.map fun e => (e.1, e.2.afterReset), flushes := [], accs := [], recons := [] }
    slot := { nextCmd := s.slot.nextCmd }
    dma := []
    np := s.np.map fun e => (e.1, {
      perst := e.2.perst, cfg := e.2.cfg, training := e.2.training, linkUp := e.2.linkUp, width := e.2.width, rate := e.2.rate })
    twin := { yieldIn := s.twin.yieldIn, yieldInSince := s.now, yieldTimes := s.twin.yieldTimes, configGen := s.twin.configGen
              volts := s.twin.volts, settleFrom := s.now, failedAt := s.now }
    pwr := { gate := s.pwr.gate, gateAt := s.pwr.gateAt, good := s.pwr.good, goodAt := s.pwr.goodAt, faults := s.pwr.faults
             cause := s.pwr.cause, lost := s.pwr.lost, storedCap := s.pwr.storedCap, copySeq := s.pwr.copySeq, idleSince := s.now
             regions := s.pwr.regions.map fun e => (e.1, e.2.afterReset) }
    land := { mgmt := s.land.mgmt } }

/-- The PTP clock after a loss of input power (04 R641): the end of the newest page in the vault, or the image's build time. -/
def State.bootClock (s : State) : State :=
  if s.pwr.lost then
    let pages := s.meter.vault.map fun p => p.upTo
    let t := pages.foldl max ((s.fw.running.buildTime * sNs : Nat) : Int)
    { s with ptp := { s.ptp with offset := t - s.now, slew := 0, slewFrom := s.now, rate := 0, rateFrom := s.now }, pwr := { s.pwr with lost := false } }
  else s

/-- The ledger opens a page at the first instant after boot (08 Table 2), with the gap and counts-lost flags that the end of the last one
left. -/
def State.bootLedger (s : State) : State :=
  let x := s.meter
  let keep := (if bit x.flags 4 then 16 else 0) + (if bit x.flags 8 then 256 else 0)
  let hs := s.ledgerHolders
  { s with meter := { x with
      counts := [], start := s.ptpNow, flags := keep + 1, late := 0, lastLateEvent := none, closing := []
      holders := hs, recs := hs.map fun t => (t, 0) } }.syncPages

/-- Persistent exclusions of barometers are applied one by one, unless the last-two rule forbids it (02 R73). -/
def State.bootBarometer (s : State) (n : Nat) : State :=
  if s.barStatus n = 2 then
    let u := s.put 0x2012 0 (n + 1) 0
    if barometerStatusCode n 2 u = 0 then s else u.raise .exclusionRefused [n]
  else s

/-- A persistent plane status of 2 is applied unless another plane is faulty or out (03 R112). -/
def State.bootPlane (s : State) (p : Nat) : State :=
  if s.planeStatus p = 2 then
    let u := s.put 0x2100 0 (p + 1) 0
    if planeStatusCode p 2 u = 0 then s.planeGone p else u.raise .planeStatusRefused [p]
  else s

/-- A sealed KEK is opened at boot and takes service (06 R225). -/
def State.bootKek (s : State) (e : Nat × Nat) : State := s.applyKek e.1 (unsealKek e.2)

/-- A tenant that held a KEK before the reset and has none now awaits its import (06 R225, 3250h:03; log entry 159). -/
def State.awaitKek (s : State) (tenant : Nat) : State :=
  if Tbl.has s.nvme.keks tenant then s
  else
    let s := s.put 0x3250 tenant 3 2
    s.each (s.nsRows.filter fun r => decide (s.nsTenant r = tenant)) State.syncNsState

/-- The shelf mode of 2400h:01 takes effect (00 R4): a twin module waits for its peer and owns nothing yet. -/
def State.bootTwin (s : State) : State :=
  if s.ob 0x2400 1 = 1 then
    let s := { s with twin := { s.twin with twinMode := true } }.put 0x2400 0 4 1
    s.each s.arrays fun s a => s.put 0x2410 a 3 0xFF
  else s

/-- An input fault that housekeeping has kept is reported (15 R519). -/
def State.bootFault (s : State) : State :=
  if s.pwr.cause = 0 then s
  else (({ s with pwr := { s.pwr with cause := 0 } }).put 0x2200 0 9 s.pwr.cause).raise .inputFault [s.pwr.cause]

/-- The exchange region lies at the top of installed HBM (12 R421). -/
def State.bootExchange (s : State) : State :=
  let n := s.ob 0x5305 1
  if n = 0 then s else s.put 0x5305 0 2 (hbmEnd - n * 2 ^ 30)

/-- An activation that was scheduled stays so (17 R615). -/
def State.rearm (s : State) : State :=
  let due := s.ob 0x2302 1
  if due ≠ 0 ∧ s.fw.fresh = true ∧ s.fw.slot.isSome = true then (s.put 0x2302 0 6 1).put 0x2302 0 0xB (s.dueTime due) else s

/-- What a boot that serves starts: cages and near ports are read again, keys unsealed, exclusions applied, the array status published. -/
def State.bootService (s : State) (old : State) : State :=
  let s := s.each (List.range 64) State.bootBarometer
  let s := s.each (List.range 4) State.bootPlane
  let s := s.checkVerified
  let s := s.each s.nvme.sealed State.bootKek
  let s := s.each ((List.range 4096).filter fun k => decide (old.o 0x3250 k 3 ≠ 0)) State.awaitKek
  let s := s.bootTwin
  let s := s.each (List.range 8) fun s n => if (s.cage n).level then s.rereadCage n else s
  (s.each s.arrays State.syncAna).syncDirty

/-- The image that runs, and its trial (17 R598, R600). -/
def State.takeImage (s : State) (e : BootEnv) : State :=
  let src := s.bootSource e
  let f := s.fw
  let f := { f with source := src, bootAt := s.now, goal := none, drainAt := none, rx := 0, rxLen := 0 }
  if src = 1 then
    let f := { f with running := s.fw.slot.getD s.fw.running }
    let f := if f.trial then { f with trialBoots := f.trialBoots + 1 } else f
    { s with fw := f }
  else if src = 2 then
    let f := { f with running := s.fw.fallback.getD s.fw.running }
    if s.fw.slot.isSome ∧ s.fw.fresh = true then { s with fw := f }
    else { s with fw := { f with slot := none, fresh := false, rejected := false, trial := false, trialBoots := 0 } }
  else { s with fw := { f with trial := false, trialBoots := 0 } }

/-- Image state and transfer state as the boot finds them, and the events of a fallback (R598, R602). -/
def State.showImage (s old : State) (e : BootEnv) : State :=
  let s := if s.fw.slot.isSome ∧ s.fw.fresh = true then s.put 0x2301 0 1 3 else s
  if s.fw.source = 1 then
    if s.fw.trial then (s.put 0x2300 0 4 1).put 0x2300 0 5 s.fw.trialBoots else s
  else if s.fw.source = 3 then s.put 0x2300 0 4 3
  else if s.fw.slot.isSome then s
  else
    let s := (s.put 0x2300 0 4 2).raise .firmwareFallback [(old.fw.slot.map Image.version).getD 0, old.slotCode e.slot]
    ({ s with dict := { s.dict with changes := 0 } }).raise .settingsReverted [old.dict.changes]

/-- Refusal 9 of a transfer that the reset ended stays to be read. -/
def State.showRefusal (s : State) (ended : Bool) : State :=
  if ended then (s.put 0x2301 0 1 4).put 0x2301 0 6 9 else s

/-- The boot of a module whose loader verifies. -/
def State.boot (s : State) (e : BootEnv) : State :=
  let old := s
  let ended := s.receiving || decide (s.ob 0x2301 1 = 4 ∧ s.ob 0x2301 6 = 9)
  let cut := s.pwr.regions.any fun r => decide (r.2.state = 1)
  let s := s.takeImage e
  let s := if s.fw.source = 2 ∧ s.fw.slot = none then s.snapshotStore else s
  let s := s.restoreStore
  let s := (s.loadObjects (s.fw.source ≠ 3 || e.settingsReadable)).freshUnits
  let s := s.bootClock.bootLedger
  let s := (s.showImage old e).showRefusal ended
  let s := if cut then s.keepVal 0x2201 0 8 (.nat 2) else s
  let s := s.put 0x1120 0 4 (if s.inFactory then 1 else 0)
  let s := (s.bootFault.bootExchange).rearm
  let s := s.each [0, 1] State.npBoot
  let s := if s.fw.source = 3 then { s with twin := { s.twin with stopped := true } } else s.bootService old
  s.emit (.canHeartbeat (s.ob 0x1100 1) 0)

/-- BOOT: the module has good input power, no storm warning is in force and no shutdown lasts. A loader that does not verify halts the
module for good. -/
def boot (e : BootEnv) (s : State) : State :=
  if s.pwr.off && s.pwr.good && !s.pwr.storm && !s.land.hot && !s.fw.halted then
    if e.loaderOk then s.boot e else { s with fw := { s.fw with halted := true } }
  else s

def execBoot (t : Nat) (e : BootEnv) (s : State) : Res := actAll t true s (boot e)

end Sys2Proof.Machine
end

