-- ==== Sys2Proof/Machine/DictRead.lean ====
section
/-! DEFINITION. Reading the dictionary (16 R554, R555, R558): the objects that show a register of the machine, and the
checks of a read by a session. -/

namespace Sys2Proof.Machine

/-! ### Computed objects -/

/-- A rational as whole units, rounded down (log entry 94). -/
def wholeUnits (q : Rat) : Nat := q.floor.toNat

/-- Insert an event into a list in ascending order of code. -/
def insertByCode (e : Ev) : List Ev → List Ev
  | [] => [e]
  | f :: r => if e.code ≤ f.code then e :: f :: r else f :: insertByCode e r

/-- The event catalogue in ascending order of code (R580). -/
def catalogue : List Ev := Ev.all.foldr insertByCode []

/-- A 64-byte event record (Table 6). -/
def EventRec.bytes (e : EventRec) : Nat :=
  (leFields [(8, e.seq), (8, wrapInt 64 e.time), (4, e.ev.code), (1, e.ev.severity),
    (1, (if e.traceable then 0 else 1) + (if e.coalesced then 2 else 0)), (2, e.ev.emergency.1)]).2 * 256 ^ 40 +
    Config.eventData e.ev.name e.data % 256 ^ 40

/-- A 144-byte sampler record (03 Table 9). -/
def SampleRec.bytes (r : SampleRec) : Nat :=
  (leFields [(1, 2), (1, (if r.egress then 128 else 0) + (if r.truncated then 64 else 0) + (if r.stomped then 32 else 0)),
    (1, r.port), (1, r.captured), (2, r.length), (2, r.drops), (8, wrapInt 64 r.time), (128, slice r.head 0 r.captured)]).2

/-- The interface type of a port: 1 KR, 2 CR, 3 C2M; type 0 follows the plug (04 R118, R119). -/
def State.interfaceType (s : State) (p : Nat) : Nat :=
  let t := s.o 0x3001 p 3
  if t ≠ 0 then t else
  match (Tbl.get ({} : Cage) s.eth.cages (p / 4)).plug with
  | .copper => 2
  | .active _ => 3
  | .unreadable => 0

/-- The PHY of a port whose link is up (04 Table 1). -/
def State.phyName (s : State) (p : Nat) : String :=
  let r : String × String := match s.modeOf p with
    | 0 => ("400", "4") | 1 => ("200", "2") | 2 => ("100", "1")
    | 3 => ("200", "4") | 4 => ("100", "2") | _ => ("50", "")
  if (s.port p).linkUp = false then "" else
  match s.interfaceType p with
  | 1 => r.1 ++ "GBASE-KR" ++ r.2
  | 2 => r.1 ++ "GBASE-CR" ++ r.2
  | 3 => r.1 ++ "GAUI-" ++ (if r.2 = "" then "1" else r.2) ++ " C2M"
  | _ => ""

/-- Fields of 3002h (04 Table 7). -/
def State.readPort (s : State) (p sub : Nat) : Option Val :=
  match sub with
  | 2 => some (.nat (s.portState p + if s.headroomShortNow p then 128 else 0))
  | 3 => some (.str (s.phyName p))
  | 4 => some (.real (s.linkDelay p))
  | 5 => some (.nat (if (s.measuredDelay p).isSome then 1 else 0))
  | 6 => some (.nat (match s.losslessSet p with | k :: _ => s.headroom p k | [] => s.headroomFormula p))
  | 7 => some (.nat (s.xoff p))
  | 8 => some (.nat (s.xon p))
  | 9 => some (.oct 6 (portMac p))
  | _ => none

/-- Fields of 3101h that are ro (05 Table 8); those of a free row read zero. -/
def State.readQp (s : State) (i sub : Nat) : Val :=
  match Tbl.find? s.rdma.qps i with
  | none => .nat 0
  | some q =>
    match sub with
    | 0x02 => .nat q.state
    | 0x03 => .nat (wireQpn i q)
    | 0x04 => .nat q.loc
    | 0x06 => .nat q.tenant
    | 0x07 => .nat q.cls
    | 0x08 => .nat q.ifRow
    | 0x09 => .nat q.port
    | 0x0A => .oct 16 q.remoteIp
    | 0x0B => .nat q.remoteQpn
    | 0x0C => .nat q.srcPort
    | 0x0D => .nat q.mtu
    | 0x0E => .nat q.pkey
    | 0x0F => .nat (sliceOf i)
    | 0x10 => .nat q.cluster
    | 0x11 => .nat q.ePsn.toNat
    | 0x12 => .nat q.nPsn.toNat
    | 0x13 => .nat q.oldest.toNat
    | 0x14 => .nat q.msn
    | 0x15 => .nat q.reads.length
    | 0x16 => .nat q.depth
    | 0x17 => .nat q.outstanding
    | 0x18 => .nat q.window
    | 0x19 => .real q.alpha
    | 0x1A => .real (q.srtt.getD 0)
    | 0x1B => .real ((s.baseRtt q).getD 0)
    | 0x1C => .nat q.retries
    | 0x1D => .nat q.rnrRetries
    | 0x1E => .nat q.bufs
    | 0x1F => .nat (if q.twin then 1 else 0)
    | 0x20 => .nat q.rxCount
    | 0x21 => .nat q.txCount
    | 0x22 => .nat q.retxCount
    | 0x23 => .nat q.cnpRx
    | 0x24 => .nat q.cnpTx
    | 0x25 => .nat q.nakRx
    | _ => .nat q.dups

/-- Fields of the QP error log (05 Table 11); an entry not written reads zero. -/
def State.readQpErr (s : State) (n sub : Nat) : Val :=
  match s.rdma.errLog[n]? with
  | none => .nat 0
  | some e =>
    match sub with
    | 2 => .nat (wrapInt 64 e.time)
    | 3 => .nat e.qpn
    | 4 => .nat e.tenant
    | 5 => .oct 16 e.ip
    | 6 => .nat e.reason
    | 7 => .nat e.syndrome
    | 8 => .nat e.psn
    | 9 => .nat e.affected
    | 0xA => .oct 16 (leFields ((List.range 8).map fun k => (2, e.cids.getD k 0xFFFF))).2
    | _ => .nat (e.kept % 65536 * 65536 + e.discarded % 65536)

/-- Fields of a controller (06 Table 16). -/
def State.readCtrl (s : State) (id sub : Nat) : Val :=
  let n := Tbl.get (0, 0) s.nvme.served id
  if sub = 7 then .nat n.1 else if sub = 8 then .nat n.2 else
  match Tbl.find? s.nvme.ctrls id with
  | none => .nat 0
  | some c =>
    match sub with
    | 2 => .nat c.state
    | 3 => .nat c.hostRow
    | 4 => .nat c.subsys
    | 5 => .nat c.ioQps.length
    | _ => .nat c.kato

/-- The extents of a namespace (09 Table 12). -/
def State.readExtents (s : State) (r sub : Nat) : Val :=
  let es := (Tbl.get ({} : NsState) s.nvme.ns r).extents.take 64
  if sub = 2 then .nat es.length
  else .oct 1024 ((leFields (es.flatMap fun e => [(8, e.1), (8, e.2)])).2 * 256 ^ (1024 - 16 * es.length))

/-- Fields of the lost-block list (10 Table 9). -/
def State.readLostRow (s : State) (row sub : Nat) : Val :=
  match (s.arrS (row / 65536)).lost[row % 65536]? with
  | none => .nat 0
  | some l =>
    match sub with
    | 2 => .nat l.nsRow
    | 3 => .nat l.lba
    | 4 => .nat l.count
    | 5 => .nat (wrapInt 64 l.time)
    | _ => .nat l.cause

/-- The record of an event sequence; one that the log no longer holds reads zero. -/
def State.readEvent (s : State) (seq : Nat) : Val :=
  match s.ev.log.find? fun e => decide (e.seq = seq) with
  | some e => .oct 64 e.bytes
  | none => .oct 64 0

/-- Fields of the catalogue; rows beyond the last code read code 0 (R580). -/
def readCatalogue (row sub : Nat) : Val :=
  match catalogue[row]? with
  | none => if sub = 3 then .str "" else .nat 0
  | some e =>
    match sub with
    | 2 => .nat e.code
    | 3 => .str e.name
    | 4 => .nat e.severity
    | _ => .nat e.emergency.1

/-- Fields of the violation log (Table 11). -/
def State.readViolation (s : State) (row sub : Nat) : Val :=
  match s.ev.violations[row]? with
  | none => .nat 0
  | some v =>
    match sub with
    | 2 => .nat (wrapInt 64 v.time)
    | 3 => .nat v.kind
    | 4 => .oct 16 v.partner
    | 5 => .nat v.condition
    | 6 => .oct 16 v.detail
    | _ => .nat v.coalesced

/-- Objects outside row windows that show a register of the machine. -/
def State.readPlain (s : State) (idx sub : Nat) : Option Val :=
  match idx, sub with
  | 0x1001, _ => some (.nat s.ev.register)
  | 0x100A, _ => some (.str (Config.versionText s.runningVersion))
  | 0x1120, 5 => some (.nat s.sess.tbl.length)
  | 0x1140, 4 => some (.nat (s.sess.lockouts.filter fun e => decide (s.now < e.2.lockedUntil.getD 0)).length)
  | 0x2001, 3 => some (.nat (s.effectiveTarget 0))
  | 0x2001, 4 => some (.nat (s.effectiveTarget 1))
  | 0x2002, 1 => some (.nat (s.vcore / 10))
  | 0x2030, 1 => some (.real s.capacityNow)
  | 0x2020, 2 => some (s.minuteFactor)
  | 0x2030, 2 => some (.real s.transitBound)
  | 0x2101, 2 => some (.real s.reseqTimeout)
  | 0x2101, 3 => some (.real s.skewBound)
  | 0x3020, 0xB => some (.nat (wrapInt 64 s.ptpNow))
  | 0x3100, 0xB => some (.nat (s.rdma.qps.filter fun e => decide (e.2.state ≠ 4)).length)
  | 0x3100, 0xC => some (.nat (sumNat ((List.range 4).map s.residentIn)))
  | 0x3200, 6 => some (.nat (1048576 - 4 * s.poolUsed))
  | 0x6001, 1 => some (.nat s.ev.seq)
  | 0x6001, 2 => some (.nat s.ev.dropped)
  | 0x2010, n => if n = 0 then none else some (.nat (wholeUnits (s.barMean (n - 1))))
  | _, _ => s.readFirmware idx sub

/-- Fields of row windows that show a register of the machine. -/
def State.readRow (s : State) (idx row sub : Nat) : Option Val :=
  match idx with
  | 0x3002 => s.readPort row sub
  | 0x3101 => some (s.readQp row sub)
  | 0x3120 => match sub with
    | 2 => some (.nat (s.residentIn row))
    | 3 => some (.nat (s.pinnedIn row))
    | _ => none
  | 0x3130 => some (s.readQpErr row sub)
  | 0x3230 => if sub = 0xD then some (.nat (s.nuse row)) else none
  | 0x3260 => some (s.readCtrl row sub)
  | 0x4011 => if sub = 2 then some (.nat (s.nvme.cmds.filter fun e => decide (e.2.stage = .waitAdmit ∧ e.2.tenant = row)).length)
    else none
  | 0x4020 => match sub with
    | 6 => some (.nat (cycleTime (s.gate row).oper))
    | 7 => some (.nat (s.gatesNow row))
    | 8 => some (.nat (s.gatesRunning row))
    | _ => none
  | 0x4021 => match sub with
    | 4 => some (.nat ((s.gate (row / 64)).oper.getD (row % 64) (0, 0)).1)
    | 5 => some (.nat ((s.gate (row / 64)).oper.getD (row % 64) (0, 0)).2)
    | _ => none
  | 0x4051 => if sub = 2 then some (.nat (s.class0Allowance row)) else none
  | 0x4110 => some (s.readPage row sub)
  | 0x4120 => some (s.readLive row sub)
  | 0x5040 => some (s.readExtents row sub)
  | 0x5120 => some (s.readLostRow row sub)
  | 0x5302 => some (s.readVf row sub)
  | 0x5307 => s.readOutbound row sub
  | 0x5341 => s.readChan row sub
  | 0x6000 => some (s.readEvent row)
  | 0x6010 => some (readCatalogue row sub)
  | 0x6020 => some (s.readViolation row sub)
  | _ => none

/-- A value in the form of its type (R554). -/
def Desc.shape (d : Desc) (v : Val) : Val :=
  match d.ty, v with
  | .i32, .nat n => .int n
  | .real32, .nat n => .real (binary32 n)
  | .real32, .int i => .real (binary32 i)
  | .real32, .real q => .real (binary32 q)
  | .oct n, .nat k => .oct n (k % 256 ^ n)
  | .domain, .nat _ => .oct 0 0
  | .str _, .nat _ => .str ""
  | _, v => v

/-- What an object or a field of a row reads as. -/
def State.shown (s : State) (idx row sub : Nat) (d : Desc) : Val :=
  d.shape ((if Dict.rows idx = 0 then s.readPlain idx sub else s.readRow idx row sub).getD (s.val idx row sub))

/-- Existence, level and access of a read (R643 checks 1 and 2); R295 reserves the performance counters. -/
def State.readCode (s : State) (x : Session) (idx sub : Nat) : Abort :=
  if Dict.hasIndex idx then
    match Dict.desc? idx sub with
    | none => abNoSub
    | some d =>
      if Dict.isPerf idx ∧ x.level < 2 then abLevel
      else if d.acc = .wo then abReadWo else need (s.areaOpen idx) abState
  else abNoIndex

/-- Read the sampler ring: up to 64 whole unread records, as many as fit in `cap` bytes, oldest first (R572, 03 R109). -/
def State.readRing (s : State) (cap : Nat) : Val × State :=
  let rs := s.fab.samples.take (min 64 (cap / 144))
  (.oct (144 * rs.length) (rs.foldl (fun v r => v * 256 ^ 144 + r.bytes) 0),
    { s with fab := { s.fab with samples := s.fab.samples.drop rs.length } })

/-- A read that is allowed: the value and what the read changes. -/
def State.readValue (s : State) (x : Session) (idx sub cap : Nat) : Val × State :=
  if Dict.isPerf idx then
    if sub = 1 then
      let r := s.latchCounter (idx - 0x6800)
      (.nat r.1, r.2)
    else (.nat (s.ob idx sub), s)
  else if idx = 0x2011 then
    (.nat (s.ob 0x2011 sub), s.put 0x2011 0 sub ((s.barSamples (sub - 1)).headD 0))
  else if idx = 0x2122 ∧ sub = 3 then s.readRing cap
  else if idx = 0x2320 ∧ sub = 1 then (.oct 48 x.nonce, s)
  else if idx = 0x2320 ∧ sub = 2 then
    let r := s.report x.nonce
    (.oct r.1 r.2, s)
  else
    match Dict.desc? idx sub with
    | none => (.nat 0, s)
    | some d =>
      if Dict.rows idx = 0 then (s.shown idx 0 sub d, s)
      else
        let st := s.stage x idx
        if sub = 1 then (.nat st.row, s)
        else if sub = 0xFD then (.nat (s.gen idx st.row), s)
        else if d.acc = .rw then
          (match idx, s.readRow idx st.row sub with
            | 0x5307, some v => v
            | _, _ => d.shape (st.val sub), s)
        else (s.shown idx st.row sub d, s)

/-- Read an object as a session (R555, R558, R643): the abort code, the value where it is 0, and the state after. -/
def State.readObj (s : State) (x : Session) (idx sub cap : Nat) : Abort × Val × State :=
  let c := s.readCode x idx sub
  if c = 0 then (0, s.readValue x idx sub cap) else (c, .nat 0, s)

end Sys2Proof.Machine
end

