-- ==== Sys2Proof/Machine/DictWrite.lean ====
section
/-! DEFINITION. Writing the dictionary: any object by any session, with the rules that join objects and the effects that
the chapters give a write; accounts, the factory state, restoring defaults and acknowledging errors (16). -/

namespace Sys2Proof.Machine

/-! ### Accounts and the factory state (R576, R577) -/

/-- Commit of 1130h: the account's level, as stored and as staged, is at or below the session's (R576). -/
def accountCode (x : Session) (st : Stage) (s : State) : Abort :=
  need (decide (s.o 0x1130 st.row 3 ≤ x.level ∧ st.n 3 ≤ x.level)) abLevel

/-- The factory state follows the accounts; at its end every session opened under it drops to Observer (R577). -/
def State.tellFactory (s : State) : State :=
  let f := s.inFactory
  let s := s.put 0x1120 0 4 (if f then 1 else 0)
  if f then s
  else { s with sess := { s.sess with tbl := s.sess.tbl.map fun e =>
    (e.1, if e.2.factory && !e.2.authed then { e.2 with level := 0 } else e.2) } }

/-- The commit of an account row. -/
def accountApply (_ : Stage) (_ u : State) : State := u.tellFactory

/-- End a session; the module tells its client (R644). -/
def State.closeSession (s : State) (id : Nat) : State :=
  ({ s with sess := { s.sess with tbl := Tbl.erase s.sess.tbl id } }).emit (.closed id)

/-- The session can no longer stand: Alonard over UDP is off (R644), or its account is disabled (R576). -/
def State.mustEnd (s : State) (x : Session) : Bool :=
  (decide (x.transport = .udp) && decide (s.ob 0x1120 1 = 0)) ||
    (match x.account with | some a => decide (s.o 0x1130 a 2 = 0) | none => false)

/-- After a write or a message has been answered, sessions that can no longer stand end (R576, R644). -/
def State.tidySessions (s : State) : State :=
  s.each ((s.sess.tbl.filter fun e => s.mustEnd e.2).map Prod.fst) State.closeSession

/-! ### Single objects of this chapter -/

/-- RESTORE_DEFAULTS: refused while any array exists; acts at the next boot (R563). -/
def State.writeRestore (s : State) (sess v : Nat) : State :=
  s.writeAs sess 0x1011 1 (.nat v)
    (fun s => firstCode [need (decide (v = 0x64616F6C)) abRange, need ((List.range 4).all fun a => decide (s.o 0x5000 a 2 = 0)) abState])
    fun s => { s with dict := { s.dict with restorePending := true } }

/-- ACKNOWLEDGE_ERRORS clears 1001h and sends EMCY code 0 (R582). -/
def State.writeAcknowledge (s : State) (sess v : Nat) : State :=
  s.writeAs sess 0x6001 4 (.nat v) (fun _ => need (decide (v = 1)) abRange) fun s =>
    let a := s.emcyAt
    let s : State := { s with ev := { s.ev with register := 0, lastEmcy := if s.emcyOn then some a else s.ev.lastEmcy } }
    if s.emcyOn then s.emit (.emcy s.emcyCob a 0 0 none) else s

/-- A write of the node-ID: the CAN port resumes after a node-ID conflict (R575). -/
def State.writeNodeId (s : State) (sess v : Nat) : State :=
  s.writeAs sess 0x1100 1 (.nat v) (fun _ => 0) fun s =>
    let s := s.setObj 0x1100 1 (.nat v)
    { s with sess := { s.sess with can := { s.sess.can with conflict := false } } }

/-- A write of the twin link mode, a shelf setting: it waits for the peer while the modules are paired (14 R466). -/
def State.writeLinkMode (s : State) (sess : Nat) (v : Val) : State :=
  s.withSession sess fun x =>
    let c := firstCode [writeAccess x 0x2402 1, writeLength 0x2402 1 v, writeRange 0x2402 1 v, need (s.areaOpen 0x2402) abState,
      s.storeCode (decide (s.val 0x2402 0 1 ≠ v))]
    if c = 0 then
      if s.paired then s.holdCommit sess 0x2402 {} (some (1, v))
      else ((s.setObj 0x2402 1 v).configStep 0x2402 1).reply sess 0
    else s.refuse sess c

/-! ### Any other object outside row windows -/

/-- Rules that join an object to others: Kmin below Kmax (04 R138), a ladder floor below its ceiling (07), the pressure
watermark above the flush watermark (09), the read-around maximum at or above the minimum (10). -/
def State.joinCode (s : State) (idx sub n : Nat) : Abort :=
  match idx with
  | 0x2200 => if sub = 4 ∨ sub = 5 then inrushCode sub n s else 0
  | 0x3010 => need (decide (n < s.ob 0x3011 sub)) abJoin
  | 0x3011 => need (decide (s.ob 0x3010 sub < n)) abJoin
  | 0x4030 =>
    if 6 < sub then 0
    else if sub % 2 = 1 then need (decide (n < s.ob 0x4030 (sub + 1))) abJoin
    else need (decide (s.ob 0x4030 (sub - 1) < n)) abJoin
  | 0x5010 => if sub = 3 then need (decide (n < s.ob 0x5010 4)) abJoin
    else if sub = 4 then need (decide (s.ob 0x5010 3 < n)) abJoin else 0
  | 0x5102 => need (decide (n ≤ s.ob 0x5103 sub)) abJoin
  | 0x5103 => need (decide (s.ob 0x5102 sub ≤ n)) abJoin
  | _ => 0

/-- What else a write does at once: the dirty ceiling follows its limit and margin (15 R534), a write of 0 to the Lull mode
thaws (15 R547), the headroom follows the delays it rests on (04 R135). -/
def State.afterWrite (s : State) (idx sub : Nat) : State :=
  match idx with
  | 0x2201 => if sub = 1 ∨ sub = 0xB then s.updateCeiling else s
  | 0x2220 => if sub = 1 ∧ s.ob 0x2220 1 = 0 then s.thawNow else s
  | 0x3021 => s.each ((List.range 32).filter fun p => (s.port p).linkUp) State.recomputeHeadroom
  | _ => s

/-- A write with no rule of its own beyond those of R643. -/
def State.writePlain (s : State) (sess idx sub : Nat) (v : Val) : State :=
  s.writeAs sess idx sub v (fun s => s.joinCode idx sub v.toNat) fun s => (s.setObj idx sub v).afterWrite idx sub

/-- A number written to an object outside row windows. -/
def State.writeNat (s : State) (sess idx sub n : Nat) : State :=
  let other := s.writePlain sess idx sub (.nat n)
  match idx, sub with
  | 0x1011, 1 => s.writeRestore sess n
  | 0x1100, 1 => s.writeNodeId sess n
  | 0x2000, 0 => operatingPointWrite sess n s
  | 0x2002, 2 => coreVoltagePinWrite sess n s
  | 0x2012, k => if 1 ≤ k ∧ k ≤ 64 then barometerStatusWrite sess (k - 1) n s else other
  | 0x2020, 6 => clearTransitStatistics sess n s
  | 0x2021, 6 => clearEnergyStatistics sess n s
  | 0x2100, k => if 1 ≤ k ∧ k ≤ 4 then planeStatusWrite sess (k - 1) n s else other
  | 0x2108, 0 => analysisPortWrite sess n s
  | 0x2201, 4 => stormThresholdWrite sess n s
  | 0x2201, 0xF => clearPfwarnFault sess n s
  | 0x2301, 4 => imageBegin sess n s
  | 0x2301, 5 => imageAbort sess n s
  | 0x2302, 1 => activationSchedule sess n s
  | 0x2302, 7 => activationCancel sess n s
  | 0x2302, 8 => Machine.confirm sess n s
  | 0x2302, 9 => revert sess n s
  | 0x2400, 7 => clearYieldLineFault sess n s
  | 0x2402, 1 => s.writeLinkMode sess (.nat n)
  | 0x2404, 8 => forceYield sess n s
  | 0x2404, 9 => forceTakeover sess n s
  | 0x3000, k => if 1 ≤ k ∧ k ≤ 8 then portModeWrite sess (k - 1) n s else other
  | 0x4000, k => if 1 ≤ k ∧ k ≤ 8 then classPriorityWrite sess (k - 1) n s else other
  | 0x4100, 5 => billingAcknowledge sess n s
  | 0x5220, 3 => lampTest sess n s
  | 0x5223, 5 => clearFaultyInputs sess n s
  | 0x6001, 4 => s.writeAcknowledge sess n
  | _, _ => other

/-- Whether the payload that a piece of an image completes has the digest of its header (17 R595). -/
def State.digestHolds (s : State) (len : Nat) (content : Content) : Bool :=
  let rx := s.fw.rx + content % 256 ^ len * 256 ^ s.fw.rxLen
  let total := slice rx 24 8
  decide (Config.sha384 total (leField total (slice rx 4096 total)) % 2 ^ 384 = leField 48 (slice rx 32 48))

/-- A string of bytes written to an object outside row windows. -/
def State.writeOct (s : State) (sess idx sub len v : Nat) : State :=
  if idx = 0x2320 ∧ sub = 1 ∧ len = 48 then attestationNonceWrite sess v s
  else if idx = 0x2301 ∧ sub = 3 then
    imageData sess len (leField len v) { digestOk := s.digestHolds len (leField len v) } s
  else s.writePlain sess idx sub (.oct len v)

/-! ### Row windows -/

/-- A commit that no rule of a chapter meets. -/
def State.commitPlain (s : State) (sess win v : Nat) : State := s.commitAs sess win v (fun _ _ _ => 0) fun _ _ u => u

/-- Writing 1 to FEh of a row window: the commit of its chapter. -/
def State.commitRow (s : State) (sess win : Nat) : State :=
  match win with
  | 0x1130 => s.commitAs sess 0x1130 1 accountCode accountApply
  | 0x2110 => flowMirrorRuleCommit sess s
  | 0x2210 => slotPowerOff sess s
  | 0x2410 => arrayHomeCommit sess s
  | 0x2412 => interfaceHomeCommit sess s
  | 0x2450 => tenantTwinCommit sess s
  | 0x3001 => portSettingsCommit sess s
  | 0x3040 => interfaceCommit sess s
  | 0x3101 => s.commitQp sess
  | 0x3210 => subsystemCommit sess s
  | 0x3220 => hostNqnCommit sess s
  | 0x3224 => grantCommit sess s
  | 0x3230 => namespaceCommit sess s
  | 0x3240 => listenerCommit sess s
  | 0x3250 => tenantKeyDestroy sess s
  | 0x4010 => tenantSchedulingCommit sess s
  | 0x4020 => gateSettingsCommit sess s
  | 0x4021 => gateListEntryCommit sess s
  | 0x5000 => arrayCreate sess s
  | 0x5100 => memberEject sess s
  | 0x5111 => replacementAccept sess s
  | 0x5130 => acknowledgeLoss sess s
  | 0x5201 => slotAdminStateWrite sess s
  | 0x5301 => vfBindingCommit sess s
  | 0x5306 => inboundEntryCommit sess s
  | 0x5307 => s.commitAs sess 0x5307 1 outboundCode fun _ _ u => u
  | 0x5340 => copyJobCommit sess s
  | _ => s.commitPlain sess win 1

/-- A write of FEh. -/
def State.writeCommit (s : State) (sess win : Nat) (v : Val) : State :=
  match v with
  | .nat n => if n = 1 then s.commitRow sess win else s.commitPlain sess win n
  | _ => s.withSession sess fun x => s.refuse sess (firstCode [writeAccess x win 0xFE, abLength])

/-- A write of sub-index 01h. -/
def State.writeSelect (s : State) (sess win : Nat) (v : Val) : State :=
  match v with
  | .nat row => s.selectRow sess win row
  | _ => s.withSession sess fun _ => s.refuse sess abLength

/-- Write an object or a field as a session. -/
def State.writeObject (s : State) (sess idx sub : Nat) (v : Val) : State :=
  if Dict.rows idx ≠ 0 then
    if sub = 1 then s.writeSelect sess idx v
    else if sub = 0xFE then s.writeCommit sess idx v
    else s.stageField sess idx sub v
  else
    match v with
    | .nat n => s.writeNat sess idx sub n
    | .oct len b => s.writeOct sess idx sub len b
    | v => s.writePlain sess idx sub v

/-! ### The commands -/

/-- OBJECT_WRITE (R560). -/
def objectWrite (sess idx sub : Nat) (v : Val) (s : State) : State := (s.writeObject sess idx sub v).tidySessions

def execObjectWrite (t sess idx sub : Nat) (v : Val) (s : State) : Res := actVolt t true s (objectWrite sess idx sub v)

/-- ROW_SELECT (R557). -/
def rowSelect (sess window row : Nat) (s : State) : State := s.selectRow sess window row

def execRowSelect (t sess window row : Nat) (s : State) : Res := act t true s (rowSelect sess window row)

/-- ROW_COMMIT (R559). -/
def rowCommit (sess window v : Nat) (s : State) : State := (s.writeCommit sess window (.nat v)).tidySessions

def execRowCommit (t sess window v : Nat) (s : State) : Res := act t true s (rowCommit sess window v)

/-- RESTORE_DEFAULTS (R563). -/
def restoreDefaults (sess v : Nat) (s : State) : State := s.writeRestore sess v

def execRestoreDefaults (t sess v : Nat) (s : State) : Res := act t true s (restoreDefaults sess v)

/-- ALONARD_ENABLE_WRITE: at 0 every session over UDP ends once the write is answered (R644). -/
def alonardEnableWrite (sess v : Nat) (s : State) : State := (s.writePlain sess 0x1120 1 (.nat v)).tidySessions

def execAlonardEnableWrite (t sess v : Nat) (s : State) : Res := act t true s (alonardEnableWrite sess v)

/-- ACCOUNT_COMMIT (R576, R577): sessions of an account that it disables end at once. -/
def accountCommit (sess : Nat) (s : State) : State := (s.commitRow sess 0x1130).tidySessions

def execAccountCommit (t sess : Nat) (s : State) : Res := act t true s (accountCommit sess)

/-- ACKNOWLEDGE_ERRORS (R582). -/
def acknowledgeErrors (sess v : Nat) (s : State) : State := s.writeAcknowledge sess v

def execAcknowledgeErrors (t sess v : Nat) (s : State) : Res := act t true s (acknowledgeErrors sess v)

/-- CAN_NODE_ID_WRITE (R575). -/
def canNodeIdWrite (sess v : Nat) (s : State) : State := s.writeNodeId sess v

def execCanNodeIdWrite (t sess v : Nat) (s : State) : Res := act t true s (canNodeIdWrite sess v)

end Sys2Proof.Machine
end

