-- ==== Sys2Proof/Machine/Sessions.lean ====
section
/-! DEFINITION. The Alonard Dictionary Protocol (16 R564 to R572, R579, R584, R644): opening and authenticating sessions,
the checks of a protected message, reads and writes of items, subscriptions, keepalive, close, timeouts and lockouts. -/

namespace Sys2Proof.Machine

/-! ### Reaching the dictionary -/

/-- The management address is in use (R565). -/
def State.addressInUse (s : State) : Bool :=
  decide (s.ob 0x1110 1 ≠ 0 ∧ 1 ≤ s.ob 0x1110 2 ∧ s.ob 0x1110 2 ≤ 128)

/-- Alonard over UDP is reachable (R565, R644). -/
def State.udpOn (s : State) : Bool := s.addressInUse && decide (s.ob 0x1120 1 = 1)

/-- The management address is IPv6: not an IPv4-mapped address. -/
def State.overV6 (s : State) : Bool := decide (s.ob 0x1110 1 / 2 ^ 32 ≠ 0xFFFF)

/-- The largest message of a transport (R566). -/
def State.maxMessage (s : State) (tr : Transport) : Nat :=
  match tr with
  | .udp => s.ob 0x1110 5 - 46 - (if s.ob 0x1110 4 = 0 then 0 else 4) - (if s.overV6 then 20 else 0)
  | _ => 4096

/-- Send the messages `o` in a session. -/
def State.send (s : State) (sess : Nat) (o : Out) : State := (s.sent sess 1).emit o

/-- Count row `sub` of Table 8, and write its violation where the table says so: a management address, or the near port of a
window. -/
def State.mgmtFault (s : State) (x : Session) (sub : Nat) (log : Bool) : State :=
  let s := s.bump 0x6021 0 sub
  if log = false then s else
  match x.transport with
  | .pf0 p => s.violation false 4 (p * 256) (0x6021 * 256 + sub) 0
  | _ => s.violation false 7 x.address (0x6021 * 256 + sub) x.address

/-- A failure that counts toward the lockout of its source IP address (R584). A window has none. -/
def State.countFailure (s : State) (x : Session) : State :=
  if x.transport ≠ .udp then s else
  let l : Lockout := Tbl.get {} s.sess.lockouts x.address
  let recent : List Nat := s.now :: within s.now (s.ob 0x1140 1 * sNs) l.failures
  let full : Bool := decide (s.ob 0x1140 2 ≠ 0 ∧ s.ob 0x1140 2 ≤ recent.length)
  let l : Lockout := if full then { failures := [], lockedUntil := some (s.now + s.ob 0x1140 3 * sNs) } else { l with failures := recent }
  let s := { s with sess := { s.sess with lockouts := Tbl.set s.sess.lockouts x.address l } }
  if full then s.raise .addressLockedOut [x.address] else s

/-- An address is locked out. -/
def State.lockedOut (s : State) (address : Nat) : Bool :=
  decide (s.now < (Tbl.get ({} : Lockout) s.sess.lockouts address).lockedUntil.getD 0)

/-- Remove a session, with its stages. -/
def State.dropSession (s : State) (id : Nat) : State := { s with sess := { s.sess with tbl := Tbl.erase s.sess.tbl id } }

/-! ### Open (R567, R570, R584, R644) -/

/-- A session of a transport begins: no level until Authenticate, but Operator in a window in the factory state (R577). The
module's nonce and the session material are free values. -/
def State.newSession (s : State) (id address : Nat) (tr : Transport) : State :=
  let factory := decide (tr ≠ .udp) && s.inFactory
  let level := if factory then 1 else 0
  let x : Session := { transport := tr, address, level, factory, lastAt := s.now, material := s.draw }
  let s := (s.drawn).setSession id x
  (s.drawn).emit (.opened id address s.draw)

/-- Sessions of Alonard over UDP. -/
def State.udpSessions (s : State) : Nat := (s.sess.tbl.filter fun e => decide (e.2.transport = .udp)).length

/-- An Open request over UDP. -/
def State.openUdp (s : State) (address : Nat) : State :=
  if s.udpOn = false then s
  else if s.lockedOut address then s.emit (.alonardError address 3)
  else if 16 ≤ s.udpSessions then s.emit (.alonardError address 1)
  else
    let id := s.sess.nextId
    { s with sess := { s.sess with nextId := id + 1 } }.newSession id address .udp

/-- An Open request in the window of a near port, which serves one session (log entry 96). -/
def State.openWindow (s : State) (p : Nat) : State :=
  if Tbl.has s.sess.tbl (2 + p) then s.emit (.alonardError p 1) else s.newSession (2 + p) p (.pf0 p)

/-- OPEN_REQUEST: transport 0 is UDP, 1 and 2 are the windows of NP0 and NP1. -/
def openRequest (address transport : Nat) (s : State) : State :=
  if transport = 0 then s.openUdp address else s.openWindow (transport - 1)

def execOpenRequest (t address transport : Nat) (s : State) : Res :=
  act t (decide (transport ≤ 2)) s (openRequest address transport)

/-! ### A protected message (R568, R569) -/

/-- Checks of R569 in Table 8's order: a session of Alonard, a counter above the last, a tag that holds. An accepted message
restarts the idle timeout. -/
def State.guarded (s : State) (sess : Nat) (g : Guard) (f : Session → State → State) : State :=
  match s.session? sess with
  | none => s.bump 0x6021 0 3
  | some x =>
    if x.transport = .udp ∧ s.udpOn = false then s
    else if x.transport = .can ∨ g.counter ≤ x.rx then s.bump 0x6021 0 3
    else if g.tagOk = false then (s.mgmtFault x 4 true).countFailure x
    else
      let x : Session := { x with rx := g.counter, lastAt := s.now }
      f x (s.setSession sess x)

/-- Messages other than Authenticate and Close need an authenticated session, or one opened in a window in the factory state
(R568, R577). -/
def State.admitted (s : State) (sess : Nat) (g : Guard) (f : Session → State → State) : State :=
  s.guarded sess g fun x s => if x.authed || x.factory then f x s else s.mgmtFault x 7 true

/-- A service authorisation that reaches Vendor level (R579, R612). -/
def State.serviceOk (s : State) (account : Nat) (a : ServiceAuth) : Bool :=
  a.signaturesOk && decide (a.keySet ≤ 3) && !bit (s.ob 0x2300 0xB) a.keySet && decide (a.account = account) &&
    decide (a.serial = s.ownSerial) && decide (s.ptpNow < a.expiry ∧ (a.expiry : Int) ≤ s.ptpNow + 86400 * sNs) &&
    decide (s.o 0x1130 account 3 = 2)

/-- The level that an Authenticate reaches, if any: the signature verifies under the key of an enabled account. -/
def State.grantedLevel (s : State) (account : Nat) (signatureOk : Bool) (auth : Option ServiceAuth) : Option Nat :=
  if signatureOk && decide (account < 32 ∧ s.o 0x1130 account 2 = 1) then
    match auth with
    | none => some (s.o 0x1130 account 3)
    | some a => if s.serviceOk account a then some 3 else none
  else none

/-- A message with a service authorisation fits its transport (R566, R612). -/
def State.authFits (s : State) (sess : Nat) (auth : Option ServiceAuth) : Bool :=
  match s.session? sess, auth with
  | some x, some _ => decide (32 + 66 + 3501 + 16 ≤ s.maxMessage x.transport)
  | _, _ => true

/-- AUTHENTICATE. -/
def authenticate (sess : Nat) (g : Guard) (account : Nat) (signatureOk : Bool) (auth : Option ServiceAuth) (s : State) : State :=
  if s.authFits sess auth = false then s.bump 0x6021 0 6
  else
    s.guarded sess g fun x s =>
      if x.authed then s else
      match s.grantedLevel account signatureOk auth with
      | some l => (s.setSession sess { x with level := l, account := some account, authed := true }).send sess (.authReply sess l)
      | none =>
        let s := (s.send sess (.alonardError x.address 2)).dropSession sess
        ((s.mgmtFault x 5 true).raise .authFailed [x.address, account]).countFailure x

def execAuthenticate (t sess : Nat) (g : Guard) (account : Nat) (signatureOk : Bool) (auth : Option ServiceAuth) (s : State) : Res :=
  act t true s (authenticate sess g account signatureOk auth)

/-! ### Reads and writes (R571, R572) -/

/-- Bytes of a value. -/
def valBytes (d : Option Desc) : Val → Nat
  | .nat _ => match d with | some ⟨.u w, _, _, _, _, _⟩ => w / 8 | _ => 4
  | .int _ => 4
  | .real _ => 4
  | .oct l _ => l
  | .str t => t.length

/-- The part of a DOMAIN or VISIBLE_STRING that an item asks for. A record ring ignores the offset (R572). -/
def itemPart (d : Option Desc) (ring : Bool) (offset len : Nat) (v : Val) : Val :=
  match v with
  | .str t => .str (String.ofList ((t.toList.drop offset).take len))
  | .oct l b =>
    match d with
    | some ⟨.domain, _, _, _, _, _⟩ =>
      if ring then v
      else
        let n := min len (l - offset)
        .oct n (b / 256 ^ (l - offset - n) % 256 ^ n)
    | _ => v
  | v => v

/-- Read items in order into a reply that has `room` bytes left; an item that does not fit, and every later one, answers
0800_0022h unread. Each later item keeps 4 bytes for its code. -/
def State.readItems (s : State) (sess room : Nat) : List ReadItem → List (Option (Nat × Option Val)) × Nat × State
  | [] => ([], room, s)
  | i :: rest =>
    let room := room - 4
    let cap := room - 4 * rest.length - 2
    match s.session? sess with
    | none => ((i :: rest).map fun _ => some (abState, none), room - 4 * rest.length, s)
    | some x =>
      let ring := decide (i.idx = 0x2122 ∧ i.sub = 3)
      let r := s.readObj x i.idx i.sub (min i.maxLen cap)
      if r.1 ≠ 0 then
        let u := s.readItems sess room rest
        (some (r.1, none) :: u.1, u.2)
      else
        let d := Dict.desc? i.idx i.sub
        let v := itemPart d ring i.offset i.maxLen r.2.1
        let n := valBytes d v
        if room < 4 * rest.length + 2 + n then
          ((i :: rest).map fun _ => some (abState, none), room - 4 * rest.length, s)
        else
          let u := r.2.2.readItems sess (room - 2 - n) rest
          (some (0, some v) :: u.1, u.2)

/-- Payload bytes that a reply may carry. -/
def State.replyRoom (s : State) (sess : Nat) : Nat :=
  match s.session? sess with
  | some x => s.maxMessage x.transport - 48
  | none => 0

/-- A message with no items or more than 64 is malformed (R571, Table 8). -/
def State.itemsOk (n : Nat) : Bool := decide (1 ≤ n ∧ n ≤ 64)

def State.malformed (s : State) (sess : Nat) (x : Session) : State :=
  (s.send sess (.alonardError x.address 4)).mgmtFault x 6 true

/-- ALONARD_READ. -/
def alonardRead (sess : Nat) (g : Guard) (request : Nat) (items : List ReadItem) (s : State) : State :=
  s.admitted sess g fun x s =>
    if State.itemsOk items.length then
      let r := s.readItems sess (s.replyRoom sess) items
      r.2.2.send sess (.replyItems sess request r.1)
    else s.malformed sess x

def execAlonardRead (t sess : Nat) (g : Guard) (request : Nat) (items : List ReadItem) (s : State) : Res :=
  act t true s (alonardRead sess g request items)

/-- The newest answer to session `sess` in a list of outputs, and the list without it. -/
def takeAnswer (sess : Nat) : List Out → Option (Nat × Option Val) × List Out
  | [] => (none, [])
  | .reply i c v :: r =>
    if i = sess then (some (c, v), r) else let u := takeAnswer sess r; (u.1, .reply i c v :: u.2)
  | o :: r => let u := takeAnswer sess r; (u.1, o :: u.2)

/-- Write one item: its answer goes into the reply of the message; none where it waits for the peer (14 R466). -/
def State.writeItem (s : State) (sess : Nat) (i : WriteItem) : Option (Nat × Option Val) × State :=
  let u : State := { s with out := [] }.writeObject sess i.idx i.sub i.value
  let r := takeAnswer sess u.out
  let u : State := { u with out := r.2 ++ s.out }
  if r.1.isSome then
    match u.session? sess with
    | some x => (r.1, u.setSession sess { x with tx := x.tx - 1 })
    | none => (r.1, u)
  else (none, u)

/-- Write items in order. -/
def State.writeItems (s : State) (sess : Nat) : List WriteItem → List (Option (Nat × Option Val)) × State
  | [] => ([], s)
  | i :: rest =>
    let r := s.writeItem sess i
    let u := r.2.writeItems sess rest
    (r.1 :: u.1, u.2)

/-- Bytes of a write message: header, items with their 6-byte heads, tag (16 Table 4, R571). -/
def writeBytes (items : List WriteItem) : Nat := 48 + sumNat (items.map fun i => 6 + valBytes (Dict.desc? i.idx i.sub) i.value)

/-- The message fits the transport of its session (R566); a larger one is discarded and counted. -/
def State.messageFits (s : State) (sess : Nat) (items : List WriteItem) : Bool :=
  match s.session? sess with
  | some x => decide (writeBytes items ≤ s.maxMessage x.transport)
  | none => true

/-- ALONARD_WRITE. -/
def alonardWrite (sess : Nat) (g : Guard) (request : Nat) (items : List WriteItem) (s : State) : State :=
  if s.messageFits sess items = false then s.bump 0x6021 0 6
  else (s.admitted sess g fun x s =>
    if State.itemsOk items.length then
      let r := s.writeItems sess items
      r.2.send sess (.replyItems sess request r.1)
    else s.malformed sess x).tidySessions

def execAlonardWrite (t sess : Nat) (g : Guard) (request : Nat) (items : List WriteItem) (s : State) : Res :=
  actVolt t true s (alonardWrite sess g request items)

/-! ### Subscriptions, keepalive, close -/

/-- SUBSCRIBE (R581). -/
def subscribe (sess : Nat) (g : Guard) (minSeverity areaMask : Nat) (s : State) : State :=
  s.admitted sess g fun x s => s.setSession sess { x with sub := some (minSeverity, areaMask % 2 ^ 32) }

def execSubscribe (t sess : Nat) (g : Guard) (minSeverity areaMask : Nat) (s : State) : Res :=
  act t true s (subscribe sess g minSeverity areaMask)

/-- KEEPALIVE. -/
def keepalive (sess : Nat) (g : Guard) (s : State) : State :=
  s.admitted sess g fun _ s => s.send sess (.keepaliveReply sess)

def execKeepalive (t sess : Nat) (g : Guard) (s : State) : Res := act t true s (keepalive sess g)

/-- CLOSE. -/
def close (sess : Nat) (g : Guard) (s : State) : State := s.guarded sess g fun _ s => s.dropSession sess

def execClose (t sess : Nat) (g : Guard) (s : State) : Res := act t true s (Machine.close sess g)

/-- SESSION_IDLE_TIMEOUT: no accepted message for 1120h:03 (R569). The CAN session has no messages of this kind. -/
def sessionIdleTimeout (sess : Nat) (s : State) : State :=
  match s.session? sess with
  | none => s
  | some x =>
    if x.transport ≠ .can ∧ dueAt s.now x.lastAt (s.ob 0x1120 3 * sNs) = true then
      (s.send sess (.alonardError x.address 5)).dropSession sess
    else s

def execSessionIdleTimeout (t sess : Nat) (s : State) : Res := act t true s (sessionIdleTimeout sess)

/-- LOCKOUT_EXPIRY (R584). -/
def lockoutExpiry (address : Nat) (s : State) : State :=
  match (Tbl.get ({} : Lockout) s.sess.lockouts address).lockedUntil with
  | none => s
  | some u =>
    if u ≤ s.now then { s with sess := { s.sess with lockouts := Tbl.set s.sess.lockouts address {} } } else s

def execLockoutExpiry (t address : Nat) (s : State) : Res := act t true s (lockoutExpiry address)

end Sys2Proof.Machine
end

