-- ==== Sys2Proof/Machine/CanMgmt.lean ====
section
/-! DEFINITION. The CAN port (16 R573 to R575) and the management ports M0 and M1 (16 R565). -/

namespace Sys2Proof.Machine

/-! ### CANopen FD -/

/-- The CAN session, 1; it opens with the first request: Operator in the factory state, else 1100h:05 (R564, R577). -/
def State.canSession (s : State) : State :=
  if Tbl.has s.sess.tbl 1 then s
  else
    let level := if s.inFactory then 1 else min 1 (s.ob 0x1100 5)
    s.setSession 1 { transport := .can, level, factory := s.inFactory, lastAt := s.now }

def State.setCan (s : State) (c : CanState) : State := { s with sess := { s.sess with can := c } }

/-- The port serves requests: not stopped (R574), no node-ID conflict (R575), and not in loader-only mode, in which Alonard and the PF0
windows alone answer (17 R599). -/
def State.canServes (s : State) : Bool :=
  decide (s.sess.can.nmt = .operational) && !s.sess.can.conflict && !decide (s.ob 0x2300 4 = 3)

/-- A write by CAN. -/
def State.canWrite (s : State) (idx sub : Nat) (v : Val) : State := (s.writeObject 1 idx sub v).tidySessions

/-- An SDO or USDO request. Segments come with the object they belong to; the last one carries the whole value. -/
def State.canRequest (s : State) (req : CanReq) : State :=
  if s.canServes = false then s
  else
    let s := s.canSession
    let c := s.sess.can
    match req with
    | .read idx sub =>
      (match s.session? 1 with
      | none => s
      | some x =>
        let r := s.readObj x idx sub 65535
        r.2.2.reply 1 r.1 (if r.1 = 0 then some r.2.1 else none))
    | .write idx sub v => s.canWrite idx sub v
    | .segment toggleOk last idx sub v =>
      if toggleOk = false then (s.setCan { c with transfer := none }).emit (.canAbort 0x05030000)
      else if last then (s.setCan { c with transfer := none }).canWrite idx sub v
      else s.setCan { c with transfer := some (s.now, idx, sub) }
    | .invalid =>
      ((s.bump 0x6021 0 8).violation false 6 (s.ob 0x1100 1) (0x6021 * 256 + 8) 0).emit (.canAbort 0x05040001)

/-- SDO_REQUEST. -/
def sdoRequest (req : CanReq) (s : State) : State := s.canRequest req

def execSdoRequest (t : Nat) (req : CanReq) (s : State) : Res := actVolt t true s (sdoRequest req)

/-- USDO_REQUEST. -/
def usdoRequest (req : CanReq) (s : State) : State := s.canRequest req

def execUsdoRequest (t : Nat) (req : CanReq) (s : State) : Res := actVolt t true s (usdoRequest req)

/-- SDO_TRANSFER_TIMEOUT: a segmented transfer idle for 1 s is aborted; nothing is applied (Table 8). -/
def sdoTransferTimeout (s : State) : State :=
  match s.sess.can.transfer with
  | none => s
  | some (u, _, _) =>
    if dueAt s.now u sNs then
      let on := s.canServes
      let s := (s.setCan { s.sess.can with transfer := none }).bump 0x6021 0 9
      if on then s.emit (.canAbort 0x05040000) else s
    else s

def execSdoTransferTimeout (t : Nat) (s : State) : Res := act t true s sdoTransferTimeout

/-- NMT_STOP: SDO, USDO and EMCY halt (R574). -/
def nmtStop (s : State) : State := s.setCan { s.sess.can with nmt := .stopped }

def execNmtStop (t : Nat) (s : State) : Res := act t true s nmtStop

/-- Restart the CAN communication state: the session and its stages end, the boot-up message goes out, Operational follows
(R574, R585). A node-ID conflict stands until the node-ID is written. -/
def State.restartCan (s : State) : State :=
  let c : CanState := { conflict := s.sess.can.conflict }
  let s := (s.dropSession 1).setCan c
  if c.conflict then s else s.emit (.canHeartbeat (s.ob 0x1100 1) 0)

/-- NMT_RESET_NODE. -/
def nmtResetNode (s : State) : State := s.restartCan

def execNmtResetNode (t : Nat) (s : State) : Res := act t true s nmtResetNode

/-- NMT_RESET_COMMUNICATION. -/
def nmtResetCommunication (s : State) : State := s.restartCan

def execNmtResetCommunication (t : Nat) (s : State) : Res := act t true s nmtResetCommunication

/-- CAN_HEARTBEAT_SEND: at the heartbeat time of 1017h, with the NMT state 4 or 5; 0 is off (R573). -/
def canHeartbeatSend (s : State) : State :=
  let due := match s.sess.can.lastHeartbeat with
    | none => true
    | some u => dueAt s.now u (s.ob 0x1017 0 * msNs)
  if s.ob 0x1017 0 ≠ 0 ∧ due = true then
    (s.setCan { s.sess.can with lastHeartbeat := some s.now }).emit
      (.canHeartbeat (s.ob 0x1100 1) (if s.sess.can.nmt = .stopped then 4 else 5))
  else s

def execCanHeartbeatSend (t : Nat) (s : State) : Res := act t true s canHeartbeatSend

/-- CAN_NODE_ID_CONFLICT: counted and logged; the port sends heartbeats alone until 1100h:01 is written (R575). -/
def canNodeIdConflict (s : State) : State :=
  let s := (s.bump 0x6021 0 0xA).violation false 6 (s.ob 0x1100 1) (0x6021 * 256 + 0xA) 0
  if s.sess.can.conflict then s
  else (s.setCan { s.sess.can with conflict := true }).raise .canNodeIdConflict [s.ob 0x1100 1]

def execCanNodeIdConflict (t : Nat) (s : State) : Res := act t true s canNodeIdConflict

/-- CAN_BUS_OFF (R575). -/
def canBusOff (s : State) : State := s.raise .canBusOff

def execCanBusOff (t : Nat) (s : State) : Res := act t true s canBusOff

/-! ### M0 and M1 -/

def State.setMgmt (s : State) (m : MgmtState) : State := { s with sess := { s.sess with mgmt := m } }

/-- A frame of the node's own, once: the copies that the other port brings within 400 ms are discarded. -/
def State.mgmtDuplicate (s : State) (f : MgmtFrame) : Bool :=
  match f.trailer with
  | none => false
  | some q => s.sess.mgmt.seen.any fun e => decide (e.1 = f.src ∧ e.2.1 = q ∧ s.now < e.2.2 + 400 * msNs)

/-- MANAGEMENT_FRAME_RECEIVED (R565): the frame counts, the first copy is kept; ARP and neighbour discovery are answered on both
ports, with the next sequence of the redundancy control trailer (log entry 176). -/
def managementFrameReceived (p : Nat) (f : MgmtFrame) (s : State) : State :=
  if s.ob 0x1111 (p + 1) = 0 then s
  else
    let m := s.sess.mgmt
    let dup := s.mgmtDuplicate f
    let seen := m.seen.filter fun e => decide (s.now < e.2.2 + 400 * msNs)
    let m : MgmtState := { m with
      lastRx := Tbl.set m.lastRx p s.now
      lanLost := Tbl.set m.lanLost p false
      seen := match f.trailer with
        | some q => if dup then seen else (f.src, q, s.now) :: seen
        | none => seen }
    let s := (s.bump 0x1111 0 (p + 3)).setMgmt m
    let s := if f.trailer.isNone then s.bump 0x1111 0 6 else s
    if dup then s.bump 0x1111 0 5
    else if f.isReachability then
      let q := s.sess.mgmt.txSeq
      let s := s.setMgmt { s.sess.mgmt with txSeq := (q + 1) % 65536 }
      (s.emit (.mgmtReply 0 q)).emit (.mgmtReply 1 q)
    else s

def execManagementFrameReceived (t port : Nat) (frame : MgmtFrame) (s : State) : Res :=
  act t (decide (port < 2)) s (managementFrameReceived port frame)

/-- SUPERVISION_FRAME_SEND: every 2 s, on both ports (R565). -/
def supervisionFrameSend (s : State) : State :=
  let m := s.sess.mgmt
  let due := match m.lastSupervision with
    | none => true
    | some u => dueAt s.now u (2 * sNs)
  if due then
    let s := s.setMgmt { m with lastSupervision := some s.now, txSeq := (m.txSeq + 1) % 65536 }
    (s.emit (.supervision 0 m.txSeq)).emit (.supervision 1 m.txSeq)
  else s

def execSupervisionFrameSend (t : Nat) (s : State) : Res := act t true s supervisionFrameSend

/-- MANAGEMENT_LAN_LOST: a port has received nothing for 10 s while the other has (R565); once until it receives again. -/
def managementLanLost (p : Nat) (s : State) : State :=
  let m := s.sess.mgmt
  let silent := dueAt s.now ((Tbl.find? m.lastRx p).getD s.fw.bootAt) (10 * sNs)
  let other := match Tbl.find? m.lastRx (1 - p) with
    | some u => decide (s.now < u + 10 * sNs)
    | none => false
  if silent && other && !Tbl.get false m.lanLost p then
    (s.setMgmt { m with lanLost := Tbl.set m.lanLost p true }).raise .managementLanLost [p]
  else s

def execManagementLanLost (t port : Nat) (s : State) : Res := act t (decide (port < 2)) s (managementLanLost port)

end Sys2Proof.Machine
end

