-- ==== Sys2Proof/Machine/Mailbox.lean ====
section
/-! DEFINITION. The mailbox of a control window (12 R425) and the DOE and SPDM responder of PF0 (12 R435, 17 R611). -/

namespace Sys2Proof.Machine

/-! ### The mailbox -/

/-- Bytes of the answer that an output is: header, payload and tag (16 R566). -/
def answerBytes : Out → Nat
  | .opened _ _ _ => 80
  | .authReply _ _ => 49
  | .keepaliveReply _ => 48
  | .alonardError _ _ => 49
  | .replyItems _ _ is => 48 + sumNat (is.map fun i =>
      match i with
      | some (_, some v) => 6 + valBytes none v
      | _ => 4)
  | _ => 0

/-- Run the message of a window's session. -/
def State.runMessage (s : State) (p : Nat) (msg : AlonMsg) : State :=
  let k := 2 + p
  match msg with
  | .openRequest _ => s.openWindow p
  | .authenticate g account ok auth => Machine.authenticate k g account ok auth s
  | .read g request items => Machine.alonardRead k g request items s
  | .write g request items => Machine.alonardWrite k g request items s
  | .subscribe g minSeverity areaMask => Machine.subscribe k g minSeverity areaMask s
  | .keepalive g => Machine.keepalive k g s
  | .close g => Machine.close k g s
  | .malformed => s.bump 0x6021 0 2

/-- Items of a window's session that wait for the peer. -/
def State.heldFor (s : State) (sess : Nat) : Nat := (s.twin.held.filter fun h => decide (h.sess = sess)).length

/-- MAILBOX_DOORBELL: a doorbell while busy is ignored and a length of 0 or above 4,096 refused, both counted; otherwise the
message runs, and the response is complete at once or once the peer has answered (R425, 12 Table 10). A message that disables the port
is answered, and the link then goes to Detect (12 Table 11). -/
def mailboxDoorbell (p len : Nat) (msg : AlonMsg) (s : State) : State :=
  let m := (s.nport p).mailbox
  if (s.nport p).linkUp = false then s
  else if m.status = 1 then s.bump 0x5303 p 0x13
  else if len = 0 ∨ 4096 < len then
    let s := s.setNport p { s.nport p with mailbox := { m with status := 3, reqLen := len } }
    s.bump 0x5303 p 0x13
  else
    let old := s.out
    let u : State := { s with out := [] }.runMessage p msg
    let n := maxNat (u.out.map answerBytes)
    let w := u.heldFor (2 + p)
    let u : State := { u with out := u.out ++ old }
    let m : Mailbox := { status := if w = 0 then 2 else 1, reqLen := len, respLen := n, waits := w }
    let u := u.setNport p { u.nport p with mailbox := m }
    let u := if w = 0 then u.pfInterrupt p 0 else u
    if (s.nport p).cfg.enable && decide (s.o 0x5300 p 2 ≠ 0 ∧ u.o 0x5300 p 2 = 0) then (u.resetPort p).npLinkGone p else u

def execMailboxDoorbell (t port len : Nat) (msg : AlonMsg) (s : State) : Res :=
  actVolt t (isNp port && decide (len < 8192)) s (mailboxDoorbell port len msg)

/-- MAILBOX_ABORT: the request in progress is abandoned (12 Table 8). -/
def mailboxAbort (p : Nat) (s : State) : State :=
  let n := s.nport p
  if n.linkUp && decide (n.mailbox.status = 1) then
    s.setNport p { n with mailbox := { n.mailbox with status := 4, respLen := 0, waits := 0 } }
  else s

def execMailboxAbort (t port : Nat) (s : State) : Res := act t (isNp port) s (mailboxAbort port)

/-! ### DOE and SPDM -/

/-- Answer over DOE, while the link is up. -/
def State.doe (s : State) (p : Nat) (f : NearPort → SpdmReply × SpdmState) : State :=
  let n := s.nport p
  if n.linkUp then
    let r := f n
    (s.setNport p { n with spdm := r.2 }).emit (.spdm p r.1)
  else s

/-- DOE_DISCOVERY: DOE Discovery and CMA/SPDM, vendor 0001h (log entry 105). -/
def doeDiscovery (p index : Nat) (s : State) : State :=
  s.doe p fun n => (match index with
    | 0 => .discovery 0 1 0 1
    | 1 => .discovery 1 1 1 0
    | i => .discovery i 0xFFFF 0 0, n.spdm)

def execDoeDiscovery (t port index : Nat) (s : State) : Res := act t (isNp port) s (doeDiscovery port index)

/-- GET_VERSION begins a negotiation anew. -/
def getVersion (p : Nat) (s : State) : State := s.doe p fun _ => (.version [0x12, 0x13], { version := 1 })

def execGetVersion (t port : Nat) (s : State) : Res := act t (isNp port) s (getVersion port)

/-- GET_CAPABILITIES: CERT_CAP, CHAL_CAP, MEAS_CAP with signature, CHUNK_CAP. -/
def getCapabilities (p : Nat) (s : State) : State :=
  s.doe p fun n => if n.spdm.version = 0 then (.error, n.spdm)
    else (.capabilities Config.spdmFlags, { n.spdm with caps := true })

def execGetCapabilities (t port : Nat) (s : State) : Res := act t (isNp port) s (getCapabilities port)

/-- NEGOTIATE_ALGORITHMS: EdDSA Ed25519 and SHA-384 only. In the answer 1 stands for Ed25519, 384 for SHA-384. -/
def negotiateAlgorithms (p : Nat) (common : Bool) (s : State) : State :=
  s.doe p fun n => if n.spdm.caps && common then (.algorithms 1 384, { n.spdm with algorithms := true }) else (.error, n.spdm)

def execNegotiateAlgorithms (t port : Nat) (common : Bool) (s : State) : Res :=
  act t (isNp port) s (negotiateAlgorithms port common)

/-- SHA-384 of the Ed25519 identity chain. -/
def chainDigest : Nat := Config.sha384 (Config.chain 1).1 ((Config.chain 1).2 % 256 ^ (Config.chain 1).1) % 2 ^ 384

/-- GET_DIGESTS: slot 0. -/
def getDigests (p : Nat) (s : State) : State :=
  s.doe p fun n => (if n.spdm.algorithms then .digests [(0, chainDigest)] else .error, n.spdm)

def execGetDigests (t port : Nat) (s : State) : Res := act t (isNp port) s (getDigests port)

/-- GET_CERTIFICATE: slot 0 holds the Ed25519 identity chain. -/
def getCertificate (p slot offset len : Nat) (s : State) : State :=
  s.doe p fun n =>
    let total := (Config.chain 1).1
    let k := min len (total - offset)
    (if n.spdm.algorithms && decide (slot = 0 ∧ offset < total) then
      .certificate 0 offset k ((Config.chain 1).2 / 256 ^ (total - offset - k) % 256 ^ k) (total - offset - k)
    else .error, n.spdm)

def execGetCertificate (t port slot offset len : Nat) (s : State) : Res :=
  act t (isNp port) s (getCertificate port slot offset len)

/-- CHALLENGE: the responder's nonce and the signature over the transcript are free values. -/
def challenge (p slot _nonce : Nat) (s : State) : State :=
  let a := s.draw
  let b := s.drawn.draw
  (s.doe p fun n => (if n.spdm.algorithms && decide (slot = 0) then .challengeAuth 0 chainDigest a b else .error, n.spdm)).drawn.drawn

def execChallenge (t port slot nonce : Nat) (s : State) : Res := act t (isNp port) s (challenge port slot nonce)

/-- The measurement blocks of 17 Table 8: index, length, value. -/
def State.spdmBlocks (s : State) : List (Nat × Nat × Nat) :=
  [(1, 48, Config.bootRomDigest), (2, 48, Config.loaderDigest), (3, 48, s.fw.running.digest),
   (4, 48, Config.settingsDigest s.dict.store),
   (5, 6, (leFields [(4, s.runningVersion), (1, s.fw.running.svn), (1, s.ob 0x2300 3)]).2)]

/-- GET_MEASUREMENTS: block 0 asks for the number of blocks alone, FFh for all. -/
def getMeasurements (p block : Nat) (sign : Bool) (_nonce : Nat) (s : State) : State :=
  let a := s.draw
  let b := s.drawn.draw
  let bs := if block = 0xFF then s.spdmBlocks else s.spdmBlocks.filter fun x => decide (x.1 = block)
  (s.doe p fun n =>
    (if n.spdm.algorithms && (decide (block = 0) || !bs.isEmpty) then .measurements bs (if sign then some (a, b) else none)
     else .error, n.spdm)).drawn.drawn

def execGetMeasurements (t port block : Nat) (sign : Bool) (nonce : Nat) (s : State) : Res :=
  act t (isNp port) s (getMeasurements port block sign nonce)

end Sys2Proof.Machine
end

