-- ==== Sys2Proof/Machine/Dispatch.lean ====
section
/-! DEFINITION. The dispatch of every command to its meaning: one arm for each constructor of `Instr`. -/

namespace Sys2Proof.Machine

/-- The effect of a command on everything but the queue. -/
def exec (i : Instr) (s : State) : Host.Outcome State Fault Refusal :=
  match i with
  | .barometerSample t samples => Sys2Proof.Machine.execBarometerSample t samples s
  | .barometerStatusWrite t sess n v => Sys2Proof.Machine.execBarometerStatusWrite t sess n v s
  | .trimLoopPeriod t powerMw tj => Sys2Proof.Machine.execTrimLoopPeriod t powerMw tj s
  | .emergencyHoldExpiry t => Sys2Proof.Machine.execEmergencyHoldExpiry t s
  | .operatingPointWrite t sess v => Sys2Proof.Machine.execOperatingPointWrite t sess v s
  | .coreVoltagePinWrite t sess v => Sys2Proof.Machine.execCoreVoltagePinWrite t sess v s
  | .energyWindowEnd t chargeFj leakageFj controlFj => Sys2Proof.Machine.execEnergyWindowEnd t chargeFj leakageFj controlFj s
  | .clearTransitStatistics t sess v => Sys2Proof.Machine.execClearTransitStatistics t sess v s
  | .clearEnergyStatistics t sess v => Sys2Proof.Machine.execClearEnergyStatistics t sess v s
  | .cellSend t flow body => Sys2Proof.Machine.execCellSend t flow body s
  | .cellArrival t plane dst line transitPs => Sys2Proof.Machine.execCellArrival t plane dst line transitPs s
  | .resequencerTimeout t flow => Sys2Proof.Machine.execResequencerTimeout t flow s
  | .planeFault t plane cause => Sys2Proof.Machine.execPlaneFault t plane cause s
  | .planeStatusWrite t sess plane v => Sys2Proof.Machine.execPlaneStatusWrite t sess plane v s
  | .epochAdvance t flow => Sys2Proof.Machine.execEpochAdvance t flow s
  | .portFlushComplete t port => Sys2Proof.Machine.execPortFlushComplete t port s
  | .analysisPortWrite t sess v => Sys2Proof.Machine.execAnalysisPortWrite t sess v s
  | .flowMirrorRuleCommit t sess => Sys2Proof.Machine.execFlowMirrorRuleCommit t sess s
  | .samplerRingRead t sess max => Sys2Proof.Machine.execSamplerRingRead t sess max s
  | .portModeWrite t sess port v => Sys2Proof.Machine.execPortModeWrite t sess port v s
  | .cagePresenceChange t cage present plug => Sys2Proof.Machine.execCagePresenceChange t cage present plug s
  | .cageReadRetry t cage plug => Sys2Proof.Machine.execCageReadRetry t cage plug s
  | .linkUp t port => Sys2Proof.Machine.execLinkUp t port s
  | .linkDown t port cause => Sys2Proof.Machine.execLinkDown t port cause s
  | .flapHoldExpiry t port => Sys2Proof.Machine.execFlapHoldExpiry t port s
  | .frameReceived t port frame => Sys2Proof.Machine.execFrameReceived t port frame s
  | .pfcFrameReceived t port smac enable quanta => Sys2Proof.Machine.execPfcFrameReceived t port smac enable quanta s
  | .pauseFrameReceived t port => Sys2Proof.Machine.execPauseFrameReceived t port s
  | .pfcPauseExpiry t port prio => Sys2Proof.Machine.execPfcPauseExpiry t port prio s
  | .pfcRefresh t port prio => Sys2Proof.Machine.execPfcRefresh t port prio s
  | .pdelayReqInterval t port => Sys2Proof.Machine.execPdelayReqInterval t port s
  | .pdelayReqReceived t port => Sys2Proof.Machine.execPdelayReqReceived t port s
  | .pdelayRespReceived t port delayPs => Sys2Proof.Machine.execPdelayRespReceived t port delayPs s
  | .headroomDecrease t port prio => Sys2Proof.Machine.execHeadroomDecrease t port prio s
  | .pauseStorm t port prio => Sys2Proof.Machine.execPauseStorm t port prio s
  | .pauseRecoveryEnd t port prio => Sys2Proof.Machine.execPauseRecoveryEnd t port prio s
  | .portSettingsCommit t sess => Sys2Proof.Machine.execPortSettingsCommit t sess s
  | .interfaceCommit t sess => Sys2Proof.Machine.execInterfaceCommit t sess s
  | .arpRequestReceived t port ip => Sys2Proof.Machine.execArpRequestReceived t port ip s
  | .neighbourSolicitationReceived t port ip => Sys2Proof.Machine.execNeighbourSolicitationReceived t port ip s
  | .echoRequestReceived t port ip len => Sys2Proof.Machine.execEchoRequestReceived t port ip len s
  | .ptpAnnounceReceived t port a => Sys2Proof.Machine.execPtpAnnounceReceived t port a s
  | .ptpSyncReceived t port m twoStep => Sys2Proof.Machine.execPtpSyncReceived t port m twoStep s
  | .ptpDelayRespReceived t port m => Sys2Proof.Machine.execPtpDelayRespReceived t port m s
  | .ptpAnnounceTimeout t => Sys2Proof.Machine.execPtpAnnounceTimeout t s
  | .ptpPortReturn t => Sys2Proof.Machine.execPtpPortReturn t s
  | .holdoverLimitExpiry t => Sys2Proof.Machine.execHoldoverLimitExpiry t s
  | .lldpTransmit t port => Sys2Proof.Machine.execLldpTransmit t port s
  | .lldpduReceived t port pfc chassis smac => Sys2Proof.Machine.execLldpduReceived t port pfc chassis smac s
  | .egressFrameEnd t port => Sys2Proof.Machine.execEgressFrameEnd t port s
  | .cmReq t port req => Sys2Proof.Machine.execCmReq t port req s
  | .cmRtu t qpn => Sys2Proof.Machine.execCmRtu t qpn s
  | .cmRej t qpn => Sys2Proof.Machine.execCmRej t qpn s
  | .cmDreq t qpn => Sys2Proof.Machine.execCmDreq t qpn s
  | .cmDrep t qpn => Sys2Proof.Machine.execCmDrep t qpn s
  | .cmResponseTimeout t idx => Sys2Proof.Machine.execCmResponseTimeout t idx s
  | .qpIndexFree t idx => Sys2Proof.Machine.execQpIndexFree t idx s
  | .roceRequestPacket t pkt => Sys2Proof.Machine.execRoceRequestPacket t pkt s
  | .roceAck t pkt => Sys2Proof.Machine.execRoceAck t pkt s
  | .roceNak t pkt => Sys2Proof.Machine.execRoceNak t pkt s
  | .rdmaReadResponse t pkt => Sys2Proof.Machine.execRdmaReadResponse t pkt s
  | .cnpReceived t pkt => Sys2Proof.Machine.execCnpReceived t pkt s
  | .localAckTimeout t idx => Sys2Proof.Machine.execLocalAckTimeout t idx s
  | .rnrTimerExpiry t idx => Sys2Proof.Machine.execRnrTimerExpiry t idx s
  | .rnrWallTimeExpiry t idx => Sys2Proof.Machine.execRnrWallTimeExpiry t idx s
  | .ackCoalescingTimeout t idx => Sys2Proof.Machine.execAckCoalescingTimeout t idx s
  | .sendGatePass t idx => Sys2Proof.Machine.execSendGatePass t idx s
  | .parkingStart t slice => Sys2Proof.Machine.execParkingStart t slice s
  | .parkingCommit t idx => Sys2Proof.Machine.execParkingCommit t idx s
  | .contextRefetchComplete t idx => Sys2Proof.Machine.execContextRefetchComplete t idx s
  | .alphaTimerExpiry t idx => Sys2Proof.Machine.execAlphaTimerExpiry t idx s
  | .windowAtFloor t idx => Sys2Proof.Machine.execWindowAtFloor t idx s
  | .qpPinCommit t sess => Sys2Proof.Machine.execQpPinCommit t sess s
  | .qpWindowPinCommit t sess => Sys2Proof.Machine.execQpWindowPinCommit t sess s
  | .qpForceError t sess => Sys2Proof.Machine.execQpForceError t sess s
  | .offenderLimitExpiry t ip => Sys2Proof.Machine.execOffenderLimitExpiry t ip s
  | .connect t c => Sys2Proof.Machine.execConnect t c s
  | .propertyGet t c => Sys2Proof.Machine.execPropertyGet t c s
  | .propertySet t c => Sys2Proof.Machine.execPropertySet t c s
  | .keepAlive t c => Sys2Proof.Machine.execKeepAlive t c s
  | .keepAliveExpiry t cntlid => Sys2Proof.Machine.execKeepAliveExpiry t cntlid s
  | .getLogPage t c => Sys2Proof.Machine.execGetLogPage t c s
  | .identify t c => Sys2Proof.Machine.execIdentify t c s
  | .abort t c => Sys2Proof.Machine.execAbort t c s
  | .setFeatures t c => Sys2Proof.Machine.execSetFeatures t c s
  | .getFeatures t c => Sys2Proof.Machine.execGetFeatures t c s
  | .asynchronousEventRequest t c => Sys2Proof.Machine.execAsynchronousEventRequest t c s
  | .formatNvm t c => Sys2Proof.Machine.execFormatNvm t c s
  | .disconnect t c => Sys2Proof.Machine.execDisconnect t c s
  | .flush t c => Sys2Proof.Machine.execFlush t c s
  | .flushComplete t c => Sys2Proof.Machine.execFlushComplete t c s
  | .write t c => Sys2Proof.Machine.execWrite t c s
  | .read t c => Sys2Proof.Machine.execRead t c s
  | .compare t c => Sys2Proof.Machine.execCompare t c s
  | .compareAndWrite t c => Sys2Proof.Machine.execCompareAndWrite t c s
  | .writeZeroes t c => Sys2Proof.Machine.execWriteZeroes t c s
  | .datasetManagement t c => Sys2Proof.Machine.execDatasetManagement t c s
  | .verify t c => Sys2Proof.Machine.execVerify t c s
  | .reservationRegister t c => Sys2Proof.Machine.execReservationRegister t c s
  | .reservationReport t c => Sys2Proof.Machine.execReservationReport t c s
  | .reservationAcquire t c => Sys2Proof.Machine.execReservationAcquire t c s
  | .reservationRelease t c => Sys2Proof.Machine.execReservationRelease t c s
  | .reservationBarrierComplete t nsRow => Sys2Proof.Machine.execReservationBarrierComplete t nsRow s
  | .cryptoEraseComplete t nsRow => Sys2Proof.Machine.execCryptoEraseComplete t nsRow s
  | .subsystemCommit t sess => Sys2Proof.Machine.execSubsystemCommit t sess s
  | .hostNqnCommit t sess => Sys2Proof.Machine.execHostNqnCommit t sess s
  | .grantCommit t sess => Sys2Proof.Machine.execGrantCommit t sess s
  | .namespaceCommit t sess => Sys2Proof.Machine.execNamespaceCommit t sess s
  | .namespaceCryptoErase t sess => Sys2Proof.Machine.execNamespaceCryptoErase t sess s
  | .listenerCommit t sess => Sys2Proof.Machine.execListenerCommit t sess s
  | .tenantKeyImport t sess v => Sys2Proof.Machine.execTenantKeyImport t sess v s
  | .tenantKeyDestroy t sess => Sys2Proof.Machine.execTenantKeyDestroy t sess s
  | .hostLimitExpiry t hostRow => Sys2Proof.Machine.execHostLimitExpiry t hostRow s
  | .engineCapsuleTake t engine => Sys2Proof.Machine.execEngineCapsuleTake t engine s
  | .commandAdmit t tenant => Sys2Proof.Machine.execCommandAdmit t tenant s
  | .dirtyCeilingAdmit t => Sys2Proof.Machine.execDirtyCeilingAdmit t s
  | .tenantSchedulingCommit t sess => Sys2Proof.Machine.execTenantSchedulingCommit t sess s
  | .classPriorityWrite t sess cls v => Sys2Proof.Machine.execClassPriorityWrite t sess cls v s
  | .memberSubmit t slot => Sys2Proof.Machine.execMemberSubmit t slot s
  | .gateEntryEnd t port => Sys2Proof.Machine.execGateEntryEnd t port s
  | .gateSettingsCommit t sess => Sys2Proof.Machine.execGateSettingsCommit t sess s
  | .gateListEntryCommit t sess => Sys2Proof.Machine.execGateListEntryCommit t sess s
  | .gateListChange t port => Sys2Proof.Machine.execGateListChange t port s
  | .queueStarved t q => Sys2Proof.Machine.execQueueStarved t q s
  | .backgroundShareUpdate t => Sys2Proof.Machine.execBackgroundShareUpdate t s
  | .backgroundTargetUpdate t => Sys2Proof.Machine.execBackgroundTargetUpdate t s
  | .minuteClose t => Sys2Proof.Machine.execMinuteClose t s
  | .pageSeal t => Sys2Proof.Machine.execPageSeal t s
  | .ledgerVaultWrite t seq => Sys2Proof.Machine.execLedgerVaultWrite t seq s
  | .billingAcknowledge t sess v => Sys2Proof.Machine.execBillingAcknowledge t sess v s
  | .counterLatchRead t sess n => Sys2Proof.Machine.execCounterLatchRead t sess n s
  | .arrayCreate t sess => Sys2Proof.Machine.execArrayCreate t sess s
  | .arrayDelete t sess => Sys2Proof.Machine.execArrayDelete t sess s
  | .gatherTimeExpiry t array row => Sys2Proof.Machine.execGatherTimeExpiry t array row s
  | .flushStart t array row => Sys2Proof.Machine.execFlushStart t array row s
  | .journalBlockWrite t array => Sys2Proof.Machine.execJournalBlockWrite t array s
  | .journalBlockDurable t array seq => Sys2Proof.Machine.execJournalBlockDurable t array seq s
  | .accumulationComplete t ctx => Sys2Proof.Machine.execAccumulationComplete t ctx s
  | .accumulationFailed t ctx => Sys2Proof.Machine.execAccumulationFailed t ctx s
  | .zeroingRowComplete t array row => Sys2Proof.Machine.execZeroingRowComplete t array row s
  | .zeroingWatermarkWrite t array => Sys2Proof.Machine.execZeroingWatermarkWrite t array s
  | .scrubRow t array row columns => Sys2Proof.Machine.execScrubRow t array row columns s
  | .memberStatisticsUpdate t => Sys2Proof.Machine.execMemberStatisticsUpdate t s
  | .readAround t slot cid => Sys2Proof.Machine.execReadAround t slot cid s
  | .memberTimeout t slot cid => Sys2Proof.Machine.execMemberTimeout t slot cid s
  | .slownessEvaluation t => Sys2Proof.Machine.execSlownessEvaluation t s
  | .memberEject t sess => Sys2Proof.Machine.execMemberEject t sess s
  | .rebuildRow t array row => Sys2Proof.Machine.execRebuildRow t array row s
  | .replacementAccept t sess => Sys2Proof.Machine.execReplacementAccept t sess s
  | .arrayRecovery t array env => Sys2Proof.Machine.execArrayRecovery t array env s
  | .acknowledgeLoss t sess => Sys2Proof.Machine.execAcknowledgeLoss t sess s
  | .driveInsertion t slot => Sys2Proof.Machine.execDriveInsertion t slot s
  | .driveRemoval t slot => Sys2Proof.Machine.execDriveRemoval t slot s
  | .clearPresenceFault t sess => Sys2Proof.Machine.execClearPresenceFault t sess s
  | .ifdetSample t slot nvme => Sys2Proof.Machine.execIfdetSample t slot nvme s
  | .perstRelease t slot => Sys2Proof.Machine.execPerstRelease t slot s
  | .slotLinkUp t slot rate width => Sys2Proof.Machine.execSlotLinkUp t slot rate width s
  | .linkTrainingTimeout t slot => Sys2Proof.Machine.execLinkTrainingTimeout t slot s
  | .driveReady t slot info => Sys2Proof.Machine.execDriveReady t slot info s
  | .readyTimeout t d => Sys2Proof.Machine.execReadyTimeout t d s
  | .slotLinkDown t slot => Sys2Proof.Machine.execSlotLinkDown t slot s
  | .aerErrorMessage t slot kind => Sys2Proof.Machine.execAerErrorMessage t slot kind s
  | .dpcRelease t slot => Sys2Proof.Machine.execDpcRelease t slot s
  | .slotCompletion t slot tag status poisoned data => Sys2Proof.Machine.execSlotCompletion t slot tag status poisoned data s
  | .completionTimeout t slot tag => Sys2Proof.Machine.execCompletionTimeout t slot tag s
  | .completionEntry t slot e => Sys2Proof.Machine.execCompletionEntry t slot e s
  | .nvmeCommandTimeout t slot c => Sys2Proof.Machine.execNvmeCommandTimeout t slot c s
  | .abortTimeout t slot cid => Sys2Proof.Machine.execAbortTimeout t slot cid s
  | .resetLadderStep t slot ok => Sys2Proof.Machine.execResetLadderStep t slot ok s
  | .driveUpstreamWrite t slot addr len flaws data => Sys2Proof.Machine.execDriveUpstreamWrite t slot addr len flaws data s
  | .driveUpstreamRead t slot addr len => Sys2Proof.Machine.execDriveUpstreamRead t slot addr len s
  | .smbusHealthPoll t slot temp warn => Sys2Proof.Machine.execSmbusHealthPoll t slot temp warn s
  | .smbusStuckRecovery t slot => Sys2Proof.Machine.execSmbusStuckRecovery t slot s
  | .smartPoll t slot critical temp warn powerState => Sys2Proof.Machine.execSmartPoll t slot critical temp warn powerState s
  | .driveAsyncEvent t slot kind => Sys2Proof.Machine.execDriveAsyncEvent t slot kind s
  | .slotAdminStateWrite t sess => Sys2Proof.Machine.execSlotAdminStateWrite t sess s
  | .npPerstDeassert t port => Sys2Proof.Machine.execNpPerstDeassert t port s
  | .npReset t port kind => Sys2Proof.Machine.execNpReset t port kind s
  | .npConfigRequest t port func offset w => Sys2Proof.Machine.execNpConfigRequest t port func offset w s
  | .vfDoorbell t port vf offset value => Sys2Proof.Machine.execVfDoorbell t port vf offset value s
  | .vfCcWrite t port vf value => Sys2Proof.Machine.execVfCcWrite t port vf value s
  | .createIoSubmissionQueue t c => Sys2Proof.Machine.execCreateIoSubmissionQueue t c s
  | .createIoCompletionQueue t c => Sys2Proof.Machine.execCreateIoCompletionQueue t c s
  | .deleteIoSubmissionQueue t c => Sys2Proof.Machine.execDeleteIoSubmissionQueue t c s
  | .deleteIoCompletionQueue t c => Sys2Proof.Machine.execDeleteIoCompletionQueue t c s
  | .npCompletion t port tag status poisoned entry data => Sys2Proof.Machine.execNpCompletion t port tag status poisoned entry data s
  | .npCompletionTimeout t port tag => Sys2Proof.Machine.execNpCompletionTimeout t port tag s
  | .npBar2Access t port offset len w flaws => Sys2Proof.Machine.execNpBar2Access t port offset len w flaws s
  | .inboundEntryCommit t sess => Sys2Proof.Machine.execInboundEntryCommit t sess s
  | .mailboxDoorbell t port len msg => Sys2Proof.Machine.execMailboxDoorbell t port len msg s
  | .mailboxAbort t port => Sys2Proof.Machine.execMailboxAbort t port s
  | .vfBusMasterClear t port vf => Sys2Proof.Machine.execVfBusMasterClear t port vf s
  | .vfFlr t port vf => Sys2Proof.Machine.execVfFlr t port vf s
  | .pf0Flr t port => Sys2Proof.Machine.execPf0Flr t port s
  | .vfEnableClear t port => Sys2Proof.Machine.execVfEnableClear t port s
  | .vfBindingCommit t sess => Sys2Proof.Machine.execVfBindingCommit t sess s
  | .doeDiscovery t port index => Sys2Proof.Machine.execDoeDiscovery t port index s
  | .getVersion t port => Sys2Proof.Machine.execGetVersion t port s
  | .getCapabilities t port => Sys2Proof.Machine.execGetCapabilities t port s
  | .negotiateAlgorithms t port common => Sys2Proof.Machine.execNegotiateAlgorithms t port common s
  | .getDigests t port => Sys2Proof.Machine.execGetDigests t port s
  | .getCertificate t port slot offset len => Sys2Proof.Machine.execGetCertificate t port slot offset len s
  | .challenge t port slot nonce => Sys2Proof.Machine.execChallenge t port slot nonce s
  | .getMeasurements t port block sign nonce => Sys2Proof.Machine.execGetMeasurements t port block sign nonce s
  | .dmaStart t ch setup => Sys2Proof.Machine.execDmaStart t ch setup s
  | .dmaExtend t ch => Sys2Proof.Machine.execDmaExtend t ch s
  | .dmaDisable t ch => Sys2Proof.Machine.execDmaDisable t ch s
  | .dmaHaltClear t ch => Sys2Proof.Machine.execDmaHaltClear t ch s
  | .dmaDescriptorFetched t ch d ok => Sys2Proof.Machine.execDmaDescriptorFetched t ch d ok s
  | .dmaDescriptorComplete t ch => Sys2Proof.Machine.execDmaDescriptorComplete t ch s
  | .dmaTransferError t ch write addr => Sys2Proof.Machine.execDmaTransferError t ch write addr s
  | .dmaFetchTimeout t ch => Sys2Proof.Machine.execDmaFetchTimeout t ch s
  | .copyJobStart t sess => Sys2Proof.Machine.execCopyJobStart t sess s
  | .copyJobExtend t sess => Sys2Proof.Machine.execCopyJobExtend t sess s
  | .copyJobDisable t sess => Sys2Proof.Machine.execCopyJobDisable t sess s
  | .copyJobClear t sess => Sys2Proof.Machine.execCopyJobClear t sess s
  | .helloSend t => Sys2Proof.Machine.execHelloSend t s
  | .twinRecordCopy t group r crc fec => Sys2Proof.Machine.execTwinRecordCopy t group r crc fec s
  | .hello t r => Sys2Proof.Machine.execHello t r s
  | .heartbeat t r => Sys2Proof.Machine.execHeartbeat t r s
  | .acknowledge t r => Sys2Proof.Machine.execAcknowledge t r s
  | .mirrorData t r => Sys2Proof.Machine.execMirrorData t r s
  | .mirrorConfirm t r => Sys2Proof.Machine.execMirrorConfirm t r s
  | .mirrorRelease t r => Sys2Proof.Machine.execMirrorRelease t r s
  | .reject t r => Sys2Proof.Machine.execReject t r s
  | .settings t r => Sys2Proof.Machine.execSettings t r s
  | .settingsResult t r => Sys2Proof.Machine.execSettingsResult t r s
  | .settingsResultTimeout t => Sys2Proof.Machine.execSettingsResultTimeout t s
  | .capsule t r => Sys2Proof.Machine.execCapsule t r s
  | .qpState t r => Sys2Proof.Machine.execQpState t r s
  | .twinPacket t r => Sys2Proof.Machine.execTwinPacket t r s
  | .yield t r => Sys2Proof.Machine.execYield t r s
  | .takeoverComplete t r => Sys2Proof.Machine.execTakeoverComplete t r s
  | .ownershipTransfer t r => Sys2Proof.Machine.execOwnershipTransfer t r s
  | .healthReport t r => Sys2Proof.Machine.execHealthReport t r s
  | .driveRequest t r => Sys2Proof.Machine.execDriveRequest t r s
  | .driveReply t r => Sys2Proof.Machine.execDriveReply t r s
  | .key t r => Sys2Proof.Machine.execKey t r s
  | .keyReply t r => Sys2Proof.Machine.execKeyReply t r s
  | .acknowledgeSendTimer t => Sys2Proof.Machine.execAcknowledgeSendTimer t s
  | .heartbeatSendTimer t => Sys2Proof.Machine.execHeartbeatSendTimer t s
  | .twinRetransmit t seq => Sys2Proof.Machine.execTwinRetransmit t seq s
  | .twinSettleExpiry t otherDown => Sys2Proof.Machine.execTwinSettleExpiry t otherDown s
  | .laneGroupOutOfService t group => Sys2Proof.Machine.execLaneGroupOutOfService t group s
  | .laneGroupRetrain t group => Sys2Proof.Machine.execLaneGroupRetrain t group s
  | .twinLinkLost t => Sys2Proof.Machine.execTwinLinkLost t s
  | .arrayHomeCommit t sess => Sys2Proof.Machine.execArrayHomeCommit t sess s
  | .interfaceHomeCommit t sess => Sys2Proof.Machine.execInterfaceHomeCommit t sess s
  | .tenantTwinCommit t sess => Sys2Proof.Machine.execTenantTwinCommit t sess s
  | .selfVerdictEvaluation t enginesOut hbmErrors => Sys2Proof.Machine.execSelfVerdictEvaluation t enginesOut hbmErrors s
  | .yieldRecheck t => Sys2Proof.Machine.execYieldRecheck t s
  | .yieldInAssert t => Sys2Proof.Machine.execYieldInAssert t s
  | .takeoverAnnounce t => Sys2Proof.Machine.execTakeoverAnnounce t s
  | .clearYieldLineFault t sess v => Sys2Proof.Machine.execClearYieldLineFault t sess v s
  | .forceYield t sess v => Sys2Proof.Machine.execForceYield t sess v s
  | .forceTakeover t sess v => Sys2Proof.Machine.execForceTakeover t sess v s
  | .rejoinReset t => Sys2Proof.Machine.execRejoinReset t s
  | .handBack t => Sys2Proof.Machine.execHandBack t s
  | .standbyShadowRead t slot ok => Sys2Proof.Machine.execStandbyShadowRead t slot ok s
  | .standbyParityVerify t array row columns => Sys2Proof.Machine.execStandbyParityVerify t array row columns s
  | .healthReportSend t => Sys2Proof.Machine.execHealthReportSend t s
  | .voltageTrendDaily t => Sys2Proof.Machine.execVoltageTrendDaily t s
  | .yieldWatchdogExpiry t => Sys2Proof.Machine.execYieldWatchdogExpiry t s
  | .lockstepMismatch t => Sys2Proof.Machine.execLockstepMismatch t s
  | .moduleReset t kind => Sys2Proof.Machine.execModuleReset t kind s
  | .boot t env => Sys2Proof.Machine.execBoot t env s
  | .vinQualified t vinMv => Sys2Proof.Machine.execVinQualified t vinMv s
  | .inputPowerGood t => Sys2Proof.Machine.execInputPowerGood t s
  | .inrushFaultTimer t => Sys2Proof.Machine.execInrushFaultTimer t s
  | .earlyShort t => Sys2Proof.Machine.execEarlyShort t s
  | .inputSquallTrip t => Sys2Proof.Machine.execInputSquallTrip t s
  | .overvoltageLockout t => Sys2Proof.Machine.execOvervoltageLockout t s
  | .overvoltageRelease t => Sys2Proof.Machine.execOvervoltageRelease t s
  | .undervoltageLockout t => Sys2Proof.Machine.execUndervoltageLockout t s
  | .inputRetry t => Sys2Proof.Machine.execInputRetry t s
  | .stormWarning t cause => Sys2Proof.Machine.execStormWarning t cause s
  | .vaultCopyComplete t => Sys2Proof.Machine.execVaultCopyComplete t s
  | .stormRestart t => Sys2Proof.Machine.execStormRestart t s
  | .stormThresholdWrite t sess v => Sys2Proof.Machine.execStormThresholdWrite t sess v s
  | .pfwarnReadbackFault t => Sys2Proof.Machine.execPfwarnReadbackFault t s
  | .clearPfwarnFault t sess v => Sys2Proof.Machine.execClearPfwarnFault t sess v s
  | .slotRampStart t slot => Sys2Proof.Machine.execSlotRampStart t slot s
  | .slotPowerGood t slot => Sys2Proof.Machine.execSlotPowerGood t slot s
  | .slotRampTimeout t slot => Sys2Proof.Machine.execSlotRampTimeout t slot s
  | .slotEarlyShort t slot => Sys2Proof.Machine.execSlotEarlyShort t slot s
  | .slotSquallTrip t slot => Sys2Proof.Machine.execSlotSquallTrip t slot s
  | .slotOvercurrent t slot => Sys2Proof.Machine.execSlotOvercurrent t slot s
  | .auxiliaryOvercurrent t slot => Sys2Proof.Machine.execAuxiliaryOvercurrent t slot s
  | .slotRetry t slot => Sys2Proof.Machine.execSlotRetry t slot s
  | .slotLatchClear t sess => Sys2Proof.Machine.execSlotLatchClear t sess s
  | .slotPowerOff t sess => Sys2Proof.Machine.execSlotPowerOff t sess s
  | .slotOverdrawCheck t slot powerMw => Sys2Proof.Machine.execSlotOverdrawCheck t slot powerMw s
  | .holdupForecast t storeMv => Sys2Proof.Machine.execHoldupForecast t storeMv s
  | .dirtyCeilingRise t => Sys2Proof.Machine.execDirtyCeilingRise t s
  | .capacitanceMeasurement t dropMv => Sys2Proof.Machine.execCapacitanceMeasurement t dropMv s
  | .copyRegionErase t region => Sys2Proof.Machine.execCopyRegionErase t region s
  | .vaultTest t rate readOk => Sys2Proof.Machine.execVaultTest t rate readOk s
  | .lullEntry t => Sys2Proof.Machine.execLullEntry t s
  | .thaw t trigger => Sys2Proof.Machine.execThaw t trigger s
  | .openRequest t address transport => Sys2Proof.Machine.execOpenRequest t address transport s
  | .authenticate t sess g account signatureOk auth => Sys2Proof.Machine.execAuthenticate t sess g account signatureOk auth s
  | .alonardRead t sess g request items => Sys2Proof.Machine.execAlonardRead t sess g request items s
  | .alonardWrite t sess g request items => Sys2Proof.Machine.execAlonardWrite t sess g request items s
  | .subscribe t sess g minSeverity areaMask => Sys2Proof.Machine.execSubscribe t sess g minSeverity areaMask s
  | .keepalive t sess g => Sys2Proof.Machine.execKeepalive t sess g s
  | .close t sess g => Sys2Proof.Machine.execClose t sess g s
  | .sessionIdleTimeout t sess => Sys2Proof.Machine.execSessionIdleTimeout t sess s
  | .lockoutExpiry t address => Sys2Proof.Machine.execLockoutExpiry t address s
  | .rowSelect t sess window row => Sys2Proof.Machine.execRowSelect t sess window row s
  | .rowCommit t sess window v => Sys2Proof.Machine.execRowCommit t sess window v s
  | .objectWrite t sess idx sub v => Sys2Proof.Machine.execObjectWrite t sess idx sub v s
  | .restoreDefaults t sess v => Sys2Proof.Machine.execRestoreDefaults t sess v s
  | .alonardEnableWrite t sess v => Sys2Proof.Machine.execAlonardEnableWrite t sess v s
  | .accountCommit t sess => Sys2Proof.Machine.execAccountCommit t sess s
  | .acknowledgeErrors t sess v => Sys2Proof.Machine.execAcknowledgeErrors t sess v s
  | .managementFrameReceived t port frame => Sys2Proof.Machine.execManagementFrameReceived t port frame s
  | .supervisionFrameSend t => Sys2Proof.Machine.execSupervisionFrameSend t s
  | .managementLanLost t port => Sys2Proof.Machine.execManagementLanLost t port s
  | .sdoRequest t req => Sys2Proof.Machine.execSdoRequest t req s
  | .usdoRequest t req => Sys2Proof.Machine.execUsdoRequest t req s
  | .sdoTransferTimeout t => Sys2Proof.Machine.execSdoTransferTimeout t s
  | .nmtStop t => Sys2Proof.Machine.execNmtStop t s
  | .nmtResetNode t => Sys2Proof.Machine.execNmtResetNode t s
  | .nmtResetCommunication t => Sys2Proof.Machine.execNmtResetCommunication t s
  | .canHeartbeatSend t => Sys2Proof.Machine.execCanHeartbeatSend t s
  | .canNodeIdConflict t => Sys2Proof.Machine.execCanNodeIdConflict t s
  | .canNodeIdWrite t sess v => Sys2Proof.Machine.execCanNodeIdWrite t sess v s
  | .canBusOff t => Sys2Proof.Machine.execCanBusOff t s
  | .imageBegin t sess v => Sys2Proof.Machine.execImageBegin t sess v s
  | .imageData t sess len content check => Sys2Proof.Machine.execImageData t sess len content check s
  | .imageAbort t sess v => Sys2Proof.Machine.execImageAbort t sess v s
  | .imageTransferTimeout t => Sys2Proof.Machine.execImageTransferTimeout t s
  | .slotRewriteComplete t => Sys2Proof.Machine.execSlotRewriteComplete t s
  | .activationSchedule t sess due => Sys2Proof.Machine.execActivationSchedule t sess due s
  | .activationCancel t sess v => Sys2Proof.Machine.execActivationCancel t sess v s
  | .activationDue t => Sys2Proof.Machine.execActivationDue t s
  | .activationWaitTimeout t => Sys2Proof.Machine.execActivationWaitTimeout t s
  | .activationFlushTimeout t => Sys2Proof.Machine.execActivationFlushTimeout t s
  | .drainStart t => Sys2Proof.Machine.execDrainStart t s
  | .drainTimeout t => Sys2Proof.Machine.execDrainTimeout t s
  | .confirm t sess v => Sys2Proof.Machine.execConfirm t sess v s
  | .trialTimeExpiry t => Sys2Proof.Machine.execTrialTimeExpiry t s
  | .revert t sess v => Sys2Proof.Machine.execRevert t sess v s
  | .attestationNonceWrite t sess nonce => Sys2Proof.Machine.execAttestationNonceWrite t sess nonce s
  | .attestationReportRead t sess => Sys2Proof.Machine.execAttestationReportRead t sess s
  | .thermalWarning t tj => Sys2Proof.Machine.execThermalWarning t tj s
  | .thermalShutdown t tj => Sys2Proof.Machine.execThermalShutdown t tj s
  | .thermalRestart t tj => Sys2Proof.Machine.execThermalRestart t tj s
  | .indicatorFrame t senseMv driveMv => Sys2Proof.Machine.execIndicatorFrame t senseMv driveMv s
  | .lampTest t sess v => Sys2Proof.Machine.execLampTest t sess v s
  | .lampTestEnd t => Sys2Proof.Machine.execLampTestEnd t s
  | .clearFaultyInputs t sess v => Sys2Proof.Machine.execClearFaultyInputs t sess v s
  | .barometerSlowestRead t sess n => Sys2Proof.Machine.execBarometerSlowestRead t sess n s
  | .autoNegotiationComplete t port partner => Sys2Proof.Machine.execAutoNegotiationComplete t port partner s
  | .ptpFollowUpReceived t port m => Sys2Proof.Machine.execPtpFollowUpReceived t port m s
  | .ptpDelayReqSend t => Sys2Proof.Machine.execPtpDelayReqSend t s
  | .controllerFatalStatus t slot => Sys2Proof.Machine.execControllerFatalStatus t slot s
  | .activityPulse t slot => Sys2Proof.Machine.execActivityPulse t slot s
  | .nearPortLinkUp t port width rate => Sys2Proof.Machine.execNearPortLinkUp t port width rate s
  | .laneGroupInService t group => Sys2Proof.Machine.execLaneGroupInService t group s
  | .runAloneWaitExpiry t => Sys2Proof.Machine.execRunAloneWaitExpiry t s
  | .yieldInDeassert t => Sys2Proof.Machine.execYieldInDeassert t s
  | .holdupPathTrip t => Sys2Proof.Machine.execHoldupPathTrip t s
  | .copyCutOff t => Sys2Proof.Machine.execCopyCutOff t s
  | .thermalWarningClear t tj => Sys2Proof.Machine.execThermalWarningClear t tj s
  | .managementLinkChange t port state => Sys2Proof.Machine.execManagementLinkChange t port state s
  | .managementSidebandChange t port which level => Sys2Proof.Machine.execManagementSidebandChange t port which level s

end Sys2Proof.Machine
end

