-- ==== Sys2Proof/Safety.lean ====
section
/-! DEFINITION. What counts as a well-formed state and a safe step, and the terms in which the statements speak of sessions,
answers, commits, events and frames. -/

namespace Sys2Proof.Machine

/-! ### Well-formed states -/

/-- The core voltage lies in the trim range and on the 2.5 mV steps of the rail (02 R57). -/
abbrev State.railOk (s : State) : Prop := 6400 ≤ s.vcore ∧ s.vcore ≤ 8200 ∧ s.vcore % 25 = 0

/-- Module memory is in canonical form. -/
abbrev State.memoryOk (s : State) : Prop := Memory.wf s.hbm = true

/-! ### A command and its next state -/

/-- The command answers a next state, of which `Q` holds. -/
def Done (c : Instr) (s : State) (Q : State → Prop) : Prop := ∃ u, exec c s = .next u ∧ Q u

/-- The rails are on: more than housekeeping runs (15 R540). -/
abbrev State.railsOn (s : State) : Prop := s.pwr.off = false

/-- `s` with the time, the free values drawn, the outputs, the objects, the logs, the rings and the sessions of `u`. The
equation `u = { s.logged u with eth := u.eth }` says that, apart from these and `eth`, nothing changed. -/
def State.logged (s u : State) : State :=
  { s with now := u.now, free := u.free, out := u.out, dict := u.dict, ev := u.ev, rings := u.rings, sess := u.sess }

/-- Every object value other than those of `keys` reads as before. -/
def State.otherObjects (s u : State) (keys : List Nat) : Prop :=
  ∀ k, k ∉ keys → Tbl.find? u.dict.cur k = Tbl.find? s.dict.cur k

/-- The log holds an event with this data. -/
abbrev State.told (u : State) (e : Ev) (data : List Nat) : Prop := ∃ r ∈ u.ev.log, r.ev = e ∧ r.data = data

/-! ### Sessions -/

/-- The answer `c` to a write of session `sess` has been sent. -/
abbrev State.answered (u : State) (sess c : Nat) : Prop := Out.reply sess c none ∈ u.out

/-- Session `sess` exists and passes the checks of R643 that do not depend on the object's chapter: existence, access,
level, length, range, and the settings store. -/
def State.mayWrite (s : State) (sess idx sub : Nat) (v : Val) : Bool :=
  match s.session? sess with
  | some x => decide (writeAccess x idx sub = 0 ∧ writeLength idx sub v = 0 ∧ writeRange idx sub v = 0) &&
      s.areaOpen idx && s.dict.storeOk
  | none => false

/-- What session `sess` has staged in a row window. -/
def State.staged (s : State) (sess win : Nat) : Stage :=
  match s.session? sess with
  | some x => s.stage x win
  | none => {}

/-- Session `sess` exists and its commit of a row window passes the checks of R643 and R559 and the chapter's own. -/
def State.mayCommit (s : State) (sess win : Nat) (chk : Session → Stage → State → Abort) : Bool :=
  match s.session? sess with
  | some x => decide (firstCode (s.commitCodes x win 1 (s.stage x win)) = 0 ∧ chk x (s.stage x win) s = 0) && s.dict.storeOk
  | none => false

/-- The row that session `sess` had selected has been committed: its generation has moved on by one and the commit is
answered 0. -/
abbrev State.committed (s u : State) (sess win : Nat) : Prop :=
  u.gen win (s.staged sess win).row = (s.gen win (s.staged sess win).row + 1) % 2 ^ 32 ∧ u.answered sess 0

/-- The row holds what was staged in the fields `subs`. -/
abbrev State.rowTook (s u : State) (sess win : Nat) (subs : List Nat) : Prop :=
  ∀ k ∈ subs, u.val win (s.staged sess win).row k = (s.staged sess win).val k

/-! ### Frames that wait at a port -/

/-- The egress port with a control frame put behind those that wait, as one sent at time `t`. -/
def State.ctlEg (s : State) (t p len : Nat) (c : Ctl) : EgPort :=
  { s.eg p with queues := Tbl.set (s.eg p).queues controlKey (Tbl.get [] (s.eg p).queues controlKey ++ [(s.at t).ctlFrame len c]) }

/-- Port `p` is up and a frame stands on its line. -/
abbrev State.lineBusy (s : State) (p : Nat) : Prop := s.portUp p = true ∧ (s.eg p).onLine.isSome = true

/-- Port `p` is up, a frame stands on its line, and its control frames are not in a pause storm: a control frame waits behind those of
the port. -/
abbrev State.ctlWaits (s : State) (p : Nat) : Prop := s.lineBusy p ∧ s.storming p (s.ob 0x4007 1) = false

/-! ### Packets of a queue pair -/

/-- The packet reaches resident QP `i` in RTS on its own port, from its peer, and carries no mark of congestion (05). -/
abbrev State.qpTakes (s : State) (i : Nat) (p : RocePkt) : Prop :=
  s.portServes p.port = true ∧ p.stomped = false ∧ p.icrcOk = true ∧ p.destQp ≠ 1 ∧ p.tver = 0 ∧ s.qpnIndex p.destQp = some i ∧
    (s.qp i).loc = 0 ∧ (s.qp i).state = 2 ∧ p.srcIp = (s.qp i).remoteIp ∧ p.port = (s.qp i).port ∧
    p.ifRow = (s.qp i).ifRow ∧ p.pkey = (s.qp i).pkey ∧ p.ce = false

/-- QP `i` is mirrored to no twin, and its packets that are sent end no command. -/
abbrev State.qpPlain (s : State) (i : Nat) : Prop :=
  (s.qp i).twin = false ∧ (s.qp i).copying = false ∧ ∀ x ∈ (s.qp i).sent, x.pkt.cqe = none

/-! ### Commands and their completions -/

/-- Command `id` came on QP `i`, which is in RTR or RTS, and has not been answered (05, 06). -/
abbrev State.onQp (s : State) (id i : Nat) : Prop :=
  Tbl.has s.nvme.cmds id = true ∧ (s.cmd id).qp = some i ∧ (s.cmd id).vf = none ∧ (s.cmd id).stage ≠ .sending ∧
    ((s.qp i).state = 1 ∨ (s.qp i).state = 2)

/-- A packet of which `Q` holds is on its way on QP `i`: it waits at the send gate, or has been sent and is not acknowledged. -/
def State.onWay (u : State) (i : Nat) (Q : TxPkt → Prop) : Prop :=
  (∃ m ∈ (u.qp i).sendQ, ∃ p ∈ m.pkts, Q p) ∨ ∃ x ∈ (u.qp i).sent, Q x.pkt

/-- The completion of command `id` is on its way on QP `i`, with this status type, status and first double word. -/
def State.ended (u : State) (id i sct sc dw0 : Nat) : Prop :=
  (u.cmd id).stage = .sending ∧ u.onWay i fun p => p.cmd = some id ∧ ∃ e, p.cqe = some e ∧
    e.cid = (u.cmd id).cap.cid ∧ e.sct = sct ∧ e.sc = sc ∧ e.dw0 = dw0

/-- The structure `d` is on its way to the host as the data of command `id` on QP `i`. -/
def State.gave (u : State) (id i : Nat) (d : HostData) : Prop := u.onWay i fun p => p.cmd = some id ∧ p.info = some d

/-- Admin command `id` of QP `i` is ready, has this opcode, and belongs to controller `k`. -/
abbrev State.adminOn (s : State) (id i op k : Nat) : Prop := s.onQp id i ∧ s.readyAdmin id op = some k

/-- I/O command `id` of QP `i` is ready, has this opcode, and is not fused. -/
abbrev State.ioOn (s : State) (id i op : Nat) : Prop := s.onQp id i ∧ s.readyIo id op = true ∧ (s.cmd id).fused = none

/-- The command's data came in its capsule. -/
def State.inCapsule (s : State) (id : Nat) : Prop := ∃ o n, (s.cmd id).cap.dptr = .offsetBlock o n

/-- The pieces that a read of the command's blocks is cut into: how each is served, its offset, address and length. -/
def State.cutOf (s : State) (id : Nat) : List (Nat × Nat × Nat × Nat) :=
  (s.runs (s.cmd id).nsRow (s.cmd id).cap.slba (s.cmd id).cap.nlb).flatMap fun x =>
    (s.sourceRuns (s.nsArray (s.cmd id).nsRow) (s.nsLba (s.cmd id).nsRow) x.1 x.2.1 (x.2.2 / max 1 (s.nsLba (s.cmd id).nsRow))).flatMap
      (s.cutSource (s.nsArray (s.cmd id).nsRow))

/-- A write of this command dirties HBM at once: the module is not paired, the namespace is not being erased, none of its
blocks is lost, and no command waits for a flush. -/
abbrev State.writesBack (s : State) (id : Nat) : Prop :=
  s.paired = false ∧ (s.ns (s.cmd id).nsRow).erasing = false ∧ (s.cmd id).cap.fua = false ∧ s.dirtyLimit ≠ 0 ∧
    s.touchesLost (s.cmd id).nsRow (s.cmd id).cap.slba (s.cmd id).cap.nlb = false ∧ ∀ e ∈ s.nvme.cmds, e.2.stage ≠ .flushing

/-- A flush of the row has begun: it covers the pages that were dirty, whose bytes are counted (09 R315). -/
abbrev State.flushBegan (s u : State) (a r : Nat) : Prop :=
  (∃ f, u.flush? a r = some f ∧ f.pages = (s.freshPages a r).map Prod.fst) ∧
    u.o 0x5011 a 5 = satAdd (s.o 0x5011 a 5) (sumNat ((s.freshPages a r).map fun e => 512 * bitCount e.2.mask 8))

/-! ### Records from the peer, and a module with nothing to take -/

/-- A record of type `ty` reaches a linked module on which no record of its own waits for the peer. -/
abbrev State.linkIn (s : State) (ty : RecType) (r : TwinRec) : Prop :=
  s.twin.linked = true ∧ r.typ = ty ∧ s.twin.unacked = [] ∧ s.twin.sendWait = [] ∧ s.waitingQps = []

/-- Record `r` has been delivered: the sequence moved on if it was the expected one, and the link is not lost (14 R477, R479). -/
abbrev State.delivered (s u : State) (r : TwinRec) : Prop :=
  u.twin.expected = (if r.seq = s.twin.expected then s.twin.expected + 1 else s.twin.expected) ∧
    u.twin.lastDelivered = some u.now ∧ u.twin.linkLost = false ∧ u.twin.lostAt = none

/-- A record with this type, context, reference and payload has gone out on the twin link. -/
def State.hasSent (u : State) (ty : RecType) (ctx : Nat) (ref : RecSeq) (p : RecPayload) : Prop :=
  ∃ o ∈ u.out, ∃ g r, o = Out.twinRec g r ∧ r.typ = ty ∧ r.ctx = ctx ∧ r.ref = ref ∧ r.payload = p

/-- The module can take over, and holds nothing of the peer's to be taken: no array is configured, no address moves, no context,
mirror record, held commit or waiting response is left, and no drain runs. -/
abbrev State.takesAlone (s : State) : Prop :=
  s.silent = false ∧ s.twin.take = none ∧ s.arrays = [] ∧ s.ifRows = [] ∧ s.twin.standby = [] ∧ s.twin.held = [] ∧
    s.twin.mirror = [] ∧ s.waitingQps = [] ∧ s.fw.drainAt = none ∧ s.nvme.cmds = []

/-- A takeover without arrays is complete: the module serves alone, and 2430h and the event tell of it. -/
abbrev State.tookOver (u : State) (trigger : Nat) : Prop :=
  u.twinPhase = 3 ∧ u.o 0x2430 0 3 = 0 ∧ u.o 0x2430 0 4 = trigger ∧ u.told .takeover [0, trigger] ∧
    u.twin.take.isSome = true

/-- The module is in reset: it does not run, and its link and its sessions' held commits are gone (14 R494). -/
abbrev State.inReset (u : State) : Prop :=
  u.pwr.off = true ∧ u.twin.linked = false ∧ u.twin.groups = 0 ∧ u.twin.held = [] ∧ u.fw.goal = none ∧ u.fw.drainAt = none

/-! ### Near ports -/

/-- Vector `v` of PF0 of near port `p` has been sent, if MSI-X is on, the function is bus master and nothing masks the vector (12 R426). -/
abbrev State.vectorSent (s u : State) (p v : Nat) : Prop :=
  (Tbl.get {} s.rings p).msix.on = true → (s.nport p).bme = true → (Tbl.get {} s.rings p).msix.open v = true →
    Out.msix p v ((Tbl.get {} s.rings p).msix.message v).1 ((Tbl.get {} s.rings p).msix.message v).2 ∈ u.out

/-! ### DMA channels -/

/-- A descriptor at this address of channel `c`'s chain lies in the module or nowhere: no request leaves for it (13 R444). -/
abbrev State.chainHere (s : State) (c addr : Nat) : Prop :=
  s.region c addr 32 false false = some .memory ∨ s.region c addr 32 false false = none

/-! ### Slot faults -/

/-- Slot `n` has faulted at time `t` with a cause: both feeds are open, and the module's feed retries 1 s later (15 R523). -/
abbrev State.slotFaulted (s u : State) (t n cause : Nat) : Prop :=
  u.o 0x2210 n 2 = 4 ∧ u.o 0x2210 n 3 = cause ∧ u.o 0x2210 n 0xA = satAdd (s.o 0x2210 n 0xA) 1 ∧ u.slotState n = 1 ∧
    (u.slotS n).auxOn = false ∧ (u.slotS n).mainOn = false ∧ (u.slotS n).ramping = none ∧ (u.slotS n).linkUp = false ∧
    (u.slotS n).latched = false ∧ (u.slotS n).retryAt = some (max s.now t + sNs)

/-! ### Protected messages (16 R568, R569) -/

/-- A message with guard `g` in session `sess`, which is `x`, passes the checks of R569. -/
abbrev State.hears (s : State) (sess : Nat) (g : Guard) (x : Session) : Prop :=
  s.session? sess = some x ∧ x.transport ≠ .can ∧ (x.transport = .udp → s.udpOn = true) ∧ x.rx < g.counter ∧ g.tagOk = true

/-- The session as an accepted message with guard `g` at time `t` leaves it. -/
def State.heard (s : State) (t : Nat) (g : Guard) (x : Session) : Session := { x with rx := g.counter, lastAt := max s.now t }

/-! ### Firmware -/

/-- The running image has been confirmed: it is the fallback image, and its trial is over (17 R601). -/
abbrev State.confirmed (s u : State) : Prop :=
  u.fw.fallback = some s.fw.running ∧ u.fw.trial = false ∧ u.fw.trialBoots = 0 ∧ u.ob 0x2300 4 = 0 ∧ u.ob 0x2300 5 = 0 ∧
    u.ob 0x2300 3 = max (s.ob 0x2300 3) s.fw.running.svn ∧ u.dict.changes = 0 ∧
    u.told .firmwareConfirmed [s.fw.running.version]

/-- The activation has been cancelled: state 5, no due time, admission open, and an event (17 R605). -/
abbrev State.cancelled (s u : State) : Prop :=
  u.ob 0x2302 6 = 5 ∧ u.ob 0x2302 0xB = 0 ∧ u.ob 0x2302 1 = 0 ∧ u.fw.goal = none ∧ u.fw.drainAt = none ∧
    u.pwr.flushAll = false ∧ u.told .activationCancelled [s.ob 0x2302 5]

/-! ### Kinds of command -/

/-- Commands of the input switch, the storm warning, the thermal shutdown and the boot: they act whether or not the rails are on. -/
def runsUnpowered : Instr → Bool
  | .stormWarning .. | .vaultCopyComplete .. | .holdupPathTrip .. | .copyCutOff .. | .vinQualified ..
  | .inputPowerGood .. | .inrushFaultTimer .. | .earlyShort .. | .inputSquallTrip .. | .overvoltageLockout ..
  | .overvoltageRelease .. | .undervoltageLockout .. | .inputRetry .. | .stormRestart .. | .thermalShutdown ..
  | .thermalRestart .. | .boot .. => true
  | _ => false

/-- Commands that tell of the level of an input, or of a near link that trains: the level is followed while the module does not run. -/
def followsPin : Instr → Bool
  | .cagePresenceChange .. | .managementSidebandChange .. | .yieldInAssert .. | .yieldInDeassert .. | .npPerstDeassert ..
  | .nearPortLinkUp .. | .npReset .. => true
  | _ => false

/-- The configuration requests of a near host, which a port answers while the module boots (12 R407). -/
def asksConfig : Instr → Bool
  | .npConfigRequest .. => true
  | _ => false

/-- Commands that complete a transfer and may write module memory. -/
def movesData : Instr → Bool
  | .cellArrival .. | .resequencerTimeout .. | .npCompletion .. | .npBar2Access .. | .dmaDescriptorComplete .. | .slotCompletion .. | .completionTimeout .. => true
  | _ => false

/-- Commands that may set the core voltage while the rails are on: the trim loop, and what can leave the core unverified (02 R55). -/
def setsVoltage : Instr → Bool
  | .alonardWrite .. | .barometerSample .. | .barometerStatusWrite .. | .trimLoopPeriod .. | .objectWrite ..
  | .sdoRequest .. | .usdoRequest .. | .mailboxDoorbell .. => true
  | _ => false

/-- What the module sends when it raises an event: to subscribed sessions, on the CAN port, and a near port's vector. -/
def Out.tellsEvent : Out → Bool
  | .eventMessage .. | .emcy .. | .msix .. => true
  | _ => false

/-- Every new message in `u` tells of an event: nothing was answered. -/
abbrev State.silentReply (s u : State) : Prop := ∀ o ∈ u.out, o ∈ s.out ∨ Out.tellsEvent o = true

/-- Session `sess` is as it was, but for the count of messages sent in it. -/
abbrev State.sameSession (s u : State) (sess : Nat) : Prop :=
  (u.session? sess).map (fun x : Session => { x with tx := 0 }) = (s.session? sess).map fun x : Session => { x with tx := 0 }

/-- The message of session `sess` with guard `g` is discarded (16 R569): its session is unknown or none of the protocol, its counter is
not above the last one, or its tag fails. -/
def State.discards (s : State) (sess : Nat) (g : Guard) : Prop :=
  match s.session? sess with
  | none => True
  | some x => x.transport = .can ∨ g.counter ≤ x.rx ∨ g.tagOk = false

end Sys2Proof.Machine
end

