-- ==== Sys2Proof/Certificates/Slice0/Obligations.lean ====
section
/-! DEFINITION. The statements for the provers. Where a statement says which parts of the state a command may change, `s.logged u` is
the state before with the time, objects, logs, outputs, sessions and free values of the state after. -/

open Sys2Proof Sys2Proof.Machine

/-- The model's choice (log entry 1): time passes only with commands, so a step of a state without waiting commands answers that state. -/
def Obligations.EmptyQueueIdles : Prop :=
  ∀ s : State, s.pending = [] → step s = .next s

/-- In the reset state no command waits, module memory is in canonical form and lists nothing, the core voltage is at the 0.82 V ceiling, no session, controller, queue pair or transfer exists, and the CAN port is operational. That the rails are on and the module serves in solo mode is the model's choice (log entry 2). -/
def Obligations.ResetState : Prop :=
  State.reset.pending = [] ∧ State.reset.memoryOk ∧ State.reset.hbm = [] ∧ State.reset.railOk ∧ State.reset.vcore = 8200 ∧
    State.reset.sess.tbl = [] ∧ State.reset.sess.can.nmt = .operational ∧ State.reset.nvme.ctrls = [] ∧
    State.reset.nvme.cmds = [] ∧ State.reset.rdma.qps = [] ∧ State.reset.dma = [] ∧ State.reset.fab.onPlane = [] ∧
    State.reset.railsOn ∧ State.reset.twin.twinMode = false

/-- For every command and state, exec answers a next state. The model's choice (log entry 122): where the operands name a unit that the module does not have, the next state is the one before with the time moved on. -/
def Obligations.WellFormedCompletes : Prop :=
  ∀ (i : Instr) (s : State), ∃ u, exec i s = .next u ∧ (Instr.wf i = false → u = { s with now := u.now })

/-- Whatever a command does, the commands that wait stay as they are, and module time does not go back (log entry 1). -/
def Obligations.QueueAndTime : Prop :=
  ∀ (i : Instr) (s u : State), exec i s = .next u → u.pending = s.pending ∧ s.now ≤ u.now

/-- In every state whose core voltage lies in the trim range and on its steps, every step keeps it there (02 R57): the trim loop, an emergency step, the unverified state, a boot and every other command. -/
def Obligations.RailInvariant : Prop :=
  ∀ s u : State, s.railOk → step s = .next u → u.railOk

/-- In every state whose module memory is in canonical form, every step keeps it so: transfers of the DMA engine, completions, accesses of a near host and the loss of HBM. -/
def Obligations.MemoryInvariant : Prop :=
  ∀ s u : State, s.memoryOk → step s = .next u → u.memoryOk

/-- Every command other than the completion of a DMA descriptor, the completions that bring its data, a near host's access and the commands of the power input leaves every byte of module memory as it was. -/
def Obligations.ModuleMemoryKept : Prop :=
  ∀ (i : Instr) (s u : State), movesData i = false → runsUnpowered i = false → exec i s = .next u →
    ∀ a, Memory.read u.hbm a = Memory.read s.hbm a

/-- Every command other than those of the trim loop and the barometers, the general writes of a session, of the mailbox and over CAN, and the commands of the power input leaves the core voltage as it was. -/
def Obligations.CoreVoltageKept : Prop :=
  ∀ (i : Instr) (s u : State), setsVoltage i = false → runsUnpowered i = false → exec i s = .next u → u.vcore = s.vcore

/-- While every rail but housekeeping is off or the module is in reset, a command that is none of the power input, the shutdown, the boot, an input's level and a near host's configuration request changes nothing but the time (15 R540, log entry 2). An input's level and a near link's training are followed and change nothing else, and a port that is not ready answers a configuration request and does nothing more (12 R407). -/
def Obligations.OffOnlyTimePasses : Prop :=
  ∀ (i : Instr) (s u : State), s.pwr.off = true → s.railOk → runsUnpowered i = false → exec i s = .next u →
    (followsPin i = false → asksConfig i = false → u = { s with now := u.now }) ∧
    (followsPin i = true → u = { s with now := u.now, eth := u.eth, land := u.land, np := u.np, twin := u.twin }) ∧
    (asksConfig i = true → (∀ p < 2, (s.nport p).ready = false) → u = { s with now := u.now, out := u.out })

/-- An extend doorbell sets Hops to 0. In state 1 it sets Doorbell pending, and a channel with a pending doorbell reads again once when it would stop. In state 2 or 3 it returns the channel to state 1 and reads the descriptor at which the channel stopped. In states 0, 4 and 5 it does nothing and is counted in 5341h:09. -/
def Obligations.ExtendDoorbell : Prop :=
  ∀ (s : State) (t c : Nat), s.railsOn → c < 64 →
    ((s.chan c).state = 1 →
      Done (.dmaExtend t c) s fun u => u = (s.at t).setChan c { s.chan c with hops := 0, pending := true }) ∧
    ((s.chan c).state = 2 ∨ (s.chan c).state = 3 →
      Done (.dmaExtend t c) s fun u =>
        u = (s.at t).setChan c { s.chan c with hops := 0, state := 1, fetching := some (max s.now t) }) ∧
    ((s.chan c).state = 0 ∨ (s.chan c).state = 4 ∨ (s.chan c).state = 5 →
      Done (.dmaExtend t c) s fun u => u = (s.at t).bump 0x5341 c 9) ∧
    (∀ d w, (s.chan c).state = 1 → (s.chan c).pending = true → (s.chan c).fetching = some w → s.dmaMayFetch c = true →
      (s.chan c).own = none → s.ob 0x5305 2 = 0 → (s.chan c).follow = false → dGen d ≠ (s.chan c).e → (s.chan c).work = [] →
      Done (.dmaDescriptorFetched t c d true) s fun u =>
        (u.chan c).state = 1 ∧ (u.chan c).pending = false ∧ (u.chan c).fetching = some (max s.now t) ∧
        (u.chan c).cur = (s.chan c).cur ∧ (u.chan c).park = none) ∧
    (∀ d w, (s.chan c).state = 1 → (s.chan c).pending = true → (s.chan c).fetching = some w → s.dmaMayFetch c = true →
      (s.chan c).own = none → s.ob 0x5305 2 = 0 → (s.chan c).follow = true → dEnd d = true → (s.chan c).work = [] →
      Done (.dmaDescriptorFetched t c d true) s fun u =>
        (u.chan c).state = 1 ∧ (u.chan c).pending = false ∧ (u.chan c).fetching = some (max s.now t) ∧
        (u.chan c).cur = (s.chan c).cur ∧ (u.chan c).park = none)

/-- The port is operational from its boot-up message on: in the reset state and after either NMT reset. NMT Stop halts SDO, USDO and EMCY while events are still logged. The NMT resets end the CAN session with its stages, restart the communication state and change nothing else; they never reset the module. -/
def Obligations.NmtRules : Prop :=
  State.reset.sess.can.nmt = .operational ∧
  ∀ (s : State) (t : Nat), s.railsOn → s.railOk →
    (s.sess.can.conflict = false →
      Done (.nmtResetNode t) s fun u =>
        Out.canHeartbeat (s.ob 0x1100 1) 0 ∈ u.out ∧ u.sess = { s.sess with tbl := Tbl.erase s.sess.tbl 1, can := {} } ∧
        u = { (s.at t) with sess := u.sess, out := u.out } ∧ u.railsOn) ∧
    (s.sess.can.conflict = false →
      Done (.nmtResetCommunication t) s fun u =>
        Out.canHeartbeat (s.ob 0x1100 1) 0 ∈ u.out ∧ u.sess = { s.sess with tbl := Tbl.erase s.sess.tbl 1, can := {} } ∧
        u = { (s.at t) with sess := u.sess, out := u.out } ∧ u.railsOn) ∧
    (Done (.nmtStop t) s fun u => u.sess.can.nmt = .stopped ∧ u = (s.at t).setCan { s.sess.can with nmt := .stopped }) ∧
    (s.sess.can.nmt = .stopped →
      (∀ req, Done (.sdoRequest t req) s fun u => u = s.at t) ∧
      (∀ req, Done (.usdoRequest t req) s fun u => u = s.at t) ∧
      (∀ e co data, ((s.logEvent e co data).told e data) ∧
        ∀ c w k r x, Out.emcy c w k r x ∈ (s.logEvent e co data).out → Out.emcy c w k r x ∈ s.out))

/-- A protected message whose session is unknown, whose counter is not above the last accepted one or whose tag fails changes no object's value by its content, leaves its session as it was and is answered by nothing. A session without an accepted message for 1120h:03 ends with Error reason 5, and its stages with it. -/
def Obligations.DiscardedMessages : Prop :=
  ∀ (s : State) (t sess : Nat) (g : Guard), s.railsOn → (∀ e ∈ s.sess.tbl, s.mustEnd e.2 = false) →
    (s.discards sess g →
      (∀ account ok auth, Done (.authenticate t sess g account ok auth) s fun u => s.silentReply u ∧ s.sameSession u sess) ∧
      (∀ request items, Done (.alonardRead t sess g request items) s fun u => s.silentReply u ∧ s.sameSession u sess) ∧
      (∀ request items, Done (.alonardWrite t sess g request items) s fun u => s.silentReply u ∧ s.sameSession u sess) ∧
      (∀ lowest mask, Done (.subscribe t sess g lowest mask) s fun u => s.silentReply u ∧ s.sameSession u sess) ∧
      (Done (.keepalive t sess g) s fun u => s.silentReply u ∧ s.sameSession u sess) ∧
      (Done (.close t sess g) s fun u => s.silentReply u ∧ s.sameSession u sess)) ∧
    (∀ x, s.session? sess = some x → x.transport ≠ .can → x.lastAt + s.ob 0x1120 3 * sNs ≤ max s.now t →
      Done (.sessionIdleTimeout t sess) s fun u => u.session? sess = none ∧ Out.alonardError x.address 5 ∈ u.out)

/-- For every state and command, step of the state with the command at the front of its queue is exec of the command on the state with the queue's rest. -/
def Obligations.StepRunsFront : Prop :=
  ∀ (s : State) (c : Instr) (rest : List Instr),
    step { s with pending := c :: rest } = exec c { s with pending := rest }

/-- Each command of the self-timed core completes with its effect: samples enter their records, the status and the set points take what is written, statistics are cleared and computed, the hold ends. Parts of the state that are not named stay. -/
def Obligations.CoreTimingActs : Prop :=
  ∀ (s : State) (t : Nat), s.railsOn →
    (∀ samples, samples.length = 64 →
      Done (.barometerSample t samples) s fun u =>
        (∀ n < 64, u.barSamples n = (samples.getD n 0 :: s.barSamples n).take 100) ∧ u = { s.logged u with core := u.core, vcore := u.vcore }) ∧
    (∀ sess n v, n < 64 → (s.at t).mayWrite sess 0x2012 (n + 1) (.nat v) = true → barometerStatusCode n v s = 0 →
      Done (.barometerStatusWrite t sess n v) s fun u =>
        (s.barStatus n ≠ 1 → u.barStatus n = v) ∧ u.answered sess 0 ∧ u = { s.logged u with core := u.core, np := u.np, vcore := u.vcore }) ∧
    (∀ sess n, n < 64 → (s.session? sess).isSome = true →
      Done (.barometerSlowestRead t sess n) s fun u =>
        Out.reply sess 0 (some (.nat (s.ob 0x2011 (n + 1)))) ∈ u.out ∧
        u.ob 0x2011 (n + 1) = (s.barSamples n).headD 0 ∧ u = { s.logged u with np := u.np }) ∧
    (∀ powerMw tj, Done (.trimLoopPeriod t powerMw tj) s fun u =>
        u.val 0x2006 0 0 = .int tj ∧ u.railOk ∧ (s.ob 0x2002 6 = 1 → u.vcore = 8200) ∧ u = { s.logged u with core := u.core, vcore := u.vcore }) ∧
    ((s.at t).inHold = false → Done (.emergencyHoldExpiry t) s fun u =>
        u = { s.at t with core := { s.core with lastEmergency := none } }) ∧
    (∀ sess v, (s.at t).mayWrite sess 0x2000 0 (.nat v) = true → Done (.operatingPointWrite t sess v) s fun u =>
        u.ob 0x2000 0 = v ∧ u.answered sess 0 ∧ s.otherObjects u [objKey 0x2000 0 0] ∧ u = { s.logged u with np := u.np }) ∧
    (∀ sess v, (s.at t).mayWrite sess 0x2002 2 (.nat v) = true → Done (.coreVoltagePinWrite t sess v) s fun u =>
        u.ob 0x2002 2 = v ∧ u.ob 0x2002 5 = 0 ∧ u.answered sess 0 ∧
        s.otherObjects u [objKey 0x2002 0 2, objKey 0x2002 0 5] ∧ u = { s.logged u with core := u.core, np := u.np }) ∧
    (∀ chargeFj leakageFj controlFj, Done (.energyWindowEnd t chargeFj leakageFj controlFj) s fun u =>
        u.val 0x2021 0 3 = .real (if s.windowCells = 0 then 0
          else ((chargeFj + leakageFj + controlFj : Nat) : Rat) / ((1152 * s.windowCells : Nat) : Rat) / 1000) ∧ u.windowCells = 0 ∧ u = { s.logged u with core := u.core, fab := u.fab }) ∧
    (∀ sess, (s.at t).mayWrite sess 0x2020 6 (.nat 1) = true → Done (.clearTransitStatistics t sess 1) s fun u =>
        u.val 0x2020 0 3 = .real 0 ∧ u.ob 0x2020 7 = 0 ∧ u.answered sess 0 ∧ u = { s.logged u with np := u.np }) ∧
    (∀ sess, (s.at t).mayWrite sess 0x2021 6 (.nat 1) = true → Done (.clearEnergyStatistics t sess 1) s fun u =>
        u.val 0x2021 0 2 = .real 0 ∧ u.ob 0x2021 7 = 0 ∧ u.answered sess 0 ∧ u = { s.logged u with np := u.np })

/-- Each command of the cell fabric completes with its effect: a cell is put on the plane chosen, delivered in order or declared lost, a faulty plane loses its cells, epochs advance, a flush ends, mirroring and sampling are set and read. -/
def Obligations.FabricActs : Prop :=
  ∀ (s : State) (t : Nat), s.railsOn →
    (∀ f b b' p, isFlow f = true → s.nextBody f b = some b' →
      ¬ (f.dst < 8 ∧ (s.portUp (f.dst * 4 + f.sub) = false ∨ (s.srcFlow f).flushDue.isSome = true)) →
      s.withheld f.src f.dst = false → s.pickPlane (s.srcFlow f).planes f.dst f.cls (Tbl.get 0 s.fab.rr f.src) = some p →
      Done (.cellSend t f b) s fun u => ∃ probe,
        u.planeCells p f.dst f.cls =
          s.planeCells p f.dst f.cls ++ [⟨f, (s.srcFlow f).epoch, (s.srcFlow f).next, probe, b'⟩] ∧
        (u.srcFlow f).next = (s.srcFlow f).next + 1 ∧ u = { s.logged u with core := u.core, fab := u.fab, eth := u.eth, rdma := u.rdma, nvme := u.nvme, sched := u.sched, meter := u.meter }) ∧
    (∀ f b b', isFlow f = true → s.nextBody f b = some b' → f.dst < 8 →
      (s.portUp (f.dst * 4 + f.sub) = false ∨ (s.srcFlow f).flushDue.isSome = true) →
      Done (.cellSend t f b) s fun u =>
        u.o 0x2104 (f.dst * 4 + f.sub) 0xA = satAdd (s.o 0x2104 (f.dst * 4 + f.sub) 0xA) b'.len ∧
        u.fab.onPlane = s.fab.onPlane ∧ u = { s.logged u with core := u.core, fab := u.fab, eth := u.eth, rdma := u.rdma, nvme := u.nvme, sched := u.sched, meter := u.meter }) ∧
    (∀ plane dst flips payload transitPs c, isPlane plane = true → isAttachment dst = true → s.nextCell plane dst = some c →
      headerOk (cellHeader c ^^^ flips) = true → payload ≠ .failed → c.epoch = (s.reseq c.flow).epoch →
      (s.reseq c.flow).ahead c.seq = 0 → (s.reseq c.flow).skipping = false →
      Done (.cellArrival t plane dst ⟨flips, payload⟩ transitPs) s fun u =>
        Out.deliver c ∈ u.out ∧ u.planeCells plane dst c.flow.cls = (s.planeCells plane dst c.flow.cls).drop 1 ∧
        u = { s.logged u with core := u.core, fab := u.fab, eth := u.eth, rdma := u.rdma, nvme := u.nvme, sched := u.sched, meter := u.meter, hbm := u.hbm }) ∧
    (∀ plane dst flips payload transitPs c, isPlane plane = true → isAttachment dst = true → s.nextCell plane dst = some c →
      headerOk (cellHeader c ^^^ flips) = false → c.probe = false →
      Done (.cellArrival t plane dst ⟨flips, payload⟩ transitPs) s fun u =>
        u.o 0x2102 dst 6 = satAdd (s.o 0x2102 dst 6) 1 ∧ u.fab.rsq = s.fab.rsq ∧
        u.planeCells plane dst c.flow.cls = (s.planeCells plane dst c.flow.cls).drop 1 ∧ u = { s.logged u with core := u.core, fab := u.fab, eth := u.eth, rdma := u.rdma, nvme := u.nvme, sched := u.sched, meter := u.meter, hbm := u.hbm }) ∧
    (∀ f t0 gap, isFlow f = true → (s.reseq f).since = some t0 → (s.reseq f).lowest = some gap → 0 < gap →
      s.reseqTimeout ≤ ((max s.now t - t0 : Nat) : Rat) →
      Done (.resequencerTimeout t f) s fun u =>
        u.o 0x2102 f.dst 2 = satAdd (s.o 0x2102 f.dst 2) gap ∧ u = { s.logged u with fab := u.fab, eth := u.eth, rdma := u.rdma, nvme := u.nvme, sched := u.sched, meter := u.meter, hbm := u.hbm }) ∧
    (∀ plane cause, plane < 4 → (∀ q < 4, s.planeStatus q ≠ 1) →
      Done (.planeFault t plane cause) s fun u =>
        u.planeStatus plane = 1 ∧ u.fab.onPlane = s.fab.onPlane.filter (fun e => decide (e.1 / 1024 ≠ plane)) ∧
        (∀ q < 4, q ≠ plane → u.planeStatus q = 0 ∨ u.planeStatus q = s.planeStatus q)) ∧
    (∀ sess plane v, plane < 4 → (s.at t).mayWrite sess 0x2100 (plane + 1) (.nat v) = true → planeStatusCode plane v s = 0 →
      Done (.planeStatusWrite t sess plane v) s fun u =>
        u.planeStatus plane = v ∧ u.answered sess 0 ∧ s.otherObjects u [objKey 0x2100 0 (plane + 1)] ∧ u = { s.logged u with fab := u.fab, np := u.np }) ∧
    (∀ f, isFlow f = true → (s.srcFlow f).due (max s.now t) = true → (s.at t).epochSpaced (s.srcFlow f) = true →
      Done (.epochAdvance t f) s fun u =>
        u = (s.at t).setSrc f { epoch := ((s.srcFlow f).epoch + 1) % 16, next := 0, started := max s.now t, planes := s.planesUp }) ∧
    (∀ p r, p < 32 → Tbl.find? s.fab.flushes p = some r → s.epochsDone p = true → s.step3End p r ≤ max s.now t →
      s.reseqTimeout ≤ ((max s.now t - s.step3End p r : Nat) : Rat) →
      Done (.portFlushComplete t p) s fun u =>
        Tbl.find? u.fab.flushes p = none ∧ u.told .portFlushed [p, u.framesFlushed p - r.frames, u.o 0x2104 p 0xA - r.bytes]) ∧
    (∀ sess v, (s.at t).mayWrite sess 0x2108 0 (.nat v) = true → analysisPortCode v s = 0 →
      Done (.analysisPortWrite t sess v) s fun u =>
        u.ob 0x2108 0 = v ∧ u.answered sess 0 ∧ s.otherObjects u [objKey 0x2108 0 0] ∧ u = { s.logged u with np := u.np }) ∧
    (∀ sess, (s.at t).mayCommit sess 0x2110 mirrorRuleCode = true → Done (.flowMirrorRuleCommit t sess) s fun u =>
        s.committed u sess 0x2110 ∧ s.rowTook u sess 0x2110 [2, 3, 4, 5, 6, 7, 8, 9, 10, 11, 12, 13, 14, 15] ∧
        u = { s.logged u with np := u.np, twin := u.twin }) ∧
    (∀ sess max, (s.session? sess).isSome = true → Done (.samplerRingRead t sess max) s fun u =>
        u.fab.samples = s.fab.samples.drop (min 64 max) ∧ Out.samples sess (s.fab.samples.take (min 64 max)) ∈ u.out ∧
        u = { s.logged u with fab := u.fab })

/-- For every cell whose fields have values that 03 Table 1 admits: the header is 128 bits long, its check holds, each field stands at the bits of Table 1 (a length of 128 as 0), the reserved bit is 0, and two such cells with one header agree in every header field. -/
def Obligations.CellHeaderFields : Prop :=
  ∀ c : Cell, isFlow c.flow = true → c.epoch < 16 → 1 ≤ c.body.len → c.body.len ≤ 128 → c.body.tenant < 4096 → c.body.addr < 2 ^ 48 →
    cellHeader c < 2 ^ 128 ∧ headerOk (cellHeader c) = true ∧
    cellHeader c / 2 ^ 121 % 128 = c.flow.dst ∧ cellHeader c / 2 ^ 114 % 128 = c.flow.src ∧
    cellHeader c / 2 ^ 112 % 4 = c.flow.sub ∧ cellHeader c / 2 ^ 109 % 8 = c.flow.cls ∧
    cellHeader c / 2 ^ 105 % 16 = c.epoch ∧ cellHeader c / 2 ^ 89 % 65536 = c.seq.toNat ∧
    posOfCode (cellHeader c / 2 ^ 87 % 4) = c.body.pos ∧ cellHeader c / 2 ^ 86 % 2 = flagBit c.body.stomp ∧
    cellHeader c / 2 ^ 85 % 2 = flagBit c.probe ∧ cellHeader c / 2 ^ 84 % 2 = flagBit c.body.copy ∧
    cellHeader c / 2 ^ 77 % 128 = c.body.len % 128 ∧ cellHeader c / 2 ^ 65 % 4096 = c.body.tenant ∧
    cellHeader c / 2 ^ 64 % 2 = 0 ∧ cellHeader c / 2 ^ 16 % 2 ^ 48 = c.body.addr ∧
    ∀ d : Cell, isFlow d.flow = true → d.epoch < 16 → 1 ≤ d.body.len → d.body.len ≤ 128 → d.body.tenant < 4096 →
      d.body.addr < 2 ^ 48 → cellHeader c = cellHeader d →
      c.flow = d.flow ∧ c.epoch = d.epoch ∧ c.seq = d.seq ∧ c.probe = d.probe ∧ c.body.pos = d.body.pos ∧
        c.body.stomp = d.body.stomp ∧ c.body.copy = d.body.copy ∧ c.body.len = d.body.len ∧ c.body.tenant = d.body.tenant ∧
        c.body.addr = d.body.addr

/-- Each command of the Ethernet ports' cages, links and flow control completes with its effect: a port mode is set, a cage is read, a link comes up or goes down, frames and PFC are counted, a pause ends, headroom follows the delay, a storm stops obeying the pause. -/
def Obligations.EthernetPortActs : Prop :=
  ∀ (s : State) (t p : Nat), s.railsOn → p < 32 →
    (∀ sess n v, n < 8 → (s.at t).mayWrite sess 0x3000 (n + 1) (.nat v) = true →
      Done (.portModeWrite t sess n v) s fun u => u.ob 0x3000 (n + 1) = v ∧ u.answered sess 0) ∧
    (∀ n, n < 8 → Done (.cagePresenceChange t n true .copper) s fun u =>
      (u.cage n).level = true ∧ (u.cage n).fitted = .copper ∧
      (u.inputFaulty 1 n = false → (u.cage n).present = true ∧ (u.cage n).retryAt = none ∧ u.ob 0x3006 (n + 1) = 1)) ∧
    (∀ n w, n < 8 → (s.cage n).retryAt = some w → w ≤ max s.now t → (s.cage n).present = true →
      Done (.cageReadRetry t n .copper) s fun u =>
        u.ob 0x3006 (n + 1) = 1 ∧ (u.cage n).retryAt = none ∧ (u.cage n).plug = .copper ∧
        s.otherObjects u (objKey 0x3006 0 (n + 1) :: (cagePorts n).map fun q => objKey 0x3002 q 0xC) ∧ u = { s.logged u with eth := u.eth }) ∧
    (s.portExists p = true → s.silent = false → (s.port p).linkUp = false → (s.port p).stormsOff = false →
      (s.port p).flapUntil = none → (s.port p).noCommon = false → s.o 0x3001 p 2 = 1 → s.cageAllows p = true →
      Done (.linkUp t p) s fun u => (u.port p).linkUp = true) ∧
    (∀ cause, s.portExists p = true → (s.port p).linkUp = true →
      Done (.linkDown t p cause) s fun u =>
        (u.port p).linkUp = false ∧ u.o 0x3002 p 0xA = satAdd (s.o 0x3002 p 0xA) 1) ∧
    (∀ w, (s.port p).flapUntil = some w → w ≤ max s.now t →
      Done (.flapHoldExpiry t p) s fun u => u = (s.at t).setPort p { s.port p with flapUntil := none }) ∧
    (∀ f, s.portExists p = true → (s.port p).linkUp = true →
      Done (.frameReceived t p f) s fun u =>
        u.o 0x3003 p 2 = satAdd (s.o 0x3003 p 2) 1 ∧ u.o 0x3003 p 3 = satAdd (s.o 0x3003 p 3) f.length ∧
        (f.length < 64 → u.o 0x3003 p 7 = satAdd (s.o 0x3003 p 7) 1)) ∧
    (∀ smac en quanta, s.portExists p = true → (s.port p).linkUp = true →
      Done (.pfcFrameReceived t p smac en quanta) s fun u =>
        (u.port p).pfcMac = smac ∧ (u.port p).partnerMac = smac ∧
        ∀ k < 8, u.o 0x3004 p (2 + k) = if bit en k then satAdd (s.o 0x3004 p (2 + k)) 1 else s.o 0x3004 p (2 + k)) ∧
    (s.portExists p = true → (s.port p).linkUp = true →
      Done (.pauseFrameReceived t p) s fun u => u = (s.at t).bump 0x3004 p 0xC) ∧
    (∀ k w, k < 8 → Tbl.find? (s.port p).pausedUntil k = some w → w ≤ max s.now t →
      Done (.pfcPauseExpiry t p k) s fun u =>
        Tbl.find? (u.port p).pausedUntil k = none ∧ Tbl.find? (u.port p).pausedSince k = none) ∧
    (∀ k t0, k < 8 → Tbl.find? (s.port p).xoffSent k = some t0 →
      t0 + 65535 * 256 / max 1 (s.rate p) ≤ max s.now t → s.lineBusy p →
      Done (.pfcRefresh t p k) s fun u =>
        Tbl.find? (u.port p).xoffSent k = some (max s.now t) ∧ (u.eg p).pfcQ = (s.eg p).pfcQ ++ [(k, 0xFFFF)] ∧
        u = { s.logged u with eth := u.eth, sched := u.sched }) ∧
    (s.ctlWaits p → (∀ t0, (s.port p).delaySent = some t0 → t0 + s.ob 0x3021 1 * msNs ≤ max s.now t) →
      Done (.pdelayReqInterval t p) s fun u =>
        (u.port p).delayOutstanding = true ∧ (u.port p).delaySent = some (max s.now t) ∧
        (u.eg p).queues = (s.ctlEg t p 72 .pdelayReq).queues ∧ u = { s.logged u with eth := u.eth, sched := u.sched }) ∧
    (s.ctlWaits p → s.ob 0x2108 0 ≠ p →
      Done (.pdelayReqReceived t p) s fun u => (u.eg p).queues = (s.ctlEg t p 72 .pdelayResp).queues ∧ u = { s.logged u with eth := u.eth, sched := u.sched }) ∧
    (∀ d, (s.port p).delayOutstanding = true → s.ob 0x2108 0 ≠ p →
      Done (.pdelayRespReceived t p d) s fun u =>
        (u.port p).delayOutstanding = false ∧
        (u.port p).delays = (decide (0 ≤ d ∧ d ≤ 10000000) :: (s.port p).delays).take 16 ∧
        (u.port p).kept = (if 0 ≤ d ∧ d ≤ 10000000 then (d :: (s.port p).kept).take 16 else (s.port p).kept) ∧ u = { s.logged u with eth := u.eth }) ∧
    (∀ k vals, k < 8 → s.lossless p k = true →
      vals = (recentH (max s.now t) (Tbl.get [] (s.port p).computed k)).map Prod.snd → vals ≠ [] →
      (∀ v ∈ vals, v < s.headroomSet p k) →
      s.occupied p k true = 0 → s.occupied p k false <
        (s.setPort p { s.port p with headroom := Tbl.set (s.port p).headroom k (maxNat vals) }).xoff p →
      Done (.headroomDecrease t p k) s fun u => u.headroomSet p k = maxNat vals ∧ u = { s.logged u with eth := u.eth }) ∧
    (∀ k t0 w, k < 8 → Tbl.find? (s.port p).pausedSince k = some t0 → Tbl.find? (s.port p).pausedUntil k = some w →
      s.lossless p k = true → t0 + s.o 0x3001 p 0xC * msNs + (512 + s.rate p - 1) / max 1 (s.rate p) ≤ max s.now t →
      t0 + s.o 0x3001 p 0xC * msNs ≤ w →
      Done (.pauseStorm t p k) s fun u =>
        Tbl.find? (u.port p).pausedUntil k = none ∧
        Tbl.find? (u.port p).stormUntil k = some (max s.now t + s.o 0x3001 p 0xD * msNs) ∧
        u.o 0x3004 p 0xD = satAdd (s.o 0x3004 p 0xD) 1) ∧
    (∀ k w, k < 8 → Tbl.find? (s.port p).stormUntil k = some w → w ≤ max s.now t →
      Done (.pauseRecoveryEnd t p k) s fun u =>
        u = (s.at t).setPort p { s.port p with stormUntil := Tbl.erase (s.port p).stormUntil k })

/-- A commit of the port settings or of an interface stores the staged row; ARP requests, neighbour solicitations, echo requests and LLDP are answered or sent with a control frame; auto-negotiation opens or keeps a link down; the end of a frame frees the line. -/
def Obligations.EthernetPortSettings : Prop :=
  ∀ (s : State) (t p : Nat), s.railsOn → p < 32 →
    (∀ sess, (s.at t).mayCommit sess 0x3001 portSettingsCode = true → 
      Done (.portSettingsCommit t sess) s fun u =>
        s.committed u sess 0x3001 ∧ s.rowTook u sess 0x3001 [2, 3, 4, 5, 6, 7, 8, 9, 0xA, 0xB, 0xC, 0xD, 0xE, 0xF]) ∧
    (∀ sess, (s.at t).mayCommit sess 0x3040 interfaceCode = true → s.paired = false → s.rowsWith 0x3220 2 1 = [] → 
      Done (.interfaceCommit t sess) s fun u =>
        s.committed u sess 0x3040 ∧ s.rowTook u sess 0x3040 [2, 3, 4, 5, 6, 7, 8]) ∧
    (∀ ip, s.ctlWaits p → s.ob 0x2108 0 ≠ p → isV4 ip = true → (s.interfaceOf p ip).isSome = true →
      Done (.arpRequestReceived t p ip) s fun u =>
        (u.eg p).queues = (s.ctlEg t p 64 (.arpReply ip)).queues ∧ u = { s.logged u with eth := u.eth, sched := u.sched }) ∧
    (∀ ip, s.ctlWaits p → s.ob 0x2108 0 ≠ p → isV4 ip = false → (s.interfaceOf p ip).isSome = true →
      Done (.neighbourSolicitationReceived t p ip) s fun u =>
        (u.eg p).queues = (s.ctlEg t p 90 (.neighbourAdvert ip)).queues ∧ u = { s.logged u with eth := u.eth, sched := u.sched }) ∧
    (∀ ip len, s.ctlWaits p → s.ob 0x2108 0 ≠ p → (s.interfaceOf p ip).isSome = true →
      (within (max s.now t) sNs (s.port p).echoTimes).length < 100 →
      Done (.echoRequestReceived t p ip len) s fun u =>
        (u.port p).echoTimes = max s.now t :: within (max s.now t) sNs (s.port p).echoTimes ∧
        (u.eg p).queues = (s.ctlEg t p len (.echoReply ip)).queues ∧ u = { s.logged u with eth := u.eth, sched := u.sched }) ∧
    (s.ctlWaits p → s.ob 0x3030 1 = 1 →
      (∀ t0, (s.port p).lldpSent = some t0 → t0 + s.ob 0x3030 2 * sNs ≤ max s.now t) →
      Done (.lldpTransmit t p) s fun u => ∃ len, 64 ≤ len ∧ len ≤ 1518 ∧
        (u.port p).lldpSent = some (max s.now t) ∧
        (u.eg p).queues = (s.ctlEg t p len (.lldp (s.lldpdu p))).queues ∧ u = { s.logged u with eth := u.eth, sched := u.sched }) ∧
    (∀ v chassis smac, s.portExists p = true → (s.port p).linkUp = true →
      Done (.lldpduReceived t p (some v) chassis smac) s fun u =>
        (u.port p).chassis = chassis % 2 ^ 128 ∧ (u.port p).partnerMac = smac ∧ u.o 0x3002 p 0xB = v % 256 ∧
        (v % 256 ≠ s.o 0x3001 p 9 → u.told .pfcMismatch [p, v % 256]) ∧ u = { s.logged u with eth := u.eth }) ∧
    (∀ common lpi, s.portExists p = true → (s.port p).linkUp = false → s.phyType p ≠ 3 →
      Done (.autoNegotiationComplete t p ⟨common, lpi⟩) s fun u =>
        u.port p = { s.port p with noCommon := !common } ∧
        u.o 0x3002 p 0xC = (if common && lpi && decide (s.o 0x3001 p 0xB ≠ 0) then 1 else 0) ∧
        s.otherObjects u [objKey 0x3002 p 0xC] ∧ u = { s.logged u with eth := u.eth }) ∧
    ((s.eg p).queues = [] → (s.eg p).pfcQ = [] → s.ob 0x2108 0 ≠ p →
      Done (.egressFrameEnd t p) s fun u => u.eg p = { s.eg p with onLine := none } ∧ u = { s.logged u with eth := u.eth, sched := u.sched })

/-- Each PTP command completes with its effect: an announce is taken, a sync sets the offset, delay answers set the path delay, a missing announce fails over, the primary port returns, holdover runs out. -/
def Obligations.PtpActs : Prop :=
  ∀ (s : State) (t p : Nat), s.railsOn → p < 32 →
    (∀ a, s.ptpOn p = true → s.ptpHears p a.domain = true →
      Done (.ptpAnnounceReceived t p a) s fun u =>
        (Tbl.find? u.ptp.foreign a.sender).map Foreign.ann = some a ∧ u.ptp.lastAnnounce = some (max s.now t) ∧
        u.ptp.best = (((s.ptp.hear (max s.now t) a).chosen (max s.now t)).orElse fun _ => s.ptp.best) ∧
        (∀ b, (s.ptp.hear (max s.now t) a).chosen (max s.now t) = some b →
          u.ptp.utc = b.utcOffset ∧ u.val 0x3020 0 0xA = .oct 8 (b.grandmaster % 2 ^ 64)) ∧
        s.otherObjects u [objKey 0x3020 0 0xA] ∧ u = { s.logged u with ptp := u.ptp }) ∧
    (∀ domain sender off, s.fromMaster p domain sender = true →
      Done (.ptpSyncReceived t p ⟨domain, sender, off⟩ true) s fun u =>
        u = { s.at t with ptp := { s.ptp with pendingSync := true } }) ∧
    (∀ domain sender off, s.fromMaster p domain sender = true →
      Done (.ptpSyncReceived t p ⟨domain, sender, off⟩ false) s fun u =>
        u.val 0x3020 0 8 = .int (max (-2147483648) (min 2147483647 off)) ∧ u.ptp.pendingSync = false ∧
        u.ptp.holdoverSince = none) ∧
    (∀ domain sender off, s.fromMaster p domain sender = true → s.ptp.pendingSync = true →
      Done (.ptpFollowUpReceived t p ⟨domain, sender, off⟩) s fun u =>
        u.val 0x3020 0 8 = .int (max (-2147483648) (min 2147483647 off)) ∧ u.ptp.pendingSync = false) ∧
    (s.ob 0x3020 4 = 1 → s.ptpOn s.ptpPort = true → s.ptp.best.isSome = true → s.ctlWaits s.ptpPort →
      Done (.ptpDelayReqSend t) s fun u =>
        u.ptp = { s.ptp with delayReqOut := true } ∧
        (u.eg s.ptpPort).queues = (s.ctlEg t s.ptpPort (delayReqLen (s.ob 0x3020 5)) .delayReq).queues ∧
        u = { s.logged u with ptp := u.ptp, eth := u.eth, sched := u.sched }) ∧
    (∀ domain sender d, s.fromMaster p domain sender = true → s.ptp.delayReqOut = true →
      Done (.ptpDelayRespReceived t p ⟨domain, sender, d⟩) s fun u =>
        u = { s.at t with ptp := { s.ptp with delayReqOut := false } }.setVal 0x3020 0 9 (.real (d : Rat))) ∧
    (s.ptp.lastAnnounce.getD s.ptp.listenFrom + 3 * s.ptp.announceNs ≤ max s.now t → s.ob 0x3020 1 = 1 →
      s.ptp.standby = false → s.ob 0x3020 3 ≠ 0xFF → s.ptpUsable (s.ob 0x3020 3) = true →
      Done (.ptpAnnounceTimeout t) s fun u => u.ptp.standby = true ∧ u.ptp.best = none ∧ s.otherObjects u [] ∧ u = { s.logged u with ptp := u.ptp }) ∧
    (∀ g l, s.ptp.primaryGoodSince = some g → s.ptp.primaryLast = some l → s.ptp.standby = true →
      s.ptpUsable (s.ob 0x3020 2) = true → g + 10 * sNs ≤ max s.now t → max s.now t < l.1 + 3 * l.2 →
      Done (.ptpPortReturn t) s fun u =>
        u.ptp.standby = false ∧ u.ptp.best = none ∧ u.ptp.primaryGoodSince = none ∧ s.otherObjects u [] ∧ u = { s.logged u with ptp := u.ptp }) ∧
    (∀ h, s.ptp.holdoverSince = some h → s.ob 0x3020 7 = 3 → h + s.ob 0x3020 0xC * sNs ≤ max s.now t →
      Done (.holdoverLimitExpiry t) s fun u => u.ob 0x3020 7 = 4)

/-- CM_REQ completes (R156 to R162): a request that names a listener, passes the checks and finds a free index makes a queue pair ready to receive, and where a control frame waits at the port its REP waits there. CM_RTU completes (R159): it opens the send gate of a queue pair in RTR. -/
def Obligations.QpConnects : Prop :=
  ∀ (s : State) (t i : Nat), s.railsOn → i < 131072 →
    (∀ port r row l mtu, port < 32 → s.portServes port = true →
      (∀ e ∈ s.rdma.qps, ¬ (e.2.commId = r.localCommId ∧ e.2.remoteIp = r.srcIp ∧ (e.2.state = 1 ∨ e.2.state = 2))) →
      s.interfaceOf port r.destIp = some row → s.listenerOf row r.serviceId = some l →
      (s.offender r.srcIp).until_ = none → s.privStatus r (s.o 0x3240 l 5) = 0 → s.pathMtu port r.mtu = some mtu →
      s.freeIndex = some i → s.o 0x3240 l 6 ≠ 0 ∨ s.pinnedIn (sliceOf i) < s.ob 0x3100 8 →
      Done (.cmReq t port r) s fun u =>
        (u.qp i).state = 1 ∧ (u.qp i).remoteIp = r.srcIp ∧ (u.qp i).remoteQpn = r.remoteQpn ∧ (u.qp i).port = port ∧
        (u.qp i).mtu = mtu ∧ (u.qp i).ePsn = r.psn ∧ (u.qp i).rtrAt = max s.now t ∧ (u.qp i).bufs = r.hsqsize + 1 ∧
        (u.qp i).cls = s.o 0x3240 l 6 ∧ u.o 0x3101 i 5 = (if s.o 0x3240 l 6 = 0 then 1 else 0) ∧
        (s.ctlWaits port → ∃ f ∈ Tbl.get [] (u.eg port).queues controlKey,
          f.msg = .ctl (.cmRep r.srcIp (wireQpn i (u.qp i)) (u.qp i).startPsn.toNat 0 (min 16 r.respRes) r.rnrRetry 0 (r.hsqsize + 1)))) ∧
    (∀ qpn, isQpn qpn = true → s.qpnIndex qpn = some i → (s.qp i).state = 1 → (s.qp i).sendQ = [] →
      Done (.cmRtu t qpn) s fun u => u = (s.at t).setQp i { s.qp i with state := 2 })

/-- CM_REJ ends a queue pair in RTR (R159); CM_DREQ takes down one in RTS, which waits four ACK timeouts (R183); CM_DREP ends the wait for it; CM_RESPONSE_TIMEOUT ends a queue pair in RTR and stops waiting for a DREP; QP_INDEX_FREE frees the index and keeps its generation (R154); OFFENDER_LIMIT_EXPIRY ends a limit (R188). -/
def Obligations.QpDisconnects : Prop :=
  ∀ (s : State) (t i : Nat), s.railsOn → i < 131072 →
    (∀ qpn, isQpn qpn = true → s.qpnIndex qpn = some i → (s.qp i).state = 1 →
      Done (.cmRej t qpn) s fun u =>
        Tbl.find? u.rdma.qps i = none ∧ Tbl.find? u.rdma.gens i = some (s.qp i).gen ∧
        s.otherObjects u [objKey 0x3101 i 5, objKey 0x3101 i 0x28] ∧ u = { s.logged u with rdma := u.rdma }) ∧
    (∀ qpn, isQpn qpn = true → s.qpnIndex qpn = some i → (s.qp i).state = 1 ∨ (s.qp i).state = 2 →
      Done (.cmDreq t qpn) s fun u =>
        (u.qp i).state = 4 ∧ (u.qp i).sendQ = [] ∧ (u.qp i).freeAt = some (max s.now t + 4 * s.ackTimeout)) ∧
    (∀ qpn, isQpn qpn = true → s.qpnIndex qpn = some i → (s.qp i).state = 3 →
      Done (.cmDreq t qpn) s fun u =>
        (u.qp i).state = 4 ∧ (u.qp i).dreqAt = none ∧ (u.qp i).freeAt = some (max s.now t + 4 * s.ackTimeout)) ∧
    (∀ qpn, isQpn qpn = true → s.qpnIndex qpn = some i → (s.qp i).state = 3 →
      Done (.cmDrep t qpn) s fun u =>
        u = (s.at t).setQp i
          { s.qp i with state := 4, dreqAt := none, freeAt := some (max s.now t + 4 * s.ackTimeout) }) ∧
    ((s.qp i).state = 1 → (s.qp i).rtrAt + s.ob 0x3100 7 * msNs ≤ max s.now t →
      Done (.cmResponseTimeout t i) s fun u =>
        Tbl.find? u.rdma.qps i = none ∧
        u.told .cmTimeout [wireQpn i (s.qp i), (s.qp i).tenant, (s.qp i).remoteIp, (s.qp i).port] ∧ u = { s.logged u with rdma := u.rdma }) ∧
    (∀ d, (s.qp i).state = 3 → (s.qp i).dreqAt = some d → d + s.ob 0x3100 7 * msNs ≤ max s.now t →
      Done (.cmResponseTimeout t i) s fun u =>
        u = (s.at t).setQp i { s.qp i with state := 4, freeAt := some (max s.now t + 4 * s.ackTimeout) }) ∧
    (∀ w, (s.qp i).freeAt = some w → (s.qp i).state = 4 → w ≤ max s.now t →
      Done (.qpIndexFree t i) s fun u =>
        Tbl.find? u.rdma.qps i = none ∧ Tbl.find? u.rdma.gens i = some (s.qp i).gen ∧ u = { s.logged u with rdma := u.rdma }) ∧
    (∀ ip w, (s.offender ip).until_ = some w → w ≤ max s.now t →
      Done (.offenderLimitExpiry t ip) s fun u =>
        (u.offender ip).until_ = none ∧ u.ob 0x3180 5 = limitedNow u.rdma.offenders ∧
        s.otherObjects u [objKey 0x3180 0 5] ∧ u = { s.logged u with rdma := u.rdma })

/-- Each packet that reaches a queue pair in RTS completes with its effect: the middle of a message is taken in order (R169), a packet whose ICRC is wrong is counted alone (R186), an acknowledgement retires what it covers (R172), an RNR NAK starts its wait, read data advance the read (R174), a CNP is counted and moves alpha (R176, R181). -/
def Obligations.QpPacketActs : Prop :=
  ∀ (s : State) (t i : Nat), s.railsOn → i < 131072 →
    (∀ p, p.port < 32 → s.qpTakes i p → p.op = .sendMiddle → p.psn = (s.qp i).ePsn → sendRow (s.qp i) p = 0 →
      Done (.roceRequestPacket t p) s fun u =>
        (u.qp i).ePsn = p.psn + 1 ∧ (u.qp i).openBytes = some ((s.qp i).openBytes.getD 0 + p.payload) ∧
        (u.qp i).rxCount = satAdd (s.qp i).rxCount 1) ∧
    (∀ p, p.port < 32 → s.portServes p.port = true → p.stomped = false → p.icrcOk = false →
      Done (.roceRequestPacket t p) s fun u => u = (s.at t).bump 0x3122 0 2) ∧
    (∀ p, p.port < 32 → s.qpTakes i p → s.qpPlain i → p.op = .acknowledge → p.syndrome < 32 → (s.qp i).hasSent p.psn = true →
      (s.qp i).sendQ = [] → (s.qp i).resend = [] →
      Done (.roceAck t p) s fun u =>
        (u.qp i).sent = (s.qp i).sent.filter (fun x => !(x.pkt.psn == p.psn || psnBehind x.pkt.psn p.psn)) ∧
        (u.qp i).rxCount = satAdd (s.qp i).rxCount 1) ∧
    (∀ p, p.port < 32 → s.qpTakes i p → s.qpPlain i → p.op = .acknowledge → p.syndrome / 32 = 1 → (s.qp i).hasSent p.psn = true →
      (s.qp i).rnrCount = 7 ∨ (s.qp i).rnrCount ≠ 0 ∧ (s.qp i).rnrRetries ≠ 0 →
      Done (.roceNak t p) s fun u =>
        (u.qp i).nakRx = satAdd (s.qp i).nakRx 1 ∧ (u.qp i).rnrUntil = some (max s.now t + rnrTime p.syndrome) ∧
        (u.qp i).ackTimer = none) ∧
    (∀ p r, p.port < 32 → s.qpTakes i p → s.qpPlain i → p.op = .readRespMiddle → (s.qp i).readOf p.psn = some r →
      r.dropping = false → (p.psn - r.psn).toNat = r.got / max 1 (s.qp i).mtu →
      respFits (s.qp i) r (p.psn - r.psn).toNat p = true → r.got + p.payload < r.len → (s.qp i).sendQ = [] →
      (s.qp i).resend = [] → Tbl.has s.nvme.cmds r.cmd = false →
      Done (.rdmaReadResponse t p) s fun u =>
        (u.qp i).reads = (s.qp i).reads.map fun x =>
          if x.psn = r.psn then { x with got := r.got + p.payload, most := max x.most (r.got + p.payload), dropping := false } else x) ∧
    (∀ p, p.port < 32 → s.qpTakes i p → p.op = .cnp →
      Done (.cnpReceived t p) s fun u =>
        (u.qp i).cnpRx = satAdd (s.qp i).cnpRx 1 ∧ (u.qp i).alphaAt = max s.now t ∧
        (u.qp i).alpha = binary32 ((1 - (s.ob 0x3110 8 : Rat) / 256) * (s.qp i).alpha + (s.ob 0x3110 8 : Rat) / 256))

/-- Each timer of a resident queue pair completes with what it owes: a retry (R172), the end of an RNR wait, the error state once RNR NAKs have lasted too long, a delayed acknowledgement (R170), a message through the open send gate (R177), the decay of alpha (R176), and the event of a window that stood at its floor for 1 s (R185). -/
def Obligations.QpTimerActs : Prop :=
  ∀ (s : State) (t i : Nat), s.railsOn → i < 131072 →
    (∀ w, (s.qp i).ackTimer = some w → w + s.ackTimeout ≤ max s.now t → (s.qp i).state = 2 → (s.qp i).loc = 0 →
      (s.qp i).waiting = true → (s.qp i).rnrUntil = none → (s.qp i).retries ≠ 0 → (∀ x ∈ (s.qp i).sent, x.pkt.src = none) →
      Done (.localAckTimeout t i) s fun u =>
        (u.qp i).retries = (s.qp i).retries - 1 ∧ (u.qp i).ackTimer = some (max s.now t)) ∧
    (∀ w n a, (s.qp i).rnrUntil = some w → w ≤ max s.now t → (s.qp i).rnrFirst = some (n, a) → (s.qp i).state = 2 →
      (s.qp i).loc = 0 → (∀ x ∈ (s.qp i).sent, x.pkt.src = none) →
      Done (.rnrTimerExpiry t i) s fun u => (u.qp i).rnrUntil = none) ∧
    (∀ n w, (s.qp i).rnrFirst = some (n, w) → w + s.ob 0x3100 0xD * sNs ≤ max s.now t → (s.qp i).state = 2 → (s.qp i).loc = 0 →
      Done (.rnrWallTimeExpiry t i) s fun u =>
        (u.qp i).state = 3 ∧ (u.qp i).dreqAt = some (max s.now t) ∧ (u.qp i).sendQ = []) ∧
    (∀ a, (s.qp i).ackSince = some a → a + s.ob 0x3100 3 * 1000 ≤ max s.now t → (s.qp i).loc = 0 → (s.qp i).ackHold = none →
      Done (.ackCoalescingTimeout t i) s fun u =>
        (u.qp i).ackSince = none ∧ (u.qp i).ackCount = 0 ∧ (u.qp i).txCount = satAdd (s.qp i).txCount 1) ∧
    (∀ m, (s.qp i).sendQ = [m] → (s.qp i).gateOpen m = true → m.read = none → s.qpPlain i → s.lineBusy (s.qp i).port →
      Done (.sendGatePass t i) s fun u =>
        (u.qp i).sendQ = [] ∧
        (u.qp i).sent = (s.qp i).sent ++ (numberPkts (s.qp i).nPsn m.pkts).map (keptPkt (max s.now t)) ∧
        (u.qp i).nPsn = (s.qp i).nPsn + BitVec.ofNat 24 m.pkts.length) ∧
    ((s.qp i).state = 1 ∨ (s.qp i).state = 2 → (s.qp i).alphaAt + s.ob 0x3110 9 * 1000 ≤ max s.now t → (s.qp i).loc ≠ 2 →
      Done (.alphaTimerExpiry t i) s fun u =>
        u = (s.at t).setQp i
          { s.qp i with alpha := binary32 ((1 - (s.ob 0x3110 8 : Rat) / 256) * (s.qp i).alpha), alphaAt := max s.now t }) ∧
    (∀ w, (s.qp i).floorSince = some w → w + sNs ≤ max s.now t → (s.qp i).floorEvent = false →
      Done (.windowAtFloor t i) s fun u =>
        u.qp i = { s.qp i with floorEvent := true } ∧
        u.told .windowAtFloor [wireQpn i (s.qp i), (s.qp i).tenant, (s.qp i).remoteIp, (s.qp i).port, (s.qp i).window,
          real32 (s.qp i).alpha, real32 ((s.qp i).srtt.getD 0)] ∧ u = { s.logged u with rdma := u.rdma })

/-- PARKING_START chooses a victim in a slice short of its refetch reserve and moves the hand past it (R163); PARKING_COMMIT moves the context out in one step and is counted (R164), unless it is pinned (R162); CONTEXT_REFETCH_COMPLETE makes it resident again (R166). -/
def Obligations.QpParkingActs : Prop :=
  ∀ (s : State) (t i : Nat), s.railsOn → i < 131072 →
    (∀ sl, sl < 4 → 4096 < s.residentIn sl + s.ob 0x3100 9 →
      (∃ e ∈ s.rdma.qps, sliceOf e.1 = sl ∧ (s.at t).parkable e.1 e.2 = true) →
      Done (.parkingStart t sl) s fun u => ∃ v, sliceOf v = sl ∧ (u.qp v).loc = 2 ∧
        (u.qp v).parkStart = some (max s.now t) ∧ Tbl.find? u.rdma.hands sl = some (v + 4) ∧
        s.otherObjects u [] ∧ u = { s.logged u with rdma := u.rdma }) ∧
    ((s.qp i).loc = 2 → (s.qp i).pin = false →
      Done (.parkingCommit t i) s fun u =>
        u = ((s.at t).setQp i { s.qp i with loc := 1, parkStart := none }).bump 0x3120 (sliceOf i) 4) ∧
    ((s.qp i).loc = 2 → (s.qp i).pin = true → Done (.parkingCommit t i) s fun u => u = s.at t) ∧
    ((s.qp i).loc = 3 → (s.qp i).held = [] → (s.qp i).sendQ = [] → (s.qp i).ackSince = none → (s.qp i).rnrFirst = none →
      (s.qp i).ackTimer = none →
      Done (.contextRefetchComplete t i) s fun u =>
        u.qp i = { s.qp i with loc := 0, parkStart := none, residentSince := max s.now t, held := [] } ∧ u = { s.logged u with rdma := u.rdma })

/-- A commit of a row of 3101h pins the context (R162), pins the window (R179), or forces the queue pair into the error state (R190). -/
def Obligations.QpCommits : Prop :=
  ∀ (s : State) (t : Nat), s.railsOn →
    (∀ sess, (s.at t).mayCommit sess 0x3101 qpCode = true → (s.staged sess 0x3101).n 0x27 ≠ 1 → 
      Done (.qpPinCommit t sess) s fun u =>
        s.committed u sess 0x3101 ∧ s.rowTook u sess 0x3101 [5, 0x28] ∧
        ((u.qp (s.staged sess 0x3101).row).pin = true ↔ (s.staged sess 0x3101).n 5 = 1)) ∧
    (∀ sess, (s.at t).mayCommit sess 0x3101 qpCode = true → (s.staged sess 0x3101).n 0x27 ≠ 1 → 
      Done (.qpWindowPinCommit t sess) s fun u =>
        s.committed u sess 0x3101 ∧ s.rowTook u sess 0x3101 [5, 0x28] ∧
        (u.qp (s.staged sess 0x3101).row).windowPin = (s.staged sess 0x3101).n 0x28) ∧
    (∀ sess, (s.at t).mayCommit sess 0x3101 qpCode = true → (s.staged sess 0x3101).n 0x27 = 1 →
      (s.qp (s.staged sess 0x3101).row).state = 1 ∨ (s.qp (s.staged sess 0x3101).row).state = 2 →
      Done (.qpForceError t sess) s fun u =>
        (u.qp (s.staged sess 0x3101).row).state = 3 ∧ u.answered sess 0)

/-- Each command that is ready on a live queue pair completes with its effect, and its completion entry is on its way there: CONNECT makes a controller or joins an I/O queue to one (R200, R201); the properties read as R202 says; a write of CC is kept but for its reserved bits, and one that clears EN resets the controller (R203); KEEP_ALIVE restarts the timer, and at or past the expiry the controller goes (R204, R231); DISCONNECT is answered, and the queue pair ends once the answer has arrived. -/
def Obligations.ConnectionCommandActs : Prop :=
  ∀ (s : State) (t id i k : Nat), s.railsOn →
    (∀ h sub, s.onQp id i → s.paired = false → (s.cmd id).stage = .ready → (s.cmd id).cap.opcode = 0x7F → (s.cmd id).cap.fctype = 1 →
      (s.qp i).cntlid = none → (s.qp i).privQid = 0 → (s.at t).connectCheck (s.qp i) (s.cmd id).cap = .ok (h, sub) →
      (s.at t).freeCtrl s.ctrlRange.1 s.ctrlRange.2 = some k →
      Done (.connect t id) s fun u =>
        u.ended id i 0 0 k ∧ (u.ctrl k).state = 1 ∧ (u.ctrl k).hostRow = h ∧ (u.ctrl k).adminQp = some i ∧
        (u.ctrl k).kato = roundKato (s.cmd id).cap.kato ∧ (u.qp i).cntlid = some k) ∧
    (∀ h sub, s.onQp id i → s.paired = false → (s.cmd id).stage = .ready → (s.cmd id).cap.opcode = 0x7F → (s.cmd id).cap.fctype = 1 →
      (s.qp i).cntlid = none → (s.qp i).privQid ≠ 0 → (s.at t).connectCheck (s.qp i) (s.cmd id).cap = .ok (h, sub) →
      (s.cmd id).cap.cntlid = k →
      Done (.connect t id) s fun u =>
        u.ended id i 0 0 k ∧ (u.ctrl k).ioQps = (s.ctrl k).ioQps ++ [((s.qp i).privQid, i)] ∧ (u.qp i).cntlid = some k) ∧
    (s.adminOn id i 0x7F k → (s.cmd id).cap.fctype = 4 →
      Done (.propertyGet t id) s fun u =>
        ((s.cmd id).cap.propOffset = 0 → u.ended id i 0 0 capValue) ∧
        ((s.cmd id).cap.propOffset = 8 → u.ended id i 0 0 0x20000) ∧
        ((s.cmd id).cap.propOffset = 0x14 → u.ended id i 0 0 (s.ctrl k).cc) ∧
        ((s.cmd id).cap.propOffset = 0x1C → u.ended id i 0 0 (s.ctrl k).csts) ∧
        ((s.cmd id).cap.propOffset ∉ [0, 8, 0x14, 0x1C] → u.ended id i 0 2 0)) ∧
    (s.adminOn id i 0x7F k → (s.cmd id).cap.fctype = 0 → (s.cmd id).cap.propOffset = 0x14 → ccOk (s.cmd id).cap.value = true →
      (∀ e ∈ (s.ctrl k).ioQps, e.2 ≠ i) →
      Done (.propertySet t id) s fun u => u.ended id i 0 0 0 ∧ (u.ctrl k).cc = ccBits (s.cmd id).cap.value ∧
        ((s.ctrl k).cc % 2 = 1 → (s.cmd id).cap.value % 2 = 0 →
          (u.ctrl k).ioQps = [] ∧ (u.ctrl k).shst = (if (s.cmd id).cap.value / 16384 % 4 = 0 then 0 else 2))) ∧
    (s.adminOn id i 0x18 k →
      ¬ ((s.ctrl k).vf = none ∧ (s.ctrl k).kato ≠ 0 ∧
        (s.ctrl k).lastKeepAlive + (s.ctrl k).kato * msNs ≤ (s.cmd id).arrivedAt) →
      Done (.keepAlive t id) s fun u => u.ended id i 0 0 0 ∧ (u.ctrl k).lastKeepAlive = (s.cmd id).arrivedAt) ∧
    (s.adminOn id i 0x18 k → (s.ctrl k).vf = none → (s.ctrl k).state ≠ 0 → (s.ctrl k).kato ≠ 0 →
      (s.ctrl k).lastKeepAlive + (s.ctrl k).kato * msNs ≤ (s.cmd id).arrivedAt →
      Done (.keepAlive t id) s fun u => Tbl.find? u.nvme.ctrls k = none) ∧
    (k < 65536 → (s.ctrl k).state ≠ 0 → (s.ctrl k).vf = none → (s.ctrl k).kato ≠ 0 →
      (s.ctrl k).lastKeepAlive + (s.ctrl k).kato * msNs ≤ max s.now t →
      Done (.keepAliveExpiry t k) s fun u => Tbl.find? u.nvme.ctrls k = none) ∧
    (s.adminOn id i 0x7F k → (s.cmd id).cap.fctype = 8 → (s.qp i).qid ≠ 0 →
      Done (.disconnect t id) s fun u => u.ended id i 0 0 0 ∧ (u.qp i).ending = some id)

/-- Each admin command that is ready on a live queue pair completes with its effect, and its completion entry is on its way there with the status and the value of R215 to R217: a log page or Identify structure goes to the host where its descriptor takes it, ABORT ends the command it names, features are set and read, an event request is held, FORMAT_NVM starts a crypto-erase (R228). -/
def Obligations.AdminCommandActs : Prop :=
  ∀ (s : State) (t id i k : Nat), s.railsOn →
    (s.adminOn id i 2 k → Done (.getLogPage t id) s fun u =>
      ((s.at t).logPage (s.ctrl k) (s.cmd id).cap.lid = none → u.ended id i 1 9 0) ∧
      (∀ g, (s.at t).logPage (s.ctrl k) (s.cmd id).cap.lid = some g → u.ended id i 0 0 0 ∧
        (∀ d, (s.cmd id).cap.dptr = .keyed d → 0 < d.len → 0 < (s.cmd id).cap.dataLen → u.gave id i g) ∧
        ((s.cmd id).cap.lid = 4 → (u.ctrl k).changedNs = []) ∧
        ((s.cmd id).cap.lid = 0x80 → (u.ctrl k).rsvLog = (s.ctrl k).rsvLog.drop 1))) ∧
    (s.adminOn id i 6 k → Done (.identify t id) s fun u =>
      ((s.cmd id).cap.cns = 1 → u.ended id i 0 0 0 ∧
        ∀ d, (s.cmd id).cap.dptr = .keyed d → 0 < d.len → u.gave id i (s.identifyCtrl k (s.ctrl k))) ∧
      ((s.cmd id).cap.cns = 2 → u.ended id i 0 0 0) ∧
      (∀ r, (s.cmd id).cap.cns = 0 → s.nsNamed (s.ctrl k) (s.cmd id).cap.nsid = .ok r → u.ended id i 0 0 0 ∧
        ∀ d, (s.cmd id).cap.dptr = .keyed d → 0 < d.len → u.gave id i (s.identifyNs r)) ∧
      (∀ r, (s.cmd id).cap.cns = 3 → s.nsNamed (s.ctrl k) (s.cmd id).cap.nsid = .ok r → u.ended id i 0 0 0) ∧
      ((s.cmd id).cap.cns = 0 ∨ (s.cmd id).cap.cns = 3 → s.nsOf (s.ctrl k) (s.cmd id).cap.nsid = none → u.ended id i 0 0xB 0) ∧
      (3 < (s.cmd id).cap.cns → u.ended id i 0 2 0)) ∧
    (∀ j i' x, s.adminOn id i 8 k → s.onQp j i' → j ≠ id → (s.cmd j).fused = none →
      (s.nvme.cmds.filter fun e => decide (e.2.cntlid = some k ∧ e.2.stage = .ready ∧ e.2.cap.opcode = 8) &&
        !s.isIoCmd e.2).length ≤ 4 →
      (s.nvme.cmds.find? fun e => e.2.stage.early &&
        s.onQueue k (s.cmd id).cap.sqid (s.cmd id).cap.acid e.2.qp e.2.vf e.2.cap) = some (j, x) →
      Done (.abort t id) s fun u => u.ended id i 0 0 0 ∧ u.ended j i' 0 7 0) ∧
    (s.adminOn id i 9 k → Done (.setFeatures t id) s fun u =>
      ((s.cmd id).cap.fid = 7 → u.ended id i 0 0 (127 * 65536 + 127)) ∧
      ((s.cmd id).cap.fid = 0xB → u.ended id i 0 0 0 ∧ (u.ctrl k).feature 0xB = (s.cmd id).cap.value) ∧
      ((s.cmd id).cap.fid = 0xF → (s.cmd id).cap.value ≠ 0 → (s.cmd id).cap.value ≤ 600000 →
        u.ended id i 0 0 0 ∧ (u.ctrl k).kato = roundKato (s.cmd id).cap.value) ∧
      ((s.cmd id).cap.fid = 0xF → 600000 < (s.cmd id).cap.value → u.ended id i 0 2 0)) ∧
    (s.adminOn id i 0xA k → Done (.getFeatures t id) s fun u =>
      ((s.cmd id).cap.fid = 7 → u.ended id i 0 0 (127 * 65536 + 127)) ∧
      ((s.cmd id).cap.fid = 0xB → u.ended id i 0 0 ((s.ctrl k).feature 0xB)) ∧
      ((s.cmd id).cap.fid = 0xF → u.ended id i 0 0 (s.ctrl k).kato)) ∧
    (s.adminOn id i 0xC k → (s.ctrl k).events = [] →
      (s.nvme.cmds.filter fun e => decide (e.2.cntlid = some k ∧ e.2.stage = .aer)).length < 4 →
      Done (.asynchronousEventRequest t id) s fun u => u = (s.at t).setCmd id { s.cmd id with stage := .aer }) ∧
    (s.adminOn id i 0xC k → 4 ≤ (s.nvme.cmds.filter fun e => decide (e.2.cntlid = some k ∧ e.2.stage = .aer)).length →
      Done (.asynchronousEventRequest t id) s fun u => u.ended id i 1 5 0) ∧
    (∀ r, s.adminOn id i 0x80 k → (s.cmd id).cap.ses = 2 → (s.cmd id).cap.lbaf = 0 →
      (s.at t).nsBad (s.ctrl k) true (s.cmd id).host (s.cmd id).cap = none →
      s.nsOf (s.ctrl k) (s.cmd id).cap.nsid = some r → s.twin.take = none →
      Done (.formatNvm t id) s fun u => (u.ns r).erasing = true ∧ (u.ns r).eraseCmd = some id)

/-- Each I/O command that is ready on a live queue pair completes with its effect (06 Table 4): deallocated blocks read as zeros (R209), a write enters the intent log and is answered (01 R35), one whose data is still with the host fetches it, a compare answers by the data, a flush waits for the blocks dirty at its arrival, and a reservation command takes effect at the barrier of its namespace (R211). -/
def Obligations.IoCommandActs : Prop :=
  ∀ (s : State) (t id i : Nat), s.railsOn →
    (s.ioOn id i 0 → Done (.flush t id) s fun u =>
      (s.needsOpen (s.cmd id) = true → u = (s.at t).setCmd id { s.cmd id with stage := .flushing }) ∧
      (s.needsOpen (s.cmd id) = false → u.ended id i 0 0 0)) ∧
    (s.onQp id i → (s.cmd id).stage = .flushing → (s.cmd id).cap.opcode = 0 → s.needsOpen (s.cmd id) = false →
      Done (.flushComplete t id) s fun u => u.ended id i 0 0 0) ∧
    (s.ioOn id i 1 → s.inMirror id = false → s.inCapsule id → s.writesBack id →
      Done (.write t id) s fun u => u.ended id i 0 0 0 ∧
        ∀ e ∈ (s.at t).intentFor (s.cmd id).nsRow (s.cmd id).cap.slba (s.cmd id).cap.nlb false false, e ∈ u.arr.intent) ∧
    (∀ d, s.ioOn id i 1 → s.inMirror id = false → (s.cmd id).cap.dptr = .keyed d → (s.cmd id).gotBytes < (s.cmd id).len →
      Done (.write t id) s fun u => (u.cmd id).stage = .fetching) ∧
    (∀ o a n, s.ioOn id i 2 → s.touchesLost (s.cmd id).nsRow (s.cmd id).cap.slba (s.cmd id).cap.nlb = false →
      (s.at t).cutOf id = [(1, o, a, n)] → Done (.read t id) s fun u => u.ended id i 0 0 0) ∧
    (∀ o a n, s.ioOn id i 0xC → s.touchesLost (s.cmd id).nsRow (s.cmd id).cap.slba (s.cmd id).cap.nlb = false →
      (s.at t).cutOf id = [(1, o, a, n)] → Done (.verify t id) s fun u => u.ended id i 0 0 0) ∧
    (∀ o a n, s.ioOn id i 5 → s.inCapsule id →
      s.touchesLost (s.cmd id).nsRow (s.cmd id).cap.slba (s.cmd id).cap.nlb = false →
      (s.at t).cutOf id = [(1, o, a, n)] → Done (.compare t id) s fun u =>
        ((s.cmd id).cap.inData % 256 ^ (s.cmd id).len = 0 → u.ended id i 0 0 0) ∧
        ((s.cmd id).cap.inData % 256 ^ (s.cmd id).len ≠ 0 → u.ended id i 2 0x85 0)) ∧
    (∀ o a n w i', s.onQp id i → s.readyIo id 5 = true → (s.cmd id).fused = some w → w ≠ id → s.onQp w i' →
      s.readyIo w 1 = true → s.inCapsule id → s.inCapsule w →
      s.touchesLost (s.cmd id).nsRow (s.cmd id).cap.slba (s.cmd id).cap.nlb = false →
      (s.at t).cutOf id = [(1, o, a, n)] → (s.cmd id).cap.inData % 256 ^ (s.cmd id).len ≠ 0 →
      Done (.compareAndWrite t id) s fun u => u.ended id i 2 0x85 0 ∧ u.ended w i' 0 9 0) ∧
    (s.ioOn id i 8 → s.writesBack id → (s.cmd id).cap.deac = false →
      Done (.writeZeroes t id) s fun u => u.ended id i 0 0 0 ∧
        ∀ e ∈ (s.at t).intentFor (s.cmd id).nsRow (s.cmd id).cap.slba (s.cmd id).cap.nlb false true, e ∈ u.arr.intent) ∧
    (s.ioOn id i 9 → s.inCapsule id → (s.cmd id).cap.ad = false →
      Done (.datasetManagement t id) s fun u => u.ended id i 0 0 0) ∧
    (s.ioOn id i 0xD → s.inCapsule id → Done (.reservationRegister t id) s fun u =>
      (u.cmd id).stage = .barrier ∧ (u.ns (s.cmd id).nsRow).barrier = (s.ns (s.cmd id).nsRow).barrier) ∧
    (s.ioOn id i 0x11 → s.inCapsule id → Done (.reservationAcquire t id) s fun u =>
      (u.cmd id).stage = .barrier ∧ (u.ns (s.cmd id).nsRow).barrier = (s.ns (s.cmd id).nsRow).barrier) ∧
    (s.ioOn id i 0x15 → s.inCapsule id → Done (.reservationRelease t id) s fun u =>
      (u.cmd id).stage = .barrier ∧ (u.ns (s.cmd id).nsRow).barrier = (s.ns (s.cmd id).nsRow).barrier) ∧
    (s.ioOn id i 0xE → Done (.reservationReport t id) s fun u => u.ended id i 0 0 0) ∧
    (∀ r rest, r < 8192 → (s.ns r).barrier = id :: rest → id ∉ rest → s.onQp id i → (s.cmd id).stage = .barrier →
      (∀ e ∈ s.nsCmds r, e.2.stage ≠ .waitDirty) → s.paired = false →
      Done (.reservationBarrierComplete t r) s fun u =>
        u.ended id i 0 ((s.ns r).resv.apply (s.cmd id).host (s.cmd id).cap).sc 0 ∧ (u.ns r).barrier = rest ∧
        (((s.ns r).resv.apply (s.cmd id).host (s.cmd id).cap).sc = 0 →
          (u.ns r).resv = ((s.ns r).resv.apply (s.cmd id).host (s.cmd id).cap).resv))

/-- On a module without a peer, a commit of a subsystem, host, grant, namespace or listener stores the staged row and is answered; a new namespace has a key, wrapped under the KEK of its tenant where that is present (R223); a crypto-erase starts (R227) and ends with a new key and the next generation; an import that opens takes the place of the KEK, any other is refused (R222, R226); a destroyed KEK is gone (R228); a host's limit ends (R230). -/
def Obligations.NvmeSettingsActs : Prop :=
  ∀ (s : State) (t : Nat), s.railsOn →
    (∀ sess, (s.at t).mayCommit sess 0x3210 subsystemCode = true → s.paired = false → 
      Done (.subsystemCommit t sess) s fun u =>
        s.committed u sess 0x3210 ∧ s.rowTook u sess 0x3210 [2, 3, 4]) ∧
    (∀ sess, (s.at t).mayCommit sess 0x3220 hostCode = true → s.paired = false → 
      Done (.hostNqnCommit t sess) s fun u =>
        s.committed u sess 0x3220 ∧ s.rowTook u sess 0x3220 [2, 3, 4]) ∧
    (∀ sess, (s.at t).mayCommit sess 0x3224 (fun _ _ _ => 0) = true → s.paired = false → 
      Done (.grantCommit t sess) s fun u =>
        s.committed u sess 0x3224 ∧ s.rowTook u sess 0x3224 [2, 3, 4]) ∧
    (∀ sess, (s.at t).mayCommit sess 0x3230 namespaceCode = true → s.paired = false → s.o 0x3230 (s.staged sess 0x3230).row 2 = 0 → (s.staged sess 0x3230).n 2 = 1 → 
      Done (.namespaceCommit t sess) s fun u =>
        s.committed u sess 0x3230 ∧ s.rowTook u sess 0x3230 [2, 3, 4, 5, 6, 7, 8] ∧
        (u.ns (s.staged sess 0x3230).row).key.isSome = true ∧ (u.ns (s.staged sess 0x3230).row).erasing = false ∧
        ((Tbl.find? s.nvme.keks ((s.staged sess 0x3230).n 5)).isSome = true →
          (u.ns (s.staged sess 0x3230).row).storeKey.isSome = true ∧ (u.ns (s.staged sess 0x3230).row).memberKey.isSome = true)) ∧
    (∀ sess, (s.at t).mayCommit sess 0x3230 namespaceCode = true → s.paired = false → s.twin.take = none →
      s.o 0x3230 (s.staged sess 0x3230).row 2 = 1 → (s.staged sess 0x3230).n 2 = 1 → (s.staged sess 0x3230).n 0xC = 1 →
      Done (.namespaceCryptoErase t sess) s fun u =>
        (u.ns (s.staged sess 0x3230).row).erasing = true ∧ (u.ns (s.staged sess 0x3230).row).keyDone = true ∧ u.answered sess 0) ∧
    (∀ sess, (s.at t).mayCommit sess 0x3240 (fun _ _ _ => 0) = true → s.paired = false → 
      Done (.listenerCommit t sess) s fun u =>
        s.committed u sess 0x3240 ∧ s.rowTook u sess 0x3240 [2, 3, 4, 5, 6]) ∧
    (∀ sess v, (s.at t).mayCommit sess 0x3250 (fun _ _ _ => 0) = true → (s.staged sess 0x3250).val 4 = .oct 1180 v → v ≠ 0 →
      (s.staged sess 0x3250).n 6 = 0 → s.tenantErasing (s.staged sess 0x3250).row = false →
      Done (.tenantKeyImport t sess 1) s fun u =>
        match (s.staged sess 0x3250).kek with
        | some k => Tbl.find? u.nvme.keks (s.staged sess 0x3250).row = some k ∧ u.o 0x3250 (s.staged sess 0x3250).row 3 = 1 ∧
            u.answered sess 0
        | none => u.nvme = s.nvme ∧ u.answered sess abRange) ∧
    (∀ sess, (s.at t).mayCommit sess 0x3250 (fun _ _ _ => 0) = true →
      (s.staged sess 0x3250).imports = false → (s.staged sess 0x3250).n 6 = 1 →
      Done (.tenantKeyDestroy t sess) s fun u =>
        Tbl.find? u.nvme.keks (s.staged sess 0x3250).row = none ∧ u.o 0x3250 (s.staged sess 0x3250).row 3 = 0 ∧
        u.answered sess 0) ∧
    (∀ r, r < 8192 → s.eraseReady r = true → (s.ns r).deleting = false →
      Done (.cryptoEraseComplete t r) s fun u =>
        (u.ns r).erasing = false ∧ (u.ns r).keyDone = true ∧ (u.ns r).key.isSome = true ∧
        u.o 0x3230 r 0xB = (s.o 0x3230 r 0xB + 1) % 2 ^ 32) ∧
    (∀ h w, h < 2048 → (s.hostOffender h).until_ = some w → w ≤ max s.now t →
      Done (.hostLimitExpiry t h) s fun u =>
        (u.hostOffender h).until_ = none ∧ u.ob 0x3280 5 = limitedNow u.nvme.offenders ∧
        s.otherObjects u [objKey 0x3280 0 5] ∧ u = { s.logged u with nvme := u.nvme })

/-- Each scheduling command completes with its effect: an engine takes a capsule, a command is let in, room in HBM lets a write in, a member command is submitted, gate lists advance and change, a starved queue is promoted, background shares and targets are computed, settings are stored. -/
def Obligations.SchedulingActs : Prop :=
  ∀ (s : State) (t : Nat), s.railsOn →
    (∀ e x i, e < 32 → nextInput (Tbl.get [] s.nvme.inputs e) = some x → x.qp = some i → (s.qp i).cntlid = none →
      x.cap.opcode = 0x7F → x.cap.fctype = 1 → s.fuseHalf x = none → s.pwr.lull = false →
      Done (.engineCapsuleTake t e) s fun u =>
        Tbl.get [] u.nvme.inputs e = (Tbl.get [] s.nvme.inputs e).erase x ∧ (u.cmd s.nvme.nextCmd).cap = x.cap ∧
        (u.cmd s.nvme.nextCmd).qp = some i ∧ (u.cmd s.nvme.nextCmd).stage = .ready ∧ (u.qp i).bufs = (s.qp i).bufs + 1) ∧
    (∀ tenant id k, tenant < 4096 → (s.at t).pickAdmit tenant 0 8 = some id → (s.cmd id).cntlid = some k →
      (s.at t).nsBad (s.ctrl k) false (s.cmd id).host (s.cmd id).cap = none → (s.cmd id).cap.opcode ≠ 1 →
      (s.cmd id).cap.opcode ≠ 8 →
      Done (.commandAdmit t tenant) s fun u =>
        (u.cmd id).stage = .ready ∧ (u.cmd id).waited = max s.now t - (s.cmd id).waitedAt.getD (max s.now t)) ∧
    (∀ c k id rest, s.fw.goal = none → (s.at t).dirtyQueues.pickFrom 0 8 = some (c, k) →
      Tbl.get [] (s.at t).dirtyQueues.queues k = id :: rest → (s.at t).writeFits (s.cmd id) = true →
      Done (.dirtyCeilingAdmit t) s fun u =>
        (u.cmd id).stage = .ready ∧ (u.cmd id).reserved = s.roomFor (s.cmd id) ∧ s.otherObjects u [] ∧ u = { s.logged u with nvme := u.nvme, sched := u.sched }) ∧
    (∀ sess, (s.at t).mayCommit sess 0x4010 (fun _ _ _ => 0) = true → 
      Done (.tenantSchedulingCommit t sess) s fun u =>
        s.committed u sess 0x4010 ∧ s.rowTook u sess 0x4010 [2, 3, 4, 5, 6, 7, 8, 9, 0xA, 0xB, 0xC]) ∧
    (∀ sess c v, c < 8 → (s.at t).mayWrite sess 0x4000 (c + 1) (.nat v) = true → classPriorityCode c v s = 0 →
      Done (.classPriorityWrite t sess c v) s fun u =>
        u.ob 0x4000 (c + 1) = v ∧ u.answered sess 0 ∧ s.otherObjects u [objKey 0x4000 0 (c + 1)] ∧
        u = { s.logged u with np := u.np }) ∧
    (∀ n k v, n < 24 → s.slotReady n = true → (s.at t).chooseMember n = (some k, v) →
      Done (.memberSubmit t n) s fun u => ∃ cid e ctx,
        Out.memberCmd n cid e (s.mc k).op (s.mc k).off (s.mc k).len ctx
          (decide ((s.mc k).op ≠ .read ∧ s.o 0x5200 n 0x10 = 2)) ∈ u.out ∧ (u.mc k).cid = some cid ∧
        (u.mc k).since = max s.now t) ∧
    (∀ p, p < 32 → (s.gate p).oper ≠ [] → (s.gate p).entryEnd ≤ (s.at t).ptpNow →
      Done (.gateEntryEnd t p) s fun u =>
        u.gate p = ((s.at t).syncGate p).gate p ∧ (s.lineBusy p → u = ((s.at t).syncGate p).syncLpi p)) ∧
    (∀ p start l, p < 32 → (s.gate p).pending = some (start, l) → start ≤ (s.at t).ptpNow →
      Done (.gateListChange t p) s fun u =>
        (u.gate p).oper = l ∧ (u.gate p).base = start ∧ (u.gate p).pending = none ∧
        (s.lineBusy p → s.otherObjects u [] ∧ u = { s.logged u with eth := u.eth, sched := u.sched })) ∧
    (∀ sess, (s.at t).mayCommit sess 0x4020 gateSettingsCode = true → (s.staged sess 0x4020).n 2 ≠ 0 → 
      Done (.gateSettingsCommit t sess) s fun u =>
        s.committed u sess 0x4020 ∧ s.rowTook u sess 0x4020 [2, 3, 4, 5] ∧
        ((u.gate (s.staged sess 0x4020).row).pending.isSome = true)) ∧
    (∀ sess, (s.at t).mayCommit sess 0x4021 gateEntryCode = true → 
      Done (.gateListEntryCommit t sess) s fun u =>
        s.committed u sess 0x4021 ∧ s.rowTook u sess 0x4021 [2, 3] ∧ u = { s.logged u with np := u.np, twin := u.twin }) ∧
    (∀ p c tn f, p < 32 → c < 8 → tn < 4096 → s.lineBusy p → (s.eg p).head? (queueKey c tn) = some f →
      2 ≤ ((s.eg p).qs (queueKey c tn)).level → ((s.eg p).qs (queueKey c tn)).active = true →
      (s.at t).eligible p f = true → ((s.eg p).qs (queueKey c tn)).heldBack = false →
      ((s.eg p).qs (queueKey c tn)).waitingSince + s.ob 0x4002 (((s.eg p).qs (queueKey c tn)).level + 1) * 1000 ≤ max s.now t →
      Done (.queueStarved t (.egress p c tn)) s fun u =>
        u.o 0x4011 (queueKey c tn % 4096) 5 = satAdd (s.o 0x4011 (queueKey c tn % 4096) 5) 1 ∧ u = { s.logged u with eth := u.eth, sched := u.sched }) ∧
    (∀ n c tn j rest, n < 24 → c < 8 → tn < 4096 → Tbl.get [] (s.memQ n).queues (queueKey c tn) = j :: rest →
      2 ≤ ((s.memQ n).qs (queueKey c tn)).level →
      ((s.memQ n).qs (queueKey c tn)).waitingSince + s.ob 0x4003 (((s.memQ n).qs (queueKey c tn)).level + 1) * msNs ≤
        max s.now t →
      Done (.queueStarved t (.member n c tn)) s fun u =>
        u.o 0x4011 (queueKey c tn % 4096) 6 = satAdd (s.o 0x4011 (queueKey c tn % 4096) 6) 1 ∧ u = { s.logged u with sched := u.sched }) ∧
    ((∀ l, s.sched.lastShare = some l → l + 10 * msNs ≤ max s.now t) →
      Done (.backgroundShareUpdate t) s fun u => u.sched.lastShare = some (max s.now t) ∧
        (∀ a < 4, s.arrOn a = true → u.o 0x5110 a 0xA = s.rungOf a) ∧ u = { s.logged u with eth := u.eth, sched := u.sched, pwr := u.pwr }) ∧
    ((∀ l, s.sched.lastTarget = some l → l + 100 * msNs ≤ max s.now t) →
      Done (.backgroundTargetUpdate t) s fun u => u.sched.lastTarget = some (max s.now t) ∧
        u.val 0x4030 0 9 = .real (s.at t).slackNow ∧
        s.otherObjects u [objKey 0x4030 0 8, objKey 0x4030 0 9, objKey 0x4030 0 0xA, objKey 0x4030 0 0xB] ∧ u = { s.logged u with sched := u.sched })

/-- Each metering command completes with its effect: the minute's page closes, a closed page is sealed under the hash chain, a sealed page enters the vault, the billing reader acknowledges, a counter is latched. -/
def Obligations.MeteringActs : Prop :=
  ∀ (s : State) (t : Nat), s.railsOn →
    (s.pageEnd ≤ (s.at t).ptpNow → s.pageEnd ≠ s.meter.start →
      Done (.minuteClose t) s fun u =>
        u.meter.start = s.pageEnd ∧ u.meter.seq = s.meter.seq + 1 ∧ u.ob 0x4100 2 = s.meter.seq + 1 ∧
        u.meter.closing.length = s.meter.closing.length + 1 ∧ u = { s.logged u with meter := u.meter }) ∧
    (∀ p, (s.meter.closing.filter fun q => dueAt (max s.now t) q.closedAt (5 * msNs)) = [p] →
      Done (.pageSeal t) s fun u => ∃ h,
        u.meter.hbm = ({ p with prevHash := s.meter.lastHash, hash := h } :: s.meter.hbm).take 1440 ∧
        u.meter.lastHash = h ∧ u.meter.closing = s.meter.closing.filter (fun q => decide (q.seq ≠ p.seq)) ∧ u = { s.logged u with meter := u.meter }) ∧
    (∀ p, p ∈ s.meter.hbm → (s.meter.hbm.find? fun q => decide (q.seq = p.seq)) = some p →
      (∀ q ∈ s.meter.vault, q.seq < p.seq) →
      Done (.ledgerVaultWrite t p.seq) s fun u => u.meter.vault = (p :: s.meter.vault).take 10080 ∧ u = { s.logged u with meter := u.meter }) ∧
    (∀ sess v, (s.at t).mayWrite sess 0x4100 5 (.nat v) = true → v ≤ s.meter.seq → s.ob 0x4100 5 ≤ v →
      Done (.billingAcknowledge t sess v) s fun u =>
        u.ob 0x4100 5 = v ∧ u.answered sess 0 ∧ s.otherObjects u [objKey 0x4100 0 5] ∧ u = { s.logged u with np := u.np }) ∧
    (∀ sess x n, s.session? sess = some x → 2 ≤ x.level → n < 168 →
      Done (.counterLatchRead t sess n) s fun u =>
        Out.reply sess 0 (some (.nat (s.ob (0x6800 + n) 1))) ∈ u.out ∧
        u.ob (0x6800 + n) 2 = wrapInt 64 (s.at t).ptpNow ∧ u = { s.logged u with np := u.np })

/-- Each array command completes with its effect: arrays are created and deleted, flushes start, journal blocks are written and retired, accumulations end or fail, the zeroing watermark advances and is saved, a scrub passes a busy row by. -/
def Obligations.ArrayActs : Prop :=
  ∀ (s : State) (t a : Nat), s.railsOn → a < 4 →
    (∀ sess, (s.at t).mayCommit sess 0x5000 arrayCode = true → s.paired = false → s.nvme.ctrls = [] → s.arrOn (s.staged sess 0x5000).row = false → (s.staged sess 0x5000).n 2 = 1 → 
      Done (.arrayCreate t sess) s fun u =>
        s.committed u sess 0x5000 ∧ s.rowTook u sess 0x5000 [2, 3, 4, 5, 6, 7, 8, 9] ∧
        u.arrOn (s.staged sess 0x5000).row = true) ∧
    (∀ sess, (s.at t).mayCommit sess 0x5000 arrayCode = true → s.paired = false → s.nvme.ctrls = [] → s.arrOn (s.staged sess 0x5000).row = true → (s.staged sess 0x5000).n 2 = 0 → 
      Done (.arrayDelete t sess) s fun u =>
        s.committed u sess 0x5000 ∧ s.rowTook u sess 0x5000 [2, 3, 4, 5, 6, 7, 8, 9] ∧
        u.arrOn (s.staged sess 0x5000).row = false ∧ Tbl.find? u.arr.arrs (s.staged sess 0x5000).row = none) ∧
    (∀ r, s.flushFree a r = true → (s.at t).gatherDue a r = true → (s.openCtx ((s.flushCols a r).length * 4096)).1.isSome = true →
      Done (.gatherTimeExpiry t a r) s fun u => s.flushBegan u a r) ∧
    (∀ r, s.flushFree a r = true → s.freshPages a r ≠ [] →
      (s.rowFull a r || (s.at t).gatherDue a r || s.overWatermark a r || s.rowNeeded a r || s.drains a) = true →
      (s.openCtx ((s.flushCols a r).length * 4096)).1.isSome = true →
      Done (.flushStart t a r) s fun u => s.flushBegan u a r) ∧
    (∀ e rest, s.mayFlush a = true → (s.arrS a).jwait = e :: rest → e.1 + 20000 ≤ max s.now t →
      Done (.journalBlockWrite t a) s fun u =>
        (u.arrS a).jseq = (s.arrS a).jseq + 1 ∧ u.o 0x5002 a 3 = satAdd (s.o 0x5002 a 3) 1 ∧
        u.o 0x5002 a 4 = (s.arrS a).jseq) ∧
    (∀ b, (s.arrS a).jblocks.find? (fun x => decide (x.seq = b.seq)) = some b → b.copies = [] → b.recs = [] →
      s.arr.flushes = [] → s.arr.recons = [] → (∀ e ∈ s.nvme.cmds, e.2.stage ≠ .flushing) → s.mayFlush a = false →
      (s.arrS a).work = none → (s.arrS a).recovering = true →
      Done (.journalBlockDurable t a b.seq) s fun u =>
        (u.arrS a).jblocks = (s.arrS a).jblocks.filter (fun x => decide (x.seq ≠ b.seq))) ∧
    (∀ c r f, c < 1024 → s.flushOfCtx c = some (a, r, f) → f.stage = .writing → f.pqDone = false → s.dataRead f = true →
      Done (.accumulationComplete t c) s fun u =>
        u.ob (0x6800 + (408 + c / 256)) 1 = (s.ob (0x6800 + (408 + c / 256)) 1 + s.ctxBytes c) % 2 ^ 48) ∧
    (∀ c r f, c < 1024 → s.flushOfCtx c = some (a, r, f) →
      Done (.accumulationFailed t c) s fun u =>
        u.o 0x5030 (c / 256) 4 = satAdd (s.o 0x5030 (c / 256) 4) 1 ∧ u.o 0x5011 a 7 = satAdd (s.o 0x5011 a 7) 1) ∧
    (∀ r, (s.arrS a).zeroing = some (r, []) →
      Done (.zeroingRowComplete t a r) s fun u => r + 1 ≤ (u.arrS a).watermark) ∧
    (s.mayFlush a = true → (s.arrS a).savedWatermark ≠ (s.arrS a).watermark →
      Done (.zeroingWatermarkWrite t a) s fun u =>
        (u.arrS a).savedWatermark = (s.arrS a).watermark ∧ (u.arrS a).sbGen = (s.arrS a).sbGen + 1) ∧
    (∀ r cols, s.mayScrub a = true → cols.length = s.aC a / 4096 → (∀ c ∈ cols, c.data.length = s.aD a) →
      s.o 0x5020 a 3 = r → r < (s.arrS a).nRows → s.rowBusy a r = true →
      Done (.scrubRow t a r cols) s fun u =>
        (u.arrS a).scrubSkipped = (s.arrS a).scrubSkipped ++ [(r, 0)] ∧ u.o 0x5020 a 3 = r + 1 ∧
        s.otherObjects u [objKey 0x5020 a 3] ∧ u = { s.logged u with arr := u.arr }) ∧
    (∀ r c, s.mayScrub a = true → s.aC a / 4096 = 1 → c.data.length = s.aD a → c.bad = [] → c.p = parityP c.data →
      c.q = parityQ 4096 0 c.data → s.o 0x5020 a 3 = r → r + 1 < (s.arrS a).nRows → s.rowBusy a r = false →
      Done (.scrubRow t a r [c]) s fun u =>
        u.o 0x5020 a 6 = satAdd (s.o 0x5020 a 6) 1 ∧ u.o 0x5020 a 3 = r + 1 ∧
        s.otherObjects u [objKey 0x5020 a 3, objKey 0x5020 a 6] ∧ u = s.logged u)

/-- Each command of the members completes with its effect: statistics are refreshed, a slow read is read around, a late one is aborted, a slow member is reported, a member is ejected or replaced, a rebuilt row is counted, an array recovers, a loss is acknowledged. -/
def Obligations.MemberActs : Prop :=
  ∀ (s : State) (t a : Nat), s.railsOn → a < 4 →
    (∀ m, (∀ b < 4, s.aN b ≤ 24) → s.arrOn a = true → s.owns a = true → m < s.aN a → s.memState a m = 1 →
      100 ≤ ((s.at t).windowSamples a m).length →
      Done (.memberStatisticsUpdate t) s fun u =>
        u.val 0x5100 (memRow a m) 7 = .real (percentile99 ((s.at t).windowSamples a m) / 1000)) ∧
    (∀ n cid k id off pc pl, n < 24 → s.mcOf n cid = some k → (s.mc k).dead = false → (s.mc k).excess = false →
      (s.mc k).late = false → (s.at t).pastAround (s.mc k) = true → (s.mc k).purpose = .hostRead id off →
      Tbl.has s.nvme.cmds id = true → ((s.cmd id).pieces.find? fun p => decide (p.off = off)) = some pc →
      planRecon (s.aD (s.mc k).array) (place (s.aD (s.mc k).array) (s.aC (s.mc k).array) pc.addr).2.1
        ((place (s.aD (s.mc k).array) (s.aC (s.mc k).array) pc.addr).2.1 ::
          (s.unavailable (s.mc k).array (place (s.aD (s.mc k).array) (s.aC (s.mc k).array) pc.addr).1 ++
            (s.at t).latePositions id (s.mc k).array (place (s.aD (s.mc k).array) (s.aC (s.mc k).array) pc.addr).1)) = some pl →
      s.o 0x5106 (s.mc k).array 0xB < 4096 →
      Done (.readAround t n cid) s fun u =>
        u.o 0x5100 (memRow (s.mc k).array (s.mc k).member) 9 =
          satAdd (s.o 0x5100 (memRow (s.mc k).array (s.mc k).member) 9) 1) ∧
    (∀ n cid k c, n < 24 → s.mcOf n cid = some k → (s.mc k).cid = some c → (s.mc k).late = false →
      (s.mc k).since + s.ob 0x5107 1 * msNs ≤ max s.now t →
      Done (.memberTimeout t n cid) s fun u => Out.driveAbort (s.mc k).slot c ∈ u.out) ∧
    (∀ m, s.arrOn a = true → s.owns a = true → (s.arrS a).failed = false → m < s.aN a → s.memState a m = 1 →
      (s.at t).slowMet a m = true → s.ob 0x5107 0xA ≠ 1 →
      (∀ w, (s.stat a m).slowEvent = some w → w + 60 * sNs ≤ max s.now t) →
      Done (.slownessEvaluation t) s fun u =>
        (u.stat a m).slowEvent = some (max s.now t) ∧ s.otherObjects u [] ∧ u = { s.logged u with arr := u.arr }) ∧
    (∀ sess, (s.at t).mayCommit sess 0x5100 ejectCode = true → (s.staged sess 0x5100).n 0xD = 1 →
      (s.staged sess 0x5100).row < 96 →
      Done (.memberEject t sess) s fun u => u.answered sess 0 ∧ u.o 0x5100 (s.staged sess 0x5100).row 5 = 7) ∧
    (∀ r f, s.flush? a r = some f → f.method = 3 → f.stage = .closed →
      Done (.rebuildRow t a r) s fun u =>
        u.o 0x5110 a 8 = satAdd (s.o 0x5110 a 8) 1 ∧
        u.o 0x5110 a 9 = satAdd (s.o 0x5110 a 9) (4096 * f.cols.length * f.restores.length)) ∧
    (∀ sess, (s.at t).mayCommit sess 0x5111 replacementCode = true → (s.staged sess 0x5111).n 3 = 1 →
      (s.staged sess 0x5111).row < 96 →
      s.replaceReason ((s.staged sess 0x5111).row / 24) ((s.staged sess 0x5111).row % 24)
        (s.candidate (s.staged sess 0x5111)) = 0 →
      Done (.replacementAccept t sess) s fun u =>
        u.answered sess 0 ∧ u.o 0x5100 (s.staged sess 0x5111).row 3 = s.candidate (s.staged sess 0x5111)) ∧
    (∀ e, s.arrOn a = true → s.owns a = true → (s.arrS a).recovering = true → s.mayRecover a = true → s.silent = false →
      Done (.arrayRecovery t a e) s fun u =>
        (u.arrS a).recovering = false ∧ u.o 0x5130 a 3 = e.occasion ∧ u.o 0x5130 a 5 = dirtySource e) ∧
    (∀ sess, (s.at t).mayCommit sess 0x5130 (fun _ _ _ => 0) = true → (s.staged sess 0x5130).n 0xA = 1 →
      Done (.acknowledgeLoss t sess) s fun u =>
        s.committed u sess 0x5130 ∧ (u.arrS (s.staged sess 0x5130).row).held = false ∧ u = { s.logged u with arr := u.arr, np := u.np, twin := u.twin })

/-- Each command of a drive slot's life completes with its effect: DRIVE_INSERTION accepts the drive, DRIVE_REMOVAL empties the slot, CLEAR_PRESENCE_FAULT clears a fault, SLOT_ADMIN_STATE_WRITE stores the row, IFDET_SAMPLE takes the sample, PERST_RELEASE releases the reset, SLOT_LINK_UP brings the link up, LINK_TRAINING_TIMEOUT and SLOT_LINK_DOWN train it again, AER_ERROR_MESSAGE counts the error and a fatal one contains the slot, DPC_RELEASE releases it, DRIVE_READY sets up the link and accepts or refuses the drive, READY_TIMEOUT refuses it, CONTROLLER_FATAL_STATUS starts the reset ladder. -/
def Obligations.SlotLinkActs : Prop :=
  ∀ (s : State) (t n : Nat), s.railsOn → n < 24 →
    ((s.slotS n).presenceCase = 0 → (s.slotS n).prsnt = false →
      (within (max s.now t) (60 * sNs) (s.slotS n).presenceTimes).length < 8 → s.slotEnabled n = true →
      Done (.driveInsertion t n) s fun u =>
        (u.slotS n).prsnt = true ∧ (u.slotS n).accepted = some (max s.now t) ∧ (u.slotS n).auxOn = true ∧
        (u.slotS n).perst = true ∧ u.slotState n = 1 ∧ u.o 0x2210 n 2 = 1 ∧
        s.otherObjects u [objKey 0x5200 n 2, objKey 0x5200 n 0x12, objKey 0x2210 n 2] ∧ u = { s.logged u with slot := u.slot }) ∧
    ((s.slotS n).presenceCase = 0 → (s.slotS n).prsnt = true →
      (within (max s.now t) (60 * sNs) (s.slotS n).presenceTimes).length < 8 →
      Done (.driveRemoval t n) s fun u =>
        (u.slotS n).prsnt = false ∧ (u.slotS n).linkUp = false ∧ (u.slotS n).auxOn = false ∧ (u.slotS n).perst = true ∧
        u.slotState n = 0 ∧ (s.memberIn n = none → s.slotCmds n = [] → u = { s.logged u with slot := u.slot })) ∧
    (∀ sess, (s.at t).mayCommit sess 0x5201 (fun _ _ _ => 0) = true → (s.staged sess 0x5201).n 7 = 1 →
      (s.slotS (s.staged sess 0x5201).row).presenceCase ≠ 0 →
      s.o 0x5201 (s.staged sess 0x5201).row 2 = (s.staged sess 0x5201).n 2 →
      Done (.clearPresenceFault t sess) s fun u =>
        s.committed u sess 0x5201 ∧ (u.slotS (s.staged sess 0x5201).row).presenceCase = 0 ∧
        (u.slotS (s.staged sess 0x5201).row).trainFails = 0 ∧ u.o 0x5200 (s.staged sess 0x5201).row 0x11 = 0) ∧
    (∀ sess, (s.at t).mayCommit sess 0x5201 (fun _ _ _ => 0) = true → (s.staged sess 0x5201).n 7 ≠ 1 →
      s.o 0x5201 (s.staged sess 0x5201).row 2 = 0 → (s.staged sess 0x5201).n 2 = 1 →
      Done (.slotAdminStateWrite t sess) s fun u =>
        s.committed u sess 0x5201 ∧ s.rowTook u sess 0x5201 [2, 3, 5, 6]) ∧
    (∀ w nvme, (s.slotS n).accepted = some w → s.slotState n = 1 → (s.slotS n).auxOn = true → (s.slotS n).ifdet = none →
      w + 5 * msNs ≤ max s.now t →
      Done (.ifdetSample t n nvme) s fun u => (u.slotS n).ifdet = some nvme ∧ u = { s.logged u with slot := u.slot }) ∧
    (∀ w, (s.slotS n).powerGood = some w → s.slotState n = 1 → w + 100 * msNs ≤ max s.now t → s.silent = false →
      Done (.perstRelease t n) s fun u =>
        u = ((s.at t).setSlot n { s.slotS n with perst := false, perstAt := some (max s.now t) }).setSlotState n 2) ∧
    (∀ rate width, (rate = 16 ∨ rate = 32 ∨ rate = 64) → (width = 1 ∨ width = 2 ∨ width = 4) → width ≤ s.slotWidth → (s.slotS n).linkUp = false →
      (s.slotS n).ladder = none → s.slotState n = 2 →
      Done (.slotLinkUp t n rate width) s fun u =>
        (u.slotS n).linkUp = true ∧ (u.slotS n).linkAt = some (max s.now t) ∧ (u.slotS n).trainFails = 0 ∧
        u.slotState n = 3 ∧ u.o 0x5200 n 4 = rate ∧ u.o 0x5200 n 5 = width ∧ u = { s.logged u with slot := u.slot }) ∧
    (∀ w, (s.slotS n).perstAt = some w → s.slotState n = 2 → w + 100 * msNs ≤ max s.now t → (s.slotS n).tries < 3 →
      Done (.linkTrainingTimeout t n) s fun u =>
        (u.slotS n).tries = (s.slotS n).tries + 1 ∧ (u.slotS n).perstAt = some (max s.now t) ∧ u.slotState n = 2 ∧
        s.otherObjects u [objKey 0x5200 n 2] ∧ u = { s.logged u with slot := u.slot }) ∧
    (∀ i w, (s.slotS n).linkAt = some w → s.slotState n = 3 → w + 100 * msNs ≤ max s.now t → refusal (s.slotS n) i = 0 →
      s.twin.twinMode = false → s.memberIn n = none →
      ((((s.at t).setSlot n { s.slotS n with info := i, tags := [] }).setSlotState n 4).choosePower n i).isSome = true →
      Done (.driveReady t n i) s fun u =>
        u.slotState n = 6 ∧ (u.slotS n).info = i ∧ (u.slotS n).ready = true ∧ (u.slotS n).bars = assignBars i.bars ∧
        (u.slotS n).link = some (s.linkSetupOf n i) ∧ Out.linkSetup n (s.linkSetupOf n i) ∈ u.out ∧
        u.o 0x5200 n 9 = i.capacity ∧ u.o 0x5200 n 0xA = i.lbaSize ∧ u.told .driveReady [n] ∧ u = { s.logged u with slot := u.slot }) ∧
    (∀ i w, (s.slotS n).linkAt = some w → s.slotState n = 3 → w + 100 * msNs ≤ max s.now t → refusal (s.slotS n) i ≠ 0 →
      refusal (s.slotS n) i < 8 ∨ s.twin.twinMode = false ∨ i.nmic = true →
      Done (.driveReady t n i) s fun u =>
        u.slotState n = 5 ∧ u.o 0x5200 n 3 = refusal (s.slotS n) i ∧ u.told .driveRefused [n, refusal (s.slotS n) i] ∧ u = { s.logged u with slot := u.slot }) ∧
    (∀ w capTo, (s.slotS n).linkAt = some w → s.slotState n = 3 → w + (100 * msNs + readyAllowance capTo) ≤ max s.now t →
      Done (.readyTimeout t ⟨n, capTo⟩) s fun u =>
        u.slotState n = 5 ∧ u.o 0x5200 n 3 = 6 ∧ u.told .driveRefused [n, 6] ∧
        s.otherObjects u [objKey 0x5200 n 2, objKey 0x5200 n 3] ∧ u = s.logged u) ∧
    ((s.slotS n).linkUp = true → (s.slotS n).ladder = none → (s.slotS n).presenceCase = 0 → (s.slotS n).prsnt = true →
      s.slotState n = 4 → (s.slotS n).tries < 3 →
      Done (.slotLinkDown t n) s fun u =>
        (u.slotS n).linkUp = false ∧ (u.slotS n).tries = (s.slotS n).tries + 1 ∧ u.slotState n = 2 ∧
        u.o 0x5202 n 5 = satAdd (s.o 0x5202 n 5) 1 ∧ u = { s.logged u with slot := u.slot }) ∧
    Done (.aerErrorMessage t n .correctable) s (fun u => u = (s.at t).bump 0x5202 n 2) ∧
    Done (.aerErrorMessage t n .nonFatal) s (fun u =>
      u = ((s.at t).bump 0x5202 n 3).setSlot n { s.slotS n with aer := .nonFatal :: (s.slotS n).aer }) ∧
    Done (.aerErrorMessage t n .fatal) s (fun u =>
        u.o 0x5202 n 4 = satAdd (s.o 0x5202 n 4) 1 ∧ (u.slotS n).dpc = some (max s.now t) ∧ (u.slotS n).linkUp = false ∧
        u.slotState n = 7 ∧ (s.memberIn n = none → s.slotCmds n = [] → u = { s.logged u with slot := u.slot })) ∧
    (∀ w, (s.slotS n).dpc = some w → s.slotState n = 7 → (s.slotS n).prsnt = true → w + sNs ≤ max s.now t →
      Done (.dpcRelease t n) s fun u =>
        u = ((s.at t).setSlot n
          { s.slotS n with dpc := none, perst := false, perstAt := some (max s.now t), tries := 0 }).setSlotState n 2) ∧
    (s.slotState n = 6 → (s.slotS n).ladder = none →
      Done (.controllerFatalStatus t n) s fun u => ∃ w, (u.slotS n).ladder = some (1, w))

/-- Each command of a drive's requests completes with its effect: completions free their tags, late ones are quarantined or discarded, commands time out and are aborted, upstream writes land in their stream and upstream reads are answered, polls and async events are taken. -/
def Obligations.SlotCommandActs : Prop :=
  ∀ (s : State) (t n : Nat), s.railsOn → n < 24 →
    (∀ tag x st po d, Tbl.find? (s.slotS n).tags tag = some x → x.quarantined = false → st ≠ .configRetry →
      Done (.slotCompletion t n tag st po d) s fun u =>
        Tbl.find? (u.slotS n).tags tag = none ∧
        u.o 0x5202 n 0xE = (if po then satAdd (s.o 0x5202 n 0xE) 1 else s.o 0x5202 n 0xE) ∧
        (x.dma = none → po = false → s.dma = [] →
          u = (s.at t).setSlot n { s.slotS n with tags := Tbl.erase (s.slotS n).tags tag })) ∧
    (∀ tag st po d, Tbl.find? (s.slotS n).tags tag = none →
      Done (.slotCompletion t n tag st po d) s fun u => u.o 0x5202 n 0x11 = satAdd (s.o 0x5202 n 0x11) 1) ∧
    (∀ tag x st po d, Tbl.find? (s.slotS n).tags tag = some x → x.quarantined = true →
      Done (.slotCompletion t n tag st po d) s fun u =>
        u = ((s.at t).setSlot n { s.slotS n with tags := Tbl.erase (s.slotS n).tags tag }).bump 0x5202 n 7) ∧
    (∀ tag x, Tbl.find? (s.slotS n).tags tag = some x → x.quarantined = false → x.dma = none →
      x.since + s.ob 0x5203 2 * msNs ≤ max s.now t →
      ((Tbl.set (s.slotS n).tags tag { x with quarantined := true }).filter fun e => e.2.quarantined).length ≤ 64 →
      Done (.completionTimeout t n tag) s fun u =>
        (u.slotS n).tags = Tbl.set (s.slotS n).tags tag { x with quarantined := true } ∧
        u.o 0x5202 n 6 = satAdd (s.o 0x5202 n 6) 1 ∧ s.otherObjects u [objKey 0x5202 n 6] ∧ u = { s.logged u with slot := u.slot }) ∧
    (∀ e k w, s.slotState n = 6 → e.poisoned = false → e.phaseOk = true → e.headOk = true → e.queue = 0 → s.mcOf n e.cid = some k →
      (s.mc k).abortAt = some w →
      Done (.completionEntry t n e) s fun u => u = (s.at t).setMc k { s.mc k with abortAt := none }) ∧
    (∀ e k a, s.slotState n = 6 → e.poisoned = false → e.phaseOk = true → e.headOk = true → s.mcOf n e.cid = some k → e.status = .success →
      e.queue ≠ 0 → e.queue = (s.mc k).engine % max 1 (s.o 0x5200 n 0xB) + 1 → (s.mc k).dead = false →
      (s.mc k).late = false → (s.mc k).op = .write → (s.mc k).purpose = .regions a →
      Done (.completionEntry t n e) s fun u =>
        Tbl.find? u.slot.cmds k = none ∧
        u.ob (0x6800 + (248 + n)) 1 = (s.ob (0x6800 + (248 + n)) 1 + (s.mc k).len) % 2 ^ 48) ∧
    (∀ cid k c, s.mcOf n cid = some k → (s.mc k).cid = some c → (s.mc k).late = false →
      (s.mc k).since + s.ob 0x5107 1 * msNs ≤ max s.now t →
      Done (.nvmeCommandTimeout t n ⟨cid, false⟩) s fun u => Out.driveAbort (s.mc k).slot c ∈ u.out) ∧
    (∀ cid w, s.smartSince n = some w → s.slotState n = 6 → (s.slotS n).smartLate = false →
      w + s.ob 0x5203 3 * msNs ≤ max s.now t →
      Done (.nvmeCommandTimeout t n ⟨cid, true⟩) s fun u =>
        u = ((s.at t).setSlot n { s.slotS n with smartLate := true, adminAbort := some (cid, max s.now t) }).emit (.driveAbort n cid)) ∧
    (∀ cid k w, s.mcOf n cid = some k → (s.mc k).abortAt = some w → w + sNs ≤ max s.now t → s.slotState n = 6 →
      (s.slotS n).ladder = none → (s.slotS n).adminAbort = none →
      Done (.abortTimeout t n cid) s fun u => ∃ v, (u.slotS n).ladder = some (1, v)) ∧
    (∀ k w, (s.slotS n).ladder = some (k, w) → (s.slotS n).askPeer = none → w + ladderTime k ≤ max s.now t →
      Done (.resetLadderStep t n true) s fun u =>
        (u.slotS n).ladder = none ∧ (u.slotS n).pwrdis = false ∧ (u.slotS n).perst = false ∧ (u.slotS n).linkUp = true ∧
        (u.slotS n).bme = true ∧ u.slotState n = 6 ∧ s.otherObjects u [objKey 0x5200 n 2] ∧ u = { s.logged u with slot := u.slot }) ∧
    (∀ k w, (s.slotS n).ladder = some (k, w) → (s.slotS n).askPeer = none → max s.now t < w + ladderTime k →
      Done (.resetLadderStep t n true) s fun u => u = s.at t) ∧
    (∀ addr len d ctx off k, streamAddr addr = some (ctx, off) → Tbl.find? s.slot.streams ctx = some k → (s.mc k).slot = n →
      (s.mc k).around = none → off + len ≤ (s.mc k).len → (match (s.mc k).purpose with | .hostRead .. => false | _ => true) = true →
      Done (.driveUpstreamWrite t n addr len ⟨false, false⟩ d) s fun u =>
        u.mc k = { s.mc k with data := patch (s.mc k).data off len d, got := (s.mc k).got + len } ∧
        u.ob (0x6800 + (224 + n)) 1 = (s.ob (0x6800 + (224 + n)) 1 + len) % 2 ^ 48 ∧ u = { s.logged u with slot := u.slot }) ∧
    (∀ addr len d k c, s.grantAt n addr len .read = some (k, c) →
      Done (.driveUpstreamWrite t n addr len ⟨false, false⟩ d) s fun u =>
        match streamAddr addr with
        | none => u.mc k = { c with data := patch c.data (addr - Config.grantBase k) len d, got := c.got + len } ∧ u = { s.logged u with slot := u.slot }
        | some _ => u = { s.logged u with fab := u.fab, eth := u.eth, rdma := u.rdma, nvme := u.nvme, sched := u.sched, arr := u.arr, slot := u.slot, np := u.np, dma := u.dma, meter := u.meter, twin := u.twin, pwr := u.pwr, fw := u.fw }) ∧
    (∀ addr len d, streamAddr addr = none → s.grantAt n addr len .read = none → s.queueAt n addr len = false → s.ob 0x5210 3 = 0 →
      Done (.driveUpstreamWrite t n addr len ⟨false, false⟩ d) s fun u =>
        u.o 0x5202 n 0x10 = satAdd (s.o 0x5202 n 0x10) 1 ∧ u = { s.logged u with slot := u.slot }) ∧
    (∀ addr len po d, s.ob 0x5210 3 = 0 →
      Done (.driveUpstreamWrite t n addr len ⟨po, true⟩ d) s fun u =>
        u.o 0x5202 n 3 = satAdd (s.o 0x5202 n 3) 1 ∧ u.o 0x5202 n 0x12 = satAdd (s.o 0x5202 n 0x12) 1 ∧ u = { s.logged u with slot := u.slot }) ∧
    (∀ addr len k c, s.grantAt n addr len .write = some (k, c) →
      Done (.driveUpstreamRead t n addr len) s fun u =>
        Out.driveRead n addr len true (slice c.data (addr - Config.grantBase k) len) ∈ u.out ∧
        u.mc k = { c with got := c.got + len } ∧ s.otherObjects u [] ∧ u = { s.logged u with slot := u.slot }) ∧
    (∀ temp warn, (s.slotS n).auxOn = true → s.o 0x5200 n 0x12 = 0 →
      Done (.smbusHealthPoll t n temp warn) s fun u =>
        u.val 0x5200 n 0xE = .int temp ∧ (u.slotS n).tempHigh = decide (warn < temp) ∧
        (u.slotS n).smbusAt = some (max s.now t) ∧ s.otherObjects u [objKey 0x5200 n 0xE] ∧ u = { s.logged u with slot := u.slot }) ∧
    (Done (.smbusStuckRecovery t n) s fun u =>
      u.o 0x5202 n 0xF = satAdd (s.o 0x5202 n 0xF) 1 ∧
      (3 ≤ (u.slotS n).smbus.length → u.o 0x5200 n 0x12 = 1) ∧ u = { s.logged u with slot := u.slot }) ∧
    (∀ critical temp warn ps, critical < 256 → s.slotState n = 6 → (s.at t).smartDue n = true → (s.slotS n).smartLate = false → bit critical 2 = false →
      bit critical 3 = false →
      Done (.smartPoll t n critical temp warn ps) s fun u =>
        u.o 0x5200 n 0xF = critical ∧ (u.slotS n).smartAsked = none ∧ (u.slotS n).smartAt = some (max s.now t)) ∧
    Done (.driveAsyncEvent t n .reserved) s (fun u => u = (s.at t).bump 0x5202 n 0x17) ∧
    (∀ k, k ≠ .reserved → s.slotState n = 6 → Done (.driveAsyncEvent t n k) s fun u =>
      u = (s.at t).setSlot n { s.slotS n with smartAsked := some ((s.slotS n).smartAsked.getD (max s.now t)) }) ∧
    (∀ k, s.slotState n ≠ 6 → Done (.driveAsyncEvent t n k) s fun u => u = s.at t)

/-- Each command of a near port's link, functions and windows completes with its effect: PERST, resets and function-level resets clear what they clear, configuration requests are answered, VF registers and doorbells take their values, BAR2 writes and reads module memory. -/
def Obligations.NearPortActs : Prop :=
  ∀ (s : State) (t p : Nat), s.railsOn → p < 2 →
    ((s.nport p).perst = true →
      Done (.npPerstDeassert t p) s fun u =>
        (u.nport p).perst = false ∧ (u.nport p).linkUp = false ∧
        ((u.nport p).cfg.enable = true → u.inputFaulty 2 p = false →
          (u.nport p).training = some (max s.now t) ∧ u.o 0x5303 p 2 = 1)) ∧
    ((s.nport p).perst = false →
      Done (.npReset t p .perstAssert) s fun u =>
        (u.nport p).perst = true ∧ (u.nport p).linkUp = false ∧ (u.nport p).vfEnable = false ∧ u.o 0x5303 p 2 = 0) ∧
    ((s.nport p).linkUp = true →
      Done (.npReset t p .hotReset) s fun u =>
        (u.nport p).bme = false ∧ (u.nport p).memEnable = false ∧ (u.nport p).vfEnable = false ∧ (u.nport p).numVfs = 0) ∧
    ((s.nport p).linkUp = true →
      Done (.npReset t p .linkDown) s fun u => (u.nport p).linkUp = false ∧ (u.nport p).vfEnable = false) ∧
    (∀ width rate, 1 ≤ width → width ≤ 8 → (rate = 16 ∨ rate = 32 ∨ rate = 64) → (s.nport p).training.isSome = true →
      Done (.nearPortLinkUp t p width rate) s fun u =>
        u.nport p = { s.nport p with linkUp := true, training := none, width := width, rate := rate } ∧
        u.o 0x5303 p 2 = 2 ∧ u.o 0x5303 p 3 = width ∧ u.o 0x5303 p 4 = rate ∧
        (width < 8 ∨ rate < (s.nport p).cfg.maxRate → u.told .nearPortDegraded [p, width, rate]) ∧ u = { s.logged u with np := u.np }) ∧
    (∀ f off, f ≤ 64 → off < 4096 → off % 4 = 0 → (s.nport p).linkUp = true → (s.nport p).ready = true → s.funcExists p f = true →
      Done (.npConfigRequest t p f off none) s fun u => u = (s.at t).emit (.npReply p f 0 (s.configRead p f off) 4)) ∧
    (∀ f off w, f ≤ 64 → off < 4096 → off % 4 = 0 → (s.nport p).linkUp = true → (s.nport p).ready = false →
      Done (.npConfigRequest t p f off w) s fun u => u = (s.at t).emit (.npReply p f 2 0 4)) ∧
    (∀ v, (s.nport p).linkUp = true → (s.nport p).ready = true → (s.nport p).vfEnable = false →
      Done (.npConfigRequest t p 0 0x160 (some v)) s fun u =>
        (u.nport p).numVfs = min 64 (v % 65536) ∧ u.o 0x5303 p 5 = min 64 (v % 65536) ∧
        Out.npReply p 0 0 0 0 ∈ u.out ∧ u = { s.logged u with np := u.np }) ∧
    (∀ f v, 1 ≤ f → f ≤ 64 → bit v 2 = true → (s.nport p).linkUp = true → (s.nport p).ready = true → s.funcExists p f = true →
      Done (.npConfigRequest t p f 4 (some v)) s fun u =>
        (u.vf p f).bme = true ∧ Out.npReply p f 0 0 0 ∈ u.out ∧ u = { s.logged u with np := u.np }) ∧
    (∀ v y q val, 1 ≤ v → v ≤ 64 → y < 129 → val < 2 ^ 32 → (s.nport p).linkUp = true → (s.nport p).vfMse = true → s.funcExists p v = true →
      (s.vf p v).ignoring = false → (s.vf p v).cfs = false → (s.vf p v).cc % 2 = 1 →
      Tbl.find? (s.vf p v).sqs y = some q → val < q.size →
      Done (.vfDoorbell t p v (0x1000 + 8 * y) val) s fun u => ∃ q', Tbl.find? (u.vf p v).sqs y = some q' ∧ q'.tail = val) ∧
    (∀ v val, 1 ≤ v → v ≤ 64 → val < 2 ^ 32 → (s.nport p).linkUp = true → (s.nport p).vfMse = true → s.funcExists p v = true →
      (s.vf p v).cc % 2 = 0 →
      Done (.vfDoorbell t p v 0x24 val) s fun u =>
        u = (s.at t).setVf p v { s.vf p v with aqa := Nat.land val 0x0FFF0FFF }) ∧
    (∀ v val, 1 ≤ v → v ≤ 64 → val < 2 ^ 32 → s.funcExists p v = true → vfCcOk (ccBits val) = true → val % 2 = 1 → (s.vf p v).cc % 2 = 0 →
      s.o 0x5301 (vfRow p v) 2 = 1 → (s.vf p v).aqa % 4096 ≠ 0 → (s.vf p v).aqa / 65536 % 4096 ≠ 0 → (s.vf p v).cfs = false →
      s.silent = false →
      Done (.vfCcWrite t p v val) s fun u =>
        (u.vf p v).cc = ccBits val ∧ (u.vf p v).rdy = true ∧ (u.ctrl (s.vfCtrl p v)).state = 2 ∧
        (u.ctrl (s.vfCtrl p v)).vf = some (p, v) ∧ s.otherObjects u [] ∧ u = { s.logged u with nvme := u.nvme, np := u.np }) ∧
    (∀ off len a d, (s.nport p).linkUp = true → (s.nport p).memEnable = true → (s.nport p).cfg.bar2 ≠ 0 → off + len ≤ 2 ^ (s.nport p).cfg.bar2 →
      off % 4 = 0 → len % 4 = 0 → s.inboundAt p off len true = some a →
      Done (.npBar2Access t p off len (some d) ⟨false, false⟩) s fun u =>
        u = { s.at t with hbm := Memory.writeN s.hbm a d len }) ∧
    (∀ off len a, (s.nport p).linkUp = true → (s.nport p).memEnable = true → (s.nport p).cfg.bar2 ≠ 0 → off + len ≤ 2 ^ (s.nport p).cfg.bar2 →
      off % 4 = 0 → len % 4 = 0 → s.inboundAt p off len false = some a →
      Done (.npBar2Access t p off len none ⟨false, false⟩) s fun u =>
        u = (s.at t).emit (.npReply p 0 0 (Memory.readN s.hbm a len) len)) ∧
    (∀ sess, (s.at t).mayCommit sess 0x5306 inboundCode = true → 
      Done (.inboundEntryCommit t sess) s fun u =>
        s.committed u sess 0x5306 ∧ s.rowTook u sess 0x5306 [2, 3, 4, 5, 6, 7] ∧ u = { s.logged u with np := u.np, twin := u.twin }) ∧
    (∀ v, 1 ≤ v → v ≤ 64 → (s.vf p v).bme = true → s.vfBusy p v = false →
      Done (.vfBusMasterClear t p v) s fun u => u = (s.at t).setVf p v { s.vf p v with bme := false }) ∧
    (∀ v, 1 ≤ v → v ≤ 64 →
      Done (.vfFlr t p v) s fun u =>
        (u.vf p v).cc = 0 ∧ (u.vf p v).rdy = false ∧ (u.vf p v).sqs = [] ∧ (u.vf p v).cqs = [] ∧ (u.vf p v).bme = false ∧
        u.o 0x5303 p 0xB = satAdd (s.o 0x5303 p 0xB) 1) ∧
    (Done (.pf0Flr t p) s fun u =>
      (u.nport p).bme = false ∧ (u.nport p).memEnable = false ∧ (u.nport p).vfEnable = false ∧ u.o 0x5303 p 5 = 0 ∧
      u.o 0x5303 p 0xB = satAdd (s.o 0x5303 p 0xB) 1) ∧
    ((s.nport p).vfEnable = true →
      Done (.vfEnableClear t p) s fun u => (u.nport p).vfEnable = false) ∧
    (∀ sess, (s.at t).mayCommit sess 0x5301 vfBindingCode = true → (s.staged sess 0x5301).n 2 ≠ 0 → 
      Done (.vfBindingCommit t sess) s fun u =>
        s.committed u sess 0x5301 ∧ s.rowTook u sess 0x5301 [2, 3, 4, 5] ∧ u = { s.logged u with np := u.np })

/-- Each command of a VF's queues completes with its effect and its admin command ends; completions return their tags, timeouts quarantine them, and the mailbox takes and answers messages. -/
def Obligations.NearPortQueueActs : Prop :=
  ∀ (s : State) (t p v id : Nat), s.railsOn → p < 2 → 1 ≤ v → v ≤ 64 →
    (s.readyVf id 1 = some (p, v) → (s.cmd id).qp = none →
      newQueueBad (Tbl.has (s.vf p v).sqs (s.cmd id).cap.qid) (s.cmd id).cap = none → (s.cmd id).cap.cqid ≠ 0 →
      Tbl.has (s.vf p v).cqs (s.cmd id).cap.cqid = true →
      Done (.createIoSubmissionQueue t id) s fun u => ∃ q,
        Tbl.find? (u.vf p v).sqs (s.cmd id).cap.qid = some q ∧ q.base = queueBase (s.cmd id).cap.dptr ∧
        q.size = (s.cmd id).cap.qsize + 1 ∧ q.cq = (s.cmd id).cap.cqid ∧ Tbl.has u.nvme.cmds id = false) ∧
    (s.readyVf id 5 = some (p, v) → (s.cmd id).qp = none →
      newQueueBad (Tbl.has (s.vf p v).cqs (s.cmd id).cap.qid) (s.cmd id).cap = none → (s.cmd id).cap.vector ≤ 128 →
      Done (.createIoCompletionQueue t id) s fun u => ∃ q,
        Tbl.find? (u.vf p v).cqs (s.cmd id).cap.qid = some q ∧ q.base = queueBase (s.cmd id).cap.dptr ∧
        q.size = (s.cmd id).cap.qsize + 1 ∧ q.vector = (s.cmd id).cap.vector ∧ Tbl.has u.nvme.cmds id = false) ∧
    (s.readyVf id 0 = some (p, v) → (s.cmd id).qp = none → (s.cmd id).cap.qid ≠ 0 →
      Tbl.has (s.vf p v).sqs (s.cmd id).cap.qid = true →
      (∀ e ∈ s.nvme.cmds, e.2.vf ≠ some (p, v, (s.cmd id).cap.qid)) →
      Done (.deleteIoSubmissionQueue t id) s fun u =>
        Tbl.has (u.vf p v).sqs (s.cmd id).cap.qid = false ∧ Tbl.has u.nvme.cmds id = false) ∧
    (s.readyVf id 4 = some (p, v) → (s.cmd id).qp = none → (s.cmd id).cap.qid ≠ 0 →
      Tbl.has (s.vf p v).cqs (s.cmd id).cap.qid = true →
      (∀ e ∈ (s.vf p v).sqs, e.1 ≠ 0 → e.2.cq ≠ (s.cmd id).cap.qid) →
      Done (.deleteIoCompletionQueue t id) s fun u =>
        Tbl.has (u.vf p v).cqs (s.cmd id).cap.qid = false ∧ Tbl.has u.nvme.cmds id = false) ∧
    (∀ tag x d off len, (s.nport p).linkUp = true → Tbl.find? (s.nport p).tags tag = some x → (s.nport p).waits = [] → x.orphaned = false →
      x.quarantined = false → x.purpose = .writeData id off len → Tbl.has s.nvme.cmds id = true →
      (((s.at t).freeTag p tag).takeData id off len d).2 = false →
      Done (.npCompletion t p tag .successful false none d) s fun u =>
        Tbl.find? (u.nport p).tags tag = none ∧ (u.cmd id).data = patch (s.cmd id).data off len d ∧ u = { s.logged u with nvme := u.nvme, np := u.np }) ∧
    (∀ tag x st po e d, (s.nport p).linkUp = true → Tbl.find? (s.nport p).tags tag = some x → (s.nport p).waits = [] → x.orphaned = true →
      Done (.npCompletion t p tag st po e d) s fun u =>
        Tbl.find? (u.nport p).tags tag = none ∧ u.o 0x5303 p 0xA = satAdd (s.o 0x5303 p 0xA) 1 ∧ u = { s.logged u with np := u.np }) ∧
    (∀ tag x c run n bd, Tbl.find? (s.nport p).tags tag = some x → x.orphaned = false → x.quarantined = false →
      x.purpose = .copyJob c run n bd → (s.chan c).asked = false → x.since + (s.nport p).timeout ≤ max s.now t →
      Done (.npCompletionTimeout t p tag) s fun u =>
        Tbl.find? (u.nport p).tags tag = some { x with quarantined := true } ∧
        u.o 0x5303 p 8 = satAdd (s.o 0x5303 p 8) 1) ∧
    (∀ len, s.railOk → (s.nport p).linkUp = true → (s.nport p).mailbox.status ≠ 1 → 1 ≤ len → len ≤ 4096 → s.heldFor (2 + p) = 0 →
      Done (.mailboxDoorbell t p len .malformed) s fun u =>
        (u.nport p).mailbox = { status := 2, reqLen := len, respLen := 0, waits := 0 } ∧ s.vectorSent u p 0 ∧
        u.o 0x6021 0 2 = satAdd (s.o 0x6021 0 2) 1 ∧ u = { s.logged u with np := u.np }) ∧
    (∀ len nonce, s.railOk → (s.nport p).linkUp = true → (s.nport p).mailbox.status ≠ 1 → 1 ≤ len → len ≤ 4096 → s.heldFor (2 + p) = 0 →
      s.session? (2 + p) = none →
      Done (.mailboxDoorbell t p len (.openRequest nonce)) s fun u =>
        (u.nport p).mailbox.status = 2 ∧ (u.session? (2 + p)).isSome = true ∧ s.vectorSent u p 0 ∧ u = { s.logged u with np := u.np }) ∧
    ((s.nport p).linkUp = true → (s.nport p).mailbox.status = 1 →
      Done (.mailboxAbort t p) s fun u =>
        u = (s.at t).setNport p { s.nport p with mailbox := { (s.nport p).mailbox with status := 4, respLen := 0, waits := 0 } })

/-- While the link of a near port is up, each DOE and SPDM request completes with its answer and moves the negotiation of the port as the manual says; everything else stays. -/
def Obligations.SpdmActs : Prop :=
  ∀ (s : State) (t p : Nat), s.railsOn → p < 2 → (s.nport p).linkUp = true →
    (∀ k, Done (.doeDiscovery t p k) s fun u =>
      u = ((s.at t).setNport p (s.nport p)).emit (.spdm p (match k with
        | 0 => .discovery 0 1 0 1
        | 1 => .discovery 1 1 1 0
        | i => .discovery i 0xFFFF 0 0))) ∧
    (Done (.getVersion t p) s fun u =>
      (u.nport p).spdm = { version := 1 } ∧ Out.spdm p (.version [0x12, 0x13]) ∈ u.out ∧ s.otherObjects u [] ∧ u = { s.logged u with np := u.np }) ∧
    ((s.nport p).spdm.version ≠ 0 → Done (.getCapabilities t p) s fun u =>
      (u.nport p).spdm = { (s.nport p).spdm with caps := true } ∧ Out.spdm p (.capabilities Config.spdmFlags) ∈ u.out ∧
      s.otherObjects u [] ∧ u = { s.logged u with np := u.np }) ∧
    ((s.nport p).spdm.caps = true → Done (.negotiateAlgorithms t p true) s fun u =>
      (u.nport p).spdm = { (s.nport p).spdm with algorithms := true } ∧ Out.spdm p (.algorithms 1 384) ∈ u.out ∧
      s.otherObjects u [] ∧ u = { s.logged u with np := u.np }) ∧
    ((s.nport p).spdm.algorithms = true → Done (.getDigests t p) s fun u =>
      Out.spdm p (.digests [(0, chainDigest)]) ∈ u.out ∧ u.nport p = s.nport p ∧ u = { s.logged u with np := u.np }) ∧
    (∀ off len, (s.nport p).spdm.algorithms = true →
      Done (.getCertificate t p 0 off len) s fun u =>
        (off < (Config.chain 1).1 → ∃ d, Out.spdm p (.certificate 0 off (min len ((Config.chain 1).1 - off)) d
          ((Config.chain 1).1 - off - min len ((Config.chain 1).1 - off))) ∈ u.out) ∧
        ((Config.chain 1).1 ≤ off → Out.spdm p .error ∈ u.out) ∧ u.nport p = s.nport p ∧ u = { s.logged u with np := u.np }) ∧
    (∀ nonce, (s.nport p).spdm.algorithms = true → Done (.challenge t p 0 nonce) s fun u =>
      (∃ a b, Out.spdm p (.challengeAuth 0 chainDigest a b) ∈ u.out) ∧ u.nport p = s.nport p ∧ u = { s.logged u with np := u.np }) ∧
    (∀ sign nonce, (s.nport p).spdm.algorithms = true → Done (.getMeasurements t p 0xFF sign nonce) s fun u =>
      (∃ g, Out.spdm p (.measurements s.spdmBlocks g) ∈ u.out ∧ (g.isSome = true ↔ sign = true)) ∧
      u.nport p = s.nport p ∧ u = { s.logged u with np := u.np })

/-- Each command of a DMA channel completes with its effect: Start in state 0 reads the chain head, a doorbell is kept pending or starts a stopped channel again, the disable bit stops it, clearing a halt returns it to state 0, a descriptor of the wrong generation stops it, completion of a descriptor writes its data in module memory, an error on a transfer and a fetch timeout halt it. -/
def Obligations.DmaActs : Prop :=
  ∀ (s : State) (t c : Nat), s.railsOn → c < 64 →
    (∀ u, (s.chan c).state = 0 →
      Done (.dmaStart t c (some u)) s fun v =>
        (v.chan c).state = 1 ∧ (v.chan c).cur = u.head % 2 ^ 48 / 32 * 32 ∧ (v.chan c).e = u.gen ∧ (v.chan c).hops = 0 ∧
        (v.chan c).bytes = 0 ∧ (v.chan c).descs = 0 ∧ (v.chan c).hopLimit = u.hopLimit % 2 ^ 24 ∧
        (v.chan c).fetching = some (max s.now t) ∧
        (jobOf c = none → s.chainHere c (u.head % 2 ^ 48 / 32 * 32) → v = { (s.at t) with dma := v.dma })) ∧
    ((s.chan c).state ≠ 0 → jobOf c = none →
      Done (.dmaStart t c none) s fun v => v = (s.at t).bump 0x5341 c 9) ∧
    ((s.chan c).state = 1 →
      Done (.dmaExtend t c) s fun v => v = (s.at t).setChan c { s.chan c with hops := 0, pending := true }) ∧
    ((s.chan c).state = 2 ∨ (s.chan c).state = 3 →
      Done (.dmaExtend t c) s fun v =>
        v.chan c = { s.chan c with hops := 0, state := 1, fetching := some (max s.now t) } ∧
        (s.chainHere c (s.chan c).cur →
          v = (s.at t).setChan c { s.chan c with hops := 0, state := 1, fetching := some (max s.now t) })) ∧
    ((s.chan c).state = 0 ∨ 4 ≤ (s.chan c).state →
      Done (.dmaExtend t c) s fun v => v = (s.at t).bump 0x5341 c 9) ∧
    (Done (.dmaDisable t c) s fun v =>
      (v.chan c).state = 5 ∧ (v.chan c).code = 8 ∧ (v.chan c).work = [] ∧ (v.chan c).fetching = none ∧
      (v.chan c).pending = false ∧ v.o 0x5341 c 8 = satAdd (s.o 0x5341 c 8) 1 ∧ s.otherObjects v [objKey 0x5341 c 8] ∧
      v = { s.logged v with dma := v.dma }) ∧
    ((s.chan c).state = 4 ∨ (s.chan c).state = 5 →
      Done (.dmaHaltClear t c) s fun v => v = (s.at t).setChan c { s.chan c with state := 0, code := 0 }) ∧
    (∀ d w, (s.chan c).state = 1 → (s.chan c).fetching = some w → s.dmaMayFetch c = true → (s.chan c).own = none →
      s.ob 0x5305 2 = 0 → (s.chan c).follow = false → dGen d ≠ (s.chan c).e → (s.chan c).work = [] → (s.chan c).pending = false →
      Done (.dmaDescriptorFetched t c d true) s fun v =>
        (v.chan c).state = 3 ∧ (v.chan c).fetching = none ∧ (v.chan c).cur = (s.chan c).cur ∧
        (v.chan c).bytes = (s.chan c).bytes ∧
        (s.chainHere c (s.chan c).cur → s.otherObjects v [] ∧ v = { s.logged v with dma := v.dma, pwr := v.pwr })) ∧
    (∀ d w, (s.chan c).state = 1 → (s.chan c).fetching = some w → s.dmaMayFetch c = true → (s.chan c).work = [] →
      Done (.dmaDescriptorFetched t c d false) s fun v =>
        (v.chan c).state = 4 ∧ (v.chan c).code = 5 ∧ (v.chan c).errAddr = (s.chan c).cur % 2 ^ 48 ∧
        v.o 0x5341 c 8 = satAdd (s.o 0x5341 c 8) 1 ∧ v.told .dmaHalted [c, 5, (s.chan c).cur % 2 ^ 48] ∧
        (s.chainHere c (s.chan c).cur → v = { s.logged v with dma := v.dma, pwr := v.pwr })) ∧
    (∀ a d, (s.chan c).work = [(a, d)] → (s.chan c).park = none → s.memoryOk → jobOf c = none → dInterrupt d = false →
      s.region c (dSrc d) (dLen d) false false = some .memory → s.region c (dDst d) (dLen d) true false = some .memory →
      dSrcFixed d = false → dDstFixed d = false → 0 < dLen d → dSrc d + dLen d ≤ hbmEnd →
      Done (.dmaDescriptorComplete t c) s fun v =>
        (∀ k, k < dLen d → Memory.read v.hbm (dDst d + k) = Memory.read s.hbm (dSrc d + k)) ∧
        (∀ x, x < dDst d ∨ dDst d + dLen d ≤ x → Memory.read v.hbm x = Memory.read s.hbm x) ∧
        (v.chan c).work = [] ∧ (v.chan c).descs = ((s.chan c).descs + 1) % 2 ^ 32 ∧
        (v.chan c).bytes = ((s.chan c).bytes + dLen d) % 2 ^ 48 ∧ v = { (s.at t) with hbm := v.hbm, dma := v.dma }) ∧
    (∀ a d n o, (s.chan c).work = [(a, d)] → (s.chan c).park = none → s.region c (dSrc d) (dLen d) false false = some .memory →
      s.region c (dDst d) (dLen d) true false = some (.slot n o) → dSrcFixed d = false → dDstFixed d = false → 0 < dLen d →
      Done (.dmaDescriptorComplete t c) s fun v => (v.chan c).work = [] ∧ v.hbm = s.hbm ∧
        ∀ x ∈ writePieces (s.slotMps n) o (dLen d) none,
          Out.slotBulk n x.1 x.2.2 (s.memRead (dSrc d) (dLen d) / 256 ^ x.2.1 % 256 ^ x.2.2) ∈ v.out) ∧
    (∀ a d p i o, (s.chan c).work = [(a, d)] → (s.chan c).park = none → s.region c (dSrc d) (dLen d) false false = some .memory →
      s.region c (dDst d) (dLen d) true false = some (.near p i o) → dSrcFixed d = false → dDstFixed d = false → 0 < dLen d →
      Done (.dmaDescriptorComplete t c) s fun v => (v.chan c).work = [] ∧ v.hbm = s.hbm ∧
        ∀ x ∈ writePieces (s.nport p).mps o (dLen d) none,
          Out.npBulk p 0 x.1 x.2.2 (s.memRead (dSrc d) (dLen d) / 256 ^ x.2.1 % 256 ^ x.2.2) (s.outAttr p i) ∈ v.out) ∧
    (∀ a d rest x, (s.chan c).work = (a, d) :: rest → s.badAddress c d = some x →
      Done (.dmaDescriptorComplete t c) s fun v =>
        (v.chan c).state = 4 ∧ (v.chan c).code = 1 ∧ (v.chan c).cur = a ∧ (v.chan c).errAddr = x % 2 ^ 48 ∧
        v.told .dmaHalted [c, 1, x % 2 ^ 48] ∧ v = { s.logged v with dma := v.dma }) ∧
    (∀ write addr, addr < 2 ^ 48 → (s.chan c).work ≠ [] →
      Done (.dmaTransferError t c write addr) s fun v =>
        (v.chan c).state = 4 ∧ (v.chan c).code = (if write then 7 else 6) ∧ (v.chan c).errAddr = addr ∧ (v.chan c).work = [] ∧
        v.o 0x5341 c 8 = satAdd (s.o 0x5341 c 8) 1 ∧ v.told .dmaHalted [c, if write then 7 else 6, addr] ∧
        v = { s.logged v with dma := v.dma }) ∧
    (∀ w, (s.chan c).fetching = some w → w + (s.chan c).fetchTimeout * 1000 ≤ max s.now t → (s.chan c).work = [] →
      Done (.dmaFetchTimeout t c) s fun v =>
        (v.chan c).state = 4 ∧ (v.chan c).code = 4 ∧ v.told .dmaHalted [c, 4, (s.chan c).cur % 2 ^ 48] ∧
        (s.chainHere c (s.chan c).cur → v = { s.logged v with dma := v.dma, pwr := v.pwr }))

/-- A commit of the copy-job window with Start at 1 starts the job's channel with the hop limit and the descriptor or chain head that it carries; Extend, Disable and Clear act on it as a doorbell, the disable bit and the clearing of Halted do. -/
def Obligations.CopyJobActs : Prop :=
  ∀ (s : State) (t : Nat), s.railsOn →
    (∀ sess, (s.at t).mayCommit sess 0x5340 copyJobCode = true → (s.staged sess 0x5340).row < 16 → (s.staged sess 0x5340).n 0xA = 1 → (s.staged sess 0x5340).n 0xB = 0 → (s.staged sess 0x5340).n 0xC = 0 → (s.staged sess 0x5340).n 0xD = 0 → 
      Done (.copyJobStart t sess) s fun u =>
        s.committed u sess 0x5340 ∧ s.rowTook u sess 0x5340 [2, 3, 4, 5, 6, 7, 8, 9] ∧
        (u.chan (jobChan (s.staged sess 0x5340).row)).state = 1 ∧
        (u.chan (jobChan (s.staged sess 0x5340).row)).cur =
          (if (s.staged sess 0x5340).n 2 = 0 then Config.jobDescriptor (s.staged sess 0x5340).row else (s.staged sess 0x5340).n 7) ∧
        (u.chan (jobChan (s.staged sess 0x5340).row)).hopLimit = (s.staged sess 0x5340).n 9 ∧
        (u.chan (jobChan (s.staged sess 0x5340).row)).e =
          decide ((s.staged sess 0x5340).n 2 ≠ 0 ∧ (s.staged sess 0x5340).n 8 = 1)) ∧
    (∀ sess, (s.at t).mayCommit sess 0x5340 copyJobCode = true → (s.staged sess 0x5340).n 0xA = 0 → (s.staged sess 0x5340).n 0xB = 1 → (s.staged sess 0x5340).n 0xC = 0 → (s.staged sess 0x5340).n 0xD = 0 → (s.chan (jobChan (s.staged sess 0x5340).row)).state = 1 → 
      Done (.copyJobExtend t sess) s fun u =>
        s.committed u sess 0x5340 ∧ s.rowTook u sess 0x5340 [2, 3, 4, 5, 6, 7, 8, 9] ∧
        (u.chan (jobChan (s.staged sess 0x5340).row)).pending = true ∧
        (u.chan (jobChan (s.staged sess 0x5340).row)).hops = 0) ∧
    (∀ sess, (s.at t).mayCommit sess 0x5340 copyJobCode = true → (s.staged sess 0x5340).n 0xA = 0 → (s.staged sess 0x5340).n 0xB = 0 → (s.staged sess 0x5340).n 0xC = 1 → (s.staged sess 0x5340).n 0xD = 0 → 
      Done (.copyJobDisable t sess) s fun u =>
        s.committed u sess 0x5340 ∧ s.rowTook u sess 0x5340 [2, 3, 4, 5, 6, 7, 8, 9] ∧
        (u.chan (jobChan (s.staged sess 0x5340).row)).state = 5 ∧ (u.chan (jobChan (s.staged sess 0x5340).row)).code = 8) ∧
    (∀ sess, (s.at t).mayCommit sess 0x5340 copyJobCode = true → (s.staged sess 0x5340).n 0xA = 0 → (s.staged sess 0x5340).n 0xB = 0 → (s.staged sess 0x5340).n 0xC = 0 → (s.staged sess 0x5340).n 0xD = 1 → (s.chan (jobChan (s.staged sess 0x5340).row)).state = 4 → 
      Done (.copyJobClear t sess) s fun u =>
        s.committed u sess 0x5340 ∧ s.rowTook u sess 0x5340 [2, 3, 4, 5, 6, 7, 8, 9] ∧
        (u.chan (jobChan (s.staged sess 0x5340).row)).state = 0 ∧ (u.chan (jobChan (s.staged sess 0x5340).row)).code = 0)

/-- Each record that reaches a linked module completes with its effect: it moves the sequence on and takes the acknowledgement that it carries; mirror data are held and confirmed, a release drops what it names, a settings record is stored and answered, a standby context follows its queue pair, a request is answered, a key is taken where it opens under the KEK (06 R223), and a key that is to go is overwritten (06 R227). -/
def Obligations.TwinRecordActs : Prop :=
  ∀ (s : State) (t : Nat) (r : TwinRec), s.railsOn →
    (s.linkIn .heartbeat r → Done (.heartbeat t r) s fun u => s.delivered u r ∧ u = { s.logged u with twin := u.twin }) ∧
    (s.twin.linked = true → r.typ = .acknowledge → s.twin.sendWait = [] → s.waitingQps = [] →
      Done (.acknowledge t r) s fun u =>
        s.delivered u r ∧ u.twin.unacked = s.twin.unacked.filter (fun x => !recBehind x.rec_.seq r.ack) ∧ u = { s.logged u with twin := u.twin }) ∧
    (∀ cw bad, s.linkIn .heartbeat r → r.payload = .none → r.epoch = s.ob 0x2402 6 → r.seq = s.twin.expected → s.twin.early = [] →
      Done (.twinRecordCopy t 0 r ⟨true, true⟩ ⟨cw, bad⟩) s fun u =>
        s.delivered u r ∧ u.o 0x2420 0 4 = satAdd (s.o 0x2420 0 4) 1 ∧ u = { s.logged u with twin := u.twin }) ∧
    (∀ cw bad, r.typ ≠ .hello → s.twin.linked = true → r.epoch = s.ob 0x2402 6 → recBehind r.seq s.twin.expected = true →
      Done (.twinRecordCopy t 0 r ⟨true, true⟩ ⟨cw, bad⟩) s fun u => u.o 0x2420 0 5 = satAdd (s.o 0x2420 0 5) 1 ∧ u.twin = s.twin ∧ u = s.logged u) ∧
    (∀ cw bad, r.typ ≠ .hello → s.twin.linked = true → r.epoch = s.ob 0x2402 6 → recBehind r.seq s.twin.expected = false →
      Done (.twinRecordCopy t 0 r ⟨true, false⟩ ⟨cw, bad⟩) s fun u => u.o 0x2420 0 7 = satAdd (s.o 0x2420 0 7) 1 ∧ u.twin = s.twin ∧ u = s.logged u) ∧
    (∀ cw bad, Done (.twinRecordCopy t 1 r ⟨false, true⟩ ⟨cw, bad⟩) s fun u =>
      u.o 0x2420 1 4 = satAdd (s.o 0x2420 1 4) 1 ∧ u.o 0x2420 1 6 = satAdd (s.o 0x2420 1 6) 1 ∧ u.twin = s.twin ∧ u = s.logged u) ∧
    (∀ h, r.typ = .hello → r.payload = .hello h → s.twin.twinMode = true → s.twinPhase = 1 → s.silent = false →
      h.serving = false → h.configGen < s.twin.configGen → s.arrays = [] → s.twin.take = none →
      (∀ n, n < 24 → (s.slotS n).waitsTwin = false) →
      Done (.hello t r) s fun u =>
        u.twinPhase = 2 ∧ u.ob 0x2400 2 = (if s.ownSerial < h.serial then 1 else 2) ∧
        u.ob 0x2402 6 = (max (s.ob 0x2402 6) r.epoch + 1) % 65536 ∧ u.twin.linked = true ∧ u.twin.peer = some h ∧
        u.twin.expected = 0 ∧ u = { s.logged u with twin := u.twin }) ∧
    (∀ es pages, s.linkIn .mirrorData r → r.payload = .mirror es pages → s.paired = true → s.pwr.lull = false →
      es.any (fun e => s.twin.closed.contains e.array) = false → r.ctx % 2 ^ 48 + 4096 * pages.length ≤ s.ob 0x2403 2 →
      Done (.mirrorData t r) s fun u =>
        s.delivered u r ∧ u.twin.mirror = s.twin.mirror ++ [⟨r.ctx % 2 ^ 48, es, pages⟩] ∧
        u.hasSent .mirrorConfirm 0 r.seq .none ∧ u = { s.logged u with twin := u.twin }) ∧
    (s.linkIn .mirrorConfirm r → s.paired = true → s.mirrorCmd r.ref = none →
      Done (.mirrorConfirm t r) s fun u =>
        s.delivered u r ∧ u.twin.joining = s.twin.joining.filter (fun n => decide (n ≠ r.ref)) ∧
        (u.twin.joining = [] → u.twinPhase = 2) ∧ u = { s.logged u with twin := u.twin }) ∧
    (∀ rs, s.linkIn .mirrorRelease r → r.payload = .ranges rs → s.paired = true →
      Done (.mirrorRelease t r) s fun u =>
        s.delivered u r ∧ (∀ m ∈ u.twin.mirror, m.entries ≠ [] ∧
          ∀ e ∈ m.entries, ¬ (e.array = r.ctx ∧ ∃ x ∈ rs, x.1 ≤ e.seq ∧ e.seq ≤ x.2)) ∧ u = { s.logged u with twin := u.twin }) ∧
    (s.linkIn .reject r → s.paired = true → s.mirrorCmd r.ref = none →
      Done (.reject t r) s fun u =>
        s.delivered u r ∧ u.o 0x2403 0 6 = satAdd (s.o 0x2403 0 6) 1 ∧ s.otherObjects u [objKey 0x2403 0 6] ∧ u = { s.logged u with twin := u.twin }) ∧
    (∀ row v, s.linkIn .settings r → r.payload = .settings 0x2450 row [(2, v)] → s.paired = true → s.twin.adopting = false →
      row < 4096 → s.settingsCode 0x2450 row [(2, v)] = 0 →
      Done (.settings t r) s fun u =>
        s.delivered u r ∧ u.val 0x2450 row 2 = v ∧ u.gen 0x2450 row = (s.gen 0x2450 row + 1) % 2 ^ 32 ∧
        u.hasSent .settingsResult 0 r.seq .none ∧ u = { s.logged u with twin := u.twin }) ∧
    (∀ h, s.linkIn .settingsResult r → (s.twin.held.find? fun x => decide (x.seq = r.ref)) = some h → h.object = none →
      h.win = 0x2450 → r.ctx = 0 → h.stage.row < 4096 → 4 ≤ h.sess →
      Done (.settingsResult t r) s fun u =>
        s.delivered u r ∧ u.val 0x2450 h.stage.row 2 = h.stage.val 2 ∧ u.answered h.sess 0 ∧
        u.twin.held = s.twin.held.filter (fun x => decide (x.seq ≠ r.ref)) ∧ u = { s.logged u with twin := u.twin }) ∧
    (∀ p c, s.linkIn .capsule r → r.payload = .packet p → s.paired = true → p.capsule = some c → RoceOp.closes p.op = true →
      Done (.capsule t r) s fun u =>
        s.delivered u r ∧ u.standbyOf r.ctx = { s.standbyOf r.ctx with openCap := none, caps := (s.standbyOf r.ctx).caps ++ [c] } ∧
        u = { s.logged u with twin := u.twin }) ∧
    (∀ q, s.linkIn .qpState r → r.payload = .qpState q → s.paired = true → q.final = false →
      Done (.qpState t r) s fun u =>
        s.delivered u r ∧ u.standbyOf r.ctx = { s.standbyOf r.ctx with
          rec_ := q, caps := answeredBy q.sent (s.standbyOf r.ctx).caps } ∧ u = { s.logged u with twin := u.twin }) ∧
    (∀ p b, s.linkIn .twinPacket r → r.payload = .twinPacket p → s.paired = true →
      Tbl.find? s.twin.standby r.ctx = some b → s.portUp b.rec_.port = true →
      Done (.twinPacket t r) s fun u =>
        u.o 0x2403 0 7 = satAdd (s.o 0x2403 0 7) 1 ∧ u.standbyOf r.ctx = { b with caps := answeredBy [p] b.caps }) ∧
    (s.linkIn .yield r → s.paired = true → s.takesAlone → s.twin.yieldIn = false → s.ob 0x2400 6 ≠ 1 →
      Done (.yield t r) s fun u => u.tookOver 1 ∧ u.twin.yieldRec = some (max s.now t)) ∧
    (s.linkIn .takeoverComplete r → s.twinPhase = 4 →
      Done (.takeoverComplete t r) s fun u =>
        s.delivered u r ∧ u.twin.takerDone = some (max s.now t) ∧ s.otherObjects u [] ∧ u = { s.logged u with twin := u.twin }) ∧
    (s.linkIn .ownershipTransfer r → s.paired = true → r.ctx < 4 → s.arrOn r.ctx = true → s.owns r.ctx = false →
      s.silent = false → s.nvme.ctrls = [] →
      Done (.ownershipTransfer t r) s fun u =>
        s.delivered u r ∧ u.twin.closed = r.ctx :: s.twin.closed ∧ u.o 0x2410 r.ctx 3 = s.ownIndex ∧ u.o 0x2410 r.ctx 4 = 2 ∧
        (u.arrS r.ctx).recovering = true ∧ u = { s.logged u with arr := u.arr, twin := u.twin }) ∧
    (∀ h, s.linkIn .healthReport r → r.payload = .health h → (∀ e ∈ s.rdma.qps, e.2.twin = false) →
      Done (.healthReport t r) s fun u =>
        s.delivered u r ∧ u.twin.health = some (max s.now t, h) ∧ u.o 0x2440 1 2 = h.time ∧ u.o 0x2440 1 3 = h.verdict ∧
        u.o 0x2440 1 4 = h.items ∧ u.o 0x2440 1 6 = h.reachable ∧ u.o 0x2440 1 0xF = h.ceiling ∧ u = { s.logged u with twin := u.twin }) ∧
    (∀ kind, s.linkIn .driveRequest r → r.payload = .code kind → kind = 1 →
      Done (.driveRequest t r) s fun u =>
        s.delivered u r ∧ u.hasSent .driveReply r.ctx r.seq (.code (if (s.slotS r.ctx).linkUp then 0 else 1)) ∧ u = { s.logged u with twin := u.twin }) ∧
    (∀ n k, s.linkIn .driveReply r → r.payload = .code k → k ≠ 0 →
      ((List.range 24).find? fun n => decide ((s.slotS n).askPeer = some r.ref)) = some n → (s.slotS n).askKind = 1 →
      Done (.driveReply t r) s fun u =>
        (u.slotS n).askPeer = none ∧ u.slotState n = 5 ∧ u.o 0x5200 n 3 = 8 ∧ u.told .driveRefused [n, 8]) ∧
    (∀ n, s.linkIn .driveReply r → r.payload = .code 0 →
      ((List.range 24).find? fun n => decide ((s.slotS n).askPeer = some r.ref)) = some n → (s.slotS n).askKind ≠ 1 →
      s.slotCmds n = [] →
      Done (.driveReply t r) s fun u =>
        (u.slotS n).ladder = some (5, max s.now t) ∧ (u.slotS n).pwrdis = true ∧ (u.slotS n).askPeer = none) ∧
    (∀ k, s.linkIn .key r → r.payload = .key (some k) → s.paired = true → (s.ns r.ctx).erasing = false →
      Done (.key t r) s fun u => s.delivered u r ∧ u = { s.logged u with nvme := u.nvme, twin := u.twin } ∧
        match (Tbl.find? s.nvme.keks (s.nsTenant r.ctx)).bind fun kek => unwrapKey kek k with
        | some key => (u.ns r.ctx).key = some key ∧ (u.ns r.ctx).storeKey = some k ∧ u.hasSent .keyReply r.ctx r.seq (.code 0)
        | none => u.nvme = s.nvme ∧ u.hasSent .keyReply r.ctx r.seq (.code 1)) ∧
    (s.linkIn .key r → r.payload = .key none → s.paired = true →
      Done (.key t r) s fun u => s.delivered u r ∧ (u.ns r.ctx).key = none ∧ (u.ns r.ctx).storeKey = none ∧
        (u.ns r.ctx).memberKey = none ∧ (s.o 0x3230 r.ctx 2 = 1 → (u.ns r.ctx).erasing = true) ∧
        (∀ m ∈ u.twin.mirror, m.entries ≠ [] ∧ ∀ e ∈ m.entries, e.nsRow ≠ r.ctx) ∧
        u.hasSent .keyReply r.ctx r.seq (.code 0)) ∧
    (s.linkIn .keyReply r → r.payload = .code 0 → (s.ns r.ctx).keyAsked = some r.ref →
      Done (.keyReply t r) s fun u =>
        s.delivered u r ∧ (u.ns r.ctx).keyAsked = none ∧ (u.ns r.ctx).keyDone = true ∧ s.otherObjects u [] ∧ u = { s.logged u with nvme := u.nvme, twin := u.twin })

/-- Each timer of the twin link and each settings command of twin operation completes with its effect: records are sent again or acknowledged, held commits are refused, lane groups change state, a module alone serves, a lost link or the yield line starts a takeover, and homes are committed. -/
def Obligations.TwinTimerActs : Prop :=
  ∀ (s : State) (t g sess : Nat), s.railsOn → g < 2 →
    (s.twin.twinMode = true → (s.twinPhase = 1 ∨ s.twinPhase = 3) → s.silent = false →
 (s.at t).since s.twin.lastHello msNs = true →
      Done (.helloSend t) s fun u =>
        u.twin.lastHello = some (max s.now t) ∧ u.hasSent .hello 0 0 (.hello s.hello) ∧ u = { s.logged u with twin := u.twin }) ∧
    (∀ w, s.twin.linked = true → s.twin.unacked = [] → s.twin.sendWait = [] → s.twin.lastSent = some w → w + 2000 ≤ max s.now t →
      Done (.acknowledgeSendTimer t) s fun u =>
        u.hasSent .acknowledge 0 0 .none ∧ u.twin.lastSent = some (max s.now t) ∧ u.twin.nextSeq = s.twin.nextSeq + 1 ∧ u = { s.logged u with twin := u.twin }) ∧
    (∀ w, s.twin.linked = true → s.twin.unacked = [] → s.twin.sendWait = [] → s.twin.lastBeat = some w → w + 50000 ≤ max s.now t →
      Done (.heartbeatSendTimer t) s fun u =>
        u.hasSent .heartbeat 0 0 .none ∧ u.twin.lastBeat = some (max s.now t) ∧ u = { s.logged u with twin := u.twin }) ∧
    (∀ x, (s.twin.unacked.find? fun u => decide (u.rec_.seq = x.rec_.seq)) = some x → s.twin.linked = true →
      x.at_ + s.ob 0x2402 3 * 1000 ≤ max s.now t →
      Done (.twinRetransmit t x.rec_.seq) s fun u =>
        Out.twinRec s.twin.groups { x.rec_ with retransmission := true, ack := s.twin.expected } ∈ u.out ∧
        u.twin.lastSent = some (max s.now t) ∧ u = { s.logged u with twin := u.twin }) ∧
    (∀ h ∈ s.twin.held, h.since + 100 * msNs ≤ max s.now t → 4 ≤ h.sess →
      Done (.settingsResultTimeout t) s fun u => u.answered h.sess abState ∧ h ∉ u.twin.held) ∧
    (s.twin.twinMode = true → s.o 0x2420 g 2 = 2 →
      Done (.laneGroupOutOfService t g) s fun u =>
        u.o 0x2420 g 2 = 3 ∧ u.twin.groups = clearBit s.twin.groups g ∧ u.told .twinGroup [g, 3] ∧ u = { s.logged u with twin := u.twin }) ∧
    (∀ w, Tbl.find? s.twin.outOf g = some w → w + 10 * sNs ≤ max s.now t →
      Done (.laneGroupRetrain t g) s fun u => u.o 0x2420 g 2 = 1 ∧ u.twin.groups = clearBit s.twin.groups g ∧ u = { s.logged u with twin := u.twin }) ∧
    (s.twin.twinMode = true → s.o 0x2420 g 2 < 2 →
      Done (.laneGroupInService t g) s fun u =>
        u.o 0x2420 g 2 = 2 ∧ u.twin.groups = setBit s.twin.groups g ∧ u.told .twinGroup [g, 2] ∧ u = { s.logged u with twin := u.twin }) ∧
    (∀ otherDown, otherDown ≤ 24 → s.twin.twinMode = true → s.twinPhase = 1 → s.silent = false →
      s.twin.settleFrom + s.ob 0x2401 1 * sNs ≤ max s.now t →
      s.twin.yieldIn = true → ((List.range 24).filter fun n => (s.slotS n).prsnt).length < 2 * otherDown → s.arrays = [] →
      s.waitingQps = [] → (∀ n, n < 24 → (s.slotS n).waitsTwin = false) →
      Done (.twinSettleExpiry t otherDown) s fun u =>
        u.twinPhase = 3 ∧ u.ob 0x2400 2 = 1 ∧ u.o 0x2410 0 3 = 0 ∧ u.o 0x2410 3 3 = 0 ∧ u = { s.logged u with twin := u.twin }) ∧
    (s.paired = true → s.twin.linkLost = false → (s.at t).linkGone = true → s.twin.yieldIn = true → s.ob 0x2400 6 ≠ 1 → s.takesAlone →
      Done (.twinLinkLost t) s fun u =>
        u.tookOver 3 ∧ u.twin.linkLost = true ∧ u.twin.lostAt = some (max s.now t)) ∧
    (s.paired = true → s.twin.linkLost = false → (s.at t).linkGone = true → s.ob 0x2400 6 = 1 → s.ob 0x2400 2 ≠ 2 →
      Done (.twinLinkLost t) s fun u =>
        u = { (s.at t) with twin := { s.twin with linkLost := true, lostAt := some (max s.now t) } }) ∧
    (∀ w, s.twin.lostAt = some w → w + 10 * msNs ≤ max s.now t → s.paired = true → s.twin.linkLost = true → s.ob 0x2400 6 = 1 →
      s.ob 0x2400 2 = 1 → s.arrays = [] → s.waitingQps = [] → s.nvme.cmds = [] →
      (∀ n, n < 24 → (s.slotS n).waitsTwin = false) →
      Done (.runAloneWaitExpiry t) s fun u => u.twinPhase = 3 ∧ u.twin.joining = [] ∧ u = { s.logged u with twin := u.twin }) ∧
    ((s.at t).mayCommit sess 0x2410 (shelfCode 0x2410) = true → s.paired = false →
      Done (.arrayHomeCommit t sess) s fun u => s.committed u sess 0x2410 ∧ s.rowTook u sess 0x2410 [2]) ∧
    ((s.at t).mayCommit sess 0x2412 (shelfCode 0x2412) = true → s.paired = false →
      Done (.interfaceHomeCommit t sess) s fun u => s.committed u sess 0x2412 ∧ s.rowTook u sess 0x2412 [2]) ∧
    ((s.at t).mayCommit sess 0x2450 (shelfCode 0x2450) = true → s.paired = false →
      Done (.tenantTwinCommit t sess) s fun u => s.committed u sess 0x2450 ∧ s.rowTook u sess 0x2450 [2]) ∧
    (∀ w a, s.twin.fitSince = some w → s.paired = true → s.twinPhase = 2 → s.ob 0x2401 5 = 1 → (s.at t).peerFit = true →
      w + s.ob 0x2401 6 * sNs ≤ max s.now t → a < 4 → s.arrOn a = true → s.owns a = true → s.o 0x2410 a 2 = 1 - s.ownIndex →
      s.o 0x2410 a 4 = 0 → s.nvme.cmds = [] → s.nvme.ctrls = [] → s.ifRows = [] →
      Done (.handBack t) s fun u => u.o 0x2410 a 4 = 1 ∧ u = s.logged u) ∧
    (∀ n, n < 24 → (s.peerArray n).isSome = true →
      Done (.standbyShadowRead t n false) s fun u =>
        u.o 0x2440 0 7 = satAdd (s.o 0x2440 0 7) 1 ∧ u.o 0x2440 0 8 = satAdd (s.o 0x2440 0 8) 1 ∧
        Tbl.get 0 u.twin.shadowFails n = Tbl.get 0 s.twin.shadowFails n + 1 ∧ u = { s.logged u with twin := u.twin }) ∧
    (∀ n, n < 24 → (s.peerArray n).isSome = true →
      Done (.standbyShadowRead t n true) s fun u =>
        u.o 0x2440 0 7 = satAdd (s.o 0x2440 0 7) 1 ∧ u.o 0x2440 0 8 = s.o 0x2440 0 8 ∧
        Tbl.get 0 u.twin.shadowFails n = 0 ∧ u = { s.logged u with twin := u.twin }) ∧
    (∀ a row cols, a < 4 → s.arrOn a = true → s.paired = true → s.owns a = false → s.twin.mirror = [] →
      Done (.standbyParityVerify t a row cols) s fun u =>
        u.o 0x2440 0 9 = satAdd (s.o 0x2440 0 9) 1 ∧
        (cols.any columnBad = true → u.o 0x2440 0 0xA = satAdd (s.o 0x2440 0 0xA) 1 ∧ u.told .standbyMismatch [a, row]) ∧
        (cols.any columnBad = false → u.o 0x2440 0 0xA = s.o 0x2440 0 0xA) ∧ u = s.logged u) ∧
    (s.twin.twinMode = true → s.twin.lastReport = none → s.twin.linked = true → s.twin.unacked = [] → s.twin.sendWait = [] →
      Done (.healthReportSend t) s fun u =>
        u.twin.lastReport = some (max s.now t) ∧ (∃ h, u.hasSent .healthReport 0 0 (.health h) ∧ h.verdict = s.ob 0x2404 1 ∧
          h.items = s.ob 0x2404 2 ∧ u.o 0x2440 0 3 = h.verdict ∧ u.o 0x2440 0 4 = h.items) ∧ u = { s.logged u with twin := u.twin }) ∧
    (s.twin.volts = [] → s.ob 0x2000 0 = 1 →
      Done (.voltageTrendDaily t) s fun u =>
        u.twin.volts = [(max s.now t, s.vcore)] ∧ u.o 0x2440 0 0xC = s.vcore / 10 ∧ u = { s.logged u with twin := u.twin })

/-- Each command of the self-verdict, of the yield line and of a module's yield completes with its effect: the verdict is shown, a hard fault or a forced yield takes the module to phase 4, the line is followed and its fault cleared, a takeover is announced again, and a reset leaves the module off. -/
def Obligations.YieldActs : Prop :=
  ∀ (s : State) (t sess : Nat), s.railsOn →
    (∀ enginesOut, enginesOut ≤ 32 → s.silent = false → s.twin.twinMode = false → s.arrays = [] →
      Done (.selfVerdictEvaluation t enginesOut 0) s fun u =>
        u.o 0x2404 0 0xA = (within (max s.now t) (3600 * sNs) s.twin.yieldTimes).length ∧
        (u.ob 0x2404 1 = 0 ↔ u.ob 0x2404 2 = 0) ∧
        (enginesOut ≤ 8 → bit (u.ob 0x2404 2) 9 = false) ∧ (8 < enginesOut → bit (u.ob 0x2404 2) 9 = true) ∧
        (s.twin.opYield = true → bit (u.ob 0x2404 2) 11 = true)) ∧
    (∀ w, s.twin.recheck = some w → w + msNs ≤ max s.now t → s.silent = false → s.paired = true → (s.at t).peerFit = true →
      s.ob 0x2404 2 ≠ 0 →
      Done (.yieldRecheck t) s fun u => u.twinPhase = 4 ∧ u.told .yielded [s.ob 0x2404 2]) ∧
    (s.twin.yieldIn = false → s.paired = true → s.takesAlone → s.ob 0x2400 6 ≠ 1 → s.twin.linkLost = false →
      (within (max s.now t) sNs s.twin.lineChanges).length < 4 →
      Done (.yieldInAssert t) s fun u => u.tookOver 2 ∧ u.twin.yieldIn = true ∧ u.o 0x2400 0 5 = 1) ∧
    (s.twin.yieldIn = true → (within (max s.now t) sNs s.twin.lineChanges).length < 4 →
      Done (.yieldInDeassert t) s fun u =>
        u.twin.yieldIn = false ∧ u.twin.yieldInSince = max s.now t ∧ u.o 0x2400 0 5 = 0 ∧
        s.otherObjects u [objKey 0x2400 0 5] ∧ u = { s.logged u with twin := u.twin }) ∧
    (∀ k r, s.twin.take = some k → k.announced = 1 → k.t0 + 100 * msNs ≤ max s.now t → s.silent = false → s.ifRows = [r] →
      s.o 0x2412 r 2 ≠ s.ownIndex → s.lineBusy (s.o 0x3040 r 3) →
      Done (.takeoverAnnounce t) s fun u =>
        u.twin.take = some { k with announced := 2 } ∧
        u.eg (s.o 0x3040 r 3) = s.ctlEg t (s.o 0x3040 r 3) (if isV4 (s.o 0x3040 r 5) then 64 else 90)
          (.announceAddress (s.o 0x3040 r 5))) ∧
    ((s.at t).mayWrite sess 0x2400 7 (.nat 1) = true → Done (.clearYieldLineFault t sess 1) s fun u =>
        u.twin.lineChanges = [] ∧ u.twin.yieldRec = none ∧ u.o 0x2400 0 6 = 0 ∧ u.answered sess 0 ∧
        s.otherObjects u [objKey 0x2400 0 6] ∧ u = { s.logged u with np := u.np, twin := u.twin }) ∧
    ((s.at t).mayWrite sess 0x2404 8 (.nat 1) = true → s.silent = false → s.twin.twinMode = true → Done (.forceYield t sess 1) s fun u =>
        u.twinPhase = 4 ∧ u.answered sess 0) ∧
    ((s.at t).mayWrite sess 0x2404 9 (.nat 1) = true → s.twin.linkLost = true → s.ob 0x2400 6 = 1 → s.takesAlone → Done (.forceTakeover t sess 1) s fun u =>
        u.tookOver 4 ∧ u.answered sess 0) ∧
    (s.twin.twinMode = true →
      Done (.yieldWatchdogExpiry t) s fun u => u.twinPhase = 4 ∧ u.told .yielded [2 ^ 13]) ∧
    (s.twin.twinMode = false → s.twin.stopped = true →
      Done (.yieldWatchdogExpiry t) s fun u =>
        u.o 0x2404 0 1 = 1 ∧ bit (u.o 0x2404 0 2) 13 = true ∧ u.told .watchdogExpiry [] ∧ u = s.logged u) ∧
    (s.twin.twinMode = true →
      Done (.lockstepMismatch t) s fun u => u.twinPhase = 4 ∧ u.told .yielded [1]) ∧
    (s.twin.twinMode = false → s.twin.stopped = true →
      Done (.lockstepMismatch t) s fun u =>
        u.o 0x2404 0 1 = 1 ∧ bit (u.o 0x2404 0 2) 0 = true ∧ u.told .lockstepMismatch [] ∧ u = s.logged u) ∧
    (∀ w, s.twin.takerDone = some w → s.twinPhase = 4 → s.ob 0x2401 2 = 1 → w + s.ob 0x2401 3 * sNs ≤ max s.now t →
      (within (max s.now t) (3600 * sNs) s.twin.yieldTimes).length < s.ob 0x2401 4 →
      Done (.rejoinReset t) s fun u => u.inReset) ∧
    (∀ kind, Done (.moduleReset t kind) s fun u => u.inReset)

/-- Each command of the input switch completes with its effect whether or not the rails are on: the switch closes, its power becomes good, a fault before power-good opens it with its cause and its retry, the lockouts hold it open and are released, a storm's copy ends with its result and the rails off, and a storm ends. -/
def Obligations.InputPowerActs : Prop :=
  ∀ (s : State) (t : Nat),
    (∀ mv, s.pwr.gate = false → s.pwr.latched = false → s.pwr.lockout = false → s.pwr.retryAt = none → s.pwr.storm = false →
      s.pwr.sagAt = none → s.startMv < mv →
      Done (.vinQualified t mv) s fun u =>
        u.pwr = { s.pwr with gate := true, gateAt := max s.now t, good := false, retryAt := none } ∧
        u.val 0x2200 0 1 = .real ((mv : Rat) / 1000) ∧ Out.inputSwitch true ∈ u.out ∧
        Out.inputLimit (s.ob 0x2200 4) ∈ u.out ∧ s.otherObjects u [objKey 0x2200 0 1] ∧ u = { s.logged u with core := u.core, pwr := u.pwr, vcore := u.vcore }) ∧
    (∀ mv w, s.pwr.gate = false → s.pwr.latched = true → s.pwr.lockout = false → s.pwr.retryAt = none → s.pwr.storm = false →
      s.pwr.sagAt = some w → w + sNs ≤ max s.now t → s.startMv < mv →
      Done (.vinQualified t mv) s fun u =>
        u.pwr = { s.pwr with
          gate := true, gateAt := max s.now t, good := false, latched := false, faults := [], sagAt := none } ∧
        Out.inputSwitch true ∈ u.out ∧ u = { s.logged u with core := u.core, pwr := u.pwr, vcore := u.vcore }) ∧
    (∀ mv w, s.pwr.latched = true → s.pwr.sagAt = some w → max s.now t < w + sNs →
      Done (.vinQualified t mv) s fun u => u.pwr = { s.pwr with sagAt := none } ∧ u = { s.logged u with core := u.core, pwr := u.pwr, vcore := u.vcore }) ∧
    (∀ mv, s.startMv ≥ mv → s.pwr.sagAt = none →
      Done (.vinQualified t mv) s fun u =>
        u.pwr = s.pwr ∧ u.val 0x2200 0 1 = .real ((mv : Rat) / 1000) ∧ u = { s.logged u with core := u.core, vcore := u.vcore }) ∧
    (s.pwr.gate = true → s.pwr.good = false → s.pwr.gateAt + msNs ≤ max s.now t →
      Done (.inputPowerGood t) s fun u =>
        u.pwr = { s.pwr with good := true, goodAt := max s.now t } ∧ Out.inputLimit 400 ∈ u.out ∧ s.otherObjects u [] ∧
        u = { s.logged u with core := u.core, pwr := u.pwr, vcore := u.vcore }) ∧
    (s.pwr.gate = true → s.pwr.good = false → s.pwr.gateAt + s.ob 0x2200 5 * msNs ≤ max s.now t →
      (within (max s.now t) (60 * sNs) s.pwr.faults).length < s.ob 0x2200 7 →
      Done (.inrushFaultTimer t) s fun u =>
        u.pwr = { s.pwr with
          gate := false, good := false, lost := true, cause := 1
          faults := max s.now t :: within (max s.now t) (60 * sNs) s.pwr.faults
          retryAt := some (max s.now t + s.ob 0x2200 6 * msNs) } ∧
        Out.inputSwitch false ∈ u.out ∧ s.otherObjects u [objKey 0x2200 0 8] ∧ u = { s.logged u with core := u.core, pwr := u.pwr, vcore := u.vcore }) ∧
    (s.pwr.gate = true → s.pwr.good = false → s.pwr.gateAt + msNs ≤ max s.now t →
      (within (max s.now t) (60 * sNs) s.pwr.faults).length ≥ s.ob 0x2200 7 →
      Done (.earlyShort t) s fun u =>
        u.pwr.gate = false ∧ u.pwr.cause = 2 ∧ u.pwr.latched = true ∧ u.pwr.retryAt = none ∧
        u.ob 0x2200 8 = satAdd (s.ob 0x2200 8) 1 ∧ u = { s.logged u with core := u.core, pwr := u.pwr, vcore := u.vcore }) ∧
    (s.pwr.gate = true → s.pwr.good = false →
      Done (.inputSquallTrip t) s fun u =>
        u.pwr.gate = false ∧ u.pwr.cause = 3 ∧ u.ob 0x2200 8 = satAdd (s.ob 0x2200 8) 1 ∧
        u.ob 0x2200 0xA = satAdd (s.ob 0x2200 0xA) 1 ∧ u = { s.logged u with core := u.core, pwr := u.pwr, vcore := u.vcore }) ∧
    (s.pwr.lockout = false → s.pwr.gate = true → s.pwr.good = false →
      Done (.overvoltageLockout t) s fun u =>
        u.pwr.gate = false ∧ u.pwr.cause = 4 ∧ u.pwr.lockout = true ∧ u.pwr.retryAt = none ∧
        u.ob 0x2200 0xB = satAdd (s.ob 0x2200 0xB) 1 ∧ u = { s.logged u with core := u.core, pwr := u.pwr, vcore := u.vcore }) ∧
    (s.pwr.lockout = false → s.pwr.gate = false →
      Done (.overvoltageLockout t) s fun u =>
        u.pwr = { s.pwr with lockout := true, cause := 4 } ∧ u.ob 0x2200 0xB = satAdd (s.ob 0x2200 0xB) 1 ∧ u = { s.logged u with core := u.core, pwr := u.pwr, vcore := u.vcore }) ∧
    (Done (.overvoltageRelease t) s fun u =>
      u.pwr = { s.pwr with lockout := false } ∧ s.otherObjects u [] ∧ u = { s.logged u with core := u.core, pwr := u.pwr, vcore := u.vcore }) ∧
    (s.pwr.gate = true →
      Done (.undervoltageLockout t) s fun u =>
        u.pwr = { s.pwr with
          gate := false, good := false, lost := true
          sagAt := if s.pwr.latched then some (max s.now t) else s.pwr.sagAt } ∧
        Out.inputSwitch false ∈ u.out ∧ s.otherObjects u [] ∧ u = { s.logged u with core := u.core, pwr := u.pwr, vcore := u.vcore }) ∧
    (s.pwr.gate = false → s.pwr.latched = true →
      Done (.undervoltageLockout t) s fun u =>
        u.pwr = { s.pwr with sagAt := some (max s.now t) } ∧ s.otherObjects u [] ∧ u = { s.logged u with core := u.core, pwr := u.pwr, vcore := u.vcore }) ∧
    (∀ w, s.pwr.retryAt = some w → w ≤ max s.now t → s.pwr.latched = false → s.pwr.lockout = false →
      Done (.inputRetry t) s fun u =>
        u.pwr = { s.pwr with gate := true, gateAt := max s.now t, good := false, retryAt := none } ∧
        Out.inputSwitch true ∈ u.out ∧ s.otherObjects u [] ∧ u = { s.logged u with core := u.core, pwr := u.pwr, vcore := u.vcore }) ∧
    (∀ cause, s.pwr.storm = false → s.pwr.off = true → s.pwr.good = true →
      Done (.stormWarning t cause) s fun u =>
        u.pwr = { s.pwr with storm := true, stormAt := some (max s.now t) } ∧ s.otherObjects u [] ∧ u = { s.logged u with core := u.core, pwr := u.pwr, vcore := u.vcore }) ∧
    (∀ cause, s.pwr.storm = false → s.pwr.off = false → s.land.hot = true →
      Done (.stormWarning t cause) s fun u =>
        u.pwr = { s.pwr with
          storm := true, stormAt := some (max s.now t), pfwarn := true, pfwarnAt := some (max s.now t), holdup := true } ∧
        Out.pfwarnLine true ∈ u.out ∧ u.ob 0x2201 6 = satAdd (s.ob 0x2201 6) 1 ∧
        s.otherObjects u [objKey 0x2201 0 6, objKey 0x2201 0 7] ∧ u = { s.logged u with core := u.core, pwr := u.pwr, vcore := u.vcore }) ∧
    (∀ cause, s.pwr.storm = false → s.pwr.off = false → s.land.hot = false →
      Done (.stormWarning t cause) s fun u => u.ev.vault = u.ev.log.take 256) ∧
    (∀ k, s.pwr.off = false → s.pwr.storm = true → s.pwr.copyTo = some k →
      Done (.vaultCopyComplete t) s fun u =>
        (u.copyRegion k).state = 2 ∧ (u.copyRegion k).seq = (s.copyRegion k).seq ∧ (u.copyRegion k).pages = (s.copyRegion k).pages ∧
        (u.copyRegion k).intents = (s.copyRegion k).intents ∧ u.ob 0x2201 8 = 1 ∧ u.pwr.off = true ∧ u.pwr.copyTo = none ∧ u.pwr.holdup = false ∧
        (u.copyRegion k).bytes = (s.copyRegion k).total (s.ob 0x1018 4) ∧
        (u.copyRegion k).digest = (s.copyRegion k).digestOf (s.ob 0x1018 4) ∧ u.land.lamps = 0 ∧
        u.arr.pages = [] ∧ u.arr.intent = [] ∧ u.twin.mirror = [] ∧ (∀ c ∈ u.hbm, c ∈ s.hbm ∧ 0x10000000000 ≤ c.1) ∧
        u = { s.logged u with core := u.core, arr := u.arr, np := u.np, meter := u.meter, twin := u.twin, pwr := u.pwr, land := u.land, hbm := u.hbm, vcore := u.vcore }) ∧
    (∀ k, s.pwr.off = false → s.pwr.storm = true → s.pwr.copyTo = some k →
      Done (.holdupPathTrip t) s fun u =>
        (u.copyRegion k).state = 3 ∧ (u.copyRegion k).pages = [] ∧ u.ob 0x2201 8 = 3 ∧ u.pwr.cause = 5 ∧ u.pwr.off = true ∧
        u.arr.pages = [] ∧ u = { s.logged u with core := u.core, arr := u.arr, np := u.np, meter := u.meter, twin := u.twin, pwr := u.pwr, land := u.land, hbm := u.hbm, vcore := u.vcore }) ∧
    (∀ k, s.pwr.off = false → s.pwr.storm = true → s.pwr.copyTo = some k →
      Done (.copyCutOff t) s fun u =>
        (u.copyRegion k).state = 3 ∧ (u.copyRegion k).pages = [] ∧ u.ob 0x2201 8 = 2 ∧ u.pwr.cause = s.pwr.cause ∧
        u.pwr.off = true ∧ u.arr.pages = [] ∧ u = { s.logged u with core := u.core, arr := u.arr, np := u.np, meter := u.meter, twin := u.twin, pwr := u.pwr, land := u.land, hbm := u.hbm, vcore := u.vcore }) ∧
    (s.pwr.storm = true → s.pwr.off = true → s.pwr.gate = true →
      Done (.stormRestart t) s fun u =>
        u.pwr = { s.pwr with storm := false } ∧ s.otherObjects u [] ∧ u = { s.logged u with core := u.core, pwr := u.pwr, vcore := u.vcore }) ∧
    (s.pwr.storm = true → s.pwr.off = true → s.pwr.gate = false → s.pwr.latched = false → s.pwr.lockout = false →
      s.pwr.retryAt = none →
      Done (.stormRestart t) s fun u =>
        u.pwr = { s.pwr with storm := false, gate := true, gateAt := max s.now t, good := false } ∧
        Out.inputSwitch true ∈ u.out ∧ s.otherObjects u [] ∧ u = { s.logged u with core := u.core, pwr := u.pwr, vcore := u.vcore })

/-- Each command of a slot's power completes with its effect: a ramp starts and becomes good, each fault opens the feeds with its cause and retries after 1 s, a retry brings the drive up, the latch is cleared, the operator switches the slot off, and a draw above the allocation is told. -/
def Obligations.SlotPowerActs : Prop :=
  ∀ (s : State) (t n : Nat), s.railsOn → n < 24 →
    ((List.range n).any (fun m => (s.slotS m).wantsRamp && decide (s.o 0x2210 m 2 ≠ 7)) = false → s.pwr.storm = false →
      s.loaderOnly = false → (s.slotS n).wantsRamp = true → (s.at t).budgetFits n = true → (s.at t).rampRoom = true →
      Done (.slotRampStart t n) s fun u =>
        (u.slotS n).ramping = some (max s.now t) ∧ u.o 0x2210 n 2 = 2 ∧ u.allocation n = (s.o 0x2210 n 6 : Rat) ∧ u = { s.logged u with slot := u.slot }) ∧
    ((s.slotS n).ramping.isSome = true →
      Done (.slotPowerGood t n) s fun u =>
        u = ((s.at t).setSlot n
          { s.slotS n with ramping := none, mainOn := true, powerGood := some (max s.now t), clock := true }).put 0x2210 n 2 3) ∧
    (∀ w, (s.slotS n).ramping = some w → w + s.o 0x2210 n 5 * msNs ≤ max s.now t → s.paired = false → s.pwr.storm = false →
      (within (max s.now t) (60 * sNs) (s.slotS n).faults).length < 3 →
      Done (.slotRampTimeout t n) s fun u => s.slotFaulted u t n 1 ∧ u = { s.logged u with fab := u.fab, eth := u.eth, rdma := u.rdma, nvme := u.nvme, sched := u.sched, arr := u.arr, slot := u.slot, np := u.np, dma := u.dma, meter := u.meter, twin := u.twin, pwr := u.pwr, fw := u.fw }) ∧
    (∀ w, (s.slotS n).ramping = some w → w + msNs ≤ max s.now t → s.paired = false → s.pwr.storm = false →
      (within (max s.now t) (60 * sNs) (s.slotS n).faults).length < 3 →
      Done (.slotEarlyShort t n) s fun u => s.slotFaulted u t n 2 ∧ u = { s.logged u with fab := u.fab, eth := u.eth, rdma := u.rdma, nvme := u.nvme, sched := u.sched, arr := u.arr, slot := u.slot, np := u.np, dma := u.dma, meter := u.meter, twin := u.twin, pwr := u.pwr, fw := u.fw }) ∧
    ((s.slotS n).mainOn = true → s.paired = false → s.pwr.storm = false → (within (max s.now t) (60 * sNs) (s.slotS n).faults).length < 3 →
      Done (.slotSquallTrip t n) s fun u =>
        s.slotFaulted u t n 3 ∧ u.o 0x2210 n 0xB = satAdd (s.o 0x2210 n 0xB) 1 ∧ u = { s.logged u with fab := u.fab, eth := u.eth, rdma := u.rdma, nvme := u.nvme, sched := u.sched, arr := u.arr, slot := u.slot, np := u.np, dma := u.dma, meter := u.meter, twin := u.twin, pwr := u.pwr, fw := u.fw }) ∧
    ((s.slotS n).mainOn = true → s.paired = false → s.pwr.storm = false → (within (max s.now t) (60 * sNs) (s.slotS n).faults).length < 3 →
      Done (.slotOvercurrent t n) s fun u => s.slotFaulted u t n 4 ∧ u = { s.logged u with fab := u.fab, eth := u.eth, rdma := u.rdma, nvme := u.nvme, sched := u.sched, arr := u.arr, slot := u.slot, np := u.np, dma := u.dma, meter := u.meter, twin := u.twin, pwr := u.pwr, fw := u.fw }) ∧
    ((s.slotS n).auxOn = true → s.paired = false → s.pwr.storm = false → (within (max s.now t) (60 * sNs) (s.slotS n).faults).length < 3 →
      Done (.auxiliaryOvercurrent t n) s fun u => s.slotFaulted u t n 5 ∧ u = { s.logged u with fab := u.fab, eth := u.eth, rdma := u.rdma, nvme := u.nvme, sched := u.sched, arr := u.arr, slot := u.slot, np := u.np, dma := u.dma, meter := u.meter, twin := u.twin, pwr := u.pwr, fw := u.fw }) ∧
    ((s.slotS n).auxOn = true → 3 ≤ (within (max s.now t) (60 * sNs) (s.slotS n).faults).length →
      Done (.auxiliaryOvercurrent t n) s fun u =>
        (u.slotS n).latched = true ∧ (u.slotS n).retryAt = none ∧ u.o 0x2210 n 2 = 5 ∧ u = { s.logged u with fab := u.fab, eth := u.eth, rdma := u.rdma, nvme := u.nvme, sched := u.sched, arr := u.arr, slot := u.slot, np := u.np, dma := u.dma, meter := u.meter, twin := u.twin, pwr := u.pwr, fw := u.fw }) ∧
    ((s.slotS n).mainOn = true → s.paired = true → (within (max s.now t) (60 * sNs) (s.slotS n).faults).length < 3 →
      Done (.slotOvercurrent t n) s fun u =>
        u.o 0x2210 n 2 = 8 ∧ u.o 0x2210 n 0xE = 1 ∧ u.told .slotFeedLost [n] ∧ u.slotState n = s.slotState n ∧
        (u.slotS n).mainOn = false ∧ u = { s.logged u with slot := u.slot }) ∧
    (∀ w, (s.slotS n).retryAt = some w → w ≤ max s.now t → (s.slotS n).latched = false → s.slotEnabled n = true →
      s.o 0x2210 n 2 ≠ 8 → (s.slotS n).prsnt = true →
      Done (.slotRetry t n) s fun u =>
        (u.slotS n).retryAt = none ∧ (u.slotS n).accepted = some (max s.now t) ∧ (u.slotS n).auxOn = true ∧
        (u.slotS n).perst = true ∧ u.slotState n = 1 ∧ u.o 0x2210 n 2 = 1 ∧ u = { s.logged u with slot := u.slot }) ∧
    (∀ sess, (s.at t).mayCommit sess 0x2210 (fun _ _ _ => 0) = true → (s.staged sess 0x2210).row = n → (s.staged sess 0x2210).n 0xD = 1 → (s.staged sess 0x2210).n 0xC = 0 → s.o 0x2210 n 0xC = 0 → (s.slotS n).latched = true → s.slotEnabled n = true → s.o 0x2210 n 2 ≠ 8 → (s.slotS n).prsnt = false → 
      Done (.slotLatchClear t sess) s fun u =>
        s.committed u sess 0x2210 ∧ s.rowTook u sess 0x2210 [4, 5, 6, 0xC] ∧
        (u.slotS n).latched = false ∧ (u.slotS n).faults = [] ∧ (u.slotS n).retryAt = none ∧ u.o 0x2210 n 2 = 0 ∧ u = { s.logged u with np := u.np, slot := u.slot }) ∧
    (∀ sess, (s.at t).mayCommit sess 0x2210 (fun _ _ _ => 0) = true → (s.staged sess 0x2210).row = n → (s.staged sess 0x2210).n 0xD ≠ 1 → (s.staged sess 0x2210).n 0xC = 1 → s.o 0x2210 n 0xC = 0 → s.paired = false → (s.at t).slotThirdLoss n = false → 
      Done (.slotPowerOff t sess) s fun u =>
        s.committed u sess 0x2210 ∧ s.rowTook u sess 0x2210 [4, 5, 6, 0xC] ∧
        u.slotState n = 9 ∧ u.o 0x2210 n 2 = 6 ∧ (u.slotS n).pwrdis = true ∧ (u.slotS n).perst = true ∧
        (u.slotS n).auxOn = false ∧ (u.slotS n).mainOn = false ∧ (u.slotS n).linkUp = false ∧ u = { s.logged u with fab := u.fab, eth := u.eth, rdma := u.rdma, nvme := u.nvme, sched := u.sched, arr := u.arr, slot := u.slot, np := u.np, dma := u.dma, meter := u.meter, twin := u.twin, pwr := u.pwr, fw := u.fw }) ∧
    (∀ mw, Done (.slotOverdrawCheck t n mw) s fun u =>
      u.val 0x2210 n 8 = .real ((mw : Rat) / 1000) ∧
      ((s.slotS n).mainOn = true → 11 / 10 * s.allocation n < (mw : Rat) / 1000 → u.told .slotOverdraw [n, mw]) ∧
      s.otherObjects u [objKey 0x2210 n 8] ∧ u = s.logged u)

/-- Each command of the holdup store, the dirty ceiling, the vault and Lull completes with its effect: the forecast follows the store and lowers the ceiling, a rise applies after its wait, a measurement enters the median, a used copy region is idle again, the vault test decides whether the vault is usable, Lull begins and ends, and PFWARN_N faults are told and cleared. -/
def Obligations.EnergyActs : Prop :=
  ∀ (s : State) (t sess : Nat), s.railsOn →
    (∀ v, (s.at t).mayWrite sess 0x2201 4 (.nat v) = true → Done (.stormThresholdWrite t sess v) s fun u =>
        u.ob 0x2201 4 = v ∧ (360 < v → u.told .stormThresholdHigh [v]) ∧ u.answered sess 0 ∧
        s.otherObjects u [objKey 0x2201 0 4] ∧ u = { s.logged u with np := u.np }) ∧
    (s.ob 0x2201 0xE ≠ 1 → s.pwr.pfwarn = false →
      Done (.pfwarnReadbackFault t) s fun u =>
        u.ob 0x2201 0xE = 1 ∧ u.told .pfwarnFaulty [] ∧ s.otherObjects u [objKey 0x2201 0 0xE] ∧ u = s.logged u) ∧
    ((s.at t).mayWrite sess 0x2201 0xF (.nat 1) = true → Done (.clearPfwarnFault t sess 1) s fun u =>
        u.ob 0x2201 0xE = 0 ∧ u.answered sess 0 ∧ s.otherObjects u [objKey 0x2201 0 0xE] ∧ u = { s.logged u with np := u.np }) ∧
    (∀ mv, s.pwr.storm = false →
      Done (.holdupForecast t mv) s fun u =>
        u.pwr.storeV = (mv : Rat) / 1000 ∧ u.val 0x2202 0 2 = .real ((mv : Rat) / 1000) ∧
        u.val 0x2202 0 1 = .real ({ s with pwr := { s.pwr with storeV := (mv : Rat) / 1000 } } : State).forecast ∧
        u.pwr.auto = ({ s with pwr := { s.pwr with storeV := (mv : Rat) / 1000 } } : State).autoNow ∧
        u.ob 0x2201 2 = min (s.ob 0x2201 2) (min u.pwr.auto (s.ob 0x2201 1 * 1048576)) ∧ u = { s.logged u with pwr := u.pwr }) ∧
    (∀ v w, s.pwr.rise = some (v, w) → w + 10 * sNs ≤ max s.now t → s.ob 0x2201 2 < v → s.pwr.storm = false →
      v ≤ min s.autoNow (s.ob 0x2201 1 * 1048576) →
      Done (.dirtyCeilingRise t) s fun u => u.ob 0x2201 2 = v ∧ u.pwr.auto = s.autoNow ∧ u = { s.logged u with pwr := u.pwr }) ∧
    (∀ mv, s.pwr.storm = false → s.pwr.measuredAt = none → 250 ≤ mv → mv ≤ 666 →
      Done (.capacitanceMeasurement t mv) s fun u =>
        u.pwr.caps = ((2000 / (mv : Rat)) :: s.pwr.caps).take 5 ∧ u.pwr.storedCap = some (median u.pwr.caps) ∧
        u.pwr.measuredAt = some (max s.now t) ∧ u.val 0x2202 0 3 = .real (median u.pwr.caps) ∧
        (368 ≤ mv → u.told .holdupAging [mv]) ∧ u = { s.logged u with pwr := u.pwr }) ∧
    (∀ w mv, s.pwr.storm = false → s.pwr.measuredAt = some w → w + s.ob 0x2202 5 * sNs ≤ max s.now t →
      (mv < 250 ∨ 667 ≤ mv) →
      Done (.capacitanceMeasurement t mv) s fun u =>
        u.told .holdupStoreFault [mv] ∧ u.pwr = { s.pwr with measuredAt := some (max s.now t) } ∧ u = { s.logged u with pwr := u.pwr }) ∧
    (∀ k, k < 2 → s.pwr.storm = false → (s.copyRegion k).state = 3 →
      Done (.copyRegionErase t k) s fun u => u.copyRegion k = { state := 0, seq := (s.copyRegion k).seq } ∧ u = { s.logged u with pwr := u.pwr }) ∧
    (∀ rate readOk, Done (.vaultTest t rate readOk) s fun u =>
      u.pwr.rate = (rate : Rat) / 1000 ∧ u.pwr.testOk = readOk ∧ u.val 0x2201 0 0xD = .real (min 12 ((rate : Rat) / 1000)) ∧
      (readOk = false ∨ rate < 4000 → u.ob 0x2201 2 = 0 ∧ u.pwr.auto = 0) ∧ u = { s.logged u with pwr := u.pwr }) ∧
    (s.ob 0x2220 1 = 1 → s.idle = true → s.pwr.idleSince + s.ob 0x2220 2 * msNs ≤ max s.now t →
      Done (.lullEntry t) s fun u =>
        u.pwr = { s.pwr with lull := true, lullAt := max s.now t, serveTimes := [] } ∧ u.ob 0x2220 3 = 2 ∧
        u.ob 0x2220 6 = satAdd (s.ob 0x2220 6) 1 ∧ s.otherObjects u [objKey 0x2220 0 3, objKey 0x2220 0 6] ∧
        u = { s.logged u with eth := u.eth, pwr := u.pwr }) ∧
    (s.ob 0x2220 1 = 2 → s.idle = true → s.pwr.idleSince + msNs ≤ max s.now t →
      Done (.lullEntry t) s fun u => u.pwr.lull = true ∧ u.ob 0x2220 3 = 2 ∧ u = { s.logged u with eth := u.eth, pwr := u.pwr }) ∧
    (∀ trigger, s.thawStarts trigger = true → s.pwr.lull = true →
      Done (.thaw t trigger) s fun u =>
        u.pwr = { s.pwr with lull := false, idleSince := max s.now t, serveTimes := [] } ∧ u.ob 0x2220 3 = 0 ∧
        u.ob 0x2220 7 = satAdd (s.ob 0x2220 7) ((max s.now t - s.pwr.lullAt) / msNs) ∧
        u.ob 0x2220 8 ≤ 40000 ∧ s.otherObjects u [objKey 0x2220 0 3, objKey 0x2220 0 7, objKey 0x2220 0 8] ∧ u = { s.logged u with eth := u.eth, pwr := u.pwr }) ∧
    (∀ trigger, s.thawStarts trigger = false ∨ s.pwr.lull = false → Done (.thaw t trigger) s fun u => u = s.at t)

/-- Each message of the dictionary protocol completes with its effect: a session opens, reaches the level of its account or ends, items are read and written in order and answered, subscriptions and keepalives are taken, and sessions and lockouts end. -/
def Obligations.SessionActs : Prop :=
  ∀ (s : State) (t sess : Nat), s.railsOn →
    (∀ address, s.udpOn = true → (s.at t).lockedOut address = false → s.udpSessions < 16 →
      Done (.openRequest t address 0) s fun u =>
        u.session? s.sess.nextId = some { transport := .udp, address := address, lastAt := max s.now t, material := s.draw } ∧
        u.sess.nextId = s.sess.nextId + 1 ∧ (∃ nonce, Out.opened s.sess.nextId address nonce ∈ u.out) ∧
        s.otherObjects u [] ∧ u = s.logged u) ∧
    (∀ address, s.udpOn = true → (s.at t).lockedOut address = true →
      Done (.openRequest t address 0) s fun u => u = (s.at t).emit (.alonardError address 3)) ∧
    (∀ address p, p < 2 → s.session? (2 + p) = none →
      Done (.openRequest t address (p + 1)) s fun u =>
        (∃ x, u.session? (2 + p) = some x ∧ x.transport = .pf0 p ∧ x.level = (if s.inFactory then 1 else 0) ∧
          x.authed = false ∧ x.factory = s.inFactory) ∧ s.otherObjects u [] ∧ u = s.logged u) ∧
    (∀ g x account l, s.hears sess g x → x.authed = false → s.grantedLevel account true none = some l →
      Done (.authenticate t sess g account true none) s fun u =>
        u.session? sess = some { s.heard t g x with level := l, account := some account, authed := true, tx := x.tx + 1 } ∧
        Out.authReply sess l ∈ u.out ∧ s.otherObjects u [] ∧ u = s.logged u) ∧
    (∀ g x account auth, s.hears sess g x → s.authFits sess auth = true → x.authed = false →
      Done (.authenticate t sess g account false auth) s fun u =>
        u.session? sess = none ∧ Out.alonardError x.address 2 ∈ u.out ∧
        u.o 0x6021 0 5 = satAdd (s.o 0x6021 0 5) 1 ∧ u = s.logged u) ∧
    (∀ g x request items, s.hears sess g x → x.authed = true → 1 ≤ items.length → items.length ≤ 64 →
      Done (.alonardRead t sess g request items) s fun u =>
        (∃ r, Out.replyItems sess request r ∈ u.out ∧ r.length = items.length) ∧ u = { s.logged u with fab := u.fab }) ∧
    (∀ g x request i, s.hears sess g x → x.authed = true → s.readCode (s.heard t g x) i.idx i.sub ≠ 0 →
      Done (.alonardRead t sess g request [i]) s fun u =>
        Out.replyItems sess request [some (s.readCode (s.heard t g x) i.idx i.sub, none)] ∈ u.out ∧ u = s.logged u) ∧
    (∀ g x request items, s.hears sess g x → x.authed = true → 1 ≤ items.length → items.length ≤ 64 →
      Done (.alonardWrite t sess g request items) s fun u =>
        ∃ r, Out.replyItems sess request r ∈ u.out ∧ r.length = items.length) ∧
    (∀ g x lowest mask, s.hears sess g x → x.authed = true →
      Done (.subscribe t sess g lowest mask) s fun u =>
        u.session? sess = some { s.heard t g x with sub := some (lowest, mask % 2 ^ 32) } ∧ s.otherObjects u [] ∧ u = s.logged u) ∧
    (∀ g x, s.hears sess g x → x.authed = true →
      Done (.keepalive t sess g) s fun u =>
        u.session? sess = some { s.heard t g x with tx := x.tx + 1 } ∧ Out.keepaliveReply sess ∈ u.out ∧
        s.otherObjects u [] ∧ u = s.logged u) ∧
    (∀ g x, s.hears sess g x → x.authed = false → x.factory = false →
      Done (.keepalive t sess g) s fun u =>
        u.session? sess = some (s.heard t g x) ∧ u.o 0x6021 0 7 = satAdd (s.o 0x6021 0 7) 1 ∧ u = s.logged u) ∧
    (∀ g x, s.hears sess g x →
      Done (.close t sess g) s fun u => u.session? sess = none ∧ s.otherObjects u [] ∧ u = s.logged u) ∧
    (∀ g x, s.session? sess = some x → (x.transport = .udp → s.udpOn = true) → g.counter ≤ x.rx →
      Done (.close t sess g) s fun u => u = (s.at t).bump 0x6021 0 3) ∧
    (∀ x, s.session? sess = some x → x.transport ≠ .can → x.lastAt + s.ob 0x1120 3 * sNs ≤ max s.now t →
      Done (.sessionIdleTimeout t sess) s fun u =>
        u.session? sess = none ∧ Out.alonardError x.address 5 ∈ u.out ∧ s.otherObjects u [] ∧ u = s.logged u) ∧
    (∀ address w, (Tbl.get ({} : Lockout) s.sess.lockouts address).lockedUntil = some w → w ≤ max s.now t →
      Done (.lockoutExpiry t address) s fun u =>
        Tbl.get ({} : Lockout) u.sess.lockouts address = {} ∧ u.sess.tbl = s.sess.tbl ∧ s.otherObjects u [] ∧ u = s.logged u)

/-- Each write to the dictionary completes with its effect: a selection takes the row's values into the session's stage, a field is staged and changes no object, an object takes its value, a commit of a window without rules of its own answers and moves the generation on, defaults are restored at the next boot, errors are acknowledged, and accounts and switches end the sessions that they end. -/
def Obligations.DictionaryActs : Prop :=
  ∀ (s : State) (t sess : Nat), s.railsOn →
    (∀ x win row, s.session? sess = some x → Dict.rows win ≠ 0 → writeLength win 1 (.nat row) = 0 → row < Dict.rows win →
      s.areaOpen win = true →
      Done (.rowSelect t sess win row) s fun u =>
        u.staged sess win = s.loadStage win row ∧ u.answered sess 0 ∧ s.otherObjects u [] ∧ u = { s.logged u with np := u.np }) ∧
    (∀ x win row, s.session? sess = some x → Dict.rows win ≠ 0 → writeLength win 1 (.nat row) = 0 → Dict.rows win ≤ row →
      Done (.rowSelect t sess win row) s fun u =>
        u.staged sess win = s.staged sess win ∧ u.answered sess abRange ∧ s.otherObjects u [] ∧ u = { s.logged u with np := u.np }) ∧
    ((s.at t).mayCommit sess 0x5300 (fun _ _ _ => 0) = true →
      Done (.rowCommit t sess 0x5300 1) s fun u => s.committed u sess 0x5300 ∧ s.rowTook u sess 0x5300 [2, 3, 4, 5, 6, 7]) ∧
    (∀ x win sub v, s.session? sess = some x → Dict.rows win ≠ 0 → sub ≠ 1 → sub ≠ 0xFE → writeAccess x win sub = 0 →
      writeLength win sub v = 0 → s.areaOpen win = true → (∀ e ∈ s.sess.tbl, s.mustEnd e.2 = false) →
      Done (.objectWrite t sess win sub v) s fun u =>
        (u.staged sess win).val sub = v ∧ (u.staged sess win).row = (s.staged sess win).row ∧ u.answered sess 0 ∧
        s.otherObjects u [] ∧ u = { s.logged u with core := u.core, np := u.np, vcore := u.vcore }) ∧
    (∀ v, (s.at t).mayWrite sess 0x1017 0 (.nat v) = true → Done (.objectWrite t sess 0x1017 0 (.nat v)) s fun u =>
        u.ob 0x1017 0 = v ∧ u.answered sess 0 ∧ s.otherObjects u [objKey 0x1017 0 0] ∧ u = { s.logged u with core := u.core, np := u.np, vcore := u.vcore }) ∧
    ((s.at t).mayWrite sess 0x1011 1 (.nat 0x64616F6C) = true → (∀ a, a < 4 → s.o 0x5000 a 2 = 0) → Done (.restoreDefaults t sess 0x64616F6C) s fun u =>
        u.dict.restorePending = true ∧ u.answered sess 0 ∧ s.otherObjects u [] ∧ u = { s.logged u with np := u.np }) ∧
    (∀ v, (s.at t).mayWrite sess 0x1120 1 (.nat v) = true → Done (.alonardEnableWrite t sess v) s fun u =>
        u.ob 0x1120 1 = v ∧ u.answered sess 0 ∧ (v = 0 → ∀ e ∈ u.sess.tbl, e.2.transport ≠ .udp) ∧
        s.otherObjects u [objKey 0x1120 0 1] ∧ u = { s.logged u with np := u.np }) ∧
    (∀ sess, (s.at t).mayCommit sess 0x1130 accountCode = true → 
      Done (.accountCommit t sess) s fun u =>
        s.committed u sess 0x1130 ∧ s.rowTook u sess 0x1130 [2, 3, 4, 5] ∧
        ((s.staged sess 0x1130).n 2 = 0 → ∀ e ∈ u.sess.tbl, e.2.account ≠ some (s.staged sess 0x1130).row) ∧ u = { s.logged u with np := u.np }) ∧
    ((s.at t).mayWrite sess 0x6001 4 (.nat 1) = true → Done (.acknowledgeErrors t sess 1) s fun u =>
        u.ev.register = 0 ∧ u.answered sess 0 ∧ (s.emcyOn = true → ∃ w, Out.emcy s.emcyCob w 0 0 none ∈ u.out) ∧
        s.otherObjects u [] ∧ u = { s.logged u with np := u.np }) ∧
    (∀ v, (s.at t).mayWrite sess 0x1100 1 (.nat v) = true → Done (.canNodeIdWrite t sess v) s fun u =>
        u.ob 0x1100 1 = v ∧ u.sess.can.conflict = false ∧ u.answered sess 0 ∧ s.otherObjects u [objKey 0x1100 0 1] ∧ u = { s.logged u with np := u.np })

/-- Each command of the CAN port and of M0 and M1 completes with its effect: requests are answered, segmented transfers begin and time out, NMT commands stop and restart the port, heartbeats go out, conflicts and bus-off are told, frames are counted once, supervised and missed. -/
def Obligations.ManagementPortActs : Prop :=
  ∀ (s : State) (t : Nat), s.railsOn →
    (∀ x idx sub, s.canServes = true → s.session? 1 = some x → s.readCode x idx sub = 0 →
      Done (.sdoRequest t (.read idx sub)) s fun u => (∃ v, Out.reply 1 0 (some v) ∈ u.out) ∧ u = { s.logged u with core := u.core, fab := u.fab, vcore := u.vcore }) ∧
    (∀ x idx sub, s.canServes = true → s.session? 1 = some x → s.readCode x idx sub ≠ 0 →
      Done (.sdoRequest t (.read idx sub)) s fun u =>
        u.answered 1 (s.readCode x idx sub) ∧ s.otherObjects u [] ∧ u = { s.logged u with core := u.core, vcore := u.vcore }) ∧
    (∀ idx sub v, s.canServes = true → (s.session? 1).isSome = true →
      Done (.sdoRequest t (.segment true false idx sub v)) s fun u =>
        u.sess.can.transfer = some (max s.now t, idx, sub) ∧ s.otherObjects u [] ∧ u = { s.logged u with core := u.core, vcore := u.vcore }) ∧
    (s.canServes = true → s.session? 1 = none →
      Done (.usdoRequest t .invalid) s fun u =>
        u.o 0x6021 0 8 = satAdd (s.o 0x6021 0 8) 1 ∧ Out.canAbort 0x05040001 ∈ u.out ∧
        (∃ x, u.session? 1 = some x ∧ x.transport = .can) ∧ u = { s.logged u with core := u.core, vcore := u.vcore }) ∧
    (∀ x idx sub, s.canServes = true → s.session? 1 = some x → s.readCode x idx sub = 0 →
      Done (.usdoRequest t (.read idx sub)) s fun u => (∃ v, Out.reply 1 0 (some v) ∈ u.out) ∧ u = { s.logged u with core := u.core, fab := u.fab, vcore := u.vcore }) ∧
    (∀ w a b, s.sess.can.transfer = some (w, a, b) → w + sNs ≤ max s.now t → s.canServes = true →
      Done (.sdoTransferTimeout t) s fun u =>
        u.sess.can.transfer = none ∧ u.o 0x6021 0 9 = satAdd (s.o 0x6021 0 9) 1 ∧ Out.canAbort 0x05040000 ∈ u.out ∧ u = s.logged u) ∧
    (Done (.nmtStop t) s fun u => u = (s.at t).setCan { s.sess.can with nmt := .stopped }) ∧
    (s.sess.can.conflict = false →
      Done (.nmtResetNode t) s fun u =>
        u.sess.can = {} ∧ u.session? 1 = none ∧ Out.canHeartbeat (s.ob 0x1100 1) 0 ∈ u.out ∧ s.otherObjects u [] ∧ u = s.logged u) ∧
    (s.sess.can.conflict = true →
      Done (.nmtResetCommunication t) s fun u =>
        u.sess.can = { conflict := true } ∧ u.session? 1 = none ∧ u.out = s.out ∧ s.otherObjects u [] ∧ u = s.logged u) ∧
    (∀ w, s.ob 0x1017 0 ≠ 0 → s.sess.can.lastHeartbeat = some w → w + s.ob 0x1017 0 * msNs ≤ max s.now t →
      Done (.canHeartbeatSend t) s fun u =>
        u = ((s.at t).setCan { s.sess.can with lastHeartbeat := some (max s.now t) }).emit
          (.canHeartbeat (s.ob 0x1100 1) (if s.sess.can.nmt = .stopped then 4 else 5))) ∧
    (s.sess.can.conflict = false →
      Done (.canNodeIdConflict t) s fun u =>
        u.sess.can.conflict = true ∧ u.o 0x6021 0 0xA = satAdd (s.o 0x6021 0 0xA) 1 ∧
        u.told .canNodeIdConflict [s.ob 0x1100 1] ∧ u = s.logged u) ∧
    (Done (.canBusOff t) s fun u => u.told .canBusOff [] ∧ s.otherObjects u [] ∧ u = s.logged u) ∧
    (∀ p f, p < 2 → s.ob 0x1111 (p + 1) ≠ 0 → (s.at t).mgmtDuplicate f = false → f.isReachability = true →
      Done (.managementFrameReceived t p f) s fun u =>
        Tbl.find? u.sess.mgmt.lastRx p = some (max s.now t) ∧ u.o 0x1111 0 (p + 3) = satAdd (s.o 0x1111 0 (p + 3)) 1 ∧
        Out.mgmtReply 0 s.sess.mgmt.txSeq ∈ u.out ∧ Out.mgmtReply 1 s.sess.mgmt.txSeq ∈ u.out ∧
        u.sess.mgmt.txSeq = (s.sess.mgmt.txSeq + 1) % 65536 ∧ u.o 0x1111 0 5 = s.o 0x1111 0 5 ∧ u = s.logged u) ∧
    (∀ p f, p < 2 → s.ob 0x1111 (p + 1) ≠ 0 → (s.at t).mgmtDuplicate f = true →
      Done (.managementFrameReceived t p f) s fun u =>
        u.o 0x1111 0 5 = satAdd (s.o 0x1111 0 5) 1 ∧ u.out = s.out ∧ u = s.logged u) ∧
    (∀ w, s.sess.mgmt.lastSupervision = some w → w + 2 * sNs ≤ max s.now t →
      Done (.supervisionFrameSend t) s fun u =>
        Out.supervision 0 s.sess.mgmt.txSeq ∈ u.out ∧ Out.supervision 1 s.sess.mgmt.txSeq ∈ u.out ∧
        u.sess.mgmt.txSeq = (s.sess.mgmt.txSeq + 1) % 65536 ∧ u.sess.mgmt.lastSupervision = some (max s.now t) ∧
        s.otherObjects u [] ∧ u = s.logged u) ∧
    (∀ p w v, p < 2 → Tbl.find? s.sess.mgmt.lastRx p = some w → w + 10 * sNs ≤ max s.now t →
      Tbl.find? s.sess.mgmt.lastRx (1 - p) = some v → max s.now t < v + 10 * sNs → Tbl.get false s.sess.mgmt.lanLost p = false →
      Done (.managementLanLost t p) s fun u =>
        Tbl.get false u.sess.mgmt.lanLost p = true ∧ u.told .managementLanLost [p] ∧ s.otherObjects u [] ∧ u = s.logged u)

/-- Each command of an image's transfer, trial and attestation completes with its effect: a transfer begins, its bytes are kept, a refused header, an abort and a timeout end it with their reasons, the slot is rewritten, an image in trial is confirmed or reverted, a nonce is kept and answered with a report, and a boot ends in loader-only mode or in service. -/
def Obligations.ImageActs : Prop :=
  ∀ (s : State) (t sess : Nat), s.railsOn →
    ((s.at t).mayWrite sess 0x2301 4 (.nat 1) = true → s.ob 0x2300 4 ≠ 1 → s.ob 0x2300 4 ≠ 2 → s.activating = false → s.pwr.storm = false → Done (.imageBegin t sess 1) s fun u =>
        u.ob 0x2301 1 = 1 ∧ u.ob 0x2301 6 = 0 ∧ u.fw = { s.fw with rx := 0, rxLen := 0, rxAt := max s.now t } ∧
        u.answered sess 0 ∧ s.otherObjects u [objKey 0x2301 0 1, objKey 0x2301 0 6] ∧ u = { s.logged u with np := u.np, fw := u.fw }) ∧
    (∀ len content check, (s.at t).mayWrite sess 0x2301 3 (.oct len (leField len content)) = true → s.ob 0x2301 1 = 1 → s.fw.rxLen + len < 4096 → Done (.imageData t sess len content check) s fun u =>
        u.fw = { s.fw with
          rx := s.fw.rx + content % 256 ^ len * 256 ^ s.fw.rxLen, rxLen := s.fw.rxLen + len, rxAt := max s.now t } ∧
        u.answered sess 0 ∧ s.otherObjects u [] ∧ u = { s.logged u with np := u.np, fw := u.fw }) ∧
    (∀ len content check, (s.at t).mayWrite sess 0x2301 3 (.oct len (leField len content)) = true → s.ob 0x2301 1 = 1 → s.fw.rxLen + len = 4096 → s.receiveCode { len := 4096, data := s.fw.rx + content % 256 ^ len * 256 ^ s.fw.rxLen } ≠ 0 → Done (.imageData t sess len content check) s fun u =>
        u.ob 0x2301 1 = 4 ∧
        u.ob 0x2301 6 = s.receiveCode { len := 4096, data := s.fw.rx + content % 256 ^ len * 256 ^ s.fw.rxLen } ∧
        u.fw.slot = s.fw.slot ∧ u.answered sess 0 ∧ u = { s.logged u with np := u.np, fw := u.fw }) ∧
    ((s.at t).mayWrite sess 0x2301 5 (.nat 1) = true → s.receiving = true → Done (.imageAbort t sess 1) s fun u =>
        u.ob 0x2301 1 = 4 ∧ u.ob 0x2301 6 = 9 ∧ u.answered sess 0 ∧
        s.otherObjects u [objKey 0x2301 0 1, objKey 0x2301 0 6] ∧ u = { s.logged u with np := u.np }) ∧
    (s.receiving = true → s.fw.rxAt + 600 * sNs ≤ max s.now t →
      Done (.imageTransferTimeout t) s fun u => u = ((s.at t).put 0x2301 0 1 4).put 0x2301 0 6 10) ∧
    (s.ob 0x2300 4 = 2 →
      Done (.slotRewriteComplete t) s fun u =>
        u.fw = { s.fw with slot := s.fw.fallback, rejected := false, fresh := false, trial := false, trialBoots := 0 } ∧
        u.ob 0x2300 4 = 0 ∧ s.otherObjects u [objKey 0x2300 0 4] ∧ u = { s.logged u with fw := u.fw }) ∧
    ((s.at t).mayWrite sess 0x2302 8 (.nat 1) = true → s.ob 0x2300 4 = 1 → Done (.confirm t sess 1) s fun u =>
        s.confirmed u ∧ u.answered sess 0 ∧ u = { s.logged u with np := u.np, fw := u.fw }) ∧
    (s.serving = true → s.ob 0x2404 1 = 0 → s.ob 0x2302 0xA ≠ 0 → s.fw.rejected = false → s.ob 0x2300 4 = 1 →
      max s.fw.bootAt s.twin.failedAt + s.ob 0x2302 0xA * sNs ≤ max s.now t →
      Done (.trialTimeExpiry t) s fun u => s.confirmed u ∧ u = { s.logged u with fw := u.fw }) ∧
    ((s.at t).mayWrite sess 0x2302 9 (.nat 1) = true → s.ob 0x2300 4 = 1 → s.dirtyBytes = 0 → s.arrays.isEmpty = true → Done (.revert t sess 1) s fun u =>
        u.inReset ∧ u.answered sess 0) ∧
    (∀ nonce, (s.at t).mayWrite sess 0x2320 1 (.oct 48 nonce) = true → Done (.attestationNonceWrite t sess nonce) s fun u =>
        (∃ x, u.session? sess = some x ∧ x.nonce = nonce) ∧ u.answered sess 0 ∧ s.otherObjects u [] ∧ u = { s.logged u with np := u.np }) ∧
    (∀ x, s.session? sess = some x →
      Done (.attestationReportRead t sess) s fun u =>
        Out.reply sess 0 (some (.oct ((s.at t).report x.nonce).1 ((s.at t).report x.nonce).2)) ∈ u.out ∧
        s.otherObjects u [] ∧ u = { s.logged u with np := u.np })

/-- With good input power, no storm and no shutdown, a module that does not run boots: a loader that does not verify halts it for good; without an image it comes up in loader-only mode and silent; with one it sends its boot-up message. -/
def Obligations.BootActs : Prop :=
  ∀ (s : State) (t : Nat) (e : BootEnv), s.pwr.off = true → s.pwr.good = true → s.pwr.storm = false → s.land.hot = false →
    s.fw.halted = false →
    (e.loaderOk = false → Done (.boot t e) s fun u => u.fw = { s.fw with halted := true } ∧ s.otherObjects u [] ∧ u = { s.logged u with core := u.core, fw := u.fw, vcore := u.vcore }) ∧
    (e.loaderOk = true → s.fw.slot = none → s.fw.fallback = none →
      Done (.boot t e) s fun u =>
        u.pwr.off = false ∧ u.twin.stopped = true ∧ u.fw.source = 3 ∧ u.fw.bootAt = max s.now t ∧ u.vcore = 8200 ∧
        Out.canHeartbeat (u.ob 0x1100 1) 0 ∈ u.out) ∧
    (e.loaderOk = true → Done (.boot t e) s fun u => Out.canHeartbeat (u.ob 0x1100 1) 0 ∈ u.out)

/-- Each command of an activation completes with its effect: a due time is computed and kept, a cancellation and each timeout end it in state 5 with an event, a due activation waits for the time status, and one with nothing to flush or to drain resets the module. -/
def Obligations.ActivationActs : Prop :=
  ∀ (s : State) (t sess : Nat), s.railsOn →
    (∀ due, (s.at t).mayWrite sess 0x2302 1 (.nat due) = true → due ≠ 0 → s.ob 0x2301 1 = 3 → s.loaderOnly = false → (s.at t).ptpNow < (s.dueTime due : Int) → Done (.activationSchedule t sess due) s fun u =>
        u.ob 0x2302 1 = due ∧ u.ob 0x2302 0xB = s.dueTime due ∧ u.ob 0x2302 6 = 1 ∧ u.answered sess 0 ∧
        s.otherObjects u [objKey 0x2302 0 1, objKey 0x2302 0 6, objKey 0x2302 0 0xB] ∧ u = { s.logged u with np := u.np }) ∧
    ((s.at t).mayWrite sess 0x2302 7 (.nat 1) = true → s.ob 0x2302 6 = 1 → s.fw.drainAt = none → Done (.activationCancel t sess 1) s fun u =>
        s.cancelled u ∧ u.answered sess 0 ∧ u = { s.logged u with np := u.np, pwr := u.pwr, fw := u.fw }) ∧
    (s.fw.goal = none → (s.at t).activationIsDue = true → s.loaderOnly = false → s.ob 0x2301 1 = 3 → s.timeGood = false →
      Done (.activationDue t) s fun u => u = (s.at t).put 0x2302 0 6 2) ∧
    (s.fw.goal = none → (s.at t).activationIsDue = true → s.loaderOnly = false → s.ob 0x2301 1 = 3 → s.timeGood = true →
      s.twin.twinMode = false → s.dirtyBytes = 0 → s.arrays = [] →
      Done (.activationDue t) s fun u => u.inReset) ∧
    (s.fw.goal = none → (s.at t).activationIsDue = true → s.loaderOnly = false → s.ob 0x2301 1 ≠ 3 → s.fw.drainAt = none →
      Done (.activationDue t) s fun u => s.cancelled u ∧ u = { s.logged u with pwr := u.pwr, fw := u.fw }) ∧
    (s.ob 0x2302 6 = 2 → s.timeGood = false → (s.ob 0x2302 0xB + 600 * sNs : Int) ≤ (s.at t).ptpNow → s.fw.drainAt = none →
      Done (.activationWaitTimeout t) s fun u => s.cancelled u ∧ u = { s.logged u with pwr := u.pwr, fw := u.fw }) ∧
    (s.fw.goal = some .activate → s.dirtyBytes ≠ 0 → s.fw.flushAt + 60 * sNs ≤ max s.now t → s.fw.drainAt = none →
      Done (.activationFlushTimeout t) s fun u => s.cancelled u ∧ u = { s.logged u with pwr := u.pwr, fw := u.fw }) ∧
    (s.fw.goal = some .revert → s.dirtyBytes ≠ 0 → s.fw.flushAt + 60 * sNs ≤ max s.now t →
      Done (.activationFlushTimeout t) s fun u =>
        u = { (s.at t) with fw := { s.fw with goal := none }, pwr := { s.pwr with flushAll := false } }) ∧
    (s.fw.drainAt = none → (s.at t).mayDrain = true → s.arrays = [] → s.ifRows = [] →
      Done (.drainStart t) s fun u =>
        match (s.at t).peerFirst with
        | true => u = (s.at t).drawn
        | false => u.inReset) ∧
    (s.fw.drainAt = none → (s.at t).mayDrain = false → Done (.drainStart t) s fun u => u = s.at t) ∧
    (s.fw.drainAt.isSome = true → s.ownArrays = [] → Done (.drainStart t) s fun u => u.inReset) ∧
    (∀ w, s.fw.drainAt = some w → w + 9 * sNs ≤ max s.now t → s.ownArrays ≠ [] → s.nvme.ctrls = [] →
      Done (.drainTimeout t) s fun u =>
        s.cancelled u ∧ (∀ a ∈ s.ownArrays, u.o 0x2410 a 4 ≠ 1) ∧ u = { s.logged u with pwr := u.pwr, fw := u.fw }) ∧
    (s.fw.drainAt.isSome = true → s.ownArrays = [] → Done (.drainTimeout t) s fun u => u.inReset)

/-- Each command of the lands completes with its effect: a thermal warning stands and clears, a thermal shutdown ends service, a sideband and a link of a management port are followed, a frame lights the lamps, a lamp test runs and ends, an activity pulse darkens a lamp, and faulty inputs are cleared. -/
def Obligations.LandActs : Prop :=
  ∀ (s : State) (t sess : Nat), s.railsOn →
    (∀ tj : Int, 1050 ≤ tj → s.land.warnedAt = none →
      Done (.thermalWarning t tj) s fun u =>
        u.val 0x2006 0 0 = .int tj ∧ u.ob 0x2007 6 = 1 ∧ u.land.warnedAt = some (max s.now t) ∧
        u.told .thermalWarning [tj.toNat] ∧ s.otherObjects u [objKey 0x2006 0 0, objKey 0x2007 0 6] ∧ u = { s.logged u with land := u.land }) ∧
    (∀ (tj : Int) w, 1050 ≤ tj → s.land.warnedAt = some w → max s.now t < w + 60 * sNs →
      Done (.thermalWarning t tj) s fun u => u = ((s.at t).setVal 0x2006 0 0 (.int tj)).put 0x2007 0 6 1) ∧
    (∀ tj : Int, tj < 1030 →
      Done (.thermalWarningClear t tj) s fun u => u = ((s.at t).setVal 0x2006 0 0 (.int tj)).put 0x2007 0 6 0) ∧
    (∀ tj : Int, 1150 ≤ tj → s.land.hot = false → s.pwr.storm = false → s.paired = true →
      Done (.thermalShutdown t tj) s fun u =>
        u.pwr.off = true ∧ u.arr.pages = [] ∧ u.arr.intent = [] ∧ u.twin.mirror = [] ∧ u.twin.linked = false ∧
        (∀ c ∈ u.hbm, 0x10000000000 ≤ c.1)) ∧
    (∀ tj : Int, 1150 ≤ tj → s.land.hot = false → s.pwr.storm = false → s.twin.twinMode = false →
      Done (.thermalShutdown t tj) s fun u => u.ev.vault = u.ev.log.take 256) ∧
    (∀ p, p < 2 → bit s.land.mgmt (2 * p) = true → s.inputFaulty 3 (2 * p) = false →
      (within (max s.now t) (60 * sNs) (max s.now t :: Tbl.get [] s.land.changes (mgmtLine (2 * p)))).length ≤ 8 →
      Done (.managementSidebandChange t p .prs false) s fun u =>
        u.land.mgmt = clearBit s.land.mgmt (2 * p) ∧ u.o 0x1111 0 (1 + p) = 0 ∧
        s.otherObjects u [objKey 0x1111 0 (1 + p)] ∧ u = { s.logged u with land := u.land }) ∧
    (∀ p k, p < 2 → k < 3 → s.mgmtMayLink p = true →
      Done (.managementLinkChange t p k) s fun u => u = (s.at t).put 0x1111 0 (1 + p) k) ∧
    (∀ sense drive, s.land.frameAt = none →
      Done (.indicatorFrame t sense drive) s fun u =>
        u.land.frameAt = some (max s.now t) ∧
        u.land.lamps = sumNat (((List.range 48).filter (s.at t).lampOn).map fun n => 2 ^ n) ∧
        u.land.drive = (if (s.at t).testing then (10, 100) else (s.ob 0x5220 1, s.ob 0x5220 2))) ∧
    ((s.at t).mayWrite sess 0x5220 3 (.nat 1) = true → s.pwr.storm = false → Done (.lampTest t sess 1) s fun u =>
        u.land = { s.land with testAt := some (max s.now t), frames := 0, opens := [] } ∧ u.answered sess 0 ∧
        s.otherObjects u [] ∧ u = { s.logged u with np := u.np, land := u.land }) ∧
    (∀ w, s.land.testAt = some w → w + 3 * sNs ≤ max s.now t → s.land.opens = [] →
      Done (.lampTestEnd t) s fun u =>
        u.land = { s.land with testAt := none } ∧ u.ob 0x5220 4 = 0 ∧ s.otherObjects u [objKey 0x5220 0 4] ∧ u = { s.logged u with land := u.land }) ∧
    (∀ w n k, s.land.testAt = some w → w + 3 * sNs ≤ max s.now t → s.land.opens = [(n, k)] → s.land.frames < 2 * k →
      Done (.lampTestEnd t) s fun u => u.ob 0x5220 4 = 2 ^ n ∧ u.told .lampOpen [2 ^ n] ∧ u = { s.logged u with land := u.land }) ∧
    (∀ n, n < 24 → Done (.activityPulse t n) s fun u =>
      u = { (s.at t) with land := { s.land with pulses := Tbl.set s.land.pulses n (max s.now t) } }) ∧
    ((s.at t).mayWrite sess 0x5223 5 (.nat 1) = true → (∀ n, n < 8 → s.inputFaulty 1 n = false) → (∀ n, n < 2 → s.inputFaulty 2 n = false) → Done (.clearFaultyInputs t sess 1) s fun u =>
        (∀ k, 1 ≤ k → k ≤ 4 → u.ob 0x5223 k = 0) ∧ u.land.changes = [] ∧ u.answered sess 0 ∧ u = { s.logged u with np := u.np, land := u.land })

/-- After a thermal shutdown the module is off and hot; THERMAL_RESTART below 95.0 °C ends the shutdown and changes nothing else, and at 95.0 °C or above it changes nothing. -/
def Obligations.ThermalRestart : Prop :=
  ∀ (s : State) (t : Nat) (tj : Int), s.land.hot = true → s.pwr.off = true → s.railOk →
    (tj < 950 → Done (.thermalRestart t tj) s fun u => u = { (s.at t) with land := { s.land with hot := false } }) ∧
    (950 ≤ tj → Done (.thermalRestart t tj) s fun u => u = s.at t)
end

