-- ==== Sys2Proof/Laws/Memory.lean ====
section
/-! SUPPORT. The laws of module memory: a byte written is read back, every other byte stays, and every write keeps the
canonical form. -/

namespace Sys2Proof.Machine

/-- Every listed address lies above `a`. -/
def Memory.above (a : Nat) : List Host.Cell → Prop
  | [] => True
  | (k, _) :: _ => a < k

theorem Memory.wf_cons {a : Nat} {b : Byte} {r : List Host.Cell} :
    Memory.wf ((a, b) :: r) = true ↔ b ≠ 0 ∧ Memory.above a r ∧ Memory.wf r = true := by
  cases r with
  | nil => simp [Memory.wf, Memory.above]
  | cons e r => obtain ⟨k, c⟩ := e; simp [Memory.wf, Memory.above, and_assoc]

theorem Memory.above_trans {a k : Nat} {r : List Host.Cell} (h : a < k) (hr : Memory.above k r) : Memory.above a r := by
  cases r with
  | nil => trivial
  | cons e r => exact Nat.lt_trans h hr

theorem Memory.read_of_above {a : Nat} {r : List Host.Cell} (hr : Memory.above a r) (hw : Memory.wf r = true) :
    Memory.read r a = 0 := by
  induction r with
  | nil => rfl
  | cons e r ih =>
    obtain ⟨k, b⟩ := e
    obtain ⟨-, h1, h2⟩ := Memory.wf_cons.1 hw
    have hk : a < k := hr
    simp [Memory.read, Nat.ne_of_gt hk, ih (Memory.above_trans hk h1) h2]

theorem Memory.above_write {k a : Nat} {b : Byte} {r : List Host.Cell} (h : k < a) (hr : Memory.above k r)
    (hw : Memory.wf r = true) : Memory.above k (Memory.write r a b) := by
  cases r with
  | nil => by_cases hb : b = 0#8 <;> simp [Memory.write, hb, Memory.above, h]
  | cons e r =>
    obtain ⟨j, c⟩ := e
    have hj : k < j := hr
    by_cases h1 : a < j
    · by_cases hb : b = 0#8 <;> simp [Memory.write, h1, hb, Memory.above, h, hj]
    · by_cases h2 : a = j
      · subst h2
        by_cases hb : b = 0#8
        · simpa [Memory.write, hb] using Memory.above_trans hj (Memory.wf_cons.1 hw).2.1
        · simp [Memory.write, hb, Memory.above, hj]
      · simp [Memory.write, h1, h2, Memory.above, hj]

/-- A write keeps the canonical form. -/
theorem Memory.wf_write {m : List Host.Cell} (a : Nat) (b : Byte) (h : Memory.wf m = true) :
    Memory.wf (Memory.write m a b) = true := by
  induction m with
  | nil => by_cases hb : b = 0#8 <;> simp [Memory.write, hb, Memory.wf]
  | cons e r ih =>
    obtain ⟨k, c⟩ := e
    obtain ⟨hc, hr, hw⟩ := Memory.wf_cons.1 h
    by_cases h1 : a < k
    · by_cases hb : b = 0#8
      · simpa [Memory.write, h1, hb] using h
      · simpa [Memory.write, h1, hb, Memory.wf_cons (a := a)] using ⟨h1, h⟩
    · by_cases h2 : a = k
      · subst h2
        by_cases hb : b = 0#8
        · simpa [Memory.write, hb] using hw
        · simpa [Memory.write, hb, Memory.wf_cons] using ⟨hr, hw⟩
      · simp only [Memory.write, h1, if_false, h2]
        exact Memory.wf_cons.2 ⟨hc, Memory.above_write (by omega) hr hw, ih hw⟩

/-- A read after a write gives the byte written at its address and the byte before at every other. -/
theorem Memory.read_write {m : List Host.Cell} (a j : Nat) (b : Byte) (h : Memory.wf m = true) :
    Memory.read (Memory.write m a b) j = if a = j then b else Memory.read m j := by
  induction m with
  | nil => by_cases hb : b = 0#8 <;> simp [Memory.write, hb, Memory.read]
  | cons e r ih =>
    obtain ⟨k, c⟩ := e
    obtain ⟨hc, hr, hw⟩ := Memory.wf_cons.1 h
    by_cases h1 : a < k
    · by_cases hb : b = 0#8
      · by_cases hj : a = j
        · subst hj
          simp [Memory.write, h1, hb, Memory.read_of_above (a := a) (r := (k, c) :: r) h1 h]
        · simp [Memory.write, h1, hb, hj]
      · simp [Memory.write, h1, hb, Memory.read]
    · by_cases h2 : a = k
      · subst h2
        by_cases hb : b = 0#8
        · by_cases hj : a = j
          · subst hj; simp [Memory.write, hb, Memory.read_of_above hr hw]
          · simp [Memory.write, hb, hj, Memory.read]
        · by_cases hj : a = j <;> simp [Memory.write, hb, Memory.read, hj]
      · by_cases hk : k = j
        · subst hk; simp [Memory.write, h1, h2, Memory.read]
        · simp [Memory.write, h1, h2, Memory.read, hk, ih hw]

/-- Writing several bytes keeps the canonical form. -/
theorem Memory.wf_writeN {m : List Host.Cell} (a v n : Nat) (h : Memory.wf m = true) :
    Memory.wf (Memory.writeN m a v n) = true := by
  induction n generalizing m a v with
  | zero => exact h
  | succ n ih => exact ih (a + 1) (v / 256) (Memory.wf_write a _ h)

/-- A read after writing `n` bytes of `v`: byte `j - a` of `v` inside, the byte before outside. -/
theorem Memory.read_writeN {m : List Host.Cell} (a v n j : Nat) (h : Memory.wf m = true) :
    Memory.read (Memory.writeN m a v n) j =
      if a ≤ j ∧ j < a + n then BitVec.ofNat 8 (v / 256 ^ (j - a)) else Memory.read m j := by
  induction n generalizing m a v with
  | zero => rw [if_neg (by omega), Memory.writeN]
  | succ n ih =>
    rw [Memory.writeN, ih (a + 1) (v / 256) (Memory.wf_write a _ h), Memory.read_write a j _ h]
    by_cases h1 : a = j
    · subst h1; simp
    · by_cases h2 : a + 1 ≤ j ∧ j < a + 1 + n
      · have : a ≤ j ∧ j < a + (n + 1) := by omega
        obtain ⟨k, rfl⟩ : ∃ k, j = a + 1 + k := ⟨j - (a + 1), by omega⟩
        have e1 : a + 1 + k - (a + 1) = k := by omega
        have e2 : a + 1 + k - a = k + 1 := by omega
        rw [if_pos h2, if_pos this, e1, e2, Nat.div_div_eq_div_mul, pow_succ, Nat.mul_comm]
      · have : ¬ (a ≤ j ∧ j < a + (n + 1)) := by omega
        rw [if_neg h2, if_neg this, if_neg h1]

end Sys2Proof.Machine
end

