-- ==== Sys2Proof/Laws/Tbl.lean ====
section
/-! SUPPORT. What a lookup in a sparse table reads after an update or a removal. -/

namespace Sys2Proof.Machine

@[simp] theorem Tbl.find?_nil {α : Type} (k : Nat) : Tbl.find? ([] : Tbl α) k = none := rfl

theorem Tbl.find?_set {α : Type} (t : Tbl α) (k j : Nat) (v : α) :
    Tbl.find? (Tbl.set t k v) j = if k = j then some v else Tbl.find? t j := by
  induction t with
  | nil => simp [Tbl.set, Tbl.find?]
  | cons e r ih =>
    obtain ⟨a, x⟩ := e
    by_cases h1 : k < a
    · simp [Tbl.set, h1, Tbl.find?]
    · by_cases h2 : a = k
      · subst h2; by_cases h3 : a = j <;> simp [Tbl.set, Tbl.find?, h3]
      · by_cases h3 : a = j
        · subst h3; simp [Tbl.set, h1, h2, Tbl.find?, Ne.symm h2]
        · simp [Tbl.set, h1, h2, Tbl.find?, h3, ih]

@[simp] theorem Tbl.find?_set_self {α : Type} (t : Tbl α) (k : Nat) (v : α) : Tbl.find? (Tbl.set t k v) k = some v := by
  simp [Tbl.find?_set]

theorem Tbl.find?_set_of_ne {α : Type} (t : Tbl α) {k j : Nat} (v : α) (h : k ≠ j) :
    Tbl.find? (Tbl.set t k v) j = Tbl.find? t j := by simp [Tbl.find?_set, h]

@[simp] theorem Tbl.find?_erase {α : Type} (t : Tbl α) (k j : Nat) :
    Tbl.find? (Tbl.erase t k) j = if k = j then none else Tbl.find? t j := by
  induction t with
  | nil => simp [Tbl.erase]
  | cons e r ih =>
    obtain ⟨a, x⟩ := e
    by_cases h2 : a = k
    · subst h2
      by_cases h3 : a = j
      · subst h3; simp [Tbl.erase, ih]
      · simp [Tbl.erase, Tbl.find?, h3, ih]
    · by_cases h3 : a = j
      · subst h3; simp [Tbl.erase, h2, Tbl.find?, Ne.symm h2]
      · simp [Tbl.erase, h2, Tbl.find?, h3, ih]

@[simp] theorem Tbl.get_set {α : Type} (d : α) (t : Tbl α) (k j : Nat) (v : α) :
    Tbl.get d (Tbl.set t k v) j = if k = j then v else Tbl.get d t j := by
  simp only [Tbl.get, Tbl.find?_set]; split <;> rfl

@[simp] theorem Tbl.get_erase {α : Type} (d : α) (t : Tbl α) (k j : Nat) :
    Tbl.get d (Tbl.erase t k) j = if k = j then d else Tbl.get d t j := by
  simp only [Tbl.get, Tbl.find?_erase]; split <;> rfl

@[simp] theorem Tbl.has_set {α : Type} (t : Tbl α) (k j : Nat) (v : α) :
    Tbl.has (Tbl.set t k v) j = (decide (k = j) || Tbl.has t j) := by
  by_cases h : k = j <;> simp [Tbl.has, Tbl.find?_set, h]

@[simp] theorem Tbl.has_erase {α : Type} (t : Tbl α) (k j : Nat) :
    Tbl.has (Tbl.erase t k) j = (!decide (k = j) && Tbl.has t j) := by
  by_cases h : k = j <;> simp [Tbl.has, h]

end Sys2Proof.Machine
end

