-- ==== Sys2Proof/Laws/State.lean ====
section
/-! SUPPORT. The small laws of the state: what each plain update leaves in each field, and what each lookup reads after it. -/

namespace Sys2Proof.Machine

/-! ### `State.at` -/

@[simp] theorem State.at_now (s : State) (t : Nat) : (s.at t).now = max s.now t := rfl
@[simp] theorem State.at_pending (s : State) (t : Nat) : (s.at t).pending = s.pending := rfl
@[simp] theorem State.at_hbm (s : State) (t : Nat) : (s.at t).hbm = s.hbm := rfl
@[simp] theorem State.at_vcore (s : State) (t : Nat) : (s.at t).vcore = s.vcore := rfl
@[simp] theorem State.at_free (s : State) (t : Nat) : (s.at t).free = s.free := rfl
@[simp] theorem State.at_out (s : State) (t : Nat) : (s.at t).out = s.out := rfl
@[simp] theorem State.at_dict (s : State) (t : Nat) : (s.at t).dict = s.dict := rfl
@[simp] theorem State.at_sess (s : State) (t : Nat) : (s.at t).sess = s.sess := rfl
@[simp] theorem State.at_ev (s : State) (t : Nat) : (s.at t).ev = s.ev := rfl
@[simp] theorem State.at_rings (s : State) (t : Nat) : (s.at t).rings = s.rings := rfl
@[simp] theorem State.at_core (s : State) (t : Nat) : (s.at t).core = s.core := rfl
@[simp] theorem State.at_fab (s : State) (t : Nat) : (s.at t).fab = s.fab := rfl
@[simp] theorem State.at_eth (s : State) (t : Nat) : (s.at t).eth = s.eth := rfl
@[simp] theorem State.at_ptp (s : State) (t : Nat) : (s.at t).ptp = s.ptp := rfl
@[simp] theorem State.at_rdma (s : State) (t : Nat) : (s.at t).rdma = s.rdma := rfl
@[simp] theorem State.at_nvme (s : State) (t : Nat) : (s.at t).nvme = s.nvme := rfl
@[simp] theorem State.at_sched (s : State) (t : Nat) : (s.at t).sched = s.sched := rfl
@[simp] theorem State.at_arr (s : State) (t : Nat) : (s.at t).arr = s.arr := rfl
@[simp] theorem State.at_slot (s : State) (t : Nat) : (s.at t).slot = s.slot := rfl
@[simp] theorem State.at_np (s : State) (t : Nat) : (s.at t).np = s.np := rfl
@[simp] theorem State.at_dma (s : State) (t : Nat) : (s.at t).dma = s.dma := rfl
@[simp] theorem State.at_meter (s : State) (t : Nat) : (s.at t).meter = s.meter := rfl
@[simp] theorem State.at_twin (s : State) (t : Nat) : (s.at t).twin = s.twin := rfl
@[simp] theorem State.at_pwr (s : State) (t : Nat) : (s.at t).pwr = s.pwr := rfl
@[simp] theorem State.at_land (s : State) (t : Nat) : (s.at t).land = s.land := rfl
@[simp] theorem State.at_fw (s : State) (t : Nat) : (s.at t).fw = s.fw := rfl

/-! ### `State.emit` -/

@[simp] theorem State.emit_now (s : State) (o : Out) : (s.emit o).now = s.now := rfl
@[simp] theorem State.emit_pending (s : State) (o : Out) : (s.emit o).pending = s.pending := rfl
@[simp] theorem State.emit_hbm (s : State) (o : Out) : (s.emit o).hbm = s.hbm := rfl
@[simp] theorem State.emit_vcore (s : State) (o : Out) : (s.emit o).vcore = s.vcore := rfl
@[simp] theorem State.emit_free (s : State) (o : Out) : (s.emit o).free = s.free := rfl
@[simp] theorem State.emit_out (s : State) (o : Out) : (s.emit o).out = o :: s.out := rfl
@[simp] theorem State.emit_dict (s : State) (o : Out) : (s.emit o).dict = s.dict := rfl
@[simp] theorem State.emit_sess (s : State) (o : Out) : (s.emit o).sess = s.sess := rfl
@[simp] theorem State.emit_ev (s : State) (o : Out) : (s.emit o).ev = s.ev := rfl
@[simp] theorem State.emit_rings (s : State) (o : Out) : (s.emit o).rings = s.rings := rfl
@[simp] theorem State.emit_core (s : State) (o : Out) : (s.emit o).core = s.core := rfl
@[simp] theorem State.emit_fab (s : State) (o : Out) : (s.emit o).fab = s.fab := rfl
@[simp] theorem State.emit_eth (s : State) (o : Out) : (s.emit o).eth = s.eth := rfl
@[simp] theorem State.emit_ptp (s : State) (o : Out) : (s.emit o).ptp = s.ptp := rfl
@[simp] theorem State.emit_rdma (s : State) (o : Out) : (s.emit o).rdma = s.rdma := rfl
@[simp] theorem State.emit_nvme (s : State) (o : Out) : (s.emit o).nvme = s.nvme := rfl
@[simp] theorem State.emit_sched (s : State) (o : Out) : (s.emit o).sched = s.sched := rfl
@[simp] theorem State.emit_arr (s : State) (o : Out) : (s.emit o).arr = s.arr := rfl
@[simp] theorem State.emit_slot (s : State) (o : Out) : (s.emit o).slot = s.slot := rfl
@[simp] theorem State.emit_np (s : State) (o : Out) : (s.emit o).np = s.np := rfl
@[simp] theorem State.emit_dma (s : State) (o : Out) : (s.emit o).dma = s.dma := rfl
@[simp] theorem State.emit_meter (s : State) (o : Out) : (s.emit o).meter = s.meter := rfl
@[simp] theorem State.emit_twin (s : State) (o : Out) : (s.emit o).twin = s.twin := rfl
@[simp] theorem State.emit_pwr (s : State) (o : Out) : (s.emit o).pwr = s.pwr := rfl
@[simp] theorem State.emit_land (s : State) (o : Out) : (s.emit o).land = s.land := rfl
@[simp] theorem State.emit_fw (s : State) (o : Out) : (s.emit o).fw = s.fw := rfl

/-! ### `State.drawn` -/

@[simp] theorem State.drawn_now (s : State) : (s.drawn).now = s.now := rfl
@[simp] theorem State.drawn_pending (s : State) : (s.drawn).pending = s.pending := rfl
@[simp] theorem State.drawn_hbm (s : State) : (s.drawn).hbm = s.hbm := rfl
@[simp] theorem State.drawn_vcore (s : State) : (s.drawn).vcore = s.vcore := rfl
@[simp] theorem State.drawn_free (s : State) : (s.drawn).free = s.free + 1 := rfl
@[simp] theorem State.drawn_out (s : State) : (s.drawn).out = s.out := rfl
@[simp] theorem State.drawn_dict (s : State) : (s.drawn).dict = s.dict := rfl
@[simp] theorem State.drawn_sess (s : State) : (s.drawn).sess = s.sess := rfl
@[simp] theorem State.drawn_ev (s : State) : (s.drawn).ev = s.ev := rfl
@[simp] theorem State.drawn_rings (s : State) : (s.drawn).rings = s.rings := rfl
@[simp] theorem State.drawn_core (s : State) : (s.drawn).core = s.core := rfl
@[simp] theorem State.drawn_fab (s : State) : (s.drawn).fab = s.fab := rfl
@[simp] theorem State.drawn_eth (s : State) : (s.drawn).eth = s.eth := rfl
@[simp] theorem State.drawn_ptp (s : State) : (s.drawn).ptp = s.ptp := rfl
@[simp] theorem State.drawn_rdma (s : State) : (s.drawn).rdma = s.rdma := rfl
@[simp] theorem State.drawn_nvme (s : State) : (s.drawn).nvme = s.nvme := rfl
@[simp] theorem State.drawn_sched (s : State) : (s.drawn).sched = s.sched := rfl
@[simp] theorem State.drawn_arr (s : State) : (s.drawn).arr = s.arr := rfl
@[simp] theorem State.drawn_slot (s : State) : (s.drawn).slot = s.slot := rfl
@[simp] theorem State.drawn_np (s : State) : (s.drawn).np = s.np := rfl
@[simp] theorem State.drawn_dma (s : State) : (s.drawn).dma = s.dma := rfl
@[simp] theorem State.drawn_meter (s : State) : (s.drawn).meter = s.meter := rfl
@[simp] theorem State.drawn_twin (s : State) : (s.drawn).twin = s.twin := rfl
@[simp] theorem State.drawn_pwr (s : State) : (s.drawn).pwr = s.pwr := rfl
@[simp] theorem State.drawn_land (s : State) : (s.drawn).land = s.land := rfl
@[simp] theorem State.drawn_fw (s : State) : (s.drawn).fw = s.fw := rfl

/-! ### `State.setVal` -/

@[simp] theorem State.setVal_now (s : State) (idx row sub : Nat) (v : Val) : (s.setVal idx row sub v).now = s.now := rfl
@[simp] theorem State.setVal_pending (s : State) (idx row sub : Nat) (v : Val) :
    (s.setVal idx row sub v).pending = s.pending := rfl
@[simp] theorem State.setVal_hbm (s : State) (idx row sub : Nat) (v : Val) : (s.setVal idx row sub v).hbm = s.hbm := rfl
@[simp] theorem State.setVal_vcore (s : State) (idx row sub : Nat) (v : Val) : (s.setVal idx row sub v).vcore = s.vcore := rfl
@[simp] theorem State.setVal_free (s : State) (idx row sub : Nat) (v : Val) : (s.setVal idx row sub v).free = s.free := rfl
@[simp] theorem State.setVal_out (s : State) (idx row sub : Nat) (v : Val) : (s.setVal idx row sub v).out = s.out := rfl
@[simp] theorem State.setVal_dict (s : State) (idx row sub : Nat) (v : Val) :
    (s.setVal idx row sub v).dict =
      { s.dict with cur := Tbl.set s.dict.cur (objKey idx row sub) v } := rfl
@[simp] theorem State.setVal_sess (s : State) (idx row sub : Nat) (v : Val) : (s.setVal idx row sub v).sess = s.sess := rfl
@[simp] theorem State.setVal_ev (s : State) (idx row sub : Nat) (v : Val) : (s.setVal idx row sub v).ev = s.ev := rfl
@[simp] theorem State.setVal_rings (s : State) (idx row sub : Nat) (v : Val) : (s.setVal idx row sub v).rings = s.rings := rfl
@[simp] theorem State.setVal_core (s : State) (idx row sub : Nat) (v : Val) : (s.setVal idx row sub v).core = s.core := rfl
@[simp] theorem State.setVal_fab (s : State) (idx row sub : Nat) (v : Val) : (s.setVal idx row sub v).fab = s.fab := rfl
@[simp] theorem State.setVal_eth (s : State) (idx row sub : Nat) (v : Val) : (s.setVal idx row sub v).eth = s.eth := rfl
@[simp] theorem State.setVal_ptp (s : State) (idx row sub : Nat) (v : Val) : (s.setVal idx row sub v).ptp = s.ptp := rfl
@[simp] theorem State.setVal_rdma (s : State) (idx row sub : Nat) (v : Val) : (s.setVal idx row sub v).rdma = s.rdma := rfl
@[simp] theorem State.setVal_nvme (s : State) (idx row sub : Nat) (v : Val) : (s.setVal idx row sub v).nvme = s.nvme := rfl
@[simp] theorem State.setVal_sched (s : State) (idx row sub : Nat) (v : Val) : (s.setVal idx row sub v).sched = s.sched := rfl
@[simp] theorem State.setVal_arr (s : State) (idx row sub : Nat) (v : Val) : (s.setVal idx row sub v).arr = s.arr := rfl
@[simp] theorem State.setVal_slot (s : State) (idx row sub : Nat) (v : Val) : (s.setVal idx row sub v).slot = s.slot := rfl
@[simp] theorem State.setVal_np (s : State) (idx row sub : Nat) (v : Val) : (s.setVal idx row sub v).np = s.np := rfl
@[simp] theorem State.setVal_dma (s : State) (idx row sub : Nat) (v : Val) : (s.setVal idx row sub v).dma = s.dma := rfl
@[simp] theorem State.setVal_meter (s : State) (idx row sub : Nat) (v : Val) : (s.setVal idx row sub v).meter = s.meter := rfl
@[simp] theorem State.setVal_twin (s : State) (idx row sub : Nat) (v : Val) : (s.setVal idx row sub v).twin = s.twin := rfl
@[simp] theorem State.setVal_pwr (s : State) (idx row sub : Nat) (v : Val) : (s.setVal idx row sub v).pwr = s.pwr := rfl
@[simp] theorem State.setVal_land (s : State) (idx row sub : Nat) (v : Val) : (s.setVal idx row sub v).land = s.land := rfl
@[simp] theorem State.setVal_fw (s : State) (idx row sub : Nat) (v : Val) : (s.setVal idx row sub v).fw = s.fw := rfl

/-! ### `State.put` -/

@[simp] theorem State.put_now (s : State) (idx row sub n : Nat) : (s.put idx row sub n).now = s.now := rfl
@[simp] theorem State.put_pending (s : State) (idx row sub n : Nat) : (s.put idx row sub n).pending = s.pending := rfl
@[simp] theorem State.put_hbm (s : State) (idx row sub n : Nat) : (s.put idx row sub n).hbm = s.hbm := rfl
@[simp] theorem State.put_vcore (s : State) (idx row sub n : Nat) : (s.put idx row sub n).vcore = s.vcore := rfl
@[simp] theorem State.put_free (s : State) (idx row sub n : Nat) : (s.put idx row sub n).free = s.free := rfl
@[simp] theorem State.put_out (s : State) (idx row sub n : Nat) : (s.put idx row sub n).out = s.out := rfl
@[simp] theorem State.put_dict (s : State) (idx row sub n : Nat) :
    (s.put idx row sub n).dict =
      { s.dict with cur := Tbl.set s.dict.cur (objKey idx row sub) (.nat n) } := rfl
@[simp] theorem State.put_sess (s : State) (idx row sub n : Nat) : (s.put idx row sub n).sess = s.sess := rfl
@[simp] theorem State.put_ev (s : State) (idx row sub n : Nat) : (s.put idx row sub n).ev = s.ev := rfl
@[simp] theorem State.put_rings (s : State) (idx row sub n : Nat) : (s.put idx row sub n).rings = s.rings := rfl
@[simp] theorem State.put_core (s : State) (idx row sub n : Nat) : (s.put idx row sub n).core = s.core := rfl
@[simp] theorem State.put_fab (s : State) (idx row sub n : Nat) : (s.put idx row sub n).fab = s.fab := rfl
@[simp] theorem State.put_eth (s : State) (idx row sub n : Nat) : (s.put idx row sub n).eth = s.eth := rfl
@[simp] theorem State.put_ptp (s : State) (idx row sub n : Nat) : (s.put idx row sub n).ptp = s.ptp := rfl
@[simp] theorem State.put_rdma (s : State) (idx row sub n : Nat) : (s.put idx row sub n).rdma = s.rdma := rfl
@[simp] theorem State.put_nvme (s : State) (idx row sub n : Nat) : (s.put idx row sub n).nvme = s.nvme := rfl
@[simp] theorem State.put_sched (s : State) (idx row sub n : Nat) : (s.put idx row sub n).sched = s.sched := rfl
@[simp] theorem State.put_arr (s : State) (idx row sub n : Nat) : (s.put idx row sub n).arr = s.arr := rfl
@[simp] theorem State.put_slot (s : State) (idx row sub n : Nat) : (s.put idx row sub n).slot = s.slot := rfl
@[simp] theorem State.put_np (s : State) (idx row sub n : Nat) : (s.put idx row sub n).np = s.np := rfl
@[simp] theorem State.put_dma (s : State) (idx row sub n : Nat) : (s.put idx row sub n).dma = s.dma := rfl
@[simp] theorem State.put_meter (s : State) (idx row sub n : Nat) : (s.put idx row sub n).meter = s.meter := rfl
@[simp] theorem State.put_twin (s : State) (idx row sub n : Nat) : (s.put idx row sub n).twin = s.twin := rfl
@[simp] theorem State.put_pwr (s : State) (idx row sub n : Nat) : (s.put idx row sub n).pwr = s.pwr := rfl
@[simp] theorem State.put_land (s : State) (idx row sub n : Nat) : (s.put idx row sub n).land = s.land := rfl
@[simp] theorem State.put_fw (s : State) (idx row sub n : Nat) : (s.put idx row sub n).fw = s.fw := rfl

/-! ### `State.add` -/

@[simp] theorem State.add_now (s : State) (idx row sub n : Nat) : (s.add idx row sub n).now = s.now := rfl
@[simp] theorem State.add_pending (s : State) (idx row sub n : Nat) : (s.add idx row sub n).pending = s.pending := rfl
@[simp] theorem State.add_hbm (s : State) (idx row sub n : Nat) : (s.add idx row sub n).hbm = s.hbm := rfl
@[simp] theorem State.add_vcore (s : State) (idx row sub n : Nat) : (s.add idx row sub n).vcore = s.vcore := rfl
@[simp] theorem State.add_free (s : State) (idx row sub n : Nat) : (s.add idx row sub n).free = s.free := rfl
@[simp] theorem State.add_out (s : State) (idx row sub n : Nat) : (s.add idx row sub n).out = s.out := rfl
@[simp] theorem State.add_dict (s : State) (idx row sub n : Nat) :
    (s.add idx row sub n).dict =
      { s.dict with cur := Tbl.set s.dict.cur (objKey idx row sub) (.nat (satAt idx sub (s.o idx row sub) n)) } := rfl
@[simp] theorem State.add_sess (s : State) (idx row sub n : Nat) : (s.add idx row sub n).sess = s.sess := rfl
@[simp] theorem State.add_ev (s : State) (idx row sub n : Nat) : (s.add idx row sub n).ev = s.ev := rfl
@[simp] theorem State.add_rings (s : State) (idx row sub n : Nat) : (s.add idx row sub n).rings = s.rings := rfl
@[simp] theorem State.add_core (s : State) (idx row sub n : Nat) : (s.add idx row sub n).core = s.core := rfl
@[simp] theorem State.add_fab (s : State) (idx row sub n : Nat) : (s.add idx row sub n).fab = s.fab := rfl
@[simp] theorem State.add_eth (s : State) (idx row sub n : Nat) : (s.add idx row sub n).eth = s.eth := rfl
@[simp] theorem State.add_ptp (s : State) (idx row sub n : Nat) : (s.add idx row sub n).ptp = s.ptp := rfl
@[simp] theorem State.add_rdma (s : State) (idx row sub n : Nat) : (s.add idx row sub n).rdma = s.rdma := rfl
@[simp] theorem State.add_nvme (s : State) (idx row sub n : Nat) : (s.add idx row sub n).nvme = s.nvme := rfl
@[simp] theorem State.add_sched (s : State) (idx row sub n : Nat) : (s.add idx row sub n).sched = s.sched := rfl
@[simp] theorem State.add_arr (s : State) (idx row sub n : Nat) : (s.add idx row sub n).arr = s.arr := rfl
@[simp] theorem State.add_slot (s : State) (idx row sub n : Nat) : (s.add idx row sub n).slot = s.slot := rfl
@[simp] theorem State.add_np (s : State) (idx row sub n : Nat) : (s.add idx row sub n).np = s.np := rfl
@[simp] theorem State.add_dma (s : State) (idx row sub n : Nat) : (s.add idx row sub n).dma = s.dma := rfl
@[simp] theorem State.add_meter (s : State) (idx row sub n : Nat) : (s.add idx row sub n).meter = s.meter := rfl
@[simp] theorem State.add_twin (s : State) (idx row sub n : Nat) : (s.add idx row sub n).twin = s.twin := rfl
@[simp] theorem State.add_pwr (s : State) (idx row sub n : Nat) : (s.add idx row sub n).pwr = s.pwr := rfl
@[simp] theorem State.add_land (s : State) (idx row sub n : Nat) : (s.add idx row sub n).land = s.land := rfl
@[simp] theorem State.add_fw (s : State) (idx row sub n : Nat) : (s.add idx row sub n).fw = s.fw := rfl

/-! ### `State.bump` -/

@[simp] theorem State.bump_now (s : State) (idx row sub : Nat) : (s.bump idx row sub).now = s.now := rfl
@[simp] theorem State.bump_pending (s : State) (idx row sub : Nat) : (s.bump idx row sub).pending = s.pending := rfl
@[simp] theorem State.bump_hbm (s : State) (idx row sub : Nat) : (s.bump idx row sub).hbm = s.hbm := rfl
@[simp] theorem State.bump_vcore (s : State) (idx row sub : Nat) : (s.bump idx row sub).vcore = s.vcore := rfl
@[simp] theorem State.bump_free (s : State) (idx row sub : Nat) : (s.bump idx row sub).free = s.free := rfl
@[simp] theorem State.bump_out (s : State) (idx row sub : Nat) : (s.bump idx row sub).out = s.out := rfl
@[simp] theorem State.bump_dict (s : State) (idx row sub : Nat) :
    (s.bump idx row sub).dict =
      { s.dict with cur := Tbl.set s.dict.cur (objKey idx row sub) (.nat (satAt idx sub (s.o idx row sub) 1)) } := rfl
@[simp] theorem State.bump_sess (s : State) (idx row sub : Nat) : (s.bump idx row sub).sess = s.sess := rfl
@[simp] theorem State.bump_ev (s : State) (idx row sub : Nat) : (s.bump idx row sub).ev = s.ev := rfl
@[simp] theorem State.bump_rings (s : State) (idx row sub : Nat) : (s.bump idx row sub).rings = s.rings := rfl
@[simp] theorem State.bump_core (s : State) (idx row sub : Nat) : (s.bump idx row sub).core = s.core := rfl
@[simp] theorem State.bump_fab (s : State) (idx row sub : Nat) : (s.bump idx row sub).fab = s.fab := rfl
@[simp] theorem State.bump_eth (s : State) (idx row sub : Nat) : (s.bump idx row sub).eth = s.eth := rfl
@[simp] theorem State.bump_ptp (s : State) (idx row sub : Nat) : (s.bump idx row sub).ptp = s.ptp := rfl
@[simp] theorem State.bump_rdma (s : State) (idx row sub : Nat) : (s.bump idx row sub).rdma = s.rdma := rfl
@[simp] theorem State.bump_nvme (s : State) (idx row sub : Nat) : (s.bump idx row sub).nvme = s.nvme := rfl
@[simp] theorem State.bump_sched (s : State) (idx row sub : Nat) : (s.bump idx row sub).sched = s.sched := rfl
@[simp] theorem State.bump_arr (s : State) (idx row sub : Nat) : (s.bump idx row sub).arr = s.arr := rfl
@[simp] theorem State.bump_slot (s : State) (idx row sub : Nat) : (s.bump idx row sub).slot = s.slot := rfl
@[simp] theorem State.bump_np (s : State) (idx row sub : Nat) : (s.bump idx row sub).np = s.np := rfl
@[simp] theorem State.bump_dma (s : State) (idx row sub : Nat) : (s.bump idx row sub).dma = s.dma := rfl
@[simp] theorem State.bump_meter (s : State) (idx row sub : Nat) : (s.bump idx row sub).meter = s.meter := rfl
@[simp] theorem State.bump_twin (s : State) (idx row sub : Nat) : (s.bump idx row sub).twin = s.twin := rfl
@[simp] theorem State.bump_pwr (s : State) (idx row sub : Nat) : (s.bump idx row sub).pwr = s.pwr := rfl
@[simp] theorem State.bump_land (s : State) (idx row sub : Nat) : (s.bump idx row sub).land = s.land := rfl
@[simp] theorem State.bump_fw (s : State) (idx row sub : Nat) : (s.bump idx row sub).fw = s.fw := rfl

/-! ### `State.setSession` -/

@[simp] theorem State.setSession_now (s : State) (id : Nat) (x : Session) : (s.setSession id x).now = s.now := rfl
@[simp] theorem State.setSession_pending (s : State) (id : Nat) (x : Session) : (s.setSession id x).pending = s.pending := rfl
@[simp] theorem State.setSession_hbm (s : State) (id : Nat) (x : Session) : (s.setSession id x).hbm = s.hbm := rfl
@[simp] theorem State.setSession_vcore (s : State) (id : Nat) (x : Session) : (s.setSession id x).vcore = s.vcore := rfl
@[simp] theorem State.setSession_free (s : State) (id : Nat) (x : Session) : (s.setSession id x).free = s.free := rfl
@[simp] theorem State.setSession_out (s : State) (id : Nat) (x : Session) : (s.setSession id x).out = s.out := rfl
@[simp] theorem State.setSession_dict (s : State) (id : Nat) (x : Session) : (s.setSession id x).dict = s.dict := rfl
@[simp] theorem State.setSession_sess (s : State) (id : Nat) (x : Session) :
    (s.setSession id x).sess =
      { s.sess with tbl := Tbl.set s.sess.tbl id x } := rfl
@[simp] theorem State.setSession_ev (s : State) (id : Nat) (x : Session) : (s.setSession id x).ev = s.ev := rfl
@[simp] theorem State.setSession_rings (s : State) (id : Nat) (x : Session) : (s.setSession id x).rings = s.rings := rfl
@[simp] theorem State.setSession_core (s : State) (id : Nat) (x : Session) : (s.setSession id x).core = s.core := rfl
@[simp] theorem State.setSession_fab (s : State) (id : Nat) (x : Session) : (s.setSession id x).fab = s.fab := rfl
@[simp] theorem State.setSession_eth (s : State) (id : Nat) (x : Session) : (s.setSession id x).eth = s.eth := rfl
@[simp] theorem State.setSession_ptp (s : State) (id : Nat) (x : Session) : (s.setSession id x).ptp = s.ptp := rfl
@[simp] theorem State.setSession_rdma (s : State) (id : Nat) (x : Session) : (s.setSession id x).rdma = s.rdma := rfl
@[simp] theorem State.setSession_nvme (s : State) (id : Nat) (x : Session) : (s.setSession id x).nvme = s.nvme := rfl
@[simp] theorem State.setSession_sched (s : State) (id : Nat) (x : Session) : (s.setSession id x).sched = s.sched := rfl
@[simp] theorem State.setSession_arr (s : State) (id : Nat) (x : Session) : (s.setSession id x).arr = s.arr := rfl
@[simp] theorem State.setSession_slot (s : State) (id : Nat) (x : Session) : (s.setSession id x).slot = s.slot := rfl
@[simp] theorem State.setSession_np (s : State) (id : Nat) (x : Session) : (s.setSession id x).np = s.np := rfl
@[simp] theorem State.setSession_dma (s : State) (id : Nat) (x : Session) : (s.setSession id x).dma = s.dma := rfl
@[simp] theorem State.setSession_meter (s : State) (id : Nat) (x : Session) : (s.setSession id x).meter = s.meter := rfl
@[simp] theorem State.setSession_twin (s : State) (id : Nat) (x : Session) : (s.setSession id x).twin = s.twin := rfl
@[simp] theorem State.setSession_pwr (s : State) (id : Nat) (x : Session) : (s.setSession id x).pwr = s.pwr := rfl
@[simp] theorem State.setSession_land (s : State) (id : Nat) (x : Session) : (s.setSession id x).land = s.land := rfl
@[simp] theorem State.setSession_fw (s : State) (id : Nat) (x : Session) : (s.setSession id x).fw = s.fw := rfl

/-! ### `State.dropSession` -/

@[simp] theorem State.dropSession_now (s : State) (id : Nat) : (s.dropSession id).now = s.now := rfl
@[simp] theorem State.dropSession_pending (s : State) (id : Nat) : (s.dropSession id).pending = s.pending := rfl
@[simp] theorem State.dropSession_hbm (s : State) (id : Nat) : (s.dropSession id).hbm = s.hbm := rfl
@[simp] theorem State.dropSession_vcore (s : State) (id : Nat) : (s.dropSession id).vcore = s.vcore := rfl
@[simp] theorem State.dropSession_free (s : State) (id : Nat) : (s.dropSession id).free = s.free := rfl
@[simp] theorem State.dropSession_out (s : State) (id : Nat) : (s.dropSession id).out = s.out := rfl
@[simp] theorem State.dropSession_dict (s : State) (id : Nat) : (s.dropSession id).dict = s.dict := rfl
@[simp] theorem State.dropSession_sess (s : State) (id : Nat) :
    (s.dropSession id).sess =
      { s.sess with tbl := Tbl.erase s.sess.tbl id } := rfl
@[simp] theorem State.dropSession_ev (s : State) (id : Nat) : (s.dropSession id).ev = s.ev := rfl
@[simp] theorem State.dropSession_rings (s : State) (id : Nat) : (s.dropSession id).rings = s.rings := rfl
@[simp] theorem State.dropSession_core (s : State) (id : Nat) : (s.dropSession id).core = s.core := rfl
@[simp] theorem State.dropSession_fab (s : State) (id : Nat) : (s.dropSession id).fab = s.fab := rfl
@[simp] theorem State.dropSession_eth (s : State) (id : Nat) : (s.dropSession id).eth = s.eth := rfl
@[simp] theorem State.dropSession_ptp (s : State) (id : Nat) : (s.dropSession id).ptp = s.ptp := rfl
@[simp] theorem State.dropSession_rdma (s : State) (id : Nat) : (s.dropSession id).rdma = s.rdma := rfl
@[simp] theorem State.dropSession_nvme (s : State) (id : Nat) : (s.dropSession id).nvme = s.nvme := rfl
@[simp] theorem State.dropSession_sched (s : State) (id : Nat) : (s.dropSession id).sched = s.sched := rfl
@[simp] theorem State.dropSession_arr (s : State) (id : Nat) : (s.dropSession id).arr = s.arr := rfl
@[simp] theorem State.dropSession_slot (s : State) (id : Nat) : (s.dropSession id).slot = s.slot := rfl
@[simp] theorem State.dropSession_np (s : State) (id : Nat) : (s.dropSession id).np = s.np := rfl
@[simp] theorem State.dropSession_dma (s : State) (id : Nat) : (s.dropSession id).dma = s.dma := rfl
@[simp] theorem State.dropSession_meter (s : State) (id : Nat) : (s.dropSession id).meter = s.meter := rfl
@[simp] theorem State.dropSession_twin (s : State) (id : Nat) : (s.dropSession id).twin = s.twin := rfl
@[simp] theorem State.dropSession_pwr (s : State) (id : Nat) : (s.dropSession id).pwr = s.pwr := rfl
@[simp] theorem State.dropSession_land (s : State) (id : Nat) : (s.dropSession id).land = s.land := rfl
@[simp] theorem State.dropSession_fw (s : State) (id : Nat) : (s.dropSession id).fw = s.fw := rfl

/-! ### `State.setCan` -/

@[simp] theorem State.setCan_now (s : State) (c : CanState) : (s.setCan c).now = s.now := rfl
@[simp] theorem State.setCan_pending (s : State) (c : CanState) : (s.setCan c).pending = s.pending := rfl
@[simp] theorem State.setCan_hbm (s : State) (c : CanState) : (s.setCan c).hbm = s.hbm := rfl
@[simp] theorem State.setCan_vcore (s : State) (c : CanState) : (s.setCan c).vcore = s.vcore := rfl
@[simp] theorem State.setCan_free (s : State) (c : CanState) : (s.setCan c).free = s.free := rfl
@[simp] theorem State.setCan_out (s : State) (c : CanState) : (s.setCan c).out = s.out := rfl
@[simp] theorem State.setCan_dict (s : State) (c : CanState) : (s.setCan c).dict = s.dict := rfl
@[simp] theorem State.setCan_sess (s : State) (c : CanState) : (s.setCan c).sess = { s.sess with can := c } := rfl
@[simp] theorem State.setCan_ev (s : State) (c : CanState) : (s.setCan c).ev = s.ev := rfl
@[simp] theorem State.setCan_rings (s : State) (c : CanState) : (s.setCan c).rings = s.rings := rfl
@[simp] theorem State.setCan_core (s : State) (c : CanState) : (s.setCan c).core = s.core := rfl
@[simp] theorem State.setCan_fab (s : State) (c : CanState) : (s.setCan c).fab = s.fab := rfl
@[simp] theorem State.setCan_eth (s : State) (c : CanState) : (s.setCan c).eth = s.eth := rfl
@[simp] theorem State.setCan_ptp (s : State) (c : CanState) : (s.setCan c).ptp = s.ptp := rfl
@[simp] theorem State.setCan_rdma (s : State) (c : CanState) : (s.setCan c).rdma = s.rdma := rfl
@[simp] theorem State.setCan_nvme (s : State) (c : CanState) : (s.setCan c).nvme = s.nvme := rfl
@[simp] theorem State.setCan_sched (s : State) (c : CanState) : (s.setCan c).sched = s.sched := rfl
@[simp] theorem State.setCan_arr (s : State) (c : CanState) : (s.setCan c).arr = s.arr := rfl
@[simp] theorem State.setCan_slot (s : State) (c : CanState) : (s.setCan c).slot = s.slot := rfl
@[simp] theorem State.setCan_np (s : State) (c : CanState) : (s.setCan c).np = s.np := rfl
@[simp] theorem State.setCan_dma (s : State) (c : CanState) : (s.setCan c).dma = s.dma := rfl
@[simp] theorem State.setCan_meter (s : State) (c : CanState) : (s.setCan c).meter = s.meter := rfl
@[simp] theorem State.setCan_twin (s : State) (c : CanState) : (s.setCan c).twin = s.twin := rfl
@[simp] theorem State.setCan_pwr (s : State) (c : CanState) : (s.setCan c).pwr = s.pwr := rfl
@[simp] theorem State.setCan_land (s : State) (c : CanState) : (s.setCan c).land = s.land := rfl
@[simp] theorem State.setCan_fw (s : State) (c : CanState) : (s.setCan c).fw = s.fw := rfl

/-! ### `State.setMgmt` -/

@[simp] theorem State.setMgmt_now (s : State) (m : MgmtState) : (s.setMgmt m).now = s.now := rfl
@[simp] theorem State.setMgmt_pending (s : State) (m : MgmtState) : (s.setMgmt m).pending = s.pending := rfl
@[simp] theorem State.setMgmt_hbm (s : State) (m : MgmtState) : (s.setMgmt m).hbm = s.hbm := rfl
@[simp] theorem State.setMgmt_vcore (s : State) (m : MgmtState) : (s.setMgmt m).vcore = s.vcore := rfl
@[simp] theorem State.setMgmt_free (s : State) (m : MgmtState) : (s.setMgmt m).free = s.free := rfl
@[simp] theorem State.setMgmt_out (s : State) (m : MgmtState) : (s.setMgmt m).out = s.out := rfl
@[simp] theorem State.setMgmt_dict (s : State) (m : MgmtState) : (s.setMgmt m).dict = s.dict := rfl
@[simp] theorem State.setMgmt_sess (s : State) (m : MgmtState) : (s.setMgmt m).sess = { s.sess with mgmt := m } := rfl
@[simp] theorem State.setMgmt_ev (s : State) (m : MgmtState) : (s.setMgmt m).ev = s.ev := rfl
@[simp] theorem State.setMgmt_rings (s : State) (m : MgmtState) : (s.setMgmt m).rings = s.rings := rfl
@[simp] theorem State.setMgmt_core (s : State) (m : MgmtState) : (s.setMgmt m).core = s.core := rfl
@[simp] theorem State.setMgmt_fab (s : State) (m : MgmtState) : (s.setMgmt m).fab = s.fab := rfl
@[simp] theorem State.setMgmt_eth (s : State) (m : MgmtState) : (s.setMgmt m).eth = s.eth := rfl
@[simp] theorem State.setMgmt_ptp (s : State) (m : MgmtState) : (s.setMgmt m).ptp = s.ptp := rfl
@[simp] theorem State.setMgmt_rdma (s : State) (m : MgmtState) : (s.setMgmt m).rdma = s.rdma := rfl
@[simp] theorem State.setMgmt_nvme (s : State) (m : MgmtState) : (s.setMgmt m).nvme = s.nvme := rfl
@[simp] theorem State.setMgmt_sched (s : State) (m : MgmtState) : (s.setMgmt m).sched = s.sched := rfl
@[simp] theorem State.setMgmt_arr (s : State) (m : MgmtState) : (s.setMgmt m).arr = s.arr := rfl
@[simp] theorem State.setMgmt_slot (s : State) (m : MgmtState) : (s.setMgmt m).slot = s.slot := rfl
@[simp] theorem State.setMgmt_np (s : State) (m : MgmtState) : (s.setMgmt m).np = s.np := rfl
@[simp] theorem State.setMgmt_dma (s : State) (m : MgmtState) : (s.setMgmt m).dma = s.dma := rfl
@[simp] theorem State.setMgmt_meter (s : State) (m : MgmtState) : (s.setMgmt m).meter = s.meter := rfl
@[simp] theorem State.setMgmt_twin (s : State) (m : MgmtState) : (s.setMgmt m).twin = s.twin := rfl
@[simp] theorem State.setMgmt_pwr (s : State) (m : MgmtState) : (s.setMgmt m).pwr = s.pwr := rfl
@[simp] theorem State.setMgmt_land (s : State) (m : MgmtState) : (s.setMgmt m).land = s.land := rfl
@[simp] theorem State.setMgmt_fw (s : State) (m : MgmtState) : (s.setMgmt m).fw = s.fw := rfl

/-! ### `State.notIdle` -/

@[simp] theorem State.notIdle_now (s : State) : (s.notIdle).now = s.now := rfl
@[simp] theorem State.notIdle_pending (s : State) : (s.notIdle).pending = s.pending := rfl
@[simp] theorem State.notIdle_hbm (s : State) : (s.notIdle).hbm = s.hbm := rfl
@[simp] theorem State.notIdle_vcore (s : State) : (s.notIdle).vcore = s.vcore := rfl
@[simp] theorem State.notIdle_free (s : State) : (s.notIdle).free = s.free := rfl
@[simp] theorem State.notIdle_out (s : State) : (s.notIdle).out = s.out := rfl
@[simp] theorem State.notIdle_dict (s : State) : (s.notIdle).dict = s.dict := rfl
@[simp] theorem State.notIdle_sess (s : State) : (s.notIdle).sess = s.sess := rfl
@[simp] theorem State.notIdle_ev (s : State) : (s.notIdle).ev = s.ev := rfl
@[simp] theorem State.notIdle_rings (s : State) : (s.notIdle).rings = s.rings := rfl
@[simp] theorem State.notIdle_core (s : State) : (s.notIdle).core = s.core := rfl
@[simp] theorem State.notIdle_fab (s : State) : (s.notIdle).fab = s.fab := rfl
@[simp] theorem State.notIdle_eth (s : State) : (s.notIdle).eth = s.eth := rfl
@[simp] theorem State.notIdle_ptp (s : State) : (s.notIdle).ptp = s.ptp := rfl
@[simp] theorem State.notIdle_rdma (s : State) : (s.notIdle).rdma = s.rdma := rfl
@[simp] theorem State.notIdle_nvme (s : State) : (s.notIdle).nvme = s.nvme := rfl
@[simp] theorem State.notIdle_sched (s : State) : (s.notIdle).sched = s.sched := rfl
@[simp] theorem State.notIdle_arr (s : State) : (s.notIdle).arr = s.arr := rfl
@[simp] theorem State.notIdle_slot (s : State) : (s.notIdle).slot = s.slot := rfl
@[simp] theorem State.notIdle_np (s : State) : (s.notIdle).np = s.np := rfl
@[simp] theorem State.notIdle_dma (s : State) : (s.notIdle).dma = s.dma := rfl
@[simp] theorem State.notIdle_meter (s : State) : (s.notIdle).meter = s.meter := rfl
@[simp] theorem State.notIdle_twin (s : State) : (s.notIdle).twin = s.twin := rfl
@[simp] theorem State.notIdle_pwr (s : State) : (s.notIdle).pwr = { s.pwr with idleSince := s.now } := rfl
@[simp] theorem State.notIdle_land (s : State) : (s.notIdle).land = s.land := rfl
@[simp] theorem State.notIdle_fw (s : State) : (s.notIdle).fw = s.fw := rfl

/-! ### `State.setRegion` -/

@[simp] theorem State.setRegion_now (s : State) (k : Nat) (c : CopyRegion) : (s.setRegion k c).now = s.now := rfl
@[simp] theorem State.setRegion_pending (s : State) (k : Nat) (c : CopyRegion) : (s.setRegion k c).pending = s.pending := rfl
@[simp] theorem State.setRegion_hbm (s : State) (k : Nat) (c : CopyRegion) : (s.setRegion k c).hbm = s.hbm := rfl
@[simp] theorem State.setRegion_vcore (s : State) (k : Nat) (c : CopyRegion) : (s.setRegion k c).vcore = s.vcore := rfl
@[simp] theorem State.setRegion_free (s : State) (k : Nat) (c : CopyRegion) : (s.setRegion k c).free = s.free := rfl
@[simp] theorem State.setRegion_out (s : State) (k : Nat) (c : CopyRegion) : (s.setRegion k c).out = s.out := rfl
@[simp] theorem State.setRegion_dict (s : State) (k : Nat) (c : CopyRegion) : (s.setRegion k c).dict = s.dict := rfl
@[simp] theorem State.setRegion_sess (s : State) (k : Nat) (c : CopyRegion) : (s.setRegion k c).sess = s.sess := rfl
@[simp] theorem State.setRegion_ev (s : State) (k : Nat) (c : CopyRegion) : (s.setRegion k c).ev = s.ev := rfl
@[simp] theorem State.setRegion_rings (s : State) (k : Nat) (c : CopyRegion) : (s.setRegion k c).rings = s.rings := rfl
@[simp] theorem State.setRegion_core (s : State) (k : Nat) (c : CopyRegion) : (s.setRegion k c).core = s.core := rfl
@[simp] theorem State.setRegion_fab (s : State) (k : Nat) (c : CopyRegion) : (s.setRegion k c).fab = s.fab := rfl
@[simp] theorem State.setRegion_eth (s : State) (k : Nat) (c : CopyRegion) : (s.setRegion k c).eth = s.eth := rfl
@[simp] theorem State.setRegion_ptp (s : State) (k : Nat) (c : CopyRegion) : (s.setRegion k c).ptp = s.ptp := rfl
@[simp] theorem State.setRegion_rdma (s : State) (k : Nat) (c : CopyRegion) : (s.setRegion k c).rdma = s.rdma := rfl
@[simp] theorem State.setRegion_nvme (s : State) (k : Nat) (c : CopyRegion) : (s.setRegion k c).nvme = s.nvme := rfl
@[simp] theorem State.setRegion_sched (s : State) (k : Nat) (c : CopyRegion) : (s.setRegion k c).sched = s.sched := rfl
@[simp] theorem State.setRegion_arr (s : State) (k : Nat) (c : CopyRegion) : (s.setRegion k c).arr = s.arr := rfl
@[simp] theorem State.setRegion_slot (s : State) (k : Nat) (c : CopyRegion) : (s.setRegion k c).slot = s.slot := rfl
@[simp] theorem State.setRegion_np (s : State) (k : Nat) (c : CopyRegion) : (s.setRegion k c).np = s.np := rfl
@[simp] theorem State.setRegion_dma (s : State) (k : Nat) (c : CopyRegion) : (s.setRegion k c).dma = s.dma := rfl
@[simp] theorem State.setRegion_meter (s : State) (k : Nat) (c : CopyRegion) : (s.setRegion k c).meter = s.meter := rfl
@[simp] theorem State.setRegion_twin (s : State) (k : Nat) (c : CopyRegion) : (s.setRegion k c).twin = s.twin := rfl
@[simp] theorem State.setRegion_pwr (s : State) (k : Nat) (c : CopyRegion) :
    (s.setRegion k c).pwr =
      { s.pwr with regions := Tbl.set s.pwr.regions k c } := rfl
@[simp] theorem State.setRegion_land (s : State) (k : Nat) (c : CopyRegion) : (s.setRegion k c).land = s.land := rfl
@[simp] theorem State.setRegion_fw (s : State) (k : Nat) (c : CopyRegion) : (s.setRegion k c).fw = s.fw := rfl

/-! ### `State.setChan` -/

@[simp] theorem State.setChan_now (s : State) (c : Nat) (x : DmaChan) : (s.setChan c x).now = s.now := rfl
@[simp] theorem State.setChan_pending (s : State) (c : Nat) (x : DmaChan) : (s.setChan c x).pending = s.pending := rfl
@[simp] theorem State.setChan_hbm (s : State) (c : Nat) (x : DmaChan) : (s.setChan c x).hbm = s.hbm := rfl
@[simp] theorem State.setChan_vcore (s : State) (c : Nat) (x : DmaChan) : (s.setChan c x).vcore = s.vcore := rfl
@[simp] theorem State.setChan_free (s : State) (c : Nat) (x : DmaChan) : (s.setChan c x).free = s.free := rfl
@[simp] theorem State.setChan_out (s : State) (c : Nat) (x : DmaChan) : (s.setChan c x).out = s.out := rfl
@[simp] theorem State.setChan_dict (s : State) (c : Nat) (x : DmaChan) : (s.setChan c x).dict = s.dict := rfl
@[simp] theorem State.setChan_sess (s : State) (c : Nat) (x : DmaChan) : (s.setChan c x).sess = s.sess := rfl
@[simp] theorem State.setChan_ev (s : State) (c : Nat) (x : DmaChan) : (s.setChan c x).ev = s.ev := rfl
@[simp] theorem State.setChan_rings (s : State) (c : Nat) (x : DmaChan) : (s.setChan c x).rings = s.rings := rfl
@[simp] theorem State.setChan_core (s : State) (c : Nat) (x : DmaChan) : (s.setChan c x).core = s.core := rfl
@[simp] theorem State.setChan_fab (s : State) (c : Nat) (x : DmaChan) : (s.setChan c x).fab = s.fab := rfl
@[simp] theorem State.setChan_eth (s : State) (c : Nat) (x : DmaChan) : (s.setChan c x).eth = s.eth := rfl
@[simp] theorem State.setChan_ptp (s : State) (c : Nat) (x : DmaChan) : (s.setChan c x).ptp = s.ptp := rfl
@[simp] theorem State.setChan_rdma (s : State) (c : Nat) (x : DmaChan) : (s.setChan c x).rdma = s.rdma := rfl
@[simp] theorem State.setChan_nvme (s : State) (c : Nat) (x : DmaChan) : (s.setChan c x).nvme = s.nvme := rfl
@[simp] theorem State.setChan_sched (s : State) (c : Nat) (x : DmaChan) : (s.setChan c x).sched = s.sched := rfl
@[simp] theorem State.setChan_arr (s : State) (c : Nat) (x : DmaChan) : (s.setChan c x).arr = s.arr := rfl
@[simp] theorem State.setChan_slot (s : State) (c : Nat) (x : DmaChan) : (s.setChan c x).slot = s.slot := rfl
@[simp] theorem State.setChan_np (s : State) (c : Nat) (x : DmaChan) : (s.setChan c x).np = s.np := rfl
@[simp] theorem State.setChan_dma (s : State) (c : Nat) (x : DmaChan) : (s.setChan c x).dma = Tbl.set s.dma c x := rfl
@[simp] theorem State.setChan_meter (s : State) (c : Nat) (x : DmaChan) : (s.setChan c x).meter = s.meter := rfl
@[simp] theorem State.setChan_twin (s : State) (c : Nat) (x : DmaChan) : (s.setChan c x).twin = s.twin := rfl
@[simp] theorem State.setChan_pwr (s : State) (c : Nat) (x : DmaChan) : (s.setChan c x).pwr = s.pwr := rfl
@[simp] theorem State.setChan_land (s : State) (c : Nat) (x : DmaChan) : (s.setChan c x).land = s.land := rfl
@[simp] theorem State.setChan_fw (s : State) (c : Nat) (x : DmaChan) : (s.setChan c x).fw = s.fw := rfl

/-! ### `State.setNport` -/

@[simp] theorem State.setNport_now (s : State) (p : Nat) (x : NearPort) : (s.setNport p x).now = s.now := rfl
@[simp] theorem State.setNport_pending (s : State) (p : Nat) (x : NearPort) : (s.setNport p x).pending = s.pending := rfl
@[simp] theorem State.setNport_hbm (s : State) (p : Nat) (x : NearPort) : (s.setNport p x).hbm = s.hbm := rfl
@[simp] theorem State.setNport_vcore (s : State) (p : Nat) (x : NearPort) : (s.setNport p x).vcore = s.vcore := rfl
@[simp] theorem State.setNport_free (s : State) (p : Nat) (x : NearPort) : (s.setNport p x).free = s.free := rfl
@[simp] theorem State.setNport_out (s : State) (p : Nat) (x : NearPort) : (s.setNport p x).out = s.out := rfl
@[simp] theorem State.setNport_dict (s : State) (p : Nat) (x : NearPort) : (s.setNport p x).dict = s.dict := rfl
@[simp] theorem State.setNport_sess (s : State) (p : Nat) (x : NearPort) : (s.setNport p x).sess = s.sess := rfl
@[simp] theorem State.setNport_ev (s : State) (p : Nat) (x : NearPort) : (s.setNport p x).ev = s.ev := rfl
@[simp] theorem State.setNport_rings (s : State) (p : Nat) (x : NearPort) : (s.setNport p x).rings = s.rings := rfl
@[simp] theorem State.setNport_core (s : State) (p : Nat) (x : NearPort) : (s.setNport p x).core = s.core := rfl
@[simp] theorem State.setNport_fab (s : State) (p : Nat) (x : NearPort) : (s.setNport p x).fab = s.fab := rfl
@[simp] theorem State.setNport_eth (s : State) (p : Nat) (x : NearPort) : (s.setNport p x).eth = s.eth := rfl
@[simp] theorem State.setNport_ptp (s : State) (p : Nat) (x : NearPort) : (s.setNport p x).ptp = s.ptp := rfl
@[simp] theorem State.setNport_rdma (s : State) (p : Nat) (x : NearPort) : (s.setNport p x).rdma = s.rdma := rfl
@[simp] theorem State.setNport_nvme (s : State) (p : Nat) (x : NearPort) : (s.setNport p x).nvme = s.nvme := rfl
@[simp] theorem State.setNport_sched (s : State) (p : Nat) (x : NearPort) : (s.setNport p x).sched = s.sched := rfl
@[simp] theorem State.setNport_arr (s : State) (p : Nat) (x : NearPort) : (s.setNport p x).arr = s.arr := rfl
@[simp] theorem State.setNport_slot (s : State) (p : Nat) (x : NearPort) : (s.setNport p x).slot = s.slot := rfl
@[simp] theorem State.setNport_np (s : State) (p : Nat) (x : NearPort) : (s.setNport p x).np = Tbl.set s.np p x := rfl
@[simp] theorem State.setNport_dma (s : State) (p : Nat) (x : NearPort) : (s.setNport p x).dma = s.dma := rfl
@[simp] theorem State.setNport_meter (s : State) (p : Nat) (x : NearPort) : (s.setNport p x).meter = s.meter := rfl
@[simp] theorem State.setNport_twin (s : State) (p : Nat) (x : NearPort) : (s.setNport p x).twin = s.twin := rfl
@[simp] theorem State.setNport_pwr (s : State) (p : Nat) (x : NearPort) : (s.setNport p x).pwr = s.pwr := rfl
@[simp] theorem State.setNport_land (s : State) (p : Nat) (x : NearPort) : (s.setNport p x).land = s.land := rfl
@[simp] theorem State.setNport_fw (s : State) (p : Nat) (x : NearPort) : (s.setNport p x).fw = s.fw := rfl

/-! ### `State.setCmd` -/

@[simp] theorem State.setCmd_now (s : State) (c : Nat) (x : Cmd) : (s.setCmd c x).now = s.now := rfl
@[simp] theorem State.setCmd_pending (s : State) (c : Nat) (x : Cmd) : (s.setCmd c x).pending = s.pending := rfl
@[simp] theorem State.setCmd_hbm (s : State) (c : Nat) (x : Cmd) : (s.setCmd c x).hbm = s.hbm := rfl
@[simp] theorem State.setCmd_vcore (s : State) (c : Nat) (x : Cmd) : (s.setCmd c x).vcore = s.vcore := rfl
@[simp] theorem State.setCmd_free (s : State) (c : Nat) (x : Cmd) : (s.setCmd c x).free = s.free := rfl
@[simp] theorem State.setCmd_out (s : State) (c : Nat) (x : Cmd) : (s.setCmd c x).out = s.out := rfl
@[simp] theorem State.setCmd_dict (s : State) (c : Nat) (x : Cmd) : (s.setCmd c x).dict = s.dict := rfl
@[simp] theorem State.setCmd_sess (s : State) (c : Nat) (x : Cmd) : (s.setCmd c x).sess = s.sess := rfl
@[simp] theorem State.setCmd_ev (s : State) (c : Nat) (x : Cmd) : (s.setCmd c x).ev = s.ev := rfl
@[simp] theorem State.setCmd_rings (s : State) (c : Nat) (x : Cmd) : (s.setCmd c x).rings = s.rings := rfl
@[simp] theorem State.setCmd_core (s : State) (c : Nat) (x : Cmd) : (s.setCmd c x).core = s.core := rfl
@[simp] theorem State.setCmd_fab (s : State) (c : Nat) (x : Cmd) : (s.setCmd c x).fab = s.fab := rfl
@[simp] theorem State.setCmd_eth (s : State) (c : Nat) (x : Cmd) : (s.setCmd c x).eth = s.eth := rfl
@[simp] theorem State.setCmd_ptp (s : State) (c : Nat) (x : Cmd) : (s.setCmd c x).ptp = s.ptp := rfl
@[simp] theorem State.setCmd_rdma (s : State) (c : Nat) (x : Cmd) : (s.setCmd c x).rdma = s.rdma := rfl
@[simp] theorem State.setCmd_nvme (s : State) (c : Nat) (x : Cmd) :
    (s.setCmd c x).nvme =
      { s.nvme with cmds := Tbl.set s.nvme.cmds c x } := rfl
@[simp] theorem State.setCmd_sched (s : State) (c : Nat) (x : Cmd) : (s.setCmd c x).sched = s.sched := rfl
@[simp] theorem State.setCmd_arr (s : State) (c : Nat) (x : Cmd) : (s.setCmd c x).arr = s.arr := rfl
@[simp] theorem State.setCmd_slot (s : State) (c : Nat) (x : Cmd) : (s.setCmd c x).slot = s.slot := rfl
@[simp] theorem State.setCmd_np (s : State) (c : Nat) (x : Cmd) : (s.setCmd c x).np = s.np := rfl
@[simp] theorem State.setCmd_dma (s : State) (c : Nat) (x : Cmd) : (s.setCmd c x).dma = s.dma := rfl
@[simp] theorem State.setCmd_meter (s : State) (c : Nat) (x : Cmd) : (s.setCmd c x).meter = s.meter := rfl
@[simp] theorem State.setCmd_twin (s : State) (c : Nat) (x : Cmd) : (s.setCmd c x).twin = s.twin := rfl
@[simp] theorem State.setCmd_pwr (s : State) (c : Nat) (x : Cmd) : (s.setCmd c x).pwr = s.pwr := rfl
@[simp] theorem State.setCmd_land (s : State) (c : Nat) (x : Cmd) : (s.setCmd c x).land = s.land := rfl
@[simp] theorem State.setCmd_fw (s : State) (c : Nat) (x : Cmd) : (s.setCmd c x).fw = s.fw := rfl

/-! ### `State.eraseCmd` -/

@[simp] theorem State.eraseCmd_now (s : State) (c : Nat) : (s.eraseCmd c).now = s.now := rfl
@[simp] theorem State.eraseCmd_pending (s : State) (c : Nat) : (s.eraseCmd c).pending = s.pending := rfl
@[simp] theorem State.eraseCmd_hbm (s : State) (c : Nat) : (s.eraseCmd c).hbm = s.hbm := rfl
@[simp] theorem State.eraseCmd_vcore (s : State) (c : Nat) : (s.eraseCmd c).vcore = s.vcore := rfl
@[simp] theorem State.eraseCmd_free (s : State) (c : Nat) : (s.eraseCmd c).free = s.free := rfl
@[simp] theorem State.eraseCmd_out (s : State) (c : Nat) : (s.eraseCmd c).out = s.out := rfl
@[simp] theorem State.eraseCmd_dict (s : State) (c : Nat) : (s.eraseCmd c).dict = s.dict := rfl
@[simp] theorem State.eraseCmd_sess (s : State) (c : Nat) : (s.eraseCmd c).sess = s.sess := rfl
@[simp] theorem State.eraseCmd_ev (s : State) (c : Nat) : (s.eraseCmd c).ev = s.ev := rfl
@[simp] theorem State.eraseCmd_rings (s : State) (c : Nat) : (s.eraseCmd c).rings = s.rings := rfl
@[simp] theorem State.eraseCmd_core (s : State) (c : Nat) : (s.eraseCmd c).core = s.core := rfl
@[simp] theorem State.eraseCmd_fab (s : State) (c : Nat) : (s.eraseCmd c).fab = s.fab := rfl
@[simp] theorem State.eraseCmd_eth (s : State) (c : Nat) : (s.eraseCmd c).eth = s.eth := rfl
@[simp] theorem State.eraseCmd_ptp (s : State) (c : Nat) : (s.eraseCmd c).ptp = s.ptp := rfl
@[simp] theorem State.eraseCmd_rdma (s : State) (c : Nat) : (s.eraseCmd c).rdma = s.rdma := rfl
@[simp] theorem State.eraseCmd_nvme (s : State) (c : Nat) :
    (s.eraseCmd c).nvme =
      { s.nvme with cmds := Tbl.erase s.nvme.cmds c } := rfl
@[simp] theorem State.eraseCmd_sched (s : State) (c : Nat) : (s.eraseCmd c).sched = s.sched := rfl
@[simp] theorem State.eraseCmd_arr (s : State) (c : Nat) : (s.eraseCmd c).arr = s.arr := rfl
@[simp] theorem State.eraseCmd_slot (s : State) (c : Nat) : (s.eraseCmd c).slot = s.slot := rfl
@[simp] theorem State.eraseCmd_np (s : State) (c : Nat) : (s.eraseCmd c).np = s.np := rfl
@[simp] theorem State.eraseCmd_dma (s : State) (c : Nat) : (s.eraseCmd c).dma = s.dma := rfl
@[simp] theorem State.eraseCmd_meter (s : State) (c : Nat) : (s.eraseCmd c).meter = s.meter := rfl
@[simp] theorem State.eraseCmd_twin (s : State) (c : Nat) : (s.eraseCmd c).twin = s.twin := rfl
@[simp] theorem State.eraseCmd_pwr (s : State) (c : Nat) : (s.eraseCmd c).pwr = s.pwr := rfl
@[simp] theorem State.eraseCmd_land (s : State) (c : Nat) : (s.eraseCmd c).land = s.land := rfl
@[simp] theorem State.eraseCmd_fw (s : State) (c : Nat) : (s.eraseCmd c).fw = s.fw := rfl

/-! ### `State.setCtrl` -/

@[simp] theorem State.setCtrl_now (s : State) (c : Nat) (x : Ctrl) : (s.setCtrl c x).now = s.now := rfl
@[simp] theorem State.setCtrl_pending (s : State) (c : Nat) (x : Ctrl) : (s.setCtrl c x).pending = s.pending := rfl
@[simp] theorem State.setCtrl_hbm (s : State) (c : Nat) (x : Ctrl) : (s.setCtrl c x).hbm = s.hbm := rfl
@[simp] theorem State.setCtrl_vcore (s : State) (c : Nat) (x : Ctrl) : (s.setCtrl c x).vcore = s.vcore := rfl
@[simp] theorem State.setCtrl_free (s : State) (c : Nat) (x : Ctrl) : (s.setCtrl c x).free = s.free := rfl
@[simp] theorem State.setCtrl_out (s : State) (c : Nat) (x : Ctrl) : (s.setCtrl c x).out = s.out := rfl
@[simp] theorem State.setCtrl_dict (s : State) (c : Nat) (x : Ctrl) : (s.setCtrl c x).dict = s.dict := rfl
@[simp] theorem State.setCtrl_sess (s : State) (c : Nat) (x : Ctrl) : (s.setCtrl c x).sess = s.sess := rfl
@[simp] theorem State.setCtrl_ev (s : State) (c : Nat) (x : Ctrl) : (s.setCtrl c x).ev = s.ev := rfl
@[simp] theorem State.setCtrl_rings (s : State) (c : Nat) (x : Ctrl) : (s.setCtrl c x).rings = s.rings := rfl
@[simp] theorem State.setCtrl_core (s : State) (c : Nat) (x : Ctrl) : (s.setCtrl c x).core = s.core := rfl
@[simp] theorem State.setCtrl_fab (s : State) (c : Nat) (x : Ctrl) : (s.setCtrl c x).fab = s.fab := rfl
@[simp] theorem State.setCtrl_eth (s : State) (c : Nat) (x : Ctrl) : (s.setCtrl c x).eth = s.eth := rfl
@[simp] theorem State.setCtrl_ptp (s : State) (c : Nat) (x : Ctrl) : (s.setCtrl c x).ptp = s.ptp := rfl
@[simp] theorem State.setCtrl_rdma (s : State) (c : Nat) (x : Ctrl) : (s.setCtrl c x).rdma = s.rdma := rfl
@[simp] theorem State.setCtrl_nvme (s : State) (c : Nat) (x : Ctrl) :
    (s.setCtrl c x).nvme =
      { s.nvme with ctrls := Tbl.set s.nvme.ctrls c x } := rfl
@[simp] theorem State.setCtrl_sched (s : State) (c : Nat) (x : Ctrl) : (s.setCtrl c x).sched = s.sched := rfl
@[simp] theorem State.setCtrl_arr (s : State) (c : Nat) (x : Ctrl) : (s.setCtrl c x).arr = s.arr := rfl
@[simp] theorem State.setCtrl_slot (s : State) (c : Nat) (x : Ctrl) : (s.setCtrl c x).slot = s.slot := rfl
@[simp] theorem State.setCtrl_np (s : State) (c : Nat) (x : Ctrl) : (s.setCtrl c x).np = s.np := rfl
@[simp] theorem State.setCtrl_dma (s : State) (c : Nat) (x : Ctrl) : (s.setCtrl c x).dma = s.dma := rfl
@[simp] theorem State.setCtrl_meter (s : State) (c : Nat) (x : Ctrl) : (s.setCtrl c x).meter = s.meter := rfl
@[simp] theorem State.setCtrl_twin (s : State) (c : Nat) (x : Ctrl) : (s.setCtrl c x).twin = s.twin := rfl
@[simp] theorem State.setCtrl_pwr (s : State) (c : Nat) (x : Ctrl) : (s.setCtrl c x).pwr = s.pwr := rfl
@[simp] theorem State.setCtrl_land (s : State) (c : Nat) (x : Ctrl) : (s.setCtrl c x).land = s.land := rfl
@[simp] theorem State.setCtrl_fw (s : State) (c : Nat) (x : Ctrl) : (s.setCtrl c x).fw = s.fw := rfl

/-! ### `State.setNs` -/

@[simp] theorem State.setNs_now (s : State) (n : Nat) (x : NsState) : (s.setNs n x).now = s.now := rfl
@[simp] theorem State.setNs_pending (s : State) (n : Nat) (x : NsState) : (s.setNs n x).pending = s.pending := rfl
@[simp] theorem State.setNs_hbm (s : State) (n : Nat) (x : NsState) : (s.setNs n x).hbm = s.hbm := rfl
@[simp] theorem State.setNs_vcore (s : State) (n : Nat) (x : NsState) : (s.setNs n x).vcore = s.vcore := rfl
@[simp] theorem State.setNs_free (s : State) (n : Nat) (x : NsState) : (s.setNs n x).free = s.free := rfl
@[simp] theorem State.setNs_out (s : State) (n : Nat) (x : NsState) : (s.setNs n x).out = s.out := rfl
@[simp] theorem State.setNs_dict (s : State) (n : Nat) (x : NsState) : (s.setNs n x).dict = s.dict := rfl
@[simp] theorem State.setNs_sess (s : State) (n : Nat) (x : NsState) : (s.setNs n x).sess = s.sess := rfl
@[simp] theorem State.setNs_ev (s : State) (n : Nat) (x : NsState) : (s.setNs n x).ev = s.ev := rfl
@[simp] theorem State.setNs_rings (s : State) (n : Nat) (x : NsState) : (s.setNs n x).rings = s.rings := rfl
@[simp] theorem State.setNs_core (s : State) (n : Nat) (x : NsState) : (s.setNs n x).core = s.core := rfl
@[simp] theorem State.setNs_fab (s : State) (n : Nat) (x : NsState) : (s.setNs n x).fab = s.fab := rfl
@[simp] theorem State.setNs_eth (s : State) (n : Nat) (x : NsState) : (s.setNs n x).eth = s.eth := rfl
@[simp] theorem State.setNs_ptp (s : State) (n : Nat) (x : NsState) : (s.setNs n x).ptp = s.ptp := rfl
@[simp] theorem State.setNs_rdma (s : State) (n : Nat) (x : NsState) : (s.setNs n x).rdma = s.rdma := rfl
@[simp] theorem State.setNs_nvme (s : State) (n : Nat) (x : NsState) :
    (s.setNs n x).nvme =
      { s.nvme with ns := Tbl.set s.nvme.ns n x } := rfl
@[simp] theorem State.setNs_sched (s : State) (n : Nat) (x : NsState) : (s.setNs n x).sched = s.sched := rfl
@[simp] theorem State.setNs_arr (s : State) (n : Nat) (x : NsState) : (s.setNs n x).arr = s.arr := rfl
@[simp] theorem State.setNs_slot (s : State) (n : Nat) (x : NsState) : (s.setNs n x).slot = s.slot := rfl
@[simp] theorem State.setNs_np (s : State) (n : Nat) (x : NsState) : (s.setNs n x).np = s.np := rfl
@[simp] theorem State.setNs_dma (s : State) (n : Nat) (x : NsState) : (s.setNs n x).dma = s.dma := rfl
@[simp] theorem State.setNs_meter (s : State) (n : Nat) (x : NsState) : (s.setNs n x).meter = s.meter := rfl
@[simp] theorem State.setNs_twin (s : State) (n : Nat) (x : NsState) : (s.setNs n x).twin = s.twin := rfl
@[simp] theorem State.setNs_pwr (s : State) (n : Nat) (x : NsState) : (s.setNs n x).pwr = s.pwr := rfl
@[simp] theorem State.setNs_land (s : State) (n : Nat) (x : NsState) : (s.setNs n x).land = s.land := rfl
@[simp] theorem State.setNs_fw (s : State) (n : Nat) (x : NsState) : (s.setNs n x).fw = s.fw := rfl

/-! ### `State.setQp` -/

@[simp] theorem State.setQp_now (s : State) (i : Nat) (q : Qp) : (s.setQp i q).now = s.now := rfl
@[simp] theorem State.setQp_pending (s : State) (i : Nat) (q : Qp) : (s.setQp i q).pending = s.pending := rfl
@[simp] theorem State.setQp_hbm (s : State) (i : Nat) (q : Qp) : (s.setQp i q).hbm = s.hbm := rfl
@[simp] theorem State.setQp_vcore (s : State) (i : Nat) (q : Qp) : (s.setQp i q).vcore = s.vcore := rfl
@[simp] theorem State.setQp_free (s : State) (i : Nat) (q : Qp) : (s.setQp i q).free = s.free := rfl
@[simp] theorem State.setQp_out (s : State) (i : Nat) (q : Qp) : (s.setQp i q).out = s.out := rfl
@[simp] theorem State.setQp_dict (s : State) (i : Nat) (q : Qp) : (s.setQp i q).dict = s.dict := rfl
@[simp] theorem State.setQp_sess (s : State) (i : Nat) (q : Qp) : (s.setQp i q).sess = s.sess := rfl
@[simp] theorem State.setQp_ev (s : State) (i : Nat) (q : Qp) : (s.setQp i q).ev = s.ev := rfl
@[simp] theorem State.setQp_rings (s : State) (i : Nat) (q : Qp) : (s.setQp i q).rings = s.rings := rfl
@[simp] theorem State.setQp_core (s : State) (i : Nat) (q : Qp) : (s.setQp i q).core = s.core := rfl
@[simp] theorem State.setQp_fab (s : State) (i : Nat) (q : Qp) : (s.setQp i q).fab = s.fab := rfl
@[simp] theorem State.setQp_eth (s : State) (i : Nat) (q : Qp) : (s.setQp i q).eth = s.eth := rfl
@[simp] theorem State.setQp_ptp (s : State) (i : Nat) (q : Qp) : (s.setQp i q).ptp = s.ptp := rfl
@[simp] theorem State.setQp_rdma (s : State) (i : Nat) (q : Qp) :
    (s.setQp i q).rdma =
      { s.rdma with qps := Tbl.set s.rdma.qps i q } := rfl
@[simp] theorem State.setQp_nvme (s : State) (i : Nat) (q : Qp) : (s.setQp i q).nvme = s.nvme := rfl
@[simp] theorem State.setQp_sched (s : State) (i : Nat) (q : Qp) : (s.setQp i q).sched = s.sched := rfl
@[simp] theorem State.setQp_arr (s : State) (i : Nat) (q : Qp) : (s.setQp i q).arr = s.arr := rfl
@[simp] theorem State.setQp_slot (s : State) (i : Nat) (q : Qp) : (s.setQp i q).slot = s.slot := rfl
@[simp] theorem State.setQp_np (s : State) (i : Nat) (q : Qp) : (s.setQp i q).np = s.np := rfl
@[simp] theorem State.setQp_dma (s : State) (i : Nat) (q : Qp) : (s.setQp i q).dma = s.dma := rfl
@[simp] theorem State.setQp_meter (s : State) (i : Nat) (q : Qp) : (s.setQp i q).meter = s.meter := rfl
@[simp] theorem State.setQp_twin (s : State) (i : Nat) (q : Qp) : (s.setQp i q).twin = s.twin := rfl
@[simp] theorem State.setQp_pwr (s : State) (i : Nat) (q : Qp) : (s.setQp i q).pwr = s.pwr := rfl
@[simp] theorem State.setQp_land (s : State) (i : Nat) (q : Qp) : (s.setQp i q).land = s.land := rfl
@[simp] theorem State.setQp_fw (s : State) (i : Nat) (q : Qp) : (s.setQp i q).fw = s.fw := rfl

/-! ### `State.setPort` -/

@[simp] theorem State.setPort_now (s : State) (p : Nat) (x : EthPort) : (s.setPort p x).now = s.now := rfl
@[simp] theorem State.setPort_pending (s : State) (p : Nat) (x : EthPort) : (s.setPort p x).pending = s.pending := rfl
@[simp] theorem State.setPort_hbm (s : State) (p : Nat) (x : EthPort) : (s.setPort p x).hbm = s.hbm := rfl
@[simp] theorem State.setPort_vcore (s : State) (p : Nat) (x : EthPort) : (s.setPort p x).vcore = s.vcore := rfl
@[simp] theorem State.setPort_free (s : State) (p : Nat) (x : EthPort) : (s.setPort p x).free = s.free := rfl
@[simp] theorem State.setPort_out (s : State) (p : Nat) (x : EthPort) : (s.setPort p x).out = s.out := rfl
@[simp] theorem State.setPort_dict (s : State) (p : Nat) (x : EthPort) : (s.setPort p x).dict = s.dict := rfl
@[simp] theorem State.setPort_sess (s : State) (p : Nat) (x : EthPort) : (s.setPort p x).sess = s.sess := rfl
@[simp] theorem State.setPort_ev (s : State) (p : Nat) (x : EthPort) : (s.setPort p x).ev = s.ev := rfl
@[simp] theorem State.setPort_rings (s : State) (p : Nat) (x : EthPort) : (s.setPort p x).rings = s.rings := rfl
@[simp] theorem State.setPort_core (s : State) (p : Nat) (x : EthPort) : (s.setPort p x).core = s.core := rfl
@[simp] theorem State.setPort_fab (s : State) (p : Nat) (x : EthPort) : (s.setPort p x).fab = s.fab := rfl
@[simp] theorem State.setPort_eth (s : State) (p : Nat) (x : EthPort) :
    (s.setPort p x).eth =
      { s.eth with ports := Tbl.set s.eth.ports p x } := rfl
@[simp] theorem State.setPort_ptp (s : State) (p : Nat) (x : EthPort) : (s.setPort p x).ptp = s.ptp := rfl
@[simp] theorem State.setPort_rdma (s : State) (p : Nat) (x : EthPort) : (s.setPort p x).rdma = s.rdma := rfl
@[simp] theorem State.setPort_nvme (s : State) (p : Nat) (x : EthPort) : (s.setPort p x).nvme = s.nvme := rfl
@[simp] theorem State.setPort_sched (s : State) (p : Nat) (x : EthPort) : (s.setPort p x).sched = s.sched := rfl
@[simp] theorem State.setPort_arr (s : State) (p : Nat) (x : EthPort) : (s.setPort p x).arr = s.arr := rfl
@[simp] theorem State.setPort_slot (s : State) (p : Nat) (x : EthPort) : (s.setPort p x).slot = s.slot := rfl
@[simp] theorem State.setPort_np (s : State) (p : Nat) (x : EthPort) : (s.setPort p x).np = s.np := rfl
@[simp] theorem State.setPort_dma (s : State) (p : Nat) (x : EthPort) : (s.setPort p x).dma = s.dma := rfl
@[simp] theorem State.setPort_meter (s : State) (p : Nat) (x : EthPort) : (s.setPort p x).meter = s.meter := rfl
@[simp] theorem State.setPort_twin (s : State) (p : Nat) (x : EthPort) : (s.setPort p x).twin = s.twin := rfl
@[simp] theorem State.setPort_pwr (s : State) (p : Nat) (x : EthPort) : (s.setPort p x).pwr = s.pwr := rfl
@[simp] theorem State.setPort_land (s : State) (p : Nat) (x : EthPort) : (s.setPort p x).land = s.land := rfl
@[simp] theorem State.setPort_fw (s : State) (p : Nat) (x : EthPort) : (s.setPort p x).fw = s.fw := rfl

/-! ### `State.setCage` -/

@[simp] theorem State.setCage_now (s : State) (n : Nat) (c : Cage) : (s.setCage n c).now = s.now := rfl
@[simp] theorem State.setCage_pending (s : State) (n : Nat) (c : Cage) : (s.setCage n c).pending = s.pending := rfl
@[simp] theorem State.setCage_hbm (s : State) (n : Nat) (c : Cage) : (s.setCage n c).hbm = s.hbm := rfl
@[simp] theorem State.setCage_vcore (s : State) (n : Nat) (c : Cage) : (s.setCage n c).vcore = s.vcore := rfl
@[simp] theorem State.setCage_free (s : State) (n : Nat) (c : Cage) : (s.setCage n c).free = s.free := rfl
@[simp] theorem State.setCage_out (s : State) (n : Nat) (c : Cage) : (s.setCage n c).out = s.out := rfl
@[simp] theorem State.setCage_dict (s : State) (n : Nat) (c : Cage) : (s.setCage n c).dict = s.dict := rfl
@[simp] theorem State.setCage_sess (s : State) (n : Nat) (c : Cage) : (s.setCage n c).sess = s.sess := rfl
@[simp] theorem State.setCage_ev (s : State) (n : Nat) (c : Cage) : (s.setCage n c).ev = s.ev := rfl
@[simp] theorem State.setCage_rings (s : State) (n : Nat) (c : Cage) : (s.setCage n c).rings = s.rings := rfl
@[simp] theorem State.setCage_core (s : State) (n : Nat) (c : Cage) : (s.setCage n c).core = s.core := rfl
@[simp] theorem State.setCage_fab (s : State) (n : Nat) (c : Cage) : (s.setCage n c).fab = s.fab := rfl
@[simp] theorem State.setCage_eth (s : State) (n : Nat) (c : Cage) :
    (s.setCage n c).eth =
      { s.eth with cages := Tbl.set s.eth.cages n c } := rfl
@[simp] theorem State.setCage_ptp (s : State) (n : Nat) (c : Cage) : (s.setCage n c).ptp = s.ptp := rfl
@[simp] theorem State.setCage_rdma (s : State) (n : Nat) (c : Cage) : (s.setCage n c).rdma = s.rdma := rfl
@[simp] theorem State.setCage_nvme (s : State) (n : Nat) (c : Cage) : (s.setCage n c).nvme = s.nvme := rfl
@[simp] theorem State.setCage_sched (s : State) (n : Nat) (c : Cage) : (s.setCage n c).sched = s.sched := rfl
@[simp] theorem State.setCage_arr (s : State) (n : Nat) (c : Cage) : (s.setCage n c).arr = s.arr := rfl
@[simp] theorem State.setCage_slot (s : State) (n : Nat) (c : Cage) : (s.setCage n c).slot = s.slot := rfl
@[simp] theorem State.setCage_np (s : State) (n : Nat) (c : Cage) : (s.setCage n c).np = s.np := rfl
@[simp] theorem State.setCage_dma (s : State) (n : Nat) (c : Cage) : (s.setCage n c).dma = s.dma := rfl
@[simp] theorem State.setCage_meter (s : State) (n : Nat) (c : Cage) : (s.setCage n c).meter = s.meter := rfl
@[simp] theorem State.setCage_twin (s : State) (n : Nat) (c : Cage) : (s.setCage n c).twin = s.twin := rfl
@[simp] theorem State.setCage_pwr (s : State) (n : Nat) (c : Cage) : (s.setCage n c).pwr = s.pwr := rfl
@[simp] theorem State.setCage_land (s : State) (n : Nat) (c : Cage) : (s.setCage n c).land = s.land := rfl
@[simp] theorem State.setCage_fw (s : State) (n : Nat) (c : Cage) : (s.setCage n c).fw = s.fw := rfl

/-! ### `State.setEg` -/

@[simp] theorem State.setEg_now (s : State) (p : Nat) (e : EgPort) : (s.setEg p e).now = s.now := rfl
@[simp] theorem State.setEg_pending (s : State) (p : Nat) (e : EgPort) : (s.setEg p e).pending = s.pending := rfl
@[simp] theorem State.setEg_hbm (s : State) (p : Nat) (e : EgPort) : (s.setEg p e).hbm = s.hbm := rfl
@[simp] theorem State.setEg_vcore (s : State) (p : Nat) (e : EgPort) : (s.setEg p e).vcore = s.vcore := rfl
@[simp] theorem State.setEg_free (s : State) (p : Nat) (e : EgPort) : (s.setEg p e).free = s.free := rfl
@[simp] theorem State.setEg_out (s : State) (p : Nat) (e : EgPort) : (s.setEg p e).out = s.out := rfl
@[simp] theorem State.setEg_dict (s : State) (p : Nat) (e : EgPort) : (s.setEg p e).dict = s.dict := rfl
@[simp] theorem State.setEg_sess (s : State) (p : Nat) (e : EgPort) : (s.setEg p e).sess = s.sess := rfl
@[simp] theorem State.setEg_ev (s : State) (p : Nat) (e : EgPort) : (s.setEg p e).ev = s.ev := rfl
@[simp] theorem State.setEg_rings (s : State) (p : Nat) (e : EgPort) : (s.setEg p e).rings = s.rings := rfl
@[simp] theorem State.setEg_core (s : State) (p : Nat) (e : EgPort) : (s.setEg p e).core = s.core := rfl
@[simp] theorem State.setEg_fab (s : State) (p : Nat) (e : EgPort) : (s.setEg p e).fab = s.fab := rfl
@[simp] theorem State.setEg_eth (s : State) (p : Nat) (e : EgPort) : (s.setEg p e).eth = s.eth := rfl
@[simp] theorem State.setEg_ptp (s : State) (p : Nat) (e : EgPort) : (s.setEg p e).ptp = s.ptp := rfl
@[simp] theorem State.setEg_rdma (s : State) (p : Nat) (e : EgPort) : (s.setEg p e).rdma = s.rdma := rfl
@[simp] theorem State.setEg_nvme (s : State) (p : Nat) (e : EgPort) : (s.setEg p e).nvme = s.nvme := rfl
@[simp] theorem State.setEg_sched (s : State) (p : Nat) (e : EgPort) :
    (s.setEg p e).sched =
      { s.sched with eg := Tbl.set s.sched.eg p e } := rfl
@[simp] theorem State.setEg_arr (s : State) (p : Nat) (e : EgPort) : (s.setEg p e).arr = s.arr := rfl
@[simp] theorem State.setEg_slot (s : State) (p : Nat) (e : EgPort) : (s.setEg p e).slot = s.slot := rfl
@[simp] theorem State.setEg_np (s : State) (p : Nat) (e : EgPort) : (s.setEg p e).np = s.np := rfl
@[simp] theorem State.setEg_dma (s : State) (p : Nat) (e : EgPort) : (s.setEg p e).dma = s.dma := rfl
@[simp] theorem State.setEg_meter (s : State) (p : Nat) (e : EgPort) : (s.setEg p e).meter = s.meter := rfl
@[simp] theorem State.setEg_twin (s : State) (p : Nat) (e : EgPort) : (s.setEg p e).twin = s.twin := rfl
@[simp] theorem State.setEg_pwr (s : State) (p : Nat) (e : EgPort) : (s.setEg p e).pwr = s.pwr := rfl
@[simp] theorem State.setEg_land (s : State) (p : Nat) (e : EgPort) : (s.setEg p e).land = s.land := rfl
@[simp] theorem State.setEg_fw (s : State) (p : Nat) (e : EgPort) : (s.setEg p e).fw = s.fw := rfl

/-! ### `State.setGate` -/

@[simp] theorem State.setGate_now (s : State) (p : Nat) (g : GatePort) : (s.setGate p g).now = s.now := rfl
@[simp] theorem State.setGate_pending (s : State) (p : Nat) (g : GatePort) : (s.setGate p g).pending = s.pending := rfl
@[simp] theorem State.setGate_hbm (s : State) (p : Nat) (g : GatePort) : (s.setGate p g).hbm = s.hbm := rfl
@[simp] theorem State.setGate_vcore (s : State) (p : Nat) (g : GatePort) : (s.setGate p g).vcore = s.vcore := rfl
@[simp] theorem State.setGate_free (s : State) (p : Nat) (g : GatePort) : (s.setGate p g).free = s.free := rfl
@[simp] theorem State.setGate_out (s : State) (p : Nat) (g : GatePort) : (s.setGate p g).out = s.out := rfl
@[simp] theorem State.setGate_dict (s : State) (p : Nat) (g : GatePort) : (s.setGate p g).dict = s.dict := rfl
@[simp] theorem State.setGate_sess (s : State) (p : Nat) (g : GatePort) : (s.setGate p g).sess = s.sess := rfl
@[simp] theorem State.setGate_ev (s : State) (p : Nat) (g : GatePort) : (s.setGate p g).ev = s.ev := rfl
@[simp] theorem State.setGate_rings (s : State) (p : Nat) (g : GatePort) : (s.setGate p g).rings = s.rings := rfl
@[simp] theorem State.setGate_core (s : State) (p : Nat) (g : GatePort) : (s.setGate p g).core = s.core := rfl
@[simp] theorem State.setGate_fab (s : State) (p : Nat) (g : GatePort) : (s.setGate p g).fab = s.fab := rfl
@[simp] theorem State.setGate_eth (s : State) (p : Nat) (g : GatePort) : (s.setGate p g).eth = s.eth := rfl
@[simp] theorem State.setGate_ptp (s : State) (p : Nat) (g : GatePort) : (s.setGate p g).ptp = s.ptp := rfl
@[simp] theorem State.setGate_rdma (s : State) (p : Nat) (g : GatePort) : (s.setGate p g).rdma = s.rdma := rfl
@[simp] theorem State.setGate_nvme (s : State) (p : Nat) (g : GatePort) : (s.setGate p g).nvme = s.nvme := rfl
@[simp] theorem State.setGate_sched (s : State) (p : Nat) (g : GatePort) :
    (s.setGate p g).sched =
      { s.sched with gates := Tbl.set s.sched.gates p g } := rfl
@[simp] theorem State.setGate_arr (s : State) (p : Nat) (g : GatePort) : (s.setGate p g).arr = s.arr := rfl
@[simp] theorem State.setGate_slot (s : State) (p : Nat) (g : GatePort) : (s.setGate p g).slot = s.slot := rfl
@[simp] theorem State.setGate_np (s : State) (p : Nat) (g : GatePort) : (s.setGate p g).np = s.np := rfl
@[simp] theorem State.setGate_dma (s : State) (p : Nat) (g : GatePort) : (s.setGate p g).dma = s.dma := rfl
@[simp] theorem State.setGate_meter (s : State) (p : Nat) (g : GatePort) : (s.setGate p g).meter = s.meter := rfl
@[simp] theorem State.setGate_twin (s : State) (p : Nat) (g : GatePort) : (s.setGate p g).twin = s.twin := rfl
@[simp] theorem State.setGate_pwr (s : State) (p : Nat) (g : GatePort) : (s.setGate p g).pwr = s.pwr := rfl
@[simp] theorem State.setGate_land (s : State) (p : Nat) (g : GatePort) : (s.setGate p g).land = s.land := rfl
@[simp] theorem State.setGate_fw (s : State) (p : Nat) (g : GatePort) : (s.setGate p g).fw = s.fw := rfl

/-! ### `State.setMemQ` -/

@[simp] theorem State.setMemQ_now (s : State) (n : Nat) (x : MemberSched) : (s.setMemQ n x).now = s.now := rfl
@[simp] theorem State.setMemQ_pending (s : State) (n : Nat) (x : MemberSched) : (s.setMemQ n x).pending = s.pending := rfl
@[simp] theorem State.setMemQ_hbm (s : State) (n : Nat) (x : MemberSched) : (s.setMemQ n x).hbm = s.hbm := rfl
@[simp] theorem State.setMemQ_vcore (s : State) (n : Nat) (x : MemberSched) : (s.setMemQ n x).vcore = s.vcore := rfl
@[simp] theorem State.setMemQ_free (s : State) (n : Nat) (x : MemberSched) : (s.setMemQ n x).free = s.free := rfl
@[simp] theorem State.setMemQ_out (s : State) (n : Nat) (x : MemberSched) : (s.setMemQ n x).out = s.out := rfl
@[simp] theorem State.setMemQ_dict (s : State) (n : Nat) (x : MemberSched) : (s.setMemQ n x).dict = s.dict := rfl
@[simp] theorem State.setMemQ_sess (s : State) (n : Nat) (x : MemberSched) : (s.setMemQ n x).sess = s.sess := rfl
@[simp] theorem State.setMemQ_ev (s : State) (n : Nat) (x : MemberSched) : (s.setMemQ n x).ev = s.ev := rfl
@[simp] theorem State.setMemQ_rings (s : State) (n : Nat) (x : MemberSched) : (s.setMemQ n x).rings = s.rings := rfl
@[simp] theorem State.setMemQ_core (s : State) (n : Nat) (x : MemberSched) : (s.setMemQ n x).core = s.core := rfl
@[simp] theorem State.setMemQ_fab (s : State) (n : Nat) (x : MemberSched) : (s.setMemQ n x).fab = s.fab := rfl
@[simp] theorem State.setMemQ_eth (s : State) (n : Nat) (x : MemberSched) : (s.setMemQ n x).eth = s.eth := rfl
@[simp] theorem State.setMemQ_ptp (s : State) (n : Nat) (x : MemberSched) : (s.setMemQ n x).ptp = s.ptp := rfl
@[simp] theorem State.setMemQ_rdma (s : State) (n : Nat) (x : MemberSched) : (s.setMemQ n x).rdma = s.rdma := rfl
@[simp] theorem State.setMemQ_nvme (s : State) (n : Nat) (x : MemberSched) : (s.setMemQ n x).nvme = s.nvme := rfl
@[simp] theorem State.setMemQ_sched (s : State) (n : Nat) (x : MemberSched) :
    (s.setMemQ n x).sched =
      { s.sched with mem := Tbl.set s.sched.mem n x } := rfl
@[simp] theorem State.setMemQ_arr (s : State) (n : Nat) (x : MemberSched) : (s.setMemQ n x).arr = s.arr := rfl
@[simp] theorem State.setMemQ_slot (s : State) (n : Nat) (x : MemberSched) : (s.setMemQ n x).slot = s.slot := rfl
@[simp] theorem State.setMemQ_np (s : State) (n : Nat) (x : MemberSched) : (s.setMemQ n x).np = s.np := rfl
@[simp] theorem State.setMemQ_dma (s : State) (n : Nat) (x : MemberSched) : (s.setMemQ n x).dma = s.dma := rfl
@[simp] theorem State.setMemQ_meter (s : State) (n : Nat) (x : MemberSched) : (s.setMemQ n x).meter = s.meter := rfl
@[simp] theorem State.setMemQ_twin (s : State) (n : Nat) (x : MemberSched) : (s.setMemQ n x).twin = s.twin := rfl
@[simp] theorem State.setMemQ_pwr (s : State) (n : Nat) (x : MemberSched) : (s.setMemQ n x).pwr = s.pwr := rfl
@[simp] theorem State.setMemQ_land (s : State) (n : Nat) (x : MemberSched) : (s.setMemQ n x).land = s.land := rfl
@[simp] theorem State.setMemQ_fw (s : State) (n : Nat) (x : MemberSched) : (s.setMemQ n x).fw = s.fw := rfl

/-! ### `State.setSrc` -/

@[simp] theorem State.setSrc_now (s : State) (f : Flow) (x : SrcFlow) : (s.setSrc f x).now = s.now := rfl
@[simp] theorem State.setSrc_pending (s : State) (f : Flow) (x : SrcFlow) : (s.setSrc f x).pending = s.pending := rfl
@[simp] theorem State.setSrc_hbm (s : State) (f : Flow) (x : SrcFlow) : (s.setSrc f x).hbm = s.hbm := rfl
@[simp] theorem State.setSrc_vcore (s : State) (f : Flow) (x : SrcFlow) : (s.setSrc f x).vcore = s.vcore := rfl
@[simp] theorem State.setSrc_free (s : State) (f : Flow) (x : SrcFlow) : (s.setSrc f x).free = s.free := rfl
@[simp] theorem State.setSrc_out (s : State) (f : Flow) (x : SrcFlow) : (s.setSrc f x).out = s.out := rfl
@[simp] theorem State.setSrc_dict (s : State) (f : Flow) (x : SrcFlow) : (s.setSrc f x).dict = s.dict := rfl
@[simp] theorem State.setSrc_sess (s : State) (f : Flow) (x : SrcFlow) : (s.setSrc f x).sess = s.sess := rfl
@[simp] theorem State.setSrc_ev (s : State) (f : Flow) (x : SrcFlow) : (s.setSrc f x).ev = s.ev := rfl
@[simp] theorem State.setSrc_rings (s : State) (f : Flow) (x : SrcFlow) : (s.setSrc f x).rings = s.rings := rfl
@[simp] theorem State.setSrc_core (s : State) (f : Flow) (x : SrcFlow) : (s.setSrc f x).core = s.core := rfl
@[simp] theorem State.setSrc_fab (s : State) (f : Flow) (x : SrcFlow) :
    (s.setSrc f x).fab =
      { s.fab with src := Tbl.set s.fab.src (flowKey f) x } := rfl
@[simp] theorem State.setSrc_eth (s : State) (f : Flow) (x : SrcFlow) : (s.setSrc f x).eth = s.eth := rfl
@[simp] theorem State.setSrc_ptp (s : State) (f : Flow) (x : SrcFlow) : (s.setSrc f x).ptp = s.ptp := rfl
@[simp] theorem State.setSrc_rdma (s : State) (f : Flow) (x : SrcFlow) : (s.setSrc f x).rdma = s.rdma := rfl
@[simp] theorem State.setSrc_nvme (s : State) (f : Flow) (x : SrcFlow) : (s.setSrc f x).nvme = s.nvme := rfl
@[simp] theorem State.setSrc_sched (s : State) (f : Flow) (x : SrcFlow) : (s.setSrc f x).sched = s.sched := rfl
@[simp] theorem State.setSrc_arr (s : State) (f : Flow) (x : SrcFlow) : (s.setSrc f x).arr = s.arr := rfl
@[simp] theorem State.setSrc_slot (s : State) (f : Flow) (x : SrcFlow) : (s.setSrc f x).slot = s.slot := rfl
@[simp] theorem State.setSrc_np (s : State) (f : Flow) (x : SrcFlow) : (s.setSrc f x).np = s.np := rfl
@[simp] theorem State.setSrc_dma (s : State) (f : Flow) (x : SrcFlow) : (s.setSrc f x).dma = s.dma := rfl
@[simp] theorem State.setSrc_meter (s : State) (f : Flow) (x : SrcFlow) : (s.setSrc f x).meter = s.meter := rfl
@[simp] theorem State.setSrc_twin (s : State) (f : Flow) (x : SrcFlow) : (s.setSrc f x).twin = s.twin := rfl
@[simp] theorem State.setSrc_pwr (s : State) (f : Flow) (x : SrcFlow) : (s.setSrc f x).pwr = s.pwr := rfl
@[simp] theorem State.setSrc_land (s : State) (f : Flow) (x : SrcFlow) : (s.setSrc f x).land = s.land := rfl
@[simp] theorem State.setSrc_fw (s : State) (f : Flow) (x : SrcFlow) : (s.setSrc f x).fw = s.fw := rfl

/-! ### `State.setReseq` -/

@[simp] theorem State.setReseq_now (s : State) (f : Flow) (x : Reseq) : (s.setReseq f x).now = s.now := rfl
@[simp] theorem State.setReseq_pending (s : State) (f : Flow) (x : Reseq) : (s.setReseq f x).pending = s.pending := rfl
@[simp] theorem State.setReseq_hbm (s : State) (f : Flow) (x : Reseq) : (s.setReseq f x).hbm = s.hbm := rfl
@[simp] theorem State.setReseq_vcore (s : State) (f : Flow) (x : Reseq) : (s.setReseq f x).vcore = s.vcore := rfl
@[simp] theorem State.setReseq_free (s : State) (f : Flow) (x : Reseq) : (s.setReseq f x).free = s.free := rfl
@[simp] theorem State.setReseq_out (s : State) (f : Flow) (x : Reseq) : (s.setReseq f x).out = s.out := rfl
@[simp] theorem State.setReseq_dict (s : State) (f : Flow) (x : Reseq) : (s.setReseq f x).dict = s.dict := rfl
@[simp] theorem State.setReseq_sess (s : State) (f : Flow) (x : Reseq) : (s.setReseq f x).sess = s.sess := rfl
@[simp] theorem State.setReseq_ev (s : State) (f : Flow) (x : Reseq) : (s.setReseq f x).ev = s.ev := rfl
@[simp] theorem State.setReseq_rings (s : State) (f : Flow) (x : Reseq) : (s.setReseq f x).rings = s.rings := rfl
@[simp] theorem State.setReseq_core (s : State) (f : Flow) (x : Reseq) : (s.setReseq f x).core = s.core := rfl
@[simp] theorem State.setReseq_fab (s : State) (f : Flow) (x : Reseq) :
    (s.setReseq f x).fab =
      { s.fab with rsq := Tbl.set s.fab.rsq (flowKey f) x } := rfl
@[simp] theorem State.setReseq_eth (s : State) (f : Flow) (x : Reseq) : (s.setReseq f x).eth = s.eth := rfl
@[simp] theorem State.setReseq_ptp (s : State) (f : Flow) (x : Reseq) : (s.setReseq f x).ptp = s.ptp := rfl
@[simp] theorem State.setReseq_rdma (s : State) (f : Flow) (x : Reseq) : (s.setReseq f x).rdma = s.rdma := rfl
@[simp] theorem State.setReseq_nvme (s : State) (f : Flow) (x : Reseq) : (s.setReseq f x).nvme = s.nvme := rfl
@[simp] theorem State.setReseq_sched (s : State) (f : Flow) (x : Reseq) : (s.setReseq f x).sched = s.sched := rfl
@[simp] theorem State.setReseq_arr (s : State) (f : Flow) (x : Reseq) : (s.setReseq f x).arr = s.arr := rfl
@[simp] theorem State.setReseq_slot (s : State) (f : Flow) (x : Reseq) : (s.setReseq f x).slot = s.slot := rfl
@[simp] theorem State.setReseq_np (s : State) (f : Flow) (x : Reseq) : (s.setReseq f x).np = s.np := rfl
@[simp] theorem State.setReseq_dma (s : State) (f : Flow) (x : Reseq) : (s.setReseq f x).dma = s.dma := rfl
@[simp] theorem State.setReseq_meter (s : State) (f : Flow) (x : Reseq) : (s.setReseq f x).meter = s.meter := rfl
@[simp] theorem State.setReseq_twin (s : State) (f : Flow) (x : Reseq) : (s.setReseq f x).twin = s.twin := rfl
@[simp] theorem State.setReseq_pwr (s : State) (f : Flow) (x : Reseq) : (s.setReseq f x).pwr = s.pwr := rfl
@[simp] theorem State.setReseq_land (s : State) (f : Flow) (x : Reseq) : (s.setReseq f x).land = s.land := rfl
@[simp] theorem State.setReseq_fw (s : State) (f : Flow) (x : Reseq) : (s.setReseq f x).fw = s.fw := rfl

/-! ### `State.setSlot` -/

@[simp] theorem State.setSlot_now (s : State) (n : Nat) (x : Slot) : (s.setSlot n x).now = s.now := rfl
@[simp] theorem State.setSlot_pending (s : State) (n : Nat) (x : Slot) : (s.setSlot n x).pending = s.pending := rfl
@[simp] theorem State.setSlot_hbm (s : State) (n : Nat) (x : Slot) : (s.setSlot n x).hbm = s.hbm := rfl
@[simp] theorem State.setSlot_vcore (s : State) (n : Nat) (x : Slot) : (s.setSlot n x).vcore = s.vcore := rfl
@[simp] theorem State.setSlot_free (s : State) (n : Nat) (x : Slot) : (s.setSlot n x).free = s.free := rfl
@[simp] theorem State.setSlot_out (s : State) (n : Nat) (x : Slot) : (s.setSlot n x).out = s.out := rfl
@[simp] theorem State.setSlot_dict (s : State) (n : Nat) (x : Slot) : (s.setSlot n x).dict = s.dict := rfl
@[simp] theorem State.setSlot_sess (s : State) (n : Nat) (x : Slot) : (s.setSlot n x).sess = s.sess := rfl
@[simp] theorem State.setSlot_ev (s : State) (n : Nat) (x : Slot) : (s.setSlot n x).ev = s.ev := rfl
@[simp] theorem State.setSlot_rings (s : State) (n : Nat) (x : Slot) : (s.setSlot n x).rings = s.rings := rfl
@[simp] theorem State.setSlot_core (s : State) (n : Nat) (x : Slot) : (s.setSlot n x).core = s.core := rfl
@[simp] theorem State.setSlot_fab (s : State) (n : Nat) (x : Slot) : (s.setSlot n x).fab = s.fab := rfl
@[simp] theorem State.setSlot_eth (s : State) (n : Nat) (x : Slot) : (s.setSlot n x).eth = s.eth := rfl
@[simp] theorem State.setSlot_ptp (s : State) (n : Nat) (x : Slot) : (s.setSlot n x).ptp = s.ptp := rfl
@[simp] theorem State.setSlot_rdma (s : State) (n : Nat) (x : Slot) : (s.setSlot n x).rdma = s.rdma := rfl
@[simp] theorem State.setSlot_nvme (s : State) (n : Nat) (x : Slot) : (s.setSlot n x).nvme = s.nvme := rfl
@[simp] theorem State.setSlot_sched (s : State) (n : Nat) (x : Slot) : (s.setSlot n x).sched = s.sched := rfl
@[simp] theorem State.setSlot_arr (s : State) (n : Nat) (x : Slot) : (s.setSlot n x).arr = s.arr := rfl
@[simp] theorem State.setSlot_slot (s : State) (n : Nat) (x : Slot) :
    (s.setSlot n x).slot =
      { s.slot with slots := Tbl.set s.slot.slots n x } := rfl
@[simp] theorem State.setSlot_np (s : State) (n : Nat) (x : Slot) : (s.setSlot n x).np = s.np := rfl
@[simp] theorem State.setSlot_dma (s : State) (n : Nat) (x : Slot) : (s.setSlot n x).dma = s.dma := rfl
@[simp] theorem State.setSlot_meter (s : State) (n : Nat) (x : Slot) : (s.setSlot n x).meter = s.meter := rfl
@[simp] theorem State.setSlot_twin (s : State) (n : Nat) (x : Slot) : (s.setSlot n x).twin = s.twin := rfl
@[simp] theorem State.setSlot_pwr (s : State) (n : Nat) (x : Slot) : (s.setSlot n x).pwr = s.pwr := rfl
@[simp] theorem State.setSlot_land (s : State) (n : Nat) (x : Slot) : (s.setSlot n x).land = s.land := rfl
@[simp] theorem State.setSlot_fw (s : State) (n : Nat) (x : Slot) : (s.setSlot n x).fw = s.fw := rfl

/-! ### `State.setMc` -/

@[simp] theorem State.setMc_now (s : State) (k : Nat) (x : MemberCmd) : (s.setMc k x).now = s.now := rfl
@[simp] theorem State.setMc_pending (s : State) (k : Nat) (x : MemberCmd) : (s.setMc k x).pending = s.pending := rfl
@[simp] theorem State.setMc_hbm (s : State) (k : Nat) (x : MemberCmd) : (s.setMc k x).hbm = s.hbm := rfl
@[simp] theorem State.setMc_vcore (s : State) (k : Nat) (x : MemberCmd) : (s.setMc k x).vcore = s.vcore := rfl
@[simp] theorem State.setMc_free (s : State) (k : Nat) (x : MemberCmd) : (s.setMc k x).free = s.free := rfl
@[simp] theorem State.setMc_out (s : State) (k : Nat) (x : MemberCmd) : (s.setMc k x).out = s.out := rfl
@[simp] theorem State.setMc_dict (s : State) (k : Nat) (x : MemberCmd) : (s.setMc k x).dict = s.dict := rfl
@[simp] theorem State.setMc_sess (s : State) (k : Nat) (x : MemberCmd) : (s.setMc k x).sess = s.sess := rfl
@[simp] theorem State.setMc_ev (s : State) (k : Nat) (x : MemberCmd) : (s.setMc k x).ev = s.ev := rfl
@[simp] theorem State.setMc_rings (s : State) (k : Nat) (x : MemberCmd) : (s.setMc k x).rings = s.rings := rfl
@[simp] theorem State.setMc_core (s : State) (k : Nat) (x : MemberCmd) : (s.setMc k x).core = s.core := rfl
@[simp] theorem State.setMc_fab (s : State) (k : Nat) (x : MemberCmd) : (s.setMc k x).fab = s.fab := rfl
@[simp] theorem State.setMc_eth (s : State) (k : Nat) (x : MemberCmd) : (s.setMc k x).eth = s.eth := rfl
@[simp] theorem State.setMc_ptp (s : State) (k : Nat) (x : MemberCmd) : (s.setMc k x).ptp = s.ptp := rfl
@[simp] theorem State.setMc_rdma (s : State) (k : Nat) (x : MemberCmd) : (s.setMc k x).rdma = s.rdma := rfl
@[simp] theorem State.setMc_nvme (s : State) (k : Nat) (x : MemberCmd) : (s.setMc k x).nvme = s.nvme := rfl
@[simp] theorem State.setMc_sched (s : State) (k : Nat) (x : MemberCmd) : (s.setMc k x).sched = s.sched := rfl
@[simp] theorem State.setMc_arr (s : State) (k : Nat) (x : MemberCmd) : (s.setMc k x).arr = s.arr := rfl
@[simp] theorem State.setMc_slot (s : State) (k : Nat) (x : MemberCmd) :
    (s.setMc k x).slot =
      { s.slot with cmds := Tbl.set s.slot.cmds k x } := rfl
@[simp] theorem State.setMc_np (s : State) (k : Nat) (x : MemberCmd) : (s.setMc k x).np = s.np := rfl
@[simp] theorem State.setMc_dma (s : State) (k : Nat) (x : MemberCmd) : (s.setMc k x).dma = s.dma := rfl
@[simp] theorem State.setMc_meter (s : State) (k : Nat) (x : MemberCmd) : (s.setMc k x).meter = s.meter := rfl
@[simp] theorem State.setMc_twin (s : State) (k : Nat) (x : MemberCmd) : (s.setMc k x).twin = s.twin := rfl
@[simp] theorem State.setMc_pwr (s : State) (k : Nat) (x : MemberCmd) : (s.setMc k x).pwr = s.pwr := rfl
@[simp] theorem State.setMc_land (s : State) (k : Nat) (x : MemberCmd) : (s.setMc k x).land = s.land := rfl
@[simp] theorem State.setMc_fw (s : State) (k : Nat) (x : MemberCmd) : (s.setMc k x).fw = s.fw := rfl

/-! ### `State.setArr` -/

@[simp] theorem State.setArr_now (s : State) (a : Nat) (x : ArrState) : (s.setArr a x).now = s.now := rfl
@[simp] theorem State.setArr_pending (s : State) (a : Nat) (x : ArrState) : (s.setArr a x).pending = s.pending := rfl
@[simp] theorem State.setArr_hbm (s : State) (a : Nat) (x : ArrState) : (s.setArr a x).hbm = s.hbm := rfl
@[simp] theorem State.setArr_vcore (s : State) (a : Nat) (x : ArrState) : (s.setArr a x).vcore = s.vcore := rfl
@[simp] theorem State.setArr_free (s : State) (a : Nat) (x : ArrState) : (s.setArr a x).free = s.free := rfl
@[simp] theorem State.setArr_out (s : State) (a : Nat) (x : ArrState) : (s.setArr a x).out = s.out := rfl
@[simp] theorem State.setArr_dict (s : State) (a : Nat) (x : ArrState) : (s.setArr a x).dict = s.dict := rfl
@[simp] theorem State.setArr_sess (s : State) (a : Nat) (x : ArrState) : (s.setArr a x).sess = s.sess := rfl
@[simp] theorem State.setArr_ev (s : State) (a : Nat) (x : ArrState) : (s.setArr a x).ev = s.ev := rfl
@[simp] theorem State.setArr_rings (s : State) (a : Nat) (x : ArrState) : (s.setArr a x).rings = s.rings := rfl
@[simp] theorem State.setArr_core (s : State) (a : Nat) (x : ArrState) : (s.setArr a x).core = s.core := rfl
@[simp] theorem State.setArr_fab (s : State) (a : Nat) (x : ArrState) : (s.setArr a x).fab = s.fab := rfl
@[simp] theorem State.setArr_eth (s : State) (a : Nat) (x : ArrState) : (s.setArr a x).eth = s.eth := rfl
@[simp] theorem State.setArr_ptp (s : State) (a : Nat) (x : ArrState) : (s.setArr a x).ptp = s.ptp := rfl
@[simp] theorem State.setArr_rdma (s : State) (a : Nat) (x : ArrState) : (s.setArr a x).rdma = s.rdma := rfl
@[simp] theorem State.setArr_nvme (s : State) (a : Nat) (x : ArrState) : (s.setArr a x).nvme = s.nvme := rfl
@[simp] theorem State.setArr_sched (s : State) (a : Nat) (x : ArrState) : (s.setArr a x).sched = s.sched := rfl
@[simp] theorem State.setArr_arr (s : State) (a : Nat) (x : ArrState) :
    (s.setArr a x).arr =
      { s.arr with arrs := Tbl.set s.arr.arrs a x } := rfl
@[simp] theorem State.setArr_slot (s : State) (a : Nat) (x : ArrState) : (s.setArr a x).slot = s.slot := rfl
@[simp] theorem State.setArr_np (s : State) (a : Nat) (x : ArrState) : (s.setArr a x).np = s.np := rfl
@[simp] theorem State.setArr_dma (s : State) (a : Nat) (x : ArrState) : (s.setArr a x).dma = s.dma := rfl
@[simp] theorem State.setArr_meter (s : State) (a : Nat) (x : ArrState) : (s.setArr a x).meter = s.meter := rfl
@[simp] theorem State.setArr_twin (s : State) (a : Nat) (x : ArrState) : (s.setArr a x).twin = s.twin := rfl
@[simp] theorem State.setArr_pwr (s : State) (a : Nat) (x : ArrState) : (s.setArr a x).pwr = s.pwr := rfl
@[simp] theorem State.setArr_land (s : State) (a : Nat) (x : ArrState) : (s.setArr a x).land = s.land := rfl
@[simp] theorem State.setArr_fw (s : State) (a : Nat) (x : ArrState) : (s.setArr a x).fw = s.fw := rfl

/-! ### Lookups -/

@[simp] theorem State.qp_setQp (s : State) (i j : Nat) (x : Qp) :
    (s.setQp i x).qp j = if i = j then x else s.qp j := by simp [State.qp, State.setQp]
@[simp] theorem State.port_setPort (s : State) (i j : Nat) (x : EthPort) :
    (s.setPort i x).port j = if i = j then x else s.port j := by simp [State.port, State.setPort]
@[simp] theorem State.cage_setCage (s : State) (i j : Nat) (x : Cage) :
    (s.setCage i x).cage j = if i = j then x else s.cage j := by simp [State.cage, State.setCage]
@[simp] theorem State.eg_setEg (s : State) (i j : Nat) (x : EgPort) :
    (s.setEg i x).eg j = if i = j then x else s.eg j := by simp [State.eg, State.setEg]
@[simp] theorem State.gate_setGate (s : State) (i j : Nat) (x : GatePort) :
    (s.setGate i x).gate j = if i = j then x else s.gate j := by simp [State.gate, State.setGate]
@[simp] theorem State.memQ_setMemQ (s : State) (i j : Nat) (x : MemberSched) :
    (s.setMemQ i x).memQ j = if i = j then x else s.memQ j := by simp [State.memQ, State.setMemQ]
@[simp] theorem State.slotS_setSlot (s : State) (i j : Nat) (x : Slot) :
    (s.setSlot i x).slotS j = if i = j then x else s.slotS j := by simp [State.slotS, State.setSlot]
@[simp] theorem State.mc_setMc (s : State) (i j : Nat) (x : MemberCmd) :
    (s.setMc i x).mc j = if i = j then x else s.mc j := by simp [State.mc, State.setMc]
@[simp] theorem State.chan_setChan (s : State) (i j : Nat) (x : DmaChan) :
    (s.setChan i x).chan j = if i = j then x else s.chan j := by simp [State.chan, State.setChan]
@[simp] theorem State.cmd_setCmd (s : State) (i j : Nat) (x : Cmd) :
    (s.setCmd i x).cmd j = if i = j then x else s.cmd j := by simp [State.cmd, State.setCmd]
@[simp] theorem State.ctrl_setCtrl (s : State) (i j : Nat) (x : Ctrl) :
    (s.setCtrl i x).ctrl j = if i = j then x else s.ctrl j := by simp [State.ctrl, State.setCtrl]
@[simp] theorem State.ns_setNs (s : State) (i j : Nat) (x : NsState) :
    (s.setNs i x).ns j = if i = j then x else s.ns j := by simp [State.ns, State.setNs]
@[simp] theorem State.nport_setNport (s : State) (i j : Nat) (x : NearPort) :
    (s.setNport i x).nport j = if i = j then x else s.nport j := by simp [State.nport, State.setNport]
@[simp] theorem State.arrS_setArr (s : State) (i j : Nat) (x : ArrState) :
    (s.setArr i x).arrS j = if i = j then x else s.arrS j := by simp [State.arrS, State.setArr]
@[simp] theorem State.copyRegion_setRegion (s : State) (i j : Nat) (x : CopyRegion) :
    (s.setRegion i x).copyRegion j = if i = j then x else s.copyRegion j := by simp [State.copyRegion, State.setRegion]
@[simp] theorem State.session?_setSession (s : State) (i j : Nat) (x : Session) :
    (s.setSession i x).session? j = if i = j then some x else s.session? j := by
  simp [State.session?, State.setSession, Tbl.find?_set]
@[simp] theorem State.session?_dropSession (s : State) (i j : Nat) :
    (s.dropSession i).session? j = if i = j then none else s.session? j := by simp [State.session?, State.dropSession]
@[simp] theorem State.reseq_setReseq (s : State) (f : Flow) (x : Reseq) : (s.setReseq f x).reseq f = x := by
  simp [State.reseq, State.setReseq]
@[simp] theorem State.srcFlow_setSrc (s : State) (f : Flow) (x : SrcFlow) : (s.setSrc f x).srcFlow f = x := by
  simp [State.srcFlow, State.setSrc]

theorem State.val_setVal (s : State) (i r k i' r' k' : Nat) (v : Val) :
    (s.setVal i r k v).val i' r' k' = if objKey i r k = objKey i' r' k' then v else s.val i' r' k' := by
  by_cases h : objKey i r k = objKey i' r' k' <;> simp [State.val, Tbl.find?_set, h]

@[simp] theorem State.val_setVal_self (s : State) (i r k : Nat) (v : Val) : (s.setVal i r k v).val i r k = v := by
  simp [State.val_setVal]

@[simp] theorem State.o_put_self (s : State) (i r k n : Nat) : (s.put i r k n).o i r k = n := by simp [State.o, State.put, Val.toNat]

theorem State.val_setVal_of_ne (s : State) {i r k i' r' k' : Nat} (v : Val) (h : objKey i r k ≠ objKey i' r' k') :
    (s.setVal i r k v).val i' r' k' = s.val i' r' k' := by simp [State.val_setVal, h]

/-! Lookups after an update of another part of the state. -/

@[simp] theorem State.qp_at (s : State) (t : Nat) (j : Nat) : (s.at t).qp j = s.qp j := rfl
@[simp] theorem State.port_at (s : State) (t : Nat) (j : Nat) : (s.at t).port j = s.port j := rfl
@[simp] theorem State.cage_at (s : State) (t : Nat) (j : Nat) : (s.at t).cage j = s.cage j := rfl
@[simp] theorem State.eg_at (s : State) (t : Nat) (j : Nat) : (s.at t).eg j = s.eg j := rfl
@[simp] theorem State.gate_at (s : State) (t : Nat) (j : Nat) : (s.at t).gate j = s.gate j := rfl
@[simp] theorem State.memQ_at (s : State) (t : Nat) (j : Nat) : (s.at t).memQ j = s.memQ j := rfl
@[simp] theorem State.slotS_at (s : State) (t : Nat) (j : Nat) : (s.at t).slotS j = s.slotS j := rfl
@[simp] theorem State.mc_at (s : State) (t : Nat) (j : Nat) : (s.at t).mc j = s.mc j := rfl
@[simp] theorem State.chan_at (s : State) (t : Nat) (j : Nat) : (s.at t).chan j = s.chan j := rfl
@[simp] theorem State.cmd_at (s : State) (t : Nat) (j : Nat) : (s.at t).cmd j = s.cmd j := rfl
@[simp] theorem State.ctrl_at (s : State) (t : Nat) (j : Nat) : (s.at t).ctrl j = s.ctrl j := rfl
@[simp] theorem State.ns_at (s : State) (t : Nat) (j : Nat) : (s.at t).ns j = s.ns j := rfl
@[simp] theorem State.nport_at (s : State) (t : Nat) (j : Nat) : (s.at t).nport j = s.nport j := rfl
@[simp] theorem State.arrS_at (s : State) (t : Nat) (j : Nat) : (s.at t).arrS j = s.arrS j := rfl
@[simp] theorem State.copyRegion_at (s : State) (t : Nat) (j : Nat) : (s.at t).copyRegion j = s.copyRegion j := rfl
@[simp] theorem State.val_at (s : State) (t : Nat) (i' r' k' : Nat) : (s.at t).val i' r' k' = s.val i' r' k' := rfl
@[simp] theorem State.o_at (s : State) (t : Nat) (i' r' k' : Nat) : (s.at t).o i' r' k' = s.o i' r' k' := rfl
@[simp] theorem State.session?_at (s : State) (t : Nat) (j : Nat) : (s.at t).session? j = s.session? j := rfl
@[simp] theorem State.qp_emit (s : State) (o : Out) (j : Nat) : (s.emit o).qp j = s.qp j := rfl
@[simp] theorem State.port_emit (s : State) (o : Out) (j : Nat) : (s.emit o).port j = s.port j := rfl
@[simp] theorem State.cage_emit (s : State) (o : Out) (j : Nat) : (s.emit o).cage j = s.cage j := rfl
@[simp] theorem State.eg_emit (s : State) (o : Out) (j : Nat) : (s.emit o).eg j = s.eg j := rfl
@[simp] theorem State.gate_emit (s : State) (o : Out) (j : Nat) : (s.emit o).gate j = s.gate j := rfl
@[simp] theorem State.memQ_emit (s : State) (o : Out) (j : Nat) : (s.emit o).memQ j = s.memQ j := rfl
@[simp] theorem State.slotS_emit (s : State) (o : Out) (j : Nat) : (s.emit o).slotS j = s.slotS j := rfl
@[simp] theorem State.mc_emit (s : State) (o : Out) (j : Nat) : (s.emit o).mc j = s.mc j := rfl
@[simp] theorem State.chan_emit (s : State) (o : Out) (j : Nat) : (s.emit o).chan j = s.chan j := rfl
@[simp] theorem State.cmd_emit (s : State) (o : Out) (j : Nat) : (s.emit o).cmd j = s.cmd j := rfl
@[simp] theorem State.ctrl_emit (s : State) (o : Out) (j : Nat) : (s.emit o).ctrl j = s.ctrl j := rfl
@[simp] theorem State.ns_emit (s : State) (o : Out) (j : Nat) : (s.emit o).ns j = s.ns j := rfl
@[simp] theorem State.nport_emit (s : State) (o : Out) (j : Nat) : (s.emit o).nport j = s.nport j := rfl
@[simp] theorem State.arrS_emit (s : State) (o : Out) (j : Nat) : (s.emit o).arrS j = s.arrS j := rfl
@[simp] theorem State.copyRegion_emit (s : State) (o : Out) (j : Nat) : (s.emit o).copyRegion j = s.copyRegion j := rfl
@[simp] theorem State.val_emit (s : State) (o : Out) (i' r' k' : Nat) : (s.emit o).val i' r' k' = s.val i' r' k' := rfl
@[simp] theorem State.o_emit (s : State) (o : Out) (i' r' k' : Nat) : (s.emit o).o i' r' k' = s.o i' r' k' := rfl
@[simp] theorem State.session?_emit (s : State) (o : Out) (j : Nat) : (s.emit o).session? j = s.session? j := rfl
@[simp] theorem State.qp_drawn (s : State) (j : Nat) : (s.drawn).qp j = s.qp j := rfl
@[simp] theorem State.port_drawn (s : State) (j : Nat) : (s.drawn).port j = s.port j := rfl
@[simp] theorem State.cage_drawn (s : State) (j : Nat) : (s.drawn).cage j = s.cage j := rfl
@[simp] theorem State.eg_drawn (s : State) (j : Nat) : (s.drawn).eg j = s.eg j := rfl
@[simp] theorem State.gate_drawn (s : State) (j : Nat) : (s.drawn).gate j = s.gate j := rfl
@[simp] theorem State.memQ_drawn (s : State) (j : Nat) : (s.drawn).memQ j = s.memQ j := rfl
@[simp] theorem State.slotS_drawn (s : State) (j : Nat) : (s.drawn).slotS j = s.slotS j := rfl
@[simp] theorem State.mc_drawn (s : State) (j : Nat) : (s.drawn).mc j = s.mc j := rfl
@[simp] theorem State.chan_drawn (s : State) (j : Nat) : (s.drawn).chan j = s.chan j := rfl
@[simp] theorem State.cmd_drawn (s : State) (j : Nat) : (s.drawn).cmd j = s.cmd j := rfl
@[simp] theorem State.ctrl_drawn (s : State) (j : Nat) : (s.drawn).ctrl j = s.ctrl j := rfl
@[simp] theorem State.ns_drawn (s : State) (j : Nat) : (s.drawn).ns j = s.ns j := rfl
@[simp] theorem State.nport_drawn (s : State) (j : Nat) : (s.drawn).nport j = s.nport j := rfl
@[simp] theorem State.arrS_drawn (s : State) (j : Nat) : (s.drawn).arrS j = s.arrS j := rfl
@[simp] theorem State.copyRegion_drawn (s : State) (j : Nat) : (s.drawn).copyRegion j = s.copyRegion j := rfl
@[simp] theorem State.val_drawn (s : State) (i' r' k' : Nat) : (s.drawn).val i' r' k' = s.val i' r' k' := rfl
@[simp] theorem State.o_drawn (s : State) (i' r' k' : Nat) : (s.drawn).o i' r' k' = s.o i' r' k' := rfl
@[simp] theorem State.session?_drawn (s : State) (j : Nat) : (s.drawn).session? j = s.session? j := rfl
@[simp] theorem State.qp_setVal (s : State) (idx row sub : Nat) (v : Val) (j : Nat) : (s.setVal idx row sub v).qp j = s.qp j := rfl
@[simp] theorem State.port_setVal (s : State) (idx row sub : Nat) (v : Val) (j : Nat) : (s.setVal idx row sub v).port j = s.port j := rfl
@[simp] theorem State.cage_setVal (s : State) (idx row sub : Nat) (v : Val) (j : Nat) : (s.setVal idx row sub v).cage j = s.cage j := rfl
@[simp] theorem State.eg_setVal (s : State) (idx row sub : Nat) (v : Val) (j : Nat) : (s.setVal idx row sub v).eg j = s.eg j := rfl
@[simp] theorem State.gate_setVal (s : State) (idx row sub : Nat) (v : Val) (j : Nat) : (s.setVal idx row sub v).gate j = s.gate j := rfl
@[simp] theorem State.memQ_setVal (s : State) (idx row sub : Nat) (v : Val) (j : Nat) : (s.setVal idx row sub v).memQ j = s.memQ j := rfl
@[simp] theorem State.slotS_setVal (s : State) (idx row sub : Nat) (v : Val) (j : Nat) : (s.setVal idx row sub v).slotS j = s.slotS j := rfl
@[simp] theorem State.mc_setVal (s : State) (idx row sub : Nat) (v : Val) (j : Nat) : (s.setVal idx row sub v).mc j = s.mc j := rfl
@[simp] theorem State.chan_setVal (s : State) (idx row sub : Nat) (v : Val) (j : Nat) : (s.setVal idx row sub v).chan j = s.chan j := rfl
@[simp] theorem State.cmd_setVal (s : State) (idx row sub : Nat) (v : Val) (j : Nat) : (s.setVal idx row sub v).cmd j = s.cmd j := rfl
@[simp] theorem State.ctrl_setVal (s : State) (idx row sub : Nat) (v : Val) (j : Nat) : (s.setVal idx row sub v).ctrl j = s.ctrl j := rfl
@[simp] theorem State.ns_setVal (s : State) (idx row sub : Nat) (v : Val) (j : Nat) : (s.setVal idx row sub v).ns j = s.ns j := rfl
@[simp] theorem State.nport_setVal (s : State) (idx row sub : Nat) (v : Val) (j : Nat) : (s.setVal idx row sub v).nport j = s.nport j := rfl
@[simp] theorem State.arrS_setVal (s : State) (idx row sub : Nat) (v : Val) (j : Nat) : (s.setVal idx row sub v).arrS j = s.arrS j := rfl
@[simp] theorem State.copyRegion_setVal (s : State) (idx row sub : Nat) (v : Val) (j : Nat) : (s.setVal idx row sub v).copyRegion j = s.copyRegion j := rfl
@[simp] theorem State.session?_setVal (s : State) (idx row sub : Nat) (v : Val) (j : Nat) : (s.setVal idx row sub v).session? j = s.session? j := rfl
@[simp] theorem State.qp_put (s : State) (idx row sub n : Nat) (j : Nat) : (s.put idx row sub n).qp j = s.qp j := rfl
@[simp] theorem State.port_put (s : State) (idx row sub n : Nat) (j : Nat) : (s.put idx row sub n).port j = s.port j := rfl
@[simp] theorem State.cage_put (s : State) (idx row sub n : Nat) (j : Nat) : (s.put idx row sub n).cage j = s.cage j := rfl
@[simp] theorem State.eg_put (s : State) (idx row sub n : Nat) (j : Nat) : (s.put idx row sub n).eg j = s.eg j := rfl
@[simp] theorem State.gate_put (s : State) (idx row sub n : Nat) (j : Nat) : (s.put idx row sub n).gate j = s.gate j := rfl
@[simp] theorem State.memQ_put (s : State) (idx row sub n : Nat) (j : Nat) : (s.put idx row sub n).memQ j = s.memQ j := rfl
@[simp] theorem State.slotS_put (s : State) (idx row sub n : Nat) (j : Nat) : (s.put idx row sub n).slotS j = s.slotS j := rfl
@[simp] theorem State.mc_put (s : State) (idx row sub n : Nat) (j : Nat) : (s.put idx row sub n).mc j = s.mc j := rfl
@[simp] theorem State.chan_put (s : State) (idx row sub n : Nat) (j : Nat) : (s.put idx row sub n).chan j = s.chan j := rfl
@[simp] theorem State.cmd_put (s : State) (idx row sub n : Nat) (j : Nat) : (s.put idx row sub n).cmd j = s.cmd j := rfl
@[simp] theorem State.ctrl_put (s : State) (idx row sub n : Nat) (j : Nat) : (s.put idx row sub n).ctrl j = s.ctrl j := rfl
@[simp] theorem State.ns_put (s : State) (idx row sub n : Nat) (j : Nat) : (s.put idx row sub n).ns j = s.ns j := rfl
@[simp] theorem State.nport_put (s : State) (idx row sub n : Nat) (j : Nat) : (s.put idx row sub n).nport j = s.nport j := rfl
@[simp] theorem State.arrS_put (s : State) (idx row sub n : Nat) (j : Nat) : (s.put idx row sub n).arrS j = s.arrS j := rfl
@[simp] theorem State.copyRegion_put (s : State) (idx row sub n : Nat) (j : Nat) : (s.put idx row sub n).copyRegion j = s.copyRegion j := rfl
@[simp] theorem State.session?_put (s : State) (idx row sub n : Nat) (j : Nat) : (s.put idx row sub n).session? j = s.session? j := rfl
@[simp] theorem State.session?_add (s : State) (idx row sub n : Nat) (j : Nat) : (s.add idx row sub n).session? j = s.session? j := rfl
@[simp] theorem State.session?_bump (s : State) (idx row sub : Nat) (j : Nat) : (s.bump idx row sub).session? j = s.session? j := rfl
@[simp] theorem State.qp_setSession (s : State) (id : Nat) (x : Session) (j : Nat) : (s.setSession id x).qp j = s.qp j := rfl
@[simp] theorem State.port_setSession (s : State) (id : Nat) (x : Session) (j : Nat) : (s.setSession id x).port j = s.port j := rfl
@[simp] theorem State.cage_setSession (s : State) (id : Nat) (x : Session) (j : Nat) : (s.setSession id x).cage j = s.cage j := rfl
@[simp] theorem State.eg_setSession (s : State) (id : Nat) (x : Session) (j : Nat) : (s.setSession id x).eg j = s.eg j := rfl
@[simp] theorem State.gate_setSession (s : State) (id : Nat) (x : Session) (j : Nat) : (s.setSession id x).gate j = s.gate j := rfl
@[simp] theorem State.memQ_setSession (s : State) (id : Nat) (x : Session) (j : Nat) : (s.setSession id x).memQ j = s.memQ j := rfl
@[simp] theorem State.slotS_setSession (s : State) (id : Nat) (x : Session) (j : Nat) : (s.setSession id x).slotS j = s.slotS j := rfl
@[simp] theorem State.mc_setSession (s : State) (id : Nat) (x : Session) (j : Nat) : (s.setSession id x).mc j = s.mc j := rfl
@[simp] theorem State.chan_setSession (s : State) (id : Nat) (x : Session) (j : Nat) : (s.setSession id x).chan j = s.chan j := rfl
@[simp] theorem State.cmd_setSession (s : State) (id : Nat) (x : Session) (j : Nat) : (s.setSession id x).cmd j = s.cmd j := rfl
@[simp] theorem State.ctrl_setSession (s : State) (id : Nat) (x : Session) (j : Nat) : (s.setSession id x).ctrl j = s.ctrl j := rfl
@[simp] theorem State.ns_setSession (s : State) (id : Nat) (x : Session) (j : Nat) : (s.setSession id x).ns j = s.ns j := rfl
@[simp] theorem State.nport_setSession (s : State) (id : Nat) (x : Session) (j : Nat) : (s.setSession id x).nport j = s.nport j := rfl
@[simp] theorem State.arrS_setSession (s : State) (id : Nat) (x : Session) (j : Nat) : (s.setSession id x).arrS j = s.arrS j := rfl
@[simp] theorem State.copyRegion_setSession (s : State) (id : Nat) (x : Session) (j : Nat) : (s.setSession id x).copyRegion j = s.copyRegion j := rfl
@[simp] theorem State.val_setSession (s : State) (id : Nat) (x : Session) (i' r' k' : Nat) : (s.setSession id x).val i' r' k' = s.val i' r' k' := rfl
@[simp] theorem State.o_setSession (s : State) (id : Nat) (x : Session) (i' r' k' : Nat) : (s.setSession id x).o i' r' k' = s.o i' r' k' := rfl
@[simp] theorem State.val_dropSession (s : State) (id : Nat) (i' r' k' : Nat) : (s.dropSession id).val i' r' k' = s.val i' r' k' := rfl
@[simp] theorem State.o_dropSession (s : State) (id : Nat) (i' r' k' : Nat) : (s.dropSession id).o i' r' k' = s.o i' r' k' := rfl
@[simp] theorem State.val_setCan (s : State) (c : CanState) (i' r' k' : Nat) : (s.setCan c).val i' r' k' = s.val i' r' k' := rfl
@[simp] theorem State.o_setCan (s : State) (c : CanState) (i' r' k' : Nat) : (s.setCan c).o i' r' k' = s.o i' r' k' := rfl
@[simp] theorem State.val_setMgmt (s : State) (m : MgmtState) (i' r' k' : Nat) : (s.setMgmt m).val i' r' k' = s.val i' r' k' := rfl
@[simp] theorem State.o_setMgmt (s : State) (m : MgmtState) (i' r' k' : Nat) : (s.setMgmt m).o i' r' k' = s.o i' r' k' := rfl
@[simp] theorem State.qp_notIdle (s : State) (j : Nat) : (s.notIdle).qp j = s.qp j := rfl
@[simp] theorem State.port_notIdle (s : State) (j : Nat) : (s.notIdle).port j = s.port j := rfl
@[simp] theorem State.cage_notIdle (s : State) (j : Nat) : (s.notIdle).cage j = s.cage j := rfl
@[simp] theorem State.eg_notIdle (s : State) (j : Nat) : (s.notIdle).eg j = s.eg j := rfl
@[simp] theorem State.gate_notIdle (s : State) (j : Nat) : (s.notIdle).gate j = s.gate j := rfl
@[simp] theorem State.memQ_notIdle (s : State) (j : Nat) : (s.notIdle).memQ j = s.memQ j := rfl
@[simp] theorem State.slotS_notIdle (s : State) (j : Nat) : (s.notIdle).slotS j = s.slotS j := rfl
@[simp] theorem State.mc_notIdle (s : State) (j : Nat) : (s.notIdle).mc j = s.mc j := rfl
@[simp] theorem State.chan_notIdle (s : State) (j : Nat) : (s.notIdle).chan j = s.chan j := rfl
@[simp] theorem State.cmd_notIdle (s : State) (j : Nat) : (s.notIdle).cmd j = s.cmd j := rfl
@[simp] theorem State.ctrl_notIdle (s : State) (j : Nat) : (s.notIdle).ctrl j = s.ctrl j := rfl
@[simp] theorem State.ns_notIdle (s : State) (j : Nat) : (s.notIdle).ns j = s.ns j := rfl
@[simp] theorem State.nport_notIdle (s : State) (j : Nat) : (s.notIdle).nport j = s.nport j := rfl
@[simp] theorem State.arrS_notIdle (s : State) (j : Nat) : (s.notIdle).arrS j = s.arrS j := rfl
@[simp] theorem State.copyRegion_notIdle (s : State) (j : Nat) : (s.notIdle).copyRegion j = s.copyRegion j := rfl
@[simp] theorem State.val_notIdle (s : State) (i' r' k' : Nat) : (s.notIdle).val i' r' k' = s.val i' r' k' := rfl
@[simp] theorem State.o_notIdle (s : State) (i' r' k' : Nat) : (s.notIdle).o i' r' k' = s.o i' r' k' := rfl
@[simp] theorem State.session?_notIdle (s : State) (j : Nat) : (s.notIdle).session? j = s.session? j := rfl
@[simp] theorem State.val_setRegion (s : State) (k : Nat) (c : CopyRegion) (i' r' k' : Nat) : (s.setRegion k c).val i' r' k' = s.val i' r' k' := rfl
@[simp] theorem State.o_setRegion (s : State) (k : Nat) (c : CopyRegion) (i' r' k' : Nat) : (s.setRegion k c).o i' r' k' = s.o i' r' k' := rfl
@[simp] theorem State.session?_setRegion (s : State) (k : Nat) (c : CopyRegion) (j : Nat) : (s.setRegion k c).session? j = s.session? j := rfl
@[simp] theorem State.val_setChan (s : State) (c : Nat) (x : DmaChan) (i' r' k' : Nat) : (s.setChan c x).val i' r' k' = s.val i' r' k' := rfl
@[simp] theorem State.o_setChan (s : State) (c : Nat) (x : DmaChan) (i' r' k' : Nat) : (s.setChan c x).o i' r' k' = s.o i' r' k' := rfl
@[simp] theorem State.session?_setChan (s : State) (c : Nat) (x : DmaChan) (j : Nat) : (s.setChan c x).session? j = s.session? j := rfl
@[simp] theorem State.val_setNport (s : State) (p : Nat) (x : NearPort) (i' r' k' : Nat) : (s.setNport p x).val i' r' k' = s.val i' r' k' := rfl
@[simp] theorem State.o_setNport (s : State) (p : Nat) (x : NearPort) (i' r' k' : Nat) : (s.setNport p x).o i' r' k' = s.o i' r' k' := rfl
@[simp] theorem State.session?_setNport (s : State) (p : Nat) (x : NearPort) (j : Nat) : (s.setNport p x).session? j = s.session? j := rfl
@[simp] theorem State.val_setCmd (s : State) (c : Nat) (x : Cmd) (i' r' k' : Nat) : (s.setCmd c x).val i' r' k' = s.val i' r' k' := rfl
@[simp] theorem State.o_setCmd (s : State) (c : Nat) (x : Cmd) (i' r' k' : Nat) : (s.setCmd c x).o i' r' k' = s.o i' r' k' := rfl
@[simp] theorem State.session?_setCmd (s : State) (c : Nat) (x : Cmd) (j : Nat) : (s.setCmd c x).session? j = s.session? j := rfl
@[simp] theorem State.val_eraseCmd (s : State) (c : Nat) (i' r' k' : Nat) : (s.eraseCmd c).val i' r' k' = s.val i' r' k' := rfl
@[simp] theorem State.o_eraseCmd (s : State) (c : Nat) (i' r' k' : Nat) : (s.eraseCmd c).o i' r' k' = s.o i' r' k' := rfl
@[simp] theorem State.session?_eraseCmd (s : State) (c : Nat) (j : Nat) : (s.eraseCmd c).session? j = s.session? j := rfl
@[simp] theorem State.val_setCtrl (s : State) (c : Nat) (x : Ctrl) (i' r' k' : Nat) : (s.setCtrl c x).val i' r' k' = s.val i' r' k' := rfl
@[simp] theorem State.o_setCtrl (s : State) (c : Nat) (x : Ctrl) (i' r' k' : Nat) : (s.setCtrl c x).o i' r' k' = s.o i' r' k' := rfl
@[simp] theorem State.session?_setCtrl (s : State) (c : Nat) (x : Ctrl) (j : Nat) : (s.setCtrl c x).session? j = s.session? j := rfl
@[simp] theorem State.val_setNs (s : State) (n : Nat) (x : NsState) (i' r' k' : Nat) : (s.setNs n x).val i' r' k' = s.val i' r' k' := rfl
@[simp] theorem State.o_setNs (s : State) (n : Nat) (x : NsState) (i' r' k' : Nat) : (s.setNs n x).o i' r' k' = s.o i' r' k' := rfl
@[simp] theorem State.session?_setNs (s : State) (n : Nat) (x : NsState) (j : Nat) : (s.setNs n x).session? j = s.session? j := rfl
@[simp] theorem State.val_setQp (s : State) (i : Nat) (q : Qp) (i' r' k' : Nat) : (s.setQp i q).val i' r' k' = s.val i' r' k' := rfl
@[simp] theorem State.o_setQp (s : State) (i : Nat) (q : Qp) (i' r' k' : Nat) : (s.setQp i q).o i' r' k' = s.o i' r' k' := rfl
@[simp] theorem State.session?_setQp (s : State) (i : Nat) (q : Qp) (j : Nat) : (s.setQp i q).session? j = s.session? j := rfl
@[simp] theorem State.val_setPort (s : State) (p : Nat) (x : EthPort) (i' r' k' : Nat) : (s.setPort p x).val i' r' k' = s.val i' r' k' := rfl
@[simp] theorem State.o_setPort (s : State) (p : Nat) (x : EthPort) (i' r' k' : Nat) : (s.setPort p x).o i' r' k' = s.o i' r' k' := rfl
@[simp] theorem State.session?_setPort (s : State) (p : Nat) (x : EthPort) (j : Nat) : (s.setPort p x).session? j = s.session? j := rfl
@[simp] theorem State.val_setCage (s : State) (n : Nat) (c : Cage) (i' r' k' : Nat) : (s.setCage n c).val i' r' k' = s.val i' r' k' := rfl
@[simp] theorem State.o_setCage (s : State) (n : Nat) (c : Cage) (i' r' k' : Nat) : (s.setCage n c).o i' r' k' = s.o i' r' k' := rfl
@[simp] theorem State.session?_setCage (s : State) (n : Nat) (c : Cage) (j : Nat) : (s.setCage n c).session? j = s.session? j := rfl
@[simp] theorem State.val_setEg (s : State) (p : Nat) (e : EgPort) (i' r' k' : Nat) : (s.setEg p e).val i' r' k' = s.val i' r' k' := rfl
@[simp] theorem State.o_setEg (s : State) (p : Nat) (e : EgPort) (i' r' k' : Nat) : (s.setEg p e).o i' r' k' = s.o i' r' k' := rfl
@[simp] theorem State.session?_setEg (s : State) (p : Nat) (e : EgPort) (j : Nat) : (s.setEg p e).session? j = s.session? j := rfl
@[simp] theorem State.val_setGate (s : State) (p : Nat) (g : GatePort) (i' r' k' : Nat) : (s.setGate p g).val i' r' k' = s.val i' r' k' := rfl
@[simp] theorem State.o_setGate (s : State) (p : Nat) (g : GatePort) (i' r' k' : Nat) : (s.setGate p g).o i' r' k' = s.o i' r' k' := rfl
@[simp] theorem State.session?_setGate (s : State) (p : Nat) (g : GatePort) (j : Nat) : (s.setGate p g).session? j = s.session? j := rfl
@[simp] theorem State.val_setMemQ (s : State) (n : Nat) (x : MemberSched) (i' r' k' : Nat) : (s.setMemQ n x).val i' r' k' = s.val i' r' k' := rfl
@[simp] theorem State.o_setMemQ (s : State) (n : Nat) (x : MemberSched) (i' r' k' : Nat) : (s.setMemQ n x).o i' r' k' = s.o i' r' k' := rfl
@[simp] theorem State.session?_setMemQ (s : State) (n : Nat) (x : MemberSched) (j : Nat) : (s.setMemQ n x).session? j = s.session? j := rfl
@[simp] theorem State.val_setSrc (s : State) (f : Flow) (x : SrcFlow) (i' r' k' : Nat) : (s.setSrc f x).val i' r' k' = s.val i' r' k' := rfl
@[simp] theorem State.o_setSrc (s : State) (f : Flow) (x : SrcFlow) (i' r' k' : Nat) : (s.setSrc f x).o i' r' k' = s.o i' r' k' := rfl
@[simp] theorem State.session?_setSrc (s : State) (f : Flow) (x : SrcFlow) (j : Nat) : (s.setSrc f x).session? j = s.session? j := rfl
@[simp] theorem State.val_setReseq (s : State) (f : Flow) (x : Reseq) (i' r' k' : Nat) : (s.setReseq f x).val i' r' k' = s.val i' r' k' := rfl
@[simp] theorem State.o_setReseq (s : State) (f : Flow) (x : Reseq) (i' r' k' : Nat) : (s.setReseq f x).o i' r' k' = s.o i' r' k' := rfl
@[simp] theorem State.session?_setReseq (s : State) (f : Flow) (x : Reseq) (j : Nat) : (s.setReseq f x).session? j = s.session? j := rfl
@[simp] theorem State.val_setSlot (s : State) (n : Nat) (x : Slot) (i' r' k' : Nat) : (s.setSlot n x).val i' r' k' = s.val i' r' k' := rfl
@[simp] theorem State.o_setSlot (s : State) (n : Nat) (x : Slot) (i' r' k' : Nat) : (s.setSlot n x).o i' r' k' = s.o i' r' k' := rfl
@[simp] theorem State.session?_setSlot (s : State) (n : Nat) (x : Slot) (j : Nat) : (s.setSlot n x).session? j = s.session? j := rfl
@[simp] theorem State.val_setMc (s : State) (k : Nat) (x : MemberCmd) (i' r' k' : Nat) : (s.setMc k x).val i' r' k' = s.val i' r' k' := rfl
@[simp] theorem State.o_setMc (s : State) (k : Nat) (x : MemberCmd) (i' r' k' : Nat) : (s.setMc k x).o i' r' k' = s.o i' r' k' := rfl
@[simp] theorem State.session?_setMc (s : State) (k : Nat) (x : MemberCmd) (j : Nat) : (s.setMc k x).session? j = s.session? j := rfl
@[simp] theorem State.val_setArr (s : State) (a : Nat) (x : ArrState) (i' r' k' : Nat) : (s.setArr a x).val i' r' k' = s.val i' r' k' := rfl
@[simp] theorem State.o_setArr (s : State) (a : Nat) (x : ArrState) (i' r' k' : Nat) : (s.setArr a x).o i' r' k' = s.o i' r' k' := rfl
@[simp] theorem State.session?_setArr (s : State) (a : Nat) (x : ArrState) (j : Nat) : (s.setArr a x).session? j = s.session? j := rfl

end Sys2Proof.Machine
end

