-- ==== Sys2Proof/Laws/Ops.lean ====
section
/-! SUPPORT. One lemma for each shared operation: what it can answer. -/

namespace Sys2Proof.Machine

/-! ### The shapes of a meaning -/

theorem State.runAt_off {s : State} (t : Nat) (f : State → State) (h : s.pwr.off = true) : s.runAt t f = s.at t := by
  simp [State.runAt, h]

theorem State.runAt_on {s : State} (t : Nat) (f : State → State) (h : s.pwr.off = false) : s.runAt t f = f (s.at t) := by
  simp [State.runAt, h]

/-- A meaning over `act` answers the state with the effect, or with the time alone where its operands name no unit or the
rails are off; the queue, module memory and the core voltage stay, and time does not go back. -/
theorem act_next {t : Nat} {ok : Bool} {s u : State} {f : State → State} (h : act t ok s f = .next u) :
    u.pending = s.pending ∧ u.now = max s.now t ∧ u.hbm = s.hbm ∧ u.vcore = s.vcore ∧
      ((ok = false ∨ s.pwr.off = true) ∧ u = s.at t ∨
        ok = true ∧ s.pwr.off = false ∧
          u = { f (s.at t) with now := max s.now t, pending := s.pending, hbm := s.hbm, vcore := s.vcore }) := by
  cases ok <;> cases ho : s.pwr.off <;> simp [act, State.runAt, ho] at h <;> subst h <;> simp [State.at]

/-- The same for a meaning that may write module memory. -/
theorem actMem_next {t : Nat} {ok : Bool} {s u : State} {f : State → State} (h : actMem t ok s f = .next u) :
    u.pending = s.pending ∧ u.now = max s.now t ∧ u.vcore = s.vcore ∧
      ((ok = false ∨ s.pwr.off = true) ∧ u = s.at t ∨
        ok = true ∧ s.pwr.off = false ∧ u = { f (s.at t) with now := max s.now t, pending := s.pending, vcore := s.vcore }) := by
  cases ok <;> cases ho : s.pwr.off <;> simp [actMem, State.runAt, ho] at h <;> subst h <;> simp [State.at]

/-- The voltage that the rail takes lies in the trim range and on its steps (02 R57). -/
theorem railVolt_range (v : Nat) : 6400 ≤ railVolt v ∧ railVolt v ≤ 8200 ∧ railVolt v % 25 = 0 := by
  unfold railVolt; omega

/-- The rail keeps a voltage that it has. -/
theorem railVolt_of_range {v : Nat} (h : 6400 ≤ v ∧ v ≤ 8200 ∧ v % 25 = 0) : railVolt v = v := by unfold railVolt; omega

/-- The same for a meaning that may set the core voltage: the rail takes it inside the trim range. -/
theorem actVolt_next {t : Nat} {ok : Bool} {s u : State} {f : State → State} (h : actVolt t ok s f = .next u) :
    u.pending = s.pending ∧ u.now = max s.now t ∧ u.hbm = s.hbm ∧
      (ok = false ∧ u = s.at t ∨
        ok = true ∧ u = { s.runAt t f with
          now := max s.now t, pending := s.pending, hbm := s.hbm, vcore := railVolt (s.runAt t f).vcore
          core := s.railCore (s.runAt t f) t }) := by
  cases ok <;> simp [actVolt] at h <;> subst h <;> simp

/-- The same for a meaning of the housekeeping circuits, which acts with the rails off too. -/
theorem actAll_next {t : Nat} {ok : Bool} {s u : State} {f : State → State} (h : actAll t ok s f = .next u) :
    u.pending = s.pending ∧ u.now = max s.now t ∧
      (ok = false ∧ u = s.at t ∨
        ok = true ∧ u = { f (s.at t) with
          now := max s.now t, pending := s.pending, vcore := railVolt (f (s.at t)).vcore, core := s.railCore (f (s.at t)) t }) := by
  cases ok <;> simp [actAll] at h <;> subst h <;> simp

/-- The same for a meaning of an event on a pin: with the rails off it follows the pin alone. -/
theorem actPin_next {t : Nat} {ok : Bool} {s u : State} {pin f : State → State} (h : actPin t ok s pin f = .next u) :
    u.pending = s.pending ∧ u.now = max s.now t ∧ u.hbm = s.hbm ∧ u.vcore = s.vcore ∧
      (ok = false ∧ u = s.at t ∨
        ok = true ∧ u = { (if s.pwr.off then pin (s.at t) else f (s.at t)) with
          now := max s.now t, pending := s.pending, hbm := s.hbm, vcore := s.vcore }) := by
  cases ok <;> simp [actPin] at h <;> subst h <;> simp

/-- Every meaning over these five answers a next state. -/
theorem act_isNext (t : Nat) (ok : Bool) (s : State) (f : State → State) : ∃ u, act t ok s f = .next u := by
  cases ok <;> exact ⟨_, rfl⟩

theorem actMem_isNext (t : Nat) (ok : Bool) (s : State) (f : State → State) : ∃ u, actMem t ok s f = .next u := by
  cases ok <;> exact ⟨_, rfl⟩

theorem actVolt_isNext (t : Nat) (ok : Bool) (s : State) (f : State → State) : ∃ u, actVolt t ok s f = .next u := by
  cases ok <;> exact ⟨_, rfl⟩

theorem actAll_isNext (t : Nat) (ok : Bool) (s : State) (f : State → State) : ∃ u, actAll t ok s f = .next u := by
  cases ok <;> exact ⟨_, rfl⟩

theorem actPin_isNext (t : Nat) (ok : Bool) (s : State) (pin f : State → State) : ∃ u, actPin t ok s pin f = .next u := by
  cases ok <;> exact ⟨_, rfl⟩

/-! ### Session writes and commits (16 R643) -/

/-- The first abort code of a list is 0 just where all are. -/
theorem firstCode_eq_zero {l : List Abort} : firstCode l = 0 ↔ ∀ c ∈ l, c = 0 := by
  induction l with
  | nil => simp [firstCode]
  | cons c r ih => by_cases h : c = 0 <;> simp [firstCode, h, ih]

theorem State.withSession_none {s : State} {sess : Nat} (f : Session → State) (h : s.session? sess = none) :
    s.withSession sess f = s.bump 0x6021 0 3 := by simp [State.withSession, h]

theorem State.withSession_some {s : State} {sess : Nat} {x : Session} (f : Session → State) (h : s.session? sess = some x) :
    s.withSession sess f = f x := by simp [State.withSession, h]

/-- A write to an object is discarded (no such session), refused with a code that is not 0, or applied and answered with 0. -/
theorem State.writeAs_cases (s : State) (sess idx sub : Nat) (v : Val) (chk : State → Abort) (app : State → State) :
    (s.session? sess = none ∧ s.writeAs sess idx sub v chk app = s.bump 0x6021 0 3) ∨
    (∃ x c, s.session? sess = some x ∧ c ≠ 0 ∧ s.writeAs sess idx sub v chk app = s.refuse sess c) ∨
    (∃ x, s.session? sess = some x ∧ chk s = 0 ∧ s.writeAs sess idx sub v chk app = (app s).reply sess 0) := by
  cases h : s.session? sess with
  | none => exact .inl ⟨rfl, State.withSession_none _ h⟩
  | some x =>
    rw [State.writeAs, State.withSession_some _ h]
    by_cases h0 : firstCode ([writeAccess x idx sub, writeLength idx sub v, writeRange idx sub v,
        if chk s = abRange ∨ chk s = abJoin then chk s else 0, need (s.areaOpen idx) abState, chk s,
        s.storeCode (Dict.keeps idx sub && decide (s.val idx 0 sub ≠ v))]) = 0
    · exact .inr (.inr ⟨x, rfl, firstCode_eq_zero.1 h0 _ (by simp), if_pos h0⟩)
    · exact .inr (.inl ⟨x, _, rfl, h0, if_neg h0⟩)

/-- A write that a session may make and whose own check passes is applied and answered with 0. -/
theorem State.writeAs_taken {s : State} {sess idx sub : Nat} {v : Val} {chk : State → Abort} {app : State → State}
    (h : s.mayWrite sess idx sub v = true) (hk : chk s = 0) :
    s.writeAs sess idx sub v chk app = (app s).reply sess 0 := by
  unfold State.mayWrite at h
  cases hx : s.session? sess with
  | none => simp [hx] at h
  | some x =>
    simp only [hx, Bool.and_eq_true, decide_eq_true_eq] at h
    obtain ⟨⟨⟨h1, h2, h3⟩, h4⟩, h5⟩ := h
    rw [State.writeAs, State.withSession_some _ hx]
    simp [firstCode, hk, h1, h2, h3, h4, h5, need, State.storeCode]

/-- A commit of a row is discarded, refused with a code that is not 0, held for the peer, or applied and answered with 0. -/
theorem State.commitAs_cases (s : State) (sess win v : Nat) (chk : Session → Stage → State → Abort)
    (app : Stage → State → State → State) :
    (s.session? sess = none ∧ s.commitAs sess win v chk app = s.bump 0x6021 0 3) ∨
    (∃ x c, s.session? sess = some x ∧ c ≠ 0 ∧ s.commitAs sess win v chk app = s.refuse sess c) ∨
    (∃ x, s.session? sess = some x ∧ chk x (s.stage x win) s = 0 ∧
      s.commitAs sess win v chk app =
        if s.paired && isShelfSetting win 0 then s.holdCommit sess win (s.stage x win) none
        else ((s.applyCommit sess win (s.stage x win) app).configStep win 0).reply sess 0) := by
  cases h : s.session? sess with
  | none => exact .inl ⟨rfl, State.withSession_none _ h⟩
  | some x =>
    rw [State.commitAs, State.withSession_some _ h]
    by_cases h0 : firstCode (s.commitCodes x win v (s.stage x win) ++
        [chk x (s.stage x win) s, s.storeCode (s.changesKept win (s.stage x win))]) = 0
    · exact .inr (.inr ⟨x, rfl, firstCode_eq_zero.1 h0 _ (by simp), if_pos h0⟩)
    · exact .inr (.inl ⟨x, _, rfl, h0, if_neg h0⟩)

/-- A received record acts only where its type is the command's and the link is up (14). -/
theorem deliverAs_cases (ty : RecType) (r : TwinRec) (s : State) :
    (r.typ = ty ∧ s.twin.linked = true ∧ deliverAs ty r s = s.deliver r) ∨ deliverAs ty r s = s := by
  unfold deliverAs; split
  · rename_i h; exact .inl ⟨h.1, h.2, rfl⟩
  · exact .inr rfl

end Sys2Proof.Machine
end

