-- ==== Sys2Proof/Tests/Slice0.lean ====
section
/-! SUPPORT. Witnesses of the statements' hypotheses, and tests. Each `witness_X` shows, for every clause of the statement X, a
state and operands that meet the clause's hypotheses together. -/

namespace Sys2Proof.Tests

-- One theorem after another: checked all at once, each holds its own copy of the stack and the check runs out of memory.
set_option Elab.async false

open Sys2Proof Sys2Proof.Machine

def w0 : State := { State.reset with now := 1000000000000, sess := { tbl := [(16, { level := 2, authed := true, account := none })], nextId := 17 } }
/-- stage in session 16 -/
def stg (s : State) (win row : Nat) (fs : List (Nat × Val)) : State :=
  match s.session? 16 with
  | some x => s.setStage 16 x win { s.loadStage win row with fields := fs.foldl (fun t e => Tbl.set t e.1 e.2) (s.loadStage win row).fields }
  | none => s
def wTw (s : State) (f : TwinState → TwinState) : State := { s with twin := f s.twin }
/-- a paired module A -/
def wPair : State :=
  ((wTw w0 fun x => { x with twinMode := true, linked := true, groups := 3, yieldIn := false, yieldOut := false, lastDelivered := some 5000000000000 }).put 0x2400 0 4 2).put 0x2400 0 2 1
def wFrame : EgFrame := { msg := .ctl (.announceAddress 0), len := 64, prio := 0, dscp := 0, at_ := 0 }
def wUp (s : State) (p : Nat) : State := s.setPort p { linkUp := true }
/-- array `a` with members in `slots`, two data columns -/
def wArr (s : State) (a : Nat) (slots : List Nat) : State :=
  ((s.put 0x5000 a 2 1).put 0x5000 a 3 slots.length).setVal 0x5000 a 7
    (.oct 24 ((slots ++ List.replicate (24 - slots.length) 255).foldl (fun v x => v * 256 + x) 0))
/-- a descriptor with these fields: next, destination, source, length, flags -/
def wDesc (next dst src len flags : Nat) : BitVec 256 := BitVec.ofNat 256 (next * 2 ^ 192 + dst * 2 ^ 128 + src * 2 ^ 64 + len * 2 ^ 32 + flags)
def wPw (s : State) (f : PowerState → PowerState) : State := { s with pwr := f s.pwr }
/-- Alonard over UDP reachable at an address -/
def wNet : State := ((w0.put 0x1110 0 1 0xFFFF0A000001).put 0x1110 0 2 24).put 0x1110 0 5 1500
def wSess (s : State) (id : Nat) (x : Session) : State := s.setSession id x
/-- an image whose header carries a magic number that is none -/
def wBusy (s : State) (p : Nat) : State := (s.setPort p { s.port p with linkUp := true }).setEg p { onLine := some wFrame }
/-- an interface row -/
def wIf (s : State) (row port ip : Nat) : State :=
  (((s.put 0x3040 row 2 1).put 0x3040 row 3 port).setVal 0x3040 row 5 (.oct 16 ip)).put 0x3040 row 6 24
/-- QP 3 (its number on the wire is 131075), on port 0 with a frame on the line -/
def wQp (q : Qp) : State := (wBusy w0 0).setQp 3 q
def wListen (s : State) (row ifRow typ tenant : Nat) : State :=
  ((((s.put 0x3240 row 2 1).put 0x3240 row 3 ifRow).put 0x3240 row 4 1).put 0x3240 row 5 typ).put 0x3240 row 6 tenant
def wAdm (c : Capsule) (k : Ctrl) : State :=
  let s := wQp { state := 1, cntlid := some 5, privQid := 0, qid := 0 }
  { s with nvme := { s.nvme with cmds := [(9, { qp := some 3, cntlid := some 5, cap := c, arrivedAt := 900 })], ctrls := [(5, k)] } }
/-- namespace row 12: subsystem 0, NSID 1, tenant 9, array 0, 1000 blocks of 4,096 bytes -/
def wNs (s : State) : State :=
  (((((((s.put 0x3230 12 2 1).put 0x3230 12 3 0).put 0x3230 12 4 1).put 0x3230 12 5 9).put 0x3230 12 6 0).put 0x3230 12 7 4096).put 0x3230 12 8 1000).put 0x3250 9 3 1
/-- controller 5 of host row 1 (tenant 9) with command 9 on I/O queue 1 (QP 3) -/
def wIo (c : Cmd) : State :=
  let s := (((wNs (wArr (wQp { state := 1, cntlid := some 5, privQid := 1, qid := 1, tenant := 9 }) 0 [0, 1, 2, 3])).put 0x5000 0 4 2).put 0x5000 0 6 64).put 0x2201 0 2 100000000
  { s with
    nvme := { s.nvme with cmds := [(9, { c with qp := some 3, cntlid := some 5, arrivedAt := 900, nsRow := 12, tenant := 9, host := 1 })], ctrls := [(5, { state := 2, hostRow := 1, hostid := 44, cc := 1 })], ns := [(12, { extents := [(0, 64)] })] }
    arr := { s.arr with arrs := [(0, { nRows := 1000 })] } }
def wRd (op : Nat) : State := wIo { cap := { opcode := op, nsid := 1, slba := 8, nlb := 2, dptr := .offsetBlock 0 8192, inLen := 8192, inData := 5, prkey := 77 }, len := 8192 }
/-- array 0 of slots 0 to 3, two data columns of 64 KiB, usable members -/
def wArr0 (s : State) : State :=
  let s := ((((wArr s 0 [0, 1, 2, 3]).put 0x5000 0 4 2).put 0x5000 0 5 0).put 0x5000 0 6 64).put 0x2201 0 2 100000000
  let s := (List.range 4).foldl (fun s m => ((s.put 0x5100 m 2 1).put 0x5100 m 3 m)) s
  { s with arr := { s.arr with arrs := [(0, { nRows := 2000, watermark := 2000, lbaSize := 4096 })] } }
def wSlots (s : State) : State :=
  (List.range 24).foldl (fun s n => ((((s.put 0x5200 n 2 6).put 0x5200 n 9 1000000000000).put 0x5200 n 0xA 4096).put 0x5200 n 0xB 8).put 0x5200 n 0xC 128) s
def wPage : PageVer := { data := 5, mask := 255, since := 5, seq := 1, nsRow := 12, keyGen := 0, tenant := 9, cls := 1 }
def wSlot (x : Slot) (st : Nat) : State := (w0.setSlot 3 x).setSlotState 3 st
def wMc (c : MemberCmd) : State := let s := wSlot { linkUp := true, prsnt := true } 6; { s with slot := { s.slot with cmds := [(7, c)], nextCmd := 8, streams := [(5, 7)] } }
def wNp (p : Nat) (x : NearPort) : State := w0.setNport p x
def wVf (v : Nat) (x : Vf) : State := w0.setNport 1 { perst := false, linkUp := true, vfEnable := true, bme := true, memEnable := true, numVfs := 8, vfs := [(v, x)] }
def wVfAdm (c : Capsule) (x : Vf) : State :=
  let s := wVf 3 x
  { s with nvme := { cmds := [(9, { vf := some (1, 3, 0), cntlid := some (s.vfCtrl 1 3), cap := c, cls := 1 })], ctrls := [(s.vfCtrl 1 3, { state := 2, vf := some (1, 3), cc := 1 })] } }


/-! ### Well-formedness: one term per check that the check refuses -/

theorem test_wf_sample_count : Instr.wf (.barometerSample 0 (List.replicate 63 0)) = false := by decide +kernel
theorem test_wf_barometer : Instr.wf (.barometerStatusWrite 0 16 64 2) = false := by decide
theorem test_wf_flow_source : Instr.wf (.resequencerTimeout 0 ⟨68, 0, 0, 0⟩) = false := by decide
theorem test_wf_flow_class : Instr.wf (.epochAdvance 0 ⟨0, 0, 0, 8⟩) = false := by decide
theorem test_wf_plane : Instr.wf (.planeStatusWrite 0 16 4 2) = false := by decide
theorem test_wf_attachment : Instr.wf (.cellArrival 0 0 68 {} 0) = false := by decide
theorem test_wf_port : Instr.wf (.linkUp 0 32) = false := by decide
theorem test_wf_cage : Instr.wf (.cageReadRetry 0 8 default) = false := by decide
theorem test_wf_priority : Instr.wf (.pauseStorm 0 0 8) = false := by decide
theorem test_wf_wire : Instr.wf (.cmRtu 0 (2 ^ 24)) = false := by decide
theorem test_wf_queue_pair : Instr.wf (.localAckTimeout 0 131072) = false := by decide
theorem test_wf_slice : Instr.wf (.parkingStart 0 4) = false := by decide
theorem test_wf_controller : Instr.wf (.keepAliveExpiry 0 65536) = false := by decide
theorem test_wf_namespace : Instr.wf (.cryptoEraseComplete 0 8192) = false := by decide
theorem test_wf_host : Instr.wf (.hostLimitExpiry 0 2048) = false := by decide
theorem test_wf_engine : Instr.wf (.engineCapsuleTake 0 32) = false := by decide
theorem test_wf_tenant : Instr.wf (.commandAdmit 0 4096) = false := by decide
theorem test_wf_queue_ref : Instr.wf (.queueStarved 0 (.member 0 8 0)) = false := by decide
theorem test_wf_counter : Instr.wf (.counterLatchRead 0 16 1024) = false := by decide
theorem test_wf_array : Instr.wf (.journalBlockWrite 0 4) = false := by decide
theorem test_wf_context : Instr.wf (.accumulationComplete 0 1024) = false := by decide
theorem test_wf_slot : Instr.wf (.driveInsertion 0 24) = false := by decide
theorem test_wf_link_rate : Instr.wf (.slotLinkUp 0 0 8 4) = false := by decide
theorem test_wf_link_width : Instr.wf (.slotLinkUp 0 0 32 8) = false := by decide
theorem test_wf_smart_critical : Instr.wf (.smartPoll 0 0 256 0 0 0) = false := by decide
theorem test_wf_near_port : Instr.wf (.mailboxAbort 0 2) = false := by decide
theorem test_wf_config_offset : Instr.wf (.npConfigRequest 0 0 0 2 none) = false := by decide
theorem test_wf_doorbell : Instr.wf (.vfDoorbell 0 0 1 16384 0) = false := by decide
theorem test_wf_vf : Instr.wf (.vfFlr 0 0 65) = false := by decide
theorem test_wf_cc_value : Instr.wf (.vfCcWrite 0 0 1 (2 ^ 32)) = false := by decide
theorem test_wf_mailbox_length : Instr.wf (.mailboxDoorbell 0 0 8192 (.openRequest 0)) = false := by decide
theorem test_wf_channel : Instr.wf (.dmaDisable 0 64) = false := by decide
theorem test_wf_dma_address : Instr.wf (.dmaTransferError 0 0 1 (2 ^ 48)) = false := by decide
theorem test_wf_dma_setup : isDmaSetup { (default : DmaSetup) with head := 16 } = false := by decide
theorem test_wf_lane_group : Instr.wf (.laneGroupRetrain 0 2) = false := by decide
theorem test_wf_engines_out : Instr.wf (.selfVerdictEvaluation 0 33 0) = false := by decide
theorem test_wf_copy_region : Instr.wf (.copyRegionErase 0 2) = false := by decide
theorem test_wf_transport : Instr.wf (.openRequest 0 0 3) = false := by decide
theorem test_wf_management_port : Instr.wf (.managementLanLost 0 2) = false := by decide

/-! ### Figures that the manual works out -/

/-- 02 Table 3: at 145 ps the fabric carries 20.6 Tb/s. -/
theorem test_capacity : ⌊(192 / 10 * 156 / 145 : Rat) * 10⌋ = 206 := by norm_num

/-- 01 R23, the example: 021A_2B00_3000h is offset 3000h of stream context 1A2Bh. -/
theorem test_stream_address : streamAddr 0x021A2B003000 = some (0x1A2B, 0x3000) := by decide +kernel

/-- The port of the example beside 04 R136: N3 in mode 0, a link delay of 81.0 ns and priorities 3 and 4 lossless. -/
def headroomPort : State :=
  { w0.put 0x3001 12 9 0x18 with
    eth := { w0.eth with ports := Tbl.set w0.eth.ports 12 { State.port w0 12 with
      delays := List.replicate 4 true, kept := List.replicate 4 81000 } } }

theorem test_headroom : headroomPort.headroom 12 3 = 114688 := by decide +kernel
theorem test_xoff : headroomPort.xoff 12 = 447488 := by decide +kernel
theorem test_xon : headroomPort.xon 12 = 429056 := by decide +kernel

/-- 05 R176, the example's step 1: an RTT sample of 25.0 µs over a base of 5.0 µs takes the window from 524,288 to 356,480. -/
theorem test_rtt_step :
    (w0.onRtt { cls := 2, window := 524288, srtt := some 20, rtts := [(w0.now, 5)] } 25 0).window = 356480 := by
  decide +kernel

/-- The example's step 2: within the hold-off a CNP leaves the window. -/
theorem test_cnp_held :
    (w0.onCnp { cls := 2, window := 356480, srtt := some 20, lastDecrease := some (w0.now - 3000), alpha := 5245 / 10000 }).window =
      356480 := by
  decide +kernel

/-- The example's step 3: alpha 0.5542, 24 µs after the decrease. -/
theorem test_cnp_step :
    (w0.onCnp { cls := 2, window := 356480, srtt := some 20, lastDecrease := some (w0.now - 24000), alpha := 5542 / 10000 }).window =
      252672 := by
  decide +kernel

/-- 08, the example beside R289: a page with three tenant records is 3,909 bytes long, of which M is 536. -/
theorem test_page_length :
    (LedgerPage.message { seq := 1, flags := 0, from_ := 0, upTo := 60, recs := List.replicate 3 { tenant := 0, flags := 0, meters := List.replicate 16 0 } } 0).1 = 536 := by
  decide +kernel

/-- 09, the worked example of R303: the place of a data address, and the member that holds it. -/
theorem test_place : place 9 65536 27033620480 = (45833, 3, 20480) := by decide +kernel
theorem test_member : memberAt 12 45833 3 = 10 ∧ gfPow 3 = 8 := by decide +kernel
theorem test_member_offset : rowBase 65536 45833 + 20480 = 11593666560 := by decide +kernel

/-- 10, the example beside Table 3: the median of the twelve percentiles is 85.5 µs. -/
theorem test_reference_latency : median [82, 85, 84, 88, 90, 86, 83, 87, 410, 85, 89, 84] = 171 / 2 := by decide +kernel

/-- The same example: a Class 0 read of 4 KiB is read around after 171 µs. -/
theorem test_read_around :
    (let s := (w0.modArr 2 fun x => { x with lref := 171 / 2 }); s.aroundTerm 2 0) = 171 := by decide +kernel

/-- 13, the worked example beside R446: 100 bytes at 3Eh are 26 dwords, with enables 1100b and 0011b. -/
theorem test_tlp : tlpDwords 0x3E 100 = 26 ∧ firstEnables 0x3E 100 = 0b1100 ∧ lastEnables 0x3E 100 = 0b0011 := by decide +kernel

/-- 14 R480, the example: ceilings of 2 GiB and 1.5 GiB give a share of 805,306,368 bytes. -/
theorem test_twin_share :
    (let s := State.syncShare ((wTw wPair fun x => { x with peer := some { (default : Hello) with ceiling := 1610612736 } }).put 0x2201 0 2
      2147483648); s.ob 0x2403 1) = 805306368 := by decide +kernel

/-- 12 R423, the example: near-host address 0000_0042_1234_5000h lies in the 16 GiB region 10h. -/
theorem test_region : regionOf 0x4212345000 = 0x10 ∧ 0x4212345000 % 2 ^ 34 = 0x212345000 := by decide +kernel

/-- 15, the worked example beside R536: 5.9 mF at 72.0 V supports 2,013,265,920 bytes. -/
theorem test_auto_ceiling : autoCeiling (87 / 100 * capEnergy (59 / 10) 72 28) 12 10 = 2013265920 := by decide +kernel


/-! ### Witnesses -/

theorem region_low {s : State} {c addr len : Nat} {w f : Bool}
    (h : jobOf c = none ∧ addr + (len - 1) < 0xC00000000) : s.region c addr len w f = some .memory := by
  have hb : addr + (len - 1) < hbmEnd := by unfold hbmEnd; split <;> omega
  have ha : addr < 0xC000000000 := by omega
  simp [State.region, h.1, hb, ha]

theorem le_hbmEnd {x : Nat} (h : x ≤ 0xC00000000) : x ≤ hbmEnd := by unfold hbmEnd; split <;> omega

theorem mayFetch_low {s : State} {c : Nat} (h : jobOf c = none ∧ (s.chan c).cur + (32 - 1) < 0xC00000000) :
    s.dmaMayFetch c = true := by
  have hb : (s.chan c).cur < hbmEnd := by unfold hbmEnd; split <;> omega
  simp [State.dmaMayFetch, region_low h, hb]

theorem grantAt_first {s : State} {n k len : Nat} {c : MemberCmd} {op : DriveOp} (h : s.outstanding n = [(k, c)])
    (hc : c.op = op ∧ c.ctx = none ∧ len ≤ c.len) : s.grantAt n (Config.grantBase k) len op = some (k, c) := by
  simp [State.grantAt, h, hc.1, hc.2.1, hc.2.2]

theorem discards_w0 : w0.discards 16 { counter := 0 } := .inr (.inl (by decide))

theorem witness_EmptyQueueIdles : State.reset.pending = [] := rfl

theorem witness_QueueAndTime : ∃ i s u, exec i s = .next u := ⟨.nmtStop 5, w0, _, rfl⟩

theorem witness_RailInvariant : ∃ s u, s.railOk ∧ step s = .next u :=
  ⟨{ w0 with pending := [.nmtStop 5] }, _, by decide +kernel, rfl⟩

theorem witness_MemoryInvariant : ∃ s u, s.memoryOk ∧ step s = .next u :=
  ⟨{ w0 with pending := [.nmtStop 5], hbm := [(4, 7)] }, _, by decide +kernel, rfl⟩

theorem witness_ModuleMemoryKept : ∃ i s u, movesData i = false ∧ runsUnpowered i = false ∧ exec i s = .next u :=
  ⟨.nmtStop 5, w0, _, rfl, rfl, rfl⟩

theorem witness_CoreVoltageKept : ∃ i s u, setsVoltage i = false ∧ runsUnpowered i = false ∧ exec i s = .next u :=
  ⟨.nmtStop 5, w0, _, rfl, rfl, rfl⟩

theorem witness_OffOnlyTimePasses :
    (∃ i s u, s.pwr.off = true ∧ s.railOk ∧ runsUnpowered i = false ∧ exec i s = .next u ∧ followsPin i = false ∧
      asksConfig i = false) ∧
    (∃ i s u, s.pwr.off = true ∧ s.railOk ∧ runsUnpowered i = false ∧ exec i s = .next u ∧ followsPin i = true) ∧
    (∃ i s u, s.pwr.off = true ∧ s.railOk ∧ runsUnpowered i = false ∧ exec i s = .next u ∧ asksConfig i = true ∧
      ∀ p < 2, (State.nport s p).ready = false) :=
  ⟨⟨.nmtStop 5, wPw w0 fun x => { x with off := true }, _, rfl, by decide +kernel, rfl, rfl, rfl, rfl⟩,
   ⟨.yieldInAssert 5, wPw w0 fun x => { x with off := true }, _, rfl, by decide +kernel, rfl, rfl, rfl⟩,
   ⟨.npConfigRequest 5 0 0 0 none, { wPw w0 (fun x => { x with off := true }) with np := [(0, { ready := false }), (1, { ready := false })] }, _,
    rfl, by decide +kernel, rfl, rfl, rfl, by decide +kernel⟩⟩

theorem witness_CellHeaderFields :
    ∃ c d : Cell, (isFlow c.flow = true ∧ c.epoch < 16 ∧ 1 ≤ c.body.len ∧ c.body.len ≤ 128 ∧ c.body.tenant < 4096 ∧
      c.body.addr < 2 ^ 48) ∧ (isFlow d.flow = true ∧ d.epoch < 16 ∧ 1 ≤ d.body.len ∧ d.body.len ≤ 128 ∧
      d.body.tenant < 4096 ∧ d.body.addr < 2 ^ 48) ∧ cellHeader c = cellHeader d :=
  let c : Cell := ⟨⟨20, 67, 3, 7⟩, 15, 65535, true, { len := 128, tenant := 4095, addr := 2 ^ 48 - 1 }⟩
  ⟨c, c, by decide +kernel, by decide +kernel, rfl⟩

theorem witness_ExtendDoorbell :
    (∃ (s : State) (c : Nat), s.railsOn ∧ c < 64 ∧ (s.chan c).state = 1) ∧
    (∃ (s : State) (c : Nat), s.railsOn ∧ c < 64 ∧ ((s.chan c).state = 2 ∨ (s.chan c).state = 3)) ∧
    (∃ (s : State) (c : Nat), s.railsOn ∧ c < 64 ∧ ((s.chan c).state = 0 ∨ (s.chan c).state = 4 ∨ (s.chan c).state = 5)) ∧
    (∃ (s : State) (c : Nat) (d : _) (w : _), s.dmaMayFetch c = true ∧ s.railsOn ∧ c < 64 ∧ (s.chan c).state = 1 ∧ (s.chan c).pending = true ∧ (s.chan c).fetching = some w ∧ (s.chan c).own = none ∧ s.ob 0x5305 2 = 0 ∧ (s.chan c).follow = false ∧ dGen d ≠ (s.chan c).e ∧ (s.chan c).work = []) ∧
    (∃ (s : State) (c : Nat) (d : _) (w : _), s.dmaMayFetch c = true ∧ s.railsOn ∧ c < 64 ∧ (s.chan c).state = 1 ∧ (s.chan c).pending = true ∧ (s.chan c).fetching = some w ∧ (s.chan c).own = none ∧ s.ob 0x5305 2 = 0 ∧ (s.chan c).follow = true ∧ dEnd d = true ∧ (s.chan c).work = []) :=
  ⟨⟨w0.setChan 63 { state := 1, hops := 4 }, 63, by decide +kernel⟩,
   ⟨w0.setChan 63 { state := 3, hops := 4, cur := 64 }, 63, by decide +kernel⟩,
   ⟨w0.setChan 63 { state := 4, hops := 4 }, 63, by decide +kernel⟩,
   ⟨w0.setChan 0 { state := 1, pending := true, fetching := some 0, cur := 4096, e := true }, 0, wDesc 0 0 0 0 0, 0, mayFetch_low (by decide +kernel), by decide +kernel⟩,
   ⟨w0.setChan 0 { state := 1, pending := true, fetching := some 0, cur := 4096, follow := true }, 0, wDesc 0 0 0 0 2, 0, mayFetch_low (by decide +kernel), by decide +kernel⟩⟩

theorem witness_NmtRules :
    (∃ (s : State), s.railsOn ∧ s.railOk ∧ s.sess.can.conflict = false) ∧
    (∃ (s : State), s.railsOn ∧ s.railOk ∧ s.sess.can.conflict = false) ∧
    (∃ (s : State), s.railsOn ∧ s.railOk) ∧
    (∃ (s : State), s.railsOn ∧ s.railOk ∧ s.sess.can.nmt = .stopped) ∧
    (∃ (s : State), s.railsOn ∧ s.railOk ∧ s.sess.can.nmt = .stopped) :=
  ⟨⟨{ w0 with sess := { w0.sess with tbl := (1, { transport := .can }) :: w0.sess.tbl } }, by decide +kernel⟩,
   ⟨{ w0 with sess := { w0.sess with tbl := (1, { transport := .can }) :: w0.sess.tbl } }, by decide +kernel⟩,
   ⟨w0, by decide +kernel⟩,
   ⟨w0.setCan { nmt := .stopped }, by decide +kernel⟩,
   ⟨w0.setCan { nmt := .stopped }, by decide +kernel⟩⟩

theorem witness_DiscardedMessages :
    (∃ (s : State) (sess : Nat) (g : Guard), s.discards sess g ∧ s.railsOn ∧ ((∀ e ∈ s.sess.tbl, s.mustEnd e.2 = false))) ∧
    (∃ (s : State) (sess : Nat) (g : Guard), s.discards sess g ∧ s.railsOn ∧ ((∀ e ∈ s.sess.tbl, s.mustEnd e.2 = false))) ∧
    (∃ (s : State) (sess : Nat) (g : Guard), s.discards sess g ∧ s.railsOn ∧ ((∀ e ∈ s.sess.tbl, s.mustEnd e.2 = false))) ∧
    (∃ (s : State) (sess : Nat) (g : Guard), s.discards sess g ∧ s.railsOn ∧ ((∀ e ∈ s.sess.tbl, s.mustEnd e.2 = false))) ∧
    (∃ (s : State) (sess : Nat) (g : Guard), s.discards sess g ∧ s.railsOn ∧ ((∀ e ∈ s.sess.tbl, s.mustEnd e.2 = false))) ∧
    (∃ (s : State) (sess : Nat) (g : Guard), s.discards sess g ∧ s.railsOn ∧ ((∀ e ∈ s.sess.tbl, s.mustEnd e.2 = false))) ∧
    (∃ (s : State) (t : Nat) (sess : Nat) (x : Session), s.railsOn ∧ ((∀ e ∈ s.sess.tbl, s.mustEnd e.2 = false)) ∧ s.session? sess = some x ∧ x.transport ≠ .can ∧ x.lastAt + s.ob 0x1120 3 * sNs ≤ max s.now t) :=
  ⟨⟨w0, 16, { counter := 0 }, discards_w0, by decide +kernel⟩,
   ⟨w0, 16, { counter := 0 }, discards_w0, by decide +kernel⟩,
   ⟨w0, 16, { counter := 0 }, discards_w0, by decide +kernel⟩,
   ⟨w0, 16, { counter := 0 }, discards_w0, by decide +kernel⟩,
   ⟨w0, 16, { counter := 0 }, discards_w0, by decide +kernel⟩,
   ⟨w0, 16, { counter := 0 }, discards_w0, by decide +kernel⟩,
   ⟨w0, 5000000000000, 16, ({ level := 2, authed := true } : Session), by decide +kernel⟩⟩

theorem witness_CoreTimingActs :
    (∃ (s : State) (samples : List Nat), s.railsOn ∧ samples.length = 64) ∧
    (∃ (s : State) (t : Nat) (sess : _) (n : _) (v : _), s.railsOn ∧ n < 64 ∧ (s.at t).mayWrite sess 0x2012 (n + 1) (.nat v) = true ∧ barometerStatusCode n v s = 0) ∧
    (∃ (s : State) (sess : _) (n : _), s.railsOn ∧ n < 64 ∧ (s.session? sess).isSome = true) ∧
    (∃ (s : State), s.railsOn) ∧
    (∃ (s : State) (t : Nat), s.railsOn ∧ (s.at t).inHold = false) ∧
    (∃ (s : State) (t : Nat) (sess : _) (v : _), s.railsOn ∧ (s.at t).mayWrite sess 0x2000 0 (.nat v) = true) ∧
    (∃ (s : State) (t : Nat) (sess : _) (v : _), s.railsOn ∧ (s.at t).mayWrite sess 0x2002 2 (.nat v) = true) ∧
    (∃ (s : State), s.railsOn) ∧
    (∃ (s : State) (t : Nat) (sess : _), s.railsOn ∧ (s.at t).mayWrite sess 0x2020 6 (.nat 1) = true) ∧
    (∃ (s : State) (t : Nat) (sess : _), s.railsOn ∧ (s.at t).mayWrite sess 0x2021 6 (.nat 1) = true) :=
  ⟨⟨w0, List.replicate 64 500, by decide +kernel⟩,
   ⟨w0, 5000000000000, 16, 3, 2, by decide +kernel⟩,
   ⟨w0, 16, 3, by decide +kernel⟩,
   ⟨w0, by decide +kernel⟩,
   ⟨w0, 5000000000000, by decide +kernel⟩,
   ⟨w0, 5000000000000, 16, 2, by decide +kernel⟩,
   ⟨w0, 5000000000000, 16, 700, by decide +kernel⟩,
   ⟨w0, by decide +kernel⟩,
   ⟨w0, 5000000000000, 16, by decide +kernel⟩,
   ⟨w0, 5000000000000, 16, by decide +kernel⟩⟩

theorem witness_FabricActs :
    (∃ (s : State) (f : Flow) (b : CellBody) (b' : CellBody) (p : _), s.railsOn ∧ isFlow f = true ∧ s.nextBody f b = some b' ∧ (¬ (f.dst < 8 ∧ (s.portUp (f.dst * 4 + f.sub) = false ∨ (s.srcFlow f).flushDue.isSome = true))) ∧ s.withheld f.src f.dst = false ∧ s.pickPlane (s.srcFlow f).planes f.dst f.cls (Tbl.get 0 s.fab.rr f.src) = some p) ∧
    (∃ (s : State) (f : Flow) (b : CellBody) (b' : CellBody), s.railsOn ∧ isFlow f = true ∧ s.nextBody f b = some b' ∧ f.dst < 8 ∧ (s.portUp (f.dst * 4 + f.sub) = false ∨ (s.srcFlow f).flushDue.isSome = true)) ∧
    (∃ (s : State) (plane : _) (dst : _) (flips : _) (payload : PayloadCheck) (c : Cell), s.railsOn ∧ isPlane plane = true ∧ isAttachment dst = true ∧ s.nextCell plane dst = some c ∧ headerOk (cellHeader c ^^^ flips) = true ∧ payload ≠ .failed ∧ c.epoch = (s.reseq c.flow).epoch ∧ (s.reseq c.flow).ahead c.seq = 0 ∧ (s.reseq c.flow).skipping = false) ∧
    (∃ (s : State) (plane : _) (dst : _) (flips : _) (c : Cell), s.railsOn ∧ isPlane plane = true ∧ isAttachment dst = true ∧ s.nextCell plane dst = some c ∧ headerOk (cellHeader c ^^^ flips) = false ∧ c.probe = false) ∧
    (∃ (s : State) (t : Nat) (f : Flow) (t0 : _) (gap : _), s.railsOn ∧ isFlow f = true ∧ (s.reseq f).since = some t0 ∧ (s.reseq f).lowest = some gap ∧ 0 < gap ∧ s.reseqTimeout ≤ ((max s.now t - t0 : Nat) : Rat)) ∧
    (∃ (s : State) (plane : _), s.railsOn ∧ plane < 4 ∧ ((∀ q < 4, s.planeStatus q ≠ 1))) ∧
    (∃ (s : State) (t : Nat) (sess : _) (plane : _) (v : _), s.railsOn ∧ plane < 4 ∧ (s.at t).mayWrite sess 0x2100 (plane + 1) (.nat v) = true ∧ planeStatusCode plane v s = 0) ∧
    (∃ (s : State) (t : Nat) (f : Flow), s.railsOn ∧ isFlow f = true ∧ (s.srcFlow f).due (max s.now t) = true ∧ (s.at t).epochSpaced (s.srcFlow f) = true) ∧
    (∃ (s : State) (t : Nat) (p : _) (r : FlushRec), s.railsOn ∧ p < 32 ∧ Tbl.find? s.fab.flushes p = some r ∧ s.epochsDone p = true ∧ s.step3End p r ≤ max s.now t ∧ s.reseqTimeout ≤ ((max s.now t - s.step3End p r : Nat) : Rat)) ∧
    (∃ (s : State) (t : Nat) (sess : _) (v : _), s.railsOn ∧ (s.at t).mayWrite sess 0x2108 0 (.nat v) = true ∧ analysisPortCode v s = 0) ∧
    (∃ (s : State) (t : Nat) (sess : _), s.railsOn ∧ (s.at t).mayCommit sess 0x2110 mirrorRuleCode = true) ∧
    (∃ (s : State) (sess : _), s.railsOn ∧ (s.session? sess).isSome = true) :=
  ⟨⟨w0, ({ src := 20, dst := 9, sub := 0, cls := 1 } : Flow), ({ len := 40 } : CellBody), ({ len := 40 } : CellBody), 0, by decide +kernel⟩,
   ⟨w0, ({ src := 20, dst := 1, sub := 0, cls := 1 } : Flow), ({ len := 40 } : CellBody), ({ len := 40 } : CellBody), by decide +kernel⟩,
   ⟨{ w0 with fab := { onPlane := [(planeKey 2 9 1, [(({ flow := (({ src := 20, dst := 9, sub := 0, cls := 1 } : Flow)), epoch := 0, seq := 0, probe := false, body := {} } : Cell))])] } }, 2, 9, 0, PayloadCheck.good, ({ flow := (({ src := 20, dst := 9, sub := 0, cls := 1 } : Flow)), epoch := 0, seq := 0, probe := false, body := {} } : Cell), by decide +kernel⟩,
   ⟨{ w0 with fab := { onPlane := [(planeKey 2 9 1, [(({ flow := (({ src := 20, dst := 9, sub := 0, cls := 1 } : Flow)), epoch := 0, seq := 0, probe := false, body := {} } : Cell))])] } }, 2, 9, 1, ({ flow := (({ src := 20, dst := 9, sub := 0, cls := 1 } : Flow)), epoch := 0, seq := 0, probe := false, body := {} } : Cell), by decide +kernel⟩,
   ⟨{ w0 with fab := { rsq := Tbl.set [] (flowKey (({ src := 20, dst := 9, sub := 0, cls := 1 } : Flow))) { held := [(({ flow := (({ src := 20, dst := 9, sub := 0, cls := 1 } : Flow)), epoch := 0, seq := 3, probe := false, body := {} } : Cell))], since := some 0 } } }, 5000000000000, ({ src := 20, dst := 9, sub := 0, cls := 1 } : Flow), 0, 3, by decide +kernel⟩,
   ⟨w0, 3, by decide +kernel⟩,
   ⟨w0, 5000000000000, 16, 3, 2, by decide +kernel⟩,
   ⟨w0.setSrc (({ src := 20, dst := 9, sub := 0, cls := 1 } : Flow)) { planeDue := true }, 5000000000000, ({ src := 20, dst := 9, sub := 0, cls := 1 } : Flow), by decide +kernel⟩,
   ⟨{ w0 with fab := { flushes := [(2, (({ t0 := 0, ptp0 := 0, frames := 3, bytes := 900 } : FlushRec)))] } }, 5000000000000, 2, ({ t0 := 0, ptp0 := 0, frames := 3, bytes := 900 } : FlushRec), by decide +kernel⟩,
   ⟨w0, 5000000000000, 16, 7, by decide +kernel⟩,
   ⟨stg w0 0x2110 3 [(3, .nat 2)], 5000000000000, 16, by decide +kernel⟩,
   ⟨w0, 16, by decide +kernel⟩⟩

theorem witness_EthernetPortActs :
    (∃ (s : State) (t : Nat) (p : Nat) (sess : _) (n : _) (v : _), s.railsOn ∧ p < 32 ∧ n < 8 ∧ (s.at t).mayWrite sess 0x3000 (n + 1) (.nat v) = true) ∧
    (∃ (s : State) (p : Nat) (n : _), s.railsOn ∧ p < 32 ∧ n < 8) ∧
    (∃ (s : State) (t : Nat) (p : Nat) (n : _) (w : _), s.railsOn ∧ p < 32 ∧ n < 8 ∧ (s.cage n).retryAt = some w ∧ w ≤ max s.now t ∧ (s.cage n).present = true) ∧
    (∃ (s : State) (p : Nat), s.railsOn ∧ p < 32 ∧ s.portExists p = true ∧ s.silent = false ∧ (s.port p).linkUp = false ∧ (s.port p).stormsOff = false ∧ (s.port p).flapUntil = none ∧ (s.port p).noCommon = false ∧ s.o 0x3001 p 2 = 1 ∧ s.cageAllows p = true) ∧
    (∃ (s : State) (p : Nat), s.railsOn ∧ p < 32 ∧ s.portExists p = true ∧ (s.port p).linkUp = true) ∧
    (∃ (s : State) (t : Nat) (p : Nat) (w : _), s.railsOn ∧ p < 32 ∧ (s.port p).flapUntil = some w ∧ w ≤ max s.now t) ∧
    (∃ (s : State) (p : Nat), s.railsOn ∧ p < 32 ∧ s.portExists p = true ∧ (s.port p).linkUp = true) ∧
    (∃ (s : State) (p : Nat), s.railsOn ∧ p < 32 ∧ s.portExists p = true ∧ (s.port p).linkUp = true) ∧
    (∃ (s : State) (p : Nat), s.railsOn ∧ p < 32 ∧ s.portExists p = true ∧ (s.port p).linkUp = true) ∧
    (∃ (s : State) (t : Nat) (p : Nat) (k : _) (w : _), s.railsOn ∧ p < 32 ∧ k < 8 ∧ Tbl.find? (s.port p).pausedUntil k = some w ∧ w ≤ max s.now t) ∧
    (∃ (s : State) (t : Nat) (p : Nat) (k : _) (t0 : _), s.railsOn ∧ p < 32 ∧ k < 8 ∧ Tbl.find? (s.port p).xoffSent k = some t0 ∧ t0 + 65535 * 256 / max 1 (s.rate p) ≤ max s.now t ∧ s.lineBusy p) ∧
    (∃ (s : State) (t : Nat) (p : Nat), s.railsOn ∧ p < 32 ∧ s.ctlWaits p ∧ ((∀ t0, (s.port p).delaySent = some t0 → t0 + s.ob 0x3021 1 * msNs ≤ max s.now t))) ∧
    (∃ (s : State) (p : Nat), s.railsOn ∧ p < 32 ∧ s.ctlWaits p ∧ s.ob 0x2108 0 ≠ p) ∧
    (∃ (s : State) (p : Nat), s.railsOn ∧ p < 32 ∧ (s.port p).delayOutstanding = true ∧ s.ob 0x2108 0 ≠ p) ∧
    (∃ (s : State) (t : Nat) (p : Nat) (k : _) (vals : _), s.railsOn ∧ p < 32 ∧ k < 8 ∧ s.lossless p k = true ∧ vals = (recentH (max s.now t) (Tbl.get [] (s.port p).computed k)).map Prod.snd ∧ vals ≠ [] ∧ ((∀ v ∈ vals, v < s.headroomSet p k)) ∧ s.occupied p k true = 0 ∧ s.occupied p k false < (s.setPort p { s.port p with headroom := Tbl.set (s.port p).headroom k (maxNat vals) }).xoff p) ∧
    (∃ (s : State) (t : Nat) (p : Nat) (k : _) (t0 : _) (w : _), s.railsOn ∧ p < 32 ∧ k < 8 ∧ Tbl.find? (s.port p).pausedSince k = some t0 ∧ Tbl.find? (s.port p).pausedUntil k = some w ∧ s.lossless p k = true ∧ t0 + s.o 0x3001 p 0xC * msNs + (512 + s.rate p - 1) / max 1 (s.rate p) ≤ max s.now t ∧ t0 + s.o 0x3001 p 0xC * msNs ≤ w) ∧
    (∃ (s : State) (t : Nat) (p : Nat) (k : _) (w : _), s.railsOn ∧ p < 32 ∧ k < 8 ∧ Tbl.find? (s.port p).stormUntil k = some w ∧ w ≤ max s.now t) :=
  ⟨⟨w0, 5000000000000, 0, 16, 3, 1, by decide +kernel⟩,
   ⟨w0, 0, 2, by decide +kernel⟩,
   ⟨w0.setCage 3 { present := true, retryAt := some 5 }, 5000000000000, 0, 3, 5, by decide +kernel⟩,
   ⟨w0, 0, by decide +kernel⟩,
   ⟨wBusy w0 0, 0, by decide +kernel⟩,
   ⟨w0.setPort 0 { flapUntil := some 5 }, 5000000000000, 0, 5, by decide +kernel⟩,
   ⟨wBusy w0 0, 0, by decide +kernel⟩,
   ⟨wBusy w0 0, 0, by decide +kernel⟩,
   ⟨wBusy w0 0, 0, by decide +kernel⟩,
   ⟨w0.setPort 0 { linkUp := true, pausedUntil := [(3, 5)], pausedSince := [(3, 2)] }, 5000000000000, 0, 3, 5, by decide +kernel⟩,
   ⟨(wBusy w0 0).setPort 0 { linkUp := true, xoffSent := [(3, 5)] }, 5000000000000, 0, 3, 5, by decide +kernel⟩,
   ⟨(wBusy w0 0).setPort 0 { linkUp := true, delaySent := some 5 }, 5000000000000, 0, by decide +kernel⟩,
   ⟨wBusy w0 0, 0, by decide +kernel⟩,
   ⟨(wBusy w0 0).setPort 0 { linkUp := true, delayOutstanding := true }, 0, by decide +kernel⟩,
   ⟨(w0.put 0x3001 0 9 8).setPort 0 { linkUp := true, headroom := [(3, 9000)], computed := [(3, [(4999999999999, 8000)])] }, 5000000000000, 0, 3, [8000], by decide +kernel⟩,
   ⟨(w0.put 0x3001 0 9 8).setPort 0 { linkUp := true, pausedSince := [(3, 1000)], pausedUntil := [(3, 4999999999999)] }, 5000000000000, 0, 3, 1000, 4999999999999, by decide +kernel⟩,
   ⟨w0.setPort 0 { linkUp := true, stormUntil := [(3, 5)] }, 5000000000000, 0, 3, 5, by decide +kernel⟩⟩

theorem witness_EthernetPortSettings :
    (∃ (s : State) (t : Nat) (p : Nat) (sess : _), s.railsOn ∧ p < 32 ∧ (s.at t).mayCommit sess 0x3001 portSettingsCode = true) ∧
    (∃ (s : State) (t : Nat) (p : Nat) (sess : _), s.railsOn ∧ p < 32 ∧ (s.at t).mayCommit sess 0x3040 interfaceCode = true ∧ s.paired = false ∧ s.rowsWith 0x3220 2 1 = []) ∧
    (∃ (s : State) (p : Nat) (ip : _), s.railsOn ∧ p < 32 ∧ s.ctlWaits p ∧ s.ob 0x2108 0 ≠ p ∧ isV4 ip = true ∧ (s.interfaceOf p ip).isSome = true) ∧
    (∃ (s : State) (p : Nat) (ip : _), s.railsOn ∧ p < 32 ∧ s.ctlWaits p ∧ s.ob 0x2108 0 ≠ p ∧ isV4 ip = false ∧ (s.interfaceOf p ip).isSome = true) ∧
    (∃ (s : State) (t : Nat) (p : Nat) (ip : _), s.railsOn ∧ p < 32 ∧ s.ctlWaits p ∧ s.ob 0x2108 0 ≠ p ∧ (s.interfaceOf p ip).isSome = true ∧ (within (max s.now t) sNs (s.port p).echoTimes).length < 100) ∧
    (∃ (s : State) (t : Nat) (p : Nat), s.railsOn ∧ p < 32 ∧ s.ctlWaits p ∧ s.ob 0x3030 1 = 1 ∧ ((∀ t0, (s.port p).lldpSent = some t0 → t0 + s.ob 0x3030 2 * sNs ≤ max s.now t))) ∧
    (∃ (s : State) (p : Nat), s.railsOn ∧ p < 32 ∧ s.portExists p = true ∧ (s.port p).linkUp = true) ∧
    (∃ (s : State) (p : Nat), s.railsOn ∧ p < 32 ∧ s.portExists p = true ∧ (s.port p).linkUp = false ∧ s.phyType p ≠ 3) ∧
    (∃ (s : State) (p : Nat), s.railsOn ∧ p < 32 ∧ (s.eg p).queues = [] ∧ (s.eg p).pfcQ = [] ∧ s.ob 0x2108 0 ≠ p) :=
  ⟨⟨stg w0 0x3001 3 [(2, .nat 1)], 5000000000000, 0, 16, by decide +kernel⟩,
   ⟨stg w0 0x3040 3 [(2, .nat 1), (3, .nat 5), (6, .nat 24)], 5000000000000, 0, 16, by decide +kernel⟩,
   ⟨wIf (wBusy w0 0) 7 0 0xFFFF0A000001, 0, 0xFFFF0A000001, by decide +kernel⟩,
   ⟨wIf (wBusy w0 0) 7 0 (2 ^ 125 + 77), 0, 2 ^ 125 + 77, by decide +kernel⟩,
   ⟨wIf (wBusy w0 0) 7 0 0xFFFF0A000001, 5000000000000, 0, 0xFFFF0A000001, by decide +kernel⟩,
   ⟨wBusy (w0.put 0x3030 0 1 1) 0, 5000000000000, 0, by decide +kernel⟩,
   ⟨wBusy w0 0, 0, by decide +kernel⟩,
   ⟨w0, 0, by decide +kernel⟩,
   ⟨wBusy w0 0, 0, by decide +kernel⟩⟩

theorem witness_PtpActs :
    (∃ (s : State) (p : Nat) (a : Announce), s.railsOn ∧ p < 32 ∧ s.ptpOn p = true ∧ s.ptpHears p a.domain = true) ∧
    (∃ (s : State) (p : Nat) (domain : _) (sender : _), s.railsOn ∧ p < 32 ∧ s.fromMaster p domain sender = true) ∧
    (∃ (s : State) (p : Nat) (domain : _) (sender : _), s.railsOn ∧ p < 32 ∧ s.fromMaster p domain sender = true) ∧
    (∃ (s : State) (p : Nat) (domain : _) (sender : _), s.railsOn ∧ p < 32 ∧ s.fromMaster p domain sender = true ∧ s.ptp.pendingSync = true) ∧
    (∃ (s : State) (p : Nat), s.railsOn ∧ p < 32 ∧ s.ob 0x3020 4 = 1 ∧ s.ptpOn s.ptpPort = true ∧ s.ptp.best.isSome = true ∧ s.ctlWaits s.ptpPort) ∧
    (∃ (s : State) (p : Nat) (domain : _) (sender : _), s.railsOn ∧ p < 32 ∧ s.fromMaster p domain sender = true ∧ s.ptp.delayReqOut = true) ∧
    (∃ (s : State) (t : Nat) (p : Nat), s.railsOn ∧ p < 32 ∧ s.ptp.lastAnnounce.getD s.ptp.listenFrom + 3 * s.ptp.announceNs ≤ max s.now t ∧ s.ob 0x3020 1 = 1 ∧ s.ptp.standby = false ∧ s.ob 0x3020 3 ≠ 0xFF ∧ s.ptpUsable (s.ob 0x3020 3) = true) ∧
    (∃ (s : State) (t : Nat) (p : Nat) (g : _) (l : _), s.railsOn ∧ p < 32 ∧ s.ptp.primaryGoodSince = some g ∧ s.ptp.primaryLast = some l ∧ s.ptp.standby = true ∧ s.ptpUsable (s.ob 0x3020 2) = true ∧ g + 10 * sNs ≤ max s.now t ∧ max s.now t < l.1 + 3 * l.2) ∧
    (∃ (s : State) (t : Nat) (p : Nat) (h : _), s.railsOn ∧ p < 32 ∧ s.ptp.holdoverSince = some h ∧ s.ob 0x3020 7 = 3 ∧ h + s.ob 0x3020 0xC * sNs ≤ max s.now t) :=
  ⟨⟨wBusy ((w0.put 0x3020 0 1 1).put 0x3020 0 2 0) 0, 0, ({ grandmaster := 3, vector := 9, utcOffset := 37, intervalNs := 1000000000 } : Announce), by decide +kernel⟩,
   ⟨{ wBusy ((w0.put 0x3020 0 1 1).put 0x3020 0 2 0) 0 with ptp := { best := some { grandmaster := 3, vector := 9, utcOffset := 37, intervalNs := 1000000000 } } }, 0, 0, 0, by decide +kernel⟩,
   ⟨{ wBusy ((w0.put 0x3020 0 1 1).put 0x3020 0 2 0) 0 with ptp := { best := some { grandmaster := 3, vector := 9, utcOffset := 37, intervalNs := 1000000000 } } }, 0, 0, 0, by decide +kernel⟩,
   ⟨{ wBusy ((w0.put 0x3020 0 1 1).put 0x3020 0 2 0) 0 with ptp := { pendingSync := true, best := some { grandmaster := 3, vector := 9, utcOffset := 37, intervalNs := 1000000000 } } }, 0, 0, 0, by decide +kernel⟩,
   ⟨{ wBusy (((w0.put 0x3020 0 1 1).put 0x3020 0 2 0).put 0x3020 0 4 1) 0 with ptp := { best := some { grandmaster := 3, vector := 9, utcOffset := 37, intervalNs := 1000000000 } } }, 0, by decide +kernel⟩,
   ⟨{ wBusy ((w0.put 0x3020 0 1 1).put 0x3020 0 2 0) 0 with ptp := { delayReqOut := true, best := some { grandmaster := 3, vector := 9, utcOffset := 37, intervalNs := 1000000000 } } }, 0, 0, 0, by decide +kernel⟩,
   ⟨{ wBusy (((w0.put 0x3020 0 1 1).put 0x3020 0 2 0).put 0x3020 0 3 4) 4 with ptp := { best := some (({ grandmaster := 3, vector := 9, utcOffset := 37, intervalNs := 1000000000 } : Announce)), lastAnnounce := some 0 } }, 5000000000000, 0, by decide +kernel⟩,
   ⟨{ wBusy (((w0.put 0x3020 0 1 1).put 0x3020 0 2 0).put 0x3020 0 3 4) 0 with ptp := { standby := true, primaryGoodSince := some 4000000000000, primaryLast := some ((4900000000000, 1000000000000)) } }, 5000000000000, 0, 4000000000000, (4900000000000, 1000000000000), by decide +kernel⟩,
   ⟨{ (w0.put 0x3020 0 1 1).put 0x3020 0 7 3 with ptp := { holdoverSince := some 0 } }, 5000000000000, 0, 0, by decide +kernel⟩⟩

theorem witness_QpConnects :
    (∃ (s : State) (i : Nat) (port : _) (r : CmReq) (row : _) (l : _) (mtu : _), s.railsOn ∧ i < 131072 ∧ port < 32 ∧ s.portServes port = true ∧ ((∀ e ∈ s.rdma.qps, ¬ (e.2.commId = r.localCommId ∧ e.2.remoteIp = r.srcIp ∧ (e.2.state = 1 ∨ e.2.state = 2)))) ∧ s.interfaceOf port r.destIp = some row ∧ s.listenerOf row r.serviceId = some l ∧ (s.offender r.srcIp).until_ = none ∧ s.privStatus r (s.o 0x3240 l 5) = 0 ∧ s.pathMtu port r.mtu = some mtu ∧ s.freeIndex = some i ∧ (s.o 0x3240 l 6 ≠ 0 ∨ s.pinnedIn (sliceOf i) < s.ob 0x3100 8)) ∧
    (∃ (s : State) (i : Nat) (qpn : _), s.railsOn ∧ i < 131072 ∧ isQpn qpn = true ∧ s.qpnIndex qpn = some i ∧ (s.qp i).state = 1 ∧ (s.qp i).sendQ = []) :=
  ⟨⟨wListen (wIf (wBusy w0 0) 7 0 0xFFFF0A000001) 2 7 1 9, 0, 0, ({ destIp := 0xFFFF0A000001, srcIp := 0xFFFF0A000002, serviceId := serviceBase + 1, localCommId := 4, remoteQpn := 77, psn := 5 } : CmReq), 7, 2, 4096, by decide +kernel⟩,
   ⟨wQp { state := 1 }, 3, 131075, by decide +kernel⟩⟩

theorem witness_QpDisconnects :
    (∃ (s : State) (i : Nat) (qpn : _), s.railsOn ∧ i < 131072 ∧ isQpn qpn = true ∧ s.qpnIndex qpn = some i ∧ (s.qp i).state = 1) ∧
    (∃ (s : State) (i : Nat) (qpn : _), s.railsOn ∧ i < 131072 ∧ isQpn qpn = true ∧ s.qpnIndex qpn = some i ∧ ((s.qp i).state = 1 ∨ (s.qp i).state = 2)) ∧
    (∃ (s : State) (i : Nat) (qpn : _), s.railsOn ∧ i < 131072 ∧ isQpn qpn = true ∧ s.qpnIndex qpn = some i ∧ (s.qp i).state = 3) ∧
    (∃ (s : State) (i : Nat) (qpn : _), s.railsOn ∧ i < 131072 ∧ isQpn qpn = true ∧ s.qpnIndex qpn = some i ∧ (s.qp i).state = 3) ∧
    (∃ (s : State) (t : Nat) (i : Nat), s.railsOn ∧ i < 131072 ∧ (s.qp i).state = 1 ∧ (s.qp i).rtrAt + s.ob 0x3100 7 * msNs ≤ max s.now t) ∧
    (∃ (s : State) (t : Nat) (i : Nat) (d : _), s.railsOn ∧ i < 131072 ∧ (s.qp i).state = 3 ∧ (s.qp i).dreqAt = some d ∧ d + s.ob 0x3100 7 * msNs ≤ max s.now t) ∧
    (∃ (s : State) (t : Nat) (i : Nat) (w : _), s.railsOn ∧ i < 131072 ∧ (s.qp i).freeAt = some w ∧ (s.qp i).state = 4 ∧ w ≤ max s.now t) ∧
    (∃ (s : State) (t : Nat) (i : Nat) (ip : _) (w : _), s.railsOn ∧ i < 131072 ∧ (s.offender ip).until_ = some w ∧ w ≤ max s.now t) :=
  ⟨⟨wQp { state := 1 }, 3, 131075, by decide +kernel⟩,
   ⟨wQp { state := 2 }, 3, 131075, by decide +kernel⟩,
   ⟨wQp { state := 3, dreqAt := some 4 }, 3, 131075, by decide +kernel⟩,
   ⟨wQp { state := 3 }, 3, 131075, by decide +kernel⟩,
   ⟨wQp { state := 1 }, 5000000000000, 3, by decide +kernel⟩,
   ⟨wQp { state := 3, dreqAt := some 0 }, 5000000000000, 3, 0, by decide +kernel⟩,
   ⟨wQp { state := 4, freeAt := some 0 }, 5000000000000, 3, 0, by decide +kernel⟩,
   ⟨{ w0 with rdma := { offenders := [(0xFFFF0A000002, { until_ := some 5 })] } }, 5000000000000, 3, 0xFFFF0A000002, 5, by decide +kernel⟩⟩

theorem witness_QpPacketActs :
    (∃ (s : State) (i : Nat) (p : RocePkt), s.railsOn ∧ i < 131072 ∧ p.port < 32 ∧ s.qpTakes i p ∧ p.op = .sendMiddle ∧ p.psn = (s.qp i).ePsn ∧ sendRow (s.qp i) p = 0) ∧
    (∃ (s : State) (i : Nat) (p : RocePkt), s.railsOn ∧ i < 131072 ∧ p.port < 32 ∧ s.portServes p.port = true ∧ p.stomped = false ∧ p.icrcOk = false) ∧
    (∃ (s : State) (i : Nat) (p : RocePkt), s.railsOn ∧ i < 131072 ∧ p.port < 32 ∧ s.qpTakes i p ∧ s.qpPlain i ∧ p.op = .acknowledge ∧ p.syndrome < 32 ∧ (s.qp i).hasSent p.psn = true ∧ (s.qp i).sendQ = [] ∧ (s.qp i).resend = []) ∧
    (∃ (s : State) (i : Nat) (p : RocePkt), s.railsOn ∧ i < 131072 ∧ p.port < 32 ∧ s.qpTakes i p ∧ s.qpPlain i ∧ p.op = .acknowledge ∧ p.syndrome / 32 = 1 ∧ (s.qp i).hasSent p.psn = true ∧ ((s.qp i).rnrCount = 7 ∨ (s.qp i).rnrCount ≠ 0 ∧ (s.qp i).rnrRetries ≠ 0)) ∧
    (∃ (s : State) (i : Nat) (p : RocePkt) (r : ReadReq), s.railsOn ∧ i < 131072 ∧ p.port < 32 ∧ s.qpTakes i p ∧ s.qpPlain i ∧ p.op = .readRespMiddle ∧ (s.qp i).readOf p.psn = some r ∧ r.dropping = false ∧ (p.psn - r.psn).toNat = r.got / max 1 (s.qp i).mtu ∧ respFits (s.qp i) r (p.psn - r.psn).toNat p = true ∧ r.got + p.payload < r.len ∧ (s.qp i).sendQ = [] ∧ (s.qp i).resend = [] ∧ Tbl.has s.nvme.cmds r.cmd = false) ∧
    (∃ (s : State) (i : Nat) (p : RocePkt), s.railsOn ∧ i < 131072 ∧ p.port < 32 ∧ s.qpTakes i p ∧ p.op = .cnp) :=
  ⟨⟨wQp { state := 2, openBytes := some 1024, ePsn := 7 }, 3, ({ op := .sendMiddle, psn := 7, payload := 1024, destQp := 131075, pkey := 0 } : RocePkt), by decide +kernel⟩,
   ⟨wQp { state := 2 }, 3, ({ icrcOk := false } : RocePkt), by decide +kernel⟩,
   ⟨wQp { state := 2, nPsn := 9, psnUsed := 4, oldest := 5, window := 1000, ackTimer := some 5, sent := [{ pkt := { psn := 7, bytes := 64 }, at_ := 4 }, { pkt := { psn := 8, bytes := 64 }, at_ := 4 }] }, 3, ({ op := .acknowledge, psn := 7, destQp := 131075, pkey := 0 } : RocePkt), by decide +kernel⟩,
   ⟨wQp { state := 2, nPsn := 9, psnUsed := 4, oldest := 5, window := 1000, rnrCount := 7, ackTimer := some 5, sent := [{ pkt := { psn := 7, bytes := 64 }, at_ := 4 }, { pkt := { psn := 8, bytes := 64 }, at_ := 4 }] }, 3, ({ op := .acknowledge, psn := 7, destQp := 131075, pkey := 0, syndrome := 0x21 } : RocePkt), by decide +kernel⟩,
   ⟨wQp { state := 2, nPsn := 9, oldest := 5, window := 1000, reads := [(({ psn := 5, len := 4096, got := 1024, cmd := 4, va := 0, rkey := 0, at_ := 4 } : ReadReq))] }, 3, ({ op := .readRespMiddle, psn := 6, payload := 1024, destQp := 131075, pkey := 0 } : RocePkt), ({ psn := 5, len := 4096, got := 1024, cmd := 4, va := 0, rkey := 0, at_ := 4 } : ReadReq), by decide +kernel⟩,
   ⟨wQp { state := 2, window := 4000, cluster := 0 }, 3, ({ op := .cnp, destQp := 131075, pkey := 0 } : RocePkt), by decide +kernel⟩⟩

theorem witness_QpTimerActs :
    (∃ (s : State) (t : Nat) (i : Nat) (w : _), s.railsOn ∧ i < 131072 ∧ (s.qp i).ackTimer = some w ∧ w + s.ackTimeout ≤ max s.now t ∧ (s.qp i).state = 2 ∧ (s.qp i).loc = 0 ∧ (s.qp i).waiting = true ∧ (s.qp i).rnrUntil = none ∧ (s.qp i).retries ≠ 0 ∧ ((∀ x ∈ (s.qp i).sent, x.pkt.src = none))) ∧
    (∃ (s : State) (t : Nat) (i : Nat) (w : _) (n : _) (a : _), s.railsOn ∧ i < 131072 ∧ (s.qp i).rnrUntil = some w ∧ w ≤ max s.now t ∧ (s.qp i).rnrFirst = some (n, a) ∧ (s.qp i).state = 2 ∧ (s.qp i).loc = 0 ∧ ((∀ x ∈ (s.qp i).sent, x.pkt.src = none))) ∧
    (∃ (s : State) (t : Nat) (i : Nat) (n : _) (w : _), s.railsOn ∧ i < 131072 ∧ (s.qp i).rnrFirst = some (n, w) ∧ w + s.ob 0x3100 0xD * sNs ≤ max s.now t ∧ (s.qp i).state = 2 ∧ (s.qp i).loc = 0) ∧
    (∃ (s : State) (t : Nat) (i : Nat) (a : _), s.railsOn ∧ i < 131072 ∧ (s.qp i).ackSince = some a ∧ a + s.ob 0x3100 3 * 1000 ≤ max s.now t ∧ (s.qp i).loc = 0 ∧ (s.qp i).ackHold = none) ∧
    (∃ (s : State) (i : Nat) (m : SendMsg), s.railsOn ∧ i < 131072 ∧ (s.qp i).sendQ = [m] ∧ (s.qp i).gateOpen m = true ∧ m.read = none ∧ s.qpPlain i ∧ s.lineBusy (s.qp i).port) ∧
    (∃ (s : State) (t : Nat) (i : Nat), s.railsOn ∧ i < 131072 ∧ ((s.qp i).state = 1 ∨ (s.qp i).state = 2) ∧ (s.qp i).alphaAt + s.ob 0x3110 9 * 1000 ≤ max s.now t ∧ (s.qp i).loc ≠ 2) ∧
    (∃ (s : State) (t : Nat) (i : Nat) (w : _), s.railsOn ∧ i < 131072 ∧ (s.qp i).floorSince = some w ∧ w + sNs ≤ max s.now t ∧ (s.qp i).floorEvent = false) :=
  ⟨⟨wQp { state := 2, nPsn := 9, oldest := 5, window := 1000, ackTimer := some 5, sent := [{ pkt := { psn := 7, bytes := 64 }, at_ := 4 }, { pkt := { psn := 8, bytes := 64 }, at_ := 4 }] }, 5000000000000, 3, 5, by decide +kernel⟩,
   ⟨wQp { state := 2, nPsn := 9, oldest := 5, window := 1000, rnrUntil := some 5, rnrFirst := some (7, 4), sent := [{ pkt := { psn := 7, bytes := 64 }, at_ := 4 }, { pkt := { psn := 8, bytes := 64 }, at_ := 4 }] }, 5000000000000, 3, 5, 7, 4, by decide +kernel⟩,
   ⟨(wQp { state := 2, nPsn := 9, oldest := 5, window := 1000, rnrUntil := some 5, rnrFirst := some (7, 4), sent := [{ pkt := { psn := 7, bytes := 64 }, at_ := 4 }] }).at 5000000000000, 50000000000000, 3, 7, 4, by decide +kernel⟩,
   ⟨wQp { state := 2, ackSince := some 5, ackCount := 2 }, 5000000000000, 3, 5, by decide +kernel⟩,
   ⟨wQp { state := 2, nPsn := 9, oldest := 9, window := 1000, sendQ := [(({ pkts := [{ bytes := 100 }, { bytes := 50 }], bytes := 150, cmd := none } : SendMsg))] }, 3, ({ pkts := [{ bytes := 100 }, { bytes := 50 }], bytes := 150, cmd := none } : SendMsg), by decide +kernel⟩,
   ⟨wQp { state := 2, alpha := 1 / 2 }, 5000000000000, 3, by decide +kernel⟩,
   ⟨wQp { state := 2, floorSince := some 4, window := 5 }, 5000000000000, 3, 4, by decide +kernel⟩⟩

theorem witness_QpParkingActs :
    (∃ (s : State) (t : Nat) (i : Nat) (sl : _), s.railsOn ∧ i < 131072 ∧ sl < 4 ∧ 4096 < s.residentIn sl + s.ob 0x3100 9 ∧ ((∃ e ∈ s.rdma.qps, sliceOf e.1 = sl ∧ (s.at t).parkable e.1 e.2 = true))) ∧
    (∃ (s : State) (i : Nat), s.railsOn ∧ i < 131072 ∧ (s.qp i).loc = 2 ∧ (s.qp i).pin = false) ∧
    (∃ (s : State) (i : Nat), s.railsOn ∧ i < 131072 ∧ (s.qp i).loc = 2 ∧ (s.qp i).pin = true) ∧
    (∃ (s : State) (i : Nat), s.railsOn ∧ i < 131072 ∧ (s.qp i).loc = 3 ∧ (s.qp i).held = [] ∧ (s.qp i).sendQ = [] ∧ (s.qp i).ackSince = none ∧ (s.qp i).rnrFirst = none ∧ (s.qp i).ackTimer = none) :=
  ⟨⟨(wQp { state := 2 }).put 0x3100 0 9 4096, 5000000000000, 3, 3, by decide +kernel⟩,
   ⟨wQp { state := 2, loc := 2, parkStart := some 4 }, 3, by decide +kernel⟩,
   ⟨wQp { state := 2, loc := 2, parkStart := some 4, pin := true }, 3, by decide +kernel⟩,
   ⟨wQp { state := 1, loc := 3, parkStart := some 4 }, 3, by decide +kernel⟩⟩

theorem witness_QpCommits :
    (∃ (s : State) (t : Nat) (sess : _), s.railsOn ∧ (s.at t).mayCommit sess 0x3101 qpCode = true ∧ (s.staged sess 0x3101).n 0x27 ≠ 1) ∧
    (∃ (s : State) (t : Nat) (sess : _), s.railsOn ∧ (s.at t).mayCommit sess 0x3101 qpCode = true ∧ (s.staged sess 0x3101).n 0x27 ≠ 1) ∧
    (∃ (s : State) (t : Nat) (sess : _), s.railsOn ∧ (s.at t).mayCommit sess 0x3101 qpCode = true ∧ (s.staged sess 0x3101).n 0x27 = 1 ∧ ((s.qp (s.staged sess 0x3101).row).state = 1 ∨ (s.qp (s.staged sess 0x3101).row).state = 2)) :=
  ⟨⟨stg (wQp { state := 1, cls := 1 }) 0x3101 3 [(5, .nat 1), (0x28, .nat 8192)], 5000000000000, 16, by decide +kernel⟩,
   ⟨stg (wQp { state := 1, cls := 1 }) 0x3101 3 [(5, .nat 1), (0x28, .nat 8192)], 5000000000000, 16, by decide +kernel⟩,
   ⟨stg (wQp { state := 2, cls := 1 }) 0x3101 3 [(0x27, .nat 1)], 5000000000000, 16, by decide +kernel⟩⟩

theorem witness_ConnectionCommandActs :
    (∃ (s : State) (t : Nat) (id : Nat) (i : Nat) (k : Nat) (h : _) (sub : Option Nat), s.railsOn ∧ s.onQp id i ∧ s.paired = false ∧ (s.cmd id).stage = .ready ∧ (s.cmd id).cap.opcode = 0x7F ∧ (s.cmd id).cap.fctype = 1 ∧ (s.qp i).cntlid = none ∧ (s.qp i).privQid = 0 ∧ (s.at t).connectCheck (s.qp i) (s.cmd id).cap = .ok (h, sub) ∧ (s.at t).freeCtrl s.ctrlRange.1 s.ctrlRange.2 = some k) ∧
    (∃ (s : State) (t : Nat) (id : Nat) (i : Nat) (k : Nat) (h : _) (sub : Option Nat), s.railsOn ∧ s.onQp id i ∧ s.paired = false ∧ (s.cmd id).stage = .ready ∧ (s.cmd id).cap.opcode = 0x7F ∧ (s.cmd id).cap.fctype = 1 ∧ (s.qp i).cntlid = none ∧ (s.qp i).privQid ≠ 0 ∧ (s.at t).connectCheck (s.qp i) (s.cmd id).cap = .ok (h, sub) ∧ (s.cmd id).cap.cntlid = k) ∧
    (∃ (s : State) (id : Nat) (i : Nat) (k : Nat), s.railsOn ∧ s.adminOn id i 0x7F k ∧ (s.cmd id).cap.fctype = 4) ∧
    (∃ (s : State) (id : Nat) (i : Nat) (k : Nat), s.railsOn ∧ s.adminOn id i 0x7F k ∧ (s.cmd id).cap.fctype = 0 ∧ (s.cmd id).cap.propOffset = 0x14 ∧ ccOk (s.cmd id).cap.value = true ∧ ((∀ e ∈ (s.ctrl k).ioQps, e.2 ≠ i))) ∧
    (∃ (s : State) (id : Nat) (i : Nat) (k : Nat), s.railsOn ∧ s.adminOn id i 0x18 k ∧ (¬ ((s.ctrl k).vf = none ∧ (s.ctrl k).kato ≠ 0 ∧ (s.ctrl k).lastKeepAlive + (s.ctrl k).kato * msNs ≤ (s.cmd id).arrivedAt))) ∧
    (∃ (s : State) (id : Nat) (i : Nat) (k : Nat), s.railsOn ∧ s.adminOn id i 0x18 k ∧ (s.ctrl k).vf = none ∧ (s.ctrl k).state ≠ 0 ∧ (s.ctrl k).kato ≠ 0 ∧ (s.ctrl k).lastKeepAlive + (s.ctrl k).kato * msNs ≤ (s.cmd id).arrivedAt) ∧
    (∃ (s : State) (t : Nat) (k : Nat), s.railsOn ∧ k < 65536 ∧ (s.ctrl k).state ≠ 0 ∧ (s.ctrl k).vf = none ∧ (s.ctrl k).kato ≠ 0 ∧ (s.ctrl k).lastKeepAlive + (s.ctrl k).kato * msNs ≤ max s.now t) ∧
    (∃ (s : State) (id : Nat) (i : Nat) (k : Nat), s.railsOn ∧ s.adminOn id i 0x7F k ∧ (s.cmd id).cap.fctype = 8 ∧ (s.qp i).qid ≠ 0) :=
  ⟨⟨(let s := wQp { state := 1, privQid := 0, hsqsize := 31, listenerType := 1 }; let s := (((((s.put 0x3220 1 2 1).setVal 0x3220 1 3 (.str "nqn.h")).put 0x3220 1 4 9).put 0x3210 0 2 1).setVal 0x3210 0 3 (.str "nqn.s")).put 0x3224 4 2 1; let s := (s.put 0x3224 4 3 1).put 0x3224 4 4 0; { s with nvme := { cmds := [(9, { qp := some 3, cap := { opcode := 0x7F, fctype := 1, psdt := 1, dptr := .offsetBlock 0 1024, inLen := 1024, sqsize := 31, hostid := 44, hostnqn := "nqn.h", subnqn := "nqn.s", kato := 5000 } })] } }), 5000000000000, 9, 3, 1, 1, (some 0 : Option Nat), by decide +kernel⟩,
   ⟨(let s := wQp { state := 1, privQid := 2, hsqsize := 31, listenerType := 1 }; let s := (((((s.put 0x3220 1 2 1).setVal 0x3220 1 3 (.str "nqn.h")).put 0x3220 1 4 9).put 0x3210 0 2 1).setVal 0x3210 0 3 (.str "nqn.s")).put 0x3224 4 2 1; let s := (s.put 0x3224 4 3 1).put 0x3224 4 4 0; { s with nvme := { ctrls := [(1, { state := 2, cc := 0x460001, hostRow := 1, hostid := 44 })], cmds := [(9, { qp := some 3, cap := { opcode := 0x7F, fctype := 1, psdt := 1, dptr := .offsetBlock 0 1024, inLen := 1024, qid := 2, cntlid := 1, sqsize := 31, hostid := 44, hostnqn := "nqn.h", subnqn := "nqn.s" } })] } }), 5000000000000, 9, 3, 1, 1, (some 0 : Option Nat), by decide +kernel⟩,
   ⟨wAdm { opcode := 0x7F, fctype := 4, propOffset := 0x14 } { state := 2, cc := 0x460001 }, 9, 3, 5, by decide +kernel⟩,
   ⟨wAdm { opcode := 0x7F, fctype := 0, propOffset := 0x14, value := 0x460001 } { state := 1 }, 9, 3, 5, by decide +kernel⟩,
   ⟨wAdm { opcode := 0x18 } { state := 2, cc := 1 }, 9, 3, 5, by decide +kernel⟩,
   ⟨(let s := wAdm { opcode := 0x18 } { state := 2, cc := 1, kato := 5000, lastKeepAlive := 0, adminQp := some 3 }; s.setCmd 9 { s.cmd 9 with arrivedAt := 6000000000000 }), 9, 3, 5, by decide +kernel⟩,
   ⟨wAdm { opcode := 0x18 } { state := 2, cc := 1, kato := 5000, lastKeepAlive := 0, adminQp := some 3 }, 5000000000000, 5, by decide +kernel⟩,
   ⟨(let s := wIo { cap := { opcode := 0x7F, fctype := 8 } }; s), 9, 3, 5, by decide +kernel⟩⟩

theorem witness_AdminCommandActs :
    (∃ (s : State) (id : Nat) (i : Nat) (k : Nat), s.railsOn ∧ s.adminOn id i 2 k) ∧
    (∃ (s : State) (id : Nat) (i : Nat) (k : Nat), s.railsOn ∧ s.adminOn id i 6 k) ∧
    (∃ (s : State) (id : Nat) (i : Nat) (k : Nat) (j : _) (i' : _) (x : Cmd), s.railsOn ∧ s.adminOn id i 8 k ∧ s.onQp j i' ∧ j ≠ id ∧ (s.cmd j).fused = none ∧ (s.nvme.cmds.filter fun e => decide (e.2.cntlid = some k ∧ e.2.stage = .ready ∧ e.2.cap.opcode = 8) && !s.isIoCmd e.2).length ≤ 4 ∧ (s.nvme.cmds.find? fun e => e.2.stage.early && s.onQueue k (s.cmd id).cap.sqid (s.cmd id).cap.acid e.2.qp e.2.vf e.2.cap) = some (j, x)) ∧
    (∃ (s : State) (id : Nat) (i : Nat) (k : Nat), s.railsOn ∧ s.adminOn id i 9 k) ∧
    (∃ (s : State) (id : Nat) (i : Nat) (k : Nat), s.railsOn ∧ s.adminOn id i 0xA k) ∧
    (∃ (s : State) (id : Nat) (i : Nat) (k : Nat), s.railsOn ∧ s.adminOn id i 0xC k ∧ (s.ctrl k).events = [] ∧ (s.nvme.cmds.filter fun e => decide (e.2.cntlid = some k ∧ e.2.stage = .aer)).length < 4) ∧
    (∃ (s : State) (id : Nat) (i : Nat) (k : Nat), s.railsOn ∧ s.adminOn id i 0xC k ∧ 4 ≤ (s.nvme.cmds.filter fun e => decide (e.2.cntlid = some k ∧ e.2.stage = .aer)).length) ∧
    (∃ (s : State) (t : Nat) (id : Nat) (i : Nat) (k : Nat) (r : _), s.railsOn ∧ s.adminOn id i 0x80 k ∧ (s.cmd id).cap.ses = 2 ∧ (s.cmd id).cap.lbaf = 0 ∧ (s.at t).nsBad (s.ctrl k) true (s.cmd id).host (s.cmd id).cap = none ∧ s.nsOf (s.ctrl k) (s.cmd id).cap.nsid = some r ∧ s.twin.take = none) :=
  ⟨⟨wAdm { opcode := 2, lid := 0x80 } { state := 2, cc := 1, rsvLog := [(1, 1), (2, 1)] }, 9, 3, 5, by decide +kernel⟩,
   ⟨wAdm { opcode := 6, cns := 1 } { state := 2, cc := 1 }, 9, 3, 5, by decide +kernel⟩,
   ⟨(let s := wAdm { opcode := 8, sqid := 0, acid := 7 } { state := 2, cc := 1 }; { s with nvme := { s.nvme with cmds := (4, (({ qp := some 3, cntlid := some 5, cap := { opcode := 0xC, cid := 7 }, stage := .aer } : Cmd))) :: s.nvme.cmds } }), 9, 3, 5, 4, 3, ({ qp := some 3, cntlid := some 5, cap := { opcode := 0xC, cid := 7 }, stage := .aer } : Cmd), by decide +kernel⟩,
   ⟨wAdm { opcode := 9, fid := 0xF, value := 5050 } { state := 2, cc := 1 }, 9, 3, 5, by decide +kernel⟩,
   ⟨wAdm { opcode := 0xA, fid := 0xB } { state := 2, cc := 1 }, 9, 3, 5, by decide +kernel⟩,
   ⟨wAdm { opcode := 0xC } { state := 2, cc := 1 }, 9, 3, 5, by decide +kernel⟩,
   ⟨(let s := wAdm { opcode := 0xC } { state := 2, cc := 1 }; let x : Cmd := { qp := some 3, cntlid := some 5, cap := { opcode := 0xC }, stage := .aer }; { s with nvme := { s.nvme with cmds := [(4, x), (5, x), (6, x), (7, x)] ++ s.nvme.cmds } }), 9, 3, 5, by decide +kernel⟩,
   ⟨(let s := wNs (wArr (wAdm { opcode := 0x80, ses := 2, nsid := 1 } { state := 2, cc := 1, hostRow := 1 }) 0 [0, 1, 2, 3]); s.put 0x3220 1 4 9), 5000000000000, 9, 3, 5, 12, by decide +kernel⟩⟩

theorem witness_IoCommandActs :
    (∃ (s : State) (id : Nat) (i : Nat), s.railsOn ∧ s.ioOn id i 0) ∧
    (∃ (s : State) (id : Nat) (i : Nat), s.railsOn ∧ s.onQp id i ∧ (s.cmd id).stage = .flushing ∧ (s.cmd id).cap.opcode = 0 ∧ s.needsOpen (s.cmd id) = false) ∧
    (∃ (s : State) (id : Nat) (i : Nat), s.inCapsule id ∧ s.railsOn ∧ s.ioOn id i 1 ∧ s.inMirror id = false ∧ s.writesBack id) ∧
    (∃ (s : State) (id : Nat) (i : Nat) (d : KeyedSgl), s.railsOn ∧ s.ioOn id i 1 ∧ s.inMirror id = false ∧ (s.cmd id).cap.dptr = .keyed d ∧ (s.cmd id).gotBytes < (s.cmd id).len) ∧
    (∃ (s : State) (t : Nat) (id : Nat) (i : Nat) (o : _) (a : _) (n : _), s.railsOn ∧ s.ioOn id i 2 ∧ s.touchesLost (s.cmd id).nsRow (s.cmd id).cap.slba (s.cmd id).cap.nlb = false ∧ (s.at t).cutOf id = [(1, o, a, n)]) ∧
    (∃ (s : State) (t : Nat) (id : Nat) (i : Nat) (o : _) (a : _) (n : _), s.railsOn ∧ s.ioOn id i 0xC ∧ s.touchesLost (s.cmd id).nsRow (s.cmd id).cap.slba (s.cmd id).cap.nlb = false ∧ (s.at t).cutOf id = [(1, o, a, n)]) ∧
    (∃ (s : State) (t : Nat) (id : Nat) (i : Nat) (o : _) (a : _) (n : _), s.inCapsule id ∧ s.railsOn ∧ s.ioOn id i 5 ∧ s.touchesLost (s.cmd id).nsRow (s.cmd id).cap.slba (s.cmd id).cap.nlb = false ∧ (s.at t).cutOf id = [(1, o, a, n)]) ∧
    (∃ (s : State) (t : Nat) (id : Nat) (i : Nat) (o : _) (a : _) (n : _) (w : _) (i' : _), s.inCapsule id ∧ s.inCapsule w ∧ s.railsOn ∧ s.onQp id i ∧ s.readyIo id 5 = true ∧ (s.cmd id).fused = some w ∧ w ≠ id ∧ s.onQp w i' ∧ s.readyIo w 1 = true ∧ s.touchesLost (s.cmd id).nsRow (s.cmd id).cap.slba (s.cmd id).cap.nlb = false ∧ (s.at t).cutOf id = [(1, o, a, n)] ∧ (s.cmd id).cap.inData % 256 ^ (s.cmd id).len ≠ 0) ∧
    (∃ (s : State) (id : Nat) (i : Nat), s.railsOn ∧ s.ioOn id i 8 ∧ s.writesBack id ∧ (s.cmd id).cap.deac = false) ∧
    (∃ (s : State) (id : Nat) (i : Nat), s.inCapsule id ∧ s.railsOn ∧ s.ioOn id i 9 ∧ (s.cmd id).cap.ad = false) ∧
    (∃ (s : State) (id : Nat) (i : Nat), s.inCapsule id ∧ s.railsOn ∧ s.ioOn id i 0xD) ∧
    (∃ (s : State) (id : Nat) (i : Nat), s.inCapsule id ∧ s.railsOn ∧ s.ioOn id i 0x11) ∧
    (∃ (s : State) (id : Nat) (i : Nat), s.inCapsule id ∧ s.railsOn ∧ s.ioOn id i 0x15) ∧
    (∃ (s : State) (id : Nat) (i : Nat), s.railsOn ∧ s.ioOn id i 0xE) ∧
    (∃ (s : State) (id : Nat) (i : Nat) (r : _) (rest : List Nat), s.railsOn ∧ r < 8192 ∧ (s.ns r).barrier = id :: rest ∧ id ∉ rest ∧ s.onQp id i ∧ (s.cmd id).stage = .barrier ∧ ((∀ e ∈ s.nsCmds r, e.2.stage ≠ .waitDirty)) ∧ s.paired = false) :=
  ⟨⟨wRd 0, 9, 3, by decide +kernel⟩,
   ⟨wIo { cap := { opcode := 0, nsid := 1 }, stage := .flushing }, 9, 3, by decide +kernel⟩,
   ⟨wRd 1, 9, 3, ⟨_, _, rfl⟩, by decide +kernel⟩,
   ⟨wIo { cap := { opcode := 1, nsid := 1, slba := 8, nlb := 2, dptr := .keyed (({ addr := 64, len := 8192, key := 5 } : KeyedSgl)) }, len := 8192 }, 9, 3, ({ addr := 64, len := 8192, key := 5 } : KeyedSgl), by decide +kernel⟩,
   ⟨wRd 2, 5000000000000, 9, 3, 0, 4096 * 8, 8192, by decide +kernel⟩,
   ⟨wRd 0xC, 5000000000000, 9, 3, 0, 4096 * 8, 8192, by decide +kernel⟩,
   ⟨wRd 5, 5000000000000, 9, 3, 0, 4096 * 8, 8192, ⟨_, _, rfl⟩, by decide +kernel⟩,
   ⟨(let s := wRd 5; let c := s.cmd 9; let s := s.setCmd 9 { c with fused := some 10 }; s.setCmd 10 { c with fused := some 9, cap := { c.cap with opcode := 1 } }), 5000000000000, 9, 3, 0, 4096 * 8, 8192, 10, 3, ⟨_, _, rfl⟩, ⟨_, _, rfl⟩, by decide +kernel⟩,
   ⟨wRd 8, 9, 3, by decide +kernel⟩,
   ⟨wIo { cap := { opcode := 9, nsid := 1, dptr := .offsetBlock 0 16, ranges := [(0, 4)] } }, 9, 3, ⟨_, _, rfl⟩, by decide +kernel⟩,
   ⟨wRd 0xD, 9, 3, ⟨_, _, rfl⟩, by decide +kernel⟩,
   ⟨(wRd 0x11), 9, 3, ⟨_, _, rfl⟩, by decide +kernel⟩,
   ⟨(wRd 0x15), 9, 3, ⟨_, _, rfl⟩, by decide +kernel⟩,
   ⟨(wRd 0xE), 9, 3, by decide +kernel⟩,
   ⟨(let s := wIo { cap := { opcode := 0xD, nsid := 1, raction := 0, prkey := 77 }, stage := .barrier }; let s := wPair |> fun _ => s; { s with twin := { s.twin with twinMode := true }, nvme := { s.nvme with ns := [(12, { barrier := [9] })] } }), 9, 3, 12, ([] : List Nat), by decide +kernel⟩⟩

theorem witness_NvmeSettingsActs :
    (∃ (s : State) (t : Nat) (sess : _), s.railsOn ∧ (s.at t).mayCommit sess 0x3210 subsystemCode = true ∧ s.paired = false) ∧
    (∃ (s : State) (t : Nat) (sess : _), s.railsOn ∧ (s.at t).mayCommit sess 0x3220 hostCode = true ∧ s.paired = false) ∧
    (∃ (s : State) (t : Nat) (sess : _), s.railsOn ∧ (s.at t).mayCommit sess 0x3224 (fun _ _ _ => 0) = true ∧ s.paired = false) ∧
    (∃ (s : State) (t : Nat) (sess : _), s.railsOn ∧ (s.at t).mayCommit sess 0x3230 namespaceCode = true ∧ s.paired = false ∧ s.o 0x3230 (s.staged sess 0x3230).row 2 = 0 ∧ (s.staged sess 0x3230).n 2 = 1) ∧
    (∃ (s : State) (t : Nat) (sess : _), s.railsOn ∧ (s.at t).mayCommit sess 0x3230 namespaceCode = true ∧ s.paired = false ∧ s.twin.take = none ∧ s.o 0x3230 (s.staged sess 0x3230).row 2 = 1 ∧ (s.staged sess 0x3230).n 2 = 1 ∧ (s.staged sess 0x3230).n 0xC = 1) ∧
    (∃ (s : State) (t : Nat) (sess : _), s.railsOn ∧ (s.at t).mayCommit sess 0x3240 (fun _ _ _ => 0) = true ∧ s.paired = false) ∧
    (∃ (s : State) (t : Nat) (sess : _) (v : _), s.railsOn ∧ (s.at t).mayCommit sess 0x3250 (fun _ _ _ => 0) = true ∧ (s.staged sess 0x3250).val 4 = .oct 1180 v ∧ v ≠ 0 ∧ (s.staged sess 0x3250).n 6 = 0 ∧ s.tenantErasing (s.staged sess 0x3250).row = false) ∧
    (∃ (s : State) (t : Nat) (sess : _), s.railsOn ∧ (s.at t).mayCommit sess 0x3250 (fun _ _ _ => 0) = true ∧ (s.staged sess 0x3250).imports = false ∧ (s.staged sess 0x3250).n 6 = 1) ∧
    (∃ (s : State) (r : _), s.railsOn ∧ r < 8192 ∧ s.eraseReady r = true ∧ (s.ns r).deleting = false) ∧
    (∃ (s : State) (t : Nat) (h : _) (w : _), s.railsOn ∧ h < 2048 ∧ (s.hostOffender h).until_ = some w ∧ w ≤ max s.now t) :=
  ⟨⟨stg w0 0x3210 7 [(2, .nat 1), (3, .str "nqn.s"), (4, .str "S1")], 5000000000000, 16, by decide +kernel⟩,
   ⟨stg w0 0x3220 7 [(2, .nat 1), (3, .str "nqn.h"), (4, .nat 9)], 5000000000000, 16, by decide +kernel⟩,
   ⟨stg w0 0x3224 7 [(2, .nat 1), (3, .nat 7), (4, .nat 7)], 5000000000000, 16, by decide +kernel⟩,
   ⟨stg ((wArr (((w0.put 0x3250 9 3 1).put 0x3210 7 2 1).put 0x3210 7 4 0) 0 [0, 1, 2, 3]).put 0x5000 0 4 2) 0x3230 12 [(2, .nat 1), (3, .nat 7), (4, .nat 1), (5, .nat 9), (8, .nat 0)], 5000000000000, 16, by decide +kernel⟩,
   ⟨(let s := wNs (w0.put 0x3210 0 2 1); stg { s with nvme := { s.nvme with ns := [(12, { extents := [(0, 64)] })] } } 0x3230 12 [(0xC, .nat 1)]), 5000000000000, 16, by decide +kernel⟩,
   ⟨stg w0 0x3240 7 [(2, .nat 1), (3, .nat 7)], 5000000000000, 16, by decide +kernel⟩,
   ⟨stg w0 0x3250 9 [(4, .oct 1180 5)], 5000000000000, 16, 5, by decide +kernel⟩,
   ⟨stg (w0.put 0x3250 9 3 1) 0x3250 9 [(6, .nat 1)], 5000000000000, 16, by decide +kernel⟩,
   ⟨(let s := wNs w0; { s with twin := { s.twin with twinMode := true }, nvme := { ns := [(12, { erasing := true })] } }), 12, by decide +kernel⟩,
   ⟨{ w0 with nvme := { offenders := [(4, { until_ := some 5 })] } }, 5000000000000, 4, 5, by decide +kernel⟩⟩

theorem witness_SchedulingActs :
    (∃ (s : State) (e : _) (x : EngineInput) (i : _), s.railsOn ∧ e < 32 ∧ nextInput (Tbl.get [] s.nvme.inputs e) = some x ∧ x.qp = some i ∧ (s.qp i).cntlid = none ∧ x.cap.opcode = 0x7F ∧ x.cap.fctype = 1 ∧ s.fuseHalf x = none ∧ s.pwr.lull = false) ∧
    (∃ (s : State) (t : Nat) (tenant : _) (id : _) (k : _), s.railsOn ∧ tenant < 4096 ∧ (s.at t).pickAdmit tenant 0 8 = some id ∧ (s.cmd id).cntlid = some k ∧ (s.at t).nsBad (s.ctrl k) false (s.cmd id).host (s.cmd id).cap = none ∧ (s.cmd id).cap.opcode ≠ 1 ∧ (s.cmd id).cap.opcode ≠ 8) ∧
    (∃ (s : State) (t : Nat) (c : _) (k : _) (id : _) (rest : List Nat), s.railsOn ∧ s.fw.goal = none ∧ (s.at t).dirtyQueues.pickFrom 0 8 = some (c, k) ∧ Tbl.get [] (s.at t).dirtyQueues.queues k = id :: rest ∧ (s.at t).writeFits (s.cmd id) = true) ∧
    (∃ (s : State) (t : Nat) (sess : _), s.railsOn ∧ (s.at t).mayCommit sess 0x4010 (fun _ _ _ => 0) = true) ∧
    (∃ (s : State) (t : Nat) (sess : _) (c : _) (v : _), s.railsOn ∧ c < 8 ∧ (s.at t).mayWrite sess 0x4000 (c + 1) (.nat v) = true ∧ classPriorityCode c v s = 0) ∧
    (∃ (s : State) (t : Nat) (n : _) (k : _) (v : _), s.railsOn ∧ n < 24 ∧ s.slotReady n = true ∧ (s.at t).chooseMember n = (some k, v)) ∧
    (∃ (s : State) (t : Nat) (p : _), s.railsOn ∧ p < 32 ∧ (s.gate p).oper ≠ [] ∧ (s.gate p).entryEnd ≤ (s.at t).ptpNow) ∧
    (∃ (s : State) (t : Nat) (p : _) (start : Int) (l : _), s.railsOn ∧ p < 32 ∧ (s.gate p).pending = some (start, l) ∧ start ≤ (s.at t).ptpNow) ∧
    (∃ (s : State) (t : Nat) (sess : _), s.railsOn ∧ (s.at t).mayCommit sess 0x4020 gateSettingsCode = true ∧ (s.staged sess 0x4020).n 2 ≠ 0) ∧
    (∃ (s : State) (t : Nat) (sess : _), s.railsOn ∧ (s.at t).mayCommit sess 0x4021 gateEntryCode = true) ∧
    (∃ (s : State) (t : Nat) (p : _) (c : _) (tn : _) (f : EgFrame), s.railsOn ∧ p < 32 ∧ c < 8 ∧ tn < 4096 ∧ s.lineBusy p ∧ (s.eg p).head? (queueKey c tn) = some f ∧ 2 ≤ ((s.eg p).qs (queueKey c tn)).level ∧ ((s.eg p).qs (queueKey c tn)).active = true ∧ (s.at t).eligible p f = true ∧ ((s.eg p).qs (queueKey c tn)).heldBack = false ∧ ((s.eg p).qs (queueKey c tn)).waitingSince + s.ob 0x4002 (((s.eg p).qs (queueKey c tn)).level + 1) * 1000 ≤ max s.now t) ∧
    (∃ (s : State) (t : Nat) (n : _) (c : _) (tn : _) (j : _) (rest : _), s.railsOn ∧ n < 24 ∧ c < 8 ∧ tn < 4096 ∧ Tbl.get [] (s.memQ n).queues (queueKey c tn) = j :: rest ∧ 2 ≤ ((s.memQ n).qs (queueKey c tn)).level ∧ ((s.memQ n).qs (queueKey c tn)).waitingSince + s.ob 0x4003 (((s.memQ n).qs (queueKey c tn)).level + 1) * msNs ≤ max s.now t) ∧
    (∃ (s : State) (t : Nat), s.railsOn ∧ ((∀ l, s.sched.lastShare = some l → l + 10 * msNs ≤ max s.now t))) ∧
    (∃ (s : State) (t : Nat), s.railsOn ∧ ((∀ l, s.sched.lastTarget = some l → l + 100 * msNs ≤ max s.now t))) :=
  ⟨⟨(let s := wQp { state := 2, bufs := 4 }; { s with nvme := { inputs := [(2, [(({ qp := some 3, vf := none, cap := { opcode := 0x7F, fctype := 1, cid := 4 }, cls := 0, arrivedAt := 5 } : EngineInput))])] } }), 2, ({ qp := some 3, vf := none, cap := { opcode := 0x7F, fctype := 1, cid := 4 }, cls := 0, arrivedAt := 5 } : EngineInput), 3, by decide +kernel⟩,
   ⟨(let s := wIo { cap := { opcode := 2, nsid := 1, slba := 8, nlb := 2, dptr := .offsetBlock 0 8192 }, len := 8192, stage := .waitAdmit, waitedAt := some 50, cls := 1 }; s.put 0x3220 1 4 9), 5000000000000, 9, 9, 5, by decide +kernel⟩,
   ⟨(let s := wIo { cap := { opcode := 1, nsid := 1, slba := 8, nlb := 2, dptr := .offsetBlock 0 8192 }, len := 8192, stage := .waitDirty, waitedAt := some 50, cls := 1 }; (s.put 0x5030 0 2 1).put 0x3220 1 4 9), 5000000000000, 1, 4096 + 9, 9, ([] : List Nat), by decide +kernel⟩,
   ⟨stg ((List.range 32).foldl wBusy w0) 0x4010 9 [(2, .nat 50)], 5000000000000, 16, by decide +kernel⟩,
   ⟨w0, 5000000000000, 16, 2, 5, by decide +kernel⟩,
   ⟨(let s := wSlots w0; { s with slot := { s.slot with cmds := [(7, { slot := 4, len := 4096, cls := 1, tenant := 9 })] }, sched := { mem := [(4, { queues := [(4096 + 9, [7])] })] } }), 5000000000000, 4, 7, ((((let s := wSlots w0; { s with slot := { s.slot with cmds := [(7, { slot := 4, len := 4096, cls := 1, tenant := 9 })] }, sched := { mem := [(4, { queues := [(4096 + 9, [7])] })] } })).at 5000000000000).chooseMember 4).2, by decide +kernel⟩,
   ⟨(wBusy (w0.put 0x3000 0 1 2) 3).setGate 3 { oper := [(500, 3), (1000, 255)] }, 5000000000000, 3, by decide +kernel⟩,
   ⟨(wBusy (w0.put 0x3000 0 1 2) 3).setGate 3 { pending := some (5, ([(500, 3), (1000, 255)])) }, 5000000000000, 3, (5 : Int), [(500, 3), (1000, 255)], by decide +kernel⟩,
   ⟨stg w0 0x4020 3 [(2, .nat 1), (3, .nat 5)], 5000000000000, 16, by decide +kernel⟩,
   ⟨stg w0 0x4021 3 [(2, .nat 1000), (3, .nat 3)], 5000000000000, 16, by decide +kernel⟩,
   ⟨w0.setPort 0 { linkUp := true } |>.setEg 0 { onLine := some wFrame, queues := [(queueKey 3 9, [(({ msg := .ctl (.announceAddress 0), len := 64, cls := 3, tenant := 9 } : EgFrame))])], sched := [(queueKey 3 9, { level := 3, active := true, waitingSince := 0 })] }, 5000000000000, 0, 3, 9, ({ msg := .ctl (.announceAddress 0), len := 64, cls := 3, tenant := 9 } : EgFrame), by decide +kernel⟩,
   ⟨{ w0 with sched := { mem := [(4, { queues := [(queueKey 3 9, [7, 8])], sched := [(queueKey 3 9, { level := 3, active := true, waitingSince := 0 })] })] } }, 5000000000000, 4, 3, 9, 7, [8], by decide +kernel⟩,
   ⟨wArr0 w0, 5000000000000, by decide +kernel⟩,
   ⟨wArr0 w0, 5000000000000, by decide +kernel⟩⟩

theorem witness_MeteringActs :
    (∃ (s : State) (t : Nat), s.railsOn ∧ s.pageEnd ≤ (s.at t).ptpNow ∧ s.pageEnd ≠ s.meter.start) ∧
    (∃ (s : State) (t : Nat) (p : LedgerPage), s.railsOn ∧ (s.meter.closing.filter fun q => dueAt (max s.now t) q.closedAt (5 * msNs)) = [p]) ∧
    (∃ (s : State) (p : LedgerPage), s.railsOn ∧ p ∈ s.meter.hbm ∧ (s.meter.hbm.find? fun q => decide (q.seq = p.seq)) = some p ∧ ((∀ q ∈ s.meter.vault, q.seq < p.seq))) ∧
    (∃ (s : State) (t : Nat) (sess : _) (v : _), s.railsOn ∧ (s.at t).mayWrite sess 0x4100 5 (.nat v) = true ∧ v ≤ s.meter.seq ∧ s.ob 0x4100 5 ≤ v) ∧
    (∃ (s : State) (sess : _) (x : _) (n : _), s.railsOn ∧ s.session? sess = some x ∧ 2 ≤ x.level ∧ n < 168) :=
  ⟨⟨w0, 60000000000, by decide +kernel⟩,
   ⟨{ w0 with meter := { closing := [(({ seq := 4, flags := 0, from_ := 0, upTo := 60, closedAt := 0 } : LedgerPage)), { (({ seq := 4, flags := 0, from_ := 0, upTo := 60, closedAt := 0 } : LedgerPage)) with seq := 5, closedAt := 5000000000000 }] } }, 5000000000000, ({ seq := 4, flags := 0, from_ := 0, upTo := 60, closedAt := 0 } : LedgerPage), by decide +kernel⟩,
   ⟨{ w0 with meter := { hbm := [(({ seq := 4, flags := 0, from_ := 0, upTo := 60, closedAt := 0 } : LedgerPage))] } }, ({ seq := 4, flags := 0, from_ := 0, upTo := 60, closedAt := 0 } : LedgerPage), by decide +kernel⟩,
   ⟨{ w0 with meter := { seq := 7 } }, 5000000000000, 16, 3, by decide +kernel⟩,
   ⟨w0, 16, (w0.session? 16).getD {}, 40, by decide +kernel⟩⟩

theorem witness_ArrayActs :
    (∃ (s : State) (t : Nat) (a : Nat) (sess : _), s.railsOn ∧ a < 4 ∧ (s.at t).mayCommit sess 0x5000 arrayCode = true ∧ s.paired = false ∧ s.nvme.ctrls = [] ∧ s.arrOn (s.staged sess 0x5000).row = false ∧ (s.staged sess 0x5000).n 2 = 1) ∧
    (∃ (s : State) (t : Nat) (a : Nat) (sess : _), s.railsOn ∧ a < 4 ∧ (s.at t).mayCommit sess 0x5000 arrayCode = true ∧ s.paired = false ∧ s.nvme.ctrls = [] ∧ s.arrOn (s.staged sess 0x5000).row = true ∧ (s.staged sess 0x5000).n 2 = 0) ∧
    (∃ (s : State) (t : Nat) (a : Nat) (r : _), s.railsOn ∧ a < 4 ∧ s.flushFree a r = true ∧ (s.at t).gatherDue a r = true ∧ (s.openCtx ((s.flushCols a r).length * 4096)).1.isSome = true) ∧
    (∃ (s : State) (t : Nat) (a : Nat) (r : _), s.railsOn ∧ a < 4 ∧ s.flushFree a r = true ∧ s.freshPages a r ≠ [] ∧ (s.rowFull a r || (s.at t).gatherDue a r || s.overWatermark a r || s.rowNeeded a r || s.drains a) = true ∧ (s.openCtx ((s.flushCols a r).length * 4096)).1.isSome = true) ∧
    (∃ (s : State) (t : Nat) (a : Nat) (e : _) (rest : List (Nat × JRec)), s.railsOn ∧ a < 4 ∧ s.mayFlush a = true ∧ (s.arrS a).jwait = e :: rest ∧ e.1 + 20000 ≤ max s.now t) ∧
    (∃ (s : State) (a : Nat) (b : JBlock), s.railsOn ∧ a < 4 ∧ (s.arrS a).jblocks.find? (fun x => decide (x.seq = b.seq)) = some b ∧ b.copies = [] ∧ b.recs = [] ∧ s.arr.flushes = [] ∧ s.arr.recons = [] ∧ ((∀ e ∈ s.nvme.cmds, e.2.stage ≠ .flushing)) ∧ s.mayFlush a = false ∧ (s.arrS a).work = none ∧ (s.arrS a).recovering = true) ∧
    (∃ (s : State) (a : Nat) (c : _) (r : _) (f : Flush), s.railsOn ∧ a < 4 ∧ c < 1024 ∧ s.flushOfCtx c = some (a, r, f) ∧ f.stage = .writing ∧ f.pqDone = false ∧ s.dataRead f = true) ∧
    (∃ (s : State) (a : Nat) (c : _) (r : _) (f : Flush), s.railsOn ∧ a < 4 ∧ c < 1024 ∧ s.flushOfCtx c = some (a, r, f)) ∧
    (∃ (s : State) (a : Nat) (r : _), s.railsOn ∧ a < 4 ∧ (s.arrS a).zeroing = some (r, [])) ∧
    (∃ (s : State) (a : Nat), s.railsOn ∧ a < 4 ∧ s.mayFlush a = true ∧ (s.arrS a).savedWatermark ≠ (s.arrS a).watermark) ∧
    (∃ (s : State) (a : Nat) (r : _) (cols : List StripeColumn), s.railsOn ∧ a < 4 ∧ s.mayScrub a = true ∧ cols.length = s.aC a / 4096 ∧ ((∀ c ∈ cols, c.data.length = s.aD a)) ∧ s.o 0x5020 a 3 = r ∧ r < (s.arrS a).nRows ∧ s.rowBusy a r = true) ∧
    (∃ (s : State) (a : Nat) (r : _) (c : StripeColumn), s.railsOn ∧ a < 4 ∧ s.mayScrub a = true ∧ s.aC a / 4096 = 1 ∧ c.data.length = s.aD a ∧ c.bad = [] ∧ c.p = parityP c.data ∧ c.q = parityQ 4096 0 c.data ∧ s.o 0x5020 a 3 = r ∧ r + 1 < (s.arrS a).nRows ∧ s.rowBusy a r = false) :=
  ⟨⟨stg (wSlots w0) 0x5000 1 [(2, .nat 1), (7, .oct 24 ((([4, 5, 6, 7] : List Nat) ++ List.replicate 20 255).foldl (fun v x => v * 256 + x) 0))], 5000000000000, 0, 16, by decide +kernel⟩,
   ⟨stg (wArr0 (wSlots w0)) 0x5000 0 [(2, .nat 0)], 5000000000000, 0, 16, by decide +kernel⟩,
   ⟨(let s := (wArr0 (wSlots w0)).put 0x5030 0 2 1; { s with arr := { s.arr with pages := [(5 * 32, { cur := some wPage })] } }), 5000000000000, 0, 5, by decide +kernel⟩,
   ⟨(let s := (wArr0 (wSlots w0)).put 0x5030 0 2 1; { s with arr := { s.arr with pages := (List.range 32).map fun i => (5 * 32 + i, { cur := some wPage }) } }), 5000000000000, 0, 5, by decide +kernel⟩,
   ⟨(let s := wArr0 (wSlots w0); s.setArr 0 { s.arrS 0 with jwait := [((5, ({ typ := 1, method := 1, degraded := false, map := 0, row := 5, fseq := 1, start := 0, len := 0, mark := 0, time := 0, subGen := 0 } : JRec)))] }), 5000000000000, 0, (5, ({ typ := 1, method := 1, degraded := false, map := 0, row := 5, fseq := 1, start := 0, len := 0, mark := 0, time := 0, subGen := 0 } : JRec)), ([] : List (Nat × JRec)), by decide +kernel⟩,
   ⟨(let s := (wArr0 (wSlots w0)).put 0x5000 0 2 0; s.setArr 0 { s.arrS 0 with jblocks := [(({ seq := 3, recs := [], copies := [] } : JBlock))], recovering := true }), 0, ({ seq := 3, recs := [], copies := [] } : JBlock), by decide +kernel⟩,
   ⟨(let s := wArr0 (wSlots w0); { s with arr := { s.arr with flushes := [(rowKey 0 5, (({ fseq := 1, method := 1, stage := .writing, ctx := some 300 } : Flush)))], accs := [(1, { ctxs := [(44, 8192)] })] } }), 0, 300, 5, ({ fseq := 1, method := 1, stage := .writing, ctx := some 300 } : Flush), by decide +kernel⟩,
   ⟨(let s := wArr0 (wSlots w0); { s with arr := { s.arr with flushes := [(rowKey 0 5, (({ fseq := 1, method := 1, stage := .writing, ctx := some 300 } : Flush)))], accs := [(1, { ctxs := [(44, 8192)] })] } }), 0, 300, 5, ({ fseq := 1, method := 1, stage := .writing, ctx := some 300 } : Flush), by decide +kernel⟩,
   ⟨(let s := wArr0 (wSlots w0); s.setArr 0 { s.arrS 0 with zeroing := some (5, []), watermark := 5 }), 0, 5, by decide +kernel⟩,
   ⟨(let s := wArr0 (wSlots w0); s.setArr 0 { s.arrS 0 with savedWatermark := 5 }), 0, by decide +kernel⟩,
   ⟨(let s := ((wArr0 (wSlots w0)).put 0x5020 0 2 1).put 0x5020 0 3 5; { s with arr := { s.arr with pages := [(5 * 32, { cur := some wPage })] } }), 0, 5, List.replicate 16 ({ data := [0, 0], p := 0, q := 0 } : StripeColumn), by decide +kernel⟩,
   ⟨((wArr0 (wSlots w0)).put 0x5020 0 2 1).put 0x5020 0 3 5 |>.put 0x5000 0 6 4, 0, 5, ({ data := [0, 0], p := 0, q := 0 } : StripeColumn), by decide +kernel⟩⟩

theorem witness_MemberActs :
    (∃ (s : State) (t : Nat) (a : Nat) (m : _), s.railsOn ∧ a < 4 ∧ ((∀ b < 4, s.aN b ≤ 24)) ∧ s.arrOn a = true ∧ s.owns a = true ∧ m < s.aN a ∧ s.memState a m = 1 ∧ 100 ≤ ((s.at t).windowSamples a m).length) ∧
    (∃ (s : State) (t : Nat) (a : Nat) (n : _) (cid : _) (k : _) (id : _) (off : _) (pc : Piece) (pl : _), s.railsOn ∧ a < 4 ∧ n < 24 ∧ s.mcOf n cid = some k ∧ (s.mc k).dead = false ∧ (s.mc k).excess = false ∧ (s.mc k).late = false ∧ (s.at t).pastAround (s.mc k) = true ∧ (s.mc k).purpose = .hostRead id off ∧ Tbl.has s.nvme.cmds id = true ∧ ((s.cmd id).pieces.find? fun p => decide (p.off = off)) = some pc ∧ planRecon (s.aD (s.mc k).array) (place (s.aD (s.mc k).array) (s.aC (s.mc k).array) pc.addr).2.1 ((place (s.aD (s.mc k).array) (s.aC (s.mc k).array) pc.addr).2.1 :: (s.unavailable (s.mc k).array (place (s.aD (s.mc k).array) (s.aC (s.mc k).array) pc.addr).1 ++ (s.at t).latePositions id (s.mc k).array (place (s.aD (s.mc k).array) (s.aC (s.mc k).array) pc.addr).1)) = some pl ∧ s.o 0x5106 (s.mc k).array 0xB < 4096) ∧
    (∃ (s : State) (t : Nat) (a : Nat) (n : _) (cid : _) (k : _) (c : _), s.railsOn ∧ a < 4 ∧ n < 24 ∧ s.mcOf n cid = some k ∧ (s.mc k).cid = some c ∧ (s.mc k).late = false ∧ (s.mc k).since + s.ob 0x5107 1 * msNs ≤ max s.now t) ∧
    (∃ (s : State) (t : Nat) (a : Nat) (m : _), s.railsOn ∧ a < 4 ∧ s.arrOn a = true ∧ s.owns a = true ∧ (s.arrS a).failed = false ∧ m < s.aN a ∧ s.memState a m = 1 ∧ (s.at t).slowMet a m = true ∧ s.ob 0x5107 0xA ≠ 1 ∧ ((∀ w, (s.stat a m).slowEvent = some w → w + 60 * sNs ≤ max s.now t))) ∧
    (∃ (s : State) (t : Nat) (a : Nat) (sess : _), s.railsOn ∧ a < 4 ∧ (s.at t).mayCommit sess 0x5100 ejectCode = true ∧ (s.staged sess 0x5100).n 0xD = 1 ∧ (s.staged sess 0x5100).row < 96) ∧
    (∃ (s : State) (a : Nat) (r : _) (f : Flush), s.railsOn ∧ a < 4 ∧ s.flush? a r = some f ∧ f.method = 3 ∧ f.stage = .closed) ∧
    (∃ (s : State) (t : Nat) (a : Nat) (sess : _), s.railsOn ∧ a < 4 ∧ (s.at t).mayCommit sess 0x5111 replacementCode = true ∧ (s.staged sess 0x5111).n 3 = 1 ∧ (s.staged sess 0x5111).row < 96 ∧ s.replaceReason ((s.staged sess 0x5111).row / 24) ((s.staged sess 0x5111).row % 24) (s.candidate (s.staged sess 0x5111)) = 0) ∧
    (∃ (s : State) (a : Nat), s.railsOn ∧ a < 4 ∧ s.arrOn a = true ∧ s.owns a = true ∧ (s.arrS a).recovering = true ∧ s.mayRecover a = true ∧ s.silent = false) ∧
    (∃ (s : State) (t : Nat) (a : Nat) (sess : _), s.railsOn ∧ a < 4 ∧ (s.at t).mayCommit sess 0x5130 (fun _ _ _ => 0) = true ∧ (s.staged sess 0x5130).n 0xA = 1) :=
  ⟨⟨(let s := wArr0 (wSlots w0); s.setArr 0 { s.arrS 0 with stats := [(2, { samples := (List.range 100).map fun i => (4999999999999, 1000 * i) })] }), 5000000000000, 0, 2, by decide +kernel⟩,
   ⟨(let s := wArr0 (wSlots w0); { s with slot := { s.slot with cmds := [(7, { slot := 2, member := memberAt 4 5 0, len := 4096, cls := 1, tenant := 9, cid := some 4, since := 0, purpose := .hostRead 9 0 })] }, nvme := { cmds := [(9, { stage := .reading, len := 4096, pieces := [(({ off := 0, array := 0, addr := 5 * 131072 , len := 4096, src := .member 7 } : Piece))] })] } }), 5000000000000, 0, 2, 4, 7, 9, 0, ({ off := 0, array := 0, addr := 5 * 131072 , len := 4096, src := .member 7 } : Piece), [1, 2], by decide +kernel⟩,
   ⟨(let s := wArr0 (wSlots w0); { s with slot := { s.slot with cmds := [(7, { slot := 2, len := 4096, cls := 1, tenant := 9, cid := some 4, since := 0 })] } }), 5000000000000, 0, 2, 4, 7, 4, by decide +kernel⟩,
   ⟨(let s := (wArr0 (wSlots w0)).put 0x5107 0 0xA 0 |>.put 0x5107 0 5 1; s.setArr 0 { s.arrS 0 with stats := [(2, { longs := List.replicate 3 4999999999999, reads := List.replicate 3 4999999999999 })] }), 5000000000000, 0, 2, by decide +kernel⟩,
   ⟨stg (wArr0 (wSlots w0)) 0x5100 2 [(0xD, .nat 1)], 5000000000000, 0, 16, by decide +kernel⟩,
   ⟨(let s := wArr0 (wSlots w0); { s with arr := { s.arr with flushes := [(rowKey 0 5, (({ fseq := 1, method := 3, stage := .closed, cols := [0, 1], restores := [2] } : Flush)))] } }), 0, 5, ({ fseq := 1, method := 3, stage := .closed, cols := [0, 1], restores := [2] } : Flush), by decide +kernel⟩,
   ⟨stg ((wArr0 (wSlots w0)).put 0x5100 2 2 3) 0x5111 2 [(2, .nat 9), (3, .nat 1)], 5000000000000, 0, 16, by decide +kernel⟩,
   ⟨(let s := wArr0 (wSlots w0); s.setArr 0 { s.arrS 0 with recovering := true }), 0, by decide +kernel⟩,
   ⟨stg (wArr0 (wSlots w0)) 0x5130 2 [(0xA, .nat 1)], 5000000000000, 0, 16, by decide +kernel⟩⟩

theorem witness_SlotLinkActs :
    (∃ (s : State) (t : Nat) (n : Nat), s.railsOn ∧ n < 24 ∧ (s.slotS n).presenceCase = 0 ∧ (s.slotS n).prsnt = false ∧ (within (max s.now t) (60 * sNs) (s.slotS n).presenceTimes).length < 8 ∧ s.slotEnabled n = true) ∧
    (∃ (s : State) (t : Nat) (n : Nat), s.railsOn ∧ n < 24 ∧ (s.slotS n).presenceCase = 0 ∧ (s.slotS n).prsnt = true ∧ (within (max s.now t) (60 * sNs) (s.slotS n).presenceTimes).length < 8) ∧
    (∃ (s : State) (t : Nat) (n : Nat) (sess : _), s.railsOn ∧ n < 24 ∧ (s.at t).mayCommit sess 0x5201 (fun _ _ _ => 0) = true ∧ (s.staged sess 0x5201).n 7 = 1 ∧ (s.slotS (s.staged sess 0x5201).row).presenceCase ≠ 0 ∧ s.o 0x5201 (s.staged sess 0x5201).row 2 = (s.staged sess 0x5201).n 2) ∧
    (∃ (s : State) (t : Nat) (n : Nat) (sess : _), s.railsOn ∧ n < 24 ∧ (s.at t).mayCommit sess 0x5201 (fun _ _ _ => 0) = true ∧ (s.staged sess 0x5201).n 7 ≠ 1 ∧ s.o 0x5201 (s.staged sess 0x5201).row 2 = 0 ∧ (s.staged sess 0x5201).n 2 = 1) ∧
    (∃ (s : State) (t : Nat) (n : Nat) (w : _), s.railsOn ∧ n < 24 ∧ (s.slotS n).accepted = some w ∧ s.slotState n = 1 ∧ (s.slotS n).auxOn = true ∧ (s.slotS n).ifdet = none ∧ w + 5 * msNs ≤ max s.now t) ∧
    (∃ (s : State) (t : Nat) (n : Nat) (w : _), s.railsOn ∧ n < 24 ∧ (s.slotS n).powerGood = some w ∧ s.slotState n = 1 ∧ w + 100 * msNs ≤ max s.now t ∧ s.silent = false) ∧
    (∃ (s : State) (n : Nat) (rate : _) (width : _), s.railsOn ∧ n < 24 ∧ (rate = 16 ∨ rate = 32 ∨ rate = 64) ∧ (width = 1 ∨ width = 2 ∨ width = 4) ∧ width ≤ s.slotWidth ∧ (s.slotS n).linkUp = false ∧ (s.slotS n).ladder = none ∧ s.slotState n = 2) ∧
    (∃ (s : State) (t : Nat) (n : Nat) (w : _), s.railsOn ∧ n < 24 ∧ (s.slotS n).perstAt = some w ∧ s.slotState n = 2 ∧ w + 100 * msNs ≤ max s.now t ∧ (s.slotS n).tries < 3) ∧
    (∃ (s : State) (t : Nat) (n : Nat) (i : DriveInfo) (w : _), s.railsOn ∧ n < 24 ∧ (s.slotS n).linkAt = some w ∧ s.slotState n = 3 ∧ w + 100 * msNs ≤ max s.now t ∧ refusal (s.slotS n) i = 0 ∧ s.twin.twinMode = false ∧ s.memberIn n = none ∧ ((((s.at t).setSlot n { s.slotS n with info := i, tags := [] }).setSlotState n 4).choosePower n i).isSome = true) ∧
    (∃ (s : State) (t : Nat) (n : Nat) (i : DriveInfo) (w : _), s.railsOn ∧ n < 24 ∧ (s.slotS n).linkAt = some w ∧ s.slotState n = 3 ∧ w + 100 * msNs ≤ max s.now t ∧ refusal (s.slotS n) i ≠ 0 ∧ (refusal (s.slotS n) i < 8 ∨ s.twin.twinMode = false ∨ i.nmic = true)) ∧
    (∃ (s : State) (t : Nat) (n : Nat) (w : _) (capTo : _), s.railsOn ∧ n < 24 ∧ (s.slotS n).linkAt = some w ∧ s.slotState n = 3 ∧ w + (100 * msNs + readyAllowance capTo) ≤ max s.now t) ∧
    (∃ (s : State) (n : Nat), s.railsOn ∧ n < 24 ∧ (s.slotS n).linkUp = true ∧ (s.slotS n).ladder = none ∧ (s.slotS n).presenceCase = 0 ∧ (s.slotS n).prsnt = true ∧ s.slotState n = 4 ∧ (s.slotS n).tries < 3) ∧
    (∃ (s : State) (n : Nat), s.railsOn ∧ n < 24) ∧
    (∃ (s : State) (n : Nat), s.railsOn ∧ n < 24) ∧
    (∃ (s : State) (n : Nat), s.railsOn ∧ n < 24) ∧
    (∃ (s : State) (t : Nat) (n : Nat) (w : _), s.railsOn ∧ n < 24 ∧ (s.slotS n).dpc = some w ∧ s.slotState n = 7 ∧ (s.slotS n).prsnt = true ∧ w + sNs ≤ max s.now t) ∧
    (∃ (s : State) (n : Nat), s.railsOn ∧ n < 24 ∧ s.slotState n = 6 ∧ (s.slotS n).ladder = none) :=
  ⟨⟨w0, 5000000000000, 3, by decide +kernel⟩,
   ⟨wSlot { prsnt := true, auxOn := true } 1, 5000000000000, 3, by decide +kernel⟩,
   ⟨stg (wSlot { prsnt := true, presenceCase := 2, trainFails := 2 } 1) 0x5201 3 [(7, .nat 1)], 5000000000000, 3, 16, by decide +kernel⟩,
   ⟨stg ((wSlot { prsnt := true } 0).put 0x5201 3 2 0) 0x5201 3 [(2, .nat 1)], 5000000000000, 3, 16, by decide +kernel⟩,
   ⟨wSlot { prsnt := true, auxOn := true, accepted := some 0 } 1, 5000000000000, 3, 0, by decide +kernel⟩,
   ⟨wSlot { prsnt := true, auxOn := true, mainOn := true, powerGood := some 0 } 1, 5000000000000, 3, 0, by decide +kernel⟩,
   ⟨wSlot { prsnt := true, auxOn := true, mainOn := true, perst := false } 2, 3, 32, 4, by decide +kernel⟩,
   ⟨wSlot { prsnt := true, auxOn := true, mainOn := true, perst := false, perstAt := some 0, tries := 1 } 2, 5000000000000, 3, 0, by decide +kernel⟩,
   ⟨wSlot { prsnt := true, auxOn := true, mainOn := true, perst := false, linkUp := true, linkAt := some 0 } 3 |>.put 0x2211 0 1 600 |>.put 0x2210 3 6 25, 5000000000000, 3, ({ capacity := 100000 } : DriveInfo), 0, by decide +kernel⟩,
   ⟨wSlot { prsnt := true, auxOn := true, mainOn := true, perst := false, linkUp := true, linkAt := some 0 } 3, 5000000000000, 3, ({ classCode := 5 } : DriveInfo), 0, by decide +kernel⟩,
   ⟨wSlot { prsnt := true, auxOn := true, mainOn := true, perst := false, linkUp := true, linkAt := some 0 } 3, 5000000000000, 3, 0, 9, by decide +kernel⟩,
   ⟨wSlot { prsnt := true, auxOn := true, mainOn := true, perst := false, linkUp := true, linkAt := some 0 } 4, 3, by decide +kernel⟩,
   ⟨wSlot { prsnt := true, auxOn := true, mainOn := true, perst := false, linkUp := true, linkAt := some 0 } 6, 3, by decide +kernel⟩,
   ⟨wSlot { prsnt := true, auxOn := true, mainOn := true, perst := false, linkUp := true, linkAt := some 0 } 6, 3, by decide +kernel⟩,
   ⟨wSlot { prsnt := true, auxOn := true, mainOn := true, perst := false, linkUp := true, linkAt := some 0 } 6, 3, by decide +kernel⟩,
   ⟨wSlot { prsnt := true, auxOn := true, mainOn := true, perst := true, dpc := some 0 } 7, 5000000000000, 3, 0, by decide +kernel⟩,
   ⟨wSlot { prsnt := true, auxOn := true, mainOn := true, perst := false, linkUp := true } 6, 3, by decide +kernel⟩⟩

theorem witness_SlotCommandActs :
    (∃ (s : State) (n : Nat) (tag : _) (x : TagUse) (st : CplStatus), s.railsOn ∧ n < 24 ∧ Tbl.find? (s.slotS n).tags tag = some x ∧ x.quarantined = false ∧ st ≠ .configRetry) ∧
    (∃ (s : State) (n : Nat) (tag : _), s.railsOn ∧ n < 24 ∧ Tbl.find? (s.slotS n).tags tag = none) ∧
    (∃ (s : State) (n : Nat) (tag : _) (x : TagUse), s.railsOn ∧ n < 24 ∧ Tbl.find? (s.slotS n).tags tag = some x ∧ x.quarantined = true) ∧
    (∃ (s : State) (t : Nat) (n : Nat) (tag : _) (x : TagUse), s.railsOn ∧ n < 24 ∧ Tbl.find? (s.slotS n).tags tag = some x ∧ x.quarantined = false ∧ x.dma = none ∧ x.since + s.ob 0x5203 2 * msNs ≤ max s.now t ∧ ((Tbl.set (s.slotS n).tags tag { x with quarantined := true }).filter fun e => e.2.quarantined).length ≤ 64) ∧
    (∃ (s : State) (n : Nat) (e : DriveEntry) (k : _) (w : _), s.railsOn ∧ n < 24 ∧ s.slotState n = 6 ∧ e.poisoned = false ∧ e.phaseOk = true ∧ e.headOk = true ∧ e.queue = 0 ∧ s.mcOf n e.cid = some k ∧ (s.mc k).abortAt = some w) ∧
    (∃ (s : State) (n : Nat) (e : DriveEntry) (k : _) (a : _), s.railsOn ∧ n < 24 ∧ s.slotState n = 6 ∧ e.poisoned = false ∧ e.phaseOk = true ∧ e.headOk = true ∧ s.mcOf n e.cid = some k ∧ e.status = .success ∧ e.queue ≠ 0 ∧ e.queue = (s.mc k).engine % max 1 (s.o 0x5200 n 0xB) + 1 ∧ (s.mc k).dead = false ∧ (s.mc k).late = false ∧ (s.mc k).op = .write ∧ (s.mc k).purpose = .regions a) ∧
    (∃ (s : State) (t : Nat) (n : Nat) (cid : _) (k : _) (c : _), s.railsOn ∧ n < 24 ∧ s.mcOf n cid = some k ∧ (s.mc k).cid = some c ∧ (s.mc k).late = false ∧ (s.mc k).since + s.ob 0x5107 1 * msNs ≤ max s.now t) ∧
    (∃ (s : State) (t : Nat) (n : Nat) (w : _), s.railsOn ∧ n < 24 ∧ s.smartSince n = some w ∧ s.slotState n = 6 ∧ (s.slotS n).smartLate = false ∧ w + s.ob 0x5203 3 * msNs ≤ max s.now t) ∧
    (∃ (s : State) (t : Nat) (n : Nat) (cid : _) (k : _) (w : _), s.railsOn ∧ n < 24 ∧ s.mcOf n cid = some k ∧ (s.mc k).abortAt = some w ∧ w + sNs ≤ max s.now t ∧ s.slotState n = 6 ∧ (s.slotS n).ladder = none ∧ (s.slotS n).adminAbort = none) ∧
    (∃ (s : State) (t : Nat) (n : Nat) (k : _) (w : _), s.railsOn ∧ n < 24 ∧ (s.slotS n).ladder = some (k, w) ∧ (s.slotS n).askPeer = none ∧ w + ladderTime k ≤ max s.now t) ∧
    (∃ (s : State) (t : Nat) (n : Nat) (k : _) (w : _), s.railsOn ∧ n < 24 ∧ (s.slotS n).ladder = some (k, w) ∧ (s.slotS n).askPeer = none ∧ max s.now t < w + ladderTime k) ∧
    (∃ (s : State) (n : Nat) (addr : _) (len : _) (ctx : _) (off : _) (k : _), s.railsOn ∧ n < 24 ∧ streamAddr addr = some (ctx, off) ∧ Tbl.find? s.slot.streams ctx = some k ∧ (s.mc k).slot = n ∧ (s.mc k).around = none ∧ off + len ≤ (s.mc k).len ∧ (match (s.mc k).purpose with | .hostRead .. => false | _ => true) = true) ∧
    (∃ (s : State) (n : Nat) (addr : _) (len : _) (k : _) (c : _), s.grantAt n addr len .read = some (k, c) ∧ s.railsOn ∧ n < 24) ∧
    (∃ (s : State) (n : Nat) (addr : _) (len : _), s.railsOn ∧ n < 24 ∧ streamAddr addr = none ∧ s.grantAt n addr len .read = none ∧ s.queueAt n addr len = false ∧ s.ob 0x5210 3 = 0) ∧
    (∃ (s : State) (n : Nat), s.railsOn ∧ n < 24 ∧ s.ob 0x5210 3 = 0) ∧
    (∃ (s : State) (n : Nat) (addr : _) (len : _) (k : _) (c : _), s.grantAt n addr len .write = some (k, c) ∧ s.railsOn ∧ n < 24) ∧
    (∃ (s : State) (n : Nat), s.railsOn ∧ n < 24 ∧ (s.slotS n).auxOn = true ∧ s.o 0x5200 n 0x12 = 0) ∧
    (∃ (s : State) (n : Nat), s.railsOn ∧ n < 24) ∧
    (∃ (s : State) (t : Nat) (n : Nat) (critical : _), s.railsOn ∧ n < 24 ∧ critical < 256 ∧ s.slotState n = 6 ∧ (s.at t).smartDue n = true ∧ (s.slotS n).smartLate = false ∧ bit critical 2 = false ∧ bit critical 3 = false) ∧
    (∃ (s : State) (n : Nat), s.railsOn ∧ n < 24) ∧
    (∃ (s : State) (n : Nat) (k : AsyncKind), s.railsOn ∧ n < 24 ∧ k ≠ .reserved ∧ s.slotState n = 6) ∧
    (∃ (s : State) (n : Nat), s.railsOn ∧ n < 24 ∧ s.slotState n ≠ 6) :=
  ⟨⟨wSlot { linkUp := true, tags := [(7, { since := 0 })] } 6, 3, 7, ({ since := 0 } : TagUse), CplStatus.successful, by decide +kernel⟩,
   ⟨wSlot { linkUp := true } 6, 3, 7, by decide +kernel⟩,
   ⟨wSlot { linkUp := true, tags := [(7, { since := 0, quarantined := true })] } 6, 3, 7, ({ since := 0, quarantined := true } : TagUse), by decide +kernel⟩,
   ⟨wSlot { linkUp := true, tags := [(7, { since := 0 })] } 6, 5000000000000, 3, 7, ({ since := 0 } : TagUse), by decide +kernel⟩,
   ⟨wMc { slot := 3, cid := some 4, abortAt := some 9, since := 5 }, 3, ({ queue := 0, cid := 4 } : DriveEntry), 7, 9, by decide +kernel⟩,
   ⟨(wMc { slot := 3, cid := some 4, since := 5, op := .write, len := 4096, purpose := .regions 0 }), 3, ({ queue := 1, cid := 4 } : DriveEntry), 7, 0, by decide +kernel⟩,
   ⟨wMc { slot := 3, cid := some 4, since := 5, len := 4096 }, 5000000000000, 3, 4, 7, 4, by decide +kernel⟩,
   ⟨wSlot { linkUp := true, smartAsked := some 0 } 6, 5000000000000, 3, 0, by decide +kernel⟩,
   ⟨wMc { slot := 3, cid := some 4, since := 5, len := 4096, abortAt := some 9 }, 5000000000000, 3, 4, 7, 9, by decide +kernel⟩,
   ⟨wSlot { prsnt := true, ladder := some (2, 9) } 7, 5000000000000, 3, 2, 9, by decide +kernel⟩,
   ⟨wSlot { prsnt := true, ladder := some (2, 4999999999999) } 7, 5000000000000, 3, 2, 4999999999999, by decide +kernel⟩,
   ⟨wMc { slot := 3, cid := some 4, since := 5, len := 4096, ctx := some 5, purpose := .regions 0 }, 3, 0x20000000000 + 5 * 2 ^ 24 + 1024, 512, 5, 1024, 7, by decide +kernel⟩,
   ⟨wMc { slot := 3, cid := some 4, since := 5, op := .read, len := 4096 }, 3, Config.grantBase 7, 512, 7, (wMc { slot := 3, cid := some 4, since := 5, op := .read, len := 4096 }).mc 7, grantAt_first (by decide +kernel) (by decide +kernel), by decide +kernel⟩,
   ⟨(wSlot { linkUp := true } 5).put 0x5210 0 3 0, 3, 4096, 512, by decide +kernel⟩,
   ⟨(wSlot { linkUp := true } 6).put 0x5210 0 3 0, 3, by decide +kernel⟩,
   ⟨wMc { slot := 3, cid := some 4, since := 5, op := .write, len := 4096, data := 77 }, 3, Config.grantBase 7, 512, 7, (wMc { slot := 3, cid := some 4, since := 5, op := .write, len := 4096, data := 77 }).mc 7, grantAt_first (by decide +kernel) (by decide +kernel), by decide +kernel⟩,
   ⟨wSlot { auxOn := true } 6, 3, by decide +kernel⟩,
   ⟨w0, 3, by decide +kernel⟩,
   ⟨wSlot { linkUp := true, smartAsked := some 5 } 6, 5000000000000, 3, 1, by decide +kernel⟩,
   ⟨wSlot { linkUp := true } 6, 3, by decide +kernel⟩,
   ⟨wSlot { linkUp := true } 6, 3, AsyncKind.smart, by decide +kernel⟩,
   ⟨wSlot { linkUp := true } 5, 3, by decide +kernel⟩⟩

theorem witness_NearPortActs :
    (∃ (s : State) (p : Nat), s.railsOn ∧ p < 2 ∧ (s.nport p).perst = true) ∧
    (∃ (s : State) (p : Nat), s.railsOn ∧ p < 2 ∧ (s.nport p).perst = false) ∧
    (∃ (s : State) (p : Nat), s.railsOn ∧ p < 2 ∧ (s.nport p).linkUp = true) ∧
    (∃ (s : State) (p : Nat), s.railsOn ∧ p < 2 ∧ (s.nport p).linkUp = true) ∧
    (∃ (s : State) (p : Nat) (width : _) (rate : _), s.railsOn ∧ p < 2 ∧ 1 ≤ width ∧ width ≤ 8 ∧ (rate = 16 ∨ rate = 32 ∨ rate = 64) ∧ (s.nport p).training.isSome = true) ∧
    (∃ (s : State) (p : Nat) (f : _) (off : _), s.railsOn ∧ p < 2 ∧ f ≤ 64 ∧ off < 4096 ∧ off % 4 = 0 ∧ (s.nport p).linkUp = true ∧ (s.nport p).ready = true ∧ s.funcExists p f = true) ∧
    (∃ (s : State) (p : Nat) (f : _) (off : _), s.railsOn ∧ p < 2 ∧ f ≤ 64 ∧ off < 4096 ∧ off % 4 = 0 ∧ (s.nport p).linkUp = true ∧ (s.nport p).ready = false) ∧
    (∃ (s : State) (p : Nat), s.railsOn ∧ p < 2 ∧ (s.nport p).linkUp = true ∧ (s.nport p).ready = true ∧ (s.nport p).vfEnable = false) ∧
    (∃ (s : State) (p : Nat) (f : _) (v : _), s.railsOn ∧ p < 2 ∧ 1 ≤ f ∧ f ≤ 64 ∧ bit v 2 = true ∧ (s.nport p).linkUp = true ∧ (s.nport p).ready = true ∧ s.funcExists p f = true) ∧
    (∃ (s : State) (p : Nat) (v : _) (y : _) (q : SubQ) (val : _), s.railsOn ∧ p < 2 ∧ 1 ≤ v ∧ v ≤ 64 ∧ y < 129 ∧ val < 2 ^ 32 ∧ (s.nport p).linkUp = true ∧ (s.nport p).vfMse = true ∧ s.funcExists p v = true ∧ (s.vf p v).ignoring = false ∧ (s.vf p v).cfs = false ∧ (s.vf p v).cc % 2 = 1 ∧ Tbl.find? (s.vf p v).sqs y = some q ∧ val < q.size) ∧
    (∃ (s : State) (p : Nat) (v : _) (val : _), s.railsOn ∧ p < 2 ∧ 1 ≤ v ∧ v ≤ 64 ∧ val < 2 ^ 32 ∧ (s.nport p).linkUp = true ∧ (s.nport p).vfMse = true ∧ s.funcExists p v = true ∧ (s.vf p v).cc % 2 = 0) ∧
    (∃ (s : State) (p : Nat) (v : _) (val : _), s.railsOn ∧ p < 2 ∧ 1 ≤ v ∧ v ≤ 64 ∧ val < 2 ^ 32 ∧ s.funcExists p v = true ∧ vfCcOk (ccBits val) = true ∧ val % 2 = 1 ∧ (s.vf p v).cc % 2 = 0 ∧ s.o 0x5301 (vfRow p v) 2 = 1 ∧ (s.vf p v).aqa % 4096 ≠ 0 ∧ (s.vf p v).aqa / 65536 % 4096 ≠ 0 ∧ (s.vf p v).cfs = false ∧ s.silent = false) ∧
    (∃ (s : State) (p : Nat) (off : _) (len : _) (a : _), s.railsOn ∧ p < 2 ∧ (s.nport p).linkUp = true ∧ (s.nport p).memEnable = true ∧ (s.nport p).cfg.bar2 ≠ 0 ∧ off + len ≤ 2 ^ (s.nport p).cfg.bar2 ∧ off % 4 = 0 ∧ len % 4 = 0 ∧ s.inboundAt p off len true = some a) ∧
    (∃ (s : State) (p : Nat) (off : _) (len : _) (a : _), s.railsOn ∧ p < 2 ∧ (s.nport p).linkUp = true ∧ (s.nport p).memEnable = true ∧ (s.nport p).cfg.bar2 ≠ 0 ∧ off + len ≤ 2 ^ (s.nport p).cfg.bar2 ∧ off % 4 = 0 ∧ len % 4 = 0 ∧ s.inboundAt p off len false = some a) ∧
    (∃ (s : State) (t : Nat) (p : Nat) (sess : _), s.railsOn ∧ p < 2 ∧ (s.at t).mayCommit sess 0x5306 inboundCode = true) ∧
    (∃ (s : State) (p : Nat) (v : _), s.railsOn ∧ p < 2 ∧ 1 ≤ v ∧ v ≤ 64 ∧ (s.vf p v).bme = true ∧ s.vfBusy p v = false) ∧
    (∃ (s : State) (p : Nat) (v : _), s.railsOn ∧ p < 2 ∧ 1 ≤ v ∧ v ≤ 64) ∧
    (∃ (s : State) (p : Nat), s.railsOn ∧ p < 2) ∧
    (∃ (s : State) (p : Nat), s.railsOn ∧ p < 2 ∧ (s.nport p).vfEnable = true) ∧
    (∃ (s : State) (t : Nat) (p : Nat) (sess : _), s.railsOn ∧ p < 2 ∧ (s.at t).mayCommit sess 0x5301 vfBindingCode = true ∧ (s.staged sess 0x5301).n 2 ≠ 0) :=
  ⟨⟨w0, 1, by decide +kernel⟩,
   ⟨wNp 1 { perst := false, linkUp := true, vfEnable := true, bme := true, memEnable := true, numVfs := 8 }, 1, by decide +kernel⟩,
   ⟨wNp 1 { perst := false, linkUp := true, vfEnable := true, bme := true, memEnable := true, numVfs := 8 }, 1, by decide +kernel⟩,
   ⟨wNp 1 { perst := false, linkUp := true, vfEnable := true, bme := true, memEnable := true, numVfs := 8 }, 1, by decide +kernel⟩,
   ⟨wNp 1 { perst := false, training := some 5 }, 1, 8, 64, by decide +kernel⟩,
   ⟨wVf 3 {}, 1, 3, 4, by decide +kernel⟩,
   ⟨wNp 1 { perst := false, linkUp := true, ready := false }, 1, 0, 16, by decide +kernel⟩,
   ⟨wNp 1 { perst := false, linkUp := true }, 1, by decide +kernel⟩,
   ⟨wVf 3 {}, 1, 3, 4, by decide +kernel⟩,
   ⟨(let s := wVf 3 { cc := 0x460001, rdy := true, bme := true, sqs := [(2, { base := 4096, size := 16 })] }; s.setNport 1 { s.nport 1 with vfMse := true }), 1, 3, 2, ({ base := 4096, size := 16 } : SubQ), 1, by decide +kernel⟩,
   ⟨(let s := wVf 3 {}; s.setNport 1 { s.nport 1 with vfMse := true }), 1, 3, 0x1F001F, by decide +kernel⟩,
   ⟨(wVf 3 { aqa := 0x1F001F, bme := true }).put 0x5301 66 2 1, 1, 3, 0x460001, by decide +kernel⟩,
   ⟨(((((wNp 1 { perst := false, linkUp := true, memEnable := true, cfg := { bar2 := 20 } }).put 0x5306 16 7 1).put 0x5306 16 5 1).put 0x5306 16 3 2).put 0x5306 16 4 12).put 0x5306 16 2 4096, 1, 8192, 8, 4096 * 4096, by decide +kernel⟩,
   ⟨(((((wNp 1 { perst := false, linkUp := true, memEnable := true, cfg := { bar2 := 20 } }).put 0x5306 16 7 1).put 0x5306 16 6 1).put 0x5306 16 3 2).put 0x5306 16 4 12).put 0x5306 16 2 4096, 1, 8192, 8, 4096 * 4096, by decide +kernel⟩,
   ⟨stg w0 0x5306 16 [(2, .nat 4096), (3, .nat 2), (4, .nat 12)], 5000000000000, 0, 16, by decide +kernel⟩,
   ⟨wVf 3 { bme := true }, 1, 3, by decide +kernel⟩,
   ⟨wVf 3 { cc := 0x460001, rdy := true, bme := true, sqs := [(2, { base := 4096, size := 16 })] }, 1, 3, by decide +kernel⟩,
   ⟨wVf 3 { cc := 0x460001, rdy := true, bme := true, sqs := [(2, { base := 4096, size := 16 })] }, 1, by decide +kernel⟩,
   ⟨wVf 3 { cc := 0x460001, rdy := true, bme := true, sqs := [(2, { base := 4096, size := 16 })] }, 1, by decide +kernel⟩,
   ⟨stg w0 0x5301 66 [(2, .nat 1), (3, .nat 9)], 5000000000000, 0, 16, by decide +kernel⟩⟩

theorem witness_NearPortQueueActs :
    (∃ (s : State) (p : Nat) (v : Nat) (id : Nat), s.railsOn ∧ p < 2 ∧ 1 ≤ v ∧ v ≤ 64 ∧ s.readyVf id 1 = some (p, v) ∧ (s.cmd id).qp = none ∧ newQueueBad (Tbl.has (s.vf p v).sqs (s.cmd id).cap.qid) (s.cmd id).cap = none ∧ (s.cmd id).cap.cqid ≠ 0 ∧ Tbl.has (s.vf p v).cqs (s.cmd id).cap.cqid = true) ∧
    (∃ (s : State) (p : Nat) (v : Nat) (id : Nat), s.railsOn ∧ p < 2 ∧ 1 ≤ v ∧ v ≤ 64 ∧ s.readyVf id 5 = some (p, v) ∧ (s.cmd id).qp = none ∧ newQueueBad (Tbl.has (s.vf p v).cqs (s.cmd id).cap.qid) (s.cmd id).cap = none ∧ (s.cmd id).cap.vector ≤ 128) ∧
    (∃ (s : State) (p : Nat) (v : Nat) (id : Nat), s.railsOn ∧ p < 2 ∧ 1 ≤ v ∧ v ≤ 64 ∧ s.readyVf id 0 = some (p, v) ∧ (s.cmd id).qp = none ∧ (s.cmd id).cap.qid ≠ 0 ∧ Tbl.has (s.vf p v).sqs (s.cmd id).cap.qid = true ∧ ((∀ e ∈ s.nvme.cmds, e.2.vf ≠ some (p, v, (s.cmd id).cap.qid)))) ∧
    (∃ (s : State) (p : Nat) (v : Nat) (id : Nat), s.railsOn ∧ p < 2 ∧ 1 ≤ v ∧ v ≤ 64 ∧ s.readyVf id 4 = some (p, v) ∧ (s.cmd id).qp = none ∧ (s.cmd id).cap.qid ≠ 0 ∧ Tbl.has (s.vf p v).cqs (s.cmd id).cap.qid = true ∧ ((∀ e ∈ (s.vf p v).sqs, e.1 ≠ 0 → e.2.cq ≠ (s.cmd id).cap.qid))) ∧
    (∃ (s : State) (t : Nat) (p : Nat) (v : Nat) (id : Nat) (tag : _) (x : NpTag) (d : _) (off : _) (len : _), s.railsOn ∧ p < 2 ∧ 1 ≤ v ∧ v ≤ 64 ∧ (s.nport p).linkUp = true ∧ Tbl.find? (s.nport p).tags tag = some x ∧ (s.nport p).waits = [] ∧ x.orphaned = false ∧ x.quarantined = false ∧ x.purpose = .writeData id off len ∧ Tbl.has s.nvme.cmds id = true ∧ (((s.at t).freeTag p tag).takeData id off len d).2 = false) ∧
    (∃ (s : State) (p : Nat) (v : Nat) (tag : _) (x : NpTag), s.railsOn ∧ p < 2 ∧ 1 ≤ v ∧ v ≤ 64 ∧ (s.nport p).linkUp = true ∧ Tbl.find? (s.nport p).tags tag = some x ∧ (s.nport p).waits = [] ∧ x.orphaned = true) ∧
    (∃ (s : State) (t : Nat) (p : Nat) (v : Nat) (tag : _) (x : NpTag) (c : _) (run : _) (n : _) (bd : _), s.railsOn ∧ p < 2 ∧ 1 ≤ v ∧ v ≤ 64 ∧ Tbl.find? (s.nport p).tags tag = some x ∧ x.orphaned = false ∧ x.quarantined = false ∧ x.purpose = .copyJob c run n bd ∧ (s.chan c).asked = false ∧ x.since + (s.nport p).timeout ≤ max s.now t) ∧
    (∃ (s : State) (p : Nat) (v : Nat) (len : _), s.railsOn ∧ p < 2 ∧ 1 ≤ v ∧ v ≤ 64 ∧ s.railOk ∧ (s.nport p).linkUp = true ∧ (s.nport p).mailbox.status ≠ 1 ∧ 1 ≤ len ∧ len ≤ 4096 ∧ s.heldFor (2 + p) = 0) ∧
    (∃ (s : State) (p : Nat) (v : Nat) (len : _), s.railsOn ∧ p < 2 ∧ 1 ≤ v ∧ v ≤ 64 ∧ s.railOk ∧ (s.nport p).linkUp = true ∧ (s.nport p).mailbox.status ≠ 1 ∧ 1 ≤ len ∧ len ≤ 4096 ∧ s.heldFor (2 + p) = 0 ∧ s.session? (2 + p) = none) ∧
    (∃ (s : State) (p : Nat) (v : Nat), s.railsOn ∧ p < 2 ∧ 1 ≤ v ∧ v ≤ 64 ∧ (s.nport p).linkUp = true ∧ (s.nport p).mailbox.status = 1) :=
  ⟨⟨wVfAdm { opcode := 1, qid := 2, qsize := 15, cqid := 2, pc := true, dptr := .prp 8192 true } { cc := 0x460001, rdy := true, bme := true, cqs := [(0, { base := 4096, size := 16 }), (2, { base := 4096, size := 16 })], sqs := [(0, { base := 4096, size := 16 })] }, 1, 3, 9, by decide +kernel⟩,
   ⟨wVfAdm { opcode := 5, qid := 2, qsize := 15, vector := 2, pc := true, dptr := .prp 8192 true } { cc := 0x460001, rdy := true, bme := true, cqs := [(0, { base := 4096, size := 16 })], sqs := [(0, { base := 4096, size := 16 })] }, 1, 3, 9, by decide +kernel⟩,
   ⟨wVfAdm { opcode := 0, qid := 2 } { cc := 0x460001, rdy := true, bme := true, cqs := [(0, { base := 4096, size := 16 })], sqs := [(0, { base := 4096, size := 16 }), (2, { base := 4096, size := 16 })] }, 1, 3, 9, by decide +kernel⟩,
   ⟨wVfAdm { opcode := 4, qid := 2 } { cc := 0x460001, rdy := true, bme := true, cqs := [(0, { base := 4096, size := 16 }), (2, { base := 4096, size := 16 })], sqs := [(0, { base := 4096, size := 16 })] }, 1, 3, 9, by decide +kernel⟩,
   ⟨(let s := wVfAdm { opcode := 1, dptr := .prp 8192 true } { cc := 0x460001 }; (s.setCmd 9 { s.cmd 9 with stage := .fetching, len := 4096 }).setNport 1 { s.nport 1 with tags := [(6, (({ since := 0, func := 3, purpose := .writeData 9 0 512 } : NpTag)))] }), 5000000000000, 1, 3, 9, 6, ({ since := 0, func := 3, purpose := .writeData 9 0 512 } : NpTag), 33, 0, 512, by decide +kernel⟩,
   ⟨(let s := wVf 3 {}; s.setNport 1 { s.nport 1 with tags := [(6, (({ since := 0, func := 3, orphaned := true, purpose := .writeData 9 0 512 } : NpTag)))] }), 1, 3, 6, ({ since := 0, func := 3, orphaned := true, purpose := .writeData 9 0 512 } : NpTag), by decide +kernel⟩,
   ⟨(let s := wVf 3 {}; s.setNport 1 { s.nport 1 with tags := [(6, (({ since := 0, func := 0, purpose := .copyJob 63 1 512 0 } : NpTag)))] }), 5000000000000, 1, 3, 6, ({ since := 0, func := 0, purpose := .copyJob 63 1 512 0 } : NpTag), 63, 1, 512, 0, by decide +kernel⟩,
   ⟨wVf 3 {}, 1, 3, 40, by decide +kernel⟩,
   ⟨wVf 3 {}, 1, 3, 40, by decide +kernel⟩,
   ⟨wNp 1 { perst := false, linkUp := true, mailbox := { status := 1, reqLen := 40 } }, 1, 3, by decide +kernel⟩⟩

theorem witness_SpdmActs :
    (∃ (s : State) (p : Nat), s.railsOn ∧ p < 2 ∧ (s.nport p).linkUp = true) ∧
    (∃ (s : State) (p : Nat), s.railsOn ∧ p < 2 ∧ (s.nport p).linkUp = true) ∧
    (∃ (s : State) (p : Nat), s.railsOn ∧ p < 2 ∧ (s.nport p).linkUp = true ∧ (s.nport p).spdm.version ≠ 0) ∧
    (∃ (s : State) (p : Nat), s.railsOn ∧ p < 2 ∧ (s.nport p).linkUp = true ∧ (s.nport p).spdm.caps = true) ∧
    (∃ (s : State) (p : Nat), s.railsOn ∧ p < 2 ∧ (s.nport p).linkUp = true ∧ (s.nport p).spdm.algorithms = true) ∧
    (∃ (s : State) (p : Nat), s.railsOn ∧ p < 2 ∧ (s.nport p).linkUp = true ∧ (s.nport p).spdm.algorithms = true) ∧
    (∃ (s : State) (p : Nat), s.railsOn ∧ p < 2 ∧ (s.nport p).linkUp = true ∧ (s.nport p).spdm.algorithms = true) ∧
    (∃ (s : State) (p : Nat), s.railsOn ∧ p < 2 ∧ (s.nport p).linkUp = true ∧ (s.nport p).spdm.algorithms = true) :=
  ⟨⟨wVf 3 {}, 1, by decide +kernel⟩,
   ⟨wVf 3 {}, 1, by decide +kernel⟩,
   ⟨wNp 1 { perst := false, linkUp := true, spdm := { version := 1 } }, 1, by decide +kernel⟩,
   ⟨wNp 1 { perst := false, linkUp := true, spdm := { version := 1, caps := true } }, 1, by decide +kernel⟩,
   ⟨wNp 1 { perst := false, linkUp := true, spdm := { version := 1, caps := true, algorithms := true } }, 1, by decide +kernel⟩,
   ⟨wNp 1 { perst := false, linkUp := true, spdm := { version := 1, caps := true, algorithms := true } }, 1, by decide +kernel⟩,
   ⟨wNp 1 { perst := false, linkUp := true, spdm := { version := 1, caps := true, algorithms := true } }, 1, by decide +kernel⟩,
   ⟨wNp 1 { perst := false, linkUp := true, spdm := { version := 1, caps := true, algorithms := true } }, 1, by decide +kernel⟩⟩

theorem witness_DmaActs :
    (∃ (s : State) (c : Nat), s.railsOn ∧ c < 64 ∧ (s.chan c).state = 0) ∧
    (∃ (s : State) (c : Nat), s.railsOn ∧ c < 64 ∧ (s.chan c).state ≠ 0 ∧ jobOf c = none) ∧
    (∃ (s : State) (c : Nat), s.railsOn ∧ c < 64 ∧ (s.chan c).state = 1) ∧
    (∃ (s : State) (c : Nat), s.railsOn ∧ c < 64 ∧ ((s.chan c).state = 2 ∨ (s.chan c).state = 3)) ∧
    (∃ (s : State) (c : Nat), s.railsOn ∧ c < 64 ∧ ((s.chan c).state = 0 ∨ 4 ≤ (s.chan c).state)) ∧
    (∃ (s : State) (c : Nat), s.railsOn ∧ c < 64) ∧
    (∃ (s : State) (c : Nat), s.railsOn ∧ c < 64 ∧ ((s.chan c).state = 4 ∨ (s.chan c).state = 5)) ∧
    (∃ (s : State) (c : Nat) (d : _) (w : _), s.dmaMayFetch c = true ∧ s.railsOn ∧ c < 64 ∧ (s.chan c).state = 1 ∧ (s.chan c).fetching = some w ∧ (s.chan c).own = none ∧ s.ob 0x5305 2 = 0 ∧ (s.chan c).follow = false ∧ dGen d ≠ (s.chan c).e ∧ (s.chan c).work = [] ∧ (s.chan c).pending = false) ∧
    (∃ (s : State) (c : Nat) (w : _), s.dmaMayFetch c = true ∧ s.railsOn ∧ c < 64 ∧ (s.chan c).state = 1 ∧ (s.chan c).fetching = some w ∧ (s.chan c).work = []) ∧
    (∃ (s : State) (c : Nat) (a : _) (d : _), s.region c (dSrc d) (dLen d) false false = some .memory ∧ s.region c (dDst d) (dLen d) true false = some .memory ∧ dSrc d + dLen d ≤ hbmEnd ∧ s.railsOn ∧ c < 64 ∧ (s.chan c).work = [(a, d)] ∧ (s.chan c).park = none ∧ s.memoryOk ∧ jobOf c = none ∧ dInterrupt d = false ∧ dSrcFixed d = false ∧ dDstFixed d = false ∧ 0 < dLen d) ∧
    (∃ (s : State) (c : Nat) (a : _) (d : _) (n : _) (o : _), s.region c (dSrc d) (dLen d) false false = some .memory ∧ s.railsOn ∧ c < 64 ∧ (s.chan c).work = [(a, d)] ∧ (s.chan c).park = none ∧ s.region c (dDst d) (dLen d) true false = some (.slot n o) ∧ dSrcFixed d = false ∧ dDstFixed d = false ∧ 0 < dLen d) ∧
    (∃ (s : State) (c : Nat) (a : _) (d : _) (p : _) (i : _) (o : _), s.region c (dSrc d) (dLen d) false false = some .memory ∧ s.railsOn ∧ c < 64 ∧ (s.chan c).work = [(a, d)] ∧ (s.chan c).park = none ∧ s.region c (dDst d) (dLen d) true false = some (.near p i o) ∧ dSrcFixed d = false ∧ dDstFixed d = false ∧ 0 < dLen d) ∧
    (∃ (s : State) (c : Nat) (a : _) (d : _) (rest : List (Nat × BitVec 256)) (x : _), s.railsOn ∧ c < 64 ∧ (s.chan c).work = (a, d) :: rest ∧ s.badAddress c d = some x) ∧
    (∃ (s : State) (c : Nat) (addr : _), s.railsOn ∧ c < 64 ∧ addr < 2 ^ 48 ∧ (s.chan c).work ≠ []) ∧
    (∃ (s : State) (t : Nat) (c : Nat) (w : _), s.railsOn ∧ c < 64 ∧ (s.chan c).fetching = some w ∧ w + (s.chan c).fetchTimeout * 1000 ≤ max s.now t ∧ (s.chan c).work = []) :=
  ⟨⟨w0, 3, by decide +kernel⟩,
   ⟨w0.setChan 11 { state := 5 }, 11, by decide +kernel⟩,
   ⟨w0.setChan 3 { state := 1, hops := 4 }, 3, by decide +kernel⟩,
   ⟨w0.setChan 3 { state := 2, hops := 4 }, 3, by decide +kernel⟩,
   ⟨w0.setChan 3 { state := 5, hops := 4 }, 3, by decide +kernel⟩,
   ⟨w0.setChan 3 { state := 1, hops := 4, fetching := some 3 }, 3, by decide +kernel⟩,
   ⟨w0.setChan 3 { state := 5, hops := 4, code := 8 }, 3, by decide +kernel⟩,
   ⟨w0.setChan 0 { state := 1, fetching := some 0, cur := 4096, e := true }, 0, wDesc 0 0 0 0 0, 0, mayFetch_low (by decide +kernel), by decide +kernel⟩,
   ⟨w0.setChan 0 { state := 1, fetching := some 0, cur := 4096, e := true }, 0, 0, mayFetch_low (by decide +kernel), by decide +kernel⟩,
   ⟨{ w0.setChan 0 { state := 1, work := [(64, (wDesc 0 8192 4096 4 2))] } with hbm := Memory.writeN [] 4096 0x04030201 4 }, 0, 64, wDesc 0 8192 4096 4 2, region_low (by decide +kernel), region_low (by decide +kernel), le_hbmEnd (by decide +kernel), by decide +kernel⟩,
   ⟨w0.setChan 3 { state := 1, work := [(64, (wDesc 0 0x100300001000 4096 64 0))] }, 3, 64, wDesc 0 0x100300001000 4096 64 0, 3, 4096, region_low (by decide +kernel), by decide +kernel⟩,
   ⟨(w0.setNport 0 { entries := [(5, { region := 2, func := 9, uses := 1 })] }).setChan 3 { state := 1, work := [(64, (wDesc 0 (0x800000000000 + 5 * 2 ^ 34) 4096 64 0))] }, 3, 64, wDesc 0 (0x800000000000 + 5 * 2 ^ 34) 4096 64 0, 0, 5, 2 * 2 ^ 34, region_low (by decide +kernel), by decide +kernel⟩,
   ⟨w0.setChan 3 { state := 1, work := [(64, (wDesc 0 8192 0xC000000000 64 0))] }, 3, 64, wDesc 0 8192 0xC000000000 64 0, ([] : List (Nat × BitVec 256)), 0xC000000000, by decide +kernel⟩,
   ⟨w0.setChan 0 { state := 1, work := [(64, (wDesc 0 8192 4096 4 2))] }, 0, 8192, by decide +kernel⟩,
   ⟨w0.setChan 0 { state := 1, fetching := some 0, cur := 4096 }, 5000000000000, 0, 0, by decide +kernel⟩⟩

theorem witness_CopyJobActs :
    (∃ (s : State) (t : Nat) (sess : _), s.railsOn ∧ (s.at t).mayCommit sess 0x5340 copyJobCode = true ∧ (s.staged sess 0x5340).row < 16 ∧ (s.staged sess 0x5340).n 0xA = 1 ∧ (s.staged sess 0x5340).n 0xB = 0 ∧ (s.staged sess 0x5340).n 0xC = 0 ∧ (s.staged sess 0x5340).n 0xD = 0) ∧
    (∃ (s : State) (t : Nat) (sess : _), s.railsOn ∧ (s.at t).mayCommit sess 0x5340 copyJobCode = true ∧ (s.staged sess 0x5340).n 0xA = 0 ∧ (s.staged sess 0x5340).n 0xB = 1 ∧ (s.staged sess 0x5340).n 0xC = 0 ∧ (s.staged sess 0x5340).n 0xD = 0 ∧ (s.chan (jobChan (s.staged sess 0x5340).row)).state = 1) ∧
    (∃ (s : State) (t : Nat) (sess : _), s.railsOn ∧ (s.at t).mayCommit sess 0x5340 copyJobCode = true ∧ (s.staged sess 0x5340).n 0xA = 0 ∧ (s.staged sess 0x5340).n 0xB = 0 ∧ (s.staged sess 0x5340).n 0xC = 1 ∧ (s.staged sess 0x5340).n 0xD = 0) ∧
    (∃ (s : State) (t : Nat) (sess : _), s.railsOn ∧ (s.at t).mayCommit sess 0x5340 copyJobCode = true ∧ (s.staged sess 0x5340).n 0xA = 0 ∧ (s.staged sess 0x5340).n 0xB = 0 ∧ (s.staged sess 0x5340).n 0xC = 0 ∧ (s.staged sess 0x5340).n 0xD = 1 ∧ (s.chan (jobChan (s.staged sess 0x5340).row)).state = 4) :=
  ⟨⟨stg w0 0x5340 15 [(2, .nat 1), (7, .nat 64), (8, .nat 1), (0xA, .nat 1)], 5000000000000, 16, by decide +kernel⟩,
   ⟨stg (w0.setChan 63 { state := 1 }) 0x5340 15 [(0xB, .nat 1)], 5000000000000, 16, by decide +kernel⟩,
   ⟨stg (w0.setChan 63 { state := 1 }) 0x5340 15 [(0xC, .nat 1)], 5000000000000, 16, by decide +kernel⟩,
   ⟨stg (w0.setChan 63 { state := 4, code := 3 }) 0x5340 15 [(0xD, .nat 1)], 5000000000000, 16, by decide +kernel⟩⟩

theorem witness_TwinRecordActs :
    (∃ (s : State) (r : TwinRec), s.railsOn ∧ s.linkIn .heartbeat r) ∧
    (∃ (s : State) (r : TwinRec), s.railsOn ∧ s.twin.linked = true ∧ r.typ = .acknowledge ∧ s.twin.sendWait = [] ∧ s.waitingQps = []) ∧
    (∃ (s : State) (r : TwinRec), s.railsOn ∧ s.linkIn .heartbeat r ∧ r.payload = .none ∧ r.epoch = s.ob 0x2402 6 ∧ r.seq = s.twin.expected ∧ s.twin.early = []) ∧
    (∃ (s : State) (r : TwinRec), s.railsOn ∧ r.typ ≠ .hello ∧ s.twin.linked = true ∧ r.epoch = s.ob 0x2402 6 ∧ recBehind r.seq s.twin.expected = true) ∧
    (∃ (s : State) (r : TwinRec), s.railsOn ∧ r.typ ≠ .hello ∧ s.twin.linked = true ∧ r.epoch = s.ob 0x2402 6 ∧ recBehind r.seq s.twin.expected = false) ∧
    (∃ (s : State), s.railsOn) ∧
    (∃ (s : State) (r : TwinRec) (h : Hello), s.railsOn ∧ r.typ = .hello ∧ r.payload = .hello h ∧ s.twin.twinMode = true ∧ s.twinPhase = 1 ∧ s.silent = false ∧ h.serving = false ∧ h.configGen < s.twin.configGen ∧ s.arrays = [] ∧ s.twin.take = none ∧ ((∀ n, n < 24 → (s.slotS n).waitsTwin = false))) ∧
    (∃ (s : State) (r : TwinRec) (es : List IntentEntry) (pages : List MirrorPage), s.railsOn ∧ s.linkIn .mirrorData r ∧ r.payload = .mirror es pages ∧ s.paired = true ∧ s.pwr.lull = false ∧ es.any (fun e => s.twin.closed.contains e.array) = false ∧ r.ctx % 2 ^ 48 + 4096 * pages.length ≤ s.ob 0x2403 2) ∧
    (∃ (s : State) (r : TwinRec), s.railsOn ∧ s.linkIn .mirrorConfirm r ∧ s.paired = true ∧ s.mirrorCmd r.ref = none) ∧
    (∃ (s : State) (r : TwinRec) (rs : List (Nat × Nat)), s.railsOn ∧ s.linkIn .mirrorRelease r ∧ r.payload = .ranges rs ∧ s.paired = true) ∧
    (∃ (s : State) (r : TwinRec), s.railsOn ∧ s.linkIn .reject r ∧ s.paired = true ∧ s.mirrorCmd r.ref = none) ∧
    (∃ (s : State) (r : TwinRec) (row : _) (v : _), s.railsOn ∧ s.linkIn .settings r ∧ r.payload = .settings 0x2450 row [(2, v)] ∧ s.paired = true ∧ s.twin.adopting = false ∧ row < 4096 ∧ s.settingsCode 0x2450 row [(2, v)] = 0) ∧
    (∃ (s : State) (r : TwinRec) (h : HeldCommit), s.railsOn ∧ s.linkIn .settingsResult r ∧ (s.twin.held.find? fun x => decide (x.seq = r.ref)) = some h ∧ h.object = none ∧ h.win = 0x2450 ∧ r.ctx = 0 ∧ h.stage.row < 4096 ∧ 4 ≤ h.sess) ∧
    (∃ (s : State) (r : TwinRec) (p : RocePkt) (c : Capsule), s.railsOn ∧ s.linkIn .capsule r ∧ r.payload = .packet p ∧ s.paired = true ∧ p.capsule = some c ∧ RoceOp.closes p.op = true) ∧
    (∃ (s : State) (r : TwinRec) (q : QpStateRec), s.railsOn ∧ s.linkIn .qpState r ∧ r.payload = .qpState q ∧ s.paired = true ∧ q.final = false) ∧
    (∃ (s : State) (r : TwinRec) (p : TxPkt) (b : Standby), s.railsOn ∧ s.linkIn .twinPacket r ∧ r.payload = .twinPacket p ∧ s.paired = true ∧ Tbl.find? s.twin.standby r.ctx = some b ∧ s.portUp b.rec_.port = true) ∧
    (∃ (s : State) (r : TwinRec), s.railsOn ∧ s.linkIn .yield r ∧ s.paired = true ∧ s.takesAlone ∧ s.twin.yieldIn = false ∧ s.ob 0x2400 6 ≠ 1) ∧
    (∃ (s : State) (r : TwinRec), s.railsOn ∧ s.linkIn .takeoverComplete r ∧ s.twinPhase = 4) ∧
    (∃ (s : State) (r : TwinRec), s.railsOn ∧ s.linkIn .ownershipTransfer r ∧ s.paired = true ∧ r.ctx < 4 ∧ s.arrOn r.ctx = true ∧ s.owns r.ctx = false ∧ s.silent = false ∧ s.nvme.ctrls = []) ∧
    (∃ (s : State) (r : TwinRec) (h : Health), s.railsOn ∧ s.linkIn .healthReport r ∧ r.payload = .health h ∧ ((∀ e ∈ s.rdma.qps, e.2.twin = false))) ∧
    (∃ (s : State) (r : TwinRec) (kind : _), s.railsOn ∧ s.linkIn .driveRequest r ∧ r.payload = .code kind ∧ kind = 1) ∧
    (∃ (s : State) (r : TwinRec) (n : _) (k : _), s.railsOn ∧ s.linkIn .driveReply r ∧ r.payload = .code k ∧ k ≠ 0 ∧ ((List.range 24).find? fun n => decide ((s.slotS n).askPeer = some r.ref)) = some n ∧ (s.slotS n).askKind = 1) ∧
    (∃ (s : State) (r : TwinRec) (n : _), s.railsOn ∧ s.linkIn .driveReply r ∧ r.payload = .code 0 ∧ ((List.range 24).find? fun n => decide ((s.slotS n).askPeer = some r.ref)) = some n ∧ (s.slotS n).askKind ≠ 1 ∧ s.slotCmds n = []) ∧
    (∃ (s : State) (r : TwinRec) (k : _), s.railsOn ∧ s.linkIn .key r ∧ r.payload = .key (some k) ∧ s.paired = true ∧ (s.ns r.ctx).erasing = false) ∧
    (∃ (s : State) (r : TwinRec), s.railsOn ∧ s.linkIn .key r ∧ r.payload = .key none ∧ s.paired = true) ∧
    (∃ (s : State) (r : TwinRec), s.railsOn ∧ s.linkIn .keyReply r ∧ r.payload = .code 0 ∧ (s.ns r.ctx).keyAsked = some r.ref) :=
  ⟨⟨wPair, ({ typ := .heartbeat } : TwinRec), by decide +kernel⟩,
   ⟨wTw wPair fun y => { y with nextSeq := 3, unacked := [{ rec_ := { seq := 1 }, at_ := 0, groups := 1, first := 0 }, { rec_ := { seq := 2 }, at_ := 0, groups := 1, first := 0 }] }, ({ typ := .acknowledge, ack := 2 } : TwinRec), by decide +kernel⟩,
   ⟨wPair, ({ typ := .heartbeat } : TwinRec), by decide +kernel⟩,
   ⟨wTw wPair fun x => { x with expected := 5 }, ({ typ := .heartbeat, seq := 4 } : TwinRec), by decide +kernel⟩,
   ⟨wPair, ({ typ := .heartbeat } : TwinRec), by decide +kernel⟩,
   ⟨wPair, by decide +kernel⟩,
   ⟨((wTw w0 fun y => { y with twinMode := true, configGen := 4 }).put 0x2400 0 4 1).put 0x2402 0 6 65535, ({ typ := .hello, payload := .hello (({ configGen := 3, serial := "B" } : Hello)) } : TwinRec), ({ configGen := 3, serial := "B" } : Hello), by decide +kernel⟩,
   ⟨wPair.put 0x2403 0 2 67108864, ({ typ := .mirrorData, ctx := 67108864, payload := .mirror (([] : List IntentEntry)) (([] : List MirrorPage)) } : TwinRec), ([] : List IntentEntry), ([] : List MirrorPage), by decide +kernel⟩,
   ⟨(wTw wPair fun y => { y with joining := [4] }).put 0x2400 0 4 5, ({ typ := .mirrorConfirm, ref := 4 } : TwinRec), by decide +kernel⟩,
   ⟨wTw wPair fun y => { y with mirror := [⟨0, [(({ seq := 1, array := 1, row := 0, nsRow := 0 } : IntentEntry)), (({ seq := 2, array := 1, row := 1, nsRow := 0 } : IntentEntry))], []⟩] }, ({ typ := .mirrorRelease, ctx := 1, payload := .ranges (([(1, 1)] : List (Nat × Nat))) } : TwinRec), ([(1, 1)] : List (Nat × Nat)), by decide +kernel⟩,
   ⟨wPair, ({ typ := .reject } : TwinRec), by decide +kernel⟩,
   ⟨wPair, ({ typ := .settings, payload := .settings 0x2450 4095 [(2, ((Val.nat 1)))] } : TwinRec), 4095, (Val.nat 1), by decide +kernel⟩,
   ⟨wTw wPair fun y => { y with held := [(({ sess := 16, win := 0x2450, stage := { row := 5, fields := [(2, .nat 1)] }, object := none, seq := 5, since := 0 } : HeldCommit))] }, ({ typ := .settingsResult, ref := 5 } : TwinRec), ({ sess := 16, win := 0x2450, stage := { row := 5, fields := [(2, .nat 1)] }, object := none, seq := 5, since := 0 } : HeldCommit), by decide +kernel⟩,
   ⟨wPair, ({ typ := .capsule, ctx := 5, payload := .packet (({ op := .sendOnly, capsule := some (({ cid := 4 } : Capsule)) } : RocePkt)) } : TwinRec), ({ op := .sendOnly, capsule := some (({ cid := 4 } : Capsule)) } : RocePkt), ({ cid := 4 } : Capsule), by decide +kernel⟩,
   ⟨wPair, ({ typ := .qpState, ctx := 5, payload := .qpState (({ tenant := 3 } : QpStateRec)) } : TwinRec), ({ tenant := 3 } : QpStateRec), by decide +kernel⟩,
   ⟨wUp (wTw wPair fun y => { y with standby := [(5, (({ rec_ := {} } : Standby)))] }) 0, ({ typ := .twinPacket, ctx := 5, payload := .twinPacket (({ op := .sendOnly } : TxPkt)) } : TwinRec), ({ op := .sendOnly } : TxPkt), ({ rec_ := {} } : Standby), by decide +kernel⟩,
   ⟨wPair, ({ typ := .yield } : TwinRec), by decide +kernel⟩,
   ⟨wPair.put 0x2400 0 4 4, ({ typ := .takeoverComplete } : TwinRec), by decide +kernel⟩,
   ⟨(wPair.put 0x5000 3 2 1).put 0x2410 3 3 1, ({ typ := .ownershipTransfer, ctx := 3 } : TwinRec), by decide +kernel⟩,
   ⟨wPair, ({ typ := .healthReport, payload := .health (({ time := 5, verdict := 1, items := 3, reachable := 9, ceiling := 77 } : Health)) } : TwinRec), ({ time := 5, verdict := 1, items := 3, reachable := 9, ceiling := 77 } : Health), by decide +kernel⟩,
   ⟨wPair, ({ typ := .driveRequest, ctx := 2, payload := .code 1 } : TwinRec), 1, by decide +kernel⟩,
   ⟨(wPair.setSlot 5 { askPeer := some 9, askKind := 1 }), ({ typ := .driveReply, ref := 9, payload := .code 1 } : TwinRec), 5, 1, by decide +kernel⟩,
   ⟨(wPair.setSlot 5 { askPeer := some 9, askKind := 2 }), ({ typ := .driveReply, ref := 9, payload := .code 0 } : TwinRec), 5, by decide +kernel⟩,
   ⟨{ wPair with nvme := { wPair.nvme with keks := [(0, 5)] } }, ({ typ := .key, ctx := 7, payload := .key (some 6) } : TwinRec), 6, by decide +kernel⟩,
   ⟨{ wPair with nvme := { wPair.nvme with keks := [(0, 5)] } }, ({ typ := .key, ctx := 7, payload := .key none } : TwinRec), by decide +kernel⟩,
   ⟨wPair.setNs 7 { wPair.ns 7 with keyAsked := some 4, keyDone := false }, ({ typ := .keyReply, ctx := 7, ref := 4, payload := .code 0 } : TwinRec), by decide +kernel⟩⟩

theorem witness_TwinTimerActs :
    (∃ (s : State) (t : Nat) (g : Nat), s.railsOn ∧ g < 2 ∧ s.twin.twinMode = true ∧ (s.twinPhase = 1 ∨ s.twinPhase = 3) ∧ s.silent = false ∧ (s.at t).since s.twin.lastHello msNs = true) ∧
    (∃ (s : State) (t : Nat) (g : Nat) (w : _), s.railsOn ∧ g < 2 ∧ s.twin.linked = true ∧ s.twin.unacked = [] ∧ s.twin.sendWait = [] ∧ s.twin.lastSent = some w ∧ w + 2000 ≤ max s.now t) ∧
    (∃ (s : State) (t : Nat) (g : Nat) (w : _), s.railsOn ∧ g < 2 ∧ s.twin.linked = true ∧ s.twin.unacked = [] ∧ s.twin.sendWait = [] ∧ s.twin.lastBeat = some w ∧ w + 50000 ≤ max s.now t) ∧
    (∃ (s : State) (t : Nat) (g : Nat) (x : SentRec), s.railsOn ∧ g < 2 ∧ (s.twin.unacked.find? fun u => decide (u.rec_.seq = x.rec_.seq)) = some x ∧ s.twin.linked = true ∧ x.at_ + s.ob 0x2402 3 * 1000 ≤ max s.now t) ∧
    (∃ (s : State) (t : Nat) (g : Nat) (h : HeldCommit), s.railsOn ∧ g < 2 ∧ h ∈ s.twin.held ∧ h.since + 100 * msNs ≤ max s.now t ∧ 4 ≤ h.sess) ∧
    (∃ (s : State) (g : Nat), s.railsOn ∧ g < 2 ∧ s.twin.twinMode = true ∧ s.o 0x2420 g 2 = 2) ∧
    (∃ (s : State) (t : Nat) (g : Nat) (w : _), s.railsOn ∧ g < 2 ∧ Tbl.find? s.twin.outOf g = some w ∧ w + 10 * sNs ≤ max s.now t) ∧
    (∃ (s : State) (g : Nat), s.railsOn ∧ g < 2 ∧ s.twin.twinMode = true ∧ s.o 0x2420 g 2 < 2) ∧
    (∃ (s : State) (t : Nat) (g : Nat) (otherDown : _), s.railsOn ∧ g < 2 ∧ otherDown ≤ 24 ∧ s.twin.twinMode = true ∧ s.twinPhase = 1 ∧ s.silent = false ∧ s.twin.settleFrom + s.ob 0x2401 1 * sNs ≤ max s.now t ∧ s.twin.yieldIn = true ∧ ((List.range 24).filter fun n => (s.slotS n).prsnt).length < 2 * otherDown ∧ s.arrays = [] ∧ s.waitingQps = [] ∧ ((∀ n, n < 24 → (s.slotS n).waitsTwin = false))) ∧
    (∃ (s : State) (t : Nat) (g : Nat), s.railsOn ∧ g < 2 ∧ s.paired = true ∧ s.twin.linkLost = false ∧ (s.at t).linkGone = true ∧ s.twin.yieldIn = true ∧ s.ob 0x2400 6 ≠ 1 ∧ s.takesAlone) ∧
    (∃ (s : State) (t : Nat) (g : Nat), s.railsOn ∧ g < 2 ∧ s.paired = true ∧ s.twin.linkLost = false ∧ (s.at t).linkGone = true ∧ s.ob 0x2400 6 = 1 ∧ s.ob 0x2400 2 ≠ 2) ∧
    (∃ (s : State) (t : Nat) (g : Nat) (w : _), s.railsOn ∧ g < 2 ∧ s.twin.lostAt = some w ∧ w + 10 * msNs ≤ max s.now t ∧ s.paired = true ∧ s.twin.linkLost = true ∧ s.ob 0x2400 6 = 1 ∧ s.ob 0x2400 2 = 1 ∧ s.arrays = [] ∧ s.waitingQps = [] ∧ s.nvme.cmds = [] ∧ ((∀ n, n < 24 → (s.slotS n).waitsTwin = false))) ∧
    (∃ (s : State) (t : Nat) (g : Nat) (sess : Nat), s.railsOn ∧ g < 2 ∧ (s.at t).mayCommit sess 0x2410 (shelfCode 0x2410) = true ∧ s.paired = false) ∧
    (∃ (s : State) (t : Nat) (g : Nat) (sess : Nat), s.railsOn ∧ g < 2 ∧ (s.at t).mayCommit sess 0x2412 (shelfCode 0x2412) = true ∧ s.paired = false) ∧
    (∃ (s : State) (t : Nat) (g : Nat) (sess : Nat), s.railsOn ∧ g < 2 ∧ (s.at t).mayCommit sess 0x2450 (shelfCode 0x2450) = true ∧ s.paired = false) ∧
    (∃ (s : State) (t : Nat) (g : Nat) (w : _) (a : _), s.railsOn ∧ g < 2 ∧ s.twin.fitSince = some w ∧ s.paired = true ∧ s.twinPhase = 2 ∧ s.ob 0x2401 5 = 1 ∧ (s.at t).peerFit = true ∧ w + s.ob 0x2401 6 * sNs ≤ max s.now t ∧ a < 4 ∧ s.arrOn a = true ∧ s.owns a = true ∧ s.o 0x2410 a 2 = 1 - s.ownIndex ∧ s.o 0x2410 a 4 = 0 ∧ s.nvme.cmds = [] ∧ s.nvme.ctrls = [] ∧ s.ifRows = []) ∧
    (∃ (s : State) (g : Nat) (n : _), s.railsOn ∧ g < 2 ∧ n < 24 ∧ (s.peerArray n).isSome = true) ∧
    (∃ (s : State) (g : Nat) (n : _), s.railsOn ∧ g < 2 ∧ n < 24 ∧ (s.peerArray n).isSome = true) ∧
    (∃ (s : State) (g : Nat) (a : _), s.railsOn ∧ g < 2 ∧ a < 4 ∧ s.arrOn a = true ∧ s.paired = true ∧ s.owns a = false ∧ s.twin.mirror = []) ∧
    (∃ (s : State) (g : Nat), s.railsOn ∧ g < 2 ∧ s.twin.twinMode = true ∧ s.twin.lastReport = none ∧ s.twin.linked = true ∧ s.twin.unacked = [] ∧ s.twin.sendWait = []) ∧
    (∃ (s : State) (g : Nat), s.railsOn ∧ g < 2 ∧ s.twin.volts = [] ∧ s.ob 0x2000 0 = 1) :=
  ⟨⟨({ w0 with twin := { w0.twin with twinMode := true } }).put 0x2400 0 4 1, 5000000000000, 0, by decide +kernel⟩,
   ⟨wTw wPair fun x => { x with lastSent := some 0 }, 5000000000000, 0, 0, by decide +kernel⟩,
   ⟨wTw wPair fun x => { x with lastBeat := some 0 }, 5000000000000, 0, 0, by decide +kernel⟩,
   ⟨wTw wPair fun y => { y with unacked := [(({ rec_ := { typ := .yield, seq := 7 }, at_ := 4, groups := 3, first := 2 } : SentRec))] }, 5000000000000, 0, ({ rec_ := { typ := .yield, seq := 7 }, at_ := 4, groups := 3, first := 2 } : SentRec), by decide +kernel⟩,
   ⟨wTw wPair fun y => { y with held := [(({ sess := 16, win := 0x2450, stage := {}, object := none, seq := 5, since := 0 } : HeldCommit))] }, 5000000000000, 0, ({ sess := 16, win := 0x2450, stage := {}, object := none, seq := 5, since := 0 } : HeldCommit), by decide +kernel⟩,
   ⟨wPair.put 0x2420 1 2 2, 1, by decide +kernel⟩,
   ⟨wTw (wPair.put 0x2420 1 2 3) fun y => { y with outOf := [(1, 0)] }, 5000000000000, 1, 0, by decide +kernel⟩,
   ⟨wPair.put 0x2420 0 2 1, 0, by decide +kernel⟩,
   ⟨(wTw wPair fun y => { y with yieldIn := true }).put 0x2400 0 4 1, 5000000000000, 0, 1, by decide +kernel⟩,
   ⟨(wTw wPair fun y => { y with yieldIn := true, lastDelivered := none }), 5000000000000, 0, by decide +kernel⟩,
   ⟨(wTw wPair fun y => { y with lastDelivered := none }).put 0x2400 0 6 1, 5000000000000, 0, by decide +kernel⟩,
   ⟨(wTw wPair fun y => { y with linkLost := true, lostAt := some 0 }).put 0x2400 0 6 1, 5000000000000, 0, 0, by decide +kernel⟩,
   ⟨stg w0 0x2410 1 [(2, .nat 1)], 5000000000000, 0, 16, by decide +kernel⟩,
   ⟨stg w0 0x2412 400 [(2, .nat 1)], 5000000000000, 0, 16, by decide +kernel⟩,
   ⟨stg w0 0x2450 4095 [(2, .nat 1)], 5000000000000, 0, 16, by decide +kernel⟩,
   ⟨((((wTw wPair fun y => { y with fitSince := some 0, health := some (5000000000000, { fit := true }) }).put 0x2401 0 5 1).put 0x5000 1 2 1).put 0x2410 1 2 1).put 0x2410 1 3 0, 5000000000000, 0, 0, 1, by decide +kernel⟩,
   ⟨(wArr wPair 0 [4, 5, 6, 23]).put 0x2410 0 3 1, 0, 23, by decide +kernel⟩,
   ⟨(wArr wPair 0 [4, 5, 6, 23]).put 0x2410 0 3 1, 0, 23, by decide +kernel⟩,
   ⟨(wPair.put 0x5000 1 2 1).put 0x2410 1 3 1, 0, 1, by decide +kernel⟩,
   ⟨wPair.put 0x2404 0 2 4, 0, by decide +kernel⟩,
   ⟨w0, 0, by decide +kernel⟩⟩

theorem witness_YieldActs :
    (∃ (s : State) (enginesOut : _), s.railsOn ∧ enginesOut ≤ 32 ∧ s.silent = false ∧ s.twin.twinMode = false ∧ s.arrays = []) ∧
    (∃ (s : State) (t : Nat) (w : _), s.railsOn ∧ s.twin.recheck = some w ∧ w + msNs ≤ max s.now t ∧ s.silent = false ∧ s.paired = true ∧ (s.at t).peerFit = true ∧ s.ob 0x2404 2 ≠ 0) ∧
    (∃ (s : State) (t : Nat), s.railsOn ∧ s.twin.yieldIn = false ∧ s.paired = true ∧ s.takesAlone ∧ s.ob 0x2400 6 ≠ 1 ∧ s.twin.linkLost = false ∧ (within (max s.now t) sNs s.twin.lineChanges).length < 4) ∧
    (∃ (s : State) (t : Nat), s.railsOn ∧ s.twin.yieldIn = true ∧ (within (max s.now t) sNs s.twin.lineChanges).length < 4) ∧
    (∃ (s : State) (t : Nat) (k : Takeover) (r : _), s.railsOn ∧ s.twin.take = some k ∧ k.announced = 1 ∧ k.t0 + 100 * msNs ≤ max s.now t ∧ s.silent = false ∧ s.ifRows = [r] ∧ s.o 0x2412 r 2 ≠ s.ownIndex ∧ s.lineBusy (s.o 0x3040 r 3)) ∧
    (∃ (s : State) (t : Nat) (sess : Nat), s.railsOn ∧ (s.at t).mayWrite sess 0x2400 7 (.nat 1) = true) ∧
    (∃ (s : State) (t : Nat) (sess : Nat), s.railsOn ∧ (s.at t).mayWrite sess 0x2404 8 (.nat 1) = true ∧ s.silent = false ∧ s.twin.twinMode = true) ∧
    (∃ (s : State) (t : Nat) (sess : Nat), s.railsOn ∧ (s.at t).mayWrite sess 0x2404 9 (.nat 1) = true ∧ s.twin.linkLost = true ∧ s.ob 0x2400 6 = 1 ∧ s.takesAlone) ∧
    (∃ (s : State), s.railsOn ∧ s.twin.twinMode = true) ∧
    (∃ (s : State), s.railsOn ∧ s.twin.twinMode = false ∧ s.twin.stopped = true) ∧
    (∃ (s : State), s.railsOn ∧ s.twin.twinMode = true) ∧
    (∃ (s : State), s.railsOn ∧ s.twin.twinMode = false ∧ s.twin.stopped = true) ∧
    (∃ (s : State) (t : Nat) (w : _), s.railsOn ∧ s.twin.takerDone = some w ∧ s.twinPhase = 4 ∧ s.ob 0x2401 2 = 1 ∧ w + s.ob 0x2401 3 * sNs ≤ max s.now t ∧ (within (max s.now t) (3600 * sNs) s.twin.yieldTimes).length < s.ob 0x2401 4) ∧
    (∃ (s : State), s.railsOn) :=
  ⟨⟨wTw w0 fun y => { y with opYield := true }, 9, by decide +kernel⟩,
   ⟨(wTw wPair fun y => { y with recheck := some 0, health := some (5000000000000, { fit := true }) }).put 0x2404 0 2 4, 5000000000000, 0, by decide +kernel⟩,
   ⟨wPair, 5000000000000, by decide +kernel⟩,
   ⟨wTw wPair fun y => { y with yieldIn := true }, 5000000000000, by decide +kernel⟩,
   ⟨(wUp ((((wTw wPair fun y => { y with take := some (({ t0 := 0, ptp0 := 0, trigger := 1, left := [], taken := [] } : Takeover)) }).put 0x3040 3 2 1).put 0x3040 3 5 7).put 0x2412 3 2 1) 0).setEg 0 { onLine := some wFrame }, 5000000000000, ({ t0 := 0, ptp0 := 0, trigger := 1, left := [], taken := [] } : Takeover), 3, by decide +kernel⟩,
   ⟨(wTw wPair fun y => { y with lineChanges := [5], yieldRec := some 3 }).put 0x2400 0 6 1, 5000000000000, 16, by decide +kernel⟩,
   ⟨wPair, 5000000000000, 16, by decide +kernel⟩,
   ⟨(wTw wPair fun y => { y with linkLost := true }).put 0x2400 0 6 1, 5000000000000, 16, by decide +kernel⟩,
   ⟨wPair, by decide +kernel⟩,
   ⟨wTw w0 fun y => { y with stopped := true }, by decide +kernel⟩,
   ⟨wPair, by decide +kernel⟩,
   ⟨wTw w0 fun y => { y with stopped := true }, by decide +kernel⟩,
   ⟨((wTw wPair fun y => { y with takerDone := some 0 }).put 0x2400 0 4 4).put 0x2401 0 2 1, 5000000000000, 0, by decide +kernel⟩,
   ⟨wPair, by decide +kernel⟩⟩

theorem witness_InputPowerActs :
    (∃ (s : State) (mv : _), s.pwr.gate = false ∧ s.pwr.latched = false ∧ s.pwr.lockout = false ∧ s.pwr.retryAt = none ∧ s.pwr.storm = false ∧ s.pwr.sagAt = none ∧ s.startMv < mv) ∧
    (∃ (s : State) (t : Nat) (mv : _) (w : _), s.pwr.gate = false ∧ s.pwr.latched = true ∧ s.pwr.lockout = false ∧ s.pwr.retryAt = none ∧ s.pwr.storm = false ∧ s.pwr.sagAt = some w ∧ w + sNs ≤ max s.now t ∧ s.startMv < mv) ∧
    (∃ (s : State) (t : Nat) (w : _), s.pwr.latched = true ∧ s.pwr.sagAt = some w ∧ max s.now t < w + sNs) ∧
    (∃ (s : State) (mv : _), s.startMv ≥ mv ∧ s.pwr.sagAt = none) ∧
    (∃ (s : State) (t : Nat), s.pwr.gate = true ∧ s.pwr.good = false ∧ s.pwr.gateAt + msNs ≤ max s.now t) ∧
    (∃ (s : State) (t : Nat), s.pwr.gate = true ∧ s.pwr.good = false ∧ s.pwr.gateAt + s.ob 0x2200 5 * msNs ≤ max s.now t ∧ (within (max s.now t) (60 * sNs) s.pwr.faults).length < s.ob 0x2200 7) ∧
    (∃ (s : State) (t : Nat), s.pwr.gate = true ∧ s.pwr.good = false ∧ s.pwr.gateAt + msNs ≤ max s.now t ∧ (within (max s.now t) (60 * sNs) s.pwr.faults).length ≥ s.ob 0x2200 7) ∧
    (∃ (s : State), s.pwr.gate = true ∧ s.pwr.good = false) ∧
    (∃ (s : State), s.pwr.lockout = false ∧ s.pwr.gate = true ∧ s.pwr.good = false) ∧
    (∃ (s : State), s.pwr.lockout = false ∧ s.pwr.gate = false) ∧
    (∃ (s : State), s.pwr.gate = true) ∧
    (∃ (s : State), s.pwr.gate = false ∧ s.pwr.latched = true) ∧
    (∃ (s : State) (t : Nat) (w : _), s.pwr.retryAt = some w ∧ w ≤ max s.now t ∧ s.pwr.latched = false ∧ s.pwr.lockout = false) ∧
    (∃ (s : State), s.pwr.storm = false ∧ s.pwr.off = true ∧ s.pwr.good = true) ∧
    (∃ (s : State), s.pwr.storm = false ∧ s.pwr.off = false ∧ s.land.hot = true) ∧
    (∃ (s : State), s.pwr.storm = false ∧ s.pwr.off = false ∧ s.land.hot = false) ∧
    (∃ (s : State) (k : _), s.pwr.off = false ∧ s.pwr.storm = true ∧ s.pwr.copyTo = some k) ∧
    (∃ (s : State) (k : _), s.pwr.off = false ∧ s.pwr.storm = true ∧ s.pwr.copyTo = some k) ∧
    (∃ (s : State) (k : _), s.pwr.off = false ∧ s.pwr.storm = true ∧ s.pwr.copyTo = some k) ∧
    (∃ (s : State), s.pwr.storm = true ∧ s.pwr.off = true ∧ s.pwr.gate = true) ∧
    (∃ (s : State), s.pwr.storm = true ∧ s.pwr.off = true ∧ s.pwr.gate = false ∧ s.pwr.latched = false ∧ s.pwr.lockout = false ∧ s.pwr.retryAt = none) :=
  ⟨⟨wPw w0 fun x => { x with off := true, gate := false, good := false }, 35001, by decide +kernel⟩,
   ⟨wPw w0 fun x => { x with off := true, gate := false, good := false, latched := true, faults := [4], sagAt := some 5 }, 5000000000000, 35001, 5, by decide +kernel⟩,
   ⟨wPw w0 fun x => { x with off := true, gate := false, good := false, latched := true, faults := [4], sagAt := some 4999999999999 }, 5000000000000, 4999999999999, by decide +kernel⟩,
   ⟨wPw w0 fun x => { x with off := true, gate := false, good := false }, 30000, by decide +kernel⟩,
   ⟨wPw w0 fun x => { x with off := true, gate := true, good := false, gateAt := 4999999000000 }, 5000000000000, by decide +kernel⟩,
   ⟨wPw w0 fun x => { x with off := true, gate := true, good := false, gateAt := 0, faults := [4990000000000] }, 5000000000000, by decide +kernel⟩,
   ⟨wPw w0 fun x => { x with off := true, gate := true, good := false, gateAt := 0, faults := [4990000000000, 4980000000000, 4970000000000, 30] }, 5000000000000, by decide +kernel⟩,
   ⟨wPw w0 fun x => { x with off := true, gate := true, good := false, gateAt := 0 }, by decide +kernel⟩,
   ⟨wPw w0 fun x => { x with off := true, gate := true, good := false, gateAt := 0 }, by decide +kernel⟩,
   ⟨wPw w0 fun x => { x with off := true, gate := false, good := false }, by decide +kernel⟩,
   ⟨w0, by decide +kernel⟩,
   ⟨wPw w0 fun x => { x with off := true, gate := false, good := false, latched := true }, by decide +kernel⟩,
   ⟨wPw w0 fun x => { x with off := true, gate := false, good := false, retryAt := some 5000000000000 }, 5000000000000, 5000000000000, by decide +kernel⟩,
   ⟨wPw w0 fun x => { x with off := true }, by decide +kernel⟩,
   ⟨{ w0 with land := { hot := true } }, by decide +kernel⟩,
   ⟨w0, by decide +kernel⟩,
   ⟨(wPw w0 fun x => { x with storm := true, copyTo := some 1 }).setRegion 1 { state := 1, seq := 8 }, 1, by decide +kernel⟩,
   ⟨(wPw w0 fun x => { x with storm := true, copyTo := some 1 }).setRegion 1 { state := 1, seq := 8 }, 1, by decide +kernel⟩,
   ⟨(wPw w0 fun x => { x with storm := true, copyTo := some 1 }).setRegion 1 { state := 1, seq := 8 }, 1, by decide +kernel⟩,
   ⟨wPw w0 fun x => { x with storm := true, off := true }, by decide +kernel⟩,
   ⟨wPw w0 fun x => { x with storm := true, off := true, gate := false }, by decide +kernel⟩⟩

theorem witness_SlotPowerActs :
    (∃ (s : State) (t : Nat) (n : Nat), s.railsOn ∧ n < 24 ∧ (List.range n).any (fun m => (s.slotS m).wantsRamp && decide (s.o 0x2210 m 2 ≠ 7)) = false ∧ s.pwr.storm = false ∧ s.loaderOnly = false ∧ (s.slotS n).wantsRamp = true ∧ (s.at t).budgetFits n = true ∧ (s.at t).rampRoom = true) ∧
    (∃ (s : State) (n : Nat), s.railsOn ∧ n < 24 ∧ (s.slotS n).ramping.isSome = true) ∧
    (∃ (s : State) (t : Nat) (n : Nat) (w : _), s.railsOn ∧ n < 24 ∧ (s.slotS n).ramping = some w ∧ w + s.o 0x2210 n 5 * msNs ≤ max s.now t ∧ s.paired = false ∧ s.pwr.storm = false ∧ (within (max s.now t) (60 * sNs) (s.slotS n).faults).length < 3) ∧
    (∃ (s : State) (t : Nat) (n : Nat) (w : _), s.railsOn ∧ n < 24 ∧ (s.slotS n).ramping = some w ∧ w + msNs ≤ max s.now t ∧ s.paired = false ∧ s.pwr.storm = false ∧ (within (max s.now t) (60 * sNs) (s.slotS n).faults).length < 3) ∧
    (∃ (s : State) (t : Nat) (n : Nat), s.railsOn ∧ n < 24 ∧ (s.slotS n).mainOn = true ∧ s.paired = false ∧ s.pwr.storm = false ∧ (within (max s.now t) (60 * sNs) (s.slotS n).faults).length < 3) ∧
    (∃ (s : State) (t : Nat) (n : Nat), s.railsOn ∧ n < 24 ∧ (s.slotS n).mainOn = true ∧ s.paired = false ∧ s.pwr.storm = false ∧ (within (max s.now t) (60 * sNs) (s.slotS n).faults).length < 3) ∧
    (∃ (s : State) (t : Nat) (n : Nat), s.railsOn ∧ n < 24 ∧ (s.slotS n).auxOn = true ∧ s.paired = false ∧ s.pwr.storm = false ∧ (within (max s.now t) (60 * sNs) (s.slotS n).faults).length < 3) ∧
    (∃ (s : State) (t : Nat) (n : Nat), s.railsOn ∧ n < 24 ∧ (s.slotS n).auxOn = true ∧ 3 ≤ (within (max s.now t) (60 * sNs) (s.slotS n).faults).length) ∧
    (∃ (s : State) (t : Nat) (n : Nat), s.railsOn ∧ n < 24 ∧ (s.slotS n).mainOn = true ∧ s.paired = true ∧ (within (max s.now t) (60 * sNs) (s.slotS n).faults).length < 3) ∧
    (∃ (s : State) (t : Nat) (n : Nat) (w : _), s.railsOn ∧ n < 24 ∧ (s.slotS n).retryAt = some w ∧ w ≤ max s.now t ∧ (s.slotS n).latched = false ∧ s.slotEnabled n = true ∧ s.o 0x2210 n 2 ≠ 8 ∧ (s.slotS n).prsnt = true) ∧
    (∃ (s : State) (t : Nat) (n : Nat) (sess : _), s.railsOn ∧ n < 24 ∧ (s.at t).mayCommit sess 0x2210 (fun _ _ _ => 0) = true ∧ (s.staged sess 0x2210).row = n ∧ (s.staged sess 0x2210).n 0xD = 1 ∧ (s.staged sess 0x2210).n 0xC = 0 ∧ s.o 0x2210 n 0xC = 0 ∧ (s.slotS n).latched = true ∧ s.slotEnabled n = true ∧ s.o 0x2210 n 2 ≠ 8 ∧ (s.slotS n).prsnt = false) ∧
    (∃ (s : State) (t : Nat) (n : Nat) (sess : _), s.railsOn ∧ n < 24 ∧ (s.at t).mayCommit sess 0x2210 (fun _ _ _ => 0) = true ∧ (s.staged sess 0x2210).row = n ∧ (s.staged sess 0x2210).n 0xD ≠ 1 ∧ (s.staged sess 0x2210).n 0xC = 1 ∧ s.o 0x2210 n 0xC = 0 ∧ s.paired = false ∧ (s.at t).slotThirdLoss n = false) ∧
    (∃ (s : State) (n : Nat), s.railsOn ∧ n < 24) :=
  ⟨⟨w0.setSlot 3 { auxOn := true, ifdet := some true }, 5000000000000, 3, by decide +kernel⟩,
   ⟨w0.setSlot 3 { auxOn := true, ifdet := some true, ramping := some 0 }, 3, by decide +kernel⟩,
   ⟨(w0.setSlot 3 { auxOn := true, ifdet := some true, ramping := some 0 }).setSlotState 3 1, 5000000000000, 3, 0, by decide +kernel⟩,
   ⟨(w0.setSlot 3 { auxOn := true, ifdet := some true, ramping := some 0 }).setSlotState 3 1, 5000000000000, 3, 0, by decide +kernel⟩,
   ⟨(w0.setSlot 3 { auxOn := true, mainOn := true, faults := [4990000000000, 4980000000000] }).setSlotState 3 6, 5000000000000, 3, by decide +kernel⟩,
   ⟨(w0.setSlot 3 { auxOn := true, mainOn := true, faults := [4990000000000, 4980000000000] }).setSlotState 3 6, 5000000000000, 3, by decide +kernel⟩,
   ⟨(w0.setSlot 3 { auxOn := true, mainOn := true, faults := [4990000000000, 4980000000000] }).setSlotState 3 6, 5000000000000, 3, by decide +kernel⟩,
   ⟨(w0.setSlot 3 { auxOn := true, mainOn := true, faults := [4990000000000, 4980000000000, 4970000000000] }).setSlotState 3 6, 5000000000000, 3, by decide +kernel⟩,
   ⟨wPair.setSlot 3 { mainOn := true, auxOn := true }, 5000000000000, 3, by decide +kernel⟩,
   ⟨(w0.setSlot 3 { prsnt := true, retryAt := some 4 }).put 0x2210 3 2 4, 5000000000000, 3, 4, by decide +kernel⟩,
   ⟨stg ((w0.setSlot 3 { latched := true, faults := [3] }).put 0x2210 3 2 5) 0x2210 3 [(0xD, .nat 1)], 5000000000000, 3, 16, by decide +kernel⟩,
   ⟨stg ((w0.setSlot 3 { prsnt := true, auxOn := true }).setSlotState 3 6) 0x2210 3 [(0xC, .nat 1)], 5000000000000, 3, 16, by decide +kernel⟩,
   ⟨(w0.setSlot 3 { mainOn := true }).setVal 0x2210 3 7 (.real 20), 3, by decide +kernel⟩⟩

theorem witness_EnergyActs :
    (∃ (s : State) (t : Nat) (sess : Nat) (v : _), s.railsOn ∧ (s.at t).mayWrite sess 0x2201 4 (.nat v) = true) ∧
    (∃ (s : State), s.railsOn ∧ s.ob 0x2201 0xE ≠ 1 ∧ s.pwr.pfwarn = false) ∧
    (∃ (s : State) (t : Nat) (sess : Nat), s.railsOn ∧ (s.at t).mayWrite sess 0x2201 0xF (.nat 1) = true) ∧
    (∃ (s : State), s.railsOn ∧ s.pwr.storm = false) ∧
    (∃ (s : State) (t : Nat) (v : _) (w : _), s.railsOn ∧ s.pwr.rise = some (v, w) ∧ w + 10 * sNs ≤ max s.now t ∧ s.ob 0x2201 2 < v ∧ s.pwr.storm = false ∧ v ≤ min s.autoNow (s.ob 0x2201 1 * 1048576)) ∧
    (∃ (s : State) (mv : _), s.railsOn ∧ s.pwr.storm = false ∧ s.pwr.measuredAt = none ∧ 250 ≤ mv ∧ mv ≤ 666) ∧
    (∃ (s : State) (t : Nat) (w : _) (mv : _), s.railsOn ∧ s.pwr.storm = false ∧ s.pwr.measuredAt = some w ∧ w + s.ob 0x2202 5 * sNs ≤ max s.now t ∧ (mv < 250 ∨ 667 ≤ mv)) ∧
    (∃ (s : State) (k : _), s.railsOn ∧ k < 2 ∧ s.pwr.storm = false ∧ (s.copyRegion k).state = 3) ∧
    (∃ (s : State), s.railsOn) ∧
    (∃ (s : State) (t : Nat), s.railsOn ∧ s.ob 0x2220 1 = 1 ∧ s.idle = true ∧ s.pwr.idleSince + s.ob 0x2220 2 * msNs ≤ max s.now t) ∧
    (∃ (s : State) (t : Nat), s.railsOn ∧ s.ob 0x2220 1 = 2 ∧ s.idle = true ∧ s.pwr.idleSince + msNs ≤ max s.now t) ∧
    (∃ (s : State) (trigger : ThawTrigger), s.railsOn ∧ s.thawStarts trigger = true ∧ s.pwr.lull = true) ∧
    (∃ (s : State) (trigger : ThawTrigger), s.railsOn ∧ (s.thawStarts trigger = false ∨ s.pwr.lull = false)) :=
  ⟨⟨w0, 5000000000000, 16, 400, by decide +kernel⟩,
   ⟨w0, by decide +kernel⟩,
   ⟨w0.put 0x2201 0 0xE 1, 5000000000000, 16, by decide +kernel⟩,
   ⟨w0.put 0x2201 0 2 6442450944, by decide +kernel⟩,
   ⟨wPw w0 fun x => { x with rise := some (268435456, 0), storeV := 72 }, 5000000000000, 268435456, 0, by decide +kernel⟩,
   ⟨wPw w0 fun x => { x with caps := [6, 5, 4, 7, 6] }, 400, by decide +kernel⟩,
   ⟨wPw w0 fun x => { x with measuredAt := some 0 }, 5000000000000, 0, 667, by decide +kernel⟩,
   ⟨w0.setRegion 1 { state := 3, seq := 8 }, 1, by decide +kernel⟩,
   ⟨w0.put 0x2201 0 2 6442450944, by decide +kernel⟩,
   ⟨w0.put 0x2220 0 1 1, 5000000000000, by decide +kernel⟩,
   ⟨w0.put 0x2220 0 1 2, 5000000000000, by decide +kernel⟩,
   ⟨wPw w0 fun x => { x with lull := true, lullAt := 1000 }, ThawTrigger.rung, by decide +kernel⟩,
   ⟨w0, ThawTrigger.rung, by decide +kernel⟩⟩

theorem witness_SessionActs :
    (∃ (s : State) (t : Nat) (address : _), s.railsOn ∧ s.udpOn = true ∧ (s.at t).lockedOut address = false ∧ s.udpSessions < 16) ∧
    (∃ (s : State) (t : Nat) (address : _), s.railsOn ∧ s.udpOn = true ∧ (s.at t).lockedOut address = true) ∧
    (∃ (s : State) (p : _), s.railsOn ∧ p < 2 ∧ s.session? (2 + p) = none) ∧
    (∃ (s : State) (sess : Nat) (g : Guard) (x : Session) (account : _) (l : _), s.railsOn ∧ s.hears sess g x ∧ x.authed = false ∧ s.grantedLevel account true none = some l) ∧
    (∃ (s : State) (sess : Nat) (g : Guard) (x : Session) (auth : Option ServiceAuth), s.railsOn ∧ s.hears sess g x ∧ s.authFits sess auth = true ∧ x.authed = false) ∧
    (∃ (s : State) (sess : Nat) (g : Guard) (x : Session) (items : List ReadItem), s.railsOn ∧ s.hears sess g x ∧ x.authed = true ∧ 1 ≤ items.length ∧ items.length ≤ 64) ∧
    (∃ (s : State) (t : Nat) (sess : Nat) (g : Guard) (x : Session) (i : ReadItem), s.railsOn ∧ s.hears sess g x ∧ x.authed = true ∧ s.readCode (s.heard t g x) i.idx i.sub ≠ 0) ∧
    (∃ (s : State) (sess : Nat) (g : Guard) (x : Session) (items : List WriteItem), s.railsOn ∧ s.hears sess g x ∧ x.authed = true ∧ 1 ≤ items.length ∧ items.length ≤ 64) ∧
    (∃ (s : State) (sess : Nat) (g : Guard) (x : Session), s.railsOn ∧ s.hears sess g x ∧ x.authed = true) ∧
    (∃ (s : State) (sess : Nat) (g : Guard) (x : Session), s.railsOn ∧ s.hears sess g x ∧ x.authed = true) ∧
    (∃ (s : State) (sess : Nat) (g : Guard) (x : Session), s.railsOn ∧ s.hears sess g x ∧ x.authed = false ∧ x.factory = false) ∧
    (∃ (s : State) (sess : Nat) (g : Guard) (x : Session), s.railsOn ∧ s.hears sess g x) ∧
    (∃ (s : State) (sess : Nat) (g : Guard) (x : Session), s.railsOn ∧ s.session? sess = some x ∧ (x.transport = .udp → s.udpOn = true) ∧ g.counter ≤ x.rx) ∧
    (∃ (s : State) (t : Nat) (sess : Nat) (x : Session), s.railsOn ∧ s.session? sess = some x ∧ x.transport ≠ .can ∧ x.lastAt + s.ob 0x1120 3 * sNs ≤ max s.now t) ∧
    (∃ (s : State) (t : Nat) (address : _) (w : _), s.railsOn ∧ (Tbl.get ({} : Lockout) s.sess.lockouts address).lockedUntil = some w ∧ w ≤ max s.now t) :=
  ⟨⟨wNet, 5000000000000, 5, by decide +kernel⟩,
   ⟨{ wNet with sess := { wNet.sess with lockouts := [(5, { lockedUntil := some 6000000000000 })] } }, 5000000000000, 5, by decide +kernel⟩,
   ⟨wNet, 1, by decide +kernel⟩,
   ⟨(((wSess wNet 16 (({ rx := 4 } : Session))).put 0x1130 31 2 1).put 0x1130 31 3 2), 16, ({ counter := 5 } : Guard), ({ rx := 4 } : Session), 31, 2, by decide +kernel⟩,
   ⟨wSess wNet 16 (({ rx := 4 } : Session)), 16, ({ counter := 5 } : Guard), ({ rx := 4 } : Session), (none : Option ServiceAuth), by decide +kernel⟩,
   ⟨wSess wNet 16 (({ rx := 4, authed := true, level := 2 } : Session)), 16, ({ counter := 5 } : Guard), ({ rx := 4, authed := true, level := 2 } : Session), ([{ idx := 0x2011, sub := 1 }, { idx := 0x1017, sub := 0 }, { idx := 0x9999, sub := 0 }] : List ReadItem), by decide +kernel⟩,
   ⟨wSess wNet 16 (({ rx := 4, authed := true, level := 2 } : Session)), 5000000000000, 16, ({ counter := 5 } : Guard), ({ rx := 4, authed := true, level := 2 } : Session), ({ idx := 0x9999, sub := 0 } : ReadItem), by decide +kernel⟩,
   ⟨wSess wNet 16 (({ rx := 4, authed := true, level := 2 } : Session)), 16, ({ counter := 5 } : Guard), ({ rx := 4, authed := true, level := 2 } : Session), ([{ idx := 0x1017, sub := 0, value := .nat 500 }] : List WriteItem), by decide +kernel⟩,
   ⟨wSess wNet 16 (({ rx := 4, authed := true, level := 2 } : Session)), 16, ({ counter := 5 } : Guard), ({ rx := 4, authed := true, level := 2 } : Session), by decide +kernel⟩,
   ⟨wSess wNet 16 (({ rx := 4, authed := true, level := 2 } : Session)), 16, ({ counter := 5 } : Guard), ({ rx := 4, authed := true, level := 2 } : Session), by decide +kernel⟩,
   ⟨wSess wNet 16 (({ rx := 4, level := 2 } : Session)), 16, ({ counter := 5 } : Guard), ({ rx := 4, level := 2 } : Session), by decide +kernel⟩,
   ⟨wSess wNet 16 (({ rx := 4, level := 2 } : Session)), 16, ({ counter := 5 } : Guard), ({ rx := 4, level := 2 } : Session), by decide +kernel⟩,
   ⟨wSess wNet 16 (({ rx := 4, level := 2 } : Session)), 16, ({ counter := 4 } : Guard), ({ rx := 4, level := 2 } : Session), by decide +kernel⟩,
   ⟨wSess wNet 16 (({ rx := 4, level := 2, lastAt := 0 } : Session)), 5000000000000, 16, ({ rx := 4, level := 2, lastAt := 0 } : Session), by decide +kernel⟩,
   ⟨{ wNet with sess := { wNet.sess with lockouts := [(5, { lockedUntil := some 5000000000000 })] } }, 5000000000000, 5, 5000000000000, by decide +kernel⟩⟩

theorem witness_DictionaryActs :
    (∃ (s : State) (sess : Nat) (x : _) (win : _) (row : _), s.railsOn ∧ s.session? sess = some x ∧ Dict.rows win ≠ 0 ∧ writeLength win 1 (.nat row) = 0 ∧ row < Dict.rows win ∧ s.areaOpen win = true) ∧
    (∃ (s : State) (sess : Nat) (x : _) (win : _) (row : _), s.railsOn ∧ s.session? sess = some x ∧ Dict.rows win ≠ 0 ∧ writeLength win 1 (.nat row) = 0 ∧ Dict.rows win ≤ row) ∧
    (∃ (s : State) (t : Nat) (sess : Nat), s.railsOn ∧ (s.at t).mayCommit sess 0x5300 (fun _ _ _ => 0) = true) ∧
    (∃ (s : State) (sess : Nat) (x : _) (win : _) (sub : _) (v : _), s.railsOn ∧ s.session? sess = some x ∧ Dict.rows win ≠ 0 ∧ sub ≠ 1 ∧ sub ≠ 0xFE ∧ writeAccess x win sub = 0 ∧ writeLength win sub v = 0 ∧ s.areaOpen win = true ∧ ((∀ e ∈ s.sess.tbl, s.mustEnd e.2 = false))) ∧
    (∃ (s : State) (t : Nat) (sess : Nat) (v : _), s.railsOn ∧ (s.at t).mayWrite sess 0x1017 0 (.nat v) = true) ∧
    (∃ (s : State) (t : Nat) (sess : Nat), s.railsOn ∧ (s.at t).mayWrite sess 0x1011 1 (.nat 0x64616F6C) = true ∧ ((∀ a, a < 4 → s.o 0x5000 a 2 = 0))) ∧
    (∃ (s : State) (t : Nat) (sess : Nat) (v : _), s.railsOn ∧ (s.at t).mayWrite sess 0x1120 1 (.nat v) = true) ∧
    (∃ (s : State) (t : Nat) (sess : Nat), s.railsOn ∧ (s.at t).mayCommit sess 0x1130 accountCode = true) ∧
    (∃ (s : State) (t : Nat) (sess : Nat), s.railsOn ∧ (s.at t).mayWrite sess 0x6001 4 (.nat 1) = true) ∧
    (∃ (s : State) (t : Nat) (sess : Nat) (v : _), s.railsOn ∧ (s.at t).mayWrite sess 0x1100 1 (.nat v) = true) :=
  ⟨⟨stg w0 0x2210 4 [(4, .nat 30)], 16, ((stg w0 0x2210 4 [(4, .nat 30)]).session? 16).getD ({} : Session), 0x2210, 23, by decide +kernel⟩,
   ⟨stg w0 0x2210 4 [(4, .nat 30)], 16, ((stg w0 0x2210 4 [(4, .nat 30)]).session? 16).getD ({} : Session), 0x2210, 24, by decide +kernel⟩,
   ⟨stg w0 0x5300 1 [], 5000000000000, 16, by decide +kernel⟩,
   ⟨w0, 16, (w0.session? 16).getD ({} : Session), 0x2210, 4, Val.nat 30, by decide +kernel⟩,
   ⟨w0, 5000000000000, 16, 700, by decide +kernel⟩,
   ⟨w0, 5000000000000, 16, by decide +kernel⟩,
   ⟨w0, 5000000000000, 16, 0, by decide +kernel⟩,
   ⟨stg w0 0x1130 5 [(2, .nat 0), (3, .nat 2)], 5000000000000, 16, by decide +kernel⟩,
   ⟨{ w0 with ev := { w0.ev with register := 7 } }, 5000000000000, 16, by decide +kernel⟩,
   ⟨w0.setCan { conflict := true }, 5000000000000, 16, 77, by decide +kernel⟩⟩

theorem witness_ManagementPortActs :
    (∃ (s : State) (x : Session) (idx : _) (sub : _), s.railsOn ∧ s.canServes = true ∧ s.session? 1 = some x ∧ s.readCode x idx sub = 0) ∧
    (∃ (s : State) (x : Session) (idx : _) (sub : _), s.railsOn ∧ s.canServes = true ∧ s.session? 1 = some x ∧ s.readCode x idx sub ≠ 0) ∧
    (∃ (s : State), s.railsOn ∧ s.canServes = true ∧ (s.session? 1).isSome = true) ∧
    (∃ (s : State), s.railsOn ∧ s.canServes = true ∧ s.session? 1 = none) ∧
    (∃ (s : State) (x : Session) (idx : _) (sub : _), s.railsOn ∧ s.canServes = true ∧ s.session? 1 = some x ∧ s.readCode x idx sub = 0) ∧
    (∃ (s : State) (t : Nat) (w : _) (a : _) (b : _), s.railsOn ∧ s.sess.can.transfer = some (w, a, b) ∧ w + sNs ≤ max s.now t ∧ s.canServes = true) ∧
    (∃ (s : State), s.railsOn) ∧
    (∃ (s : State), s.railsOn ∧ s.sess.can.conflict = false) ∧
    (∃ (s : State), s.railsOn ∧ s.sess.can.conflict = true) ∧
    (∃ (s : State) (t : Nat) (w : _), s.railsOn ∧ s.ob 0x1017 0 ≠ 0 ∧ s.sess.can.lastHeartbeat = some w ∧ w + s.ob 0x1017 0 * msNs ≤ max s.now t) ∧
    (∃ (s : State), s.railsOn ∧ s.sess.can.conflict = false) ∧
    (∃ (s : State), s.railsOn) ∧
    (∃ (s : State) (t : Nat) (p : _) (f : MgmtFrame), s.railsOn ∧ p < 2 ∧ s.ob 0x1111 (p + 1) ≠ 0 ∧ (s.at t).mgmtDuplicate f = false ∧ f.isReachability = true) ∧
    (∃ (s : State) (t : Nat) (p : _) (f : MgmtFrame), s.railsOn ∧ p < 2 ∧ s.ob 0x1111 (p + 1) ≠ 0 ∧ (s.at t).mgmtDuplicate f = true) ∧
    (∃ (s : State) (t : Nat) (w : _), s.railsOn ∧ s.sess.mgmt.lastSupervision = some w ∧ w + 2 * sNs ≤ max s.now t) ∧
    (∃ (s : State) (t : Nat) (p : _) (w : _) (v : _), s.railsOn ∧ p < 2 ∧ Tbl.find? s.sess.mgmt.lastRx p = some w ∧ w + 10 * sNs ≤ max s.now t ∧ Tbl.find? s.sess.mgmt.lastRx (1 - p) = some v ∧ max s.now t < v + 10 * sNs ∧ Tbl.get false s.sess.mgmt.lanLost p = false) :=
  ⟨⟨wSess w0 1 { transport := .can }, ({ transport := .can } : Session), 0x1017, 0, by decide +kernel⟩,
   ⟨wSess w0 1 { transport := .can }, ({ transport := .can } : Session), 0x9017, 0, by decide +kernel⟩,
   ⟨wSess w0 1 { transport := .can }, by decide +kernel⟩,
   ⟨w0, by decide +kernel⟩,
   ⟨wSess w0 1 { transport := .can }, ({ transport := .can } : Session), 0x1017, 0, by decide +kernel⟩,
   ⟨w0.setCan { transfer := some (0, 1, 2) }, 5000000000000, 0, 1, 2, by decide +kernel⟩,
   ⟨w0, by decide +kernel⟩,
   ⟨(wSess w0 1 { transport := .can }).setCan { nmt := .stopped }, by decide +kernel⟩,
   ⟨(wSess w0 1 { transport := .can }).setCan { nmt := .stopped, conflict := true }, by decide +kernel⟩,
   ⟨(w0.put 0x1017 0 0 1000).setCan { lastHeartbeat := some 0 }, 5000000000000, 0, by decide +kernel⟩,
   ⟨w0, by decide +kernel⟩,
   ⟨w0, by decide +kernel⟩,
   ⟨w0.put 0x1111 0 2 1, 5000000000000, 1, ({ src := 5, trailer := some 3, isReachability := true } : MgmtFrame), by decide +kernel⟩,
   ⟨(w0.put 0x1111 0 2 1).setMgmt { seen := [(5, 3, 4999999999999)] }, 5000000000000, 1, ({ src := 5, trailer := some 3, isReachability := true } : MgmtFrame), by decide +kernel⟩,
   ⟨w0.setMgmt { txSeq := 65535, lastSupervision := some 0 }, 5000000000000, 0, by decide +kernel⟩,
   ⟨w0.setMgmt { lastRx := [(0, 0), (1, 4999999999999)] }, 5000000000000, 0, 0, 4999999999999, by decide +kernel⟩⟩

theorem witness_ImageActs :
    (∃ (s : State) (t : Nat) (sess : Nat), s.railsOn ∧ (s.at t).mayWrite sess 0x2301 4 (.nat 1) = true ∧ s.ob 0x2300 4 ≠ 1 ∧ s.ob 0x2300 4 ≠ 2 ∧ s.activating = false ∧ s.pwr.storm = false) ∧
    (∃ (s : State) (t : Nat) (sess : Nat) (len : _) (content : _), s.railsOn ∧ (s.at t).mayWrite sess 0x2301 3 (.oct len (leField len content)) = true ∧ s.ob 0x2301 1 = 1 ∧ s.fw.rxLen + len < 4096) ∧
    (∃ (s : State) (t : Nat) (sess : Nat) (len : _) (content : _), s.railsOn ∧ (s.at t).mayWrite sess 0x2301 3 (.oct len (leField len content)) = true ∧ s.ob 0x2301 1 = 1 ∧ s.fw.rxLen + len = 4096 ∧ s.receiveCode { len := 4096, data := s.fw.rx + content % 256 ^ len * 256 ^ s.fw.rxLen } ≠ 0) ∧
    (∃ (s : State) (t : Nat) (sess : Nat), s.railsOn ∧ (s.at t).mayWrite sess 0x2301 5 (.nat 1) = true ∧ s.receiving = true) ∧
    (∃ (s : State) (t : Nat), s.railsOn ∧ s.receiving = true ∧ s.fw.rxAt + 600 * sNs ≤ max s.now t) ∧
    (∃ (s : State), s.railsOn ∧ s.ob 0x2300 4 = 2) ∧
    (∃ (s : State) (t : Nat) (sess : Nat), s.railsOn ∧ (s.at t).mayWrite sess 0x2302 8 (.nat 1) = true ∧ s.ob 0x2300 4 = 1) ∧
    (∃ (s : State) (t : Nat), s.railsOn ∧ s.serving = true ∧ s.ob 0x2404 1 = 0 ∧ s.ob 0x2302 0xA ≠ 0 ∧ s.fw.rejected = false ∧ s.ob 0x2300 4 = 1 ∧ max s.fw.bootAt s.twin.failedAt + s.ob 0x2302 0xA * sNs ≤ max s.now t) ∧
    (∃ (s : State) (t : Nat) (sess : Nat), s.railsOn ∧ (s.at t).mayWrite sess 0x2302 9 (.nat 1) = true ∧ s.ob 0x2300 4 = 1 ∧ s.dirtyBytes = 0 ∧ s.arrays.isEmpty = true) ∧
    (∃ (s : State) (t : Nat) (sess : Nat) (nonce : _), s.railsOn ∧ (s.at t).mayWrite sess 0x2320 1 (.oct 48 nonce) = true) ∧
    (∃ (s : State) (sess : Nat) (x : _), s.railsOn ∧ s.session? sess = some x) :=
  ⟨⟨w0, 5000000000000, 16, by decide +kernel⟩,
   ⟨{ w0 with fw := { w0.fw with rx := 77, rxLen := 1 } }.put 0x2301 0 1 1, 5000000000000, 16, 4094, 0x112233, by decide +kernel⟩,
   ⟨{ w0 with fw := { w0.fw with rx := 77, rxLen := 1 } }.put 0x2301 0 1 1, 5000000000000, 16, 4095, 0x112233, by decide +kernel⟩,
   ⟨w0.put 0x2301 0 1 2, 5000000000000, 16, by decide +kernel⟩,
   ⟨w0.put 0x2301 0 1 1, 5000000000000, by decide +kernel⟩,
   ⟨{ w0 with fw := { w0.fw with slot := none, rejected := true } }.put 0x2300 0 4 2, by decide +kernel⟩,
   ⟨{ w0 with fw := { w0.fw with fallback := none, trial := true, trialBoots := 2 } }.put 0x2300 0 4 1, 5000000000000, 16, by decide +kernel⟩,
   ⟨({ w0 with fw := { w0.fw with fallback := none, trial := true, trialBoots := 2 } }.put 0x2300 0 4 1).put 0x2302 0 0xA 60, 5000000000000, by decide +kernel⟩,
   ⟨w0.put 0x2300 0 4 1, 5000000000000, 16, by decide +kernel⟩,
   ⟨w0, 5000000000000, 16, 99, by decide +kernel⟩,
   ⟨w0, 16, (w0.session? 16).getD ({} : Session), by decide +kernel⟩⟩

theorem witness_BootActs :
    (∃ (s : State) (e : BootEnv), s.pwr.off = true ∧ s.pwr.good = true ∧ s.pwr.storm = false ∧ s.land.hot = false ∧ s.fw.halted = false ∧ e.loaderOk = false) ∧
    (∃ (s : State) (e : BootEnv), s.pwr.off = true ∧ s.pwr.good = true ∧ s.pwr.storm = false ∧ s.land.hot = false ∧ s.fw.halted = false ∧ e.loaderOk = true ∧ s.fw.slot = none ∧ s.fw.fallback = none) ∧
    (∃ (s : State) (e : BootEnv), s.pwr.off = true ∧ s.pwr.good = true ∧ s.pwr.storm = false ∧ s.land.hot = false ∧ s.fw.halted = false ∧ e.loaderOk = true) :=
  ⟨⟨wPw w0 fun x => { x with off := true }, ({ loaderOk := false } : BootEnv), by decide +kernel⟩,
   ⟨wPw { w0 with fw := { w0.fw with slot := none, fallback := none } } fun x => { x with off := true }, ({ loaderOk := true } : BootEnv), by decide +kernel⟩,
   ⟨wPw w0 fun x => { x with off := true }, ({ loaderOk := true } : BootEnv), by decide +kernel⟩⟩

theorem witness_ActivationActs :
    (∃ (s : State) (t : Nat) (sess : Nat) (due : _), s.railsOn ∧ (s.at t).mayWrite sess 0x2302 1 (.nat due) = true ∧ due ≠ 0 ∧ s.ob 0x2301 1 = 3 ∧ s.loaderOnly = false ∧ (s.at t).ptpNow < (s.dueTime due : Int)) ∧
    (∃ (s : State) (t : Nat) (sess : Nat), s.railsOn ∧ (s.at t).mayWrite sess 0x2302 7 (.nat 1) = true ∧ s.ob 0x2302 6 = 1 ∧ s.fw.drainAt = none) ∧
    (∃ (s : State) (t : Nat), s.railsOn ∧ s.fw.goal = none ∧ (s.at t).activationIsDue = true ∧ s.loaderOnly = false ∧ s.ob 0x2301 1 = 3 ∧ s.timeGood = false) ∧
    (∃ (s : State) (t : Nat), s.railsOn ∧ s.fw.goal = none ∧ (s.at t).activationIsDue = true ∧ s.loaderOnly = false ∧ s.ob 0x2301 1 = 3 ∧ s.timeGood = true ∧ s.twin.twinMode = false ∧ s.dirtyBytes = 0 ∧ s.arrays = []) ∧
    (∃ (s : State) (t : Nat), s.railsOn ∧ s.fw.goal = none ∧ (s.at t).activationIsDue = true ∧ s.loaderOnly = false ∧ s.ob 0x2301 1 ≠ 3 ∧ s.fw.drainAt = none) ∧
    (∃ (s : State) (t : Nat), s.railsOn ∧ s.ob 0x2302 6 = 2 ∧ s.timeGood = false ∧ (s.ob 0x2302 0xB + 600 * sNs : Int) ≤ (s.at t).ptpNow ∧ s.fw.drainAt = none) ∧
    (∃ (s : State) (t : Nat), s.railsOn ∧ s.fw.goal = some .activate ∧ s.dirtyBytes ≠ 0 ∧ s.fw.flushAt + 60 * sNs ≤ max s.now t ∧ s.fw.drainAt = none) ∧
    (∃ (s : State) (t : Nat), s.railsOn ∧ s.fw.goal = some .revert ∧ s.dirtyBytes ≠ 0 ∧ s.fw.flushAt + 60 * sNs ≤ max s.now t) ∧
    (∃ (s : State) (t : Nat), s.railsOn ∧ s.fw.drainAt = none ∧ (s.at t).mayDrain = true ∧ s.arrays = [] ∧ s.ifRows = []) ∧
    (∃ (s : State) (t : Nat), s.railsOn ∧ s.fw.drainAt = none ∧ (s.at t).mayDrain = false) ∧
    (∃ (s : State), s.railsOn ∧ s.fw.drainAt.isSome = true ∧ s.ownArrays = []) ∧
    (∃ (s : State) (t : Nat) (w : _), s.railsOn ∧ s.fw.drainAt = some w ∧ w + 9 * sNs ≤ max s.now t ∧ s.ownArrays ≠ [] ∧ s.nvme.ctrls = []) ∧
    (∃ (s : State), s.railsOn ∧ s.fw.drainAt.isSome = true ∧ s.ownArrays = []) :=
  ⟨⟨(((w0.put 0x2301 0 1 3).put 0x2302 0 2 1).put 0x2302 0 3 4).put 0x2302 0 4 600, 5000000000000, 16, 6000000000000, by decide +kernel⟩,
   ⟨w0.put 0x2302 0 6 1, 5000000000000, 16, by decide +kernel⟩,
   ⟨((w0.put 0x2301 0 1 3).put 0x2302 0 6 1).put 0x3020 0 7 1, 5000000000000, by decide +kernel⟩,
   ⟨((w0.put 0x2301 0 1 3).put 0x2302 0 6 1).put 0x3020 0 7 2, 5000000000000, by decide +kernel⟩,
   ⟨w0.put 0x2302 0 6 1, 5000000000000, by decide +kernel⟩,
   ⟨(w0.put 0x2302 0 6 2).put 0x3020 0 7 1, 5000000000000, by decide +kernel⟩,
   ⟨{ w0 with fw := { w0.fw with goal := some .activate }, arr := { w0.arr with pages := [(0, { cur := some { data := 1, mask := 1, since := 0, seq := 0, nsRow := 0, keyGen := 0, tenant := 0, cls := 1 } })] } }, 5000000000000, by decide +kernel⟩,
   ⟨{ w0 with fw := { w0.fw with goal := some .revert }, arr := { w0.arr with pages := [(0, { cur := some { data := 1, mask := 1, since := 0, seq := 0, nsRow := 0, keyGen := 0, tenant := 0, cls := 1 } })] } }, 5000000000000, by decide +kernel⟩,
   ⟨(((wTw wPair fun y => { y with health := some (5000000000000, { fit := true }) }).put 0x2301 0 1 3).put 0x2302 0 6 1).put 0x3020 0 7 2, 5000000000000, by decide +kernel⟩,
   ⟨w0, 5000000000000, by decide +kernel⟩,
   ⟨{ w0 with fw := { w0.fw with drainAt := some 0 } }, by decide +kernel⟩,
   ⟨({ wPair with fw := { wPair.fw with drainAt := some 0 } }.put 0x5000 2 2 1).put 0x2410 2 4 1, 5000000000000, 0, by decide +kernel⟩,
   ⟨{ w0 with fw := { w0.fw with drainAt := some 0 } }, by decide +kernel⟩⟩

theorem witness_LandActs :
    (∃ (s : State) (tj : Int), s.railsOn ∧ 1050 ≤ tj ∧ s.land.warnedAt = none) ∧
    (∃ (s : State) (t : Nat) (tj : Int) (w : _), s.railsOn ∧ 1050 ≤ tj ∧ s.land.warnedAt = some w ∧ max s.now t < w + 60 * sNs) ∧
    (∃ (s : State) (tj : Int), s.railsOn ∧ tj < 1030) ∧
    (∃ (s : State) (tj : Int), s.railsOn ∧ 1150 ≤ tj ∧ s.land.hot = false ∧ s.pwr.storm = false ∧ s.paired = true) ∧
    (∃ (s : State) (tj : Int), s.railsOn ∧ 1150 ≤ tj ∧ s.land.hot = false ∧ s.pwr.storm = false ∧ s.twin.twinMode = false) ∧
    (∃ (s : State) (t : Nat) (p : _), s.railsOn ∧ p < 2 ∧ bit s.land.mgmt (2 * p) = true ∧ s.inputFaulty 3 (2 * p) = false ∧ (within (max s.now t) (60 * sNs) (max s.now t :: Tbl.get [] s.land.changes (mgmtLine (2 * p)))).length ≤ 8) ∧
    (∃ (s : State) (p : _) (k : _), s.railsOn ∧ p < 2 ∧ k < 3 ∧ s.mgmtMayLink p = true) ∧
    (∃ (s : State), s.railsOn ∧ s.land.frameAt = none) ∧
    (∃ (s : State) (t : Nat) (sess : Nat), s.railsOn ∧ (s.at t).mayWrite sess 0x5220 3 (.nat 1) = true ∧ s.pwr.storm = false) ∧
    (∃ (s : State) (t : Nat) (w : _), s.railsOn ∧ s.land.testAt = some w ∧ w + 3 * sNs ≤ max s.now t ∧ s.land.opens = []) ∧
    (∃ (s : State) (t : Nat) (w : _) (n : _) (k : _), s.railsOn ∧ s.land.testAt = some w ∧ w + 3 * sNs ≤ max s.now t ∧ s.land.opens = [(n, k)] ∧ s.land.frames < 2 * k) ∧
    (∃ (s : State) (n : _), s.railsOn ∧ n < 24) ∧
    (∃ (s : State) (t : Nat) (sess : Nat), s.railsOn ∧ (s.at t).mayWrite sess 0x5223 5 (.nat 1) = true ∧ ((∀ n, n < 8 → s.inputFaulty 1 n = false)) ∧ ((∀ n, n < 2 → s.inputFaulty 2 n = false))) :=
  ⟨⟨w0, (1050 : Int), by decide +kernel⟩,
   ⟨{ w0 with land := { warnedAt := some 4990000000000 } }, 5000000000000, (1050 : Int), 4990000000000, by decide +kernel⟩,
   ⟨w0, (1029 : Int), by decide +kernel⟩,
   ⟨wPair, (1150 : Int), by decide +kernel⟩,
   ⟨w0, (1150 : Int), by decide +kernel⟩,
   ⟨{ w0 with land := { mgmt := 5 } }, 5000000000000, 1, by decide +kernel⟩,
   ⟨{ w0 with land := { mgmt := 5 } }, 1, 2, by decide +kernel⟩,
   ⟨w0, by decide +kernel⟩,
   ⟨w0, 5000000000000, 16, by decide +kernel⟩,
   ⟨{ w0 with land := { testAt := some 0 } }, 5000000000000, 0, by decide +kernel⟩,
   ⟨{ w0 with land := { testAt := some 0, frames := 5, opens := [(47, 3)] } }, 5000000000000, 0, 47, 3, by decide +kernel⟩,
   ⟨w0, 23, by decide +kernel⟩,
   ⟨(w0.put 0x5223 0 4 3).put 0x5223 0 3 1, 5000000000000, 16, by decide +kernel⟩⟩

theorem witness_ThermalRestart :
    (∃ (s : State) (tj : Int), s.land.hot = true ∧ s.pwr.off = true ∧ s.railOk ∧ tj < 950) ∧
    (∃ (s : State) (tj : Int), s.land.hot = true ∧ s.pwr.off = true ∧ s.railOk ∧ 950 ≤ tj) :=
  ⟨⟨wPw { w0 with land := { hot := true } } fun x => { x with off := true }, (949 : Int), by decide +kernel⟩,
   ⟨wPw { w0 with land := { hot := true } } fun x => { x with off := true }, (950 : Int), by decide +kernel⟩⟩


end Sys2Proof.Tests
end

section
/-! SUPPORT and CLAIM. What an extend doorbell does to a stopped channel whose descriptor lies in a slot's BAR window
(13 R442, R449): the descriptor is read again with a request toward the slot. -/

namespace Sys2Proof.Machine

/-- An extend doorbell of a channel that exists, with the rails on, has the effect of `dmaExtend`. -/
theorem exec_dmaExtend_on {s : State} {c : Nat} (t : Nat) (hp : s.railsOn) (hc : c < 64) :
    exec (.dmaExtend t c) s =
      .next { dmaExtend c (s.at t) with now := max s.now t, pending := s.pending, hbm := s.hbm, vcore := s.vcore } := by
  change act t (isChan c) s (dmaExtend c) = _
  simp [act, isChan, hc, State.runAt_on t _ hp]

/-- A stopped channel runs again and reads the descriptor at which it stopped. -/
theorem dmaExtend_stopped {s : State} {c : Nat} (h : (s.chan c).state = 2 ∨ (s.chan c).state = 3) :
    dmaExtend c s = (s.setChan c { s.chan c with hops := 0, state := 1 }).dmaFetch c := by
  have hrun : (s.chan c).state ≠ 1 := by omega
  simp only [dmaExtend, if_neg hrun, if_pos h]

/-- A firmware channel reaches the whole of a slot's BAR window (R442; 01 R24). -/
theorem State.region_slotWindow {s : State} {c addr len : Nat} (write fixed : Bool) (hj : jobOf c = none)
    (hlo : 0x100000000000 ≤ addr) (hhi : addr + (len - 1) < 0x101800000000)
    (hin : (addr + (len - 1)) / 2 ^ 32 = addr / 2 ^ 32) :
    s.region c addr len write fixed = some (.slot ((addr - 0x100000000000) / 2 ^ 32) (addr % 2 ^ 32)) := by
  have hmem : ¬ addr < 0xC000000000 := by omega
  have hone : (addr + (len - 1)) / 4294967296 = addr / 4294967296 := hin
  have hvault : ¬ (0x10000000000 ≤ addr ∧ addr + (len - 1) < 0x10400000000) := by omega
  simp [State.region, hj, hmem, hvault, hlo, hhi, hone]

@[simp] theorem State.region_setChan (s : State) (i : Nat) (x : DmaChan) (c addr len : Nat) (write fixed : Bool) :
    (s.setChan i x).region c addr len write fixed = s.region c addr len write fixed := rfl

@[simp] theorem State.region_at (s : State) (t c addr len : Nat) (write fixed : Bool) :
    (s.at t).region c addr len write fixed = s.region c addr len write fixed := rfl

@[simp] theorem State.slotS_setChan (s : State) (i : Nat) (x : DmaChan) (k : Nat) : (s.setChan i x).slotS k = s.slotS k := rfl

/-- A descriptor in a slot's BAR window is asked for with one 32-byte read request toward the slot (R442). -/
theorem State.chainRead_slot_out {s : State} {c k o tag : Nat} (hown : (s.chan c).own = none) (hj : jobOf c = none)
    (hr : s.region c (s.chan c).cur 32 false false = some (.slot k o))
    (htag : Tbl.freeKey (s.slotS k).tags 0 256 = some tag) :
    (s.chainRead c).out = .slotRead k tag o 32 :: s.out := by
  simp [State.chainRead, State.slotAsk, hown, hj, hr, htag]

/-- An extend doorbell of a channel stopped in a slot's BAR window sends a read request toward the slot. -/
theorem dmaExtend_slot_out {s u : State} {t c k o tag : Nat} (hp : s.railsOn) (hc : c < 64)
    (hst : (s.chan c).state = 2 ∨ (s.chan c).state = 3) (hown : (s.chan c).own = none) (hj : jobOf c = none)
    (hr : s.region c (s.chan c).cur 32 false false = some (.slot k o))
    (htag : Tbl.freeKey (s.slotS k).tags 0 256 = some tag) (hu : exec (.dmaExtend t c) s = .next u) :
    u.out = .slotRead k tag o 32 :: s.out := by
  rw [exec_dmaExtend_on t hp hc, dmaExtend_stopped (s := s.at t) hst] at hu
  cases hu
  exact State.chainRead_slot_out (by simpa using hown) hj (by simpa using hr) (by simpa using htag)

/-- Channel 0, a firmware channel, stopped on generation at a descriptor at offset 1000h of the BAR window of slot 0, whose
link is up. -/
def stoppedInSlotWindow : State :=
  (State.reset.setSlot 0 { linkUp := true }).setChan 0 { state := 3, cur := 0x100000001000 }

/-- Refutes O10: its clause for states 2 and 3 gives a next state in which only the channel has changed, but where the
channel stopped in a slot's BAR window (R442) reading the descriptor again takes a tag and sends a request toward the slot,
as R449 and R442 ask. `Obligations.DmaActs` has the clause with the premise `State.chainHere` that is missing here. -/
theorem not_extendDoorbell : ¬ Obligations.ExtendDoorbell := by
  unfold Obligations.ExtendDoorbell
  intro h
  obtain ⟨-, hstopped, -⟩ := h stoppedInSlotWindow 0 0 rfl (by decide)
  obtain ⟨u, hu, hq⟩ := hstopped (.inr rfl)
  have hsent : u.out = [.slotRead 0 0 0x1000 32] :=
    dmaExtend_slot_out rfl (by decide) (.inr rfl) rfl rfl
      (State.region_slotWindow false false rfl (by decide) (by decide) (by decide)) rfl hu
  have hsilent : u.out = [] := congrArg State.out hq
  simp [hsilent] at hsent

end Sys2Proof.Machine
end

section
/-! SUPPORT and CLAIM. The NMT states of the CAN port (16 R574): what the NMT commands do, what a stopped port still does with requests
and events. -/

namespace Sys2Proof.Machine

/-! ### Effects that keep the queue, the time, module memory and the core voltage -/

/-- With the rails on, an effect that keeps these four itself is the whole of the next state. -/
theorem act_on_of_kept {s : State} {t : Nat} {f : State → State} (hp : s.railsOn) (hnow : (f (s.at t)).now = (s.at t).now)
    (hpending : (f (s.at t)).pending = (s.at t).pending) (hhbm : (f (s.at t)).hbm = (s.at t).hbm)
    (hvcore : (f (s.at t)).vcore = (s.at t).vcore) : act t true s f = .next (f (s.at t)) := by
  simp only [State.at_now, State.at_pending, State.at_hbm, State.at_vcore] at hnow hpending hhbm hvcore
  simp only [act, if_true, State.runAt_on t f hp, ← hnow, ← hpending, ← hhbm, ← hvcore]

/-- A rail that keeps its voltage keeps the core's record. -/
theorem State.railCore_of_vcore_eq {s u : State} (t : Nat) (hs : s.railOk) (h : u.vcore = s.vcore) :
    s.railCore u t = u.core := by
  rw [State.railCore, h, if_pos (railVolt_of_range hs)]

/-- An effect that may set the core voltage but changes nothing lets time pass and does nothing else. -/
theorem actVolt_idle {s : State} {t : Nat} {f : State → State} (hs : s.railOk) (hf : f (s.at t) = s.at t) :
    actVolt t true s f = .next (s.at t) := by
  have hrun : s.runAt t f = s.at t := by rw [State.runAt, hf, ite_self]
  simp only [actVolt, if_true, hrun, State.railCore_of_vcore_eq t hs (State.at_vcore s t), State.at_vcore,
    railVolt_of_range hs]
  rfl

/-! ### The NMT commands -/

/-- Without a node-ID conflict, a restart of the CAN communication state ends session 1, makes the port operational and sends the
boot-up message; it changes no more than the sessions and the messages sent. -/
theorem State.restartCan_of_noConflict {s : State} (h : s.sess.can.conflict = false) :
    s.restartCan =
      { s with
        sess := { s.sess with tbl := Tbl.erase s.sess.tbl 1, can := {} }
        out := .canHeartbeat (s.ob 0x1100 1) 0 :: s.out } := by
  simp only [State.restartCan, h]
  rfl

/-- What R574 asks of both NMT resets, of any command that restarts the CAN communication state. -/
theorem done_of_restartCan {c : Instr} {s : State} {t : Nat} (hc : exec c s = act t true s State.restartCan)
    (hp : s.railsOn) (h : s.sess.can.conflict = false) :
    Done c s fun u =>
      Out.canHeartbeat (s.ob 0x1100 1) 0 ∈ u.out ∧ u.sess = { s.sess with tbl := Tbl.erase s.sess.tbl 1, can := {} } ∧
      u = { (s.at t) with sess := u.sess, out := u.out } ∧ u.railsOn := by
  have hr := State.restartCan_of_noConflict (s := s.at t) h
  have hnext : exec c s = .next (s.at t).restartCan := by
    rw [hc]
    apply act_on_of_kept hp <;> rw [hr]
  rw [hr] at hnext
  exact ⟨_, hnext, List.mem_cons_self, rfl, rfl, hp⟩

/-- NMT Stop changes the NMT state alone. -/
theorem exec_nmtStop_on {s : State} (t : Nat) (hp : s.railsOn) :
    exec (.nmtStop t) s = .next ((s.at t).setCan { s.sess.can with nmt := .stopped }) :=
  act_on_of_kept (f := nmtStop) hp rfl rfl rfl rfl

/-! ### A stopped port -/

theorem State.canServes_of_stopped {s : State} (h : s.sess.can.nmt = .stopped) : s.canServes = false := by
  simp [State.canServes, h]

theorem State.emcyOn_of_stopped {s : State} (h : s.sess.can.nmt = .stopped) : s.emcyOn = false := by
  simp [State.emcyOn, h]

/-- A stopped port takes no request, whichever service brings it. -/
theorem State.canRequest_of_stopped {s : State} (req : CanReq) (h : s.sess.can.nmt = .stopped) : s.canRequest req = s := by
  rw [State.canRequest, if_pos (State.canServes_of_stopped h)]

/-- A command that brings a request to a stopped port lets time pass and does nothing else. -/
theorem done_canRequest_of_stopped {c : Instr} {s : State} {t : Nat} {req : CanReq}
    (hc : exec c s = actVolt t true s (State.canRequest · req)) (hs : s.railOk) (h : s.sess.can.nmt = .stopped) :
    Done c s fun u => u = s.at t :=
  ⟨_, hc.trans (actVolt_idle hs (State.canRequest_of_stopped req h)), rfl⟩

/-! ### Events -/

/-- An interrupt of a near port sends its message or sends nothing. -/
theorem State.pfInterrupt_out (s : State) (p v : Nat) :
    (s.pfInterrupt p v).out = s.out ∨ ∃ a d, (s.pfInterrupt p v).out = .msix p v a d :: s.out := by
  unfold State.pfInterrupt
  dsimp only
  split
  · exact .inr ⟨_, _, rfl⟩
  · exact .inl rfl

@[simp] theorem State.pfInterrupt_ev (s : State) (p v : Nat) : (s.pfInterrupt p v).ev = s.ev := by
  unfold State.pfInterrupt
  dsimp only
  split <;> rfl

/-- An interrupt of a near port sends no EMCY. -/
@[simp] theorem State.emcy_mem_pfInterrupt_out (s : State) (p v c w k r : Nat) (x : Option EventRec) :
    Out.emcy c w k r x ∈ (s.pfInterrupt p v).out ↔ Out.emcy c w k r x ∈ s.out := by
  obtain h | ⟨a, d, h⟩ := s.pfInterrupt_out p v <;> simp [h]

/-- The messages to subscribed sessions are no EMCY. -/
theorem State.emcy_not_mem_eventOuts (s : State) (e : EventRec) (c w k r : Nat) (x : Option EventRec) :
    Out.emcy c w k r x ∉ s.eventOuts e := by
  simp [State.eventOuts]

/-- The log entry that an event makes (R580). -/
def State.eventRec (s : State) (e : Ev) (co : Bool) (data : List Nat) : EventRec :=
  ⟨s.ev.seq + 1, s.ptpNow, e, decide (s.ob 0x3020 7 = 2 ∨ s.ob 0x3020 7 = 3), co, data⟩

/-- Every event enters the log as its newest entry, whatever the state of the CAN port. -/
theorem State.logEvent_log (s : State) (e : Ev) (co : Bool) (data : List Nat) :
    (s.logEvent e co data).ev.log = (s.eventRec e co data :: s.ev.log).take 4096 := by
  unfold State.logEvent
  dsimp only
  split <;> split <;> simp [State.eventRec]

theorem State.logEvent_told (s : State) (e : Ev) (co : Bool) (data : List Nat) : (s.logEvent e co data).told e data := by
  refine ⟨s.eventRec e co data, ?_, rfl, rfl⟩
  rw [State.logEvent_log, List.take_succ_cons]
  exact List.mem_cons_self

/-- While EMCY is halted, an event sends none. -/
theorem State.emcy_of_mem_logEvent_out {s : State} {e : Ev} {co : Bool} {data : List Nat} {c w k r : Nat}
    {x : Option EventRec} (hoff : s.emcyOn = false) (h : Out.emcy c w k r x ∈ (s.logEvent e co data).out) :
    Out.emcy c w k r x ∈ s.out := by
  unfold State.logEvent at h
  dsimp only at h
  split at h <;> split at h <;> simpa [hoff, State.emcy_not_mem_eventOuts] using h

/-! ### The claim -/

/-- Settles O11: both NMT resets are a restart of the CAN communication state, and a stopped port takes no request and sends no
EMCY, while `State.logEvent` writes the log whatever the NMT state. -/
theorem nmtRules : Obligations.NmtRules := by
  unfold Obligations.NmtRules
  refine ⟨rfl, fun s t hp hs => ⟨done_of_restartCan rfl hp, done_of_restartCan rfl hp,
    ⟨_, exec_nmtStop_on t hp, rfl, rfl⟩, fun hstop => ⟨fun req => ?sdo, fun req => ?usdo, fun e co data => ⟨?log, ?emcy⟩⟩⟩⟩
  case sdo => exact done_canRequest_of_stopped (req := req) rfl hs hstop
  case usdo => exact done_canRequest_of_stopped (req := req) rfl hs hstop
  case log => exact s.logEvent_told e co data
  case emcy => exact fun c w k r x h => State.emcy_of_mem_logEvent_out (State.emcyOn_of_stopped hstop) h

end Sys2Proof.Machine
end

section
/-! The proofs from here on are elaborated one after the other: side by side, the stacks of their threads take more memory than the check
allows. -/
set_option Elab.async false

section
/-! SUPPORT and CLAIM. The five shapes of a meaning, and what follows from a command's shape alone: every command completes, the
queue and the time (log entries 1, 122), the range of the core voltage (02 R57), and who may change module memory and the core
voltage. -/

namespace Sys2Proof.Machine

/-! ### The shape of each command -/

/-- What a command on an input pin does while only housekeeping runs: the level is followed. -/
def pinEffect : Instr → State → State
  | .cagePresenceChange _ cage present plug => fun u => u.setCage cage { u.cage cage with level := present, fitted := plug }
  | .npPerstDeassert _ port => npPerstPin port false
  | .nearPortLinkUp _ port width rate => fun u => u.when (u.nport port).training.isSome fun u => u.npTrained port width rate
  | .npReset _ port kind => if kind = .perstAssert then npPerstPin port true else id
  | .npConfigRequest _ port func offset w => npConfigRequest port func offset w
  | .yieldInAssert _ => fun u => u.yieldPin true
  | .yieldInDeassert _ => fun u => u.yieldPin false
  | .managementSidebandChange _ port which level => fun u => u.mgmtPin port which level
  | _ => id

/-- What a command's meaning runs through, told from the kinds of command that the statements name: an input pin, the housekeeping
circuits, the rail of the core, module memory, or an effect on everything else. -/
def HasShape (i : Instr) (s : State) : Prop :=
  if followsPin i || asksConfig i then ∃ t f, exec i s = actPin t (Instr.wf i) s (pinEffect i) f
  else if runsUnpowered i then ∃ t f, exec i s = actAll t (Instr.wf i) s f
  else if setsVoltage i then ∃ t f, exec i s = actVolt t (Instr.wf i) s f
  else if movesData i then ∃ t f, exec i s = actMem t (Instr.wf i) s f
  else ∃ t f, exec i s = act t (Instr.wf i) s f

theorem exec_hasShape (i : Instr) (s : State) : HasShape i s := by
  cases i <;> exact ⟨_, _, rfl⟩

/-- Every command runs through one of the five shapes, the one of its kind, and acts only where its operands name units of the
module. -/
theorem exec_shape (i : Instr) (s : State) :
    (runsUnpowered i = true ∧ ∃ t f, exec i s = actAll t (Instr.wf i) s f) ∨
    (setsVoltage i = true ∧ ∃ t f, exec i s = actVolt t (Instr.wf i) s f) ∨
    (movesData i = true ∧ ∃ t f, exec i s = actMem t (Instr.wf i) s f) ∨
    ((followsPin i || asksConfig i) = true ∧ ∃ t f, exec i s = actPin t (Instr.wf i) s (pinEffect i) f) ∨
    ∃ t f, exec i s = act t (Instr.wf i) s f := by
  have h := exec_hasShape i s
  unfold HasShape at h
  split_ifs at h with hp hr hv hm
  · exact .inr (.inr (.inr (.inl ⟨hp, h⟩)))
  · exact .inl ⟨hr, h⟩
  · exact .inr (.inl ⟨hv, h⟩)
  · exact .inr (.inr (.inl ⟨hm, h⟩))
  · exact .inr (.inr (.inr (.inr h)))

theorem exec_actPin {i : Instr} (s : State) (hp : (followsPin i || asksConfig i) = true) :
    ∃ t f, exec i s = actPin t (Instr.wf i) s (pinEffect i) f := by
  have h := exec_hasShape i s
  rwa [HasShape, if_pos hp] at h

/-! ### Completion, the queue and the time -/

/-- Settles O3, from the shapes: each answers a next state, and where the operands name no unit it is the one before at the
command's instant. -/
theorem wellFormedCompletes : Obligations.WellFormedCompletes := by
  intro i s
  obtain ⟨-, t, f, h⟩ | ⟨-, t, f, h⟩ | ⟨-, t, f, h⟩ | ⟨-, t, f, h⟩ | ⟨t, f, h⟩ := exec_shape i s <;>
    · rw [h]
      cases Instr.wf i with
      | true => exact ⟨_, rfl, nofun⟩
      | false => exact ⟨s.at t, rfl, fun _ => rfl⟩

/-- Settles O4, from what each shape leaves. -/
theorem queueAndTime : Obligations.QueueAndTime := by
  intro i s u hu
  have key : ∃ t, u.pending = s.pending ∧ u.now = max s.now t := by
    obtain ⟨-, t, f, h⟩ | ⟨-, t, f, h⟩ | ⟨-, t, f, h⟩ | ⟨-, t, f, h⟩ | ⟨t, f, h⟩ := exec_shape i s <;> rw [h] at hu
    · obtain ⟨hq, hn, -⟩ := actAll_next hu
      exact ⟨t, hq, hn⟩
    · obtain ⟨hq, hn, -⟩ := actVolt_next hu
      exact ⟨t, hq, hn⟩
    · obtain ⟨hq, hn, -⟩ := actMem_next hu
      exact ⟨t, hq, hn⟩
    · obtain ⟨hq, hn, -⟩ := actPin_next hu
      exact ⟨t, hq, hn⟩
    · obtain ⟨hq, hn, -⟩ := act_next hu
      exact ⟨t, hq, hn⟩
  obtain ⟨t, hq, hn⟩ := key
  exact ⟨hq, hn ▸ le_max_left _ _⟩

/-- Settles O1: no command, no step. -/
theorem emptyQueueIdles : Obligations.EmptyQueueIdles := by
  intro s h
  rw [step, h]

/-- Settles O13: the front of the queue runs on the rest. -/
theorem stepRunsFront : Obligations.StepRunsFront := by
  unfold Obligations.StepRunsFront
  intros
  rfl

/-! ### The core voltage -/

/-- A command outside the trim loop, the barometers and the power input leaves the core voltage. -/
theorem exec_vcore {i : Instr} {s u : State} (hv : setsVoltage i = false) (hr : runsUnpowered i = false)
    (hu : exec i s = .next u) : u.vcore = s.vcore := by
  obtain ⟨h', -⟩ | ⟨h', -⟩ | ⟨-, t, f, h⟩ | ⟨-, t, f, h⟩ | ⟨t, f, h⟩ := exec_shape i s
  · rw [hr] at h'; cases h'
  · rw [hv] at h'; cases h'
  · rw [h] at hu
    obtain ⟨-, -, hv, -⟩ := actMem_next hu
    exact hv
  · rw [h] at hu
    obtain ⟨-, -, -, hv, -⟩ := actPin_next hu
    exact hv
  · rw [h] at hu
    obtain ⟨-, -, -, hv, -⟩ := act_next hu
    exact hv

/-- Settles O8. -/
theorem coreVoltageKept : Obligations.CoreVoltageKept := fun _ _ _ hv hr hu => exec_vcore hv hr hu

/-- Whatever a command does, the voltage stays or the rail takes it inside the trim range. -/
theorem exec_vcore_cases {i : Instr} {s u : State} (hu : exec i s = .next u) :
    u.vcore = s.vcore ∨ ∃ v, u.vcore = railVolt v := by
  obtain ⟨-, t, f, h⟩ | ⟨-, t, f, h⟩ | ⟨-, t, f, h⟩ | ⟨-, t, f, h⟩ | ⟨t, f, h⟩ := exec_shape i s <;> rw [h] at hu
  · obtain ⟨-, -, ⟨-, rfl⟩ | ⟨-, rfl⟩⟩ := actAll_next hu
    exacts [.inl rfl, .inr ⟨_, rfl⟩]
  · obtain ⟨-, -, -, ⟨-, rfl⟩ | ⟨-, rfl⟩⟩ := actVolt_next hu
    exacts [.inl rfl, .inr ⟨_, rfl⟩]
  · obtain ⟨-, -, hv, -⟩ := actMem_next hu
    exact .inl hv
  · obtain ⟨-, -, -, hv, -⟩ := actPin_next hu
    exact .inl hv
  · obtain ⟨-, -, -, hv, -⟩ := act_next hu
    exact .inl hv

/-- A step idles or runs the command at the front of the queue. -/
theorem step_cases {s u : State} (h : step s = .next u) :
    u = s ∨ ∃ i rest, s.pending = i :: rest ∧ exec i { s with pending := rest } = .next u := by
  unfold step at h
  split at h
  · cases h; exact .inl rfl
  · next i rest hq => exact .inr ⟨i, rest, hq, h⟩

/-- Settles O5: the rail takes every voltage inside the trim range and on its steps (`railVolt_range`), and no shape of a meaning
sets the core voltage otherwise. -/
theorem railInvariant : Obligations.RailInvariant := by
  intro s u hs hu
  obtain rfl | ⟨i, rest, -, hi⟩ := step_cases hu
  · exact hs
  · obtain hv | ⟨v, hv⟩ := exec_vcore_cases hi
    · rw [State.railOk, hv]; exact hs
    · rw [State.railOk, hv]; exact railVolt_range v

/-! ### Module memory -/

/-- A command that moves no data and is none of the power input leaves module memory. -/
theorem exec_hbm {i : Instr} {s u : State} (hm : movesData i = false) (hr : runsUnpowered i = false)
    (hu : exec i s = .next u) : u.hbm = s.hbm := by
  obtain ⟨h', -⟩ | ⟨-, t, f, h⟩ | ⟨h', -⟩ | ⟨-, t, f, h⟩ | ⟨t, f, h⟩ := exec_shape i s
  · rw [hr] at h'; cases h'
  · rw [h] at hu
    obtain ⟨-, -, hh, -⟩ := actVolt_next hu
    exact hh
  · rw [hm] at h'; cases h'
  · rw [h] at hu
    obtain ⟨-, -, hh, -⟩ := actPin_next hu
    exact hh
  · rw [h] at hu
    obtain ⟨-, -, hh, -⟩ := act_next hu
    exact hh

/-- Settles O7. -/
theorem moduleMemoryKept : Obligations.ModuleMemoryKept := by
  intro i s u hm hr hu a
  rw [exec_hbm hm hr hu]

/-! ### A module that does not run (15 R540, 12 R407) -/

/-- Following a pin changes the Ethernet ports, the lands, the near ports or the twin link, and nothing else. -/
theorem pinEffect_frame {i : Instr} (h : followsPin i = true) (v : State) :
    ∃ e l n w, pinEffect i v = { v with eth := e, land := l, np := n, twin := w } := by
  cases i with
  | cagePresenceChange | npPerstDeassert | yieldInAssert | yieldInDeassert | managementSidebandChange => exact ⟨_, _, _, _, rfl⟩
  | nearPortLinkUp t port width rate =>
    cases ht : (v.nport port).training.isSome <;> simp only [pinEffect, State.when, ht] <;> exact ⟨_, _, _, _, rfl⟩
  | npReset t port kind => cases kind <;> exact ⟨_, _, _, _, rfl⟩
  | _ => cases h

/-- A port that is not ready answers a configuration request or hears nothing of it. -/
theorem npConfigRequest_notReady {v : State} {p func offset : Nat} {w : Option Nat} (h : (v.nport p).ready = false) :
    ∃ o, npConfigRequest p func offset w v = { v with out := o } := by
  simp only [npConfigRequest, h, if_true]
  split <;> exact ⟨_, rfl⟩

theorem pinEffect_asksConfig {i : Instr} {v : State} (h : asksConfig i = true) (hw : Instr.wf i = true)
    (hn : ∀ p < 2, (v.nport p).ready = false) :
    ∃ o, pinEffect i v = { v with out := o } := by
  cases i with
  | npConfigRequest t p func offset w =>
    simp only [Instr.wf, isNearPort, Bool.and_eq_true, decide_eq_true_eq] at hw
    exact npConfigRequest_notReady (hn p hw.1)
  | _ => cases h

/-- While the module does not run, a command with no pin only lets time pass. -/
theorem exec_off {i : Instr} {s u : State} (ho : s.pwr.off = true) (hs : s.railOk) (hr : runsUnpowered i = false)
    (hp : (followsPin i || asksConfig i) = false) (hu : exec i s = .next u) : u = { s with now := u.now } := by
  obtain ⟨h', -⟩ | ⟨-, t, f, h⟩ | ⟨-, t, f, h⟩ | ⟨h', -⟩ | ⟨t, f, h⟩ := exec_shape i s
  · rw [hr] at h'; cases h'
  · rw [h] at hu
    obtain ⟨-, -, -, ⟨-, rfl⟩ | ⟨-, rfl⟩⟩ := actVolt_next hu
    · rfl
    · rw [State.runAt_off t f ho, State.railCore_of_vcore_eq t hs (State.at_vcore s t), State.at_vcore, railVolt_of_range hs]
      rfl
  · rw [h] at hu
    obtain ⟨-, -, -, ⟨-, rfl⟩ | ⟨-, hon, -⟩⟩ := actMem_next hu
    · rfl
    · rw [ho] at hon; cases hon
  · rw [hp] at h'; cases h'
  · rw [h] at hu
    obtain ⟨-, -, -, -, ⟨-, rfl⟩ | ⟨-, hon, -⟩⟩ := act_next hu
    · rfl
    · rw [ho] at hon; cases hon

/-- While the module does not run, a command on a pin does what it does to the pin, or nothing. -/
theorem exec_off_pin {i : Instr} {s u : State} (ho : s.pwr.off = true) (hp : (followsPin i || asksConfig i) = true)
    (hu : exec i s = .next u) :
    ∃ t, u = s.at t ∨
      Instr.wf i = true ∧ u = { pinEffect i (s.at t) with now := max s.now t, pending := s.pending, hbm := s.hbm, vcore := s.vcore } := by
  obtain ⟨t, f, h⟩ := exec_actPin s hp
  rw [h] at hu
  obtain ⟨-, -, -, -, ⟨-, rfl⟩ | ⟨hw, rfl⟩⟩ := actPin_next hu
  · exact ⟨t, .inl rfl⟩
  · exact ⟨t, .inr ⟨hw, by rw [if_pos ho]⟩⟩

/-- Settles O2, by evaluation: the reset state is a literal. -/
theorem resetState : Obligations.ResetState := by
  unfold Obligations.ResetState
  decide

/-- Settles O9: only the meanings of the housekeeping circuits and of the pins act with the rails off. -/
theorem offOnlyTimePasses : Obligations.OffOnlyTimePasses := by
  intro i s u ho hs hr hu
  refine ⟨fun hp ha => exec_off ho hs hr (by rw [hp, ha]; rfl) hu, fun hp => ?_, fun ha hn => ?_⟩
  · obtain ⟨t, rfl | ⟨-, rfl⟩⟩ := exec_off_pin ho (by rw [hp]; rfl) hu
    · rfl
    · obtain ⟨e, l, n, w, he⟩ := pinEffect_frame hp (s.at t)
      rw [he]
      rfl
  · obtain ⟨t, rfl | ⟨hw, rfl⟩⟩ := exec_off_pin ho (by rw [ha, Bool.or_true]) hu
    · rfl
    · obtain ⟨o, he⟩ := pinEffect_asksConfig (v := s.at t) ha hw hn
      rw [he]
      rfl

/-! ### The restart after a thermal shutdown (18 Table 3) -/

/-- An effect of the housekeeping circuits that keeps the queue, the time and the core voltage is the whole of the next state. -/
theorem actAll_of_kept {s : State} {t : Nat} {f : State → State} (hs : s.railOk) (hnow : (f (s.at t)).now = (s.at t).now)
    (hpending : (f (s.at t)).pending = (s.at t).pending) (hvcore : (f (s.at t)).vcore = (s.at t).vcore) :
    actAll t true s f = .next (f (s.at t)) := by
  simp only [State.at_now, State.at_pending, State.at_vcore] at hnow hpending hvcore
  simp only [actAll, if_true, State.railCore_of_vcore_eq t hs hvcore, hvcore, railVolt_of_range hs]
  simp only [← hnow, ← hpending, ← hvcore]

/-- Settles O54. -/
theorem Claims.thermalRestart : Obligations.ThermalRestart := by
  intro s t tj hh ho hs
  have hcool : tj < 950 → Machine.thermalRestart tj (s.at t) = { s.at t with land := { s.land with hot := false } } := by
    intro h
    simp [Machine.thermalRestart, hh, ho, h]
  have hwarm : 950 ≤ tj → Machine.thermalRestart tj (s.at t) = s.at t := by
    intro h
    simp [Machine.thermalRestart, Int.not_lt.2 h]
  constructor <;> intro h
  · exact ⟨_, actAll_of_kept hs (by rw [hcool h]) (by rw [hcool h]) (by rw [hcool h]), hcool h⟩
  · exact ⟨_, actAll_of_kept hs (by rw [hwarm h]) (by rw [hwarm h]) (by rw [hwarm h]), hwarm h⟩

end Sys2Proof.Machine
end

section
/-! SUPPORT and CLAIM. The header of a cell (03 Table 1): every field stands at its bits, and the header check holds. -/

namespace Sys2Proof.Machine

/-! ### The codes of the narrow fields -/

theorem posOfCode_posCode (p : CellPos) : posOfCode (posCode p) = p := by cases p <;> rfl

theorem posCode_lt (p : CellPos) : posCode p < 4 := by cases p <;> decide

theorem flagBit_lt (b : Bool) : flagBit b < 2 := by cases b <;> decide

theorem flagBit_inj {a b : Bool} (h : flagBit a = flagBit b) : a = b := by
  cases a <;> cases b <;> simp_all [flagBit]

/-! ### The check -/

theorem crc16Bit_lt (c : Nat) (b : Bool) : crc16Bit c b < 2 ^ 16 := by
  have hd : c * 2 % 65536 < 2 ^ 16 := Nat.mod_lt _ (by decide)
  simp only [crc16Bit]
  split
  · exact Nat.xor_lt_two_pow hd (by decide)
  · exact hd

theorem crc16_lt (bytes : List Nat) : crc16 bytes < 2 ^ 16 := by
  rw [crc16]
  refine List.foldlRecOn bytes _ (motive := (· < 2 ^ 16)) (by decide) fun c hc b _ => ?_
  exact List.foldlRecOn _ _ (motive := (· < 2 ^ 16)) hc fun d _ k _ => crc16Bit_lt d (bit b k)

/-! ### The fields -/

/-- The values that 03 Table 1 admits in the fields of a cell. -/
structure CellAdmitted (c : Cell) : Prop where
  dst : c.flow.dst < 128
  src : c.flow.src < 128
  sub : c.flow.sub < 4
  cls : c.flow.cls < 8
  epoch : c.epoch < 16
  len_pos : 1 ≤ c.body.len
  len_le : c.body.len ≤ 128
  tenant : c.body.tenant < 4096
  addr : c.body.addr < 2 ^ 48

theorem CellAdmitted.of_flow {c : Cell} (hf : isFlow c.flow = true) (he : c.epoch < 16) (h1 : 1 ≤ c.body.len)
    (h2 : c.body.len ≤ 128) (ht : c.body.tenant < 4096) (ha : c.body.addr < 2 ^ 48) : CellAdmitted c := by
  simp only [isFlow, decide_eq_true_eq] at hf
  obtain ⟨hs, hd, hu, hc⟩ := hf
  exact ⟨by omega, by omega, hu, hc, he, h1, h2, ht, ha⟩

/-- The fields of an admitted cell, each at its place. -/
theorem cellFields_eq {c : Cell} (h : CellAdmitted c) :
    cellFields c = c.flow.dst * 2 ^ 105 + c.flow.src * 2 ^ 98 + c.flow.sub * 2 ^ 96 + c.flow.cls * 2 ^ 93 + c.epoch * 2 ^ 89 +
      c.seq.toNat * 2 ^ 73 + posCode c.body.pos * 2 ^ 71 + flagBit c.body.stomp * 2 ^ 70 + flagBit c.probe * 2 ^ 69 +
      flagBit c.body.copy * 2 ^ 68 + c.body.len % 128 * 2 ^ 61 + c.body.tenant * 2 ^ 49 + c.body.addr := by
  rw [cellFields, Nat.mod_eq_of_lt h.dst, Nat.mod_eq_of_lt h.src, Nat.mod_eq_of_lt h.sub, Nat.mod_eq_of_lt h.cls,
    Nat.mod_eq_of_lt h.epoch, Nat.mod_eq_of_lt h.tenant, Nat.mod_eq_of_lt h.addr]
  ring

/-- What the header of an admitted cell holds at the bits of 03 Table 1. -/
theorem cellHeader_fields {c : Cell} (h : CellAdmitted c) :
    cellHeader c < 2 ^ 128 ∧ cellHeader c % 65536 = headerCheck (cellFields c) ∧ cellHeader c / 65536 % 2 ^ 112 = cellFields c ∧
    cellHeader c / 2 ^ 121 % 128 = c.flow.dst ∧ cellHeader c / 2 ^ 114 % 128 = c.flow.src ∧
    cellHeader c / 2 ^ 112 % 4 = c.flow.sub ∧ cellHeader c / 2 ^ 109 % 8 = c.flow.cls ∧
    cellHeader c / 2 ^ 105 % 16 = c.epoch ∧ cellHeader c / 2 ^ 89 % 65536 = c.seq.toNat ∧
    cellHeader c / 2 ^ 87 % 4 = posCode c.body.pos ∧ cellHeader c / 2 ^ 86 % 2 = flagBit c.body.stomp ∧
    cellHeader c / 2 ^ 85 % 2 = flagBit c.probe ∧ cellHeader c / 2 ^ 84 % 2 = flagBit c.body.copy ∧
    cellHeader c / 2 ^ 77 % 128 = c.body.len % 128 ∧ cellHeader c / 2 ^ 65 % 4096 = c.body.tenant ∧
    cellHeader c / 2 ^ 64 % 2 = 0 ∧ cellHeader c / 2 ^ 16 % 2 ^ 48 = c.body.addr := by
  have hcheck : headerCheck (cellFields c) < 2 ^ 16 := crc16_lt _
  have hseq := c.seq.isLt
  have hpos := posCode_lt c.body.pos
  have hstomp := flagBit_lt c.body.stomp
  have hprobe := flagBit_lt c.probe
  have hcopy := flagBit_lt c.body.copy
  rw [cellHeader]
  generalize headerCheck (cellFields c) = k at hcheck ⊢
  rw [cellFields_eq h]
  obtain ⟨hdst, hsrc, hsub, hcls, hepoch, -, -, htenant, haddr⟩ := h
  refine ⟨?_, ?_, ?_, ?_, ?_, ?_, ?_, ?_, ?_, ?_, ?_, ?_, ?_, ?_, ?_, ?_, ?_⟩ <;> omega

/-- Settles O16: a header gives back every field, so two admitted cells with one header agree in all of them. -/
theorem cellHeaderFields : Obligations.CellHeaderFields := by
  intro c hf he h1 h2 ht ha
  obtain ⟨hlt, hck, hfl, hdst, hsrc, hsub, hcls, hep, hseq, hpos, hst, hpr, hcp, hlen, hten, hres, had⟩ :=
    cellHeader_fields (.of_flow hf he h1 h2 ht ha)
  refine ⟨hlt, ?_, hdst, hsrc, hsub, hcls, hep, hseq, ?_, hst, hpr, hcp, hlen, hten, hres, had, ?_⟩
  · rw [headerOk, hck, hfl]
    exact decide_eq_true rfl
  · rw [hpos, posOfCode_posCode]
  · intro d hf' he' h1' h2' ht' ha' heq
    obtain ⟨-, -, -, hdst', hsrc', hsub', hcls', hep', hseq', hpos', hst', hpr', hcp', hlen', hten', -, had'⟩ :=
      cellHeader_fields (.of_flow hf' he' h1' h2' ht' ha')
    rw [← heq] at hdst' hsrc' hsub' hcls' hep' hseq' hpos' hst' hpr' hcp' hlen' hten' had'
    refine ⟨?_, hep.symm.trans hep', BitVec.eq_of_toNat_eq (hseq.symm.trans hseq'), flagBit_inj (hpr.symm.trans hpr'), ?_,
      flagBit_inj (hst.symm.trans hst'), flagBit_inj (hcp.symm.trans hcp'), ?_, hten.symm.trans hten', had.symm.trans had'⟩
    · have hflow : c.flow = ⟨c.flow.src, c.flow.dst, c.flow.sub, c.flow.cls⟩ := rfl
      rw [hflow, hsrc.symm.trans hsrc', hdst.symm.trans hdst', hsub.symm.trans hsub', hcls.symm.trans hcls']
    · rw [← posOfCode_posCode c.body.pos, hpos.symm.trans hpos', posOfCode_posCode]
    · omega

end Sys2Proof.Machine
end

section
/-! SUPPORT. What the shared operations of a meaning leave as it was, and how the next state of a command that acts with the rails
on reads. -/

namespace Sys2Proof.Machine

/-! ### Object keys -/

/-- Two objects with indices, rows and sub-indices in their ranges are one only where all three agree (16 R552). -/
@[simp] theorem objKey_inj {i r k i' r' k' : Nat} :
    objKey i r k = objKey i' r' k' ↔ i % 65536 = i' % 65536 ∧ r % 18446744073709551616 = r' % 18446744073709551616 ∧ k % 256 = k' % 256 := by
  simp only [objKey]
  omega

@[simp] theorem State.val_put (s : State) (i r k n i' r' k' : Nat) :
    (s.put i r k n).val i' r' k' = if objKey i r k = objKey i' r' k' then .nat n else s.val i' r' k' := State.val_setVal ..

@[simp] theorem State.o_setVal (s : State) (i r k i' r' k' : Nat) (v : Val) :
    (s.setVal i r k v).o i' r' k' = if objKey i r k = objKey i' r' k' then v.toNat else s.o i' r' k' := by
  rw [State.o, State.val_setVal]; split <;> rfl

@[simp] theorem State.o_put (s : State) (i r k n i' r' k' : Nat) :
    (s.put i r k n).o i' r' k' = if objKey i r k = objKey i' r' k' then n else s.o i' r' k' := State.o_setVal ..

@[simp] theorem State.o_add (s : State) (i r k n i' r' k' : Nat) :
    (s.add i r k n).o i' r' k' = if objKey i r k = objKey i' r' k' then satAt i k (s.o i r k) n else s.o i' r' k' := State.o_put ..

@[simp] theorem State.o_bump (s : State) (i r k i' r' k' : Nat) :
    (s.bump i r k).o i' r' k' = if objKey i r k = objKey i' r' k' then satAt i k (s.o i r k) 1 else s.o i' r' k' := State.o_add ..

@[simp] theorem State.ob_eq (s : State) (i k : Nat) : s.ob i k = s.o i 0 k := rfl

/-! ### What an operation keeps -/

/-- `u` has every part of `s` that no message, event, object or session changes, but the near ports. -/
abbrev State.KeepsUnits (s u : State) : Prop :=
  u.now = s.now ∧ u.pending = s.pending ∧ u.hbm = s.hbm ∧ u.vcore = s.vcore ∧ u.core = s.core ∧ u.fab = s.fab ∧ u.eth = s.eth ∧
    u.ptp = s.ptp ∧ u.rdma = s.rdma ∧ u.nvme = s.nvme ∧ u.sched = s.sched ∧ u.arr = s.arr ∧ u.slot = s.slot ∧ u.dma = s.dma ∧
    u.meter = s.meter ∧ u.twin = s.twin ∧ u.pwr = s.pwr ∧ u.land = s.land ∧ u.fw = s.fw

/-- Every lookup in those parts answers the same. -/
abbrev State.KeepsReads (s u : State) : Prop :=
  (∀ j, u.qp j = s.qp j) ∧ (∀ j, u.port j = s.port j) ∧ (∀ j, u.cage j = s.cage j) ∧ (∀ j, u.eg j = s.eg j) ∧
    (∀ j, u.gate j = s.gate j) ∧ (∀ j, u.memQ j = s.memQ j) ∧ (∀ j, u.slotS j = s.slotS j) ∧ (∀ j, u.mc j = s.mc j) ∧
    (∀ j, u.chan j = s.chan j) ∧ (∀ j, u.cmd j = s.cmd j) ∧ (∀ j, u.ctrl j = s.ctrl j) ∧ (∀ j, u.ns j = s.ns j) ∧
    (∀ j, u.arrS j = s.arrS j) ∧ (∀ j, u.copyRegion j = s.copyRegion j)

theorem State.keepsReads_of_keepsUnits {s u : State} (h : s.KeepsUnits u) : s.KeepsReads u := by
  simp [State.KeepsReads, State.qp, State.port, State.cage, State.eg, State.gate, State.memQ, State.slotS, State.mc, State.chan, State.cmd,
    State.ctrl, State.ns, State.arrS, State.copyRegion, h]

/-- Every object reads the same. -/
abbrev State.KeepsObjects (s u : State) : Prop :=
  u.dict = s.dict ∧ (∀ i r k, u.val i r k = s.val i r k) ∧ (∀ i r k, u.o i r k = s.o i r k) ∧ ∀ w r, u.gen w r = s.gen w r

theorem State.keepsObjects_of_dict {s u : State} (h : u.dict = s.dict) : s.KeepsObjects u := by
  simp [State.KeepsObjects, State.o, State.val, State.gen, h]

/-- A step by step effect keeps what each step keeps. -/
theorem State.KeepsUnits.trans {s u v : State} (h : s.KeepsUnits u) (h' : u.KeepsUnits v) : s.KeepsUnits v := by
  simp_all [State.KeepsUnits]

/-! ### Events -/

theorem State.pfInterrupt_keeps (s : State) (p v : Nat) :
    s.KeepsUnits (s.pfInterrupt p v) ∧ (s.pfInterrupt p v).np = s.np ∧ (s.pfInterrupt p v).dict = s.dict ∧
      (s.pfInterrupt p v).free = s.free ∧ (s.pfInterrupt p v).sess = s.sess := by
  unfold State.pfInterrupt
  dsimp only
  split <;> simp [State.KeepsUnits]

theorem State.logEvent_keeps (s : State) (e : Ev) (co : Bool) (d : List Nat) :
    s.KeepsUnits (s.logEvent e co d) ∧ (s.logEvent e co d).np = s.np ∧ (s.logEvent e co d).dict = s.dict ∧
      (s.logEvent e co d).free = s.free := by
  unfold State.logEvent
  dsimp only
  split <;> split <;> simp [State.KeepsUnits, State.pfInterrupt_keeps]

theorem State.raiseC_keeps (s : State) (e : Ev) (co : Bool) (d : List Nat) :
    s.KeepsUnits (s.raiseC e co d) ∧ (s.raiseC e co d).np = s.np ∧ (s.raiseC e co d).dict = s.dict ∧
      (s.raiseC e co d).free = s.free := by
  unfold State.raiseC
  dsimp only
  split <;> split <;> simp [State.KeepsUnits, State.logEvent_keeps]

@[simp] theorem State.raise_units (s : State) (e : Ev) (d : List Nat) :
    s.KeepsUnits (s.raise e d) ∧ (s.raise e d).np = s.np ∧ (s.raise e d).free = s.free := by
  simp [State.KeepsUnits, State.raise, State.raiseC_keeps]

@[simp] theorem State.raise_reads (s : State) (e : Ev) (d : List Nat) :
    s.KeepsReads (s.raise e d) ∧ s.KeepsObjects (s.raise e d) ∧ ∀ j, (s.raise e d).nport j = s.nport j := by
  refine ⟨State.keepsReads_of_keepsUnits (s.raise_units e d).1, State.keepsObjects_of_dict ?_, fun j => ?_⟩
  · simp [State.raise, State.raiseC_keeps]
  · simp [State.nport]


/-- One more event moves the entries of the log back by one. -/
theorem State.logEvent_log_succ {s : State} {r : EventRec} {n : Nat} (e : Ev) (co : Bool) (d : List Nat)
    (h : s.ev.log[n]? = some r) (hn : n < 4095) : (s.logEvent e co d).ev.log[n + 1]? = some r := by
  rw [State.logEvent_log, List.getElem?_take_of_lt (by omega), List.getElem?_cons_succ, h]

theorem State.told_of_getElem? {u : State} {e : Ev} {co : Bool} {d : List Nat} {s : State} {n : Nat}
    (h : u.ev.log[n]? = some (s.eventRec e co d)) : u.told e d := ⟨_, List.mem_of_getElem? h, rfl, rfl⟩

/-- An event that is raised stands in the log, behind at most the two events of rings that it filled. -/
theorem State.raiseC_log (s : State) (e : Ev) (co : Bool) (d : List Nat) :
    ∃ n ≤ 2, (s.raiseC e co d).ev.log[n]? = some (s.eventRec e co d) := by
  have h0 : (s.logEvent e co d).ev.log[0]? = some (s.eventRec e co d) := by rw [State.logEvent_log]; rfl
  unfold State.raiseC
  dsimp only
  split <;> split
  · exact ⟨2, by omega, State.logEvent_log_succ _ _ _ (State.logEvent_log_succ _ _ _ h0 (by omega)) (by omega)⟩
  · exact ⟨1, by omega, State.logEvent_log_succ _ _ _ h0 (by omega)⟩
  · exact ⟨1, by omega, State.logEvent_log_succ _ _ _ h0 (by omega)⟩
  · exact ⟨0, by omega, h0⟩

@[simp] theorem State.told_raise (s : State) (e : Ev) (d : List Nat) : (s.raise e d).told e d := by
  obtain ⟨n, -, h⟩ := s.raiseC_log e false d
  exact State.told_of_getElem? h

/-- What was sent before an interrupt stays sent. -/
theorem State.mem_pfInterrupt_out {s : State} {o : Out} (p v : Nat) (h : o ∈ s.out) : o ∈ (s.pfInterrupt p v).out := by
  obtain h' | ⟨a, d, h'⟩ := s.pfInterrupt_out p v <;> simp [h', h]

/-- What was sent before an event stays sent. -/
theorem State.mem_logEvent_out {s : State} {o : Out} (e : Ev) (co : Bool) (d : List Nat) (h : o ∈ s.out) :
    o ∈ (s.logEvent e co d).out := by
  unfold State.logEvent
  dsimp only
  split <;> split <;> simp [State.mem_pfInterrupt_out, h]

theorem State.mem_raise_out {s : State} {o : Out} (e : Ev) (d : List Nat) (h : o ∈ s.out) : o ∈ (s.raise e d).out := by
  unfold State.raise State.raiseC
  dsimp only
  have hlog : ∀ {v : State}, o ∈ v.out → ∀ e co d, o ∈ (v.logEvent e co d).out := fun hv e co d => State.mem_logEvent_out e co d hv
  split <;> split
  · exact hlog (hlog (hlog h _ _ _) _ _ _) _ _ _
  · exact hlog (hlog h _ _ _) _ _ _
  · exact hlog (hlog h _ _ _) _ _ _
  · exact hlog h _ _ _

/-! ### Answers -/

theorem State.sent_keeps (s : State) (sess n : Nat) :
    s.KeepsUnits (s.sent sess n) ∧ (s.sent sess n).np = s.np ∧ (s.sent sess n).dict = s.dict ∧ (s.sent sess n).free = s.free ∧
      (s.sent sess n).ev = s.ev ∧ (s.sent sess n).rings = s.rings ∧ (s.sent sess n).out = s.out := by
  unfold State.sent
  split <;> simp [State.KeepsUnits]

theorem State.mailboxAnswered_keeps (s : State) (p : Nat) :
    s.KeepsUnits (s.mailboxAnswered p) ∧ (s.mailboxAnswered p).dict = s.dict ∧ (s.mailboxAnswered p).free = s.free ∧
      (s.mailboxAnswered p).ev = s.ev ∧ (s.mailboxAnswered p).sess = s.sess ∧ ∀ o ∈ s.out, o ∈ (s.mailboxAnswered p).out := by
  unfold State.mailboxAnswered
  dsimp only
  split
  · simp [State.KeepsUnits]
  · split
    · simp +contextual [State.KeepsUnits, State.pfInterrupt_keeps, State.mem_pfInterrupt_out]
    · simp [State.KeepsUnits]

theorem State.reply_eq_or (s : State) (sess : Nat) (c : Abort) (v : Option Val) :
    s.reply sess c v = (s.sent sess 1).emit (.reply sess c v) ∨
      s.reply sess c v = ((s.sent sess 1).emit (.reply sess c v)).mailboxAnswered (sess - 2) := by
  unfold State.reply
  dsimp only
  split
  · exact .inr rfl
  · exact .inl rfl

@[simp] theorem State.reply_units (s : State) (sess : Nat) (c : Abort) (v : Option Val) :
    s.KeepsUnits (s.reply sess c v) ∧ (s.reply sess c v).free = s.free ∧ (s.reply sess c v).ev = s.ev := by
  obtain h | h := s.reply_eq_or sess c v <;> simp [h, State.KeepsUnits, State.mailboxAnswered_keeps, State.sent_keeps]

@[simp] theorem State.reply_reads (s : State) (sess : Nat) (c : Abort) (v : Option Val) :
    s.KeepsReads (s.reply sess c v) ∧ s.KeepsObjects (s.reply sess c v) := by
  refine ⟨State.keepsReads_of_keepsUnits (s.reply_units sess c v).1, State.keepsObjects_of_dict ?_⟩
  obtain h | h := s.reply_eq_or sess c v <;> simp [h, State.mailboxAnswered_keeps, State.sent_keeps]

/-- The answer has been sent. -/
@[simp] theorem State.mem_reply_out_self (s : State) (sess : Nat) (c : Abort) (v : Option Val) :
    Out.reply sess c v ∈ (s.reply sess c v).out := by
  obtain h | h := s.reply_eq_or sess c v <;> rw [h]
  · exact List.mem_cons_self
  · exact (State.mailboxAnswered_keeps _ _).2.2.2.2.2 _ List.mem_cons_self

/-- What was sent before stays sent. -/
theorem State.mem_reply_out {s : State} {o : Out} (sess : Nat) (c : Abort) (v : Option Val) (ho : o ∈ s.out) :
    o ∈ (s.reply sess c v).out := by
  have ho' : o ∈ ((s.sent sess 1).emit (.reply sess c v)).out := by simp [State.sent_keeps, ho]
  obtain h | h := s.reply_eq_or sess c v <;> rw [h]
  · exact ho'
  · exact (State.mailboxAnswered_keeps _ _).2.2.2.2.2 _ ho'

/-! ### Values and settings -/

@[simp] theorem State.keepVal_units (s : State) (i r k : Nat) (v : Val) :
    s.KeepsUnits (s.keepVal i r k v) ∧ (s.keepVal i r k v).np = s.np ∧ (s.keepVal i r k v).free = s.free ∧
      (s.keepVal i r k v).ev = s.ev ∧ (s.keepVal i r k v).out = s.out ∧ (s.keepVal i r k v).sess = s.sess ∧
      (s.keepVal i r k v).rings = s.rings ∧ s.KeepsReads (s.keepVal i r k v) ∧
      (∀ j, (s.keepVal i r k v).nport j = s.nport j) ∧ ∀ j, (s.keepVal i r k v).session? j = s.session? j := by
  simp [State.KeepsUnits, State.KeepsReads, State.keepVal, State.qp, State.port, State.cage, State.eg, State.gate, State.memQ,
    State.slotS, State.mc, State.chan, State.cmd, State.ctrl, State.ns, State.arrS, State.copyRegion, State.nport, State.session?]

@[simp] theorem State.val_keepVal (s : State) (i r k i' r' k' : Nat) (v : Val) :
    (s.keepVal i r k v).val i' r' k' = if objKey i r k = objKey i' r' k' then v else s.val i' r' k' :=
  State.val_setVal s i r k i' r' k' v

@[simp] theorem State.o_keepVal (s : State) (i r k i' r' k' : Nat) (v : Val) :
    (s.keepVal i r k v).o i' r' k' = if objKey i r k = objKey i' r' k' then v.toNat else s.o i' r' k' :=
  State.o_setVal s i r k i' r' k' v

theorem State.setKeep_eq_or (s : State) (i r k : Nat) (v : Val) :
    s.setKeep i r k v = s.keepVal i r k v ∨ s.setKeep i r k v = s.setVal i r k v := by
  unfold State.setKeep
  split
  · exact .inl rfl
  · exact .inr rfl

@[simp] theorem State.setKeep_units (s : State) (i r k : Nat) (v : Val) :
    s.KeepsUnits (s.setKeep i r k v) ∧ (s.setKeep i r k v).np = s.np ∧ (s.setKeep i r k v).free = s.free ∧
      (s.setKeep i r k v).ev = s.ev ∧ (s.setKeep i r k v).out = s.out ∧ (s.setKeep i r k v).sess = s.sess ∧
      (s.setKeep i r k v).rings = s.rings ∧ s.KeepsReads (s.setKeep i r k v) ∧
      (∀ j, (s.setKeep i r k v).nport j = s.nport j) ∧ ∀ j, (s.setKeep i r k v).session? j = s.session? j := by
  obtain h | h := s.setKeep_eq_or i r k v <;> simp [h, State.KeepsUnits, State.KeepsReads]

@[simp] theorem State.val_setKeep (s : State) (i r k i' r' k' : Nat) (v : Val) :
    (s.setKeep i r k v).val i' r' k' = if objKey i r k = objKey i' r' k' then v else s.val i' r' k' := by
  obtain h | h := s.setKeep_eq_or i r k v <;> simp [h, State.val_setVal]

@[simp] theorem State.o_setKeep (s : State) (i r k i' r' k' : Nat) (v : Val) :
    (s.setKeep i r k v).o i' r' k' = if objKey i r k = objKey i' r' k' then v.toNat else s.o i' r' k' := by
  obtain h | h := s.setKeep_eq_or i r k v <;> simp [h]

/-! ### Which objects change -/

theorem State.otherObjects_of_cur {s u : State} {ks : List Nat} (h : u.dict.cur = s.dict.cur) : s.otherObjects u ks := by
  intro k _
  rw [h]

theorem State.otherObjects.trans {s u v : State} {ks : List Nat} (h : s.otherObjects u ks) (h' : u.otherObjects v ks) :
    s.otherObjects v ks := fun k hk => (h' k hk).trans (h k hk)

theorem State.otherObjects_setVal (s : State) (i r k : Nat) (v : Val) {ks : List Nat} (h : objKey i r k ∈ ks) :
    s.otherObjects (s.setVal i r k v) ks := fun _ hk => Tbl.find?_set_of_ne _ _ fun e => hk (e ▸ h)

theorem State.otherObjects_keepVal (s : State) (i r k : Nat) (v : Val) {ks : List Nat} (h : objKey i r k ∈ ks) :
    s.otherObjects (s.keepVal i r k v) ks := State.otherObjects_setVal s i r k v h

/-! ### The next state of a command that acts with the rails on -/

/-- The state `v` that an effect reaches at instant `t`, with the queue, module memory and core voltage of `s`. -/
def State.after (s : State) (t : Nat) (v : State) : State :=
  { v with now := max s.now t, pending := s.pending, hbm := s.hbm, vcore := s.vcore }

@[simp] theorem State.after_units (s : State) (t : Nat) (v : State) :
    (s.after t v).now = max s.now t ∧ (s.after t v).pending = s.pending ∧ (s.after t v).hbm = s.hbm ∧
      (s.after t v).vcore = s.vcore ∧ (s.after t v).free = v.free ∧ (s.after t v).out = v.out ∧ (s.after t v).dict = v.dict ∧
      (s.after t v).sess = v.sess ∧ (s.after t v).ev = v.ev ∧ (s.after t v).rings = v.rings ∧ (s.after t v).core = v.core ∧
      (s.after t v).fab = v.fab ∧ (s.after t v).eth = v.eth ∧ (s.after t v).ptp = v.ptp ∧ (s.after t v).rdma = v.rdma ∧
      (s.after t v).nvme = v.nvme ∧ (s.after t v).sched = v.sched ∧ (s.after t v).arr = v.arr ∧ (s.after t v).slot = v.slot ∧
      (s.after t v).np = v.np ∧ (s.after t v).dma = v.dma ∧ (s.after t v).meter = v.meter ∧ (s.after t v).twin = v.twin ∧
      (s.after t v).pwr = v.pwr ∧ (s.after t v).land = v.land ∧ (s.after t v).fw = v.fw := by
  simp [State.after]

@[simp] theorem State.after_reads (s : State) (t : Nat) (v : State) :
    v.KeepsReads (s.after t v) ∧ v.KeepsObjects (s.after t v) ∧ (∀ j, (s.after t v).nport j = v.nport j) ∧
      ∀ j, (s.after t v).session? j = v.session? j :=
  ⟨⟨fun _ => rfl, fun _ => rfl, fun _ => rfl, fun _ => rfl, fun _ => rfl, fun _ => rfl, fun _ => rfl, fun _ => rfl, fun _ => rfl,
    fun _ => rfl, fun _ => rfl, fun _ => rfl, fun _ => rfl, fun _ => rfl⟩,
    ⟨rfl, fun _ _ _ => rfl, fun _ _ _ => rfl, fun _ _ => rfl⟩, fun _ => rfl, fun _ => rfl⟩

@[simp] theorem State.otherObjects_after {s v : State} (t : Nat) {ks : List Nat} (w : State) :
    s.otherObjects (w.after t v) ks ↔ s.otherObjects v ks := Iff.rfl

/-- An effect that keeps these four is the whole of the next state. -/
theorem State.after_eq {s v : State} {t : Nat} (h : (s.at t).KeepsUnits v) : s.after t v = v := by
  obtain ⟨h1, h2, h3, h4, -⟩ := h
  rw [State.at_now] at h1
  rw [State.at_pending] at h2
  rw [State.at_hbm] at h3
  rw [State.at_vcore] at h4
  rw [State.after, ← h1, ← h2, ← h3, ← h4]

@[simp] theorem State.logged_units (s u : State) :
    (s.logged u).now = u.now ∧ (s.logged u).pending = s.pending ∧ (s.logged u).hbm = s.hbm ∧ (s.logged u).vcore = s.vcore ∧
      (s.logged u).free = u.free ∧ (s.logged u).out = u.out ∧ (s.logged u).dict = u.dict ∧ (s.logged u).sess = u.sess ∧
      (s.logged u).ev = u.ev ∧ (s.logged u).rings = u.rings ∧ (s.logged u).core = s.core ∧ (s.logged u).fab = s.fab ∧
      (s.logged u).eth = s.eth ∧ (s.logged u).ptp = s.ptp ∧ (s.logged u).rdma = s.rdma ∧ (s.logged u).nvme = s.nvme ∧
      (s.logged u).sched = s.sched ∧ (s.logged u).arr = s.arr ∧ (s.logged u).slot = s.slot ∧ (s.logged u).np = s.np ∧
      (s.logged u).dma = s.dma ∧ (s.logged u).meter = s.meter ∧ (s.logged u).twin = s.twin ∧ (s.logged u).pwr = s.pwr ∧
      (s.logged u).land = s.land ∧ (s.logged u).fw = s.fw := by
  simp [State.logged]

/-- Two states with the same parts are one. -/
theorem State.eq_of_parts {u v : State}
    (h : u.now = v.now ∧ u.pending = v.pending ∧ u.hbm = v.hbm ∧ u.vcore = v.vcore ∧ u.free = v.free ∧ u.out = v.out ∧
      u.dict = v.dict ∧ u.sess = v.sess ∧ u.ev = v.ev ∧ u.rings = v.rings ∧ u.core = v.core ∧ u.fab = v.fab ∧ u.eth = v.eth ∧
      u.ptp = v.ptp ∧ u.rdma = v.rdma ∧ u.nvme = v.nvme ∧ u.sched = v.sched ∧ u.arr = v.arr ∧ u.slot = v.slot ∧ u.np = v.np ∧
      u.dma = v.dma ∧ u.meter = v.meter ∧ u.twin = v.twin ∧ u.pwr = v.pwr ∧ u.land = v.land ∧ u.fw = v.fw) : u = v := by
  cases u
  cases v
  simp_all

/-- A command over `act` that names units of the module completes while the rails are on, and its effect stands. -/
theorem done_act {i : Instr} {s : State} {t : Nat} {ok : Bool} {f : State → State} {Q : State → Prop}
    (hi : exec i s = act t ok s f) (hok : ok = true) (hp : s.railsOn) (h : ∀ u, u = s.after t (f (s.at t)) → Q u) : Done i s Q := by
  subst hok
  exact ⟨_, by rw [hi, act, if_pos rfl, State.runAt_on t f hp]; rfl, h _ rfl⟩

end Sys2Proof.Machine
end

section
/-! SUPPORT. Frames: which parts of the state an effect may change. Every operation has one lemma here or beside its other laws, which
names the parts it touches; a frame of a meaning follows by rewriting with these. -/

namespace Sys2Proof.Machine

/-- The parts of the state, and the fields of parts that frames speak of on their own. -/
inductive Part where
  | now | pending | hbm | vcore | free | out | dict | sess | ev | rings | core | fab | eth | ptp | rdma | nvme | sched | arr
  | slot | np | dma | meter | twin | pwr | land | fw
  | twinMode | take | yieldIn | yieldRec | linkLost | lostAt | held | linked | mirror | onPlane | rsq | flushes | dictGens | qpGens
  | can | mgmt | expected | lastDelivered | joining | closed | standby | health | groups | takerDone | stopped | storm | flushAll
  | slots | ctrls | nss | keks
deriving DecidableEq

/-- A part is the same in two states. -/
def Part.Same : Part → State → State → Prop
  | .now, s, u => u.now = s.now
  | .pending, s, u => u.pending = s.pending
  | .hbm, s, u => u.hbm = s.hbm
  | .vcore, s, u => u.vcore = s.vcore
  | .free, s, u => u.free = s.free
  | .out, s, u => u.out = s.out
  | .dict, s, u => u.dict = s.dict
  | .sess, s, u => u.sess = s.sess
  | .ev, s, u => u.ev = s.ev
  | .rings, s, u => u.rings = s.rings
  | .core, s, u => u.core = s.core
  | .fab, s, u => u.fab = s.fab
  | .eth, s, u => u.eth = s.eth
  | .ptp, s, u => u.ptp = s.ptp
  | .rdma, s, u => u.rdma = s.rdma
  | .nvme, s, u => u.nvme = s.nvme
  | .sched, s, u => u.sched = s.sched
  | .arr, s, u => u.arr = s.arr
  | .slot, s, u => u.slot = s.slot
  | .np, s, u => u.np = s.np
  | .dma, s, u => u.dma = s.dma
  | .meter, s, u => u.meter = s.meter
  | .twin, s, u => u.twin = s.twin
  | .pwr, s, u => u.pwr = s.pwr
  | .land, s, u => u.land = s.land
  | .fw, s, u => u.fw = s.fw
  | .twinMode, s, u => u.twin.twinMode = s.twin.twinMode
  | .take, s, u => u.twin.take = s.twin.take
  | .yieldIn, s, u => u.twin.yieldIn = s.twin.yieldIn
  | .yieldRec, s, u => u.twin.yieldRec = s.twin.yieldRec
  | .linkLost, s, u => u.twin.linkLost = s.twin.linkLost
  | .lostAt, s, u => u.twin.lostAt = s.twin.lostAt
  | .held, s, u => u.twin.held = s.twin.held
  | .linked, s, u => u.twin.linked = s.twin.linked
  | .mirror, s, u => u.twin.mirror = s.twin.mirror
  | .onPlane, s, u => u.fab.onPlane = s.fab.onPlane
  | .rsq, s, u => u.fab.rsq = s.fab.rsq
  | .flushes, s, u => u.fab.flushes = s.fab.flushes
  | .dictGens, s, u => u.dict.gens = s.dict.gens
  | .qpGens, s, u => u.rdma.gens = s.rdma.gens
  | .can, s, u => u.sess.can = s.sess.can
  | .mgmt, s, u => u.sess.mgmt = s.sess.mgmt
  | .expected, s, u => u.twin.expected = s.twin.expected
  | .lastDelivered, s, u => u.twin.lastDelivered = s.twin.lastDelivered
  | .joining, s, u => u.twin.joining = s.twin.joining
  | .closed, s, u => u.twin.closed = s.twin.closed
  | .standby, s, u => u.twin.standby = s.twin.standby
  | .health, s, u => u.twin.health = s.twin.health
  | .groups, s, u => u.twin.groups = s.twin.groups
  | .takerDone, s, u => u.twin.takerDone = s.twin.takerDone
  | .stopped, s, u => u.twin.stopped = s.twin.stopped
  | .storm, s, u => u.pwr.storm = s.pwr.storm
  | .flushAll, s, u => u.pwr.flushAll = s.pwr.flushAll
  | .slots, s, u => u.slot.slots = s.slot.slots
  | .ctrls, s, u => u.nvme.ctrls = s.nvme.ctrls
  | .nss, s, u => u.nvme.ns = s.nvme.ns
  | .keks, s, u => u.nvme.keks = s.nvme.keks

/-- `u` differs from `s` in the parts `ps` at most. -/
def State.Frame (ps : List Part) (s u : State) : Prop := ∀ p, p ∉ ps → p.Same s u

/-- The parts in which commands leave messages, events, objects and what sessions see. -/
abbrev Part.logs : List Part := [.now, .free, .out, .dict, .dictGens, .sess, .can, .mgmt, .ev, .rings]

theorem Part.Same.refl (p : Part) (s : State) : p.Same s s := by cases p <;> rfl

theorem Part.Same.trans {p : Part} {s u v : State} (h : p.Same s u) (h' : p.Same u v) : p.Same s v := by
  cases p <;> exact Eq.trans h' h

theorem Part.Same.symm {p : Part} {s u : State} (h : p.Same s u) : p.Same u s := by
  cases p <;> exact Eq.symm h

@[simp] theorem State.Frame.refl (ps : List Part) (s : State) : s.Frame ps s := fun p _ => Part.Same.refl p s

theorem State.Frame.trans {ps : List Part} {s u v : State} (h : s.Frame ps u) (h' : u.Frame ps v) : s.Frame ps v :=
  fun p hp => (h p hp).trans (h' p hp)

theorem State.Frame.mono {ps qs : List Part} {s u : State} (h : s.Frame ps u) (hs : ps ⊆ qs) : s.Frame qs u :=
  fun p hp => h p fun hm => hp (hs hm)

/-- Only the parts that differ after `u` matter. -/
theorem State.Frame.congr_right {ps : List Part} {u v : State} (h : u.Frame ps v) (s : State) : s.Frame ps v ↔ s.Frame ps u :=
  ⟨fun hv p hp => (hv p hp).trans (h p hp).symm, fun hu => hu.trans h⟩

/-- The parts proper, which make up the state. -/
def Part.whole : Part → Bool
  | .twinMode | .take | .yieldIn | .yieldRec | .linkLost | .lostAt | .held | .linked | .mirror | .onPlane | .rsq | .flushes
  | .dictGens | .qpGens | .can | .mgmt | .expected | .lastDelivered | .joining | .closed | .standby | .health | .groups | .takerDone
  | .stopped | .storm | .flushAll | .slots | .ctrls | .nss | .keks => false
  | _ => true

/-- States that agree in all parts are one. -/
theorem State.eq_of_same {u v : State} (h : ∀ p : Part, p.whole = true → p.Same u v) : v = u := by
  obtain ⟨⟩ := u
  obtain ⟨⟩ := v
  obtain rfl := h .now rfl
  obtain rfl := h .pending rfl
  obtain rfl := h .hbm rfl
  obtain rfl := h .vcore rfl
  obtain rfl := h .free rfl
  obtain rfl := h .out rfl
  obtain rfl := h .dict rfl
  obtain rfl := h .sess rfl
  obtain rfl := h .ev rfl
  obtain rfl := h .rings rfl
  obtain rfl := h .core rfl
  obtain rfl := h .fab rfl
  obtain rfl := h .eth rfl
  obtain rfl := h .ptp rfl
  obtain rfl := h .rdma rfl
  obtain rfl := h .nvme rfl
  obtain rfl := h .sched rfl
  obtain rfl := h .arr rfl
  obtain rfl := h .slot rfl
  obtain rfl := h .np rfl
  obtain rfl := h .dma rfl
  obtain rfl := h .meter rfl
  obtain rfl := h .twin rfl
  obtain rfl := h .pwr rfl
  obtain rfl := h .land rfl
  obtain rfl := h .fw rfl
  rfl

/-- A frame as the statements write it: `v` is made of the parts of `u` that may change and of the others of `s`. -/
theorem State.Frame.eq {ps : List Part} {s u v : State} (h : s.Frame ps u)
    (hv : ∀ p : Part, p.whole = true → if p ∈ ps then p.Same v u else p.Same v s := by
      intro p hp; cases p <;> first | exact rfl | exact absurd hp (by decide)) : u = v :=
  State.eq_of_same fun p hp => by
    have := hv p hp
    split at this
    · exact this
    · exact this.trans (h p ‹_›)

@[simp] theorem State.frame_ite {ps : List Part} {s u v : State} {c : Prop} {_ : Decidable c} :
    s.Frame ps (if c then u else v) ↔ if c then s.Frame ps u else s.Frame ps v := by
  split <;> rfl

/-- A state with new parts differs from the old one in these. -/
@[simp] theorem State.frame_mk {ps : List Part} {s v : State}
    {x0 : Nat} {x2 : List Host.Cell} {x3 : Nat} {x4 : Nat} {x5 : List Out} {x6 : DictState} {x7 : SessState} {x8 : EventState}
    {x9 : Tbl EventRing} {x10 : CoreState} {x11 : FabState} {x12 : EthState} {x13 : PtpState} {x14 : RdmaState}
    {x15 : NvmeState} {x16 : SchedState} {x17 : ArrayState} {x18 : SlotState} {x19 : Tbl NearPort} {x20 : Tbl DmaChan}
    {x21 : MeterState} {x22 : TwinState} {x23 : PowerState} {x24 : LandState} {x25 : FwState}
    (h : (.now ∈ ps ∨ x0 = v.now) ∧ (.hbm ∈ ps ∨ x2 = v.hbm) ∧ (.vcore ∈ ps ∨ x3 = v.vcore) ∧ (.free ∈ ps ∨ x4 = v.free) ∧
      (.out ∈ ps ∨ x5 = v.out) ∧ (.dict ∈ ps ∨ x6 = v.dict) ∧ (.sess ∈ ps ∨ x7 = v.sess) ∧ (.ev ∈ ps ∨ x8 = v.ev) ∧
      (.rings ∈ ps ∨ x9 = v.rings) ∧ (.core ∈ ps ∨ x10 = v.core) ∧ (.fab ∈ ps ∨ x11 = v.fab) ∧ (.eth ∈ ps ∨ x12 = v.eth) ∧
      (.ptp ∈ ps ∨ x13 = v.ptp) ∧ (.rdma ∈ ps ∨ x14 = v.rdma) ∧ (.nvme ∈ ps ∨ x15 = v.nvme) ∧ (.sched ∈ ps ∨ x16 = v.sched) ∧
      (.arr ∈ ps ∨ x17 = v.arr) ∧ (.slot ∈ ps ∨ x18 = v.slot) ∧ (.np ∈ ps ∨ x19 = v.np) ∧ (.dma ∈ ps ∨ x20 = v.dma) ∧
      (.meter ∈ ps ∨ x21 = v.meter) ∧ (.twin ∈ ps ∨ x22 = v.twin) ∧ (.pwr ∈ ps ∨ x23 = v.pwr) ∧ (.land ∈ ps ∨ x24 = v.land) ∧
      (.fw ∈ ps ∨ x25 = v.fw) ∧ (.twinMode ∈ ps ∨ x22.twinMode = v.twin.twinMode) ∧ (.take ∈ ps ∨ x22.take = v.twin.take) ∧
      (.yieldIn ∈ ps ∨ x22.yieldIn = v.twin.yieldIn) ∧ (.yieldRec ∈ ps ∨ x22.yieldRec = v.twin.yieldRec) ∧
      (.linkLost ∈ ps ∨ x22.linkLost = v.twin.linkLost) ∧ (.lostAt ∈ ps ∨ x22.lostAt = v.twin.lostAt) ∧
      (.held ∈ ps ∨ x22.held = v.twin.held) ∧ (.linked ∈ ps ∨ x22.linked = v.twin.linked) ∧
      (.mirror ∈ ps ∨ x22.mirror = v.twin.mirror) ∧ (.onPlane ∈ ps ∨ x11.onPlane = v.fab.onPlane) ∧
      (.rsq ∈ ps ∨ x11.rsq = v.fab.rsq) ∧ (.flushes ∈ ps ∨ x11.flushes = v.fab.flushes) ∧
      (.dictGens ∈ ps ∨ x6.gens = v.dict.gens) ∧ (.qpGens ∈ ps ∨ x14.gens = v.rdma.gens) ∧
      (.can ∈ ps ∨ x7.can = v.sess.can) ∧ (.mgmt ∈ ps ∨ x7.mgmt = v.sess.mgmt) ∧
      (.expected ∈ ps ∨ x22.expected = v.twin.expected) ∧ (.lastDelivered ∈ ps ∨ x22.lastDelivered = v.twin.lastDelivered) ∧
      (.joining ∈ ps ∨ x22.joining = v.twin.joining) ∧ (.closed ∈ ps ∨ x22.closed = v.twin.closed) ∧
      (.standby ∈ ps ∨ x22.standby = v.twin.standby) ∧ (.health ∈ ps ∨ x22.health = v.twin.health) ∧
      (.groups ∈ ps ∨ x22.groups = v.twin.groups) ∧ (.takerDone ∈ ps ∨ x22.takerDone = v.twin.takerDone) ∧
      (.stopped ∈ ps ∨ x22.stopped = v.twin.stopped) ∧ (.storm ∈ ps ∨ x23.storm = v.pwr.storm) ∧
      (.flushAll ∈ ps ∨ x23.flushAll = v.pwr.flushAll) ∧ (.slots ∈ ps ∨ x18.slots = v.slot.slots) ∧
      (.ctrls ∈ ps ∨ x15.ctrls = v.nvme.ctrls) ∧ (.nss ∈ ps ∨ x15.ns = v.nvme.ns) ∧ (.keks ∈ ps ∨ x15.keks = v.nvme.keks)) :
    s.Frame ps ⟨x0, v.pending, x2, x3, x4, x5, x6, x7, x8, x9, x10, x11, x12, x13, x14, x15, x16, x17, x18, x19, x20, x21, x22, x23, x24, x25⟩ ↔
      s.Frame ps v := by
  refine State.Frame.congr_right (fun p hp => ?_) s
  cases p <;> simp_all [Part.Same]

/-! ### The plain updates -/

section
variable {ps : List Part} {s u : State}

@[simp] theorem State.frame_at (t : Nat) (h : .now ∈ ps) : s.Frame ps (u.at t) ↔ s.Frame ps u :=
  State.frame_mk (by simp [h])

@[simp] theorem State.frame_emit (o : Out) (h : .out ∈ ps) : s.Frame ps (u.emit o) ↔ s.Frame ps u :=
  State.frame_mk (by simp [h])

@[simp] theorem State.frame_drawn (h : .free ∈ ps) : s.Frame ps (u.drawn) ↔ s.Frame ps u :=
  State.frame_mk (by simp [h])

@[simp] theorem State.frame_setVal (i r k : Nat) (x : Val) (h : .dict ∈ ps) : s.Frame ps (u.setVal i r k x) ↔ s.Frame ps u :=
  State.frame_mk (by simp [h])

@[simp] theorem State.frame_put (i r k n : Nat) (h : .dict ∈ ps) : s.Frame ps (u.put i r k n) ↔ s.Frame ps u :=
  State.frame_mk (by simp [h])

@[simp] theorem State.frame_add (i r k n : Nat) (h : .dict ∈ ps) : s.Frame ps (u.add i r k n) ↔ s.Frame ps u :=
  State.frame_mk (by simp [h])

@[simp] theorem State.frame_bump (i r k : Nat) (h : .dict ∈ ps) : s.Frame ps (u.bump i r k) ↔ s.Frame ps u :=
  State.frame_mk (by simp [h])

@[simp] theorem State.frame_perf (n k : Nat) (h : .dict ∈ ps) : s.Frame ps (u.perf n k) ↔ s.Frame ps u :=
  State.frame_mk (by simp [h])

@[simp] theorem State.frame_keepVal (i r k : Nat) (x : Val) (h : .dict ∈ ps) : s.Frame ps (u.keepVal i r k x) ↔ s.Frame ps u :=
  State.frame_mk (by simp [h])

@[simp] theorem State.frame_setSession (j : Nat) (x : Session) (h : .sess ∈ ps) : s.Frame ps (u.setSession j x) ↔ s.Frame ps u :=
  State.frame_mk (by simp [h])

@[simp] theorem State.frame_dropSession (j : Nat) (h : .sess ∈ ps) : s.Frame ps (u.dropSession j) ↔ s.Frame ps u :=
  State.frame_mk (by simp [h])

@[simp] theorem State.frame_setCan (x : CanState) (h : .sess ∈ ps ∧ .can ∈ ps) : s.Frame ps (u.setCan x) ↔ s.Frame ps u :=
  State.frame_mk (by simp [h])

@[simp] theorem State.frame_setMgmt (x : MgmtState) (h : .sess ∈ ps ∧ .mgmt ∈ ps) : s.Frame ps (u.setMgmt x) ↔ s.Frame ps u :=
  State.frame_mk (by simp [h])

@[simp] theorem State.frame_notIdle (h : .pwr ∈ ps) : s.Frame ps (u.notIdle) ↔ s.Frame ps u :=
  State.frame_mk (by simp [h])

@[simp] theorem State.frame_setRegion (j : Nat) (x : CopyRegion) (h : .pwr ∈ ps) : s.Frame ps (u.setRegion j x) ↔ s.Frame ps u :=
  State.frame_mk (by simp [h])

@[simp] theorem State.frame_setChan (j : Nat) (x : DmaChan) (h : .dma ∈ ps) : s.Frame ps (u.setChan j x) ↔ s.Frame ps u :=
  State.frame_mk (by simp [h])

@[simp] theorem State.frame_setNport (j : Nat) (x : NearPort) (h : .np ∈ ps) : s.Frame ps (u.setNport j x) ↔ s.Frame ps u :=
  State.frame_mk (by simp [h])

@[simp] theorem State.frame_setCmd (j : Nat) (x : Cmd) (h : .nvme ∈ ps) : s.Frame ps (u.setCmd j x) ↔ s.Frame ps u :=
  State.frame_mk (by simp [h])

@[simp] theorem State.frame_eraseCmd (j : Nat) (h : .nvme ∈ ps) : s.Frame ps (u.eraseCmd j) ↔ s.Frame ps u :=
  State.frame_mk (by simp [h])

@[simp] theorem State.frame_setCtrl (j : Nat) (x : Ctrl) (h : .nvme ∈ ps ∧ .ctrls ∈ ps) : s.Frame ps (u.setCtrl j x) ↔ s.Frame ps u :=
  State.frame_mk (by simp [h])

@[simp] theorem State.frame_setNs (j : Nat) (x : NsState) (h : .nvme ∈ ps ∧ .nss ∈ ps) : s.Frame ps (u.setNs j x) ↔ s.Frame ps u :=
  State.frame_mk (by simp [h])

@[simp] theorem State.frame_setQp (j : Nat) (x : Qp) (h : .rdma ∈ ps) : s.Frame ps (u.setQp j x) ↔ s.Frame ps u :=
  State.frame_mk (by simp [h])

@[simp] theorem State.frame_setPort (j : Nat) (x : EthPort) (h : .eth ∈ ps) : s.Frame ps (u.setPort j x) ↔ s.Frame ps u :=
  State.frame_mk (by simp [h])

@[simp] theorem State.frame_setCage (j : Nat) (x : Cage) (h : .eth ∈ ps) : s.Frame ps (u.setCage j x) ↔ s.Frame ps u :=
  State.frame_mk (by simp [h])

@[simp] theorem State.frame_setEg (j : Nat) (x : EgPort) (h : .sched ∈ ps) : s.Frame ps (u.setEg j x) ↔ s.Frame ps u :=
  State.frame_mk (by simp [h])

@[simp] theorem State.frame_setGate (j : Nat) (x : GatePort) (h : .sched ∈ ps) : s.Frame ps (u.setGate j x) ↔ s.Frame ps u :=
  State.frame_mk (by simp [h])

@[simp] theorem State.frame_setMemQ (j : Nat) (x : MemberSched) (h : .sched ∈ ps) : s.Frame ps (u.setMemQ j x) ↔ s.Frame ps u :=
  State.frame_mk (by simp [h])

@[simp] theorem State.frame_setSrc (j : Flow) (x : SrcFlow) (h : .fab ∈ ps) : s.Frame ps (u.setSrc j x) ↔ s.Frame ps u :=
  State.frame_mk (by simp [h])

@[simp] theorem State.frame_setReseq (j : Flow) (x : Reseq) (h : .fab ∈ ps ∧ .rsq ∈ ps) : s.Frame ps (u.setReseq j x) ↔ s.Frame ps u :=
  State.frame_mk (by simp [h])

@[simp] theorem State.frame_setSlot (j : Nat) (x : Slot) (h : .slot ∈ ps ∧ .slots ∈ ps) : s.Frame ps (u.setSlot j x) ↔ s.Frame ps u :=
  State.frame_mk (by simp [h])

@[simp] theorem State.frame_setMc (j : Nat) (x : MemberCmd) (h : .slot ∈ ps) : s.Frame ps (u.setMc j x) ↔ s.Frame ps u :=
  State.frame_mk (by simp [h])

@[simp] theorem State.frame_setArr (j : Nat) (x : ArrState) (h : .arr ∈ ps) : s.Frame ps (u.setArr j x) ↔ s.Frame ps u :=
  State.frame_mk (by simp [h])

/-! ### Events, answers, settings -/

@[simp] theorem State.keepVal_gens (v : State) (i r k : Nat) (x : Val) : (v.keepVal i r k x).dict.gens = v.dict.gens := rfl

@[simp] theorem State.setKeep_gens (v : State) (i r k : Nat) (x : Val) : (v.setKeep i r k x).dict.gens = v.dict.gens := by
  obtain e | e := v.setKeep_eq_or i r k x <;> rw [e] <;> rfl

@[simp] theorem State.frame_setKeep (i r k : Nat) (x : Val) (h : .dict ∈ ps) : s.Frame ps (u.setKeep i r k x) ↔ s.Frame ps u := by
  obtain e | e := u.setKeep_eq_or i r k x <;> simp [e, h]

@[simp] theorem State.frame_setObj (i k : Nat) (x : Val) (h : .dict ∈ ps) : s.Frame ps (u.setObj i k x) ↔ s.Frame ps u :=
  State.frame_setKeep i 0 k x h

@[simp] theorem State.frame_pfInterrupt (p v : Nat) (h : .out ∈ ps ∧ .rings ∈ ps) :
    s.Frame ps (u.pfInterrupt p v) ↔ s.Frame ps u := by
  simp only [State.pfInterrupt]
  split <;> simp [h]

@[simp] theorem State.frame_logEvent (e : Ev) (co : Bool) (d : List Nat) (h : .out ∈ ps ∧ .sess ∈ ps ∧ .ev ∈ ps ∧ .rings ∈ ps) :
    s.Frame ps (u.logEvent e co d) ↔ s.Frame ps u := by
  simp only [State.logEvent]
  split <;> split <;> simp [h]

@[simp] theorem State.frame_raiseC (e : Ev) (co : Bool) (d : List Nat) (h : .out ∈ ps ∧ .sess ∈ ps ∧ .ev ∈ ps ∧ .rings ∈ ps) :
    s.Frame ps (u.raiseC e co d) ↔ s.Frame ps u := by
  simp only [State.raiseC]
  split <;> split <;> simp [h]

@[simp] theorem State.frame_raise (e : Ev) (d : List Nat) (h : .out ∈ ps ∧ .sess ∈ ps ∧ .ev ∈ ps ∧ .rings ∈ ps) :
    s.Frame ps (u.raise e d) ↔ s.Frame ps u := State.frame_raiseC e false d h

/-- An event leaves the CAN port and the management ports alone. -/
@[simp] theorem State.raise_ports (v : State) (e : Ev) (d : List Nat) :
    (v.raise e d).sess.can = v.sess.can ∧ (v.raise e d).sess.mgmt = v.sess.mgmt := by
  have h := State.frame_raise (s := v) (u := v) (ps := [.out, .sess, .ev, .rings]) e d (by simp)
  have hf := h.2 (State.Frame.refl _ _)
  exact ⟨hf .can (by simp), hf .mgmt (by simp)⟩

@[simp] theorem State.frame_violation (b : Bool) (a1 a2 a3 a4 : Nat) (a5 : Ip) (h : .ev ∈ ps) :
    s.Frame ps (u.violation b a1 a2 a3 a4 a5) ↔ s.Frame ps u := State.frame_mk (by simp [h])

@[simp] theorem State.frame_sent (i n : Nat) (h : .sess ∈ ps) : s.Frame ps (u.sent i n) ↔ s.Frame ps u := by
  unfold State.sent
  split <;> simp [h]

@[simp] theorem State.frame_mailboxAnswered (p : Nat) (h : .out ∈ ps ∧ .rings ∈ ps ∧ .np ∈ ps) :
    s.Frame ps (u.mailboxAnswered p) ↔ s.Frame ps u := by
  simp only [State.mailboxAnswered]
  split
  · rfl
  · split <;> simp [h]

@[simp] theorem State.frame_reply (i : Nat) (c : Abort) (x : Option Val) (h : .out ∈ ps ∧ .sess ∈ ps ∧ .rings ∈ ps ∧ .np ∈ ps) :
    s.Frame ps (u.reply i c x) ↔ s.Frame ps u := by
  obtain e | e := u.reply_eq_or i c x <;> simp [e, h]

theorem State.frame_each {α : Type} {xs : List α} {f : State → α → State} (h : ∀ v a, s.Frame ps (f v a) ↔ s.Frame ps v) :
    s.Frame ps (u.each xs f) ↔ s.Frame ps u := by
  unfold State.each
  induction xs generalizing u with
  | nil => rfl
  | cons a xs ih => exact ih.trans (h u a)

theorem State.frame_when {c : Bool} {f : State → State} (h : s.Frame ps (f u) ↔ s.Frame ps u) :
    s.Frame ps (u.when c f) ↔ s.Frame ps u := by
  cases c
  · rfl
  · exact h

@[simp] theorem State.frame_after (t : Nat) (v w : State) (h : .now ∈ ps) (hp : s.pending = w.pending ∨ .pending ∈ ps)
    (hh : s.hbm = w.hbm ∨ .hbm ∈ ps) (hv : s.vcore = w.vcore ∨ .vcore ∈ ps) (hw : s.Frame ps v) : s.Frame ps (w.after t v) := by
  intro p hp'
  have := hw p hp'
  cases p <;> simp_all [Part.Same, State.after]

end

end Sys2Proof.Machine
end

section
/-! SUPPORT. The objects that an effect leaves as they were, and how the next state of a command reads. -/

namespace Sys2Proof.Machine

/-! ### Objects of a state whose parts are given -/

/-- What a dictionary holds for an object: its value, or the default. -/
def DictState.val (d : DictState) (i r k : Nat) : Val :=
  match Tbl.find? d.cur (objKey i r k) with
  | some v => v
  | none => Dict.default i k

section
variable (x0 : Nat) (x1 : List Instr) (x2 : List Host.Cell) (x3 : Nat) (x4 : Nat) (x5 : List Out) (x6 : DictState)
    (x7 : SessState) (x8 : EventState) (x9 : Tbl EventRing) (x10 : CoreState) (x11 : FabState) (x12 : EthState)
    (x13 : PtpState) (x14 : RdmaState) (x15 : NvmeState) (x16 : SchedState) (x17 : ArrayState) (x18 : SlotState)
    (x19 : Tbl NearPort) (x20 : Tbl DmaChan) (x21 : MeterState) (x22 : TwinState) (x23 : PowerState) (x24 : LandState)
    (x25 : FwState)

@[simp] theorem State.val_mk (i r k : Nat) :
    (State.mk x0 x1 x2 x3 x4 x5 x6 x7 x8 x9 x10 x11 x12 x13 x14 x15 x16 x17 x18 x19 x20 x21 x22 x23 x24 x25).val i r k =
      x6.val i r k := rfl

@[simp] theorem State.o_mk (i r k : Nat) :
    (State.mk x0 x1 x2 x3 x4 x5 x6 x7 x8 x9 x10 x11 x12 x13 x14 x15 x16 x17 x18 x19 x20 x21 x22 x23 x24 x25).o i r k =
      (x6.val i r k).toNat := rfl

end

@[simp] theorem State.val_dict (s : State) (i r k : Nat) : s.dict.val i r k = s.val i r k := rfl

@[simp] theorem State.toNat_val (s : State) (i r k : Nat) : (s.val i r k).toNat = s.o i r k := rfl

/-- What stands beside the current values does not matter to them. -/
@[simp] theorem State.val_dict_mk (s : State) (a : Tbl Val) (b : Tbl Nat) (c d : Bool) (e : Nat) (i r k : Nat) :
    (DictState.mk s.dict.cur a b c d e).val i r k = s.val i r k := rfl

@[simp] theorem DictState.val_set (t : Tbl Val) (key : Nat) (v : Val) (a : Tbl Val) (b : Tbl Nat) (c d : Bool) (e : Nat)
    (i r k : Nat) :
    (DictState.mk (Tbl.set t key v) a b c d e).val i r k =
      if key = objKey i r k then v else (DictState.mk t a b c d e).val i r k := by
  by_cases h : key = objKey i r k <;> simp [DictState.val, Tbl.find?_set, h]

@[simp] theorem Val.toNat_nat (n : Nat) : (Val.nat n).toNat = n := rfl

@[simp] theorem State.val_add (s : State) (i r k n i' r' k' : Nat) :
    (s.add i r k n).val i' r' k' = if objKey i r k = objKey i' r' k' then .nat (satAt i k (s.o i r k) n) else s.val i' r' k' :=
  State.val_put ..

@[simp] theorem State.val_bump (s : State) (i r k i' r' k' : Nat) :
    (s.bump i r k).val i' r' k' = if objKey i r k = objKey i' r' k' then .nat (satAt i k (s.o i r k) 1) else s.val i' r' k' :=
  State.val_add ..

/-! ### Objects that stay -/

/-- The entries of a table other than those of `ks` are the same. -/
def Tbl.SameBut {α : Type} (ks : List Nat) (a b : Tbl α) : Prop := ∀ k, k ∉ ks → Tbl.find? b k = Tbl.find? a k

@[simp] theorem Tbl.SameBut.refl {α : Type} (ks : List Nat) (a : Tbl α) : Tbl.SameBut ks a a := fun _ _ => rfl

@[simp] theorem Tbl.sameBut_set {α : Type} {ks : List Nat} {a b : Tbl α} {k : Nat} (x : α) (h : k ∈ ks) :
    Tbl.SameBut ks a (Tbl.set b k x) ↔ Tbl.SameBut ks a b := by
  have hset : ∀ j, j ∉ ks → Tbl.find? (Tbl.set b k x) j = Tbl.find? b j := fun j hj =>
    Tbl.find?_set_of_ne b x fun e => hj (e ▸ h)
  exact ⟨fun hb j hj => (hset j hj).symm.trans (hb j hj), fun hb j hj => (hset j hj).trans (hb j hj)⟩

@[simp] theorem State.sameBut_ite {ks : List Nat} {t : Tbl Val} {c : Prop} {_ : Decidable c} {u v : State} :
    Tbl.SameBut ks t (if c then u else v).dict.cur ↔ if c then Tbl.SameBut ks t u.dict.cur else Tbl.SameBut ks t v.dict.cur := by
  split <;> rfl

@[simp] theorem State.val_ite {c : Prop} {_ : Decidable c} (u v : State) (i r k : Nat) :
    (if c then u else v).val i r k = if c then u.val i r k else v.val i r k := by split <;> rfl

@[simp] theorem State.o_ite {c : Prop} {_ : Decidable c} (u v : State) (i r k : Nat) :
    (if c then u else v).o i r k = if c then u.o i r k else v.o i r k := by split <;> rfl

theorem State.otherObjects_iff {s u : State} {ks : List Nat} :
    s.otherObjects u ks ↔ Tbl.SameBut ks s.dict.cur u.dict.cur := Iff.rfl

@[simp] theorem State.keepVal_dict_cur (s : State) (i r k : Nat) (v : Val) :
    (s.keepVal i r k v).dict.cur = Tbl.set s.dict.cur (objKey i r k) v := rfl

@[simp] theorem State.setKeep_dict_cur (s : State) (i r k : Nat) (v : Val) :
    (s.setKeep i r k v).dict.cur = Tbl.set s.dict.cur (objKey i r k) v := by
  obtain h | h := s.setKeep_eq_or i r k v <;> simp [h]

/-- An object outside the keys that may change reads as before. -/
theorem State.val_of_sameBut {s u : State} {ks : List Nat} (h : Tbl.SameBut ks s.dict.cur u.dict.cur) {i r k : Nat}
    (hk : objKey i r k ∉ ks) : u.val i r k = s.val i r k := by
  simp only [State.val, h _ hk]

/-! ### Writes of a session -/

/-- A write that a session may make and whose own check passes: its effect stands and it is answered 0. -/
theorem done_writeAs {i : Instr} {s : State} {t sess idx sub : Nat} {ok : Bool} {v : Val} {chk : State → Abort}
    {app : State → State} {Q : State → Prop} (hi : exec i s = act t ok s fun u => u.writeAs sess idx sub v chk app)
    (hok : ok = true) (hp : s.railsOn) (hw : (s.at t).mayWrite sess idx sub v = true) (hc : chk (s.at t) = 0)
    (h : ∀ u, u = s.after t ((app (s.at t)).reply sess 0) → Q u) : Done i s Q :=
  done_act hi hok hp (by rw [State.writeAs_taken hw hc]; exact h)

/-! ### Commands that may set the core voltage -/

/-- The state after an effect that may set the core voltage: the rail takes it (02 R57). -/
def State.afterVolt (s : State) (t : Nat) (v : State) : State :=
  { s.after t v with vcore := railVolt v.vcore, core := s.railCore v t }

theorem done_actVolt {i : Instr} {s : State} {t : Nat} {ok : Bool} {f : State → State} {Q : State → Prop}
    (hi : exec i s = actVolt t ok s f) (hok : ok = true) (hp : s.railsOn) (h : ∀ u, u = s.afterVolt t (f (s.at t)) → Q u) :
    Done i s Q := by
  subst hok
  exact ⟨_, by rw [hi, actVolt, if_pos rfl, State.runAt_on t f hp]; rfl, h _ rfl⟩

theorem done_writeAs_volt {i : Instr} {s : State} {t sess idx sub : Nat} {ok : Bool} {v : Val} {chk : State → Abort}
    {app : State → State} {Q : State → Prop} (hi : exec i s = actVolt t ok s fun u => u.writeAs sess idx sub v chk app)
    (hok : ok = true) (hp : s.railsOn) (hw : (s.at t).mayWrite sess idx sub v = true) (hc : chk (s.at t) = 0)
    (h : ∀ u, u = s.afterVolt t ((app (s.at t)).reply sess 0) → Q u) : Done i s Q :=
  done_actVolt hi hok hp (by rw [State.writeAs_taken hw hc]; exact h)

@[simp] theorem State.afterVolt_reads (s : State) (t : Nat) (v : State) :
    v.KeepsReads (s.afterVolt t v) ∧ v.KeepsObjects (s.afterVolt t v) ∧ (s.afterVolt t v).out = v.out ∧
      (s.afterVolt t v).vcore = railVolt v.vcore ∧ (s.afterVolt t v).core = s.railCore v t :=
  ⟨⟨fun _ => rfl, fun _ => rfl, fun _ => rfl, fun _ => rfl, fun _ => rfl, fun _ => rfl, fun _ => rfl, fun _ => rfl, fun _ => rfl,
    fun _ => rfl, fun _ => rfl, fun _ => rfl, fun _ => rfl, fun _ => rfl⟩,
    ⟨rfl, fun _ _ _ => rfl, fun _ _ _ => rfl, fun _ _ => rfl⟩, rfl, rfl, rfl⟩

theorem State.frame_afterVolt {s v : State} {ps : List Part} (t : Nat) (h : .core ∈ ps ∧ .vcore ∈ ps ∧ .now ∈ ps)
    (hv : s.Frame ps v) : s.Frame ps (s.afterVolt t v) := by
  intro p hp
  have := hv p hp
  cases p <;> simp_all [Part.Same, State.afterVolt]

/-- The rail keeps the barometers' samples. -/
@[simp] theorem State.railCore_samples (s u : State) (t : Nat) : (s.railCore u t).samples = u.core.samples := by
  unfold State.railCore
  split <;> rfl

end Sys2Proof.Machine
end

section
/-! CLAIM. The commands of the self-timed core (02). -/

namespace Sys2Proof.Machine

/-! ### Barometers (02 R52 to R55) -/

@[simp] theorem State.frame_checkVerified {ps : List Part} {s u : State}
    (h : .dict ∈ ps ∧ .vcore ∈ ps ∧ .out ∈ ps ∧ .sess ∈ ps ∧ .ev ∈ ps ∧ .rings ∈ ps) :
    s.Frame ps u.checkVerified ↔ s.Frame ps u := by
  simp only [State.checkVerified]
  split_ifs <;> simp [h]

theorem State.frame_takeSample {ps : List Part} {s u : State} (samples : List Nat) (v : State) (n : Nat)
    (h : .dict ∈ ps ∧ .core ∈ ps ∧ .out ∈ ps ∧ .sess ∈ ps ∧ .ev ∈ ps ∧ .rings ∈ ps) :
    s.Frame ps (State.takeSample samples v u n) ↔ s.Frame ps u := by
  simp only [State.takeSample]
  split_ifs <;> simp [h]

/-- Entering the unverified state leaves the samples. -/
@[simp] theorem State.checkVerified_core (s : State) : s.checkVerified.core = s.core := by
  unfold State.checkVerified
  split <;> simp

/-- Entering the unverified state changes its flag alone. -/
theorem State.checkVerified_o {s : State} {i k : Nat} (h : objKey 0x2002 0 6 ≠ objKey i 0 k) : s.checkVerified.o i 0 k = s.o i 0 k := by
  unfold State.checkVerified
  split
  · have hv : ({ s.put 0x2002 0 6 1 with vcore := 8200 } : State).o i 0 k = (s.put 0x2002 0 6 1).o i 0 k := rfl
    rw [(State.raise_reads _ _ _).2.1.2.2.1, hv, State.o_put, if_neg h]
  · rfl

theorem State.takeSample_samples (samples : List Nat) (v s : State) (n : Nat) :
    (State.takeSample samples v s n).core.samples = Tbl.set s.core.samples n ((samples.getD n 0 :: s.barSamples n).take 100) := by
  simp only [State.takeSample]
  split <;> split <;> simp

/-- Taking the samples of some barometers, each once, puts one sample before the record of each of them. -/
theorem State.takeSamples_barSamples (samples : List Nat) (v : State) (n : Nat) {xs : List Nat} (hx : xs.Nodup) (s : State) :
    (s.each xs (State.takeSample samples v)).barSamples n =
      if n ∈ xs then (samples.getD n 0 :: s.barSamples n).take 100 else s.barSamples n := by
  unfold State.each
  induction xs generalizing s with
  | nil => rfl
  | cons a xs ih =>
    obtain ⟨ha, hx⟩ := List.nodup_cons.1 hx
    have hstep : (State.takeSample samples v s a).barSamples n =
        if a = n then (samples.getD n 0 :: s.barSamples n).take 100 else s.barSamples n := by
      simp only [State.barSamples, State.takeSample_samples, Tbl.get_set]
      split
      · next h => subst h; rfl
      · rfl
    rw [List.foldl_cons, ih hx, hstep]
    by_cases h : a = n
    · subst h; simp [ha]
    · simp [h, Ne.symm h]

@[simp] theorem State.frame_setBarometerStatus {ps : List Part} {s u : State} (n v : Nat)
    (h : .dict ∈ ps ∧ .vcore ∈ ps ∧ .out ∈ ps ∧ .sess ∈ ps ∧ .ev ∈ ps ∧ .rings ∈ ps) :
    s.Frame ps (setBarometerStatus n v u) ↔ s.Frame ps u := by
  simp only [setBarometerStatus]
  split_ifs <;> simp [h]

/-- A barometer that is not faulty takes the status that is written. -/
theorem setBarometerStatus_barStatus {s : State} {n : Nat} (v : Nat) (h : s.barStatus n ≠ 1) :
    (setBarometerStatus n v s).barStatus n = v := by
  rw [setBarometerStatus, if_neg h, State.barStatus, State.ob_eq, State.checkVerified_o (by simp)]
  simp

/-! ### The trim loop (02 R56 to R64) -/

section
variable {ps : List Part} {s u : State} {ks : List Nat} {c : Tbl Val}

@[simp] theorem State.frame_countEmergency
    (h : .dict ∈ ps ∧ .core ∈ ps ∧ .out ∈ ps ∧ .sess ∈ ps ∧ .ev ∈ ps ∧ .rings ∈ ps) :
    s.Frame ps u.countEmergency ↔ s.Frame ps u := by
  simp only [State.countEmergency]
  split_ifs <;> simp [h]

@[simp] theorem State.frame_overridePin (g : Int)
    (h : .dict ∈ ps ∧ .core ∈ ps ∧ .out ∈ ps ∧ .sess ∈ ps ∧ .ev ∈ ps ∧ .rings ∈ ps) :
    s.Frame ps (u.overridePin g) ↔ s.Frame ps u := by
  simp only [State.overridePin]
  split_ifs <;> simp [h]

@[simp] theorem State.frame_coreSlowFlag (d : Rat) (h : .dict ∈ ps ∧ .out ∈ ps ∧ .sess ∈ ps ∧ .ev ∈ ps ∧ .rings ∈ ps) :
    s.Frame ps (u.coreSlowFlag d) ↔ s.Frame ps u := by
  simp only [State.coreSlowFlag]
  split_ifs <;> simp [h]

theorem State.frame_trimPeriod (p : Nat) (tj : Int)
    (h : .dict ∈ ps ∧ .core ∈ ps ∧ .vcore ∈ ps ∧ .out ∈ ps ∧ .sess ∈ ps ∧ .ev ∈ ps ∧ .rings ∈ ps) :
    s.Frame ps (trimPeriod p tj u) ↔ s.Frame ps u := by
  simp only [trimPeriod]
  split_ifs <;> simp [h]

@[simp] theorem State.sameBut_countEmergency (h : objKey 0x2003 0 7 ∈ ks) :
    Tbl.SameBut ks c u.countEmergency.dict.cur ↔ Tbl.SameBut ks c u.dict.cur := by
  simp only [State.countEmergency]
  split_ifs <;> simp [h]

@[simp] theorem State.sameBut_overridePin (g : Int) (h : objKey 0x2002 0 5 ∈ ks) :
    Tbl.SameBut ks c (u.overridePin g).dict.cur ↔ Tbl.SameBut ks c u.dict.cur := by
  simp only [State.overridePin]
  split_ifs <;> simp [h]

@[simp] theorem State.sameBut_coreSlowFlag (d : Rat) (h : objKey 0x2002 0 7 ∈ ks) :
    Tbl.SameBut ks c (u.coreSlowFlag d).dict.cur ↔ Tbl.SameBut ks c u.dict.cur := by
  simp only [State.coreSlowFlag]
  split_ifs <;> simp [h]

end

/-- A period records the junction temperature that it is given. -/
theorem trimPeriod_junction (p : Nat) (tj : Int) (s : State) : (trimPeriod p tj s).val 0x2006 0 0 = .int tj := by
  have hw : ((s.setVal 0x2200 0 3 (.real ((p : Rat) / 1000))).setVal 0x2006 0 0 (.int tj)).val 0x2006 0 0 = .int tj := by simp
  rw [← hw]
  refine State.val_of_sameBut (ks := [objKey 0x2002 0 5, objKey 0x2002 0 7, objKey 0x2003 0 7]) ?_ (by simp)
  simp only [trimPeriod]
  split_ifs <;> simp

/-- While the core is unverified a period sets the ceiling voltage (02 R55). -/
theorem trimPeriod_vcore {s : State} (p : Nat) (tj : Int) (h : s.ob 0x2002 6 = 1) : (trimPeriod p tj s).vcore = 8200 := by
  simp only [trimPeriod]
  rw [if_pos (by simpa using h)]

/-! ### Limit factors (02 R68 to R70) -/

/-- What a window's end shows as energy per bit. -/
def State.windowEnergy (s : State) (fj : Nat) : Rat := if s.windowCells = 0 then 0 else fj / ((1152 * s.windowCells : Nat) : Rat) / 1000

theorem energyWindowEnd_val (fj : Nat) (s : State) :
    (energyWindowEnd fj s).val 0x2021 0 3 = .real (s.windowEnergy fj) ∧ (energyWindowEnd fj s).windowCells = 0 := by
  simp only [energyWindowEnd]
  constructor
  · split_ifs <;> simp [State.freshWindow, State.windowEnergy, State.val_setVal, *]
  · split_ifs <;> simp [State.freshWindow, State.windowCells, sumNat]

@[simp] theorem State.frame_freshWindow {ps : List Part} {s u : State} (h : .core ∈ ps ∧ .fab ∈ ps) :
    s.Frame ps u.freshWindow ↔ s.Frame ps u := State.frame_mk (by simp [h])

theorem State.frame_energyWindowEnd {ps : List Part} {s u : State} (fj : Nat)
    (h : .dict ∈ ps ∧ .core ∈ ps ∧ .fab ∈ ps ∧ .out ∈ ps ∧ .sess ∈ ps ∧ .ev ∈ ps ∧ .rings ∈ ps) :
    s.Frame ps (energyWindowEnd fj u) ↔ s.Frame ps u := by
  simp only [energyWindowEnd]
  split_ifs <;> simp [h]

/-! ### The claim -/

/-- Settles O14, command by command. -/
theorem coreTimingActs : Obligations.CoreTimingActs := by
  intro s t hp
  refine ⟨fun samples hl => ?sample, fun sess n v hn hw hc => ?status, fun sess n hn hs => ?slowest, fun powerMw tj => ?trim,
    fun hh => ?hold, fun sess v hw => ?point, fun sess v hw => ?pin, fun q l c => ?energy, fun sess hw => ?transit,
    fun sess hw => ?energyClear⟩
  case sample =>
    refine done_actVolt rfl (decide_eq_true hl) hp fun u hu => ⟨fun n hn => ?_, ?_⟩
    · have h := State.takeSamples_barSamples samples (s.at t) n List.nodup_range (s.at t) (xs := List.range 64)
      rw [if_pos (List.mem_range.2 hn)] at h
      simpa [hu, State.barSamples, barometerSample] using h
    · refine State.Frame.eq (s := s) (ps := Part.logs ++ [.core, .vcore]) (hu ▸ State.frame_afterVolt t (by simp) ?_)
      simp [barometerSample, State.frame_each, State.frame_takeSample]
  case point =>
    refine done_writeAs rfl rfl hp hw rfl fun u hu => ⟨?_, ?_, ?_, ?_⟩
    · simp [hu, State.setObj, Val.toNat]
    · simp [hu, State.answered]
    · simp [hu, State.otherObjects_iff, State.setObj]
    · exact State.Frame.eq (s := s) (ps := Part.logs ++ [.np]) (by simp [hu])
  case pin =>
    refine done_writeAs rfl rfl hp hw rfl fun u hu => ⟨?_, ?_, ?_, ?_, ?_⟩
    · simp [hu, setVoltagePin, Val.toNat]
    · simp [hu, setVoltagePin, Val.toNat]
    · simp [hu, State.answered]
    · simp [hu, State.otherObjects_iff, setVoltagePin]
    · exact State.Frame.eq (s := s) (ps := Part.logs ++ [.core, .np]) (by simp [hu, setVoltagePin])
  case transit =>
    refine done_writeAs rfl rfl hp hw rfl fun u hu => ⟨?_, ?_, ?_, ?_⟩
    · simp [hu, clearTransit]
    · simp [hu, clearTransit]
    · simp [hu, State.answered]
    · exact State.Frame.eq (s := s) (ps := Part.logs ++ [.np]) (by simp [hu, clearTransit])
  case energyClear =>
    refine done_writeAs rfl rfl hp hw rfl fun u hu => ⟨?_, ?_, ?_, ?_⟩
    · simp [hu, clearEnergy]
    · simp [hu, clearEnergy]
    · simp [hu, State.answered]
    · exact State.Frame.eq (s := s) (ps := Part.logs ++ [.np]) (by simp [hu, clearEnergy])
  case status =>
    refine done_writeAs_volt rfl (decide_eq_true hn) hp hw hc fun u hu => ⟨fun h => ?_, ?_, ?_⟩
    · simpa [hu, State.barStatus] using setBarometerStatus_barStatus (s := s.at t) v h
    · simp [hu, State.answered]
    · refine State.Frame.eq (s := s) (ps := Part.logs ++ [.core, .np, .vcore]) (hu ▸ State.frame_afterVolt t (by simp) ?_)
      simp
  case slowest =>
    obtain ⟨x, hx⟩ := Option.isSome_iff_exists.1 hs
    refine done_act rfl (decide_eq_true hn) hp fun u hu => ?_
    rw [barometerSlowestRead, State.withSession_some (x := x) _ (by simpa using hx)] at hu
    refine ⟨?_, ?_, ?_⟩
    · simp [hu]
    · simp [hu, State.barSamples]
    · exact State.Frame.eq (s := s) (ps := Part.logs ++ [.np]) (by simp [hu])
  case trim =>
    refine done_actVolt rfl rfl hp fun u hu => ⟨?_, ?_, fun h => ?_, ?_⟩
    · simp [hu, trimPeriod_junction]
    · rw [hu]
      exact railVolt_range _
    · simp [hu, trimPeriod_vcore powerMw tj (s := s.at t) h, railVolt]
    · refine State.Frame.eq (s := s) (ps := Part.logs ++ [.core, .vcore]) (hu ▸ State.frame_afterVolt t (by simp) ?_)
      simp [State.frame_trimPeriod]
  case hold =>
    refine done_act rfl rfl hp fun u hu => ?_
    rw [hu, emergencyHoldExpiry, if_neg (by simp [hh])]
    rfl
  case energy =>
    obtain ⟨hval, hcells⟩ := energyWindowEnd_val (q + l + c) (s.at t)
    refine done_act rfl rfl hp fun u hu => ⟨?_, ?_, ?_⟩
    · exact hu ▸ hval
    · exact hu ▸ hcells
    · exact State.Frame.eq (s := s) (ps := Part.logs ++ [.core, .fab]) (by simp [hu, State.frame_energyWindowEnd])

end Sys2Proof.Machine
end

section
/-! CLAIM. DOE and SPDM on a near port (12). -/

namespace Sys2Proof.Machine

/-- While the link is up a DOE request is answered and leaves the negotiation that its answer names. -/
theorem State.doe_of_linkUp {s : State} {p : Nat} (f : NearPort → SpdmReply × SpdmState) (h : (s.nport p).linkUp = true) :
    s.doe p f = (s.setNport p { s.nport p with spdm := (f (s.nport p)).2 }).emit (.spdm p (f (s.nport p)).1) := by
  simp [State.doe, h]

/-- A DOE request over `act` on a port whose link is up. -/
theorem done_doe {i : Instr} {s : State} {t p : Nat} {f : NearPort → SpdmReply × SpdmState} {Q : State → Prop}
    (hi : exec i s = act t (isNp p) s fun u => u.doe p f) (hp : s.railsOn) (h2 : p < 2) (hl : (s.nport p).linkUp = true)
    (h : ∀ u, u = ((s.at t).setNport p { s.nport p with spdm := (f (s.nport p)).2 }).emit (.spdm p (f (s.nport p)).1) → Q u) :
    Done i s Q := by
  refine done_act hi (decide_eq_true h2) hp fun u hu => h u ?_
  rw [hu, State.doe_of_linkUp _ (by simpa using hl)]
  rfl

/-- The bytes of the identity chain that a request for a part of it is given. -/
def certificateBytes (off len : Nat) : Nat :=
  (Config.chain 1).2 / 256 ^ ((Config.chain 1).1 - off - min len ((Config.chain 1).1 - off)) %
    256 ^ min len ((Config.chain 1).1 - off)

/-- Settles O38, request by request. -/
theorem spdmActs : Obligations.SpdmActs := by
  intro s t p hp h2 hl
  have hat : ((s.at t).nport p).linkUp = true := by simpa using hl
  refine ⟨fun k => ?discovery, ?version, fun hv => ?capabilities, fun hc => ?algorithms, fun ha => ?digests,
    fun off len ha => ?certificate, fun nonce ha => ?challenge, fun sign nonce ha => ?measurements⟩
  case discovery => exact done_doe rfl hp h2 hl fun u hu => hu
  case version =>
    refine done_doe rfl hp h2 hl fun u hu => ⟨?_, ?_, ?_, ?_⟩
    · simp [hu]
    · simp [hu]
    · simp [hu, State.otherObjects_iff]
    · exact State.Frame.eq (s := s) (ps := Part.logs ++ [.np]) (by simp [hu])
  case capabilities =>
    refine done_doe rfl hp h2 hl fun u hu => ⟨?_, ?_, ?_, ?_⟩
    · simp [hu, hv]
    · simp [hu, hv]
    · simp [hu, State.otherObjects_iff]
    · exact State.Frame.eq (s := s) (ps := Part.logs ++ [.np]) (by simp [hu])
  case algorithms =>
    refine done_doe rfl hp h2 hl fun u hu => ⟨?_, ?_, ?_, ?_⟩
    · simp [hu, hc]
    · simp [hu, hc]
    · simp [hu, State.otherObjects_iff]
    · exact State.Frame.eq (s := s) (ps := Part.logs ++ [.np]) (by simp [hu])
  case digests =>
    refine done_doe rfl hp h2 hl fun u hu => ⟨?_, ?_, ?_⟩
    · simp [hu, ha]
    · simp [hu]
    · exact State.Frame.eq (s := s) (ps := Part.logs ++ [.np]) (by simp [hu])
  case certificate =>
    refine done_doe rfl hp h2 hl fun u hu => ⟨fun hoff => ⟨certificateBytes off len, ?_⟩, fun hoff => ?_, ?_, ?_⟩
    · simp [hu, ha, hoff, certificateBytes]
    · simp [hu, Nat.not_lt.2 hoff]
    · simp [hu]
    · exact State.Frame.eq (s := s) (ps := Part.logs ++ [.np]) (by simp [hu])
  case challenge =>
    refine done_act rfl (decide_eq_true h2) hp fun u hu => ?_
    rw [challenge, State.doe_of_linkUp _ hat] at hu
    refine ⟨⟨(s.at t).draw, (s.at t).drawn.draw, ?_⟩, ?_, ?_⟩
    · simp [hu, ha]
    · simp [hu]
    · exact State.Frame.eq (s := s) (ps := Part.logs ++ [.np]) (by simp [hu])
  case measurements =>
    refine done_act rfl (decide_eq_true h2) hp fun u hu => ?_
    rw [getMeasurements, State.doe_of_linkUp _ hat] at hu
    refine ⟨⟨if sign then some ((s.at t).draw, (s.at t).drawn.draw) else none, ?_, ?_⟩, ?_, ?_⟩
    · have hb : (s.at t).spdmBlocks = s.spdmBlocks := rfl
      have he : s.spdmBlocks.isEmpty = false := rfl
      simp [hu, ha, hb, he]
    · cases sign <;> simp
    · simp [hu]
    · exact State.Frame.eq (s := s) (ps := Part.logs ++ [.np]) (by simp [hu])

end Sys2Proof.Machine
end

section
/-! SUPPORT. Frames of the next state of a command that acts whether or not the rails are on, and of one on a pin. -/

namespace Sys2Proof.Machine

/-- A frame tells of each part that is not named. -/
theorem State.Frame.same {ps : List Part} {s u : State} (h : s.Frame ps u) (p : Part) (hp : p ∉ ps := by decide) : p.Same s u :=
  h p hp

/-- A part that an operation does not name is the same after it. -/
theorem State.same_of_frame {ps : List Part} {u v : State} (h : u.Frame ps v ↔ u.Frame ps u) (p : Part)
    (hp : p ∉ ps := by decide) : p.Same u v := h.2 (State.Frame.refl _ _) p hp

/-- Every part but one. -/
def Part.others (p : Part) : List Part :=
  List.filter (· ≠ p)
    [.now, .pending, .hbm, .vcore, .free, .out, .dict, .sess, .ev, .rings, .core, .fab, .eth, .ptp, .rdma, .nvme, .sched,
     .arr, .slot, .np, .dma, .meter, .twin, .pwr, .land, .fw, .twinMode, .take, .yieldIn, .yieldRec, .linkLost, .lostAt,
     .held, .linked, .mirror, .onPlane, .rsq, .flushes, .dictGens, .qpGens, .can, .mgmt, .expected, .lastDelivered, .joining,
     .closed, .standby, .health, .groups, .takerDone, .stopped, .storm, .flushAll, .slots, .ctrls, .nss, .keks]

@[simp] theorem Part.mem_others {p q : Part} : q ∈ Part.others p ↔ q ≠ p := by
  cases q <;> simp [Part.others]

/-- An operation that may touch every part but `p` leaves `p`. -/
theorem State.same_of_others {p : Part} {u v : State} (h : u.Frame (Part.others p) v ↔ u.Frame (Part.others p) u) : p.Same u v :=
  h.2 (State.Frame.refl _ _) p (by simp)

/-! ### Commands over `actAll` -/

/-- The state after an effect of the housekeeping circuits. -/
def State.afterAll (s : State) (t : Nat) (v : State) : State :=
  { v with now := max s.now t, pending := s.pending, vcore := railVolt v.vcore, core := s.railCore v t }

theorem done_actAll {i : Instr} {s : State} {t : Nat} {ok : Bool} {f : State → State} {Q : State → Prop}
    (hi : exec i s = actAll t ok s f) (hok : ok = true) (h : ∀ u, u = s.afterAll t (f (s.at t)) → Q u) : Done i s Q := by
  subst hok
  exact ⟨_, hi, h _ rfl⟩

@[simp] theorem State.afterAll_units (s : State) (t : Nat) (v : State) :
    (s.afterAll t v).now = max s.now t ∧ (s.afterAll t v).pending = s.pending ∧ (s.afterAll t v).hbm = v.hbm ∧
      (s.afterAll t v).vcore = railVolt v.vcore ∧ (s.afterAll t v).free = v.free ∧ (s.afterAll t v).out = v.out ∧
      (s.afterAll t v).dict = v.dict ∧ (s.afterAll t v).sess = v.sess ∧ (s.afterAll t v).ev = v.ev ∧
      (s.afterAll t v).rings = v.rings ∧ (s.afterAll t v).core = s.railCore v t ∧ (s.afterAll t v).fab = v.fab ∧
      (s.afterAll t v).eth = v.eth ∧ (s.afterAll t v).ptp = v.ptp ∧ (s.afterAll t v).rdma = v.rdma ∧
      (s.afterAll t v).nvme = v.nvme ∧ (s.afterAll t v).sched = v.sched ∧ (s.afterAll t v).arr = v.arr ∧
      (s.afterAll t v).slot = v.slot ∧ (s.afterAll t v).np = v.np ∧ (s.afterAll t v).dma = v.dma ∧
      (s.afterAll t v).meter = v.meter ∧ (s.afterAll t v).twin = v.twin ∧ (s.afterAll t v).pwr = v.pwr ∧
      (s.afterAll t v).land = v.land ∧ (s.afterAll t v).fw = v.fw := by
  simp [State.afterAll]

@[simp] theorem State.afterAll_reads (s : State) (t : Nat) (v : State) :
    v.KeepsReads (s.afterAll t v) ∧ v.KeepsObjects (s.afterAll t v) ∧ (∀ j, (s.afterAll t v).nport j = v.nport j) ∧
      ∀ j, (s.afterAll t v).session? j = v.session? j :=
  ⟨⟨fun _ => rfl, fun _ => rfl, fun _ => rfl, fun _ => rfl, fun _ => rfl, fun _ => rfl, fun _ => rfl, fun _ => rfl, fun _ => rfl,
    fun _ => rfl, fun _ => rfl, fun _ => rfl, fun _ => rfl, fun _ => rfl⟩,
    ⟨rfl, fun _ _ _ => rfl, fun _ _ _ => rfl, fun _ _ => rfl⟩, fun _ => rfl, fun _ => rfl⟩

@[simp] theorem State.frame_afterAll {s v : State} {ps : List Part} (t : Nat) (h : .core ∈ ps ∧ .vcore ∈ ps ∧ .now ∈ ps)
    (hv : s.Frame ps v) : s.Frame ps (s.afterAll t v) := by
  intro p hp
  have := hv p hp
  cases p <;> simp_all [Part.Same, State.afterAll]

/-! ### Commands over `actPin` and `actMem` -/

/-- With the rails on, an event on a pin has its whole effect. -/
theorem done_actPin {i : Instr} {s : State} {t : Nat} {ok : Bool} {pin f : State → State} {Q : State → Prop}
    (hi : exec i s = actPin t ok s pin f) (hok : ok = true) (hp : s.railsOn) (h : ∀ u, u = s.after t (f (s.at t)) → Q u) :
    Done i s Q := by
  subst hok
  have hp : ¬ s.pwr.off = true := by simp [hp]
  exact ⟨_, by rw [hi, actPin, if_pos rfl, if_neg hp]; rfl, h _ rfl⟩

/-- The state after an effect that may write module memory. -/
def State.afterMem (s : State) (t : Nat) (v : State) : State := { s.after t v with hbm := v.hbm }

theorem done_actMem {i : Instr} {s : State} {t : Nat} {ok : Bool} {f : State → State} {Q : State → Prop}
    (hi : exec i s = actMem t ok s f) (hok : ok = true) (hp : s.railsOn) (h : ∀ u, u = s.afterMem t (f (s.at t)) → Q u) :
    Done i s Q := by
  subst hok
  exact ⟨_, by rw [hi, actMem, if_pos rfl, State.runAt_on t f hp]; rfl, h _ rfl⟩

@[simp] theorem State.afterMem_units (s : State) (t : Nat) (v : State) :
    (s.afterMem t v).now = max s.now t ∧ (s.afterMem t v).pending = s.pending ∧ (s.afterMem t v).hbm = v.hbm ∧
      (s.afterMem t v).vcore = s.vcore ∧ (s.afterMem t v).free = v.free ∧ (s.afterMem t v).out = v.out ∧
      (s.afterMem t v).dict = v.dict ∧ (s.afterMem t v).sess = v.sess ∧ (s.afterMem t v).ev = v.ev ∧
      (s.afterMem t v).rings = v.rings ∧ (s.afterMem t v).core = v.core ∧ (s.afterMem t v).fab = v.fab ∧
      (s.afterMem t v).eth = v.eth ∧ (s.afterMem t v).ptp = v.ptp ∧ (s.afterMem t v).rdma = v.rdma ∧
      (s.afterMem t v).nvme = v.nvme ∧ (s.afterMem t v).sched = v.sched ∧ (s.afterMem t v).arr = v.arr ∧
      (s.afterMem t v).slot = v.slot ∧ (s.afterMem t v).np = v.np ∧ (s.afterMem t v).dma = v.dma ∧
      (s.afterMem t v).meter = v.meter ∧ (s.afterMem t v).twin = v.twin ∧ (s.afterMem t v).pwr = v.pwr ∧
      (s.afterMem t v).land = v.land ∧ (s.afterMem t v).fw = v.fw := by
  simp [State.afterMem]

@[simp] theorem State.afterMem_reads (s : State) (t : Nat) (v : State) :
    v.KeepsReads (s.afterMem t v) ∧ v.KeepsObjects (s.afterMem t v) ∧ (∀ j, (s.afterMem t v).nport j = v.nport j) ∧
      ∀ j, (s.afterMem t v).session? j = v.session? j :=
  ⟨⟨fun _ => rfl, fun _ => rfl, fun _ => rfl, fun _ => rfl, fun _ => rfl, fun _ => rfl, fun _ => rfl, fun _ => rfl, fun _ => rfl,
    fun _ => rfl, fun _ => rfl, fun _ => rfl, fun _ => rfl, fun _ => rfl⟩,
    ⟨rfl, fun _ _ _ => rfl, fun _ _ _ => rfl, fun _ _ => rfl⟩, fun _ => rfl, fun _ => rfl⟩

@[simp] theorem State.frame_afterMem {s v : State} {ps : List Part} (t : Nat) (h : .now ∈ ps) (hv : s.Frame ps v) :
    s.Frame ps (s.afterMem t v) := by
  intro p hp
  have := hv p hp
  cases p <;> simp_all [Part.Same, State.afterMem]

end Sys2Proof.Machine
end

section
/-! SUPPORT. The parts that each effect changes: an effect is a frame over the parts of what it calls. A lemma says that outside the
parts of its hypothesis the state is as it was. -/

namespace Sys2Proof.Machine

section
variable {ps : List Part} {s u : State}

@[simp] theorem State.frame_refreshQueue (p k : Nat) (h : .dict ∈ ps ∧ .sched ∈ ps) :
    s.Frame ps (u.refreshQueue p k) ↔ s.Frame ps u := by
  simp only [State.refreshQueue]
  split <;> simp [h]

@[simp] theorem State.frame_sendPfc (p : Nat) (h : .out ∈ ps ∧ .dict ∈ ps ∧ .sched ∈ ps) :
    s.Frame ps (u.sendPfc p) ↔ s.Frame ps u := by
  simp [State.sendPfc, h, State.frame_each, State.frame_when]

@[simp] theorem State.frame_meterAddAt (ts : Int) (tenant m n : Nat)
    (h : .out ∈ ps ∧ .dict ∈ ps ∧ .sess ∈ ps ∧ .ev ∈ ps ∧ .rings ∈ ps ∧ .meter ∈ ps) :
    s.Frame ps (u.meterAddAt ts tenant m n) ↔ s.Frame ps u := by
  simp [State.meterAddAt, h]

@[simp] theorem State.frame_meterAdd (tenant m n : Nat)
    (h : .out ∈ ps ∧ .dict ∈ ps ∧ .sess ∈ ps ∧ .ev ∈ ps ∧ .rings ∈ ps ∧ .meter ∈ ps) :
    s.Frame ps (u.meterAdd tenant m n) ↔ s.Frame ps u := by
  simp [State.meterAdd, h]

@[simp] theorem State.frame_setLpi (p : Nat) (on : Bool) (h : .out ∈ ps ∧ .eth ∈ ps) :
    s.Frame ps (u.setLpi p on) ↔ s.Frame ps u := by
  simp [State.setLpi, h]

@[simp] theorem State.frame_writeSample (egress : Bool) (p : Nat) (f : Sys2Proof.Frame) (stomped : Bool)
    (h : .dict ∈ ps ∧ .fab ∈ ps) :
    s.Frame ps (u.writeSample egress p f stomped) ↔ s.Frame ps u := by
  simp [State.writeSample, h]

@[simp] theorem State.frame_sample (egress : Bool) (p : Nat) (f : Sys2Proof.Frame) (stomped : Bool)
    (h : .dict ∈ ps ∧ .fab ∈ ps) :
    s.Frame ps (u.sample egress p f stomped) ↔ s.Frame ps u := by
  simp only [State.sample]
  split_ifs <;> simp [h]

@[simp] theorem State.frame_sendCopy (m : MirrorCopy) (h : .dict ∈ ps ∧
      .fab ∈ ps) : s.Frame ps (u.sendCopy m) ↔ s.Frame ps u := by
  simp only [State.sendCopy]
  split_ifs <;> simp [h]

@[simp] theorem State.frame_mirror (egress : Bool) (p : Nat) (f : Sys2Proof.Frame) (tenant cls : Nat) (stomped : Bool)
    (h : .dict ∈ ps ∧ .fab ∈ ps) :
    s.Frame ps (u.mirror egress p f tenant cls stomped) ↔ s.Frame ps u := by
  simp only [State.mirror]
  repeat' split
  all_goals simp [h, State.frame_each, State.frame_when]

@[simp] theorem State.frame_stampSent (i : Nat) (p : TxPkt) (h : .rdma ∈ ps) : s.Frame ps (u.stampSent i p) ↔ s.Frame ps u := by
  simp [State.stampSent, h]

@[simp] theorem State.frame_class0Largest (lat : Nat) (h : .dict ∈ ps ∧ .sched ∈ ps) :
    s.Frame ps (u.class0Largest lat) ↔ s.Frame ps u := by
  simp [State.class0Largest, h]

@[simp] theorem State.frame_measureClass0 (id : Nat)
    (h : .out ∈ ps ∧ .dict ∈ ps ∧ .sess ∈ ps ∧ .ev ∈ ps ∧ .rings ∈ ps ∧ .nvme ∈ ps ∧ .sched ∈ ps ∧ .meter ∈ ps) :
    s.Frame ps (u.measureClass0 id) ↔ s.Frame ps u := by
  simp only [State.measureClass0]
  repeat' split
  all_goals simp [h, State.frame_each, State.frame_when]

@[simp] theorem State.frame_meterCompletion (c : Cmd) (sct sc : Nat)
    (h : .out ∈ ps ∧ .dict ∈ ps ∧ .sess ∈ ps ∧ .ev ∈ ps ∧ .rings ∈ ps ∧ .nvme ∈ ps ∧ .meter ∈ ps) :
    s.Frame ps (u.meterCompletion c sct sc) ↔ s.Frame ps u := by
  simp only [State.meterCompletion]
  repeat' split
  all_goals simp [h, State.frame_each, State.frame_when]

@[simp] theorem State.frame_packetLeaves (i : Nat) (p : TxPkt)
    (h : .out ∈ ps ∧ .dict ∈ ps ∧ .sess ∈ ps ∧ .ev ∈ ps ∧ .rings ∈ ps ∧ .rdma ∈ ps ∧ .nvme ∈ ps ∧ .sched ∈ ps ∧ .meter ∈ ps) :
    s.Frame ps (u.packetLeaves i p) ↔ s.Frame ps u := by
  simp only [State.packetLeaves]
  repeat' split
  all_goals simp [h, State.frame_each, State.frame_when]

@[simp] theorem State.frame_startFrame (p : Nat) (f : EgFrame)
    (h : .free ∈ ps ∧ .out ∈ ps ∧ .dict ∈ ps ∧ .sess ∈ ps ∧ .ev ∈ ps ∧ .rings ∈ ps ∧ .fab ∈ ps ∧ .eth ∈ ps ∧ .rdma ∈ ps ∧
        .nvme ∈ ps ∧ .sched ∈ ps ∧ .meter ∈ ps) :
    s.Frame ps (u.startFrame p f) ↔ s.Frame ps u := by
  simp only [State.startFrame]
  split <;> simp [h, State.frame_each, State.frame_when]

@[simp] theorem State.frame_serveQueue (p c k : Nat)
    (h : .free ∈ ps ∧ .out ∈ ps ∧ .dict ∈ ps ∧ .sess ∈ ps ∧ .ev ∈ ps ∧ .rings ∈ ps ∧ .fab ∈ ps ∧ .eth ∈ ps ∧ .rdma ∈ ps ∧
        .nvme ∈ ps ∧ .sched ∈ ps ∧ .meter ∈ ps) :
    s.Frame ps (u.serveQueue p c k) ↔ s.Frame ps u := by
  simp only [State.serveQueue]
  split <;> simp [h, State.frame_each, State.frame_when]

@[simp] theorem State.frame_serveControl (p : Nat)
    (h : .free ∈ ps ∧ .out ∈ ps ∧ .dict ∈ ps ∧ .sess ∈ ps ∧ .ev ∈ ps ∧ .rings ∈ ps ∧ .fab ∈ ps ∧ .eth ∈ ps ∧ .rdma ∈ ps ∧
        .nvme ∈ ps ∧ .sched ∈ ps ∧ .meter ∈ ps) :
    s.Frame ps (u.serveControl p) ↔ s.Frame ps u := by
  simp only [State.serveControl]
  split <;> simp [h]

@[simp] theorem State.frame_serveMirror (p : Nat)
    (h : .free ∈ ps ∧ .out ∈ ps ∧ .dict ∈ ps ∧ .sess ∈ ps ∧ .ev ∈ ps ∧ .rings ∈ ps ∧ .fab ∈ ps ∧ .eth ∈ ps ∧ .rdma ∈ ps ∧
        .nvme ∈ ps ∧ .sched ∈ ps ∧ .meter ∈ ps) :
    s.Frame ps (u.serveMirror p) ↔ s.Frame ps u := by
  simp only [State.serveMirror]
  split <;> simp [h]

@[simp] theorem State.frame_syncLpi (p : Nat) (h : .out ∈ ps ∧ .eth ∈ ps) : s.Frame ps (u.syncLpi p) ↔ s.Frame ps u := by
  simp [State.syncLpi, h]

@[simp] theorem State.frame_nextFrame (p : Nat)
    (h : .free ∈ ps ∧ .out ∈ ps ∧ .dict ∈ ps ∧ .sess ∈ ps ∧ .ev ∈ ps ∧ .rings ∈ ps ∧ .fab ∈ ps ∧ .eth ∈ ps ∧ .rdma ∈ ps ∧
        .nvme ∈ ps ∧ .sched ∈ ps ∧ .meter ∈ ps) :
    s.Frame ps (u.nextFrame p) ↔ s.Frame ps u := by
  simp only [State.nextFrame]
  repeat' split
  all_goals simp [h, State.frame_each, State.frame_when]

@[simp] theorem State.frame_setBuffer (n : Nat) (b : List BufFrame) (h : .eth ∈ ps) :
    s.Frame ps (u.setBuffer n b) ↔ s.Frame ps u := by
  simp [State.setBuffer, h]

@[simp] theorem State.frame_creditAdd (plane dst c : Nat) (take : Bool) (h : .fab ∈ ps) :
    s.Frame ps (u.creditAdd plane dst c take) ↔ s.Frame ps u := by
  simp [State.creditAdd, h]

@[simp] theorem State.frame_setPlaneCells (plane dst c : Nat) (l : List Cell) (h : .fab ∈ ps ∧ .onPlane ∈ ps) :
    s.Frame ps (u.setPlaneCells plane dst c l) ↔ s.Frame ps u := by
  simp [State.setPlaneCells, h]

@[simp] theorem State.frame_served (plane dst c : Nat) (h : .fab ∈ ps) : s.Frame ps (u.served plane dst c) ↔ s.Frame ps u := by
  simp [State.served, h]

@[simp] theorem State.frame_offPlane (plane : Nat) (c : Cell) (h : .fab ∈ ps ∧ .onPlane ∈ ps) :
    s.Frame ps (u.offPlane plane c) ↔ s.Frame ps u := by
  simp [State.offPlane, h]

@[simp] theorem State.frame_correctionFailed (plane : Nat) (h : .fab ∈ ps) :
    s.Frame ps (u.correctionFailed plane) ↔ s.Frame ps u := by
  simp [State.correctionFailed, h]

@[simp] theorem State.frame_probeTransit (plane dst transitPs : Nat)
    (h : .out ∈ ps ∧ .dict ∈ ps ∧ .sess ∈ ps ∧ .ev ∈ ps ∧ .rings ∈ ps ∧ .core ∈ ps) :
    s.Frame ps (u.probeTransit plane dst transitPs) ↔ s.Frame ps u := by
  simp [State.probeTransit, h]

@[simp] theorem State.frame_lossEvent (dst lost damaged : Nat)
    (h : .out ∈ ps ∧ .sess ∈ ps ∧ .ev ∈ ps ∧ .rings ∈ ps ∧ .fab ∈ ps) :
    s.Frame ps (u.lossEvent dst lost damaged) ↔ s.Frame ps u := by
  simp [State.lossEvent, h]

@[simp] theorem State.frame_pushMirror (p : Nat) (m : MirrorCopy)
    (h : .free ∈ ps ∧ .out ∈ ps ∧ .dict ∈ ps ∧ .sess ∈ ps ∧ .ev ∈ ps ∧ .rings ∈ ps ∧ .fab ∈ ps ∧ .eth ∈ ps ∧ .rdma ∈ ps ∧
        .nvme ∈ ps ∧ .sched ∈ ps ∧ .meter ∈ ps) :
    s.Frame ps (u.pushMirror p m) ↔ s.Frame ps u := by
  simp [State.pushMirror, h]

@[simp] theorem State.frame_countFlushed (p : Nat) (f : EgFrame) (h : .dict ∈ ps) :
    s.Frame ps (u.countFlushed p f) ↔ s.Frame ps u := by
  simp [State.countFlushed, h]

@[simp] theorem State.frame_pushControl (p : Nat) (f : EgFrame)
    (h : .free ∈ ps ∧ .out ∈ ps ∧ .dict ∈ ps ∧ .sess ∈ ps ∧ .ev ∈ ps ∧ .rings ∈ ps ∧ .fab ∈ ps ∧ .eth ∈ ps ∧ .rdma ∈ ps ∧
        .nvme ∈ ps ∧ .sched ∈ ps ∧ .meter ∈ ps) :
    s.Frame ps (u.pushControl p f) ↔ s.Frame ps u := by
  simp [State.pushControl, h]

@[simp] theorem State.frame_meterClass0 (p : Nat) (f : EgFrame) (h : .dict ∈ ps ∧ .sched ∈ ps) :
    s.Frame ps (u.meterClass0 p f) ↔ s.Frame ps u := by
  simp [State.meterClass0, h]

@[simp] theorem State.frame_enqueue (p : Nat) (f : EgFrame)
    (h : .free ∈ ps ∧ .out ∈ ps ∧ .dict ∈ ps ∧ .sess ∈ ps ∧ .ev ∈ ps ∧ .rings ∈ ps ∧ .fab ∈ ps ∧ .eth ∈ ps ∧ .rdma ∈ ps ∧
        .nvme ∈ ps ∧ .sched ∈ ps ∧ .meter ∈ ps) :
    s.Frame ps (u.enqueue p f) ↔ s.Frame ps u := by
  simp [State.enqueue, h]

@[simp] theorem State.frame_takeFrame (f : Flow) (x : Reseq) (byLoss : Bool)
    (h : .free ∈ ps ∧ .out ∈ ps ∧ .dict ∈ ps ∧ .sess ∈ ps ∧ .ev ∈ ps ∧ .rings ∈ ps ∧ .fab ∈ ps ∧ .eth ∈ ps ∧ .rdma ∈ ps ∧
        .nvme ∈ ps ∧ .sched ∈ ps ∧ .meter ∈ ps) :
    s.Frame ps (u.takeFrame f x byLoss) ↔ s.Frame ps u := by
  simp [State.takeFrame, h]

@[simp] theorem State.frame_retime (f : Flow) (restart : Bool) (h : .fab ∈ ps ∧ .rsq ∈ ps) :
    s.Frame ps (u.retime f restart) ↔ s.Frame ps u := by
  simp [State.retime, h]

@[simp] theorem State.frame_mapFlows (g : SrcFlow → SrcFlow) (h : .fab ∈ ps) : s.Frame ps (u.mapFlows g) ↔ s.Frame ps u :=
  State.frame_mk (by simp [h])

@[simp] theorem State.frame_planeGone (plane : Nat) (h : .fab ∈ ps) : s.Frame ps (u.planeGone plane) ↔ s.Frame ps u := by
  simp [State.planeGone, h]

@[simp] theorem State.frame_modArr (a : Nat) (f : ArrState → ArrState) (h : .arr ∈ ps) :
    s.Frame ps (u.modArr a f) ↔ s.Frame ps u := State.frame_setArr a _ h

@[simp] theorem State.frame_mergePages (a : Nat) (h : .arr ∈ ps) : s.Frame ps (u.mergePages a) ↔ s.Frame ps u := by
  simp [State.mergePages, h]

@[simp] theorem State.frame_syncAcc (k : Nat) (h : .dict ∈ ps) : s.Frame ps (u.syncAcc k) ↔ s.Frame ps u := by
  simp [State.syncAcc, h]

@[simp] theorem State.frame_syncSlot (n : Nat) (h : .dict ∈ ps) : s.Frame ps (u.syncSlot n) ↔ s.Frame ps u := by
  simp [State.syncSlot, h]

@[simp] theorem State.frame_dropDrives (h : .dict ∈ ps ∧ .sched ∈ ps ∧ .arr ∈ ps ∧ .slot ∈ ps) :
    s.Frame ps u.dropDrives ↔ s.Frame ps u := by
  simp [State.dropDrives, h, State.frame_each, State.frame_when]

@[simp] theorem State.frame_pauseEnds (p prio : Nat) (h : .dict ∈ ps) : s.Frame ps (u.pauseEnds p prio) ↔ s.Frame ps u := by
  simp only [State.pauseEnds]
  split <;> simp [h]

@[simp] theorem State.frame_flushEgress (p : Nat) (h : .out ∈ ps ∧ .dict ∈ ps ∧ .fab ∈ ps ∧ .sched ∈ ps) :
    s.Frame ps (u.flushEgress p) ↔ s.Frame ps u := by
  simp only [State.flushEgress]
  split <;> split_ifs <;> simp [h, State.frame_each, State.frame_when]

@[simp] theorem State.frame_startFlush (p : Nat) (h : .out ∈ ps ∧ .dict ∈ ps ∧ .fab ∈ ps ∧ .sched ∈ ps ∧ .flushes ∈ ps) :
    s.Frame ps (u.startFlush p) ↔ s.Frame ps u := by
  simp [State.startFlush, h]

@[simp] theorem State.frame_stompOpen (p : Nat) (h : .eth ∈ ps) : s.Frame ps (u.stompOpen p) ↔ s.Frame ps u := by
  simp [State.stompOpen, h]

@[simp] theorem State.frame_syncGate (p : Nat) (h : .sched ∈ ps) : s.Frame ps (u.syncGate p) ↔ s.Frame ps u := by
  simp [State.syncGate, h]

@[simp] theorem State.frame_syncGates
    (h : .free ∈ ps ∧ .out ∈ ps ∧ .dict ∈ ps ∧ .sess ∈ ps ∧ .ev ∈ ps ∧ .rings ∈ ps ∧ .fab ∈ ps ∧ .eth ∈ ps ∧ .rdma ∈ ps ∧
        .nvme ∈ ps ∧ .sched ∈ ps ∧ .meter ∈ ps) :
    s.Frame ps u.syncGates ↔ s.Frame ps u := by
  simp [State.syncGates, h, State.frame_each, State.frame_when]

@[simp] theorem State.frame_ledgerStatus (v : Nat) (h : .meter ∈ ps) : s.Frame ps (u.ledgerStatus v) ↔ s.Frame ps u := by
  simp [State.ledgerStatus, h]

@[simp] theorem State.frame_startGates (h : .sched ∈ ps) : s.Frame ps u.startGates ↔ s.Frame ps u := by
  simp [State.startGates, h, State.frame_each, State.frame_when]

@[simp] theorem State.frame_setTimeStatus (v : Nat)
    (h : .free ∈ ps ∧ .out ∈ ps ∧ .dict ∈ ps ∧ .sess ∈ ps ∧ .ev ∈ ps ∧ .rings ∈ ps ∧ .fab ∈ ps ∧ .eth ∈ ps ∧ .rdma ∈ ps ∧
        .nvme ∈ ps ∧ .sched ∈ ps ∧ .meter ∈ ps) :
    s.Frame ps (u.setTimeStatus v) ↔ s.Frame ps u := by
  simp only [State.setTimeStatus]
  split_ifs <;> simp [h]

@[simp] theorem State.frame_holdover
    (h : .free ∈ ps ∧ .out ∈ ps ∧ .dict ∈ ps ∧ .sess ∈ ps ∧ .ev ∈ ps ∧ .rings ∈ ps ∧ .fab ∈ ps ∧ .eth ∈ ps ∧ .ptp ∈ ps ∧
        .rdma ∈ ps ∧ .nvme ∈ ps ∧ .sched ∈ ps ∧ .meter ∈ ps) :
    s.Frame ps u.holdover ↔ s.Frame ps u := by
  simp only [State.holdover]
  split_ifs <;> simp [h]

@[simp] theorem State.frame_ptpFail
    (h : .free ∈ ps ∧ .out ∈ ps ∧ .dict ∈ ps ∧ .sess ∈ ps ∧ .ev ∈ ps ∧ .rings ∈ ps ∧ .fab ∈ ps ∧ .eth ∈ ps ∧ .ptp ∈ ps ∧
        .rdma ∈ ps ∧ .nvme ∈ ps ∧ .sched ∈ ps ∧ .meter ∈ ps) :
    s.Frame ps u.ptpFail ↔ s.Frame ps u := by
  simp [State.ptpFail, h]

@[simp] theorem State.frame_ptpLinkDown (p : Nat)
    (h : .free ∈ ps ∧ .out ∈ ps ∧ .dict ∈ ps ∧ .sess ∈ ps ∧ .ev ∈ ps ∧ .rings ∈ ps ∧ .fab ∈ ps ∧ .eth ∈ ps ∧ .ptp ∈ ps ∧
        .rdma ∈ ps ∧ .nvme ∈ ps ∧ .sched ∈ ps ∧ .meter ∈ ps) :
    s.Frame ps (u.ptpLinkDown p) ↔ s.Frame ps u := by
  simp only [State.ptpLinkDown]
  split_ifs <;> simp [h]

@[simp] theorem State.frame_partnerViolation (p condition : Nat) (mac : Mac) (h : .ev ∈ ps) :
    s.Frame ps (u.partnerViolation p condition mac) ↔ s.Frame ps u := by
  simp [State.partnerViolation, h]

@[simp] theorem State.frame_checkFlap (p : Nat) (h : .out ∈ ps ∧ .sess ∈ ps ∧ .ev ∈ ps ∧ .rings ∈ ps ∧ .eth ∈ ps) :
    s.Frame ps (u.checkFlap p) ↔ s.Frame ps u := by
  simp [State.checkFlap, h]

@[simp] theorem State.frame_declareDown (p : Nat) (flap : Bool)
    (h : .free ∈ ps ∧ .out ∈ ps ∧ .dict ∈ ps ∧ .sess ∈ ps ∧ .ev ∈ ps ∧ .rings ∈ ps ∧ .fab ∈ ps ∧ .eth ∈ ps ∧ .ptp ∈ ps ∧
        .rdma ∈ ps ∧ .nvme ∈ ps ∧ .sched ∈ ps ∧ .meter ∈ ps ∧ .flushes ∈ ps) :
    s.Frame ps (u.declareDown p flap) ↔ s.Frame ps u := by
  simp [State.declareDown, h, State.frame_each, State.frame_when]

@[simp] theorem State.frame_setVf (p v : Nat) (x : Vf) (h : .np ∈ ps) : s.Frame ps (u.setVf p v x) ↔ s.Frame ps u := by
  simp [State.setVf, h]

@[simp] theorem State.frame_vfFatal (p v : Nat) (h : .np ∈ ps) : s.Frame ps (u.vfFatal p v) ↔ s.Frame ps u := by
  simp [State.vfFatal, h]

@[simp] theorem State.frame_failVfs (h : .np ∈ ps) : s.Frame ps u.failVfs ↔ s.Frame ps u := by
  simp (maxDischargeDepth := 8) [State.failVfs, h, State.frame_each, State.frame_when]

@[simp] theorem State.frame_portsOff
    (h : .free ∈ ps ∧ .out ∈ ps ∧ .dict ∈ ps ∧ .sess ∈ ps ∧ .ev ∈ ps ∧ .rings ∈ ps ∧ .fab ∈ ps ∧ .eth ∈ ps ∧ .ptp ∈ ps ∧
        .rdma ∈ ps ∧ .nvme ∈ ps ∧ .sched ∈ ps ∧ .np ∈ ps ∧ .meter ∈ ps ∧ .twin ∈ ps ∧ .flushes ∈ ps ∧ .stopped ∈ ps) :
    s.Frame ps u.portsOff ↔ s.Frame ps u := by
  simp [State.portsOff, h, State.frame_each, State.frame_when]

@[simp] theorem State.frame_freeQp (i : Nat) (h : .dict ∈ ps ∧ .rdma ∈ ps ∧ .qpGens ∈ ps) :
    s.Frame ps (u.freeQp i) ↔ s.Frame ps u := by
  simp [State.freeQp, h]

@[simp] theorem State.frame_syncMirror (h : .dict ∈ ps) : s.Frame ps u.syncMirror ↔ s.Frame ps u := by
  simp [State.syncMirror, h]

@[simp] theorem State.frame_dropHosts (h : .dict ∈ ps ∧ .rdma ∈ ps ∧ .nvme ∈ ps ∧ .qpGens ∈ ps ∧ .ctrls ∈ ps) :
    s.Frame ps u.dropHosts ↔ s.Frame ps u := by
  simp [State.dropHosts, h, State.frame_each, State.frame_when]

@[simp] theorem State.frame_setYieldOut (asserted : Bool) (h : .out ∈ ps ∧ .twin ∈ ps) :
    s.Frame ps (u.setYieldOut asserted) ↔ s.Frame ps u := by
  simp [State.setYieldOut, h]

@[simp] theorem State.frame_modSlot (n : Nat) (f : Slot → Slot) (h : .slot ∈ ps ∧ .slots ∈ ps) :
    s.Frame ps (u.modSlot n f) ↔ s.Frame ps u := State.frame_setSlot n _ h

@[simp] theorem State.frame_dmaHalt (c code addr : Nat)
    (h : .out ∈ ps ∧ .dict ∈ ps ∧ .sess ∈ ps ∧ .ev ∈ ps ∧ .rings ∈ ps ∧ .dma ∈ ps) :
    s.Frame ps (u.dmaHalt c code addr) ↔ s.Frame ps u := by
  simp [State.dmaHalt, h]

@[simp] theorem State.frame_dmaReadLost (c run : Nat)
    (h : .out ∈ ps ∧ .dict ∈ ps ∧ .sess ∈ ps ∧ .ev ∈ ps ∧ .rings ∈ ps ∧ .dma ∈ ps) :
    s.Frame ps (u.dmaReadLost c run) ↔ s.Frame ps u := by
  simp only [State.dmaReadLost]
  repeat' split
  all_goals simp [h, State.frame_each, State.frame_when]

@[simp] theorem State.frame_freeTags (n : Nat)
    (h : .out ∈ ps ∧ .dict ∈ ps ∧ .sess ∈ ps ∧ .ev ∈ ps ∧ .rings ∈ ps ∧ .slot ∈ ps ∧ .dma ∈ ps ∧ .slots ∈ ps) :
    s.Frame ps (u.freeTags n) ↔ s.Frame ps u := by
  simp only [State.freeTags]
  refine (State.frame_each fun v a => ?_).trans ?_ <;>
  repeat' split
  all_goals simp [h, State.frame_each, State.frame_when]

@[simp] theorem State.frame_setSlotState (n v : Nat) (h : .dict ∈ ps) : s.Frame ps (u.setSlotState n v) ↔ s.Frame ps u := by
  simp [State.setSlotState, h]

@[simp] theorem State.frame_holdSlot (n : Nat)
    (h : .out ∈ ps ∧ .dict ∈ ps ∧ .sess ∈ ps ∧ .ev ∈ ps ∧ .rings ∈ ps ∧ .slot ∈ ps ∧ .dma ∈ ps ∧ .slots ∈ ps) :
    s.Frame ps (u.holdSlot n) ↔ s.Frame ps u := by
  simp [State.holdSlot, h]

@[simp] theorem State.frame_silence
    (h : .free ∈ ps ∧ .out ∈ ps ∧ .dict ∈ ps ∧ .sess ∈ ps ∧ .ev ∈ ps ∧ .rings ∈ ps ∧ .fab ∈ ps ∧ .eth ∈ ps ∧ .ptp ∈ ps ∧
        .rdma ∈ ps ∧ .nvme ∈ ps ∧ .sched ∈ ps ∧ .arr ∈ ps ∧ .slot ∈ ps ∧ .np ∈ ps ∧ .dma ∈ ps ∧ .meter ∈ ps ∧ .twin ∈ ps ∧
        .flushes ∈ ps ∧ .qpGens ∈ ps ∧ .stopped ∈ ps ∧ .slots ∈ ps ∧ .ctrls ∈ ps) :
    s.Frame ps u.silence ↔ s.Frame ps u := by
  simp [State.silence, h, State.frame_each, State.frame_when]

@[simp] theorem State.frame_sendNow (r : TwinRec) (h : .out ∈ ps ∧ .dict ∈ ps ∧ .twin ∈ ps) :
    s.Frame ps (u.sendNow r) ↔ s.Frame ps u := by
  simp [State.sendNow, h, State.frame_each, State.frame_when]

@[simp] theorem State.frame_sendRec (ty : RecType) (ctx : Nat) (ref : RecSeq) (bytes : Nat) (p : RecPayload)
    (h : .out ∈ ps ∧ .dict ∈ ps ∧ .twin ∈ ps) :
    s.Frame ps (u.sendRec ty ctx ref bytes p) ↔ s.Frame ps u := by
  simp [State.sendRec, h]

@[simp] theorem State.frame_countYield (h : .dict ∈ ps ∧ .twin ∈ ps ∧
      .takerDone ∈ ps) : s.Frame ps u.countYield ↔ s.Frame ps u := by
  simp [State.countYield, h]

@[simp] theorem State.frame_refuseHeld (h : .out ∈ ps ∧ .sess ∈ ps ∧ .rings ∈ ps ∧ .np ∈ ps ∧ .twin ∈ ps ∧ .held ∈ ps) :
    s.Frame ps u.refuseHeld ↔ s.Frame ps u := by
  simp [State.refuseHeld, h, State.frame_each, State.frame_when]

@[simp] theorem State.frame_enterYield (items : Nat)
    (h : .out ∈ ps ∧ .dict ∈ ps ∧ .sess ∈ ps ∧ .ev ∈ ps ∧ .rings ∈ ps ∧ .np ∈ ps ∧ .twin ∈ ps ∧ .held ∈ ps ∧ .takerDone ∈ ps) :
    s.Frame ps (u.enterYield items) ↔ s.Frame ps u := by
  simp [State.enterYield, h]

@[simp] theorem State.frame_configStep (idx sub : Nat) (h : .twin ∈ ps) : s.Frame ps (u.configStep idx sub) ↔ s.Frame ps u := by
  simp [State.configStep, h]

@[simp] theorem State.frame_storeRow (win : Nat) (st : Stage) (h : .dict ∈ ps ∧ .dictGens ∈ ps) :
    s.Frame ps (u.storeRow win st) ↔ s.Frame ps u := by
  simp [State.storeRow, h, State.frame_each, State.frame_when]

@[simp] theorem State.frame_setStage (sess : Nat) (x : Session) (win : Nat) (st : Stage) (h : .sess ∈ ps) :
    s.Frame ps (u.setStage sess x win st) ↔ s.Frame ps u := by
  simp [State.setStage, h]

@[simp] theorem State.frame_applyCommit (sess win : Nat) (st : Stage) {app : Stage → State → State → State}
    (h : .dict ∈ ps ∧ .sess ∈ ps ∧ .dictGens ∈ ps) (ha : ∀ v, s.Frame ps (app st u v) ↔ s.Frame ps v) :
    s.Frame ps (u.applyCommit sess win st app) ↔ s.Frame ps u := by
  simp only [State.applyCommit]
  split <;> simp [h, ha]

@[simp] theorem State.frame_forgetNegotiation (p : Nat) (h : .dict ∈ ps ∧ .eth ∈ ps) :
    s.Frame ps (u.forgetNegotiation p) ↔ s.Frame ps u := by
  simp [State.forgetNegotiation, h]

@[simp] theorem State.frame_checkOversubscribed (p : Nat) (h : .out ∈ ps ∧ .dict ∈ ps ∧ .sess ∈ ps ∧ .ev ∈ ps ∧ .rings ∈ ps) :
    s.Frame ps (u.checkOversubscribed p) ↔ s.Frame ps u := by
  simp [State.checkOversubscribed, h]

@[simp] theorem State.frame_recheckGate (p : Nat) (h : .out ∈ ps ∧ .sess ∈ ps ∧ .ev ∈ ps ∧ .rings ∈ ps ∧ .sched ∈ ps) :
    s.Frame ps (u.recheckGate p) ↔ s.Frame ps u := by
  simp [State.recheckGate, h]

@[simp] theorem State.frame_checkShort (p : Nat) (h : .out ∈ ps ∧ .sess ∈ ps ∧ .ev ∈ ps ∧ .rings ∈ ps ∧ .eth ∈ ps) :
    s.Frame ps (u.checkShort p) ↔ s.Frame ps u := by
  simp [State.checkShort, h]

@[simp] theorem State.frame_forceHeadroom (p : Nat) (h : .out ∈ ps ∧ .sess ∈ ps ∧ .ev ∈ ps ∧ .rings ∈ ps ∧ .eth ∈ ps) :
    s.Frame ps (u.forceHeadroom p) ↔ s.Frame ps u := by
  simp [State.forceHeadroom, h]

@[simp] theorem State.frame_rerate (p : Nat) (h : .sched ∈ ps) : s.Frame ps (u.rerate p) ↔ s.Frame ps u :=
  State.frame_setEg p _ h

@[simp] theorem State.frame_enforceCage (n : Nat)
    (h : .free ∈ ps ∧ .out ∈ ps ∧ .dict ∈ ps ∧ .sess ∈ ps ∧ .ev ∈ ps ∧ .rings ∈ ps ∧ .fab ∈ ps ∧ .eth ∈ ps ∧ .ptp ∈ ps ∧
        .rdma ∈ ps ∧ .nvme ∈ ps ∧ .sched ∈ ps ∧ .meter ∈ ps ∧ .flushes ∈ ps) :
    s.Frame ps (u.enforceCage n) ↔ s.Frame ps u := by
  simp [State.enforceCage, h, State.frame_each, State.frame_when]

@[simp] theorem State.frame_setLowPower (n : Nat) (low : Bool) (h : .out ∈ ps ∧ .eth ∈ ps) :
    s.Frame ps (u.setLowPower n low) ↔ s.Frame ps u := by
  simp [State.setLowPower, h]

@[simp] theorem State.frame_unreadablePower (n : Nat)
    (h : .free ∈ ps ∧ .out ∈ ps ∧ .dict ∈ ps ∧ .sess ∈ ps ∧ .ev ∈ ps ∧ .rings ∈ ps ∧ .fab ∈ ps ∧ .eth ∈ ps ∧ .ptp ∈ ps ∧
        .rdma ∈ ps ∧ .nvme ∈ ps ∧ .sched ∈ ps ∧ .meter ∈ ps ∧ .flushes ∈ ps) :
    s.Frame ps (u.unreadablePower n) ↔ s.Frame ps u := by
  simp [State.unreadablePower, h]

@[simp] theorem State.frame_declareFaulty (sub k : Nat) (h : .out ∈ ps ∧ .dict ∈ ps ∧ .sess ∈ ps ∧ .ev ∈ ps ∧ .rings ∈ ps) :
    s.Frame ps (u.declareFaulty sub k) ↔ s.Frame ps u := by
  simp [State.declareFaulty, h]

@[simp] theorem State.frame_inputChange (line sub k limit window : Nat)
    (h : .out ∈ ps ∧ .dict ∈ ps ∧ .sess ∈ ps ∧ .ev ∈ ps ∧ .rings ∈ ps ∧ .land ∈ ps) :
    s.Frame ps (u.inputChange line sub k limit window) ↔ s.Frame ps u := by
  simp [State.inputChange, h]

@[simp] theorem State.frame_emptyCage (n : Nat)
    (h : .free ∈ ps ∧ .out ∈ ps ∧ .dict ∈ ps ∧ .sess ∈ ps ∧ .ev ∈ ps ∧ .rings ∈ ps ∧ .fab ∈ ps ∧ .eth ∈ ps ∧ .ptp ∈ ps ∧
        .rdma ∈ ps ∧ .nvme ∈ ps ∧ .sched ∈ ps ∧ .meter ∈ ps ∧ .flushes ∈ ps) :
    s.Frame ps (u.emptyCage n) ↔ s.Frame ps u := by
  simp [State.emptyCage, h, State.frame_each, State.frame_when]

@[simp] theorem State.frame_classify (n : Nat) (plug : Plug)
    (h : .free ∈ ps ∧ .out ∈ ps ∧ .dict ∈ ps ∧ .sess ∈ ps ∧ .ev ∈ ps ∧ .rings ∈ ps ∧ .fab ∈ ps ∧ .eth ∈ ps ∧ .ptp ∈ ps ∧
        .rdma ∈ ps ∧ .nvme ∈ ps ∧ .sched ∈ ps ∧ .meter ∈ ps ∧ .flushes ∈ ps) :
    s.Frame ps (u.classify n plug) ↔ s.Frame ps u := by
  simp only [State.classify]
  split <;> simp [h, State.frame_each, State.frame_when]

@[simp] theorem State.frame_tryDecrease (p prio : Nat) (h : .out ∈ ps ∧ .sess ∈ ps ∧ .ev ∈ ps ∧ .rings ∈ ps ∧ .eth ∈ ps) :
    s.Frame ps (u.tryDecrease p prio) ↔ s.Frame ps u := by
  simp [State.tryDecrease, h]

@[simp] theorem State.frame_recomputeHeadroom (p : Nat) (h : .out ∈ ps ∧ .sess ∈ ps ∧ .ev ∈ ps ∧ .rings ∈ ps ∧ .eth ∈ ps) :
    s.Frame ps (u.recomputeHeadroom p) ↔ s.Frame ps u := by
  simp [State.recomputeHeadroom, h, State.frame_each, State.frame_when]

@[simp] theorem State.frame_pushDelay (p : Nat) (d : Option Int)
    (h : .out ∈ ps ∧ .sess ∈ ps ∧ .ev ∈ ps ∧ .rings ∈ ps ∧ .eth ∈ ps) :
    s.Frame ps (u.pushDelay p d) ↔ s.Frame ps u := by
  simp [State.pushDelay, h]

@[simp] theorem State.frame_enqueueCtl (p len : Nat) (c : Ctl)
    (h : .free ∈ ps ∧ .out ∈ ps ∧ .dict ∈ ps ∧ .sess ∈ ps ∧ .ev ∈ ps ∧ .rings ∈ ps ∧ .fab ∈ ps ∧ .eth ∈ ps ∧ .rdma ∈ ps ∧
        .nvme ∈ ps ∧ .sched ∈ ps ∧ .meter ∈ ps) :
    s.Frame ps (u.enqueueCtl p len c) ↔ s.Frame ps u := by
  simp [State.enqueueCtl, h]

@[simp] theorem State.frame_discardPrio (p prio : Nat) (h : .dict ∈ ps ∧ .sched ∈ ps) :
    s.Frame ps (u.discardPrio p prio) ↔ s.Frame ps u := by
  simp [State.discardPrio, h]

@[simp] theorem frame_applyPortSettings (st : Stage) (old : State)
    (h : .free ∈ ps ∧ .out ∈ ps ∧ .dict ∈ ps ∧ .sess ∈ ps ∧ .ev ∈ ps ∧ .rings ∈ ps ∧ .fab ∈ ps ∧ .eth ∈ ps ∧ .ptp ∈ ps ∧
        .rdma ∈ ps ∧ .nvme ∈ ps ∧ .sched ∈ ps ∧ .meter ∈ ps ∧ .flushes ∈ ps) :
    s.Frame ps (applyPortSettings st old u) ↔ s.Frame ps u := by
  simp [applyPortSettings, h]

@[simp] theorem State.frame_touch (i : Nat) (h : .dict ∈ ps ∧ .rdma ∈ ps) : s.Frame ps (u.touch i) ↔ s.Frame ps u := by
  simp only [State.touch]
  split <;> simp [h]

@[simp] theorem State.frame_sendQpRec (i : Nat) (final : Bool) (h : .out ∈ ps ∧ .dict ∈ ps ∧ .twin ∈ ps) :
    s.Frame ps (u.sendQpRec i final) ↔ s.Frame ps u := by
  simp [State.sendQpRec, h]

@[simp] theorem State.frame_qpChanged (i : Nat) (h : .out ∈ ps ∧ .dict ∈ ps ∧ .twin ∈ ps) :
    s.Frame ps (u.qpChanged i) ↔ s.Frame ps u := by
  simp [State.qpChanged, h]

@[simp] theorem State.frame_sendPkt (i : Nat) (p : TxPkt) (retx : Bool)
    (h : .free ∈ ps ∧ .out ∈ ps ∧ .dict ∈ ps ∧ .sess ∈ ps ∧ .ev ∈ ps ∧ .rings ∈ ps ∧ .fab ∈ ps ∧ .eth ∈ ps ∧ .rdma ∈ ps ∧
        .nvme ∈ ps ∧ .sched ∈ ps ∧ .meter ∈ ps ∧ .twin ∈ ps) :
    s.Frame ps (u.sendPkt i p retx) ↔ s.Frame ps u := by
  simp [State.sendPkt, h, State.frame_each, State.frame_when]

@[simp] theorem State.frame_sendMsg (i : Nat) (m : SendMsg)
    (h : .free ∈ ps ∧ .out ∈ ps ∧ .dict ∈ ps ∧ .sess ∈ ps ∧ .ev ∈ ps ∧ .rings ∈ ps ∧ .fab ∈ ps ∧ .eth ∈ ps ∧ .rdma ∈ ps ∧
        .nvme ∈ ps ∧ .sched ∈ ps ∧ .meter ∈ ps ∧ .twin ∈ ps) :
    s.Frame ps (u.sendMsg i m) ↔ s.Frame ps u := by
  simp only [State.sendMsg]
  split <;> simp [h, State.frame_each, State.frame_when]

@[simp] theorem State.frame_gateHeld (m : SendMsg) (h : .nvme ∈ ps) : s.Frame ps (u.gateHeld m) ↔ s.Frame ps u := by
  simp only [State.gateHeld]
  split <;> simp [h]

@[simp] theorem State.frame_pump (i a : Nat)
    (h : .free ∈ ps ∧ .out ∈ ps ∧ .dict ∈ ps ∧ .sess ∈ ps ∧ .ev ∈ ps ∧ .rings ∈ ps ∧ .fab ∈ ps ∧ .eth ∈ ps ∧ .rdma ∈ ps ∧
        .nvme ∈ ps ∧ .sched ∈ ps ∧ .meter ∈ ps ∧ .twin ∈ ps) :
    s.Frame ps (u.pump i a) ↔ s.Frame ps u := by
  induction a generalizing u with
  | zero => rfl
  | succ a ih =>
    simp only [State.pump]
    split <;> simp [h, ih, State.frame_each, State.frame_when]

@[simp] theorem State.frame_pumpAll (i : Nat)
    (h : .free ∈ ps ∧ .out ∈ ps ∧ .dict ∈ ps ∧ .sess ∈ ps ∧ .ev ∈ ps ∧ .rings ∈ ps ∧ .fab ∈ ps ∧ .eth ∈ ps ∧ .rdma ∈ ps ∧
        .nvme ∈ ps ∧ .sched ∈ ps ∧ .meter ∈ ps ∧ .twin ∈ ps) :
    s.Frame ps (u.pumpAll i) ↔ s.Frame ps u := by
  simp [State.pumpAll, h]

@[simp] theorem State.frame_postMsg (i : Nat) (m : SendMsg)
    (h : .free ∈ ps ∧ .out ∈ ps ∧ .dict ∈ ps ∧ .sess ∈ ps ∧ .ev ∈ ps ∧ .rings ∈ ps ∧ .fab ∈ ps ∧ .eth ∈ ps ∧ .rdma ∈ ps ∧
        .nvme ∈ ps ∧ .sched ∈ ps ∧ .meter ∈ ps ∧ .twin ∈ ps) :
    s.Frame ps (u.postMsg i m) ↔ s.Frame ps u := by
  simp [State.postMsg, h]

@[simp] theorem State.frame_vfInterrupt (p v k : Nat) (h : .out ∈ ps ∧ .np ∈ ps) :
    s.Frame ps (u.vfInterrupt p v k) ↔ s.Frame ps u := by
  simp only [State.vfInterrupt]
  split <;> simp [h]

@[simp] theorem State.frame_writeCqe (p v cq : Nat) (e : Cqe) (h : .out ∈ ps ∧ .np ∈ ps) :
    s.Frame ps (u.writeCqe p v cq e) ↔ s.Frame ps u := by
  simp only [State.writeCqe]
  split <;> simp [h]

@[simp] theorem State.frame_complete (id sct sc dw0 : Nat)
    (h : .free ∈ ps ∧ .out ∈ ps ∧ .dict ∈ ps ∧ .sess ∈ ps ∧ .ev ∈ ps ∧ .rings ∈ ps ∧ .fab ∈ ps ∧ .eth ∈ ps ∧ .rdma ∈ ps ∧
        .nvme ∈ ps ∧ .sched ∈ ps ∧ .np ∈ ps ∧ .meter ∈ ps ∧ .twin ∈ ps) :
    s.Frame ps (u.complete id sct sc dw0) ↔ s.Frame ps u := by
  simp only [State.complete]
  repeat' split
  all_goals simp [h, State.frame_each, State.frame_when]

@[simp] theorem State.frame_deliverEvents (k a : Nat)
    (h : .free ∈ ps ∧ .out ∈ ps ∧ .dict ∈ ps ∧ .sess ∈ ps ∧ .ev ∈ ps ∧ .rings ∈ ps ∧ .fab ∈ ps ∧ .eth ∈ ps ∧ .rdma ∈ ps ∧
        .nvme ∈ ps ∧ .sched ∈ ps ∧ .np ∈ ps ∧ .meter ∈ ps ∧ .twin ∈ ps ∧ .ctrls ∈ ps) :
    s.Frame ps (u.deliverEvents k a) ↔ s.Frame ps u := by
  induction a generalizing u with
  | zero => rfl
  | succ a ih =>
    simp only [State.deliverEvents]
    split <;> simp [h, ih, State.frame_each, State.frame_when]

@[simp] theorem State.frame_asyncEvent (k typ info log : Nat)
    (h : .free ∈ ps ∧ .out ∈ ps ∧ .dict ∈ ps ∧ .sess ∈ ps ∧ .ev ∈ ps ∧ .rings ∈ ps ∧ .fab ∈ ps ∧ .eth ∈ ps ∧ .rdma ∈ ps ∧
        .nvme ∈ ps ∧ .sched ∈ ps ∧ .np ∈ ps ∧ .meter ∈ ps ∧ .twin ∈ ps ∧ .ctrls ∈ ps) :
    s.Frame ps (u.asyncEvent k typ info log) ↔ s.Frame ps u := by
  simp [State.asyncEvent, h]

@[simp] theorem State.frame_discoveryChanged (a : Nat)
    (h : .free ∈ ps ∧ .out ∈ ps ∧ .dict ∈ ps ∧ .sess ∈ ps ∧ .ev ∈ ps ∧ .rings ∈ ps ∧ .fab ∈ ps ∧ .eth ∈ ps ∧ .rdma ∈ ps ∧
        .nvme ∈ ps ∧ .sched ∈ ps ∧ .np ∈ ps ∧ .meter ∈ ps ∧ .twin ∈ ps ∧ .ctrls ∈ ps) :
    s.Frame ps (u.discoveryChanged a) ↔ s.Frame ps u := by
  simp [State.discoveryChanged, h, State.frame_each, State.frame_when]

@[simp] theorem State.frame_refreshDiscovery (old : State)
    (h : .free ∈ ps ∧ .out ∈ ps ∧ .dict ∈ ps ∧ .sess ∈ ps ∧ .ev ∈ ps ∧ .rings ∈ ps ∧ .fab ∈ ps ∧ .eth ∈ ps ∧ .rdma ∈ ps ∧
        .nvme ∈ ps ∧ .sched ∈ ps ∧ .np ∈ ps ∧ .meter ∈ ps ∧ .twin ∈ ps ∧ .ctrls ∈ ps) :
    s.Frame ps (u.refreshDiscovery old) ↔ s.Frame ps u :=
  State.frame_each fun v a => by split_ifs <;> simp [h]

@[simp] theorem State.frame_closePage (upTo start : Int) (more next : Nat)
    (h : .out ∈ ps ∧ .dict ∈ ps ∧ .sess ∈ ps ∧ .ev ∈ ps ∧ .rings ∈ ps ∧ .meter ∈ ps) :
    s.Frame ps (u.closePage upTo start more next) ↔ s.Frame ps u := by
  simp [State.closePage, h]

@[simp] theorem State.frame_closeMinute (h : .out ∈ ps ∧ .dict ∈ ps ∧ .sess ∈ ps ∧ .ev ∈ ps ∧ .rings ∈ ps ∧ .meter ∈ ps) :
    s.Frame ps u.closeMinute ↔ s.Frame ps u := by
  simp [State.closeMinute, h]

@[simp] theorem State.frame_closeDue (upTo : Int)
    (h : .out ∈ ps ∧ .dict ∈ ps ∧ .sess ∈ ps ∧ .ev ∈ ps ∧ .rings ∈ ps ∧ .meter ∈ ps) :
    s.Frame ps (u.closeDue upTo) ↔ s.Frame ps u := by
  simp [State.closeDue, h, State.frame_each, State.frame_when]

@[simp] theorem State.frame_syncHost (a : Nat) (h : .dict ∈ ps) : s.Frame ps (u.syncHost a) ↔ s.Frame ps u := by
  simp [State.syncHost, h]

@[simp] theorem State.frame_dropFrames (i : Nat) (h : .sched ∈ ps) : s.Frame ps (u.dropFrames i) ↔ s.Frame ps u := by
  simp [State.dropFrames, h]

@[simp] theorem State.frame_dropMc (k : Nat) (h : .dict ∈ ps ∧ .sched ∈ ps ∧ .slot ∈ ps) :
    s.Frame ps (u.dropMc k) ↔ s.Frame ps u := by
  simp [State.dropMc, h]

@[simp] theorem State.frame_closeStream (k : Nat) (h : .dict ∈ ps ∧ .sched ∈ ps ∧ .slot ∈ ps) :
    s.Frame ps (u.closeStream k) ↔ s.Frame ps u := by
  simp only [State.closeStream]
  repeat' split
  all_goals simp [h, State.frame_each, State.frame_when]

@[simp] theorem State.frame_setAcc (k : Nat) (x : Accum) (h : .arr ∈ ps) : s.Frame ps (u.setAcc k x) ↔ s.Frame ps u := by
  simp [State.setAcc, h]

@[simp] theorem State.frame_closeCtx (c : Option Nat) (h : .dict ∈ ps ∧ .fab ∈ ps ∧ .arr ∈ ps) :
    s.Frame ps (u.closeCtx c) ↔ s.Frame ps u := by
  simp only [State.closeCtx]
  split <;> simp [h]

@[simp] theorem State.frame_stopResends (i : Nat) (h : .dict ∈ ps ∧ .fab ∈ ps ∧ .sched ∈ ps ∧ .arr ∈ ps ∧ .slot ∈ ps) :
    s.Frame ps (u.stopResends i) ↔ s.Frame ps u := by
  simp [State.stopResends, h, State.frame_each, State.frame_when]

@[simp] theorem State.frame_stopReads (id : Nat) (h : .dict ∈ ps ∧ .fab ∈ ps ∧ .sched ∈ ps ∧ .arr ∈ ps ∧ .slot ∈ ps) :
    s.Frame ps (u.stopReads id) ↔ s.Frame ps u := by
  simp [State.stopReads, h, State.frame_each, State.frame_when]

@[simp] theorem State.frame_endCmd (id : Nat) (h : .dict ∈ ps ∧ .fab ∈ ps ∧ .nvme ∈ ps ∧ .sched ∈ ps ∧ .arr ∈ ps ∧ .slot ∈ ps) :
    s.Frame ps (u.endCmd id) ↔ s.Frame ps u := by
  simp [State.endCmd, h]

@[simp] theorem State.frame_endQpCmds (i : Nat)
    (h : .dict ∈ ps ∧ .fab ∈ ps ∧ .nvme ∈ ps ∧ .sched ∈ ps ∧ .arr ∈ ps ∧ .slot ∈ ps) :
    s.Frame ps (u.endQpCmds i) ↔ s.Frame ps u := by
  simp [State.endQpCmds, h, State.frame_each, State.frame_when]

@[simp] theorem State.frame_qpErrorEvents (q : Qp) (wire reason : Nat) (psn : Psn) (syndrome affected : Nat)
    (h : .out ∈ ps ∧ .sess ∈ ps ∧ .ev ∈ ps ∧ .rings ∈ ps) :
    s.Frame ps (u.qpErrorEvents q wire reason psn syndrome affected) ↔ s.Frame ps u := by
  simp [State.qpErrorEvents, h]

@[simp] theorem State.frame_qpFail (i reason : Nat) (psn : Psn) (syndrome : Nat) (host : Bool)
    (h : .free ∈ ps ∧ .out ∈ ps ∧ .dict ∈ ps ∧ .sess ∈ ps ∧ .ev ∈ ps ∧ .rings ∈ ps ∧ .fab ∈ ps ∧ .eth ∈ ps ∧ .rdma ∈ ps ∧
        .nvme ∈ ps ∧ .sched ∈ ps ∧ .arr ∈ ps ∧ .slot ∈ ps ∧ .meter ∈ ps) :
    s.Frame ps (u.qpFail i reason psn syndrome host) ↔ s.Frame ps u := by
  simp [State.qpFail, h]

@[simp] theorem State.frame_deleteCtrl (k : Nat)
    (h : .free ∈ ps ∧ .out ∈ ps ∧ .dict ∈ ps ∧ .sess ∈ ps ∧ .ev ∈ ps ∧ .rings ∈ ps ∧ .fab ∈ ps ∧ .eth ∈ ps ∧ .rdma ∈ ps ∧
        .nvme ∈ ps ∧ .sched ∈ ps ∧ .arr ∈ ps ∧ .slot ∈ ps ∧ .meter ∈ ps ∧ .ctrls ∈ ps) :
    s.Frame ps (u.deleteCtrl k) ↔ s.Frame ps u := by
  simp [State.deleteCtrl, h, State.frame_each, State.frame_when]

@[simp] theorem State.frame_qpGone (i : Nat)
    (h : .free ∈ ps ∧ .out ∈ ps ∧ .dict ∈ ps ∧ .sess ∈ ps ∧ .ev ∈ ps ∧ .rings ∈ ps ∧ .fab ∈ ps ∧ .eth ∈ ps ∧ .rdma ∈ ps ∧
        .nvme ∈ ps ∧ .sched ∈ ps ∧ .arr ∈ ps ∧ .slot ∈ ps ∧ .meter ∈ ps ∧ .ctrls ∈ ps) :
    s.Frame ps (u.qpGone i) ↔ s.Frame ps u := by
  simp only [State.qpGone]
  split <;> simp [h]

@[simp] theorem State.frame_setOffender (ip : Ip) (o : Offender) (h : .rdma ∈ ps) :
    s.Frame ps (u.setOffender ip o) ↔ s.Frame ps u := by
  simp [State.setOffender, h]

@[simp] theorem State.frame_qpDown (i reason : Nat) (psn : Psn) (syndrome : Nat)
    (h : .free ∈ ps ∧ .out ∈ ps ∧ .dict ∈ ps ∧ .sess ∈ ps ∧ .ev ∈ ps ∧ .rings ∈ ps ∧ .fab ∈ ps ∧ .eth ∈ ps ∧ .rdma ∈ ps ∧
        .nvme ∈ ps ∧ .sched ∈ ps ∧ .arr ∈ ps ∧ .slot ∈ ps ∧ .meter ∈ ps ∧ .ctrls ∈ ps) :
    s.Frame ps (u.qpDown i reason psn syndrome) ↔ s.Frame ps u := by
  simp [State.qpDown, h]

@[simp] theorem State.frame_sendAeth (i : Nat) (psn : Psn) (syndrome : Nat)
    (h : .free ∈ ps ∧ .out ∈ ps ∧ .dict ∈ ps ∧ .sess ∈ ps ∧ .ev ∈ ps ∧ .rings ∈ ps ∧ .fab ∈ ps ∧ .eth ∈ ps ∧ .rdma ∈ ps ∧
        .nvme ∈ ps ∧ .sched ∈ ps ∧ .meter ∈ ps ∧ .twin ∈ ps) :
    s.Frame ps (u.sendAeth i psn syndrome) ↔ s.Frame ps u := by
  simp [State.sendAeth, h]

@[simp] theorem State.frame_sendAck (i : Nat)
    (h : .free ∈ ps ∧ .out ∈ ps ∧ .dict ∈ ps ∧ .sess ∈ ps ∧ .ev ∈ ps ∧ .rings ∈ ps ∧ .fab ∈ ps ∧ .eth ∈ ps ∧ .rdma ∈ ps ∧
        .nvme ∈ ps ∧ .sched ∈ ps ∧ .meter ∈ ps ∧ .twin ∈ ps) :
    s.Frame ps (u.sendAck i) ↔ s.Frame ps u := by
  simp [State.sendAck, h]

@[simp] theorem State.frame_dismissCtrl (k : Nat)
    (h : .free ∈ ps ∧ .out ∈ ps ∧ .dict ∈ ps ∧ .sess ∈ ps ∧ .ev ∈ ps ∧ .rings ∈ ps ∧ .fab ∈ ps ∧ .eth ∈ ps ∧ .rdma ∈ ps ∧
        .nvme ∈ ps ∧ .sched ∈ ps ∧ .arr ∈ ps ∧ .slot ∈ ps ∧ .meter ∈ ps ∧ .ctrls ∈ ps) :
    s.Frame ps (u.dismissCtrl k) ↔ s.Frame ps u := by
  simp [State.dismissCtrl, h]

@[simp] theorem State.frame_deliverCapsule (i : Nat) (c : Capsule) (h : .rdma ∈ ps ∧ .nvme ∈ ps) :
    s.Frame ps (u.deliverCapsule i c) ↔ s.Frame ps u := by
  simp [State.deliverCapsule, h]

@[simp] theorem State.frame_drainResend (i a : Nat)
    (h : .free ∈ ps ∧ .out ∈ ps ∧ .dict ∈ ps ∧ .sess ∈ ps ∧ .ev ∈ ps ∧ .rings ∈ ps ∧ .fab ∈ ps ∧ .eth ∈ ps ∧ .rdma ∈ ps ∧
        .nvme ∈ ps ∧ .sched ∈ ps ∧ .meter ∈ ps ∧ .twin ∈ ps) :
    s.Frame ps (u.drainResend i a) ↔ s.Frame ps u := by
  induction a generalizing u with
  | zero => rfl
  | succ a ih =>
    simp only [State.drainResend]
    split <;> simp [h, ih, State.frame_each, State.frame_when]

@[simp] theorem State.frame_dropRetx (i : Nat) (a : Psn) (h : .sched ∈ ps) : s.Frame ps (u.dropRetx i a) ↔ s.Frame ps u := by
  simp [State.dropRetx, h]

@[simp] theorem State.frame_enqMember (c : MemberCmd) (h : .sched ∈ ps ∧ .slot ∈ ps) :
    s.Frame ps (u.enqMember c) ↔ s.Frame ps u := by
  simp [State.enqMember, h]

@[simp] theorem State.frame_leaveLpi (h : .out ∈ ps ∧ .eth ∈ ps) : s.Frame ps u.leaveLpi ↔ s.Frame ps u := by
  simp [State.leaveLpi, h, State.frame_each, State.frame_when]

@[simp] theorem State.frame_thawNow (h : .free ∈ ps ∧ .out ∈ ps ∧ .dict ∈ ps ∧ .eth ∈ ps ∧ .pwr ∈ ps) :
    s.Frame ps u.thawNow ↔ s.Frame ps u := by
  simp [State.thawNow, h]

@[simp] theorem State.frame_setRecon (rid : Nat) (x : Recon) (h : .arr ∈ ps) : s.Frame ps (u.setRecon rid x) ↔ s.Frame ps u := by
  simp [State.setRecon, h]

@[simp] theorem State.frame_issueRecon (rid : Nat) (x : Recon) (a : List Nat) (h : .sched ∈ ps ∧ .arr ∈ ps ∧ .slot ∈ ps) :
    s.Frame ps (u.issueRecon rid x a) ↔ s.Frame ps u := by
  simp [State.issueRecon, h, State.frame_each, State.frame_when]

@[simp] theorem State.frame_openCtx (n : Nat) (h : .dict ∈ ps ∧ .arr ∈ ps) : s.Frame ps (u.openCtx n).2 ↔ s.Frame ps u := by
  simp only [State.openCtx]
  repeat' split
  all_goals simp [h]

theorem State.frame_of_openCtx {v : State} {n : Nat} {k : Option Nat} (hv : u.openCtx n = (k, v)) (h : .dict ∈ ps ∧ .arr ∈ ps) :
    s.Frame ps v ↔ s.Frame ps u := by
  simpa [hv] using State.frame_openCtx (s := s) (u := u) n h

@[simp] theorem State.frame_syncArounds (a : Nat) (h : .dict ∈ ps) : s.Frame ps (u.syncArounds a) ↔ s.Frame ps u := by
  simp [State.syncArounds, h]

@[simp] theorem State.frame_eraseRecon (rid : Nat) (h : .dict ∈ ps ∧ .fab ∈ ps ∧ .arr ∈ ps) :
    s.Frame ps (u.eraseRecon rid) ↔ s.Frame ps u := by
  simp only [State.eraseRecon]
  split <;> simp [h]

@[simp] theorem State.frame_readMember (id off a addr len : Nat) (again : Bool) (h : .sched ∈ ps ∧ .slot ∈ ps) :
    s.Frame ps (u.readMember id off a addr len again) ↔ s.Frame ps u := by
  simp [State.readMember, h]

@[simp] theorem State.frame_writeRecords (a : Nat) (h : .free ∈ ps ∧ .sched ∈ ps ∧ .slot ∈ ps) :
    s.Frame ps (u.writeRecords a) ↔ s.Frame ps u := by
  simp [State.writeRecords, h, State.frame_each, State.frame_when]

@[simp] theorem State.frame_loseRange (a addr len cause : Nat)
    (h : .free ∈ ps ∧ .out ∈ ps ∧ .dict ∈ ps ∧ .sess ∈ ps ∧ .ev ∈ ps ∧ .rings ∈ ps ∧ .nvme ∈ ps ∧ .sched ∈ ps ∧ .arr ∈ ps ∧
        .slot ∈ ps ∧ .nss ∈ ps) :
    s.Frame ps (u.loseRange a addr len cause) ↔ s.Frame ps u := by
  simp only [State.loseRange]
  split <;> simp [h]

@[simp] theorem State.frame_setFlush (a r : Nat) (f : Flush) (h : .arr ∈ ps) : s.Frame ps (u.setFlush a r f) ↔ s.Frame ps u := by
  simp [State.setFlush, h]

@[simp] theorem State.frame_syncDirty (h : .dict ∈ ps ∧ .pwr ∈ ps) : s.Frame ps u.syncDirty ↔ s.Frame ps u := by
  simp [State.syncDirty, h, State.frame_each, State.frame_when]

@[simp] theorem State.frame_addReads (a r : Nat) (cs : List MemberCmd) (h : .sched ∈ ps ∧ .arr ∈ ps ∧ .slot ∈ ps) :
    s.Frame ps (u.addReads a r cs) ↔ s.Frame ps u := by
  simp only [State.addReads]
  refine State.frame_each fun v a => ?_
  repeat' split
  all_goals simp [h, State.frame_each, State.frame_when]

@[simp] theorem State.frame_issueReads (a r : Nat) (f : Flush) (h : .dict ∈ ps ∧ .sched ∈ ps ∧ .arr ∈ ps ∧ .slot ∈ ps) :
    s.Frame ps (u.issueReads a r f) ↔ s.Frame ps u := by
  simp [State.issueReads, h, State.frame_each, State.frame_when]

@[simp] theorem State.frame_jAppend (a : Nat) (r : JRec) (h : .arr ∈ ps) : s.Frame ps (u.jAppend a r) ↔ s.Frame ps u := by
  simp [State.jAppend, h]

@[simp] theorem State.frame_openFlush (a r : Nat) (f : Flush)
    (h : .dict ∈ ps ∧ .sched ∈ ps ∧ .arr ∈ ps ∧ .slot ∈ ps ∧ .pwr ∈ ps) :
    s.Frame ps (u.openFlush a r f) ↔ s.Frame ps u := by
  simp [State.openFlush, h]

theorem State.frame_startFixed {v : State} {a r : Nat} {f : Flush} (hv : u.startFixed a r f = some v)
    (h : .dict ∈ ps ∧ .sched ∈ ps ∧ .arr ∈ ps ∧ .slot ∈ ps ∧ .pwr ∈ ps) : s.Frame ps v ↔ s.Frame ps u := by
  simp only [State.startFixed] at hv
  split at hv
  · have hc := State.frame_openCtx (s := s) (u := u) f.len ⟨h.1, h.2.2.1⟩
    split at hv
    · next w hw =>
      rw [hw] at hc
      obtain rfl := Option.some.inj hv
      simpa [h] using hc
    · cases hv
  · cases hv

@[simp] theorem State.frame_tryRepairs (a : Nat) (h : .dict ∈ ps ∧ .sched ∈ ps ∧ .arr ∈ ps ∧ .slot ∈ ps ∧ .pwr ∈ ps) :
    s.Frame ps (u.tryRepairs a) ↔ s.Frame ps u :=
  State.frame_each fun v x => by
    split
    · next hv => simpa [h] using State.frame_startFixed hv h
    · rfl

@[simp] theorem State.frame_askRepair (a r p o n : Nat) (data : Content)
    (h : .dict ∈ ps ∧ .sched ∈ ps ∧ .arr ∈ ps ∧ .slot ∈ ps ∧ .pwr ∈ ps) :
    s.Frame ps (u.askRepair a r p o n data) ↔ s.Frame ps u := by
  simp [State.askRepair, h]

@[simp] theorem State.frame_loseStripe (a addr len : Nat) (out : List Nat)
    (h : .free ∈ ps ∧ .out ∈ ps ∧ .dict ∈ ps ∧ .sess ∈ ps ∧ .ev ∈ ps ∧ .rings ∈ ps ∧ .nvme ∈ ps ∧ .sched ∈ ps ∧ .arr ∈ ps ∧
        .slot ∈ ps ∧ .pwr ∈ ps ∧ .nss ∈ ps) :
    s.Frame ps (u.loseStripe a addr len out) ↔ s.Frame ps u := by
  simp [State.loseStripe, h, State.frame_each, State.frame_when]

@[simp] theorem State.frame_readLost (id : Nat)
    (h : .free ∈ ps ∧ .out ∈ ps ∧ .dict ∈ ps ∧ .sess ∈ ps ∧ .ev ∈ ps ∧ .rings ∈ ps ∧ .fab ∈ ps ∧ .eth ∈ ps ∧ .rdma ∈ ps ∧
        .nvme ∈ ps ∧ .sched ∈ ps ∧ .arr ∈ ps ∧ .slot ∈ ps ∧ .np ∈ ps ∧ .meter ∈ ps ∧ .twin ∈ ps) :
    s.Frame ps (u.readLost id) ↔ s.Frame ps u := by
  simp only [State.readLost]
  split <;> simp [h]

@[simp] theorem State.frame_planOn (rid : Nat)
    (h : .free ∈ ps ∧ .out ∈ ps ∧ .dict ∈ ps ∧ .sess ∈ ps ∧ .ev ∈ ps ∧ .rings ∈ ps ∧ .fab ∈ ps ∧ .eth ∈ ps ∧ .rdma ∈ ps ∧
        .nvme ∈ ps ∧ .sched ∈ ps ∧ .arr ∈ ps ∧ .slot ∈ ps ∧ .np ∈ ps ∧ .meter ∈ ps ∧ .twin ∈ ps ∧ .pwr ∈ ps ∧ .nss ∈ ps) :
    s.Frame ps (u.planOn rid) ↔ s.Frame ps u := by
  simp only [State.planOn]
  split
  · rfl
  · split
    · split
      · simp [h]
      · split
        · rfl
        · split
          · next hv => simp [h, State.frame_of_openCtx hv]
          · rfl
    · split
      · simp [h, State.frame_each]
      · split_ifs <;> simp [h, State.frame_each]

@[simp] theorem State.frame_reconAgain (i : Nat) (psn : Psn) (b : BlockSrc) (failed : List Nat)
    (h : .free ∈ ps ∧ .out ∈ ps ∧ .dict ∈ ps ∧ .sess ∈ ps ∧ .ev ∈ ps ∧ .rings ∈ ps ∧ .fab ∈ ps ∧ .eth ∈ ps ∧ .rdma ∈ ps ∧
        .nvme ∈ ps ∧ .sched ∈ ps ∧ .arr ∈ ps ∧ .slot ∈ ps ∧ .np ∈ ps ∧ .meter ∈ ps ∧ .twin ∈ ps ∧ .pwr ∈ ps ∧ .nss ∈ ps) :
    s.Frame ps (u.reconAgain i psn b failed) ↔ s.Frame ps u := by
  simp [State.reconAgain, h]

@[simp] theorem State.frame_readAgain (i : Nat) (psn : Psn) (b : BlockSrc)
    (h : .free ∈ ps ∧ .out ∈ ps ∧ .dict ∈ ps ∧ .sess ∈ ps ∧ .ev ∈ ps ∧ .rings ∈ ps ∧ .fab ∈ ps ∧ .eth ∈ ps ∧ .rdma ∈ ps ∧
        .nvme ∈ ps ∧ .sched ∈ ps ∧ .arr ∈ ps ∧ .slot ∈ ps ∧ .np ∈ ps ∧ .meter ∈ ps ∧ .twin ∈ ps ∧ .pwr ∈ ps ∧ .nss ∈ ps) :
    s.Frame ps (u.readAgain i psn b) ↔ s.Frame ps u := by
  simp [State.readAgain, h]

@[simp] theorem State.frame_retransmitFrom (i : Nat) (a : Psn)
    (h : .free ∈ ps ∧ .out ∈ ps ∧ .dict ∈ ps ∧ .sess ∈ ps ∧ .ev ∈ ps ∧ .rings ∈ ps ∧ .fab ∈ ps ∧ .eth ∈ ps ∧ .rdma ∈ ps ∧
        .nvme ∈ ps ∧ .sched ∈ ps ∧ .arr ∈ ps ∧ .slot ∈ ps ∧ .np ∈ ps ∧ .meter ∈ ps ∧ .twin ∈ ps ∧ .pwr ∈ ps ∧ .nss ∈ ps) :
    s.Frame ps (u.retransmitFrom i a) ↔ s.Frame ps u := by
  simp only [State.retransmitFrom]
  rw [State.frame_drainResend _ _ (by simp [h]), State.frame_each fun v p => by
    split
    · split <;> simp [h]
    · rfl]
  simp [h]

@[simp] theorem State.frame_takeData (id off len : Nat) (data : Content) (h : .nvme ∈ ps) :
    s.Frame ps (u.takeData id off len data).1 ↔ s.Frame ps u := by
  simp [State.takeData, h]

@[simp] theorem State.frame_succeed (id : Nat)
    (h : .free ∈ ps ∧ .out ∈ ps ∧ .dict ∈ ps ∧ .sess ∈ ps ∧ .ev ∈ ps ∧ .rings ∈ ps ∧ .fab ∈ ps ∧ .eth ∈ ps ∧ .rdma ∈ ps ∧
        .nvme ∈ ps ∧ .sched ∈ ps ∧ .np ∈ ps ∧ .meter ∈ ps ∧ .twin ∈ ps) :
    s.Frame ps (u.succeed id) ↔ s.Frame ps u := by
  simp [State.succeed, h]

@[simp] theorem State.frame_takeHostid (id : Nat)
    (h : .free ∈ ps ∧ .out ∈ ps ∧ .dict ∈ ps ∧ .sess ∈ ps ∧ .ev ∈ ps ∧ .rings ∈ ps ∧ .fab ∈ ps ∧ .eth ∈ ps ∧ .rdma ∈ ps ∧
        .nvme ∈ ps ∧ .sched ∈ ps ∧ .np ∈ ps ∧ .meter ∈ ps ∧ .twin ∈ ps ∧ .ctrls ∈ ps) :
    s.Frame ps (u.takeHostid id) ↔ s.Frame ps u := by
  simp only [State.takeHostid]
  repeat' split
  all_goals simp [h, State.frame_each, State.frame_when]

@[simp] theorem State.frame_takeIntents (es : List IntentEntry) (h : .free ∈ ps ∧ .arr ∈ ps) :
    s.Frame ps (u.takeIntents es) ↔ s.Frame ps u := by
  simp [State.takeIntents, h]

@[simp] theorem State.frame_setPage (a page : Nat) (g : GPage) (h : .arr ∈ ps) : s.Frame ps (u.setPage a page g) ↔ s.Frame ps u := by
  simp [State.setPage, h]

@[simp] theorem State.frame_putSectors (v : PageVer) (a b c : Nat) (d : Content) (h : .arr ∈ ps) :
    s.Frame ps (u.putSectors v a b c d) ↔ s.Frame ps u := by
  induction c generalizing u b d with
  | zero => rfl
  | succ c ih =>
    simp only [State.putSectors]
    split <;> simp [h, ih, State.frame_each, State.frame_when]

@[simp] theorem State.frame_fillGranule (v : PageVer) (r i g : Nat) (h : .arr ∈ ps) :
    s.Frame ps (u.fillGranule v r i g) ↔ s.Frame ps u := by
  simp [State.fillGranule, h]

@[simp] theorem State.frame_fillRange (v : PageVer) (r lba n : Nat) (h : .arr ∈ ps) :
    s.Frame ps (u.fillRange v r lba n) ↔ s.Frame ps u := by
  simp [State.fillRange, h, State.frame_each, State.frame_when]

@[simp] theorem State.frame_clearLost (r lba n : Nat) (h : .free ∈ ps ∧ .dict ∈ ps ∧ .sched ∈ ps ∧ .arr ∈ ps ∧ .slot ∈ ps) :
    s.Frame ps (u.clearLost r lba n) ↔ s.Frame ps u := by
  simp [State.clearLost, h]

@[simp] theorem State.frame_makeDirty (r lba n : Nat) (cipher : Content) (es : List IntentEntry) (tenant cls : Nat)
    (h : .free ∈ ps ∧ .dict ∈ ps ∧ .sched ∈ ps ∧ .arr ∈ ps ∧ .slot ∈ ps ∧ .pwr ∈ ps) :
    s.Frame ps (u.makeDirty r lba n cipher es tenant cls) ↔ s.Frame ps u := by
  simp [State.makeDirty, h, State.frame_each, State.frame_when]

@[simp] theorem State.frame_dropSectors (a b c : Nat) (h : .arr ∈ ps) : s.Frame ps (u.dropSectors a b c) ↔ s.Frame ps u := by
  induction c generalizing u b with
  | zero => rfl
  | succ c ih =>
    simp only [State.dropSectors]
    repeat' split
    all_goals simp [h, ih, State.frame_each, State.frame_when]

@[simp] theorem State.frame_dealloc (a g : Nat) (h : .arr ∈ ps) : s.Frame ps (u.dealloc a g) ↔ s.Frame ps u := by
  simp [State.dealloc, h]

@[simp] theorem State.frame_settleWrites
    (h : .free ∈ ps ∧ .out ∈ ps ∧ .dict ∈ ps ∧ .sess ∈ ps ∧ .ev ∈ ps ∧ .rings ∈ ps ∧ .fab ∈ ps ∧ .eth ∈ ps ∧ .rdma ∈ ps ∧
        .nvme ∈ ps ∧ .sched ∈ ps ∧ .np ∈ ps ∧ .meter ∈ ps ∧ .twin ∈ ps) :
    s.Frame ps u.settleWrites ↔ s.Frame ps u := by
  simp [State.settleWrites, h, State.frame_each, State.frame_when]

@[simp] theorem State.frame_retireClean (a : Nat) (h : .out ∈ ps ∧ .dict ∈ ps ∧ .arr ∈ ps ∧ .twin ∈ ps) :
    s.Frame ps (u.retireClean a) ↔ s.Frame ps u := by
  simp [State.retireClean, h]

@[simp] theorem State.frame_deallocRange (r lba n : Nat)
    (h : .free ∈ ps ∧ .out ∈ ps ∧ .dict ∈ ps ∧ .sess ∈ ps ∧ .ev ∈ ps ∧ .rings ∈ ps ∧ .fab ∈ ps ∧ .eth ∈ ps ∧ .rdma ∈ ps ∧
        .nvme ∈ ps ∧ .sched ∈ ps ∧ .arr ∈ ps ∧ .slot ∈ ps ∧ .np ∈ ps ∧ .meter ∈ ps ∧ .twin ∈ ps ∧ .pwr ∈ ps) :
    s.Frame ps (u.deallocRange r lba n) ↔ s.Frame ps u := by
  simp [State.deallocRange, h, State.frame_each, State.frame_when]

@[simp] theorem State.frame_commitWrite (id : Nat)
    (h : .free ∈ ps ∧ .out ∈ ps ∧ .dict ∈ ps ∧ .sess ∈ ps ∧ .ev ∈ ps ∧ .rings ∈ ps ∧ .fab ∈ ps ∧ .eth ∈ ps ∧ .rdma ∈ ps ∧
        .nvme ∈ ps ∧ .sched ∈ ps ∧ .arr ∈ ps ∧ .slot ∈ ps ∧ .np ∈ ps ∧ .meter ∈ ps ∧ .twin ∈ ps ∧ .pwr ∈ ps) :
    s.Frame ps (u.commitWrite id) ↔ s.Frame ps u := by
  simp [State.commitWrite, h]

@[simp] theorem State.frame_gatherDone (id : Nat)
    (h : .free ∈ ps ∧ .out ∈ ps ∧ .dict ∈ ps ∧ .sess ∈ ps ∧ .ev ∈ ps ∧ .rings ∈ ps ∧ .fab ∈ ps ∧ .eth ∈ ps ∧ .rdma ∈ ps ∧
        .nvme ∈ ps ∧ .sched ∈ ps ∧ .arr ∈ ps ∧ .slot ∈ ps ∧ .np ∈ ps ∧ .meter ∈ ps ∧ .twin ∈ ps ∧ .pwr ∈ ps) :
    s.Frame ps (u.gatherDone id) ↔ s.Frame ps u := by
  simp only [State.gatherDone]
  split_ifs <;> simp [h]

@[simp] theorem State.frame_tryCompare (id : Nat)
    (h : .free ∈ ps ∧ .out ∈ ps ∧ .dict ∈ ps ∧ .sess ∈ ps ∧ .ev ∈ ps ∧ .rings ∈ ps ∧ .fab ∈ ps ∧ .eth ∈ ps ∧ .rdma ∈ ps ∧
        .nvme ∈ ps ∧ .sched ∈ ps ∧ .arr ∈ ps ∧ .slot ∈ ps ∧ .np ∈ ps ∧ .meter ∈ ps ∧ .twin ∈ ps ∧ .pwr ∈ ps) :
    s.Frame ps (u.tryCompare id) ↔ s.Frame ps u := by
  simp only [State.tryCompare]
  repeat' split
  all_goals simp [h, State.frame_each, State.frame_when]

@[simp] theorem State.frame_deallocate (id : Nat)
    (h : .free ∈ ps ∧ .out ∈ ps ∧ .dict ∈ ps ∧ .sess ∈ ps ∧ .ev ∈ ps ∧ .rings ∈ ps ∧ .fab ∈ ps ∧ .eth ∈ ps ∧ .rdma ∈ ps ∧
        .nvme ∈ ps ∧ .sched ∈ ps ∧ .arr ∈ ps ∧ .slot ∈ ps ∧ .np ∈ ps ∧ .meter ∈ ps ∧ .twin ∈ ps ∧ .pwr ∈ ps) :
    s.Frame ps (u.deallocate id) ↔ s.Frame ps u := by
  simp [State.deallocate, h, State.frame_each, State.frame_when]

@[simp] theorem State.frame_unbar (r id : Nat) (h : .nvme ∈ ps ∧ .nss ∈ ps) : s.Frame ps (u.unbar r id) ↔ s.Frame ps u := by
  simp [State.unbar, h]

@[simp] theorem State.frame_newCmd (x : EngineInput) (engine : Nat) (h : .nvme ∈ ps) :
    s.Frame ps (u.newCmd x engine).2 ↔ s.Frame ps u := by
  simp [State.newCmd, h]

@[simp] theorem State.frame_endInput (e : Nat) (x : EngineInput) (sct sc : Nat)
    (h : .free ∈ ps ∧ .out ∈ ps ∧ .dict ∈ ps ∧ .sess ∈ ps ∧ .ev ∈ ps ∧ .rings ∈ ps ∧ .fab ∈ ps ∧ .eth ∈ ps ∧ .rdma ∈ ps ∧
        .nvme ∈ ps ∧ .sched ∈ ps ∧ .np ∈ ps ∧ .meter ∈ ps ∧ .twin ∈ ps) :
    s.Frame ps (u.endInput e x sct sc) ↔ s.Frame ps u := by
  simp only [State.endInput]
  split <;> simp [h]

@[simp] theorem State.frame_endPreempted (r : Nat) (hs : List Nat)
    (h : .free ∈ ps ∧ .out ∈ ps ∧ .dict ∈ ps ∧ .sess ∈ ps ∧ .ev ∈ ps ∧ .rings ∈ ps ∧ .fab ∈ ps ∧ .eth ∈ ps ∧ .rdma ∈ ps ∧
        .nvme ∈ ps ∧ .sched ∈ ps ∧ .np ∈ ps ∧ .meter ∈ ps ∧ .twin ∈ ps) :
    s.Frame ps (u.endPreempted r hs) ↔ s.Frame ps u := by
  simp [State.endPreempted, h, State.frame_each, State.frame_when]

@[simp] theorem State.frame_toBarrier (id : Nat)
    (h : .free ∈ ps ∧ .out ∈ ps ∧ .dict ∈ ps ∧ .sess ∈ ps ∧ .ev ∈ ps ∧ .rings ∈ ps ∧ .fab ∈ ps ∧ .eth ∈ ps ∧ .rdma ∈ ps ∧
        .nvme ∈ ps ∧ .sched ∈ ps ∧ .np ∈ ps ∧ .meter ∈ ps ∧ .twin ∈ ps ∧ .nss ∈ ps) :
    s.Frame ps (u.toBarrier id) ↔ s.Frame ps u := by
  simp [State.toBarrier, h]

@[simp] theorem State.frame_dataArrived (id : Nat)
    (h : .free ∈ ps ∧ .out ∈ ps ∧ .dict ∈ ps ∧ .sess ∈ ps ∧ .ev ∈ ps ∧ .rings ∈ ps ∧ .fab ∈ ps ∧ .eth ∈ ps ∧ .rdma ∈ ps ∧
        .nvme ∈ ps ∧ .sched ∈ ps ∧ .arr ∈ ps ∧ .slot ∈ ps ∧ .np ∈ ps ∧ .meter ∈ ps ∧ .twin ∈ ps ∧ .pwr ∈ ps ∧ .ctrls ∈ ps ∧
        .nss ∈ ps) :
    s.Frame ps (u.dataArrived id) ↔ s.Frame ps u := by
  simp only [State.dataArrived]
  repeat' split
  all_goals simp [h, State.frame_each, State.frame_when]

@[simp] theorem State.frame_bringData (id off len : Nat) (data : Content)
    (h : .free ∈ ps ∧ .out ∈ ps ∧ .dict ∈ ps ∧ .sess ∈ ps ∧ .ev ∈ ps ∧ .rings ∈ ps ∧ .fab ∈ ps ∧ .eth ∈ ps ∧ .rdma ∈ ps ∧
        .nvme ∈ ps ∧ .sched ∈ ps ∧ .arr ∈ ps ∧ .slot ∈ ps ∧ .np ∈ ps ∧ .meter ∈ ps ∧ .twin ∈ ps ∧ .pwr ∈ ps ∧ .ctrls ∈ ps ∧
        .nss ∈ ps) :
    s.Frame ps (u.bringData id off len data) ↔ s.Frame ps u := by
  simp [State.bringData, h]

@[simp] theorem frame_applyQp (st : Stage) (x : State)
    (h : .free ∈ ps ∧ .out ∈ ps ∧ .dict ∈ ps ∧ .sess ∈ ps ∧ .ev ∈ ps ∧ .rings ∈ ps ∧ .fab ∈ ps ∧ .eth ∈ ps ∧ .rdma ∈ ps ∧
        .nvme ∈ ps ∧ .sched ∈ ps ∧ .arr ∈ ps ∧ .slot ∈ ps ∧ .meter ∈ ps ∧ .twin ∈ ps ∧ .ctrls ∈ ps) :
    s.Frame ps (applyQp st x u) ↔ s.Frame ps u := by
  simp [applyQp, h]

@[simp] theorem State.frame_npViolation (p func condition detail : Nat) (h : .ev ∈ ps ∧ .np ∈ ps) :
    s.Frame ps (u.npViolation p func condition detail) ↔ s.Frame ps u := by
  simp only [State.npViolation]
  split_ifs <;> simp [h]

@[simp] theorem State.frame_syncTags (p : Nat) (h : .dict ∈ ps) : s.Frame ps (u.syncTags p) ↔ s.Frame ps u := by
  simp [State.syncTags, h]

theorem State.frame_npSend {v : State} {p : Nat} {w : NpWait} (hv : u.npSend p w = some v)
    (h : .out ∈ ps ∧ .dict ∈ ps ∧ .np ∈ ps) : s.Frame ps v ↔ s.Frame ps u := by
  simp only [State.npSend] at hv
  split at hv
  · cases hv
  · split at hv
    · cases hv
    · obtain rfl := Option.some.inj hv
      simp [h]

@[simp] theorem State.frame_npTake (p k i : Nat) (h : .np ∈ ps) : s.Frame ps (u.npTake p k i) ↔ s.Frame ps u := by
  simp [State.npTake, h]

@[simp] theorem State.frame_npDrain (p n : Nat) (h : .out ∈ ps ∧ .dict ∈ ps ∧ .np ∈ ps) :
    s.Frame ps (State.npDrain p n u) ↔ s.Frame ps u := by
  induction n generalizing u with
  | zero => rfl
  | succ n ih =>
    simp only [State.npDrain]
    split
    · rfl
    · split
      · rfl
      · split
        · rfl
        · split
          · next hv => simp [ih, State.frame_npSend hv h, h]
          · rfl

@[simp] theorem State.frame_npRequest (p : Nat) (w : NpWait) (h : .out ∈ ps ∧ .dict ∈ ps ∧ .np ∈ ps) :
    s.Frame ps (u.npRequest p w) ↔ s.Frame ps u := by
  simp [State.npRequest, h, State.frame_each, State.frame_when]

@[simp] theorem State.frame_sendResv (r : Nat) (h : .out ∈ ps ∧ .dict ∈ ps ∧ .twin ∈ ps) :
    s.Frame ps (u.sendResv r) ↔ s.Frame ps u := by
  simp [State.sendResv, h]

@[simp] theorem State.frame_syncNsState (r : Nat) (h : .dict ∈ ps) : s.Frame ps (u.syncNsState r) ↔ s.Frame ps u := by
  simp [State.syncNsState, h]

@[simp] theorem State.frame_startErase (r : Nat) (cmd : Option Nat) (deleting : Bool) (sc : Nat)
    (h : .free ∈ ps ∧ .out ∈ ps ∧ .dict ∈ ps ∧ .sess ∈ ps ∧ .ev ∈ ps ∧ .rings ∈ ps ∧ .fab ∈ ps ∧ .eth ∈ ps ∧ .rdma ∈ ps ∧
        .nvme ∈ ps ∧ .sched ∈ ps ∧ .arr ∈ ps ∧ .slot ∈ ps ∧ .np ∈ ps ∧ .meter ∈ ps ∧ .twin ∈ ps ∧ .pwr ∈ ps ∧ .ctrls ∈ ps ∧
        .nss ∈ ps) :
    s.Frame ps (u.startErase r cmd deleting sc) ↔ s.Frame ps u := by
  simp [State.startErase, h, State.frame_each, State.frame_when]

@[simp] theorem State.frame_startRecon (id off a addr len : Nat) (failed : List Nat) (around : Option Nat) (repair : Bool)
    (h : .free ∈ ps ∧ .out ∈ ps ∧ .dict ∈ ps ∧ .sess ∈ ps ∧ .ev ∈ ps ∧ .rings ∈ ps ∧ .fab ∈ ps ∧ .eth ∈ ps ∧ .rdma ∈ ps ∧
        .nvme ∈ ps ∧ .sched ∈ ps ∧ .arr ∈ ps ∧ .slot ∈ ps ∧ .np ∈ ps ∧ .meter ∈ ps ∧ .twin ∈ ps ∧ .pwr ∈ ps ∧ .nss ∈ ps) :
    s.Frame ps (u.startRecon id off a addr len failed around repair) ↔ s.Frame ps u := by
  simp [State.startRecon, h]

@[simp] theorem State.frame_syncFree (a : Nat) (h : .dict ∈ ps) : s.Frame ps (u.syncFree a) ↔ s.Frame ps u := by
  simp [State.syncFree, h]

@[simp] theorem State.frame_nsNotice (k nsid : Nat)
    (h : .free ∈ ps ∧ .out ∈ ps ∧ .dict ∈ ps ∧ .sess ∈ ps ∧ .ev ∈ ps ∧ .rings ∈ ps ∧ .fab ∈ ps ∧ .eth ∈ ps ∧ .rdma ∈ ps ∧
        .nvme ∈ ps ∧ .sched ∈ ps ∧ .np ∈ ps ∧ .meter ∈ ps ∧ .twin ∈ ps ∧ .ctrls ∈ ps) :
    s.Frame ps (u.nsNotice k nsid) ↔ s.Frame ps u := by
  simp [State.nsNotice, h]

@[simp] theorem State.frame_nsChanged (n : Nat)
    (h : .free ∈ ps ∧ .out ∈ ps ∧ .dict ∈ ps ∧ .sess ∈ ps ∧ .ev ∈ ps ∧ .rings ∈ ps ∧ .fab ∈ ps ∧ .eth ∈ ps ∧ .rdma ∈ ps ∧
        .nvme ∈ ps ∧ .sched ∈ ps ∧ .np ∈ ps ∧ .meter ∈ ps ∧ .twin ∈ ps ∧ .ctrls ∈ ps) :
    s.Frame ps (u.nsChanged n) ↔ s.Frame ps u := by
  simp [State.nsChanged, h, State.frame_each, State.frame_when]

@[simp] theorem State.frame_takeKey (r key : Nat)
    (h : .free ∈ ps ∧ .out ∈ ps ∧ .dict ∈ ps ∧ .nvme ∈ ps ∧ .sched ∈ ps ∧ .slot ∈ ps ∧ .twin ∈ ps ∧ .nss ∈ ps) :
    s.Frame ps (u.takeKey r key) ↔ s.Frame ps u := by
  simp only [State.takeKey]
  split <;> simp [h]

@[simp] theorem State.frame_meetKek (kek r : Nat)
    (h : .free ∈ ps ∧ .out ∈ ps ∧ .dict ∈ ps ∧ .nvme ∈ ps ∧ .sched ∈ ps ∧ .slot ∈ ps ∧ .twin ∈ ps ∧ .nss ∈ ps) :
    s.Frame ps (u.meetKek kek r) ↔ s.Frame ps u := by
  simp only [State.meetKek]
  split <;> simp [h]

@[simp] theorem State.frame_applyKek (tenant kek : Nat)
    (h : .free ∈ ps ∧ .out ∈ ps ∧ .dict ∈ ps ∧ .nvme ∈ ps ∧ .sched ∈ ps ∧ .slot ∈ ps ∧ .twin ∈ ps ∧ .nss ∈ ps ∧ .keks ∈ ps) :
    s.Frame ps (u.applyKek tenant kek) ↔ s.Frame ps u := by
  simp [State.applyKek, h, State.frame_each, State.frame_when]

@[simp] theorem State.frame_newKey (r : Nat)
    (h : .free ∈ ps ∧ .out ∈ ps ∧ .dict ∈ ps ∧ .nvme ∈ ps ∧ .sched ∈ ps ∧ .slot ∈ ps ∧ .twin ∈ ps ∧ .nss ∈ ps) :
    s.Frame ps (u.newKey r) ↔ s.Frame ps u := by
  simp [State.newKey, h]

@[simp] theorem frame_applySubsystem (x : Stage) (old : State)
    (h : .free ∈ ps ∧ .out ∈ ps ∧ .dict ∈ ps ∧ .sess ∈ ps ∧ .ev ∈ ps ∧ .rings ∈ ps ∧ .fab ∈ ps ∧ .eth ∈ ps ∧ .rdma ∈ ps ∧
        .nvme ∈ ps ∧ .sched ∈ ps ∧ .np ∈ ps ∧ .meter ∈ ps ∧ .twin ∈ ps ∧ .ctrls ∈ ps) :
    s.Frame ps (applySubsystem x old u) ↔ s.Frame ps u := by
  simp only [applySubsystem]
  refine State.frame_each fun v a => ?_
  split_ifs <;> simp [h, State.frame_each, State.frame_when]

@[simp] theorem State.frame_syncHolders (h : .meter ∈ ps) : s.Frame ps u.syncHolders ↔ s.Frame ps u := by
  simp [State.syncHolders, h]

@[simp] theorem frame_applyHost (st : Stage) (old : State)
    (h : .free ∈ ps ∧ .out ∈ ps ∧ .dict ∈ ps ∧ .sess ∈ ps ∧ .ev ∈ ps ∧ .rings ∈ ps ∧ .fab ∈ ps ∧ .eth ∈ ps ∧ .rdma ∈ ps ∧
        .nvme ∈ ps ∧ .sched ∈ ps ∧ .arr ∈ ps ∧ .slot ∈ ps ∧ .np ∈ ps ∧ .meter ∈ ps ∧ .twin ∈ ps ∧ .ctrls ∈ ps) :
    s.Frame ps (applyHost st old u) ↔ s.Frame ps u := by
  simp [applyHost, h, State.frame_each, State.frame_when]

@[simp] theorem frame_applyGrant (x : Stage) (old : State)
    (h : .free ∈ ps ∧ .out ∈ ps ∧ .dict ∈ ps ∧ .sess ∈ ps ∧ .ev ∈ ps ∧ .rings ∈ ps ∧ .fab ∈ ps ∧ .eth ∈ ps ∧ .rdma ∈ ps ∧
        .nvme ∈ ps ∧ .sched ∈ ps ∧ .arr ∈ ps ∧ .slot ∈ ps ∧ .np ∈ ps ∧ .meter ∈ ps ∧ .twin ∈ ps ∧ .ctrls ∈ ps) :
    s.Frame ps (applyGrant x old u) ↔ s.Frame ps u := by
  simp only [applyGrant]
  refine (State.frame_each fun v a => ?_).trans ?_ <;>
  repeat' split
  all_goals simp [h, State.frame_each, State.frame_when]

@[simp] theorem State.frame_createNs (r : Nat) (ext : List (Nat × Nat))
    (h : .free ∈ ps ∧ .out ∈ ps ∧ .dict ∈ ps ∧ .sess ∈ ps ∧ .ev ∈ ps ∧ .rings ∈ ps ∧ .fab ∈ ps ∧ .eth ∈ ps ∧ .rdma ∈ ps ∧
        .nvme ∈ ps ∧ .sched ∈ ps ∧ .slot ∈ ps ∧ .np ∈ ps ∧ .meter ∈ ps ∧ .twin ∈ ps ∧ .ctrls ∈ ps ∧ .nss ∈ ps) :
    s.Frame ps (u.createNs r ext) ↔ s.Frame ps u := by
  simp only [State.createNs]
  split_ifs <;> simp [h]

@[simp] theorem frame_applyNamespace (st : Stage) (old : State)
    (h : .free ∈ ps ∧ .out ∈ ps ∧ .dict ∈ ps ∧ .sess ∈ ps ∧ .ev ∈ ps ∧ .rings ∈ ps ∧ .fab ∈ ps ∧ .eth ∈ ps ∧ .rdma ∈ ps ∧
        .nvme ∈ ps ∧ .sched ∈ ps ∧ .arr ∈ ps ∧ .slot ∈ ps ∧ .np ∈ ps ∧ .meter ∈ ps ∧ .twin ∈ ps ∧ .pwr ∈ ps ∧ .ctrls ∈ ps ∧
        .nss ∈ ps) :
    s.Frame ps (applyNamespace st old u) ↔ s.Frame ps u := by
  simp only [applyNamespace]
  repeat' split
  all_goals simp [h, State.frame_each, State.frame_when]

@[simp] theorem frame_applyListener (x : Stage) (old : State)
    (h : .free ∈ ps ∧ .out ∈ ps ∧ .dict ∈ ps ∧ .sess ∈ ps ∧ .ev ∈ ps ∧ .rings ∈ ps ∧ .fab ∈ ps ∧ .eth ∈ ps ∧ .rdma ∈ ps ∧
        .nvme ∈ ps ∧ .sched ∈ ps ∧ .np ∈ ps ∧ .meter ∈ ps ∧ .twin ∈ ps ∧ .ctrls ∈ ps) :
    s.Frame ps (applyListener x old u) ↔ s.Frame ps u := by
  simp only [applyListener]
  refine State.frame_each fun v a => ?_
  split_ifs <;> simp [h, State.frame_each, State.frame_when]

@[simp] theorem State.frame_syncPages (h : .dict ∈ ps) : s.Frame ps u.syncPages ↔ s.Frame ps u := by
  simp [State.syncPages, h]

@[simp] theorem State.frame_sealPage (p : LedgerPage) (h : .dict ∈ ps ∧
      .meter ∈ ps) : s.Frame ps (u.sealPage p) ↔ s.Frame ps u := by
  simp [State.sealPage, h]

@[simp] theorem State.frame_archivePage (p : LedgerPage)
    (h : .out ∈ ps ∧ .dict ∈ ps ∧ .sess ∈ ps ∧ .ev ∈ ps ∧ .rings ∈ ps ∧ .meter ∈ ps) :
    s.Frame ps (u.archivePage p) ↔ s.Frame ps u := by
  simp only [State.archivePage]
  rw [State.frame_syncPages (by simp [h]), State.frame_each fun v q => by split_ifs <;> simp [h]]
  simp [h]

@[simp] theorem State.frame_latchCounter (n : Nat) (h : .free ∈ ps ∧ .dict ∈ ps) :
    s.Frame ps (u.latchCounter n).2 ↔ s.Frame ps u := by
  simp [State.latchCounter, h]

@[simp] theorem State.frame_syncAna (a : Nat)
    (h : .free ∈ ps ∧ .out ∈ ps ∧ .dict ∈ ps ∧ .sess ∈ ps ∧ .ev ∈ ps ∧ .rings ∈ ps ∧ .fab ∈ ps ∧ .eth ∈ ps ∧ .rdma ∈ ps ∧
        .nvme ∈ ps ∧ .sched ∈ ps ∧ .np ∈ ps ∧ .meter ∈ ps ∧ .twin ∈ ps ∧ .ctrls ∈ ps) :
    s.Frame ps (u.syncAna a) ↔ s.Frame ps u := by
  simp [State.syncAna, h, State.frame_each, State.frame_when]

@[simp] theorem State.frame_syncSubs (a : Nat) (h : .dict ∈ ps) : s.Frame ps (u.syncSubs a) ↔ s.Frame ps u := by
  simp [State.syncSubs, h]

@[simp] theorem State.frame_syncArray (a : Nat) (h : .dict ∈ ps) : s.Frame ps (u.syncArray a) ↔ s.Frame ps u := by
  simp [State.syncArray, h]

@[simp] theorem State.frame_deleteArray (a n : Nat)
    (h : .free ∈ ps ∧ .out ∈ ps ∧ .dict ∈ ps ∧ .sess ∈ ps ∧ .ev ∈ ps ∧ .rings ∈ ps ∧ .fab ∈ ps ∧ .eth ∈ ps ∧ .rdma ∈ ps ∧
        .nvme ∈ ps ∧ .sched ∈ ps ∧ .arr ∈ ps ∧ .slot ∈ ps ∧ .np ∈ ps ∧ .meter ∈ ps ∧ .twin ∈ ps ∧ .ctrls ∈ ps) :
    s.Frame ps (u.deleteArray a n) ↔ s.Frame ps u := by
  simp [State.deleteArray, h, State.frame_each, State.frame_when]

@[simp] theorem State.frame_publishAround (a : Nat) (h : .dict ∈ ps) : s.Frame ps (u.publishAround a) ↔ s.Frame ps u := by
  simp [State.publishAround, h, State.frame_each, State.frame_when]

@[simp] theorem State.frame_syncRoles (a : Nat) (h : .dict ∈ ps) : s.Frame ps (u.syncRoles a) ↔ s.Frame ps u := by
  simp [State.syncRoles, h]

@[simp] theorem State.frame_writeSuperblock (a : Nat) (h : .free ∈ ps ∧ .sched ∈ ps ∧ .arr ∈ ps ∧ .slot ∈ ps) :
    s.Frame ps (u.writeSuperblock a) ↔ s.Frame ps u := by
  simp [State.writeSuperblock, h, State.frame_each, State.frame_when]

@[simp] theorem State.frame_zeroRow (a r : Nat) (h : .sched ∈ ps ∧ .arr ∈ ps ∧ .slot ∈ ps) :
    s.Frame ps (u.zeroRow a r) ↔ s.Frame ps u := by
  simp [State.zeroRow, h, State.frame_each, State.frame_when]

@[simp] theorem State.frame_setWatermark (a r : Nat) (h : .dict ∈ ps ∧ .arr ∈ ps) :
    s.Frame ps (u.setWatermark a r) ↔ s.Frame ps u := by
  simp [State.setWatermark, h]

@[simp] theorem State.frame_kickZero (a b : Nat) (h : .dict ∈ ps ∧ .sched ∈ ps ∧ .arr ∈ ps ∧ .slot ∈ ps) :
    s.Frame ps (u.kickZero a b) ↔ s.Frame ps u := by
  induction b generalizing u with
  | zero => rfl
  | succ b ih =>
    simp only [State.kickZero]
    split_ifs <;> simp [h, ih]

@[simp] theorem State.frame_createArray (a : Nat)
    (h : .free ∈ ps ∧ .out ∈ ps ∧ .dict ∈ ps ∧ .sess ∈ ps ∧ .ev ∈ ps ∧ .rings ∈ ps ∧ .fab ∈ ps ∧ .eth ∈ ps ∧ .rdma ∈ ps ∧
        .nvme ∈ ps ∧ .sched ∈ ps ∧ .arr ∈ ps ∧ .slot ∈ ps ∧ .np ∈ ps ∧ .meter ∈ ps ∧ .twin ∈ ps ∧ .ctrls ∈ ps) :
    s.Frame ps (u.createArray a) ↔ s.Frame ps u := by
  simp [State.createArray, h, State.frame_each, State.frame_when]

@[simp] theorem frame_applyArray (st : Stage) (old : State)
    (h : .free ∈ ps ∧ .out ∈ ps ∧ .dict ∈ ps ∧ .sess ∈ ps ∧ .ev ∈ ps ∧ .rings ∈ ps ∧ .fab ∈ ps ∧ .eth ∈ ps ∧ .rdma ∈ ps ∧
        .nvme ∈ ps ∧ .sched ∈ ps ∧ .arr ∈ ps ∧ .slot ∈ ps ∧ .np ∈ ps ∧ .meter ∈ ps ∧ .twin ∈ ps ∧ .ctrls ∈ ps) :
    s.Frame ps (applyArray st old u) ↔ s.Frame ps u := by
  simp [applyArray, h]

@[simp] theorem State.frame_writeBlock (a : Nat) (h : .dict ∈ ps ∧ .sched ∈ ps ∧ .arr ∈ ps ∧ .slot ∈ ps) :
    s.Frame ps (u.writeBlock a) ↔ s.Frame ps u := by
  simp [State.writeBlock, h, State.frame_each, State.frame_when]

@[simp] theorem State.frame_syncWork (a : Nat) (h : .dict ∈ ps) : s.Frame ps (u.syncWork a) ↔ s.Frame ps u := by
  simp only [State.syncWork]
  split <;> simp [h]

@[simp] theorem State.frame_takeWork (a : Nat) (h : .dict ∈ ps ∧ .arr ∈ ps) : s.Frame ps (u.takeWork a) ↔ s.Frame ps u := by
  simp only [State.takeWork]
  split <;> simp [h]

@[simp] theorem State.frame_clearSegs (a k : Nat) (h : .arr ∈ ps) : s.Frame ps (u.clearSegs a k) ↔ s.Frame ps u := by
  simp [State.clearSegs, h]

@[simp] theorem State.frame_settleWork (a : Nat) (w : Work)
    (h : .free ∈ ps ∧ .out ∈ ps ∧ .dict ∈ ps ∧ .sess ∈ ps ∧ .ev ∈ ps ∧ .rings ∈ ps ∧ .sched ∈ ps ∧ .arr ∈ ps ∧ .slot ∈ ps) :
    s.Frame ps (u.settleWork a w) ↔ s.Frame ps u := by
  simp only [State.settleWork]
  repeat' split
  all_goals simp [h, State.frame_each, State.frame_when]

@[simp] theorem State.frame_stepCursor (a : Nat) (w : Work)
    (h : .free ∈ ps ∧ .out ∈ ps ∧ .dict ∈ ps ∧ .sess ∈ ps ∧ .ev ∈ ps ∧ .rings ∈ ps ∧ .sched ∈ ps ∧ .arr ∈ ps ∧ .slot ∈ ps) :
    s.Frame ps (u.stepCursor a w) ↔ s.Frame ps u := by
  simp [State.stepCursor, h]

@[simp] theorem State.frame_runWork (a n : Nat)
    (h : .free ∈ ps ∧ .out ∈ ps ∧ .dict ∈ ps ∧ .sess ∈ ps ∧ .ev ∈ ps ∧ .rings ∈ ps ∧ .sched ∈ ps ∧ .arr ∈ ps ∧ .slot ∈ ps ∧
        .pwr ∈ ps) :
    s.Frame ps (State.runWork a n u) ↔ s.Frame ps u := by
  induction n generalizing u with
  | zero => simp [State.runWork]
  | succ n ih =>
    unfold State.runWork
    extract_lets v
    have hv : s.Frame ps v ↔ s.Frame ps u := by
      unfold v
      split <;> simp [h]
    rw [← hv]
    split
    · rfl
    · extract_lets r rs c
      by_cases h1 : (v.rowFresh a r || rs.isEmpty) = true
      · simp [h1, ih, h]
      · rw [if_neg h1]
        split
        · rfl
        · split
          · rfl
          · next hc => simp [h, State.frame_of_openCtx hc]

@[simp] theorem State.frame_kickWork (a : Nat)
    (h : .free ∈ ps ∧ .out ∈ ps ∧ .dict ∈ ps ∧ .sess ∈ ps ∧ .ev ∈ ps ∧ .rings ∈ ps ∧ .sched ∈ ps ∧ .arr ∈ ps ∧ .slot ∈ ps ∧
        .pwr ∈ ps) :
    s.Frame ps (u.kickWork a) ↔ s.Frame ps u := by
  simp [State.kickWork, h]

@[simp] theorem State.frame_dropMcs (ks : List Nat) (h : .dict ∈ ps ∧ .sched ∈ ps ∧ .slot ∈ ps) :
    s.Frame ps (u.dropMcs ks) ↔ s.Frame ps u := by
  simp [State.dropMcs, h, State.frame_each, State.frame_when]

@[simp] theorem State.frame_tryClose (a r : Nat) (h : .dict ∈ ps ∧ .fab ∈ ps ∧ .arr ∈ ps) :
    s.Frame ps (u.tryClose a r) ↔ s.Frame ps u := by
  simp only [State.tryClose]
  split <;> simp [h]

@[simp] theorem State.frame_addWrites (a r : Nat) (cs : List MemberCmd) (h : .sched ∈ ps ∧ .arr ∈ ps ∧ .slot ∈ ps) :
    s.Frame ps (u.addWrites a r cs) ↔ s.Frame ps u := by
  simp only [State.addWrites]
  refine State.frame_each fun v a => ?_
  repeat' split
  all_goals simp [h, State.frame_each, State.frame_when]

@[simp] theorem State.frame_issueData (a r : Nat) (f : Flush) (h : .sched ∈ ps ∧ .arr ∈ ps ∧ .slot ∈ ps) :
    s.Frame ps (u.issueData a r f) ↔ s.Frame ps u := by
  simp [State.issueData, h, State.frame_each, State.frame_when]

@[simp] theorem State.frame_advanceFlush (a r : Nat)
    (h : .free ∈ ps ∧ .out ∈ ps ∧ .dict ∈ ps ∧ .sess ∈ ps ∧ .ev ∈ ps ∧ .rings ∈ ps ∧ .fab ∈ ps ∧ .nvme ∈ ps ∧ .sched ∈ ps ∧
        .arr ∈ ps ∧ .slot ∈ ps ∧ .nss ∈ ps) :
    s.Frame ps (u.advanceFlush a r) ↔ s.Frame ps u := by
  simp only [State.advanceFlush]
  split <;> simp [h, State.frame_each, State.frame_when]

@[simp] theorem State.frame_repeatFlush (a r : Nat)
    (h : .free ∈ ps ∧ .out ∈ ps ∧ .dict ∈ ps ∧ .sess ∈ ps ∧ .ev ∈ ps ∧ .rings ∈ ps ∧ .fab ∈ ps ∧ .nvme ∈ ps ∧ .sched ∈ ps ∧
        .arr ∈ ps ∧ .slot ∈ ps ∧ .nss ∈ ps) :
    s.Frame ps (u.repeatFlush a r) ↔ s.Frame ps u := by
  simp only [State.repeatFlush]
  split
  · rfl
  · split
    · next hv => simp [h, State.frame_of_openCtx hv]
    · simp [h]

@[simp] theorem State.frame_unsend (id off len : Nat) (h : .rdma ∈ ps) : s.Frame ps (u.unsend id off len) ↔ s.Frame ps u := by
  simp only [State.unsend]
  split <;> simp [h]

@[simp] theorem State.frame_reconFail (rid pos : Nat)
    (h : .free ∈ ps ∧ .out ∈ ps ∧ .dict ∈ ps ∧ .sess ∈ ps ∧ .ev ∈ ps ∧ .rings ∈ ps ∧ .fab ∈ ps ∧ .eth ∈ ps ∧ .rdma ∈ ps ∧
        .nvme ∈ ps ∧ .sched ∈ ps ∧ .arr ∈ ps ∧ .slot ∈ ps ∧ .np ∈ ps ∧ .meter ∈ ps ∧ .twin ∈ ps ∧ .pwr ∈ ps ∧ .nss ∈ ps) :
    s.Frame ps (u.reconFail rid pos) ↔ s.Frame ps u := by
  simp only [State.reconFail]
  split <;> simp [h]

@[simp] theorem State.frame_flushReadFail (a r p : Nat) (bad : Bool)
    (h : .free ∈ ps ∧ .out ∈ ps ∧ .dict ∈ ps ∧ .sess ∈ ps ∧ .ev ∈ ps ∧ .rings ∈ ps ∧ .fab ∈ ps ∧ .nvme ∈ ps ∧ .sched ∈ ps ∧
        .arr ∈ ps ∧ .slot ∈ ps ∧ .nss ∈ ps) :
    s.Frame ps (u.flushReadFail a r p bad) ↔ s.Frame ps u := by
  simp only [State.flushReadFail]
  split <;> simp [h]

@[simp] theorem State.frame_flushWritten (a r k : Nat) (dropped : Bool) (h : .dict ∈ ps ∧ .fab ∈ ps ∧ .arr ∈ ps) :
    s.Frame ps (u.flushWritten a r k dropped) ↔ s.Frame ps u := by
  simp only [State.flushWritten]
  split <;> simp [h]

@[simp] theorem State.frame_journalWritten (a seq copy : Nat) (h : .arr ∈ ps) :
    s.Frame ps (u.journalWritten a seq copy) ↔ s.Frame ps u := by
  simp [State.journalWritten, h]

@[simp] theorem State.frame_zeroWritten (a r k : Nat) (h : .arr ∈ ps) : s.Frame ps (u.zeroWritten a r k) ↔ s.Frame ps u := by
  simp [State.zeroWritten, h]

@[simp] theorem State.frame_resendFailed (i : Nat) (psn : Psn)
    (h : .free ∈ ps ∧ .out ∈ ps ∧ .dict ∈ ps ∧ .sess ∈ ps ∧ .ev ∈ ps ∧ .rings ∈ ps ∧ .fab ∈ ps ∧ .eth ∈ ps ∧ .rdma ∈ ps ∧
        .nvme ∈ ps ∧ .sched ∈ ps ∧ .arr ∈ ps ∧ .slot ∈ ps ∧ .np ∈ ps ∧ .meter ∈ ps ∧ .twin ∈ ps ∧ .pwr ∈ ps ∧ .nss ∈ ps) :
    s.Frame ps (u.resendFailed i psn) ↔ s.Frame ps u := by
  simp only [State.resendFailed]
  split <;> simp [h]

@[simp] theorem State.frame_memberFails (k : Nat)
    (h : .free ∈ ps ∧ .out ∈ ps ∧ .dict ∈ ps ∧ .sess ∈ ps ∧ .ev ∈ ps ∧ .rings ∈ ps ∧ .fab ∈ ps ∧ .eth ∈ ps ∧ .rdma ∈ ps ∧
        .nvme ∈ ps ∧ .sched ∈ ps ∧ .arr ∈ ps ∧ .slot ∈ ps ∧ .np ∈ ps ∧ .meter ∈ ps ∧ .twin ∈ ps ∧ .pwr ∈ ps ∧ .nss ∈ ps) :
    s.Frame ps (u.memberFails k) ↔ s.Frame ps u := by
  simp only [State.memberFails]
  repeat' split
  all_goals simp [h, State.frame_each, State.frame_when]

@[simp] theorem State.frame_failArray (a m cause : Nat)
    (h : .free ∈ ps ∧ .out ∈ ps ∧ .dict ∈ ps ∧ .sess ∈ ps ∧ .ev ∈ ps ∧ .rings ∈ ps ∧ .fab ∈ ps ∧ .eth ∈ ps ∧ .rdma ∈ ps ∧
        .nvme ∈ ps ∧ .sched ∈ ps ∧ .arr ∈ ps ∧ .slot ∈ ps ∧ .np ∈ ps ∧ .meter ∈ ps ∧ .twin ∈ ps ∧ .pwr ∈ ps ∧ .ctrls ∈ ps ∧
        .nss ∈ ps) :
    s.Frame ps (u.failArray a m cause) ↔ s.Frame ps u := by
  simp [State.failArray, h, State.frame_each, State.frame_when]

@[simp] theorem State.frame_flushJournal (a b : Nat) (h : .dict ∈ ps ∧ .sched ∈ ps ∧ .arr ∈ ps ∧ .slot ∈ ps) :
    s.Frame ps (u.flushJournal a b) ↔ s.Frame ps u := by
  induction b generalizing u with
  | zero => rfl
  | succ b ih =>
    simp only [State.flushJournal]
    split_ifs <;> simp [h, ih]

@[simp] theorem State.frame_reform (a m : Nat) (h : .free ∈ ps ∧ .dict ∈ ps ∧ .sched ∈ ps ∧ .arr ∈ ps ∧ .slot ∈ ps) :
    s.Frame ps (u.reform a m) ↔ s.Frame ps u := by
  simp [State.reform, h]

@[simp] theorem State.frame_loseMember (a m cause : Nat)
    (h : .free ∈ ps ∧ .out ∈ ps ∧ .dict ∈ ps ∧ .sess ∈ ps ∧ .ev ∈ ps ∧ .rings ∈ ps ∧ .fab ∈ ps ∧ .eth ∈ ps ∧ .rdma ∈ ps ∧
        .nvme ∈ ps ∧ .sched ∈ ps ∧ .arr ∈ ps ∧ .slot ∈ ps ∧ .np ∈ ps ∧ .meter ∈ ps ∧ .twin ∈ ps ∧ .pwr ∈ ps ∧ .ctrls ∈ ps ∧
        .nss ∈ ps) :
    s.Frame ps (u.loseMember a m cause) ↔ s.Frame ps u := by
  simp only [State.loseMember]
  repeat' split
  all_goals simp [h, State.frame_each, State.frame_when]

@[simp] theorem State.frame_memberCause (a m cause : Nat)
    (h : .free ∈ ps ∧ .out ∈ ps ∧ .dict ∈ ps ∧ .sess ∈ ps ∧ .ev ∈ ps ∧ .rings ∈ ps ∧ .fab ∈ ps ∧ .eth ∈ ps ∧ .rdma ∈ ps ∧
        .nvme ∈ ps ∧ .sched ∈ ps ∧ .arr ∈ ps ∧ .slot ∈ ps ∧ .np ∈ ps ∧ .meter ∈ ps ∧ .twin ∈ ps ∧ .pwr ∈ ps ∧ .ctrls ∈ ps ∧
        .nss ∈ ps) :
    s.Frame ps (u.memberCause a m cause) ↔ s.Frame ps u := by
  simp [State.memberCause, h]

@[simp] theorem State.frame_requeue (k : Nat) (h : .sched ∈ ps ∧ .slot ∈ ps) : s.Frame ps (u.requeue k) ↔ s.Frame ps u := by
  simp only [State.requeue]
  repeat' split
  all_goals simp [h, State.frame_each, State.frame_when]

@[simp] theorem State.frame_endOutstanding (n : Nat)
    (h : .free ∈ ps ∧ .out ∈ ps ∧ .dict ∈ ps ∧ .sess ∈ ps ∧ .ev ∈ ps ∧ .rings ∈ ps ∧ .fab ∈ ps ∧ .eth ∈ ps ∧ .rdma ∈ ps ∧
        .nvme ∈ ps ∧ .sched ∈ ps ∧ .arr ∈ ps ∧ .slot ∈ ps ∧ .np ∈ ps ∧ .meter ∈ ps ∧ .twin ∈ ps ∧ .pwr ∈ ps ∧ .nss ∈ ps) :
    s.Frame ps (u.endOutstanding n) ↔ s.Frame ps u := by
  simp [State.endOutstanding, h, State.frame_each, State.frame_when]

@[simp] theorem State.frame_ladderStep (n k : Nat)
    (h : .free ∈ ps ∧ .out ∈ ps ∧ .dict ∈ ps ∧ .sess ∈ ps ∧ .ev ∈ ps ∧ .rings ∈ ps ∧ .fab ∈ ps ∧ .eth ∈ ps ∧ .rdma ∈ ps ∧
        .nvme ∈ ps ∧ .sched ∈ ps ∧ .arr ∈ ps ∧ .slot ∈ ps ∧ .np ∈ ps ∧ .dma ∈ ps ∧ .meter ∈ ps ∧ .twin ∈ ps ∧ .pwr ∈ ps ∧
        .slots ∈ ps ∧ .nss ∈ ps) :
    s.Frame ps (u.ladderStep n k) ↔ s.Frame ps u := by
  simp [State.ladderStep, h]

@[simp] theorem State.frame_startLadder (n k : Nat)
    (h : .free ∈ ps ∧ .out ∈ ps ∧ .dict ∈ ps ∧ .sess ∈ ps ∧ .ev ∈ ps ∧ .rings ∈ ps ∧ .fab ∈ ps ∧ .eth ∈ ps ∧ .rdma ∈ ps ∧
        .nvme ∈ ps ∧ .sched ∈ ps ∧ .arr ∈ ps ∧ .slot ∈ ps ∧ .np ∈ ps ∧ .dma ∈ ps ∧ .meter ∈ ps ∧ .twin ∈ ps ∧ .pwr ∈ ps ∧
        .slots ∈ ps ∧ .nss ∈ ps) :
    s.Frame ps (u.startLadder n k) ↔ s.Frame ps u := by
  simp [State.startLadder, h]

@[simp] theorem State.frame_inheritCtrl (r : QpStateRec) (i : Nat) (h : .dict ∈ ps ∧ .nvme ∈ ps ∧ .ctrls ∈ ps) :
    s.Frame ps (u.inheritCtrl r i) ↔ s.Frame ps u := by
  simp only [State.inheritCtrl]
  split <;> simp [h]

@[simp] theorem State.frame_inherit (wire : Nat)
    (h : .free ∈ ps ∧ .out ∈ ps ∧ .dict ∈ ps ∧ .sess ∈ ps ∧ .ev ∈ ps ∧ .rings ∈ ps ∧ .fab ∈ ps ∧ .eth ∈ ps ∧ .rdma ∈ ps ∧
        .nvme ∈ ps ∧ .sched ∈ ps ∧ .arr ∈ ps ∧ .slot ∈ ps ∧ .np ∈ ps ∧ .meter ∈ ps ∧ .twin ∈ ps ∧ .pwr ∈ ps ∧ .take ∈ ps ∧
        .standby ∈ ps ∧ .ctrls ∈ ps ∧ .nss ∈ ps) :
    s.Frame ps (u.inherit wire) ↔ s.Frame ps u := by
  simp only [State.inherit]
  split <;> simp [h, State.frame_each, State.frame_when]

@[simp] theorem State.frame_startErases
    (h : .free ∈ ps ∧ .out ∈ ps ∧ .dict ∈ ps ∧ .sess ∈ ps ∧ .ev ∈ ps ∧ .rings ∈ ps ∧ .fab ∈ ps ∧ .eth ∈ ps ∧ .rdma ∈ ps ∧
        .nvme ∈ ps ∧ .sched ∈ ps ∧ .arr ∈ ps ∧ .slot ∈ ps ∧ .np ∈ ps ∧ .meter ∈ ps ∧ .twin ∈ ps ∧ .pwr ∈ ps ∧ .ctrls ∈ ps ∧
        .nss ∈ ps) :
    s.Frame ps u.startErases ↔ s.Frame ps u := by
  simp only [State.startErases]
  refine State.frame_each fun v a => ?_
  repeat' split
  all_goals simp [h, State.frame_each, State.frame_when]

@[simp] theorem State.frame_finishTakeover
    (h : .free ∈ ps ∧ .out ∈ ps ∧ .dict ∈ ps ∧ .sess ∈ ps ∧ .ev ∈ ps ∧ .rings ∈ ps ∧ .fab ∈ ps ∧ .eth ∈ ps ∧ .rdma ∈ ps ∧
        .nvme ∈ ps ∧ .sched ∈ ps ∧ .arr ∈ ps ∧ .slot ∈ ps ∧ .np ∈ ps ∧ .meter ∈ ps ∧ .twin ∈ ps ∧ .pwr ∈ ps ∧ .take ∈ ps ∧
        .standby ∈ ps ∧ .ctrls ∈ ps ∧ .nss ∈ ps) :
    s.Frame ps u.finishTakeover ↔ s.Frame ps u := by
  simp only [State.finishTakeover]
  split <;> simp [h, State.frame_each, State.frame_when]

@[simp] theorem State.frame_setAllocation (n : Nat) (w : Rat) (h : .dict ∈ ps) :
    s.Frame ps (u.setAllocation n w) ↔ s.Frame ps u := by
  simp [State.setAllocation, h]

@[simp] theorem State.frame_openFeeds (n : Nat) (h : .dict ∈ ps ∧ .slot ∈ ps ∧ .slots ∈ ps) :
    s.Frame ps (u.openFeeds n) ↔ s.Frame ps u := by
  simp [State.openFeeds, h]

@[simp] theorem State.frame_driveGone (n state : Nat)
    (h : .free ∈ ps ∧ .out ∈ ps ∧ .dict ∈ ps ∧ .sess ∈ ps ∧ .ev ∈ ps ∧ .rings ∈ ps ∧ .fab ∈ ps ∧ .eth ∈ ps ∧ .rdma ∈ ps ∧
        .nvme ∈ ps ∧ .sched ∈ ps ∧ .arr ∈ ps ∧ .slot ∈ ps ∧ .np ∈ ps ∧ .dma ∈ ps ∧ .meter ∈ ps ∧ .twin ∈ ps ∧ .pwr ∈ ps ∧
        .slots ∈ ps ∧ .ctrls ∈ ps ∧ .nss ∈ ps) :
    s.Frame ps (u.driveGone n state) ↔ s.Frame ps u := by
  simp only [State.driveGone]
  repeat' split
  all_goals simp [h, State.frame_each, State.frame_when]

@[simp] theorem State.frame_bringUp (n : Nat) (h : .dict ∈ ps ∧ .slot ∈ ps ∧ .slots ∈ ps) :
    s.Frame ps (u.bringUp n) ↔ s.Frame ps u := by
  simp [State.bringUp, h]

@[simp] theorem State.frame_powerOffSlot (n : Nat)
    (h : .free ∈ ps ∧ .out ∈ ps ∧ .dict ∈ ps ∧ .sess ∈ ps ∧ .ev ∈ ps ∧ .rings ∈ ps ∧ .fab ∈ ps ∧ .eth ∈ ps ∧ .rdma ∈ ps ∧
        .nvme ∈ ps ∧ .sched ∈ ps ∧ .arr ∈ ps ∧ .slot ∈ ps ∧ .np ∈ ps ∧ .dma ∈ ps ∧ .meter ∈ ps ∧ .twin ∈ ps ∧ .pwr ∈ ps ∧
        .slots ∈ ps ∧ .ctrls ∈ ps ∧ .nss ∈ ps) :
    s.Frame ps (u.powerOffSlot n) ↔ s.Frame ps u := by
  simp only [State.powerOffSlot]
  split <;> simp [h]

@[simp] theorem State.frame_powerOnSlot (n : Nat) (h : .dict ∈ ps ∧ .slot ∈ ps ∧ .slots ∈ ps) :
    s.Frame ps (u.powerOnSlot n) ↔ s.Frame ps u := by
  simp [State.powerOnSlot, h]

@[simp] theorem frame_applySlotSettings (st : Stage) (old : State)
    (h : .free ∈ ps ∧ .out ∈ ps ∧ .dict ∈ ps ∧ .sess ∈ ps ∧ .ev ∈ ps ∧ .rings ∈ ps ∧ .fab ∈ ps ∧ .eth ∈ ps ∧ .rdma ∈ ps ∧
        .nvme ∈ ps ∧ .sched ∈ ps ∧ .arr ∈ ps ∧ .slot ∈ ps ∧ .np ∈ ps ∧ .dma ∈ ps ∧ .meter ∈ ps ∧ .twin ∈ ps ∧ .pwr ∈ ps ∧
        .slots ∈ ps ∧ .ctrls ∈ ps ∧ .nss ∈ ps) :
    s.Frame ps (applySlotSettings st old u) ↔ s.Frame ps u := by
  simp [applySlotSettings, h]

@[simp] theorem State.frame_tryRamp (n : Nat)
    (h : .out ∈ ps ∧ .dict ∈ ps ∧ .sess ∈ ps ∧ .ev ∈ ps ∧ .rings ∈ ps ∧ .slot ∈ ps ∧ .slots ∈ ps) :
    s.Frame ps (u.tryRamp n) ↔ s.Frame ps u := by
  simp [State.tryRamp, h]

@[simp] theorem State.frame_refuseDrive (n reason : Nat) (h : .out ∈ ps ∧ .dict ∈ ps ∧ .sess ∈ ps ∧ .ev ∈ ps ∧ .rings ∈ ps) :
    s.Frame ps (u.refuseDrive n reason) ↔ s.Frame ps u := by
  simp [State.refuseDrive, h]

@[simp] theorem State.frame_disableSlot (n : Nat)
    (h : .free ∈ ps ∧ .out ∈ ps ∧ .dict ∈ ps ∧ .sess ∈ ps ∧ .ev ∈ ps ∧ .rings ∈ ps ∧ .fab ∈ ps ∧ .eth ∈ ps ∧ .rdma ∈ ps ∧
        .nvme ∈ ps ∧ .sched ∈ ps ∧ .arr ∈ ps ∧ .slot ∈ ps ∧ .np ∈ ps ∧ .dma ∈ ps ∧ .meter ∈ ps ∧ .twin ∈ ps ∧ .pwr ∈ ps ∧
        .slots ∈ ps ∧ .ctrls ∈ ps ∧ .nss ∈ ps) :
    s.Frame ps (u.disableSlot n) ↔ s.Frame ps u := by
  simp [State.disableSlot, h]

@[simp] theorem State.frame_slotViolation (n sub detail : Nat)
    (h : .free ∈ ps ∧ .out ∈ ps ∧ .dict ∈ ps ∧ .sess ∈ ps ∧ .ev ∈ ps ∧ .rings ∈ ps ∧ .fab ∈ ps ∧ .eth ∈ ps ∧ .rdma ∈ ps ∧
        .nvme ∈ ps ∧ .sched ∈ ps ∧ .arr ∈ ps ∧ .slot ∈ ps ∧ .np ∈ ps ∧ .dma ∈ ps ∧ .meter ∈ ps ∧ .twin ∈ ps ∧ .pwr ∈ ps ∧
        .slots ∈ ps ∧ .ctrls ∈ ps ∧ .nss ∈ ps) :
    s.Frame ps (u.slotViolation n sub detail) ↔ s.Frame ps u := by
  simp [State.slotViolation, h]

theorem State.frame_slotAsk {v : State} {n : Nat} {x : TagUse} {off len : Nat} (hv : u.slotAsk n x off len = some v)
    (h : .out ∈ ps ∧ .slot ∈ ps ∧ .slots ∈ ps) : s.Frame ps v ↔ s.Frame ps u := by
  obtain ⟨_, _, rfl⟩ := Option.map_eq_some_iff.1 hv
  simp [h]

@[simp] theorem State.frame_slotAsk_getD (n : Nat) (x : TagUse) (off len : Nat) (v : State) (h : .out ∈ ps ∧ .slot ∈ ps ∧
      .slots ∈ ps)
    (hv : s.Frame ps v ↔ s.Frame ps u) : s.Frame ps ((v.slotAsk n x off len).getD u) ↔ s.Frame ps u := by
  cases hc : v.slotAsk n x off len with
  | none => rfl
  | some w => exact (State.frame_slotAsk hc h).trans hv

@[simp] theorem State.frame_dmaAsk (c : Nat) (h : .out ∈ ps ∧ .dict ∈ ps ∧ .slot ∈ ps ∧ .np ∈ ps ∧ .dma ∈ ps ∧ .slots ∈ ps) :
    s.Frame ps (u.dmaAsk c) ↔ s.Frame ps u := by
  simp only [State.dmaAsk]
  split
  · rfl
  · split
    · rfl
    · split
      · simp [h]
      · simp [h, State.frame_slotAsk_getD]
      · rfl

@[simp] theorem State.frame_takeNpSettings (p : Nat) (h : .np ∈ ps) : s.Frame ps (u.takeNpSettings p) ↔ s.Frame ps u := by
  simp [State.takeNpSettings, h]

@[simp] theorem State.frame_npLinkGone (p : Nat) (h : .dict ∈ ps ∧ .np ∈ ps) : s.Frame ps (u.npLinkGone p) ↔ s.Frame ps u := by
  simp [State.npLinkGone, h]

@[simp] theorem State.frame_npForget (p : Nat) (gone : NpWait → Bool) (h : .np ∈ ps) :
    s.Frame ps (u.npForget p gone) ↔ s.Frame ps u := State.frame_setNport p _ h

@[simp] theorem State.frame_releaseMsix (p func : Nat) (h : .out ∈ ps ∧ .rings ∈ ps ∧ .np ∈ ps) :
    s.Frame ps (u.releaseMsix p func) ↔ s.Frame ps u := by
  simp [State.releaseMsix, h, State.frame_each, State.frame_when]

@[simp] theorem State.frame_vfRequest (p v addr : Nat) (w : NpPurpose) (h : .out ∈ ps ∧ .dict ∈ ps ∧ .np ∈ ps) :
    s.Frame ps (u.vfRequest p v addr w) ↔ s.Frame ps u := by
  simp [State.vfRequest, h]

@[simp] theorem State.frame_fetchEntry (p v q : Nat) (h : .out ∈ ps ∧ .dict ∈ ps ∧ .np ∈ ps) :
    s.Frame ps (u.fetchEntry p v q) ↔ s.Frame ps u := by
  simp only [State.fetchEntry]
  split <;> simp [h]

@[simp] theorem State.frame_logAer (p kind func : Nat) (h : .out ∈ ps ∧ .rings ∈ ps ∧ .np ∈ ps) :
    s.Frame ps (u.logAer p kind func) ↔ s.Frame ps u := by
  simp [State.logAer, h]

@[simp] theorem State.frame_freeTag (p tag : Nat) (h : .out ∈ ps ∧ .dict ∈ ps ∧ .np ∈ ps) :
    s.Frame ps (u.freeTag p tag) ↔ s.Frame ps u := by
  simp only [State.freeTag]
  split <;> simp [h]

@[simp] theorem State.frame_dataFailed (id : Nat)
    (h : .free ∈ ps ∧ .out ∈ ps ∧ .dict ∈ ps ∧ .sess ∈ ps ∧ .ev ∈ ps ∧ .rings ∈ ps ∧ .fab ∈ ps ∧ .eth ∈ ps ∧ .rdma ∈ ps ∧
        .nvme ∈ ps ∧ .sched ∈ ps ∧ .arr ∈ ps ∧ .slot ∈ ps ∧ .np ∈ ps ∧ .meter ∈ ps ∧ .twin ∈ ps) :
    s.Frame ps (u.dataFailed id) ↔ s.Frame ps u := by
  simp [State.dataFailed, h]

@[simp] theorem State.frame_entryFetched (p v q : Nat) (cap : Capsule)
    (h : .free ∈ ps ∧ .out ∈ ps ∧ .dict ∈ ps ∧ .nvme ∈ ps ∧ .np ∈ ps) :
    s.Frame ps (u.entryFetched p v q cap) ↔ s.Frame ps u := by
  simp only [State.entryFetched]
  split <;> simp [h]

@[simp] theorem State.frame_readRing (cap : Nat) (h : .fab ∈ ps) : s.Frame ps (u.readRing cap).2 ↔ s.Frame ps u := by
  simp [State.readRing, h]

@[simp] theorem State.frame_readValue (x : Session) (idx sub cap : Nat) (h : .free ∈ ps ∧ .dict ∈ ps ∧ .fab ∈ ps) :
    s.Frame ps (u.readValue x idx sub cap).2 ↔ s.Frame ps u := by
  simp only [State.readValue]
  repeat' split
  all_goals simp [h]

@[simp] theorem State.frame_closeSession (id : Nat) (h : .out ∈ ps ∧ .sess ∈ ps) :
    s.Frame ps (u.closeSession id) ↔ s.Frame ps u := by
  simp [State.closeSession, h]

@[simp] theorem State.frame_tidySessions (h : .out ∈ ps ∧ .sess ∈ ps) : s.Frame ps u.tidySessions ↔ s.Frame ps u := by
  simp [State.tidySessions, h, State.frame_each, State.frame_when]

@[simp] theorem State.frame_tellFactory (h : .dict ∈ ps ∧ .sess ∈ ps) : s.Frame ps u.tellFactory ↔ s.Frame ps u := by
  simp [State.tellFactory, h]

@[simp] theorem frame_accountApply (x : Stage) (a : State) (h : .dict ∈ ps ∧ .sess ∈ ps) :
    s.Frame ps (accountApply x a u) ↔ s.Frame ps u := by
  simp [accountApply, h]

@[simp] theorem State.frame_refeed (n : Nat)
    (h : .out ∈ ps ∧ .dict ∈ ps ∧ .sess ∈ ps ∧ .ev ∈ ps ∧ .rings ∈ ps ∧ .slot ∈ ps ∧ .slots ∈ ps) :
    s.Frame ps (u.refeed n) ↔ s.Frame ps u := by
  simp [State.refeed, h]

@[simp] theorem frame_applySlotPower (st : Stage) (old : State)
    (h : .free ∈ ps ∧ .out ∈ ps ∧ .dict ∈ ps ∧ .sess ∈ ps ∧ .ev ∈ ps ∧ .rings ∈ ps ∧ .fab ∈ ps ∧ .eth ∈ ps ∧ .rdma ∈ ps ∧
        .nvme ∈ ps ∧ .sched ∈ ps ∧ .arr ∈ ps ∧ .slot ∈ ps ∧ .np ∈ ps ∧ .dma ∈ ps ∧ .meter ∈ ps ∧ .twin ∈ ps ∧ .pwr ∈ ps ∧
        .slots ∈ ps ∧ .ctrls ∈ ps ∧ .nss ∈ ps) :
    s.Frame ps (applySlotPower st old u) ↔ s.Frame ps u := by
  simp [applySlotPower, h]

@[simp] theorem State.frame_startTransfer (a : Nat)
    (h : .free ∈ ps ∧ .out ∈ ps ∧ .dict ∈ ps ∧ .sess ∈ ps ∧ .ev ∈ ps ∧ .rings ∈ ps ∧ .fab ∈ ps ∧ .eth ∈ ps ∧ .rdma ∈ ps ∧
        .nvme ∈ ps ∧ .sched ∈ ps ∧ .np ∈ ps ∧ .meter ∈ ps ∧ .twin ∈ ps ∧ .ctrls ∈ ps) :
    s.Frame ps (u.startTransfer a) ↔ s.Frame ps u := by
  simp [State.startTransfer, h, State.frame_each, State.frame_when]

@[simp] theorem frame_applyArrayHome (st : Stage) (x : State)
    (h : .free ∈ ps ∧ .out ∈ ps ∧ .dict ∈ ps ∧ .sess ∈ ps ∧ .ev ∈ ps ∧ .rings ∈ ps ∧ .fab ∈ ps ∧ .eth ∈ ps ∧ .rdma ∈ ps ∧
        .nvme ∈ ps ∧ .sched ∈ ps ∧ .np ∈ ps ∧ .meter ∈ ps ∧ .twin ∈ ps ∧ .ctrls ∈ ps) :
    s.Frame ps (applyArrayHome st x u) ↔ s.Frame ps u := by
  simp [applyArrayHome, h]

@[simp] theorem State.frame_leaveQp (i : Nat)
    (h : .out ∈ ps ∧ .dict ∈ ps ∧ .fab ∈ ps ∧ .rdma ∈ ps ∧ .nvme ∈ ps ∧ .sched ∈ ps ∧ .arr ∈ ps ∧ .slot ∈ ps ∧ .twin ∈ ps ∧
        .qpGens ∈ ps ∧ .ctrls ∈ ps) :
    s.Frame ps (u.leaveQp i) ↔ s.Frame ps u := by
  simp only [State.leaveQp]
  split <;> simp [h]

@[simp] theorem State.frame_announceRow (row : Nat)
    (h : .free ∈ ps ∧ .out ∈ ps ∧ .dict ∈ ps ∧ .sess ∈ ps ∧ .ev ∈ ps ∧ .rings ∈ ps ∧ .fab ∈ ps ∧ .eth ∈ ps ∧ .rdma ∈ ps ∧
        .nvme ∈ ps ∧ .sched ∈ ps ∧ .meter ∈ ps) :
    s.Frame ps (u.announceRow row) ↔ s.Frame ps u := by
  simp [State.announceRow, h]

@[simp] theorem State.frame_moveInterface (row home : Nat)
    (h : .free ∈ ps ∧ .out ∈ ps ∧ .dict ∈ ps ∧ .sess ∈ ps ∧ .ev ∈ ps ∧ .rings ∈ ps ∧ .fab ∈ ps ∧ .eth ∈ ps ∧ .rdma ∈ ps ∧
        .nvme ∈ ps ∧ .sched ∈ ps ∧ .arr ∈ ps ∧ .slot ∈ ps ∧ .meter ∈ ps ∧ .twin ∈ ps ∧ .qpGens ∈ ps ∧ .ctrls ∈ ps) :
    s.Frame ps (u.moveInterface row home) ↔ s.Frame ps u := by
  simp [State.moveInterface, h, State.frame_each, State.frame_when]

@[simp] theorem frame_applyInterfaceHome (st : Stage) (x : State)
    (h : .free ∈ ps ∧ .out ∈ ps ∧ .dict ∈ ps ∧ .sess ∈ ps ∧ .ev ∈ ps ∧ .rings ∈ ps ∧ .fab ∈ ps ∧ .eth ∈ ps ∧ .rdma ∈ ps ∧
        .nvme ∈ ps ∧ .sched ∈ ps ∧ .arr ∈ ps ∧ .slot ∈ ps ∧ .meter ∈ ps ∧ .twin ∈ ps ∧ .qpGens ∈ ps ∧ .ctrls ∈ ps) :
    s.Frame ps (applyInterfaceHome st x u) ↔ s.Frame ps u := by
  simp [applyInterfaceHome, h]

@[simp] theorem frame_shelfApp (win : Nat) (a : Stage) (b : State)
    (h : .free ∈ ps ∧ .out ∈ ps ∧ .dict ∈ ps ∧ .sess ∈ ps ∧ .ev ∈ ps ∧ .rings ∈ ps ∧ .fab ∈ ps ∧ .eth ∈ ps ∧ .rdma ∈ ps ∧
        .nvme ∈ ps ∧ .sched ∈ ps ∧ .arr ∈ ps ∧ .slot ∈ ps ∧ .np ∈ ps ∧ .meter ∈ ps ∧ .twin ∈ ps ∧ .pwr ∈ ps ∧ .qpGens ∈ ps ∧
        .ctrls ∈ ps ∧ .nss ∈ ps) :
    s.Frame ps (shelfApp win a b u) ↔ s.Frame ps u := by
  simp only [shelfApp]
  split <;> simp [h]

@[simp] theorem State.frame_chainRead (c : Nat) (h : .out ∈ ps ∧ .dict ∈ ps ∧ .slot ∈ ps ∧ .np ∈ ps ∧ .slots ∈ ps) :
    s.Frame ps (u.chainRead c) ↔ s.Frame ps u := by
  simp only [State.chainRead]
  split
  · rfl
  · split
    · simp [h]
    · simp [h, State.frame_slotAsk_getD]
    · rfl

@[simp] theorem State.frame_dmaFetch (c : Nat) (h : .out ∈ ps ∧ .dict ∈ ps ∧ .slot ∈ ps ∧ .np ∈ ps ∧ .dma ∈ ps ∧ .slots ∈ ps) :
    s.Frame ps (u.dmaFetch c) ↔ s.Frame ps u := by
  simp [State.dmaFetch, h]

@[simp] theorem frame_dmaDisable (c : Nat) (h : .free ∈ ps ∧ .dict ∈ ps ∧ .dma ∈ ps) :
    s.Frame ps (dmaDisable c u) ↔ s.Frame ps u := by
  simp [dmaDisable, h]

@[simp] theorem State.frame_syncShare (h : .dict ∈ ps) : s.Frame ps u.syncShare ↔ s.Frame ps u := by
  simp only [State.syncShare]
  split_ifs <;> simp [h]

@[simp] theorem State.frame_setCeiling (v : Nat)
    (h : .out ∈ ps ∧ .dict ∈ ps ∧ .sess ∈ ps ∧ .ev ∈ ps ∧ .rings ∈ ps ∧ .pwr ∈ ps) :
    s.Frame ps (u.setCeiling v) ↔ s.Frame ps u := by
  simp only [State.setCeiling]
  split_ifs <;> simp [h]

@[simp] theorem State.frame_updateCeiling (h : .out ∈ ps ∧ .dict ∈ ps ∧ .sess ∈ ps ∧ .ev ∈ ps ∧ .rings ∈ ps ∧ .pwr ∈ ps) :
    s.Frame ps u.updateCeiling ↔ s.Frame ps u := by
  simp only [State.updateCeiling]
  split_ifs <;> simp [h]

@[simp] theorem State.frame_beginTransfer (h : .dict ∈ ps ∧ .fw ∈ ps) : s.Frame ps u.beginTransfer ↔ s.Frame ps u := by
  simp [State.beginTransfer, h]

@[simp] theorem State.frame_endTransfer (reason : Nat) (h : .dict ∈ ps) : s.Frame ps (u.endTransfer reason) ↔ s.Frame ps u := by
  simp only [State.endTransfer]
  split_ifs <;> simp [h]

@[simp] theorem State.frame_cancelActivation
    (h : .free ∈ ps ∧ .out ∈ ps ∧ .dict ∈ ps ∧ .sess ∈ ps ∧ .ev ∈ ps ∧ .rings ∈ ps ∧ .fab ∈ ps ∧ .eth ∈ ps ∧ .rdma ∈ ps ∧
        .nvme ∈ ps ∧ .sched ∈ ps ∧ .np ∈ ps ∧ .meter ∈ ps ∧ .twin ∈ ps ∧ .pwr ∈ ps ∧ .fw ∈ ps ∧ .flushAll ∈ ps ∧ .ctrls ∈ ps) :
    s.Frame ps u.cancelActivation ↔ s.Frame ps u := by
  simp [State.cancelActivation, h, State.frame_each, State.frame_when]

@[simp] theorem State.frame_saveEvents (h : .ev ∈ ps) : s.Frame ps u.saveEvents ↔ s.Frame ps u := by
  simp [State.saveEvents, h]

@[simp] theorem State.frame_plannedPage (h : .out ∈ ps ∧ .dict ∈ ps ∧ .sess ∈ ps ∧ .ev ∈ ps ∧ .rings ∈ ps ∧ .meter ∈ ps) :
    s.Frame ps u.plannedPage ↔ s.Frame ps u := by
  simp [State.plannedPage, h, State.frame_each, State.frame_when]

@[simp] theorem State.frame_archiveAll (h : .out ∈ ps ∧ .dict ∈ ps ∧ .sess ∈ ps ∧ .ev ∈ ps ∧ .rings ∈ ps ∧ .meter ∈ ps) :
    s.Frame ps u.archiveAll ↔ s.Frame ps u := by
  simp [State.archiveAll, h, State.frame_each, State.frame_when]

@[simp] theorem State.frame_npRestart (power : Bool) (h : .np ∈ ps) : s.Frame ps (u.npRestart power) ↔ s.Frame ps u := by
  simp [State.npRestart, h]

@[simp] theorem State.frame_confirmImage (h : .out ∈ ps ∧ .dict ∈ ps ∧ .sess ∈ ps ∧ .ev ∈ ps ∧ .rings ∈ ps ∧ .fw ∈ ps) :
    s.Frame ps u.confirmImage ↔ s.Frame ps u := by
  simp only [State.confirmImage]
  split_ifs <;> simp [h]

@[simp] theorem State.frame_confirm (h : .out ∈ ps ∧ .dict ∈ ps ∧ .sess ∈ ps ∧ .ev ∈ ps ∧ .rings ∈ ps ∧ .fw ∈ ps) :
    s.Frame ps u.confirm ↔ s.Frame ps u := by
  simp only [State.confirm]
  split_ifs <;> simp [h]

@[simp] theorem frame_slotApp (win : Nat) (a : Stage) (b : State)
    (h : .free ∈ ps ∧ .out ∈ ps ∧ .dict ∈ ps ∧ .sess ∈ ps ∧ .ev ∈ ps ∧ .rings ∈ ps ∧ .fab ∈ ps ∧ .eth ∈ ps ∧ .rdma ∈ ps ∧
        .nvme ∈ ps ∧ .sched ∈ ps ∧ .arr ∈ ps ∧ .slot ∈ ps ∧ .np ∈ ps ∧ .dma ∈ ps ∧ .meter ∈ ps ∧ .twin ∈ ps ∧ .pwr ∈ ps ∧
        .slots ∈ ps ∧ .ctrls ∈ ps ∧ .nss ∈ ps) :
    s.Frame ps (slotApp win a b u) ↔ s.Frame ps u := by
  simp only [slotApp]
  split_ifs <;> simp [h]

@[simp] theorem State.frame_applyHeld (a : HeldCommit)
    (h : .free ∈ ps ∧ .out ∈ ps ∧ .dict ∈ ps ∧ .sess ∈ ps ∧ .ev ∈ ps ∧ .rings ∈ ps ∧ .fab ∈ ps ∧ .eth ∈ ps ∧ .rdma ∈ ps ∧
        .nvme ∈ ps ∧ .sched ∈ ps ∧ .arr ∈ ps ∧ .slot ∈ ps ∧ .np ∈ ps ∧ .dma ∈ ps ∧ .meter ∈ ps ∧ .twin ∈ ps ∧ .pwr ∈ ps ∧
        .dictGens ∈ ps ∧ .qpGens ∈ ps ∧ .slots ∈ ps ∧ .ctrls ∈ ps ∧ .nss ∈ ps) :
    s.Frame ps (u.applyHeld a) ↔ s.Frame ps u := by
  simp only [State.applyHeld]
  split <;> simp [h]

@[simp] theorem State.frame_releaseAcks
    (h : .free ∈ ps ∧ .out ∈ ps ∧ .dict ∈ ps ∧ .sess ∈ ps ∧ .ev ∈ ps ∧ .rings ∈ ps ∧ .fab ∈ ps ∧ .eth ∈ ps ∧ .rdma ∈ ps ∧
        .nvme ∈ ps ∧ .sched ∈ ps ∧ .meter ∈ ps ∧ .twin ∈ ps) :
    s.Frame ps u.releaseAcks ↔ s.Frame ps u := by
  simp [State.releaseAcks, h, State.frame_each, State.frame_when]

@[simp] theorem State.frame_ackReservations
    (h : .free ∈ ps ∧ .out ∈ ps ∧ .dict ∈ ps ∧ .sess ∈ ps ∧ .ev ∈ ps ∧ .rings ∈ ps ∧ .fab ∈ ps ∧ .eth ∈ ps ∧ .rdma ∈ ps ∧
        .nvme ∈ ps ∧ .sched ∈ ps ∧ .np ∈ ps ∧ .meter ∈ ps ∧ .twin ∈ ps ∧ .nss ∈ ps) :
    s.Frame ps u.ackReservations ↔ s.Frame ps u := by
  simp (maxDischargeDepth := 8) [State.ackReservations, h, State.frame_each, State.frame_when]

@[simp] theorem State.frame_ackUnmirrored
    (h : .free ∈ ps ∧ .out ∈ ps ∧ .dict ∈ ps ∧ .sess ∈ ps ∧ .ev ∈ ps ∧ .rings ∈ ps ∧ .fab ∈ ps ∧ .eth ∈ ps ∧ .rdma ∈ ps ∧
        .nvme ∈ ps ∧ .sched ∈ ps ∧ .arr ∈ ps ∧ .slot ∈ ps ∧ .np ∈ ps ∧ .meter ∈ ps ∧ .twin ∈ ps ∧ .pwr ∈ ps ∧ .nss ∈ ps) :
    s.Frame ps u.ackUnmirrored ↔ s.Frame ps u := by
  simp [State.ackUnmirrored, h, State.frame_each, State.frame_when]

@[simp] theorem State.frame_setOwner (a owner : Nat) (h : .dict ∈ ps) : s.Frame ps (u.setOwner a owner) ↔ s.Frame ps u := by
  simp [State.setOwner, h]

@[simp] theorem State.frame_takeMirror (taken : List Nat) (m : MirrorRec) (h : .arr ∈ ps) :
    s.Frame ps (u.takeMirror taken m) ↔ s.Frame ps u := by
  simp only [State.takeMirror]
  refine (State.frame_each fun v a => ?_).trans ?_ <;>
  repeat' split
  all_goals simp [h, State.frame_each, State.frame_when]

@[simp] theorem State.frame_awaitRecovery (a : Nat)
    (h : .free ∈ ps ∧ .out ∈ ps ∧ .dict ∈ ps ∧ .sess ∈ ps ∧ .ev ∈ ps ∧ .rings ∈ ps ∧ .fab ∈ ps ∧ .eth ∈ ps ∧ .rdma ∈ ps ∧
        .nvme ∈ ps ∧ .sched ∈ ps ∧ .arr ∈ ps ∧ .np ∈ ps ∧ .meter ∈ ps ∧ .twin ∈ ps ∧ .ctrls ∈ ps) :
    s.Frame ps (u.awaitRecovery a) ↔ s.Frame ps u := by
  simp [State.awaitRecovery, h]

@[simp] theorem State.frame_takeOver (trigger : Nat)
    (h : .free ∈ ps ∧ .out ∈ ps ∧ .dict ∈ ps ∧ .sess ∈ ps ∧ .ev ∈ ps ∧ .rings ∈ ps ∧ .fab ∈ ps ∧ .eth ∈ ps ∧ .rdma ∈ ps ∧
        .nvme ∈ ps ∧ .sched ∈ ps ∧ .arr ∈ ps ∧ .slot ∈ ps ∧ .np ∈ ps ∧ .dma ∈ ps ∧ .meter ∈ ps ∧ .twin ∈ ps ∧ .pwr ∈ ps ∧
        .fw ∈ ps ∧ .take ∈ ps ∧ .held ∈ ps ∧ .mirror ∈ ps ∧ .dictGens ∈ ps ∧ .qpGens ∈ ps ∧ .joining ∈ ps ∧ .closed ∈ ps ∧
        .standby ∈ ps ∧ .slots ∈ ps ∧ .ctrls ∈ ps ∧ .nss ∈ ps) :
    s.Frame ps (u.takeOver trigger) ↔ s.Frame ps u := by
  simp [State.takeOver, h, State.frame_each, State.frame_when]

@[simp] theorem State.frame_rereadCage (n : Nat)
    (h : .free ∈ ps ∧ .out ∈ ps ∧ .dict ∈ ps ∧ .sess ∈ ps ∧ .ev ∈ ps ∧ .rings ∈ ps ∧ .fab ∈ ps ∧ .eth ∈ ps ∧ .ptp ∈ ps ∧
        .rdma ∈ ps ∧ .nvme ∈ ps ∧ .sched ∈ ps ∧ .meter ∈ ps ∧ .flushes ∈ ps) :
    s.Frame ps (u.rereadCage n) ↔ s.Frame ps u := by
  simp [State.rereadCage, h]

@[simp] theorem State.frame_syncMgmt (p : Nat) (h : .dict ∈ ps) : s.Frame ps (u.syncMgmt p) ↔ s.Frame ps u := by
  simp [State.syncMgmt, h]

@[simp] theorem State.frame_chainTags (c : Nat) (late : Bool)
    (h : .out ∈ ps ∧ .dict ∈ ps ∧ .slot ∈ ps ∧ .np ∈ ps ∧ .slots ∈ ps) :
    s.Frame ps (u.chainTags c late) ↔ s.Frame ps u := by
  simp only [State.chainTags]
  split <;> simp [h]

@[simp] theorem State.frame_dmaPark (c : Nat)
    (h : .out ∈ ps ∧ .dict ∈ ps ∧ .sess ∈ ps ∧ .ev ∈ ps ∧ .rings ∈ ps ∧ .slot ∈ ps ∧ .np ∈ ps ∧ .dma ∈ ps ∧ .pwr ∈ ps ∧
        .slots ∈ ps) :
    s.Frame ps (u.dmaPark c) ↔ s.Frame ps u := by
  simp only [State.dmaPark]
  repeat' split
  all_goals simp [h, State.frame_each, State.frame_when]

@[simp] theorem State.frame_dmaSignals (c : Nat) (d : BitVec 256) (h : .out ∈ ps ∧ .sess ∈ ps ∧ .ev ∈ ps ∧ .rings ∈ ps) :
    s.Frame ps (u.dmaSignals c d) ↔ s.Frame ps u := by
  simp only [State.dmaSignals]
  repeat' split
  all_goals simp [h, State.frame_each, State.frame_when]

@[simp] theorem State.frame_sendHello (h : .out ∈ ps ∧ .dict ∈ ps ∧ .twin ∈ ps) : s.Frame ps u.sendHello ↔ s.Frame ps u := by
  simp [State.sendHello, h, State.frame_each, State.frame_when]

@[simp] theorem State.frame_startPairing (role epoch : Nat) (a : Hello)
    (h : .dict ∈ ps ∧ .twin ∈ ps ∧ .take ∈ ps ∧ .yieldRec ∈ ps ∧ .linkLost ∈ ps ∧ .lostAt ∈ ps ∧ .held ∈ ps ∧ .linked ∈ ps ∧
        .mirror ∈ ps ∧ .expected ∈ ps ∧ .lastDelivered ∈ ps ∧ .joining ∈ ps ∧ .closed ∈ ps ∧ .standby ∈ ps ∧ .health ∈ ps) :
    s.Frame ps (u.startPairing role epoch a) ↔ s.Frame ps u := by
  simp [State.startPairing, h]

@[simp] theorem State.frame_syncCapacity (h : .dict ∈ ps) : s.Frame ps u.syncCapacity ↔ s.Frame ps u := by
  simp [State.syncCapacity, h]

@[simp] theorem State.frame_sendShelf (h : .out ∈ ps ∧ .dict ∈ ps ∧ .twin ∈ ps) : s.Frame ps u.sendShelf ↔ s.Frame ps u := by
  simp (maxDischargeDepth := 8) [State.sendShelf, h, State.frame_each, State.frame_when]

@[simp] theorem State.frame_sendKeys (h : .out ∈ ps ∧ .dict ∈ ps ∧ .twin ∈ ps) : s.Frame ps u.sendKeys ↔ s.Frame ps u := by
  simp only [State.sendKeys]
  refine State.frame_each fun v a => ?_
  repeat' split
  all_goals simp [h, State.frame_each, State.frame_when]

@[simp] theorem State.frame_setStandby (wire : Nat) (b : Standby) (h : .twin ∈ ps ∧ .standby ∈ ps) :
    s.Frame ps (u.setStandby wire b) ↔ s.Frame ps u := by
  simp [State.setStandby, h]

@[simp] theorem State.frame_markFit (h : .twin ∈ ps) : s.Frame ps u.markFit ↔ s.Frame ps u := by
  simp [State.markFit, h]

@[simp] theorem State.frame_showHealth (row : Nat) (a : Health) (h : .dict ∈ ps) :
    s.Frame ps (u.showHealth row a) ↔ s.Frame ps u := by
  simp [State.showHealth, h]

@[simp] theorem State.frame_takeImage (e : BootEnv) (h : .fw ∈ ps) : s.Frame ps (u.takeImage e) ↔ s.Frame ps u := by
  simp [State.takeImage, h]

@[simp] theorem State.frame_snapshotStore (h : .dict ∈ ps) : s.Frame ps u.snapshotStore ↔ s.Frame ps u := by
  simp [State.snapshotStore, h]

@[simp] theorem State.frame_restoreStore (h : .dict ∈ ps) : s.Frame ps u.restoreStore ↔ s.Frame ps u := by
  simp [State.restoreStore, h]

@[simp] theorem State.frame_freshUnits
    (h : .vcore ∈ ps ∧ .sess ∈ ps ∧ .ev ∈ ps ∧ .rings ∈ ps ∧ .core ∈ ps ∧ .fab ∈ ps ∧ .eth ∈ ps ∧ .ptp ∈ ps ∧ .rdma ∈ ps ∧
        .nvme ∈ ps ∧ .sched ∈ ps ∧ .arr ∈ ps ∧ .slot ∈ ps ∧ .np ∈ ps ∧ .dma ∈ ps ∧ .twin ∈ ps ∧ .pwr ∈ ps ∧ .land ∈ ps ∧
        .twinMode ∈ ps ∧ .take ∈ ps ∧ .yieldRec ∈ ps ∧ .linkLost ∈ ps ∧ .lostAt ∈ ps ∧ .held ∈ ps ∧ .linked ∈ ps ∧
        .mirror ∈ ps ∧ .onPlane ∈ ps ∧ .rsq ∈ ps ∧ .flushes ∈ ps ∧ .qpGens ∈ ps ∧ .can ∈ ps ∧ .mgmt ∈ ps ∧ .expected ∈ ps ∧
        .lastDelivered ∈ ps ∧ .joining ∈ ps ∧ .closed ∈ ps ∧ .standby ∈ ps ∧ .health ∈ ps ∧ .groups ∈ ps ∧ .takerDone ∈ ps ∧
        .stopped ∈ ps ∧ .storm ∈ ps ∧ .flushAll ∈ ps ∧ .slots ∈ ps ∧ .ctrls ∈ ps ∧ .nss ∈ ps ∧ .keks ∈ ps) :
    s.Frame ps u.freshUnits ↔ s.Frame ps u := by
  simp [State.freshUnits, h]

@[simp] theorem State.frame_loadObjects (readable : Bool) (h : .dict ∈ ps ∧ .dictGens ∈ ps) :
    s.Frame ps (u.loadObjects readable) ↔ s.Frame ps u := by
  simp [State.loadObjects, h]

@[simp] theorem State.frame_bootLedger (h : .dict ∈ ps ∧ .meter ∈ ps) : s.Frame ps u.bootLedger ↔ s.Frame ps u := by
  simp [State.bootLedger, h]

@[simp] theorem State.frame_bootClock (h : .ptp ∈ ps ∧ .pwr ∈ ps) : s.Frame ps u.bootClock ↔ s.Frame ps u := by
  simp [State.bootClock, h]

@[simp] theorem State.frame_showRefusal (ended : Bool) (h : .dict ∈ ps) : s.Frame ps (u.showRefusal ended) ↔ s.Frame ps u := by
  simp [State.showRefusal, h]

@[simp] theorem State.frame_showImage (old : State) (e : BootEnv)
    (h : .out ∈ ps ∧ .dict ∈ ps ∧ .sess ∈ ps ∧ .ev ∈ ps ∧ .rings ∈ ps) :
    s.Frame ps (u.showImage old e) ↔ s.Frame ps u := by
  unfold State.showImage
  extract_lets v w src
  have hv : s.Frame ps v ↔ s.Frame ps u := by
    unfold v
    split <;> simp [h]
  split_ifs
  · simp [h, hv]
  · exact hv
  · simp [h, hv]
  · exact hv
  · rw [State.frame_raise _ _ (by simp [h]), State.frame_mk (v := w) (by simp [h, src])]
    simp [h, hv, w]

@[simp] theorem State.frame_rearm (h : .dict ∈ ps) : s.Frame ps u.rearm ↔ s.Frame ps u := by
  simp only [State.rearm]
  split_ifs <;> simp [h]

@[simp] theorem State.frame_bootExchange (h : .dict ∈ ps) : s.Frame ps u.bootExchange ↔ s.Frame ps u := by
  simp only [State.bootExchange]
  split_ifs <;> simp [h]

@[simp] theorem State.frame_bootFault (h : .out ∈ ps ∧ .dict ∈ ps ∧ .sess ∈ ps ∧ .ev ∈ ps ∧ .rings ∈ ps ∧ .pwr ∈ ps) :
    s.Frame ps u.bootFault ↔ s.Frame ps u := by
  simp [State.bootFault, h]

@[simp] theorem State.frame_npShowLink (p : Nat) (h : .out ∈ ps ∧ .dict ∈ ps ∧ .sess ∈ ps ∧ .ev ∈ ps ∧ .rings ∈ ps) :
    s.Frame ps (u.npShowLink p) ↔ s.Frame ps u := by
  simp [State.npShowLink, h]

@[simp] theorem State.frame_npBoot (p : Nat) (h : .out ∈ ps ∧ .dict ∈ ps ∧ .sess ∈ ps ∧ .ev ∈ ps ∧ .rings ∈ ps ∧ .np ∈ ps) :
    s.Frame ps (u.npBoot p) ↔ s.Frame ps u := by
  simp [State.npBoot, h]

@[simp] theorem State.frame_bootBarometer (n : Nat) (h : .out ∈ ps ∧ .dict ∈ ps ∧ .sess ∈ ps ∧ .ev ∈ ps ∧ .rings ∈ ps) :
    s.Frame ps (u.bootBarometer n) ↔ s.Frame ps u := by
  simp [State.bootBarometer, h]

@[simp] theorem State.frame_bootPlane (p : Nat) (h : .out ∈ ps ∧ .dict ∈ ps ∧ .sess ∈ ps ∧ .ev ∈ ps ∧ .rings ∈ ps ∧ .fab ∈ ps) :
    s.Frame ps (u.bootPlane p) ↔ s.Frame ps u := by
  simp [State.bootPlane, h]

@[simp] theorem State.frame_bootKek (e : Nat × Nat)
    (h : .free ∈ ps ∧ .out ∈ ps ∧ .dict ∈ ps ∧ .nvme ∈ ps ∧ .sched ∈ ps ∧ .slot ∈ ps ∧ .twin ∈ ps ∧ .nss ∈ ps ∧ .keks ∈ ps) :
    s.Frame ps (u.bootKek e) ↔ s.Frame ps u := by
  simp [State.bootKek, h]

@[simp] theorem State.frame_awaitKek (tenant : Nat) (h : .dict ∈ ps) : s.Frame ps (u.awaitKek tenant) ↔ s.Frame ps u := by
  simp [State.awaitKek, h, State.frame_each, State.frame_when]

@[simp] theorem State.frame_bootTwin (h : .dict ∈ ps ∧ .twin ∈ ps ∧ .twinMode ∈ ps) : s.Frame ps u.bootTwin ↔ s.Frame ps u := by
  simp only [State.bootTwin]
  split_ifs <;> simp [h, State.frame_each, State.frame_when]

@[simp] theorem State.frame_bootService (old : State)
    (h : .vcore ∈ ps ∧ .free ∈ ps ∧ .out ∈ ps ∧ .dict ∈ ps ∧ .sess ∈ ps ∧ .ev ∈ ps ∧ .rings ∈ ps ∧ .fab ∈ ps ∧ .eth ∈ ps ∧
        .ptp ∈ ps ∧ .rdma ∈ ps ∧ .nvme ∈ ps ∧ .sched ∈ ps ∧ .slot ∈ ps ∧ .np ∈ ps ∧ .meter ∈ ps ∧ .twin ∈ ps ∧ .pwr ∈ ps ∧
        .twinMode ∈ ps ∧ .flushes ∈ ps ∧ .ctrls ∈ ps ∧ .nss ∈ ps ∧ .keks ∈ ps) :
    s.Frame ps (u.bootService old) ↔ s.Frame ps u := by
  unfold State.bootService
  generalize List.range 4096 = rows
  simp [h, State.frame_each]

@[simp] theorem State.frame_boot (e : BootEnv)
    (h : .vcore ∈ ps ∧ .free ∈ ps ∧ .out ∈ ps ∧ .dict ∈ ps ∧ .sess ∈ ps ∧ .ev ∈ ps ∧ .rings ∈ ps ∧ .core ∈ ps ∧ .fab ∈ ps ∧
        .eth ∈ ps ∧ .ptp ∈ ps ∧ .rdma ∈ ps ∧ .nvme ∈ ps ∧ .sched ∈ ps ∧ .arr ∈ ps ∧ .slot ∈ ps ∧ .np ∈ ps ∧ .dma ∈ ps ∧
        .meter ∈ ps ∧ .twin ∈ ps ∧ .pwr ∈ ps ∧ .land ∈ ps ∧ .fw ∈ ps ∧ .twinMode ∈ ps ∧ .take ∈ ps ∧ .yieldRec ∈ ps ∧
        .linkLost ∈ ps ∧ .lostAt ∈ ps ∧ .held ∈ ps ∧ .linked ∈ ps ∧ .mirror ∈ ps ∧ .onPlane ∈ ps ∧ .rsq ∈ ps ∧ .flushes ∈ ps ∧
        .dictGens ∈ ps ∧ .qpGens ∈ ps ∧ .can ∈ ps ∧ .mgmt ∈ ps ∧ .expected ∈ ps ∧ .lastDelivered ∈ ps ∧ .joining ∈ ps ∧
        .closed ∈ ps ∧ .standby ∈ ps ∧ .health ∈ ps ∧ .groups ∈ ps ∧ .takerDone ∈ ps ∧ .stopped ∈ ps ∧ .storm ∈ ps ∧
        .flushAll ∈ ps ∧ .slots ∈ ps ∧ .ctrls ∈ ps ∧ .nss ∈ ps ∧ .keks ∈ ps) :
    s.Frame ps (u.boot e) ↔ s.Frame ps u := by
  simp [State.boot, h, State.frame_each, State.frame_when]

@[simp] theorem frame_boot (e : BootEnv)
    (h : .vcore ∈ ps ∧ .free ∈ ps ∧ .out ∈ ps ∧ .dict ∈ ps ∧ .sess ∈ ps ∧ .ev ∈ ps ∧ .rings ∈ ps ∧ .core ∈ ps ∧ .fab ∈ ps ∧
        .eth ∈ ps ∧ .ptp ∈ ps ∧ .rdma ∈ ps ∧ .nvme ∈ ps ∧ .sched ∈ ps ∧ .arr ∈ ps ∧ .slot ∈ ps ∧ .np ∈ ps ∧ .dma ∈ ps ∧
        .meter ∈ ps ∧ .twin ∈ ps ∧ .pwr ∈ ps ∧ .land ∈ ps ∧ .fw ∈ ps ∧ .twinMode ∈ ps ∧ .take ∈ ps ∧ .yieldRec ∈ ps ∧
        .linkLost ∈ ps ∧ .lostAt ∈ ps ∧ .held ∈ ps ∧ .linked ∈ ps ∧ .mirror ∈ ps ∧ .onPlane ∈ ps ∧ .rsq ∈ ps ∧ .flushes ∈ ps ∧
        .dictGens ∈ ps ∧ .qpGens ∈ ps ∧ .can ∈ ps ∧ .mgmt ∈ ps ∧ .expected ∈ ps ∧ .lastDelivered ∈ ps ∧ .joining ∈ ps ∧
        .closed ∈ ps ∧ .standby ∈ ps ∧ .health ∈ ps ∧ .groups ∈ ps ∧ .takerDone ∈ ps ∧ .stopped ∈ ps ∧ .storm ∈ ps ∧
        .flushAll ∈ ps ∧ .slots ∈ ps ∧ .ctrls ∈ ps ∧ .nss ∈ ps ∧ .keks ∈ ps) :
    s.Frame ps (boot e u) ↔ s.Frame ps u := by
  simp [boot, h]

@[simp] theorem State.frame_clearLatch (h : .pwr ∈ ps) : s.Frame ps u.clearLatch ↔ s.Frame ps u := by
  simp only [State.clearLatch]
  split <;> simp [h]

@[simp] theorem State.frame_closeSwitch (h : .out ∈ ps ∧ .pwr ∈ ps) : s.Frame ps u.closeSwitch ↔ s.Frame ps u := by
  simp [State.closeSwitch, h]

@[simp] theorem frame_vinQualified (vinMv : Nat) (h : .out ∈ ps ∧ .dict ∈ ps ∧ .pwr ∈ ps) :
    s.Frame ps (vinQualified vinMv u) ↔ s.Frame ps u := by
  simp [vinQualified, h]

@[simp] theorem frame_inputPowerGood (h : .out ∈ ps ∧ .pwr ∈ ps) : s.Frame ps (inputPowerGood u) ↔ s.Frame ps u := by
  simp [inputPowerGood, h]

@[simp] theorem State.frame_openSwitch (h : .out ∈ ps ∧ .pwr ∈ ps) : s.Frame ps u.openSwitch ↔ s.Frame ps u := by
  simp [State.openSwitch, h]

@[simp] theorem State.frame_stormFirmware
    (h : .free ∈ ps ∧ .out ∈ ps ∧ .dict ∈ ps ∧ .sess ∈ ps ∧ .ev ∈ ps ∧ .rings ∈ ps ∧ .fab ∈ ps ∧ .eth ∈ ps ∧ .rdma ∈ ps ∧
        .nvme ∈ ps ∧ .sched ∈ ps ∧ .np ∈ ps ∧ .meter ∈ ps ∧ .twin ∈ ps ∧ .pwr ∈ ps ∧ .fw ∈ ps ∧ .flushAll ∈ ps ∧ .ctrls ∈ ps) :
    s.Frame ps u.stormFirmware ↔ s.Frame ps u := by
  simp [State.stormFirmware, h]

@[simp] theorem State.frame_stormPages (h : .out ∈ ps ∧ .dict ∈ ps ∧ .sess ∈ ps ∧ .ev ∈ ps ∧ .rings ∈ ps ∧ .meter ∈ ps) :
    s.Frame ps u.stormPages ↔ s.Frame ps u := by
  simp [State.stormPages, h, State.frame_each, State.frame_when]

@[simp] theorem State.frame_disableJobs
    (h : .free ∈ ps ∧ .out ∈ ps ∧ .dict ∈ ps ∧ .sess ∈ ps ∧ .ev ∈ ps ∧ .rings ∈ ps ∧ .dma ∈ ps) :
    s.Frame ps u.disableJobs ↔ s.Frame ps u := by
  simp [State.disableJobs, h, State.frame_each, State.frame_when]

@[simp] theorem State.frame_startCopy (ledger : List LedgerPage) (h : .pwr ∈ ps) :
    s.Frame ps (u.startCopy ledger) ↔ s.Frame ps u := by
  simp only [State.startCopy]
  split <;> simp [h]

@[simp] theorem State.frame_stormStarts
    (h : .free ∈ ps ∧ .out ∈ ps ∧ .dict ∈ ps ∧ .sess ∈ ps ∧ .ev ∈ ps ∧ .rings ∈ ps ∧ .fab ∈ ps ∧ .eth ∈ ps ∧ .ptp ∈ ps ∧
        .rdma ∈ ps ∧ .nvme ∈ ps ∧ .sched ∈ ps ∧ .arr ∈ ps ∧ .slot ∈ ps ∧ .np ∈ ps ∧ .dma ∈ ps ∧ .meter ∈ ps ∧ .twin ∈ ps ∧
        .pwr ∈ ps ∧ .land ∈ ps ∧ .fw ∈ ps ∧ .held ∈ ps ∧ .flushes ∈ ps ∧ .qpGens ∈ ps ∧ .takerDone ∈ ps ∧ .stopped ∈ ps ∧
        .storm ∈ ps ∧ .flushAll ∈ ps ∧ .slots ∈ ps ∧ .ctrls ∈ ps) :
    s.Frame ps u.stormStarts ↔ s.Frame ps u := by
  simp [State.stormStarts, h, State.frame_each, State.frame_when]

@[simp] theorem State.frame_storm
    (h : .free ∈ ps ∧ .out ∈ ps ∧ .dict ∈ ps ∧ .sess ∈ ps ∧ .ev ∈ ps ∧ .rings ∈ ps ∧ .fab ∈ ps ∧ .eth ∈ ps ∧ .ptp ∈ ps ∧
        .rdma ∈ ps ∧ .nvme ∈ ps ∧ .sched ∈ ps ∧ .arr ∈ ps ∧ .slot ∈ ps ∧ .np ∈ ps ∧ .dma ∈ ps ∧ .meter ∈ ps ∧ .twin ∈ ps ∧
        .pwr ∈ ps ∧ .land ∈ ps ∧ .fw ∈ ps ∧ .held ∈ ps ∧ .flushes ∈ ps ∧ .qpGens ∈ ps ∧ .takerDone ∈ ps ∧ .stopped ∈ ps ∧
        .storm ∈ ps ∧ .flushAll ∈ ps ∧ .slots ∈ ps ∧ .ctrls ∈ ps) :
    s.Frame ps u.storm ↔ s.Frame ps u := by
  simp [State.storm, h]

@[simp] theorem State.frame_inputFaults (cause : Nat) (served : Bool)
    (h : .free ∈ ps ∧ .out ∈ ps ∧ .dict ∈ ps ∧ .sess ∈ ps ∧ .ev ∈ ps ∧ .rings ∈ ps ∧ .fab ∈ ps ∧ .eth ∈ ps ∧ .ptp ∈ ps ∧
        .rdma ∈ ps ∧ .nvme ∈ ps ∧ .sched ∈ ps ∧ .arr ∈ ps ∧ .slot ∈ ps ∧ .np ∈ ps ∧ .dma ∈ ps ∧ .meter ∈ ps ∧ .twin ∈ ps ∧
        .pwr ∈ ps ∧ .land ∈ ps ∧ .fw ∈ ps ∧ .held ∈ ps ∧ .flushes ∈ ps ∧ .qpGens ∈ ps ∧ .takerDone ∈ ps ∧ .stopped ∈ ps ∧
        .storm ∈ ps ∧ .flushAll ∈ ps ∧ .slots ∈ ps ∧ .ctrls ∈ ps) :
    s.Frame ps (u.inputFaults cause served) ↔ s.Frame ps u := by
  simp [State.inputFaults, h]

@[simp] theorem frame_inrushFaultTimer
    (h : .free ∈ ps ∧ .out ∈ ps ∧ .dict ∈ ps ∧ .sess ∈ ps ∧ .ev ∈ ps ∧ .rings ∈ ps ∧ .fab ∈ ps ∧ .eth ∈ ps ∧ .ptp ∈ ps ∧
        .rdma ∈ ps ∧ .nvme ∈ ps ∧ .sched ∈ ps ∧ .arr ∈ ps ∧ .slot ∈ ps ∧ .np ∈ ps ∧ .dma ∈ ps ∧ .meter ∈ ps ∧ .twin ∈ ps ∧
        .pwr ∈ ps ∧ .land ∈ ps ∧ .fw ∈ ps ∧ .held ∈ ps ∧ .flushes ∈ ps ∧ .qpGens ∈ ps ∧ .takerDone ∈ ps ∧ .stopped ∈ ps ∧
        .storm ∈ ps ∧ .flushAll ∈ ps ∧ .slots ∈ ps ∧ .ctrls ∈ ps) :
    s.Frame ps (inrushFaultTimer u) ↔ s.Frame ps u := by
  simp [inrushFaultTimer, h]

@[simp] theorem frame_earlyShort
    (h : .free ∈ ps ∧ .out ∈ ps ∧ .dict ∈ ps ∧ .sess ∈ ps ∧ .ev ∈ ps ∧ .rings ∈ ps ∧ .fab ∈ ps ∧ .eth ∈ ps ∧ .ptp ∈ ps ∧
        .rdma ∈ ps ∧ .nvme ∈ ps ∧ .sched ∈ ps ∧ .arr ∈ ps ∧ .slot ∈ ps ∧ .np ∈ ps ∧ .dma ∈ ps ∧ .meter ∈ ps ∧ .twin ∈ ps ∧
        .pwr ∈ ps ∧ .land ∈ ps ∧ .fw ∈ ps ∧ .held ∈ ps ∧ .flushes ∈ ps ∧ .qpGens ∈ ps ∧ .takerDone ∈ ps ∧ .stopped ∈ ps ∧
        .storm ∈ ps ∧ .flushAll ∈ ps ∧ .slots ∈ ps ∧ .ctrls ∈ ps) :
    s.Frame ps (earlyShort u) ↔ s.Frame ps u := by
  simp [earlyShort, h]

@[simp] theorem frame_inputSquallTrip
    (h : .free ∈ ps ∧ .out ∈ ps ∧ .dict ∈ ps ∧ .sess ∈ ps ∧ .ev ∈ ps ∧ .rings ∈ ps ∧ .fab ∈ ps ∧ .eth ∈ ps ∧ .ptp ∈ ps ∧
        .rdma ∈ ps ∧ .nvme ∈ ps ∧ .sched ∈ ps ∧ .arr ∈ ps ∧ .slot ∈ ps ∧ .np ∈ ps ∧ .dma ∈ ps ∧ .meter ∈ ps ∧ .twin ∈ ps ∧
        .pwr ∈ ps ∧ .land ∈ ps ∧ .fw ∈ ps ∧ .held ∈ ps ∧ .flushes ∈ ps ∧ .qpGens ∈ ps ∧ .takerDone ∈ ps ∧ .stopped ∈ ps ∧
        .storm ∈ ps ∧ .flushAll ∈ ps ∧ .slots ∈ ps ∧ .ctrls ∈ ps) :
    s.Frame ps (inputSquallTrip u) ↔ s.Frame ps u := by
  simp [inputSquallTrip, h]

@[simp] theorem frame_overvoltageLockout
    (h : .free ∈ ps ∧ .out ∈ ps ∧ .dict ∈ ps ∧ .sess ∈ ps ∧ .ev ∈ ps ∧ .rings ∈ ps ∧ .fab ∈ ps ∧ .eth ∈ ps ∧ .ptp ∈ ps ∧
        .rdma ∈ ps ∧ .nvme ∈ ps ∧ .sched ∈ ps ∧ .arr ∈ ps ∧ .slot ∈ ps ∧ .np ∈ ps ∧ .dma ∈ ps ∧ .meter ∈ ps ∧ .twin ∈ ps ∧
        .pwr ∈ ps ∧ .land ∈ ps ∧ .fw ∈ ps ∧ .held ∈ ps ∧ .flushes ∈ ps ∧ .qpGens ∈ ps ∧ .takerDone ∈ ps ∧ .stopped ∈ ps ∧
        .storm ∈ ps ∧ .flushAll ∈ ps ∧ .slots ∈ ps ∧ .ctrls ∈ ps) :
    s.Frame ps (overvoltageLockout u) ↔ s.Frame ps u := by
  simp [overvoltageLockout, h]

@[simp] theorem frame_overvoltageRelease (h : .pwr ∈ ps) : s.Frame ps (overvoltageRelease u) ↔ s.Frame ps u := by
  simp [overvoltageRelease, h]

@[simp] theorem frame_undervoltageLockout (h : .out ∈ ps ∧ .pwr ∈ ps) : s.Frame ps (undervoltageLockout u) ↔ s.Frame ps u := by
  simp [undervoltageLockout, h]

@[simp] theorem frame_inputRetry (h : .out ∈ ps ∧ .pwr ∈ ps) : s.Frame ps (inputRetry u) ↔ s.Frame ps u := by
  simp only [inputRetry]
  split <;> simp [h]

@[simp] theorem frame_stormWarning (x : StormCause)
    (h : .free ∈ ps ∧ .out ∈ ps ∧ .dict ∈ ps ∧ .sess ∈ ps ∧ .ev ∈ ps ∧ .rings ∈ ps ∧ .fab ∈ ps ∧ .eth ∈ ps ∧ .ptp ∈ ps ∧
        .rdma ∈ ps ∧ .nvme ∈ ps ∧ .sched ∈ ps ∧ .arr ∈ ps ∧ .slot ∈ ps ∧ .np ∈ ps ∧ .dma ∈ ps ∧ .meter ∈ ps ∧ .twin ∈ ps ∧
        .pwr ∈ ps ∧ .land ∈ ps ∧ .fw ∈ ps ∧ .held ∈ ps ∧ .flushes ∈ ps ∧ .qpGens ∈ ps ∧ .takerDone ∈ ps ∧ .stopped ∈ ps ∧
        .storm ∈ ps ∧ .flushAll ∈ ps ∧ .slots ∈ ps ∧ .ctrls ∈ ps) :
    s.Frame ps (stormWarning x u) ↔ s.Frame ps u := by
  simp [stormWarning, h]

@[simp] theorem State.frame_railsOff
    (h : .hbm ∈ ps ∧ .out ∈ ps ∧ .arr ∈ ps ∧ .np ∈ ps ∧ .meter ∈ ps ∧ .twin ∈ ps ∧ .pwr ∈ ps ∧ .land ∈ ps ∧ .linked ∈ ps ∧
        .mirror ∈ ps ∧ .groups ∈ ps) :
    s.Frame ps u.railsOff ↔ s.Frame ps u := by
  have hv := State.frame_npRestart (s := s) (u := u) (ps := ps) false (by simp [h])
  have ht : (u.npRestart false).twin = u.twin :=
    (State.frame_npRestart (s := u) (ps := [.np]) false (by simp)).2 (State.Frame.refl _ _) .twin (by simp)
  have hp : (u.npRestart false).pwr = u.pwr :=
    (State.frame_npRestart (s := u) (ps := [.np]) false (by simp)).2 (State.Frame.refl _ _) .pwr (by simp)
  simp only [State.railsOff]
  split
  · rw [State.frame_emit _ (by simp [h]), State.frame_mk (v := u.npRestart false) (by simp [h, ht, hp]), hv]
  · rw [State.frame_mk (v := u.npRestart false) (by simp [h, ht, hp]), hv]

@[simp] theorem State.frame_endCopy (result : Nat)
    (h : .hbm ∈ ps ∧ .out ∈ ps ∧ .dict ∈ ps ∧ .sess ∈ ps ∧ .ev ∈ ps ∧ .rings ∈ ps ∧ .arr ∈ ps ∧ .np ∈ ps ∧ .meter ∈ ps ∧
        .twin ∈ ps ∧ .pwr ∈ ps ∧ .land ∈ ps ∧ .linked ∈ ps ∧ .mirror ∈ ps ∧ .groups ∈ ps) :
    s.Frame ps (u.endCopy result) ↔ s.Frame ps u := by
  simp only [State.endCopy]
  split <;> simp [h]

@[simp] theorem frame_stormRestart (h : .out ∈ ps ∧ .pwr ∈ ps ∧ .storm ∈ ps) : s.Frame ps (stormRestart u) ↔ s.Frame ps u := by
  simp [stormRestart, h]

@[simp] theorem State.frame_slotFault (n cause : Nat)
    (h : .free ∈ ps ∧ .out ∈ ps ∧ .dict ∈ ps ∧ .sess ∈ ps ∧ .ev ∈ ps ∧ .rings ∈ ps ∧ .fab ∈ ps ∧ .eth ∈ ps ∧ .rdma ∈ ps ∧
        .nvme ∈ ps ∧ .sched ∈ ps ∧ .arr ∈ ps ∧ .slot ∈ ps ∧ .np ∈ ps ∧ .dma ∈ ps ∧ .meter ∈ ps ∧ .twin ∈ ps ∧ .pwr ∈ ps ∧
        .slots ∈ ps ∧ .ctrls ∈ ps ∧ .nss ∈ ps) :
    s.Frame ps (u.slotFault n cause) ↔ s.Frame ps u := by
  simp [State.slotFault, h, State.frame_each, State.frame_when]

@[simp] theorem frame_slotOverdrawCheck (n powerMw : Nat)
    (h : .out ∈ ps ∧ .dict ∈ ps ∧ .sess ∈ ps ∧ .ev ∈ ps ∧ .rings ∈ ps) :
    s.Frame ps (slotOverdrawCheck n powerMw u) ↔ s.Frame ps u := by
  simp only [slotOverdrawCheck]
  split_ifs <;> simp [h]

@[simp] theorem frame_capacitanceMeasurement (dropMv : Nat)
    (h : .out ∈ ps ∧ .dict ∈ ps ∧ .sess ∈ ps ∧ .ev ∈ ps ∧ .rings ∈ ps ∧ .pwr ∈ ps) :
    s.Frame ps (capacitanceMeasurement dropMv u) ↔ s.Frame ps u := by
  simp [capacitanceMeasurement, h]

@[simp] theorem frame_vaultTest (rate : Nat) (readOk : Bool)
    (h : .out ∈ ps ∧ .dict ∈ ps ∧ .sess ∈ ps ∧ .ev ∈ ps ∧ .rings ∈ ps ∧ .pwr ∈ ps) :
    s.Frame ps (vaultTest rate readOk u) ↔ s.Frame ps u := by
  simp [vaultTest, h]

@[simp] theorem frame_lullEntry (h : .out ∈ ps ∧ .dict ∈ ps ∧ .eth ∈ ps ∧ .pwr ∈ ps) :
    s.Frame ps (lullEntry u) ↔ s.Frame ps u := by
  simp only [lullEntry]
  split_ifs <;> simp [h, State.frame_each, State.frame_when]

@[simp] theorem frame_thaw (trigger : ThawTrigger) (h : .free ∈ ps ∧ .out ∈ ps ∧ .dict ∈ ps ∧ .eth ∈ ps ∧ .pwr ∈ ps) :
    s.Frame ps (thaw trigger u) ↔ s.Frame ps u := by
  simp [thaw, h]

@[simp] theorem frame_slotRewriteComplete (h : .dict ∈ ps ∧ .fw ∈ ps) : s.Frame ps (slotRewriteComplete u) ↔ s.Frame ps u := by
  simp only [slotRewriteComplete]
  split_ifs <;> simp [h]

@[simp] theorem frame_trialTimeExpiry (h : .out ∈ ps ∧ .dict ∈ ps ∧ .sess ∈ ps ∧ .ev ∈ ps ∧ .rings ∈ ps ∧ .fw ∈ ps) :
    s.Frame ps (trialTimeExpiry u) ↔ s.Frame ps u := by
  simp [trialTimeExpiry, h]

@[simp] theorem frame_thermalRestart (tj : Int) (h : .land ∈ ps) : s.Frame ps (thermalRestart tj u) ↔ s.Frame ps u := by
  simp [thermalRestart, h]

@[simp] theorem State.frame_released (n held : Nat) (h : .out ∈ ps ∧ .dict ∈ ps ∧ .sess ∈ ps ∧ .ev ∈ ps ∧ .rings ∈ ps) :
    s.Frame ps (u.released n held) ↔ s.Frame ps u := by
  simp [State.released, h]

end

end Sys2Proof.Machine
end

section
/-! SUPPORT. The objects that the machinery behind frames, queue pairs, commands, flushes and members keeps up to date: whatever it does
on the way, every other object reads as before. -/

namespace Sys2Proof.Machine

/-- The indices and sub-indices that the machinery writes; an empty list stands for every sub-index. -/
def Dict.worked : List (Nat × List Nat) :=
  [(0x2104, []), (0x210A, [0x2, 0x3]), (0x2111, [0x2]), (0x2122, [0x1, 0x2]), (0x2220, [0x3, 0x7, 0x8]), (0x2420, [0x3]),
   (0x3003, [0x4, 0x5, 0xE]), (0x3004, [0xA, 0xE]), (0x3120, [0x5, 0x6]), (0x3180, [0x5]), (0x3200, [0x1]), (0x3220, [0x5]),
   (0x3230, [0x9, 0xA]), (0x3238, []), (0x3270, []), (0x3280, [0x5]), (0x4011, [0x7]), (0x4020, [0x9]), (0x4050, []),
   (0x4051, [0x3, 0x4]), (0x4100, [0x3, 0x4, 0x7, 0x8]), (0x5001, [0x2, 0x5, 0x8, 0x9]), (0x5002, [0x2, 0x3, 0x4, 0x7]),
   (0x5010, [0x1, 0x5, 0x6, 0x7, 0x9]), (0x5011, [0x6]), (0x5030, [0x2, 0x3]), (0x5100, [0x2, 0x5, 0x6]),
   (0x5106, [0xB]), (0x5110, [0x2, 0x3, 0x4, 0x5, 0x6, 0x7]), (0x5111, [0x4]), (0x5121, []), (0x5200, [0xD]), (0x5341,
   [0x8])]

/-- The machinery does not write these objects. The performance counters are its own. -/
def Dict.off (i k : Nat) : Bool :=
  !(decide (0x6800 ≤ i % 65536 ∧ i % 65536 < 0x6C00) ||
    Dict.worked.any fun e => decide (e.1 = i % 65536) && (e.2.isEmpty || e.2.contains (k % 256)))

@[simp] theorem Dict.off_rows (k : Nat) : Dict.off 0x2104 k = false ∧ Dict.off 0x3238 k = false ∧ Dict.off 0x4050 k = false ∧ Dict.off 0x5121 k = false ∧
    Dict.off 0x3270 k = false := by
  simp [Dict.off, Dict.worked]

@[simp] theorem Dict.off_worked :
    Dict.off 0x210A 0x2 = false ∧ Dict.off 0x210A 0x3 = false ∧ Dict.off 0x2111 0x2 = false ∧ Dict.off 0x2122 0x1 = false ∧
    Dict.off 0x2122 0x2 = false ∧ Dict.off 0x2220 0x3 = false ∧ Dict.off 0x2220 0x7 = false ∧ Dict.off 0x2220 0x8 = false ∧
    Dict.off 0x2420 0x3 = false ∧ Dict.off 0x3003 0x4 = false ∧ Dict.off 0x3003 0x5 = false ∧ Dict.off 0x3003 0xE = false ∧
    Dict.off 0x3004 0xA = false ∧ Dict.off 0x3004 0xE = false ∧ Dict.off 0x3120 0x5 = false ∧ Dict.off 0x3120 0x6 = false ∧
    Dict.off 0x3230 0x9 = false ∧ Dict.off 0x3180 0x5 = false ∧ Dict.off 0x3200 0x1 = false ∧ Dict.off 0x3220 0x5 = false ∧
    Dict.off 0x3230 0xA = false ∧ Dict.off 0x3280 0x5 = false ∧ Dict.off 0x4051 0x3 = false ∧ Dict.off 0x5001 0x5 = false ∧
    Dict.off 0x5010 0x9 = false ∧ Dict.off 0x4011 0x7 = false ∧ Dict.off 0x4020 0x9 = false ∧ Dict.off 0x4051 0x4 = false ∧
    Dict.off 0x4100 0x3 = false ∧ Dict.off 0x4100 0x4 = false ∧ Dict.off 0x4100 0x7 = false ∧ Dict.off 0x4100 0x8 = false ∧
    Dict.off 0x5001 0x2 = false ∧ Dict.off 0x5001 0x8 = false ∧ Dict.off 0x5001 0x9 = false ∧ Dict.off 0x5002 0x2 = false ∧
    Dict.off 0x5002 0x3 = false ∧ Dict.off 0x5002 0x4 = false ∧ Dict.off 0x5002 0x7 = false ∧ Dict.off 0x5010 0x1 = false ∧
    Dict.off 0x5010 0x5 = false ∧ Dict.off 0x5010 0x6 = false ∧ Dict.off 0x5010 0x7 = false ∧ Dict.off 0x5011 0x6 = false ∧
    Dict.off 0x5030 0x2 = false ∧ Dict.off 0x5030 0x3 = false ∧ Dict.off 0x5100 0x2 = false ∧ Dict.off 0x5100 0x5 = false ∧
    Dict.off 0x5100 0x6 = false ∧ Dict.off 0x5106 0xB = false ∧ Dict.off 0x5110 0x2 = false ∧ Dict.off 0x5110 0x3 = false ∧
    Dict.off 0x5110 0x4 = false ∧ Dict.off 0x5110 0x5 = false ∧ Dict.off 0x5110 0x6 = false ∧ Dict.off 0x5110 0x7 = false ∧
    Dict.off 0x5111 0x4 = false ∧ Dict.off 0x5200 0xD = false ∧ Dict.off 0x5341 0x8 = false := by
  decide

@[simp] theorem Dict.off_perf (n k : Nat) : Dict.off (0x6800 + n % 1024) k = false := by
  have h : (0x6800 + n % 1024) % 65536 = 0x6800 + n % 1024 := by omega
  have h' : n % 1024 < 1024 := Nat.mod_lt _ (by omega)
  simp only [Dict.off, h, Bool.not_eq_false', Bool.or_eq_true, decide_eq_true_eq]
  exact .inl (by omega)

/-- Objects that the machinery does not write hold in `u` what they hold in `s`. -/
def State.Objs (s u : State) : Prop :=
  ∀ i r k, Dict.off i k = true → Tbl.find? u.dict.cur (objKey i r k) = Tbl.find? s.dict.cur (objKey i r k)

@[simp] theorem State.Objs.refl (s : State) : s.Objs s := fun _ _ _ _ => rfl

/-- Only the objects that differ after `u` matter. -/
theorem State.objs_congr {u v : State} (h : u.Objs v) (s : State) : s.Objs v ↔ s.Objs u :=
  ⟨fun hv i r k hi => (h i r k hi).symm.trans (hv i r k hi), fun hu i r k hi => (h i r k hi).trans (hu i r k hi)⟩

theorem State.objs_of_cur {u v : State} (h : v.dict.cur = u.dict.cur) (s : State) : s.Objs v ↔ s.Objs u :=
  State.objs_congr (fun i r k _ => by rw [h]) s

/-- What an operation of the machinery leaves of another object. -/
theorem State.val_of_objs {u v : State} (h : u.Objs v ↔ u.Objs u) (i r k : Nat) (hi : Dict.off i k = true := by rfl) :
    v.val i r k = u.val i r k := by
  simp only [State.val, h.2 (State.Objs.refl u) i r k hi]

theorem State.o_of_objs {u v : State} (h : u.Objs v ↔ u.Objs u) (i r k : Nat) (hi : Dict.off i k = true := by rfl) :
    v.o i r k = u.o i r k := by
  rw [State.o, State.val_of_objs h i r k hi, State.toNat_val]

@[simp] theorem State.objs_ite {s u v : State} {c : Prop} {_ : Decidable c} :
    s.Objs (if c then u else v) ↔ if c then s.Objs u else s.Objs v := by
  split <;> rfl

section
variable {s u : State}

@[simp] theorem State.objs_setVal (i r k : Nat) (x : Val) (h : Dict.off i k = false) : s.Objs (u.setVal i r k x) ↔ s.Objs u := by
  refine State.objs_congr (fun i' r' k' hi => Tbl.find?_set_of_ne _ _ fun e => ?_) s
  obtain ⟨hi', -, hk'⟩ := objKey_inj.1 e
  rw [Dict.off, ← hi', ← hk'] at hi
  rw [Dict.off, hi] at h
  cases h

@[simp] theorem State.objs_put (i r k n : Nat) (h : Dict.off i k = false) : s.Objs (u.put i r k n) ↔ s.Objs u :=
  State.objs_setVal i r k (.nat n) h

@[simp] theorem State.objs_add (i r k n : Nat) (h : Dict.off i k = false) : s.Objs (u.add i r k n) ↔ s.Objs u :=
  State.objs_put i r k _ h

@[simp] theorem State.objs_bump (i r k : Nat) (h : Dict.off i k = false) : s.Objs (u.bump i r k) ↔ s.Objs u :=
  State.objs_add i r k 1 h

@[simp] theorem State.objs_keepVal (i r k : Nat) (x : Val) (h : Dict.off i k = false) : s.Objs (u.keepVal i r k x) ↔ s.Objs u :=
  State.objs_setVal i r k x h

@[simp] theorem State.objs_setKeep (i r k : Nat) (x : Val) (h : Dict.off i k = false) : s.Objs (u.setKeep i r k x) ↔ s.Objs u := by
  obtain e | e := u.setKeep_eq_or i r k x
  · rw [e, State.objs_keepVal i r k x h]
  · rw [e, State.objs_setVal i r k x h]

@[simp] theorem State.objs_perf (n k : Nat) : s.Objs (u.perf n k) ↔ s.Objs u := State.objs_put _ _ _ _ (Dict.off_perf n 1)

@[simp] theorem State.objs_raise (e : Ev) (d : List Nat) : s.Objs (u.raise e d) ↔ s.Objs u := State.objs_of_cur (by simp) s

@[simp] theorem State.objs_emit (o : Out) : s.Objs (u.emit o) ↔ s.Objs u := State.objs_of_cur rfl s

@[simp] theorem State.objs_reply (j : Nat) (c : Abort) (x : Option Val) : s.Objs (u.reply j c x) ↔ s.Objs u :=
  State.objs_of_cur (by simp) s

/-- A state with new parts but the dictionary holds the same objects. -/
@[simp] theorem State.objs_mk (x0 : Nat) (x1 : List Instr) (x2 : List Host.Cell) (x3 : Nat) (x4 : Nat) (x5 : List Out) (x7 : SessState) (x8
    : EventState) (x9 : Tbl EventRing) (x10 : CoreState) (x11 : FabState) (x12 : EthState) (x13 : PtpState) (x14 :
    RdmaState) (x15 : NvmeState) (x16 : SchedState) (x17 : ArrayState) (x18 : SlotState) (x19 : Tbl NearPort) (x20
    : Tbl DmaChan) (x21 : MeterState) (x22 : TwinState) (x23 : PowerState) (x24 : LandState) (x25 : FwState) (v : State) :
    s.Objs ⟨x0, x1, x2, x3, x4, x5, v.dict, x7, x8, x9, x10, x11, x12, x13, x14, x15, x16, x17, x18, x19, x20, x21, x22, x23,
      x24, x25⟩ ↔
      s.Objs v := State.objs_of_cur rfl s

theorem State.objs_each {α : Type} {xs : List α} {f : State → α → State} (h : ∀ v a, s.Objs (f v a) ↔ s.Objs v) :
    s.Objs (u.each xs f) ↔ s.Objs u := by
  unfold State.each
  induction xs generalizing u with
  | nil => rfl
  | cons a xs ih => exact ih.trans (h u a)

theorem State.objs_when {c : Bool} {f : State → State} (h : s.Objs (f u) ↔ s.Objs u) : s.Objs (u.when c f) ↔ s.Objs u := by
  cases c
  · rfl
  · exact h

/-- An operation that leaves the dictionary leaves every object. -/
theorem State.objs_of_frame {v : State} {ps : List Part} (h : u.Frame ps v ↔ u.Frame ps u) (hp : .dict ∉ ps := by simp) :
    s.Objs v ↔ s.Objs u :=
  State.objs_of_cur (by rw [State.same_of_frame h .dict hp]) s

/-! The updates of one entry of a table leave the dictionary. -/

@[simp] theorem State.objs_setEg (j : Nat) (x : EgPort) : s.Objs (u.setEg j x) ↔ s.Objs u := State.objs_of_cur rfl s

@[simp] theorem State.objs_setPort (j : Nat) (x : EthPort) : s.Objs (u.setPort j x) ↔ s.Objs u := State.objs_of_cur rfl s

@[simp] theorem State.objs_setQp (j : Nat) (x : Qp) : s.Objs (u.setQp j x) ↔ s.Objs u := State.objs_of_cur rfl s

@[simp] theorem State.objs_setCmd (j : Nat) (x : Cmd) : s.Objs (u.setCmd j x) ↔ s.Objs u := State.objs_of_cur rfl s

@[simp] theorem State.objs_setArr (j : Nat) (x : ArrState) : s.Objs (u.setArr j x) ↔ s.Objs u := State.objs_of_cur rfl s

@[simp] theorem State.objs_setNport (j : Nat) (x : NearPort) : s.Objs (u.setNport j x) ↔ s.Objs u := State.objs_of_cur rfl s

@[simp] theorem State.objs_setSlot (j : Nat) (x : Slot) : s.Objs (u.setSlot j x) ↔ s.Objs u := State.objs_of_cur rfl s

@[simp] theorem State.objs_setChan (j : Nat) (x : DmaChan) : s.Objs (u.setChan j x) ↔ s.Objs u := State.objs_of_cur rfl s

@[simp] theorem State.objs_setCtrl (j : Nat) (x : Ctrl) : s.Objs (u.setCtrl j x) ↔ s.Objs u := State.objs_of_cur rfl s

@[simp] theorem State.objs_setMemQ (j : Nat) (x : MemberSched) : s.Objs (u.setMemQ j x) ↔ s.Objs u := State.objs_of_cur rfl s

@[simp] theorem State.objs_setMc (j : Nat) (x : MemberCmd) : s.Objs (u.setMc j x) ↔ s.Objs u := State.objs_of_cur rfl s

@[simp] theorem State.objs_setNs (j : Nat) (x : NsState) : s.Objs (u.setNs j x) ↔ s.Objs u := State.objs_of_cur rfl s

@[simp] theorem State.objs_setCage (j : Nat) (x : Cage) : s.Objs (u.setCage j x) ↔ s.Objs u := State.objs_of_cur rfl s

@[simp] theorem State.objs_setGate (j : Nat) (x : GatePort) : s.Objs (u.setGate j x) ↔ s.Objs u := State.objs_of_cur rfl s

@[simp] theorem State.objs_setSrc (j : Flow) (x : SrcFlow) : s.Objs (u.setSrc j x) ↔ s.Objs u := State.objs_of_cur rfl s

@[simp] theorem State.objs_setReseq (j : Flow) (x : Reseq) : s.Objs (u.setReseq j x) ↔ s.Objs u := State.objs_of_cur rfl s

@[simp] theorem State.objs_modArr (j : Nat) (f : ArrState → ArrState) : s.Objs (u.modArr j f) ↔ s.Objs u := State.objs_of_cur rfl s

@[simp] theorem State.objs_modSlot (j : Nat) (f : Slot → Slot) : s.Objs (u.modSlot j f) ↔ s.Objs u := State.objs_of_cur rfl s

@[simp] theorem State.objs_eraseCmd (j : Nat) : s.Objs (u.eraseCmd j) ↔ s.Objs u := State.objs_of_cur rfl s

@[simp] theorem State.objs_drawn : s.Objs u.drawn ↔ s.Objs u := State.objs_of_cur rfl s

@[simp] theorem State.objs_notIdle : s.Objs u.notIdle ↔ s.Objs u := State.objs_of_cur rfl s

@[simp] theorem State.objs_pfInterrupt (p v : Nat) : s.Objs (u.pfInterrupt p v) ↔ s.Objs u :=
  State.objs_of_frame (ps := [.out, .rings]) (State.frame_pfInterrupt p v (by simp))

end

end Sys2Proof.Machine
end

section
/-! SUPPORT. The operations that write no object but those of `Dict.worked`. -/

namespace Sys2Proof.Machine

section
variable {s u : State}

@[simp] theorem State.objs_refreshQueue (p k : Nat) : s.Objs (u.refreshQueue p k) ↔ s.Objs u := by
  simp only [State.refreshQueue]
  split <;> simp

@[simp] theorem State.objs_sendPfc (p : Nat) : s.Objs (u.sendPfc p) ↔ s.Objs u := by
  simp only [State.sendPfc]
  refine State.objs_each fun v a => ?_
  repeat' split
  all_goals simp [State.objs_each, State.objs_when]

@[simp] theorem State.objs_meterAddAt (ts : Int) (tenant m n : Nat) : s.Objs (u.meterAddAt ts tenant m n) ↔ s.Objs u := by
  simp [State.meterAddAt]

@[simp] theorem State.objs_meterAdd (tenant m n : Nat) : s.Objs (u.meterAdd tenant m n) ↔ s.Objs u := by
  simp [State.meterAdd]

@[simp] theorem State.objs_setLpi (p : Nat) (on : Bool) : s.Objs (u.setLpi p on) ↔ s.Objs u :=
  State.objs_of_frame (ps := [.out, .eth]) (State.frame_setLpi p on (by simp))

@[simp] theorem State.objs_writeSample (egress : Bool) (p : Nat) (f : Sys2Proof.Frame) (stomped : Bool) :
    s.Objs (u.writeSample egress p f stomped) ↔ s.Objs u := by
  simp [State.writeSample]

@[simp] theorem State.objs_sample (egress : Bool) (p : Nat) (f : Sys2Proof.Frame) (stomped : Bool) :
    s.Objs (u.sample egress p f stomped) ↔ s.Objs u := by
  simp only [State.sample]
  split_ifs <;> simp

@[simp] theorem State.objs_sendCopy (m : MirrorCopy) : s.Objs (u.sendCopy m) ↔ s.Objs u := by
  simp only [State.sendCopy]
  split_ifs <;> simp

@[simp] theorem State.objs_mirror (egress : Bool) (p : Nat) (f : Sys2Proof.Frame) (tenant cls : Nat) (stomped : Bool) :
    s.Objs (u.mirror egress p f tenant cls stomped) ↔ s.Objs u := by
  simp only [State.mirror]
  repeat' split
  all_goals simp [State.objs_each, State.objs_when]

@[simp] theorem State.objs_stampSent (i : Nat) (p : TxPkt) : s.Objs (u.stampSent i p) ↔ s.Objs u :=
  State.objs_of_frame (ps := [.rdma]) (State.frame_stampSent i p (by simp))

@[simp] theorem State.objs_class0Largest (lat : Nat) : s.Objs (u.class0Largest lat) ↔ s.Objs u := by
  simp only [State.class0Largest]
  rw [State.objs_put _ _ _ _ (by simp)]
  split
  · rfl
  · rw [State.objs_mk, State.objs_put _ _ _ _ (by simp), State.objs_put _ _ _ _ (by simp)]

@[simp] theorem State.objs_measureClass0 (id : Nat) : s.Objs (u.measureClass0 id) ↔ s.Objs u := by
  simp only [State.measureClass0]
  repeat' split
  all_goals simp [State.objs_each, State.objs_when]

@[simp] theorem State.objs_meterCompletion (c : Cmd) (sct sc : Nat) : s.Objs (u.meterCompletion c sct sc) ↔ s.Objs u := by
  simp only [State.meterCompletion]
  repeat' split
  all_goals simp [State.objs_each, State.objs_when]

@[simp] theorem State.objs_packetLeaves (i : Nat) (p : TxPkt) : s.Objs (u.packetLeaves i p) ↔ s.Objs u := by
  simp only [State.packetLeaves]
  repeat' split
  all_goals simp [State.objs_each, State.objs_when]

@[simp] theorem State.objs_startFrame (p : Nat) (f : EgFrame) : s.Objs (u.startFrame p f) ↔ s.Objs u := by
  simp only [State.startFrame]
  split <;> simp [State.objs_each, State.objs_when]

@[simp] theorem State.objs_serveQueue (p c k : Nat) : s.Objs (u.serveQueue p c k) ↔ s.Objs u := by
  simp only [State.serveQueue]
  split <;> simp [State.objs_each, State.objs_when]

@[simp] theorem State.objs_serveControl (p : Nat) : s.Objs (u.serveControl p) ↔ s.Objs u := by
  simp only [State.serveControl]
  split <;> simp

@[simp] theorem State.objs_serveMirror (p : Nat) : s.Objs (u.serveMirror p) ↔ s.Objs u := by
  simp only [State.serveMirror]
  split <;> simp

@[simp] theorem State.objs_syncLpi (p : Nat) : s.Objs (u.syncLpi p) ↔ s.Objs u :=
  State.objs_of_frame (ps := [.out, .eth]) (State.frame_syncLpi p (by simp))

@[simp] theorem State.objs_nextFrame (p : Nat) : s.Objs (u.nextFrame p) ↔ s.Objs u := by
  simp only [State.nextFrame]
  repeat' split
  all_goals simp [State.objs_each, State.objs_when]

@[simp] theorem State.objs_countFlushed (p : Nat) (f : EgFrame) : s.Objs (u.countFlushed p f) ↔ s.Objs u := by
  simp [State.countFlushed]

@[simp] theorem State.objs_meterClass0 (p : Nat) (f : EgFrame) : s.Objs (u.meterClass0 p f) ↔ s.Objs u := by
  simp [State.meterClass0]

@[simp] theorem State.objs_enqueue (p : Nat) (f : EgFrame) : s.Objs (u.enqueue p f) ↔ s.Objs u := by
  simp [State.enqueue]

@[simp] theorem State.objs_syncAcc (k : Nat) : s.Objs (u.syncAcc k) ↔ s.Objs u := by
  simp [State.syncAcc]

@[simp] theorem State.objs_syncSlot (n : Nat) : s.Objs (u.syncSlot n) ↔ s.Objs u := by
  simp [State.syncSlot]

@[simp] theorem State.objs_dmaHalt (c code addr : Nat) : s.Objs (u.dmaHalt c code addr) ↔ s.Objs u := by
  simp [State.dmaHalt]

@[simp] theorem State.objs_dmaReadLost (c run : Nat) : s.Objs (u.dmaReadLost c run) ↔ s.Objs u := by
  simp only [State.dmaReadLost]
  repeat' split
  all_goals simp [State.objs_each, State.objs_when]

@[simp] theorem State.objs_freeTags (n : Nat) : s.Objs (u.freeTags n) ↔ s.Objs u := by
  simp only [State.freeTags]
  refine State.objs_each fun v a => ?_
  repeat' split
  all_goals simp [State.objs_each, State.objs_when]

@[simp] theorem State.objs_sendNow (r : TwinRec) : s.Objs (u.sendNow r) ↔ s.Objs u := by
  simp [State.sendNow, State.objs_each, State.objs_when]

@[simp] theorem State.objs_sendRec (ty : RecType) (ctx : Nat) (ref : RecSeq) (bytes : Nat) (p : RecPayload) :
    s.Objs (u.sendRec ty ctx ref bytes p) ↔ s.Objs u := by
  simp [State.sendRec]

@[simp] theorem State.objs_touch (i : Nat) : s.Objs (u.touch i) ↔ s.Objs u := by
  simp only [State.touch]
  split <;> simp

@[simp] theorem State.objs_sendQpRec (i : Nat) (final : Bool) : s.Objs (u.sendQpRec i final) ↔ s.Objs u := by
  simp [State.sendQpRec]

@[simp] theorem State.objs_qpChanged (i : Nat) : s.Objs (u.qpChanged i) ↔ s.Objs u := by
  simp [State.qpChanged]

@[simp] theorem State.objs_sendPkt (i : Nat) (p : TxPkt) (retx : Bool) : s.Objs (u.sendPkt i p retx) ↔ s.Objs u := by
  simp [State.sendPkt, State.objs_each, State.objs_when]

@[simp] theorem State.objs_sendMsg (i : Nat) (m : SendMsg) : s.Objs (u.sendMsg i m) ↔ s.Objs u := by
  simp only [State.sendMsg]
  split <;> simp [State.objs_each, State.objs_when]

@[simp] theorem State.objs_gateHeld (m : SendMsg) : s.Objs (u.gateHeld m) ↔ s.Objs u :=
  State.objs_of_frame (ps := [.nvme]) (State.frame_gateHeld m (by simp))

@[simp] theorem State.objs_pump (i a : Nat) : s.Objs (u.pump i a) ↔ s.Objs u := by
  induction a generalizing u with
  | zero => rfl
  | succ a ih =>
    simp only [State.pump]
    split <;> simp [ih, State.objs_each, State.objs_when]

@[simp] theorem State.objs_pumpAll (i : Nat) : s.Objs (u.pumpAll i) ↔ s.Objs u := by
  simp [State.pumpAll]

@[simp] theorem State.objs_postMsg (i : Nat) (m : SendMsg) : s.Objs (u.postMsg i m) ↔ s.Objs u := by
  simp [State.postMsg]

@[simp] theorem State.objs_writeCqe (p v cq : Nat) (e : Cqe) : s.Objs (u.writeCqe p v cq e) ↔ s.Objs u :=
  State.objs_of_frame (ps := [.out, .np]) (State.frame_writeCqe p v cq e (by simp))

@[simp] theorem State.objs_complete (id sct sc dw0 : Nat) : s.Objs (u.complete id sct sc dw0) ↔ s.Objs u := by
  simp only [State.complete]
  repeat' split
  all_goals simp [State.objs_each, State.objs_when]

@[simp] theorem State.objs_deliverEvents (k a : Nat) : s.Objs (u.deliverEvents k a) ↔ s.Objs u := by
  induction a generalizing u with
  | zero => rfl
  | succ a ih =>
    simp only [State.deliverEvents]
    split <;> simp [ih, State.objs_each, State.objs_when]

@[simp] theorem State.objs_asyncEvent (k typ info log : Nat) : s.Objs (u.asyncEvent k typ info log) ↔ s.Objs u := by
  simp [State.asyncEvent]

@[simp] theorem State.objs_dropMc (k : Nat) : s.Objs (u.dropMc k) ↔ s.Objs u := by
  simp [State.dropMc]

@[simp] theorem State.objs_closeStream (k : Nat) : s.Objs (u.closeStream k) ↔ s.Objs u := by
  simp only [State.closeStream]
  repeat' split
  all_goals simp [State.objs_each, State.objs_when]

@[simp] theorem State.objs_setAcc (k : Nat) (x : Accum) : s.Objs (u.setAcc k x) ↔ s.Objs u :=
  State.objs_of_frame (ps := [.arr]) (State.frame_setAcc k x (by simp))

@[simp] theorem State.objs_closeCtx (c : Option Nat) : s.Objs (u.closeCtx c) ↔ s.Objs u := by
  simp only [State.closeCtx]
  split <;> simp

@[simp] theorem State.objs_stopReads (id : Nat) : s.Objs (u.stopReads id) ↔ s.Objs u := by
  simp [State.stopReads, State.objs_each, State.objs_when]

@[simp] theorem State.objs_enqMember (c : MemberCmd) : s.Objs (u.enqMember c) ↔ s.Objs u :=
  State.objs_of_frame (ps := [.sched, .slot]) (State.frame_enqMember c (by simp))

@[simp] theorem State.objs_leaveLpi : s.Objs u.leaveLpi ↔ s.Objs u :=
  State.objs_of_frame (ps := [.out, .eth]) (State.frame_leaveLpi (by simp))

@[simp] theorem State.objs_thawNow : s.Objs u.thawNow ↔ s.Objs u := by
  simp [State.thawNow]

@[simp] theorem State.objs_setRecon (rid : Nat) (x : Recon) : s.Objs (u.setRecon rid x) ↔ s.Objs u :=
  State.objs_of_frame (ps := [.arr]) (State.frame_setRecon rid x (by simp))

@[simp] theorem State.objs_issueRecon (rid : Nat) (x : Recon) (a : List Nat) :
    s.Objs (u.issueRecon rid x a) ↔ s.Objs u :=
  State.objs_of_frame (ps := [.sched, .arr, .slot]) (State.frame_issueRecon rid x a (by simp))

@[simp] theorem State.objs_openCtx (n : Nat) : s.Objs (u.openCtx n).2 ↔ s.Objs u := by
  simp only [State.openCtx]
  repeat' split
  all_goals simp

theorem State.objs_of_openCtx {v : State} {n : Nat} {k : Option Nat} (hv : u.openCtx n = (k, v)) :
    s.Objs v ↔ s.Objs u := by
  simpa [hv] using State.objs_openCtx (s := s) (u := u) n

@[simp] theorem State.objs_syncArounds (a : Nat) : s.Objs (u.syncArounds a) ↔ s.Objs u := by
  simp [State.syncArounds]

@[simp] theorem State.objs_eraseRecon (rid : Nat) : s.Objs (u.eraseRecon rid) ↔ s.Objs u := by
  simp only [State.eraseRecon]
  split <;> simp

@[simp] theorem State.objs_readMember (id off a addr len : Nat) (again : Bool) :
    s.Objs (u.readMember id off a addr len again) ↔ s.Objs u :=
  State.objs_of_frame (ps := [.sched, .slot]) (State.frame_readMember id off a addr len again (by simp))

@[simp] theorem State.objs_writeRecords (a : Nat) : s.Objs (u.writeRecords a) ↔ s.Objs u :=
  State.objs_of_frame (ps := [.free, .sched, .slot]) (State.frame_writeRecords a (by simp))

@[simp] theorem State.objs_loseRange (a addr len cause : Nat) : s.Objs (u.loseRange a addr len cause) ↔ s.Objs u := by
  simp only [State.loseRange]
  split <;> simp

@[simp] theorem State.objs_setFlush (a r : Nat) (f : Flush) : s.Objs (u.setFlush a r f) ↔ s.Objs u :=
  State.objs_of_frame (ps := [.arr]) (State.frame_setFlush a r f (by simp))

@[simp] theorem State.objs_syncDirty : s.Objs u.syncDirty ↔ s.Objs u := by
  simp [State.syncDirty, State.objs_each, State.objs_when]

@[simp] theorem State.objs_addReads (a r : Nat) (cs : List MemberCmd) : s.Objs (u.addReads a r cs) ↔ s.Objs u :=
  State.objs_of_frame (ps := [.sched, .arr, .slot]) (State.frame_addReads a r cs (by simp))

@[simp] theorem State.objs_issueReads (a r : Nat) (f : Flush) : s.Objs (u.issueReads a r f) ↔ s.Objs u := by
  simp [State.issueReads, State.objs_each, State.objs_when]

@[simp] theorem State.objs_jAppend (a : Nat) (r : JRec) : s.Objs (u.jAppend a r) ↔ s.Objs u :=
  State.objs_of_frame (ps := [.arr]) (State.frame_jAppend a r (by simp))

@[simp] theorem State.objs_openFlush (a r : Nat) (f : Flush) : s.Objs (u.openFlush a r f) ↔ s.Objs u := by
  simp [State.openFlush]

theorem State.objs_startFixed {v : State} {a r : Nat} {f : Flush} (hv : u.startFixed a r f = some v) : s.Objs v ↔ s.Objs u := by
  simp only [State.startFixed] at hv
  split at hv
  · have hc := State.objs_openCtx (s := s) (u := u) f.len
    split at hv
    · next w hw =>
      rw [hw] at hc
      obtain rfl := Option.some.inj hv
      simpa using hc
    · cases hv
  · cases hv

@[simp] theorem State.objs_tryRepairs (a : Nat) : s.Objs (u.tryRepairs a) ↔ s.Objs u :=
  State.objs_each fun v x => by
    split
    · next hv => simpa using State.objs_startFixed hv
    · rfl

@[simp] theorem State.objs_askRepair (a r p o n : Nat) (data : Content) :
    s.Objs (u.askRepair a r p o n data) ↔ s.Objs u := by
  simp [State.askRepair]

@[simp] theorem State.objs_loseStripe (a addr len : Nat) (out : List Nat) :
    s.Objs (u.loseStripe a addr len out) ↔ s.Objs u := by
  simp [State.loseStripe, State.objs_each, State.objs_when]

@[simp] theorem State.objs_readLost (id : Nat) : s.Objs (u.readLost id) ↔ s.Objs u := by
  simp only [State.readLost]
  split <;> simp

@[simp] theorem State.objs_planOn (rid : Nat) :
    s.Objs (u.planOn rid) ↔ s.Objs u := by
  simp only [State.planOn]
  split
  · rfl
  · split
    · split
      · simp
      · split
        · rfl
        · split
          · next hv => simp [State.objs_of_openCtx hv]
          · rfl
    · split
      · simp [State.objs_each]
      · split_ifs <;> simp [State.objs_each]

@[simp] theorem State.objs_reconAgain (i : Nat) (psn : Psn) (b : BlockSrc) (failed : List Nat) :
    s.Objs (u.reconAgain i psn b failed) ↔ s.Objs u := by
  simp [State.reconAgain]

@[simp] theorem State.objs_startRecon (id off a addr len : Nat) (failed : List Nat) (around : Option Nat) (repair : Bool) :
    s.Objs (u.startRecon id off a addr len failed around repair) ↔ s.Objs u := by
  simp [State.startRecon]

@[simp] theorem State.objs_syncPages : s.Objs u.syncPages ↔ s.Objs u := by
  simp [State.syncPages]

@[simp] theorem State.objs_archivePage (p : LedgerPage) :
    s.Objs (u.archivePage p) ↔ s.Objs u := by
  simp only [State.archivePage]
  rw [State.objs_syncPages, State.objs_each fun v q => by split_ifs <;> simp]
  simp

@[simp] theorem State.objs_syncAna (a : Nat) : s.Objs (u.syncAna a) ↔ s.Objs u := by
  simp [State.syncAna, State.objs_each, State.objs_when]

@[simp] theorem State.objs_syncSubs (a : Nat) : s.Objs (u.syncSubs a) ↔ s.Objs u := by
  simp [State.syncSubs]

@[simp] theorem State.objs_syncArray (a : Nat) : s.Objs (u.syncArray a) ↔ s.Objs u := by
  simp [State.syncArray]

@[simp] theorem State.objs_syncRoles (a : Nat) : s.Objs (u.syncRoles a) ↔ s.Objs u := by
  simp [State.syncRoles]

@[simp] theorem State.objs_writeSuperblock (a : Nat) : s.Objs (u.writeSuperblock a) ↔ s.Objs u :=
  State.objs_of_frame (ps := [.free, .sched, .arr, .slot]) (State.frame_writeSuperblock a (by simp))

@[simp] theorem State.objs_writeBlock (a : Nat) : s.Objs (u.writeBlock a) ↔ s.Objs u := by
  simp [State.writeBlock, State.objs_each, State.objs_when]

@[simp] theorem State.objs_syncWork (a : Nat) : s.Objs (u.syncWork a) ↔ s.Objs u := by
  simp only [State.syncWork]
  split <;> simp

@[simp] theorem State.objs_takeWork (a : Nat) : s.Objs (u.takeWork a) ↔ s.Objs u := by
  simp only [State.takeWork]
  split <;> simp

@[simp] theorem State.objs_clearSegs (a k : Nat) : s.Objs (u.clearSegs a k) ↔ s.Objs u :=
  State.objs_of_frame (ps := [.arr]) (State.frame_clearSegs a k (by simp))

@[simp] theorem State.objs_settleWork (a : Nat) (w : Work) : s.Objs (u.settleWork a w) ↔ s.Objs u := by
  simp only [State.settleWork]
  repeat' split
  all_goals simp [State.objs_each, State.objs_when]

@[simp] theorem State.objs_stepCursor (a : Nat) (w : Work) : s.Objs (u.stepCursor a w) ↔ s.Objs u := by
  simp [State.stepCursor]

@[simp] theorem State.objs_runWork (a n : Nat) :
    s.Objs (State.runWork a n u) ↔ s.Objs u := by
  induction n generalizing u with
  | zero => simp [State.runWork]
  | succ n ih =>
    unfold State.runWork
    extract_lets v
    have hv : s.Objs v ↔ s.Objs u := by
      unfold v
      split <;> simp
    rw [← hv]
    split
    · rfl
    · extract_lets r rs c
      by_cases h1 : (v.rowFresh a r || rs.isEmpty) = true
      · simp [h1, ih]
      · rw [if_neg h1]
        split
        · rfl
        · split
          · rfl
          · next hc => simp [State.objs_of_openCtx hc]

@[simp] theorem State.objs_kickWork (a : Nat) : s.Objs (u.kickWork a) ↔ s.Objs u := by
  simp [State.kickWork]

@[simp] theorem State.objs_dropMcs (ks : List Nat) : s.Objs (u.dropMcs ks) ↔ s.Objs u := by
  simp [State.dropMcs, State.objs_each, State.objs_when]

@[simp] theorem State.objs_tryClose (a r : Nat) : s.Objs (u.tryClose a r) ↔ s.Objs u := by
  simp only [State.tryClose]
  split <;> simp

@[simp] theorem State.objs_issueData (a r : Nat) (f : Flush) : s.Objs (u.issueData a r f) ↔ s.Objs u :=
  State.objs_of_frame (ps := [.sched, .arr, .slot]) (State.frame_issueData a r f (by simp))

@[simp] theorem State.objs_advanceFlush (a r : Nat) : s.Objs (u.advanceFlush a r) ↔ s.Objs u := by
  simp only [State.advanceFlush]
  split <;> simp [State.objs_each, State.objs_when]

@[simp] theorem State.objs_repeatFlush (a r : Nat) :
    s.Objs (u.repeatFlush a r) ↔ s.Objs u := by
  simp only [State.repeatFlush]
  split
  · rfl
  · split
    · next hv => simp [State.objs_of_openCtx hv]
    · simp

@[simp] theorem State.objs_unsend (id off len : Nat) : s.Objs (u.unsend id off len) ↔ s.Objs u :=
  State.objs_of_frame (ps := [.rdma]) (State.frame_unsend id off len (by simp))

@[simp] theorem State.objs_reconFail (rid pos : Nat) : s.Objs (u.reconFail rid pos) ↔ s.Objs u := by
  simp only [State.reconFail]
  split <;> simp

@[simp] theorem State.objs_flushReadFail (a r p : Nat) (bad : Bool) : s.Objs (u.flushReadFail a r p bad) ↔ s.Objs u := by
  simp only [State.flushReadFail]
  split <;> simp

@[simp] theorem State.objs_flushWritten (a r k : Nat) (dropped : Bool) :
    s.Objs (u.flushWritten a r k dropped) ↔ s.Objs u := by
  simp only [State.flushWritten]
  split <;> simp

@[simp] theorem State.objs_journalWritten (a seq copy : Nat) : s.Objs (u.journalWritten a seq copy) ↔ s.Objs u :=
  State.objs_of_frame (ps := [.arr]) (State.frame_journalWritten a seq copy (by simp))

@[simp] theorem State.objs_zeroWritten (a r k : Nat) : s.Objs (u.zeroWritten a r k) ↔ s.Objs u :=
  State.objs_of_frame (ps := [.arr]) (State.frame_zeroWritten a r k (by simp))

@[simp] theorem State.objs_resendFailed (i : Nat) (psn : Psn) : s.Objs (u.resendFailed i psn) ↔ s.Objs u := by
  simp only [State.resendFailed]
  split <;> simp

@[simp] theorem State.objs_memberFails (k : Nat) : s.Objs (u.memberFails k) ↔ s.Objs u := by
  simp only [State.memberFails]
  repeat' split
  all_goals simp [State.objs_each, State.objs_when]

@[simp] theorem State.objs_failArray (a m cause : Nat) : s.Objs (u.failArray a m cause) ↔ s.Objs u := by
  simp [State.failArray, State.objs_each, State.objs_when]

@[simp] theorem State.objs_flushJournal (a b : Nat) : s.Objs (u.flushJournal a b) ↔ s.Objs u := by
  induction b generalizing u with
  | zero => rfl
  | succ b ih =>
    simp only [State.flushJournal]
    split_ifs <;> simp [ih]

@[simp] theorem State.objs_reform (a m : Nat) : s.Objs (u.reform a m) ↔ s.Objs u := by
  simp [State.reform]

@[simp] theorem State.objs_loseMember (a m cause : Nat) : s.Objs (u.loseMember a m cause) ↔ s.Objs u := by
  simp only [State.loseMember]
  repeat' split
  all_goals simp [State.objs_each, State.objs_when]

@[simp] theorem State.objs_memberCause (a m cause : Nat) : s.Objs (u.memberCause a m cause) ↔ s.Objs u := by
  simp [State.memberCause]

@[simp] theorem State.objs_archiveAll : s.Objs u.archiveAll ↔ s.Objs u := by
  simp [State.archiveAll, State.objs_each, State.objs_when]

@[simp] theorem State.objs_queuePfc (p prio quanta : Nat) : s.Objs (u.queuePfc p prio quanta) ↔ s.Objs u := by
  simp [State.queuePfc]

@[simp] theorem State.objs_pushControl (p : Nat) (f : EgFrame) : s.Objs (u.pushControl p f) ↔ s.Objs u := by
  simp [State.pushControl]

@[simp] theorem State.objs_pauseEnds (p prio : Nat) : s.Objs (u.pauseEnds p prio) ↔ s.Objs u := by
  simp only [State.pauseEnds]
  split <;> simp

@[simp] theorem State.objs_flushEgress (p : Nat) : s.Objs (u.flushEgress p) ↔ s.Objs u := by
  simp only [State.flushEgress]
  split <;> split_ifs <;> simp [State.objs_each, State.objs_when]

@[simp] theorem State.objs_startFlush (p : Nat) : s.Objs (u.startFlush p) ↔ s.Objs u := by
  simp [State.startFlush]

@[simp] theorem State.objs_stompOpen (p : Nat) : s.Objs (u.stompOpen p) ↔ s.Objs u :=
  State.objs_of_frame (ps := [.eth]) (State.frame_stompOpen p (by simp))

@[simp] theorem State.objs_syncGate (p : Nat) : s.Objs (u.syncGate p) ↔ s.Objs u :=
  State.objs_of_frame (ps := [.sched]) (State.frame_syncGate p (by simp))

@[simp] theorem State.objs_syncGates : s.Objs u.syncGates ↔ s.Objs u := by
  simp [State.syncGates, State.objs_each, State.objs_when]

@[simp] theorem State.objs_startGates : s.Objs u.startGates ↔ s.Objs u :=
  State.objs_of_frame (ps := [.sched]) (State.frame_startGates (by simp))

@[simp] theorem State.objs_partnerViolation (p condition : Nat) (mac : Mac) :
    s.Objs (u.partnerViolation p condition mac) ↔ s.Objs u :=
  State.objs_of_frame (ps := [.ev]) (State.frame_partnerViolation p condition mac (by simp))

@[simp] theorem State.objs_checkFlap (p : Nat) : s.Objs (u.checkFlap p) ↔ s.Objs u :=
  State.objs_of_frame (ps := [.out, .sess, .ev, .rings, .eth]) (State.frame_checkFlap p (by simp))

@[simp] theorem State.objs_checkOversubscribed (p : Nat) : s.Objs (u.checkOversubscribed p) ↔ s.Objs u := by
  simp [State.checkOversubscribed]

@[simp] theorem State.objs_recheckGate (p : Nat) : s.Objs (u.recheckGate p) ↔ s.Objs u :=
  State.objs_of_frame (ps := [.out, .sess, .ev, .rings, .sched]) (State.frame_recheckGate p (by simp))

@[simp] theorem State.objs_forceHeadroom (p : Nat) : s.Objs (u.forceHeadroom p) ↔ s.Objs u :=
  State.objs_of_frame (ps := [.out, .sess, .ev, .rings, .eth]) (State.frame_forceHeadroom p (by simp))

@[simp] theorem State.objs_rerate (p : Nat) : s.Objs (u.rerate p) ↔ s.Objs u :=
  State.objs_setEg p _

@[simp] theorem State.objs_setLowPower (n : Nat) (low : Bool) : s.Objs (u.setLowPower n low) ↔ s.Objs u :=
  State.objs_of_frame (ps := [.out, .eth]) (State.frame_setLowPower n low (by simp))

@[simp] theorem State.objs_checkXoff (p prio : Nat) : s.Objs (u.checkXoff p prio) ↔ s.Objs u := by
  simp [State.checkXoff]

@[simp] theorem State.objs_recomputeHeadroom (p : Nat) : s.Objs (u.recomputeHeadroom p) ↔ s.Objs u :=
  State.objs_of_frame (ps := [.out, .sess, .ev, .rings, .eth]) (State.frame_recomputeHeadroom p (by simp))

@[simp] theorem State.objs_enqueueCtl (p len : Nat) (c : Ctl) : s.Objs (u.enqueueCtl p len c) ↔ s.Objs u := by
  simp [State.enqueueCtl]

@[simp] theorem State.objs_discardPrio (p prio : Nat) : s.Objs (u.discardPrio p prio) ↔ s.Objs u := by
  simp [State.discardPrio]

@[simp] theorem State.objs_discoveryChanged (a : Nat) : s.Objs (u.discoveryChanged a) ↔ s.Objs u := by
  simp [State.discoveryChanged, State.objs_each, State.objs_when]

@[simp] theorem State.objs_refreshDiscovery (old : State) :
    s.Objs (u.refreshDiscovery old) ↔ s.Objs u :=
  State.objs_each fun v a => by split_ifs <;> simp

@[simp] theorem State.objs_syncHost (a : Nat) : s.Objs (u.syncHost a) ↔ s.Objs u := by
  simp [State.syncHost]

@[simp] theorem State.objs_dropFrames (i : Nat) : s.Objs (u.dropFrames i) ↔ s.Objs u :=
  State.objs_of_frame (ps := [.sched]) (State.frame_dropFrames i (by simp))

@[simp] theorem State.objs_stopResends (i : Nat) : s.Objs (u.stopResends i) ↔ s.Objs u := by
  simp [State.stopResends, State.objs_each, State.objs_when]

@[simp] theorem State.objs_endCmd (id : Nat) : s.Objs (u.endCmd id) ↔ s.Objs u := by
  simp [State.endCmd]

@[simp] theorem State.objs_endQpCmds (i : Nat) : s.Objs (u.endQpCmds i) ↔ s.Objs u := by
  simp [State.endQpCmds, State.objs_each, State.objs_when]

@[simp] theorem State.objs_qpErrorEvents (q : Qp) (wire reason : Nat) (psn : Psn) (syndrome affected : Nat) :
    s.Objs (u.qpErrorEvents q wire reason psn syndrome affected) ↔ s.Objs u :=
  State.objs_of_frame (ps := [.out, .sess, .ev, .rings]) (State.frame_qpErrorEvents q wire reason psn syndrome affected (by simp))

@[simp] theorem State.objs_qpFail (i reason : Nat) (psn : Psn) (syndrome : Nat) (host : Bool) :
    s.Objs (u.qpFail i reason psn syndrome host) ↔ s.Objs u := by
  simp [State.qpFail]

@[simp] theorem State.objs_deleteCtrl (k : Nat) : s.Objs (u.deleteCtrl k) ↔ s.Objs u := by
  simp [State.deleteCtrl, State.objs_each, State.objs_when]

@[simp] theorem State.objs_qpGone (i : Nat) : s.Objs (u.qpGone i) ↔ s.Objs u := by
  simp only [State.qpGone]
  split <;> simp

@[simp] theorem State.objs_qpDown (i reason : Nat) (psn : Psn) (syndrome : Nat) :
    s.Objs (u.qpDown i reason psn syndrome) ↔ s.Objs u := by
  simp [State.qpDown]

@[simp] theorem State.objs_succeed (id : Nat) : s.Objs (u.succeed id) ↔ s.Objs u := by
  simp [State.succeed]

@[simp] theorem State.objs_dropSectors (a b c : Nat) : s.Objs (u.dropSectors a b c) ↔ s.Objs u :=
  State.objs_of_frame (ps := [.arr]) (State.frame_dropSectors a b c (by simp))

@[simp] theorem State.objs_settleWrites : s.Objs u.settleWrites ↔ s.Objs u := by
  simp [State.settleWrites, State.objs_each, State.objs_when]

@[simp] theorem State.objs_retireClean (a : Nat) : s.Objs (u.retireClean a) ↔ s.Objs u := by
  simp [State.retireClean]

@[simp] theorem objs_applyQp (st : Stage) (x : State) : s.Objs (applyQp st x u) ↔ s.Objs u := by
  simp [applyQp]

@[simp] theorem State.objs_syncNsState (r : Nat) : s.Objs (u.syncNsState r) ↔ s.Objs u := by
  simp [State.syncNsState]

@[simp] theorem State.objs_startErase (r : Nat) (cmd : Option Nat) (deleting : Bool) (sc : Nat) :
    s.Objs (u.startErase r cmd deleting sc) ↔ s.Objs u := by
  simp [State.startErase, State.objs_each, State.objs_when]

end

end Sys2Proof.Machine
end

section
/-! SUPPORT. Commits of row windows (16 R559): what the stored row reads, and the effect of a commit that passes its checks. -/

namespace Sys2Proof.Machine

/-- An event stands in the log of a state with the same log. -/
theorem State.told_of_ev {u v : State} {e : Ev} {d : List Nat} (h : u.ev = v.ev) (hv : v.told e d) : u.told e d := by
  rw [State.told, h]
  exact hv

/-- A state with new parts but the dictionary reads the same. -/
@[simp] theorem State.objects_mk (x0 : Nat) (x1 : List Instr) (x2 : List Host.Cell) (x3 : Nat) (x4 : Nat) (x5 : List Out) (x7 : SessState) (x8
    : EventState) (x9 : Tbl EventRing) (x10 : CoreState) (x11 : FabState) (x12 : EthState) (x13 : PtpState) (x14 :
    RdmaState) (x15 : NvmeState) (x16 : SchedState) (x17 : ArrayState) (x18 : SlotState) (x19 : Tbl NearPort) (x20
    : Tbl DmaChan) (x21 : MeterState) (x22 : TwinState) (x23 : PowerState) (x24 : LandState) (x25 : FwState) (v : State) :
    v.KeepsObjects ⟨x0, x1, x2, x3, x4, x5, v.dict, x7, x8, x9, x10, x11, x12, x13, x14, x15, x16, x17, x18, x19, x20, x21,
      x22, x23, x24, x25⟩ :=
  State.keepsObjects_of_dict rfl

@[simp] theorem State.drawn_objects (s : State) : s.KeepsObjects s.drawn := State.keepsObjects_of_dict rfl

@[simp] theorem State.emit_objects (s : State) (o : Out) : s.KeepsObjects (s.emit o) := State.keepsObjects_of_dict rfl

/-- A value that is written moves no generation. -/
@[simp] theorem State.gen_setVal (s : State) (i r k w row : Nat) (x : Val) :
    (s.setVal i r k x).gen w row = s.gen w row ∧ (s.keepVal i r k x).gen w row = s.gen w row := ⟨rfl, rfl⟩

@[simp] theorem State.gen_put (s : State) (i r k n w row : Nat) :
    (s.put i r k n).gen w row = s.gen w row ∧ (s.add i r k n).gen w row = s.gen w row ∧ (s.bump i r k).gen w row = s.gen w row :=
  ⟨rfl, rfl, rfl⟩

@[simp] theorem State.gen_at (s : State) (t w row : Nat) : (s.at t).gen w row = s.gen w row := rfl

/-- A commit of the window stores this field of the row. -/
def Dict.stores (win k : Nat) : Bool := (Dict.staged win).any fun e => decide (e.2.acc ≠ .wo) && decide (e.1 = k)

set_option maxRecDepth 20000 in
/-- A sub-index is a byte. -/
theorem Dict.table_lt : (Dict.table.all fun e => e.2.2.all fun f => decide (f.2.1 < 256)) = true := by decide

theorem Dict.mem_expand {d : Desc} {n lo : Nat} {e : Nat × Desc} (h : e ∈ Dict.expand d lo n) : lo ≤ e.1 ∧ e.1 < lo + n := by
  induction n generalizing lo with
  | zero => cases h
  | succ n ih =>
    obtain rfl | h := List.mem_cons.1 h
    · exact ⟨le_rfl, Nat.lt_add_of_pos_right n.succ_pos⟩
    · have := ih h
      omega

theorem Dict.staged_lt {win : Nat} {e : Nat × Desc} (he : e ∈ Dict.staged win) : e.1 < 256 := by
  unfold Dict.staged at he
  split at he
  · cases he
  · next fs hfs =>
    obtain ⟨⟨i, w, gs⟩, hi, hgs⟩ := Option.map_eq_some_iff.1 hfs
    obtain rfl : gs = fs := by cases hgs; rfl
    obtain ⟨f, hf, he⟩ := List.mem_flatMap.1 (List.mem_filter.1 he).1
    have hlt := Dict.mem_expand he
    have h256 : f.2.1 < 256 := by
      have := List.all_eq_true.1 Dict.table_lt _ (List.mem_of_find?_eq_some hi)
      exact of_decide_eq_true (List.all_eq_true.1 this f hf)
    omega

section
variable (s : State) (win : Nat) (st : Stage)

/-- A field of a row that is stored. -/
abbrev State.storeField (s : State) (win : Nat) (st : Stage) (e : Nat × Desc) : State :=
  if e.2.acc = .wo then s
  else if e.2.keep then s.keepVal win st.row e.1 (st.val e.1) else s.setVal win st.row e.1 (st.val e.1)

theorem State.val_storeField (e : Nat × Desc) (he : e.1 < 256) (i r k : Nat) :
    (s.storeField win st e).val i r k = if objKey win st.row 0 = objKey i r 0 ∧ e.2.acc ≠ .wo ∧ e.1 = k % 256 then st.val (k % 256)
      else s.val i r k := by
  have hkey : objKey win st.row e.1 = objKey i r k ↔ objKey win st.row 0 = objKey i r 0 ∧ e.1 = k % 256 := by
    simp only [objKey_inj, Nat.mod_eq_of_lt he]
    tauto
  have hv : (s.storeField win st e).val i r k =
      if e.2.acc = .wo then s.val i r k else if objKey win st.row e.1 = objKey i r k then st.val e.1 else s.val i r k := by
    unfold State.storeField
    split
    · rfl
    · split
      · exact State.val_keepVal ..
      · exact State.val_setVal ..
  rw [hv]
  by_cases hwo : e.2.acc = .wo
  · simp [hwo]
  · by_cases hk : objKey win st.row 0 = objKey i r 0 ∧ e.1 = k % 256
    · rw [if_neg hwo, if_pos (hkey.2 hk), if_pos ⟨hk.1, hwo, hk.2⟩, hk.2]
    · rw [if_neg hwo, if_neg (mt hkey.1 hk), if_neg fun h => hk ⟨h.1, h.2.2⟩]

theorem State.val_each_storeField {es : List (Nat × Desc)} (hes : ∀ e ∈ es, e.1 < 256) (i r k : Nat) :
    (s.each es fun s e => s.storeField win st e).val i r k =
      if objKey win st.row 0 = objKey i r 0 ∧ (es.any fun e => decide (e.2.acc ≠ .wo) && decide (e.1 = k % 256)) = true
      then st.val (k % 256) else s.val i r k := by
  induction es generalizing s with
  | nil => simp [State.each]
  | cons e es ih =>
    rw [show s.each (e :: es) (fun s e => s.storeField win st e) = (s.storeField win st e).each es fun s e => s.storeField win st e from rfl,
      ih _ fun e he => hes e (List.mem_cons_of_mem _ he), State.val_storeField s win st e (hes e List.mem_cons_self)]
    simp only [List.any_cons, Bool.or_eq_true, Bool.and_eq_true, decide_eq_true_eq]
    split_ifs <;> grind

/-- The stored row reads what was staged; every other object reads as before. -/
theorem State.val_storeRow (i r k : Nat) :
    (s.storeRow win st).val i r k =
      if objKey win st.row 0 = objKey i r 0 ∧ Dict.stores win (k % 256) = true then st.val (k % 256) else s.val i r k :=
  State.val_each_storeField s win st (fun _ he => Dict.staged_lt he) i r k

theorem State.o_storeRow (i r k : Nat) :
    (s.storeRow win st).o i r k =
      if objKey win st.row 0 = objKey i r 0 ∧ Dict.stores win (k % 256) = true then st.n (k % 256) else s.o i r k := by
  rw [State.o, State.val_storeRow]
  split <;> rfl

/-- A row that was stored has the next generation. -/
@[simp] theorem State.gen_storeRow : (s.storeRow win st).gen win st.row = (s.gen win st.row + 1) % 2 ^ 32 := by
  have : ∀ es : List (Nat × Desc), (s.each es fun s e => s.storeField win st e).dict.gens = s.dict.gens := fun es => by
    induction es generalizing s with
    | nil => rfl
    | cons e es ih =>
      refine (ih _).trans ?_
      simp only [State.storeField]
      split
      · rfl
      · split <;> rfl
  simp only [State.gen, State.storeRow, Tbl.get_set, if_pos]
  exact congrArg (fun g => (Tbl.get 0 g _ + 1) % 2 ^ 32) (this _)

/-- Only objects and a generation change where a row is stored. -/
@[simp] theorem State.storeRow_units :
    s.KeepsUnits (s.storeRow win st) ∧ (s.storeRow win st).np = s.np ∧ (s.storeRow win st).free = s.free ∧
      (s.storeRow win st).ev = s.ev ∧ (s.storeRow win st).out = s.out ∧ (s.storeRow win st).sess = s.sess ∧
      (s.storeRow win st).rings = s.rings := by
  have h := State.frame_storeRow (s := s) (u := s) (ps := [.dict, .dictGens]) win st (by simp)
  have hs := fun p hp => State.same_of_frame h p hp
  exact ⟨⟨hs .now (by simp), hs .pending (by simp), hs .hbm (by simp), hs .vcore (by simp), hs .core (by simp), hs .fab (by simp),
    hs .eth (by simp), hs .ptp (by simp), hs .rdma (by simp), hs .nvme (by simp), hs .sched (by simp), hs .arr (by simp),
    hs .slot (by simp), hs .dma (by simp), hs .meter (by simp), hs .twin (by simp), hs .pwr (by simp), hs .land (by simp),
    hs .fw (by simp)⟩, hs .np (by simp), hs .free (by simp), hs .ev (by simp), hs .out (by simp), hs .sess (by simp),
    hs .rings (by simp)⟩

@[simp] theorem State.storeRow_reads :
    s.KeepsReads (s.storeRow win st) ∧ (∀ j, (s.storeRow win st).nport j = s.nport j) ∧
      ∀ j, (s.storeRow win st).session? j = s.session? j :=
  ⟨State.keepsReads_of_keepsUnits (State.storeRow_units s win st).1, fun j => by simp [State.nport],
    fun j => by simp [State.session?]⟩

variable (sess : Nat) (app : Stage → State → State → State)

/-- Applying a commit stores the row, runs the window's own effect, and reads the stage again. -/
theorem State.applyCommit_eq :
    ∃ tbl, s.applyCommit sess win st app =
      { app st s (s.storeRow win st) with sess := { (app st s (s.storeRow win st)).sess with tbl := tbl } } := by
  unfold State.applyCommit
  dsimp only
  split
  · exact ⟨_, rfl⟩
  · exact ⟨_, rfl⟩

@[simp] theorem State.applyCommit_units :
    (app st s (s.storeRow win st)).KeepsUnits (s.applyCommit sess win st app) ∧
      (s.applyCommit sess win st app).np = (app st s (s.storeRow win st)).np ∧
      (s.applyCommit sess win st app).free = (app st s (s.storeRow win st)).free ∧
      (s.applyCommit sess win st app).ev = (app st s (s.storeRow win st)).ev ∧
      (s.applyCommit sess win st app).out = (app st s (s.storeRow win st)).out ∧
      (s.applyCommit sess win st app).rings = (app st s (s.storeRow win st)).rings := by
  obtain ⟨tbl, h⟩ := s.applyCommit_eq win st sess app
  rw [h]
  simp [State.KeepsUnits]

@[simp] theorem State.applyCommit_reads :
    (app st s (s.storeRow win st)).KeepsReads (s.applyCommit sess win st app) ∧
      (app st s (s.storeRow win st)).KeepsObjects (s.applyCommit sess win st app) ∧
      ∀ j, (s.applyCommit sess win st app).nport j = (app st s (s.storeRow win st)).nport j := by
  refine ⟨State.keepsReads_of_keepsUnits (State.applyCommit_units s win st sess app).1, State.keepsObjects_of_dict ?_,
    fun j => by simp [State.nport]⟩
  obtain ⟨tbl, h⟩ := s.applyCommit_eq win st sess app
  rw [h]

/-- A commit moves the parts that the window's own effect moves, and sessions. -/
theorem State.frame_applyCommit_of {ps : List Part} {u : State} (h : .sess ∈ ps)
    (ha : u.Frame ps (app st s (s.storeRow win st))) : u.Frame ps (s.applyCommit sess win st app) := by
  obtain ⟨tbl, htbl⟩ := s.applyCommit_eq win st sess app
  rw [htbl]
  simpa [h] using ha

/-- A commit that is no shelf setting moves no generation of the twin. -/
@[simp] theorem State.configStep_of_not_shelf {s : State} {i k : Nat} (h : isShelfSetting i k = false) : s.configStep i k = s := by
  simp [State.configStep, h]

end

/-- A commit that a session may make and that no peer has to confirm is applied and answered with 0. -/
theorem State.commitAs_taken {s : State} {sess win : Nat} {chk : Session → Stage → State → Abort} {app : Stage → State → State → State}
    (hm : s.mayCommit sess win chk = true) (hh : (s.paired && isShelfSetting win 0) = false) :
    s.commitAs sess win 1 chk app = ((s.applyCommit sess win (s.staged sess win) app).configStep win 0).reply sess 0 := by
  unfold State.mayCommit at hm
  unfold State.staged
  cases hx : s.session? sess with
  | none => simp [hx] at hm
  | some x =>
    simp only [hx, Bool.and_eq_true, decide_eq_true_eq] at hm
    obtain ⟨⟨hc, hk⟩, ho⟩ := hm
    have h0 : firstCode (s.commitCodes x win 1 (s.stage x win) ++
        [chk x (s.stage x win) s, s.storeCode (s.changesKept win (s.stage x win))]) = 0 := by
      refine firstCode_eq_zero.2 fun c hmem => ?_
      obtain hmem | hmem := List.mem_append.1 hmem
      · exact firstCode_eq_zero.1 hc c hmem
      · simp only [List.mem_cons, List.not_mem_nil, or_false] at hmem
        obtain rfl | rfl := hmem
        · exact hk
        · simp [State.storeCode, need, ho]
    rw [State.commitAs, State.withSession_some _ hx]
    dsimp only
    rw [if_pos h0, hh]
    rfl

/-- So is one of a slot's power, where no third member would be lost. -/
theorem State.powerCommit_taken {s : State} {sess win : Nat} {off : Stage → State → Bool} {app : Stage → State → State → State}
    (hm : s.mayCommit sess win (fun _ _ _ => 0) = true)
    (hoff : off (s.staged sess win) s = true → s.paired = false ∧ s.slotThirdLoss (s.staged sess win).row = false) :
    s.powerCommit sess win off app = (s.applyCommit sess win (s.staged sess win) app).reply sess 0 := by
  unfold State.mayCommit at hm
  revert hoff
  unfold State.staged
  cases hx : s.session? sess with
  | none => simp [hx] at hm
  | some x =>
    simp only [hx, Bool.and_eq_true, decide_eq_true_eq] at hm
    obtain ⟨⟨hc, -⟩, ho⟩ := hm
    dsimp only
    intro hoff
    have h0 : firstCode (s.commitCodes x win 1 (s.stage x win) ++
        [need (!(off (s.stage x win) s && s.slotThirdLoss (s.stage x win).row)) abState,
          s.storeCode (s.changesKept win (s.stage x win))]) = 0 := by
      refine firstCode_eq_zero.2 fun c hmem => ?_
      obtain hmem | hmem := List.mem_append.1 hmem
      · exact firstCode_eq_zero.1 hc c hmem
      · simp only [List.mem_cons, List.not_mem_nil, or_false] at hmem
        obtain rfl | rfl := hmem
        · cases h : off (s.stage x win) s <;> simp [h, need] at hoff ⊢
          simp [hoff]
        · simp [State.storeCode, need, ho]
    have hp : (s.paired && off (s.stage x win) s) = false := by
      cases h : off (s.stage x win) s <;> simp [h] at hoff ⊢
      exact hoff.1
    rw [State.powerCommit, State.withSession_some _ hx]
    dsimp only
    rw [if_pos h0, hp]
    rfl

theorem done_commitAs {i : Instr} {s : State} {t : Nat} {ok : Bool} {sess win : Nat} {chk : Session → Stage → State → Abort}
    {app : Stage → State → State → State} {Q : State → Prop}
    (hi : exec i s = act t ok s fun s => s.commitAs sess win 1 chk app) (hok : ok = true) (hp : s.railsOn)
    (hm : (s.at t).mayCommit sess win chk = true) (hh : (s.paired && isShelfSetting win 0) = false)
    (h : ∀ u, u = s.after t ((((s.at t).applyCommit sess win (s.staged sess win) app).configStep win 0).reply sess 0) → Q u) :
    Done i s Q :=
  done_act hi hok hp fun u hu => h u (by rw [hu, State.commitAs_taken hm hh]; rfl)

theorem done_powerCommit {i : Instr} {s : State} {t : Nat} {ok : Bool} {sess win : Nat} {off : Stage → State → Bool}
    {app : Stage → State → State → State} {Q : State → Prop}
    (hi : exec i s = act t ok s fun s => s.powerCommit sess win off app) (hok : ok = true) (hp : s.railsOn)
    (hm : (s.at t).mayCommit sess win (fun _ _ _ => 0) = true)
    (hoff : off (s.staged sess win) (s.at t) = true → s.paired = false ∧ (s.at t).slotThirdLoss (s.staged sess win).row = false)
    (h : ∀ u, u = s.after t (((s.at t).applyCommit sess win (s.staged sess win) app).reply sess 0) → Q u) : Done i s Q :=
  done_act hi hok hp fun u hu => h u (by rw [hu, State.powerCommit_taken hm hoff]; rfl)

/-- A commit of a slot's power moves what its own effect moves, and what every answer moves. -/
theorem State.frame_powerCommitted {ps : List Part} {s u : State} {t sess win : Nat} {st : Stage} {app : Stage → State → State → State}
    (hu : u = s.after t (((s.at t).applyCommit sess win st app).reply sess 0)) (hps : Part.logs ++ [.np] ⊆ ps)
    (ha : s.Frame ps (app st (s.at t) ((s.at t).storeRow win st))) : s.Frame ps u := by
  have hl : ∀ p ∈ Part.logs ++ [.np], p ∈ ps := fun p hp => hps hp
  simp only [Part.logs, List.cons_append, List.nil_append, List.forall_mem_cons] at hl
  have h := State.frame_applyCommit_of (s.at t) win st sess app (by simp [hl]) ha
  rw [hu]
  exact State.frame_after t _ _ hl.1 (.inl rfl) (.inl rfl) (.inl rfl) ((State.frame_reply sess 0 none (by simp [hl])).2 h)

/-- A generation of a window is kept outside the parts of a frame. -/
theorem State.gen_of_frame {u v : State} {ps : List Part} (h : u.Frame ps v ↔ u.Frame ps u) (hg : .dictGens ∉ ps := by simp)
    (w r : Nat) : v.gen w r = u.gen w r := by
  rw [State.gen, State.same_of_frame h .dictGens hg, State.gen]

end Sys2Proof.Machine
end

section
/-! SUPPORT. What a drive that goes leaves: its slot, the objects, and the parts of the state. -/

namespace Sys2Proof.Machine

@[simp] theorem State.slotS_modSlot (s : State) (n m : Nat) (f : Slot → Slot) :
    (s.modSlot n f).slotS m = if n = m then f (s.slotS n) else s.slotS m := State.slotS_setSlot ..

@[simp] theorem State.modSlot_units (s : State) (n : Nat) (f : Slot → Slot) :
    (s.modSlot n f).now = s.now ∧ (s.modSlot n f).pending = s.pending ∧ (s.modSlot n f).hbm = s.hbm ∧ (s.modSlot n f).vcore =
      s.vcore ∧ (s.modSlot n f).free = s.free ∧ (s.modSlot n f).out = s.out ∧ (s.modSlot n f).dict = s.dict ∧ (s.modSlot n f).sess
      = s.sess ∧ (s.modSlot n f).ev = s.ev ∧ (s.modSlot n f).rings = s.rings ∧ (s.modSlot n f).core = s.core ∧ (s.modSlot n f).fab
      = s.fab ∧ (s.modSlot n f).eth = s.eth ∧ (s.modSlot n f).ptp = s.ptp ∧ (s.modSlot n f).rdma = s.rdma ∧ (s.modSlot n f).nvme =
      s.nvme ∧ (s.modSlot n f).sched = s.sched ∧ (s.modSlot n f).arr = s.arr ∧ (s.modSlot n f).np = s.np ∧ (s.modSlot n f).dma =
      s.dma ∧ (s.modSlot n f).meter = s.meter ∧ (s.modSlot n f).twin = s.twin ∧ (s.modSlot n f).pwr = s.pwr ∧ (s.modSlot n f).land
      = s.land ∧ (s.modSlot n f).fw = s.fw :=
  ⟨rfl, rfl, rfl, rfl, rfl, rfl, rfl, rfl, rfl, rfl, rfl, rfl, rfl, rfl, rfl, rfl, rfl, rfl, rfl, rfl, rfl, rfl, rfl, rfl, rfl⟩

@[simp] theorem State.modSlot_objects (s : State) (n : Nat) (f : Slot → Slot) : s.KeepsObjects (s.modSlot n f) :=
  State.keepsObjects_of_dict rfl

/-- The slots are kept outside the parts of a frame. -/
theorem State.slotS_of_frame {u v : State} {ps : List Part} (h : u.Frame ps v ↔ u.Frame ps u) (hg : .slots ∉ ps := by simp)
    (n : Nat) : v.slotS n = u.slotS n := by
  rw [State.slotS, State.same_of_frame h .slots hg, State.slotS]

/-- A slot whose drive has gone. -/
def Slot.gone (x : Slot) : Slot :=
  { x with
    linkUp := false, linkAt := none, ladder := none, askPeer := none, waitsTwin := false, bars := [], link := none
    setup := none, bme := false, adminAbort := none, smartAsked := none, smartLate := false, smartAt := none }

/-- The arrays and the member commands of a drive that goes. -/
def State.dropMembers (s : State) (n : Nat) : State :=
  let s := match s.memberIn n with
    | some (a, m) => s.memberCause a m 1
    | none => s
  let ks := ((s.slotCmds n).filter fun e => !e.2.dead).map Prod.fst
  let s := s.each ks State.memberFails
  s.each ((s.slotCmds n).map Prod.fst) State.dropMc

theorem State.driveGone_eq (s : State) (n st : Nat) :
    s.driveGone n st =
      let v := ((((((s.freeTags n).modSlot n Slot.gone).put 0x5200 n 2 st).put 0x5200 n 3 0).dropMembers n).put 0x5200 n 4 0).put 0x5200 n 5 0
      if s.slotState n = 0 then v else v.raise .driveGone [n, s.slotState n] := rfl

section
variable (s : State) (n : Nat)

theorem State.frame_dropMembers {ps : List Part} {s u : State}
    (h : .free ∈ ps ∧ .out ∈ ps ∧ .dict ∈ ps ∧ .sess ∈ ps ∧ .ev ∈ ps ∧ .rings ∈ ps ∧ .fab ∈ ps ∧ .eth ∈ ps ∧ .rdma ∈ ps ∧ .nvme ∈ ps ∧
      .sched ∈ ps ∧ .arr ∈ ps ∧ .slot ∈ ps ∧ .np ∈ ps ∧ .meter ∈ ps ∧ .twin ∈ ps ∧ .pwr ∈ ps ∧ .ctrls ∈ ps ∧ .nss ∈ ps) :
    s.Frame ps (u.dropMembers n) ↔ s.Frame ps u := by
  unfold State.dropMembers
  extract_lets v ks w
  have hv : s.Frame ps v ↔ s.Frame ps u := by
    unfold v
    split <;> simp [h]
  simp [w, h, hv, State.frame_each]

@[simp] theorem State.slotS_dropMembers (m : Nat) : (s.dropMembers n).slotS m = s.slotS m :=
  State.slotS_of_frame (State.frame_dropMembers (ps := [.free, .out, .dict, .sess, .ev, .rings, .fab, .eth, .rdma, .nvme, .sched, .arr,
    .slot, .np, .meter, .twin, .pwr, .ctrls, .nss]) n (by simp)) (by simp) m

theorem State.objs_dropMembers {s u : State} : s.Objs (u.dropMembers n) ↔ s.Objs u := by
  unfold State.dropMembers
  extract_lets v ks w
  have hv : s.Objs v ↔ s.Objs u := by
    unfold v
    split <;> simp
  simp [w, hv, State.objs_each]

@[simp] theorem State.slotS_freeTags (m : Nat) :
    (s.freeTags n).slotS m = if n = m then { s.slotS n with tags := [] } else s.slotS m := by
  simp only [State.freeTags]
  rw [State.slotS_of_frame (ps := [.out, .dict, .sess, .ev, .rings, .dma]) (State.frame_each fun v e => by
    split
    · split <;> simp
    · rfl), State.slotS_modSlot]

@[simp] theorem State.slotS_driveGone (st m : Nat) :
    (s.driveGone n st).slotS m = if n = m then Slot.gone { s.slotS n with tags := [] } else s.slotS m := by
  rw [State.driveGone_eq]
  split_ifs <;> simp_all

@[simp] theorem State.driveGone_kept (st : Nat) :
    (s.driveGone n st).now = s.now ∧ (s.driveGone n st).pwr.storm = s.pwr.storm ∧
      (s.driveGone n st).twin.twinMode = s.twin.twinMode := by
  have h := State.frame_driveGone (s := s) (u := s) (ps := [.free, .out, .dict, .sess, .ev, .rings, .fab, .eth, .rdma, .nvme, .sched,
    .arr, .slot, .np, .dma, .meter, .twin, .pwr, .slots, .ctrls, .nss]) n st (by simp)
  exact ⟨State.same_of_frame h .now (by simp), State.same_of_frame h .storm (by simp), State.same_of_frame h .twinMode (by simp)⟩

/-- An object outside those of the machinery, where a drive goes. -/
theorem State.val_driveGone (st i r k : Nat) (h : Dict.off i k = true) :
    (s.driveGone n st).val i r k =
      if objKey 0x5200 n 5 = objKey i r k ∨ objKey 0x5200 n 4 = objKey i r k ∨ objKey 0x5200 n 3 = objKey i r k then .nat 0
      else if objKey 0x5200 n 2 = objKey i r k then .nat st else s.val i r k := by
  have hd : ∀ v : State, (v.dropMembers n).val i r k = v.val i r k := fun v => State.val_of_objs (State.objs_dropMembers n) i r k h
  have hf : (s.freeTags n).val i r k = s.val i r k := State.val_of_objs (State.objs_freeTags n) i r k h
  have hm : ∀ v : State, (v.modSlot n Slot.gone).val i r k = v.val i r k := fun _ => rfl
  rw [State.driveGone_eq]
  split
  all_goals
    simp only [State.raise_reads, State.val_put, hd, hm, hf]
    by_cases h5 : objKey 0x5200 n 5 = objKey i r k
    · rw [if_pos h5, if_pos (.inl h5)]
    · by_cases h4 : objKey 0x5200 n 4 = objKey i r k
      · rw [if_neg h5, if_pos h4, if_pos (.inr (.inl h4))]
      · by_cases h3 : objKey 0x5200 n 3 = objKey i r k
        · rw [if_neg h5, if_neg h4, if_pos h3, if_pos (.inr (.inr h3))]
        · rw [if_neg h5, if_neg h4, if_neg h3, if_neg (not_or.2 ⟨h5, not_or.2 ⟨h4, h3⟩⟩)]

theorem State.o_driveGone (st i r k : Nat) (h : Dict.off i k = true) :
    (s.driveGone n st).o i r k =
      if objKey 0x5200 n 5 = objKey i r k ∨ objKey 0x5200 n 4 = objKey i r k ∨ objKey 0x5200 n 3 = objKey i r k then 0
      else if objKey 0x5200 n 2 = objKey i r k then st else s.o i r k := by
  rw [State.o, State.val_driveGone s n st i r k h]
  split_ifs <;> rfl

end

end Sys2Proof.Machine
end

section
/-! SUPPORT. The network ports (04, 07): what starting the next frame leaves of them, and what waits behind a frame on the line. -/

namespace Sys2Proof.Machine

/-- Every port is as it was but for low-power idle, and so are the cages. -/
def State.EthKept (s u : State) : Prop :=
  (∀ q, ∃ b, u.port q = { s.port q with lpi := b }) ∧ ∀ n, u.cage n = s.cage n

section
variable {s u v : State}

theorem State.EthKept.refl (s : State) : s.EthKept s := ⟨fun q => ⟨(s.port q).lpi, rfl⟩, fun _ => rfl⟩

theorem State.EthKept.trans (h : s.EthKept u) (h' : u.EthKept v) : s.EthKept v := by
  refine ⟨fun q => ?_, fun n => (h'.2 n).trans (h.2 n)⟩
  obtain ⟨b, hb⟩ := h.1 q
  obtain ⟨c, hc⟩ := h'.1 q
  exact ⟨c, by rw [hc, hb]⟩

theorem State.EthKept.of_eth (h : u.eth = s.eth) : s.EthKept u :=
  ⟨fun q => ⟨(s.port q).lpi, by simp only [State.port, h]⟩, fun n => by simp only [State.cage, h]⟩

theorem State.EthKept.before (h : u.EthKept v) (hu : u.eth = s.eth) : s.EthKept v := .trans (.of_eth hu) h

/-- An operation that is no part of the ports keeps them. -/
theorem State.EthKept.of_frame {ps : List Part} (h : u.Frame ps v ↔ u.Frame ps u) (he : .eth ∉ ps := by simp) : u.EthKept v :=
  .of_eth (State.same_of_frame h .eth he)

theorem State.EthKept.each {α : Type} {xs : List α} {f : State → α → State} (hf : ∀ (u : State) (a : α), u.EthKept (f u a)) (s : State) :
    s.EthKept (s.each xs f) := by
  induction xs generalizing s with
  | nil => exact .refl s
  | cons a xs ih => exact (hf s a).trans (ih (f s a))

theorem State.EthKept.when {c : Bool} {f : State → State} (hf : s.EthKept (f s)) : s.EthKept (s.when c f) := by
  unfold State.when
  split
  · exact hf
  · exact .refl s

theorem State.ethKept_setLpi (s : State) (p : Nat) (on : Bool) : s.EthKept (s.setLpi p on) := by
  unfold State.setLpi
  split
  · exact .refl s
  · refine ⟨fun q => ?_, fun _ => rfl⟩
    by_cases h : p = q
    · exact ⟨on, by simp [h]⟩
    · exact ⟨(s.port q).lpi, by simp [h]⟩

theorem State.ethKept_syncLpi (s : State) (p : Nat) : s.EthKept (s.syncLpi p) := s.ethKept_setLpi p _

/-- A frame's departure moves its port's low-power idle alone. -/
theorem State.ethKept_startFrame (s : State) (p : Nat) (f : EgFrame) : s.EthKept (s.startFrame p f) := by
  obtain ⟨v, hv⟩ : ∃ v, v = (s.setLpi p false).setEg p { s.eg p with onLine := some f } := ⟨_, rfl⟩
  have h : s.EthKept v := hv ▸ s.ethKept_setLpi p false
  refine h.trans (.of_eth ?_)
  unfold State.startFrame
  dsimp only
  rw [← hv]
  refine State.same_of_frame (p := .eth) (ps := [.free, .out, .dict, .sess, .ev, .rings, .fab, .rdma, .nvme, .sched, .meter]) ?_ (by simp)
  simp [State.frame_when]
  split <;> split <;> simp [State.frame_when]

theorem State.ethKept_serveQueue (s : State) (p c k : Nat) : s.EthKept (s.serveQueue p c k) := by
  unfold State.serveQueue
  dsimp only
  split
  · exact .refl s
  · refine .trans (.of_eth ?_) (State.ethKept_startFrame _ _ _)
    refine State.same_of_frame (p := .eth) (ps := [.free, .out, .dict, .sess, .ev, .rings, .sched, .meter]) ?_ (by simp)
    simp [State.frame_when]

theorem State.ethKept_serveControl (s : State) (p : Nat) : s.EthKept (s.serveControl p) := by
  unfold State.serveControl
  dsimp only
  split
  · exact .refl s
  · exact State.EthKept.before (State.ethKept_startFrame _ _ _) rfl

theorem State.ethKept_serveMirror (s : State) (p : Nat) : s.EthKept (s.serveMirror p) := by
  unfold State.serveMirror
  dsimp only
  split
  · exact .refl s
  · exact State.EthKept.before (State.ethKept_startFrame _ _ _) (State.bump_eth ..)

theorem State.ethKept_sendPfc (s : State) (p : Nat) : s.EthKept (s.sendPfc p) :=
  .of_frame (ps := [.out, .dict, .sched]) (State.frame_sendPfc p (by simp))

theorem State.ethKept_refreshQueue (s : State) (p k : Nat) : s.EthKept (State.refreshQueue p s k) :=
  .of_frame (ps := [.dict, .sched]) (State.frame_refreshQueue p k (by simp))

/-- Choosing the next frame of a port moves low-power idle alone. -/
theorem State.ethKept_nextFrame (s : State) (p : Nat) : s.EthKept (s.nextFrame p) := by
  unfold State.nextFrame
  dsimp only
  have hr : s.EthKept (if s.portUp p then s.each (s.eg p).backlog (State.refreshQueue p) else s) := by
    split
    · exact State.EthKept.each (fun u k => u.ethKept_refreshQueue p k) s
    · exact .refl s
  refine hr.trans ?_
  generalize (if s.portUp p then s.each (s.eg p).backlog (State.refreshQueue p) else s) = u
  split
  · refine (u.ethKept_sendPfc p).trans ?_
    generalize u.sendPfc p = v
    split
    · exact v.ethKept_serveQueue p 0 _
    · split
      · exact v.ethKept_serveControl p
      · split
        · exact v.ethKept_serveQueue p _ _
        · split
          · exact v.ethKept_serveMirror p
          · exact (State.EthKept.each (fun u _ => u.ethKept_sendPfc p) v).trans (State.ethKept_syncLpi _ p)
  · exact u.ethKept_syncLpi p

end

/-! ### Behind a frame on the line -/

section
variable (s : State) (p : Nat)

/-- What holds a queue is noted, and nothing else of the port. -/
theorem State.refreshQueue_eg (k q : Nat) :
    ((State.refreshQueue p s k).eg q).queues = (s.eg q).queues ∧ ((State.refreshQueue p s k).eg q).pfcQ = (s.eg q).pfcQ ∧
      ((State.refreshQueue p s k).eg q).onLine = (s.eg q).onLine := by
  have hb : ∀ v : State, (v.bump 0x4020 p 9).eg q = v.eg q := fun _ => rfl
  unfold State.refreshQueue
  dsimp only
  split
  · exact ⟨rfl, rfl, rfl⟩
  · split
    · split
      · by_cases h : p = q <;> simp [h]
      · exact ⟨rfl, rfl, rfl⟩
    · by_cases h : p = q <;> split <;> simp [h, hb]

theorem State.each_refreshQueue_eg (ks : List Nat) (q : Nat) :
    ((s.each ks (State.refreshQueue p)).eg q).queues = (s.eg q).queues ∧
      ((s.each ks (State.refreshQueue p)).eg q).pfcQ = (s.eg q).pfcQ ∧
      ((s.each ks (State.refreshQueue p)).eg q).onLine = (s.eg q).onLine := by
  induction ks generalizing s with
  | nil => exact ⟨rfl, rfl, rfl⟩
  | cons k ks ih =>
    obtain ⟨h1, h2, h3⟩ := ih (State.refreshQueue p s k)
    obtain ⟨k1, k2, k3⟩ := s.refreshQueue_eg p k q
    exact ⟨h1.trans k1, h2.trans k2, h3.trans k3⟩

theorem State.eg_setLpi (on : Bool) (q : Nat) : (s.setLpi p on).eg q = s.eg q := by
  unfold State.setLpi
  split <;> rfl

/-- While a frame stands on the line nothing leaves, and only what holds a queue is noted. -/
theorem State.nextFrame_busy (h : s.lineBusy p) :
    s.nextFrame p = (s.each (s.eg p).backlog (State.refreshQueue p)).syncLpi p := by
  have hon : ((s.each (s.eg p).backlog (State.refreshQueue p)).eg p).onLine.isNone = false := by
    rw [(s.each_refreshQueue_eg p _ p).2.2]
    simpa using h.2
  unfold State.nextFrame
  dsimp only
  rw [if_pos h.1, hon, Bool.and_false]
  exact if_neg Bool.false_ne_true

theorem State.nextFrame_busy_eg (h : s.lineBusy p) (q : Nat) :
    ((s.nextFrame p).eg q).queues = (s.eg q).queues ∧ ((s.nextFrame p).eg q).pfcQ = (s.eg q).pfcQ := by
  obtain ⟨h1, h2, -⟩ := s.each_refreshQueue_eg p (s.eg p).backlog q
  rw [s.nextFrame_busy p h, State.syncLpi, State.eg_setLpi]
  exact ⟨h1, h2⟩

theorem State.frame_nextFrame_busy {ps : List Part} {r : State} (h : s.lineBusy p) (hp : .out ∈ ps ∧ .dict ∈ ps ∧ .eth ∈ ps ∧ .sched ∈ ps) :
    r.Frame ps (s.nextFrame p) ↔ r.Frame ps s := by
  rw [s.nextFrame_busy p h, State.frame_syncLpi p (by simp [hp])]
  exact State.frame_each fun v k => State.frame_refreshQueue p k (by simp [hp])

/-- A control frame of a port whose line is busy waits behind the others. -/
theorem State.enqueueCtl_waits (h : s.ctlWaits p) (len : Nat) (c : Ctl) :
    s.enqueueCtl p len c = (s.setEg p { s.eg p with
      queues := Tbl.set (s.eg p).queues controlKey (Tbl.get [] (s.eg p).queues controlKey ++ [s.ctlFrame len c]) }).nextFrame p := by
  have hs : s.storming p (s.ctlFrame len c).prio = false := h.2
  rw [State.enqueueCtl, State.pushControl, hs, h.1.1]
  rfl

end

end Sys2Proof.Machine
end
section
/-! SUPPORT. A port that goes down (04 R121), and the time status (04 R143). -/

namespace Sys2Proof.Machine

section
variable (s : State)

/-! ### The time status -/

theorem State.ethKept_syncGates : s.EthKept s.syncGates := by
  refine State.EthKept.each (fun u p => ?_) s
  split
  · exact .refl u
  · exact .trans (.of_frame (ps := [.sched]) (State.frame_syncGate p (by simp))) (State.ethKept_nextFrame _ p)

theorem State.ethKept_setTimeStatus (v : Nat) : s.EthKept (s.setTimeStatus v) := by
  unfold State.setTimeStatus
  dsimp only
  have h : s.EthKept ((s.put 0x3020 0 7 v).ledgerStatus v).syncGates :=
    State.EthKept.before (State.ethKept_syncGates _) rfl
  split
  · exact .refl s
  · split
    · exact h.trans (.of_frame (ps := [.sched]) (State.frame_startGates (by simp)))
    · exact h

/-- The objects that a change of the time status writes besides those of the machinery. -/
theorem State.val_setTimeStatus (v i r k : Nat) (h : Dict.off i k = true) (h' : i % 65536 = 0x3020 → k % 256 ≠ 7) :
    (s.setTimeStatus v).val i r k = s.val i r k := by
  have hk : objKey 0x3020 0 7 ≠ objKey i r k := fun e => by
    obtain ⟨hi, -, hs⟩ := objKey_inj.1 e
    exact h' hi.symm hs.symm
  have hv : (((s.put 0x3020 0 7 v).ledgerStatus v).syncGates).val i r k = s.val i r k := by
    rw [State.val_of_objs (State.objs_syncGates ..) i r k h]
    exact (State.val_put ..).trans (if_neg hk)
  unfold State.setTimeStatus
  dsimp only
  split
  · rfl
  · split
    · rw [State.val_of_objs (State.objs_startGates ..) i r k h, hv]
    · exact hv

theorem State.o_setTimeStatus (v : Nat) : (s.setTimeStatus v).o 0x3020 0 7 = v := by
  have hv : (((s.put 0x3020 0 7 v).ledgerStatus v).syncGates).o 0x3020 0 7 = v := by
    rw [State.o_of_objs (State.objs_syncGates ..) 0x3020 0 7]
    exact (State.o_put ..).trans (if_pos rfl)
  unfold State.setTimeStatus
  dsimp only
  split
  · next h => exact h
  · split
    · rw [State.o_of_objs (State.objs_startGates ..) 0x3020 0 7, hv]
    · exact hv

theorem State.ethKept_ptpFail : s.EthKept s.ptpFail := by
  unfold State.ptpFail State.holdover
  dsimp only
  split
  · exact .of_eth rfl
  · split
    · exact State.EthKept.before (State.ethKept_setTimeStatus _ 3) rfl
    · exact .of_eth rfl

theorem State.val_ptpFail (i r k : Nat) (h : Dict.off i k = true) (h' : i % 65536 = 0x3020 → k % 256 ≠ 7) :
    s.ptpFail.val i r k = s.val i r k := by
  unfold State.ptpFail State.holdover
  dsimp only
  split
  · rfl
  · split
    · exact State.val_setTimeStatus _ 3 i r k h h'
    · rfl

theorem State.ethKept_ptpLinkDown (p : Nat) : s.EthKept (s.ptpLinkDown p) := by
  unfold State.ptpLinkDown
  split
  · exact s.ethKept_ptpFail
  · split
    · exact .of_eth rfl
    · exact .refl s

theorem State.val_ptpLinkDown (p i r k : Nat) (h : Dict.off i k = true) (h' : i % 65536 = 0x3020 → k % 256 ≠ 7) :
    (s.ptpLinkDown p).val i r k = s.val i r k := by
  unfold State.ptpLinkDown
  split
  · exact s.val_ptpFail i r k h h'
  · split <;> rfl

/-! ### A port that goes down -/

/-- What a port forgets when its link goes down. -/
def EthPort.unlinked (x : EthPort) (now : Nat) : EthPort :=
  { x with
    linkUp := false, pausedUntil := [], pausedSince := [], xoffSent := [], delayOutstanding := false
    downTimes := within now (60 * sNs) (now :: x.downTimes) }

/-- The port with its link down, counted, its queues flushed. -/
def State.downPort (s : State) (p : Nat) : State :=
  ((((((s.each ((s.port p).pausedSince.map (·.1)) fun s prio => s.pauseEnds p prio).setPort p ((s.port p).unlinked s.now)).bump
    0x3002 p 0xA).stompOpen p).startFlush p).syncLpi p).ptpLinkDown p

theorem State.declareDown_eq (p : Nat) (flap : Bool) :
    s.declareDown p flap = if flap then (s.downPort p).checkFlap p else s.downPort p := by
  rfl

theorem State.unlinkedFirst_port (p q : Nat) :
    ((s.each ((s.port p).pausedSince.map (·.1)) fun s prio => s.pauseEnds p prio).setPort p ((s.port p).unlinked s.now)).port q =
      if p = q then (s.port p).unlinked s.now else s.port q := by
  have h := State.frame_each (s := s) (u := s) (ps := [.dict]) (xs := (s.port p).pausedSince.map (·.1))
    (f := fun s prio => s.pauseEnds p prio) fun v a => State.frame_pauseEnds p a (by simp)
  obtain ⟨v, hv⟩ : ∃ v, v = s.each ((s.port p).pausedSince.map (·.1)) fun s prio => s.pauseEnds p prio := ⟨_, rfl⟩
  rw [← hv] at h ⊢
  have he : v.port q = s.port q := by rw [State.port, State.same_of_frame h .eth, State.port]
  by_cases hq : p = q
  · simp [hq]
  · simp [hq, he]

/-- Stomping what is open moves no port. -/
theorem State.ethKept_stompOpen (p : Nat) : s.EthKept (s.stompOpen p) :=
  ⟨fun q => ⟨(s.port q).lpi, rfl⟩, fun _ => rfl⟩

/-- The port's link is down, and every other port is as it was but for low-power idle. -/
theorem State.downPort_port (p : Nat) :
    (∀ q, ∃ b, (s.downPort p).port q = { (if p = q then (s.port p).unlinked s.now else s.port q) with lpi := b }) ∧
      ∀ n, (s.downPort p).cage n = s.cage n := by
  have hport := s.unlinkedFirst_port p
  have hcage : ∀ n, ((s.each ((s.port p).pausedSince.map (·.1)) fun s prio => s.pauseEnds p prio).setPort p
      ((s.port p).unlinked s.now)).cage n = s.cage n := by
    have h := State.frame_each (s := s) (u := s) (ps := [.dict]) (xs := (s.port p).pausedSince.map (·.1))
      (f := fun s prio => s.pauseEnds p prio) fun v a => State.frame_pauseEnds p a (by simp)
    obtain ⟨v, hv⟩ : ∃ v, v = s.each ((s.port p).pausedSince.map (·.1)) fun s prio => s.pauseEnds p prio := ⟨_, rfl⟩
    rw [← hv] at h ⊢
    intro n
    have hc : v.cage n = s.cage n := by rw [State.cage, State.same_of_frame h .eth, State.cage]
    exact hc
  unfold State.downPort
  generalize ((s.each ((s.port p).pausedSince.map (·.1)) fun s prio => s.pauseEnds p prio).setPort p
    ((s.port p).unlinked s.now)) = v at hport hcage ⊢
  have h1 : v.EthKept ((v.bump 0x3002 p 0xA).stompOpen p) := State.EthKept.before (State.ethKept_stompOpen _ p) rfl
  have h2 := h1.trans (.of_frame (State.frame_startFlush (ps := [.out, .dict, .fab, .sched, .flushes]) p (by simp)))
  have h3 := (h2.trans (State.ethKept_syncLpi _ p)).trans (State.ethKept_ptpLinkDown _ p)
  refine ⟨fun q => ?_, fun n => (h3.2 n).trans (hcage n)⟩
  obtain ⟨b, hb⟩ := h3.1 q
  exact ⟨b, by rw [hb, hport]⟩

/-- Going down writes no object but the port's count of it, the time status, and those of the machinery. -/
theorem State.val_downPort (p i r k : Nat) (h : Dict.off i k = true) (h' : i % 65536 = 0x3020 → k % 256 ≠ 7) :
    (s.downPort p).val i r k = (s.bump 0x3002 p 0xA).val i r k := by
  unfold State.downPort
  have hv : ∀ i r k, Dict.off i k = true → ((s.each ((s.port p).pausedSince.map (·.1)) fun s prio => s.pauseEnds p prio).setPort p
      ((s.port p).unlinked s.now)).val i r k = s.val i r k :=
    fun i r k h => State.val_of_objs (State.objs_each fun v a => State.objs_pauseEnds p a) i r k h
  generalize ((s.each ((s.port p).pausedSince.map (·.1)) fun s prio => s.pauseEnds p prio).setPort p
    ((s.port p).unlinked s.now)) = v at hv ⊢
  rw [State.val_ptpLinkDown _ p i r k h h', State.val_of_objs (State.objs_syncLpi p) i r k h,
    State.val_of_objs (State.objs_startFlush p) i r k h, State.val_of_objs (State.objs_stompOpen p) i r k h]
  have ho : v.o 0x3002 p 0xA = s.o 0x3002 p 0xA := by rw [State.o, hv _ _ _ rfl, State.toNat_val]
  simp only [State.bump, State.add, State.val_put, ho, hv i r k h]

/-- A flap hold alone may follow. -/
theorem State.checkFlap_port (p : Nat) :
    (∀ q, ∃ f, (s.checkFlap p).port q = { s.port q with flapUntil := f }) ∧ ∀ n, (s.checkFlap p).cage n = s.cage n := by
  unfold State.checkFlap
  dsimp only
  split
  · obtain ⟨v, hv⟩ : ∃ v, v = s.setPort p { s.port p with flapUntil := some (s.now + s.o 0x3001 p 8 * sNs) } := ⟨_, rfl⟩
    rw [← hv]
    have he : ((v.raise .linkFlapping [p]).partnerViolation p 0x30020A (s.port p).partnerMac).eth = v.eth := by
      change (v.raise .linkFlapping [p]).eth = v.eth
      simp
    generalize (v.raise .linkFlapping [p]).partnerViolation p 0x30020A (s.port p).partnerMac = w at he
    refine ⟨fun q => ?_, fun n => ?_⟩
    · rw [State.port, he, ← State.port, hv]
      by_cases hq : p = q
      · exact ⟨_, by rw [State.port_setPort, if_pos hq, hq]⟩
      · exact ⟨(s.port q).flapUntil, by rw [State.port_setPort, if_neg hq]⟩
    · rw [State.cage, he, ← State.cage, hv]
      rfl
  · exact ⟨fun q => ⟨(s.port q).flapUntil, rfl⟩, fun _ => rfl⟩

/-- A port whose link is declared down forgets what it had of its partner; every other port is as it was but for low-power idle. -/
theorem State.declareDown_port (p : Nat) (flap : Bool) :
    (∀ q, ∃ b f, (s.declareDown p flap).port q =
      { (if p = q then (s.port p).unlinked s.now else s.port q) with lpi := b, flapUntil := f }) ∧
      ∀ n, (s.declareDown p flap).cage n = s.cage n := by
  obtain ⟨hport, hcage⟩ := s.downPort_port p
  rw [State.declareDown_eq]
  split
  · obtain ⟨hport', hcage'⟩ := (s.downPort p).checkFlap_port p
    refine ⟨fun q => ?_, fun n => (hcage' n).trans (hcage n)⟩
    obtain ⟨b, hb⟩ := hport q
    obtain ⟨f, hf⟩ := hport' q
    exact ⟨b, f, by rw [hf, hb]⟩
  · refine ⟨fun q => ?_, hcage⟩
    obtain ⟨b, hb⟩ := hport q
    exact ⟨b, (if p = q then (s.port p).unlinked s.now else s.port q).flapUntil, hb⟩

theorem State.val_declareDown (p : Nat) (flap : Bool) (i r k : Nat) (h : Dict.off i k = true) (h' : i % 65536 = 0x3020 → k % 256 ≠ 7) :
    (s.declareDown p flap).val i r k = (s.bump 0x3002 p 0xA).val i r k := by
  rw [State.declareDown_eq]
  split
  · rw [State.val_of_objs (State.objs_checkFlap p) i r k h, s.val_downPort p i r k h h']
  · exact s.val_downPort p i r k h h'

end

end Sys2Proof.Machine
end

section
/-! SUPPORT. A committed row (16 R559), and what the ports' switches write (04 R115 to R121). -/

namespace Sys2Proof.Machine

/-- A commit whose own effect leaves the row and its generation is answered, has moved the generation on, and has stored what
was staged. -/
theorem done_commitRow {i : Instr} {s : State} {t : Nat} {ok : Bool} {sess win : Nat} {chk : Session → Stage → State → Abort}
    {app : Stage → State → State → State} {subs : List Nat} {f : State → State} {Q : State → Prop}
    (hi : exec i s = act t ok s f) (hf : f (s.at t) = (s.at t).commitAs sess win 1 chk app) (hok : ok = true) (hp : s.railsOn)
    (hm : (s.at t).mayCommit sess win chk = true) (hh : (s.paired && isShelfSetting win 0) = false)
    (hsubs : ∀ k ∈ subs, k % 256 = k ∧ Dict.stores win k = true)
    (hgen : ∀ v : State, (app (s.staged sess win) (s.at t) v).gen win (s.staged sess win).row = v.gen win (s.staged sess win).row)
    (hval : ∀ v : State, v = (s.at t).storeRow win (s.staged sess win) → ∀ k ∈ subs,
      (app (s.staged sess win) (s.at t) v).val win (s.staged sess win).row k = v.val win (s.staged sess win).row k)
    (hQ : ∀ u v : State, v = (s.at t).storeRow win (s.staged sess win) →
      u = s.after t ((((s.at t).applyCommit sess win (s.staged sess win) app).configStep win 0).reply sess 0) → Q u) :
    Done i s fun u => s.committed u sess win ∧ s.rowTook u sess win subs ∧ Q u := by
  refine done_act hi hok hp fun u hu => ?_
  rw [hf, State.commitAs_taken hm hh, show (s.at t).staged sess win = s.staged sess win from rfl] at hu
  refine ⟨⟨?_, ?_⟩, fun k hk => ?_, hQ u _ rfl hu⟩
  · rw [hu, show ∀ v : State, (s.after t v).gen = v.gen from fun _ => rfl,
      State.gen_of_frame (State.frame_reply (ps := [.out, .sess, .rings, .np]) sess 0 none (by simp)),
      State.gen_of_frame (State.frame_configStep (ps := [.twin]) win 0 (by simp)), (State.applyCommit_reads ..).2.1.2.2.2, hgen,
      State.gen_storeRow, State.gen_at]
  · simp [hu, State.answered]
  · obtain ⟨hlt, hst⟩ := hsubs k hk
    have hd : ((((s.at t).applyCommit sess win (s.staged sess win) app).configStep win 0).reply sess 0).dict =
        ((s.at t).applyCommit sess win (s.staged sess win) app).dict := by
      rw [State.same_of_frame (State.frame_reply (ps := [.out, .sess, .rings, .np]) sess 0 none (by simp)) .dict,
        State.same_of_frame (State.frame_configStep (ps := [.twin]) win 0 (by simp)) .dict]
    rw [hu, show ∀ v : State, (s.after t v).val = v.val from fun _ => rfl, ← State.val_dict, hd, State.val_dict, (State.applyCommit_reads ..).2.1.2.1, hval _ rfl k hk,
      State.val_storeRow, if_pos ⟨rfl, hlt.symm ▸ hst⟩, hlt]

/-- One whose effect is not asked about. -/
theorem done_commitRow' {i : Instr} {s : State} {t : Nat} {ok : Bool} {sess win : Nat} {chk : Session → Stage → State → Abort}
    {app : Stage → State → State → State} {subs : List Nat} {f : State → State}
    (hi : exec i s = act t ok s f) (hf : f (s.at t) = (s.at t).commitAs sess win 1 chk app) (hok : ok = true) (hp : s.railsOn)
    (hm : (s.at t).mayCommit sess win chk = true) (hh : (s.paired && isShelfSetting win 0) = false)
    (hsubs : ∀ k ∈ subs, k % 256 = k ∧ Dict.stores win k = true)
    (hgen : ∀ v : State, (app (s.staged sess win) (s.at t) v).gen win (s.staged sess win).row = v.gen win (s.staged sess win).row)
    (hval : ∀ v : State, v = (s.at t).storeRow win (s.staged sess win) → ∀ k ∈ subs,
      (app (s.staged sess win) (s.at t) v).val win (s.staged sess win).row k = v.val win (s.staged sess win).row k) :
    Done i s fun u => s.committed u sess win ∧ s.rowTook u sess win subs := by
  obtain ⟨u, hu, hc, hr, -⟩ := done_commitRow (Q := fun _ => True) hi hf hok hp hm hh hsubs hgen hval fun _ _ _ _ => trivial
  exact ⟨u, hu, hc, hr⟩

section
variable (s : State)

/-- Objects outside of the ports' status that a port's going down leaves. -/
theorem State.val_declareDown_of (p : Nat) (flap : Bool) (i r k : Nat) (h : Dict.off i k = true) (h2 : i % 65536 ≠ 0x3002)
    (h' : i % 65536 = 0x3020 → k % 256 ≠ 7) : (s.declareDown p flap).val i r k = s.val i r k := by
  rw [s.val_declareDown p flap i r k h h', State.val_bump, if_neg]
  exact fun e => h2 (objKey_inj.1 e).1.symm

theorem State.val_forgetNegotiation (p i r k : Nat) :
    (s.forgetNegotiation p).val i r k = if objKey 0x3002 p 0xC = objKey i r k then .nat 0 else s.val i r k :=
  State.val_put ..

theorem State.val_each {α : Type} {xs : List α} {f : State → α → State} {i r k : Nat} (h : ∀ v a, (f v a).val i r k = v.val i r k) :
    (s.each xs f).val i r k = s.val i r k := by
  induction xs generalizing s with
  | nil => rfl
  | cons a xs ih => exact (ih (f s a)).trans (h s a)

theorem State.val_enforceCage (n i r k : Nat) (h : Dict.off i k = true) (h2 : i % 65536 ≠ 0x3002)
    (h' : i % 65536 = 0x3020 → k % 256 ≠ 7) : (s.enforceCage n).val i r k = s.val i r k := by
  refine s.val_each fun v p => ?_
  split
  · exact v.val_declareDown_of p true i r k h h2 h'
  · rfl

theorem State.val_unreadablePower (n i r k : Nat) (h : Dict.off i k = true) (h2 : i % 65536 ≠ 0x3002)
    (h' : i % 65536 = 0x3020 → k % 256 ≠ 7) : (s.unreadablePower n).val i r k = s.val i r k := by
  unfold State.unreadablePower
  dsimp only
  rw [State.val_enforceCage _ n i r k h h2 h', State.val_of_objs (State.objs_setLowPower ..) i r k h]

/-- Port settings that take effect write no setting of a port. -/
theorem val_applyPortSettings (st : Stage) (old : State) (i r k : Nat) (h : Dict.off i k = true) (h2 : i % 65536 ≠ 0x3002)
    (h' : i % 65536 ≠ 0x3020) : (applyPortSettings st old s).val i r k = s.val i r k := by
  have h'' : i % 65536 = 0x3020 → k % 256 ≠ 7 := fun e => absurd e h'
  have hc : ∀ (c : Prop) [Decidable c] (u v : State), u.val i r k = s.val i r k → (v.val i r k = u.val i r k) →
      (if c then v else u).val i r k = s.val i r k := fun c _ u v hu hv => by
    split
    · exact hv.trans hu
    · exact hu
  unfold applyPortSettings
  extract_lets p reopened y u1 u2 u3 u4 u5
  have h1 : u1.val i r k = s.val i r k := hc _ s _ rfl rfl
  have h2' : u2.val i r k = s.val i r k := hc _ u1 _ h1 (u1.val_declareDown_of p true i r k h h2 h'')
  have h3 : u3.val i r k = s.val i r k := hc _ u2 _ h2' (by
    rw [State.val_forgetNegotiation, if_neg]
    exact fun e => h2 (objKey_inj.1 e).1.symm)
  have h4 : u4.val i r k = s.val i r k := hc _ u3 _ h3 (u3.val_unreadablePower _ i r k h h2 h'')
  have h5 : u5.val i r k = s.val i r k := (State.val_of_objs (State.objs_recomputeHeadroom ..) i r k h).trans h4
  split
  · rw [State.val_of_objs (State.objs_nextFrame ..) i r k h, State.val_of_objs (State.objs_checkOversubscribed ..) i r k h,
      State.val_of_objs (State.objs_recheckGate ..) i r k h, State.val_of_objs (State.objs_rerate ..) i r k h, h5]
  · rw [State.val_of_objs (State.objs_nextFrame ..) i r k h, h5]

end

/-! ### Control frames behind a busy line -/

section
variable {s v : State} {t p len : Nat} {c : Ctl}

/-- What holds a port's link and its pauses of storms. -/
def EthPort.SameLink (x y : EthPort) : Prop :=
  x.linkUp = y.linkUp ∧ x.stormsOff = y.stormsOff ∧ x.flapUntil = y.flapUntil ∧ x.noCommon = y.noCommon ∧ x.stormUntil = y.stormUntil

/-- A port whose link and holds are as they were is as busy as it was. -/
theorem State.ctlWaits_of (hw : s.ctlWaits p) (hd : v.dict = s.dict) (hf : v.fab = s.fab) (he : v.eg p = s.eg p)
    (hx : (v.port p).SameLink (s.port p)) : v.ctlWaits p := by
  obtain ⟨⟨hup, hon⟩, hn⟩ := hw
  obtain ⟨hl, ho, hfl, hc, hs⟩ := hx
  have hob : ∀ i k, v.ob i k = s.ob i k := fun i k => by simp only [State.ob, State.o, State.val, hd]
  have hst : v.portState p = s.portState p := by
    simp only [State.portState, State.portExists, State.modeOf, State.flushing, hl, ho, hfl, hc, hob, hf]
    rfl
  have ho := hob 0x4007 1
  refine ⟨⟨?_, by rw [he]; exact hon⟩, ?_⟩
  · rw [State.portUp, hst]
    exact hup
  · rw [State.storming, hs, ho]
    exact hn

/-- The frame waits behind the others, and the ports are as they were. -/
theorem State.enqueueCtl_queues (hw : v.ctlWaits p) (he : v.eg p = s.eg p) (hc : v.ctlFrame len c = (s.at t).ctlFrame len c) :
    ((v.enqueueCtl p len c).eg p).queues = (s.ctlEg t p len c).queues ∧ v.EthKept (v.enqueueCtl p len c) := by
  rw [State.enqueueCtl_waits v p hw]
  obtain ⟨w, hv⟩ : ∃ w, w = v.setEg p { v.eg p with
      queues := Tbl.set (v.eg p).queues controlKey (Tbl.get [] (v.eg p).queues controlKey ++ [v.ctlFrame len c]) } := ⟨_, rfl⟩
  have hb : w.lineBusy p := by
    rw [hv]
    exact ⟨hw.1.1, by simpa using hw.1.2⟩
  rw [← hv]
  refine ⟨?_, State.EthKept.before (w.ethKept_nextFrame p) (by rw [hv]; rfl)⟩
  rw [(State.nextFrame_busy_eg w p hb p).1, hv]
  simp [State.ctlEg, he, hc]

theorem State.frame_enqueueCtl_waits {r : State} {ps : List Part} (hw : v.ctlWaits p)
    (hps : .out ∈ ps ∧ .dict ∈ ps ∧ .eth ∈ ps ∧ .sched ∈ ps) : r.Frame ps (v.enqueueCtl p len c) ↔ r.Frame ps v := by
  rw [State.enqueueCtl_waits v p hw]
  obtain ⟨w, hv⟩ : ∃ w, w = v.setEg p { v.eg p with
      queues := Tbl.set (v.eg p).queues controlKey (Tbl.get [] (v.eg p).queues controlKey ++ [v.ctlFrame len c]) } := ⟨_, rfl⟩
  have hb : w.lineBusy p := by
    rw [hv]
    exact ⟨hw.1.1, by simpa using hw.1.2⟩
  rw [← hv, State.frame_nextFrame_busy w p hb hps, hv]
  simp [hps]

/-- A command that puts a control frame behind those of a busy line. -/
theorem done_enqueueCtl {i : Instr} {s : State} {ok : Bool} {f : State → State} (hi : exec i s = act t ok s f) (hok : ok = true)
    (hp : s.railsOn) (hf : f (s.at t) = (s.at t).enqueueCtl p len c) (hw : s.ctlWaits p) :
    Done i s fun u => (u.eg p).queues = (s.ctlEg t p len c).queues ∧ u = { s.logged u with eth := u.eth, sched := u.sched } := by
  have hw' : (s.at t).ctlWaits p := hw
  obtain ⟨hq, -⟩ := State.enqueueCtl_queues (s := s) (v := s.at t) (t := t) (len := len) (c := c) hw' rfl rfl
  refine done_act hi hok hp fun u hu => ?_
  rw [hf] at hu
  refine ⟨by rw [← hq, hu]; rfl, State.Frame.eq (s := s) (ps := Part.logs ++ [.eth, .sched]) ?_⟩
  rw [hu]
  exact State.frame_after t _ _ (by simp) (.inl rfl) (.inl rfl) (.inl rfl)
    ((State.frame_enqueueCtl_waits hw' (by simp)).2 (by simp))

end

end Sys2Proof.Machine
end

section
/-! SUPPORT. Queue pairs (05): what the departure of frames, a packet that is sent, and messages that go out leave of them. -/

namespace Sys2Proof.Machine

/-- A queue pair whose frames started on a line: only when they did differs. -/
def Qp.Stamped (q r : Qp) : Prop :=
  ∃ a b, r = { q with sent := a, reads := b }

theorem Qp.Stamped.refl (q : Qp) : q.Stamped q := ⟨q.sent, q.reads, rfl⟩

theorem Qp.Stamped.trans {q r x : Qp} (h : q.Stamped r) (h' : r.Stamped x) : q.Stamped x := by
  obtain ⟨a, b, rfl⟩ := h
  obtain ⟨a', b', rfl⟩ := h'
  exact ⟨a', b', rfl⟩

/-- Frames of the queue pairs started on a line, and nothing else of them moved. -/
def State.QpStamped (s u : State) : Prop := ∀ j, (s.qp j).Stamped (u.qp j)

section
variable {s u v : State}

theorem State.QpStamped.refl (s : State) : s.QpStamped s := fun j => .refl (s.qp j)

theorem State.QpStamped.trans (h : s.QpStamped u) (h' : u.QpStamped v) : s.QpStamped v := fun j => (h j).trans (h' j)

theorem State.QpStamped.of_rdma (h : u.rdma = s.rdma) : s.QpStamped u := fun j => by
  rw [State.qp, State.qp, h]
  exact .refl _

theorem State.QpStamped.before (h : u.QpStamped v) (hu : u.rdma = s.rdma) : s.QpStamped v := .trans (.of_rdma hu) h

theorem State.QpStamped.after (h : s.QpStamped u) (hv : v.rdma = u.rdma) : s.QpStamped v := h.trans (.of_rdma hv)

/-- An operation that is no part of the queue pairs keeps them. -/
theorem State.QpStamped.of_frame {ps : List Part} (h : u.Frame ps v ↔ u.Frame ps u) (he : .rdma ∉ ps := by simp) : u.QpStamped v :=
  .of_rdma (State.same_of_frame h .rdma he)

theorem State.QpStamped.each {α : Type} {xs : List α} {f : State → α → State} (hf : ∀ (u : State) (a : α), u.QpStamped (f u a)) (s : State) :
    s.QpStamped (s.each xs f) := by
  induction xs generalizing s with
  | nil => exact .refl s
  | cons a xs ih => exact (hf s a).trans (ih (f s a))

theorem State.QpStamped.when {c : Bool} {f : State → State} (hf : s.QpStamped (f s)) : s.QpStamped (s.when c f) := by
  unfold State.when
  split
  · exact hf
  · exact .refl s

theorem State.qpStamped_setQp (i : Nat) {x : Qp} (h : (s.qp i).Stamped x) : s.QpStamped (s.setQp i x) := fun j => by
  by_cases hj : i = j
  · subst hj
    simpa using h
  · rw [State.qp_setQp, if_neg hj]
    exact .refl _

theorem State.qpStamped_stampSent (s : State) (i : Nat) (p : TxPkt) : s.QpStamped (s.stampSent i p) :=
  State.qpStamped_setQp i ⟨_, _, rfl⟩

theorem State.qpStamped_packetLeaves (s : State) (i : Nat) (p : TxPkt) : s.QpStamped (s.packetLeaves i p) := by
  unfold State.packetLeaves
  split
  · exact .refl s
  · extract_lets v
    have hv : s.QpStamped v := by
      simp only [v]
      split
      · exact .refl s
      · exact s.qpStamped_stampSent i p
    refine hv.trans ?_
    clear_value v
    clear hv
    split
    · exact .refl v
    · extract_lets w
      have hm : ∀ id, v.QpStamped (v.measureClass0 id) := fun id =>
        .of_frame (ps := [.out, .dict, .sess, .ev, .rings, .nvme, .sched, .meter]) (State.frame_measureClass0 id (by simp))
      have hw : v.QpStamped w := by
        simp only [w]
        split
        · exact hm _
        · exact hm _
        · exact hm _
        · exact hm _
        · exact .refl v
      refine hw.trans ?_
      split
      · exact .of_frame (ps := [.out, .dict, .sess, .ev, .rings, .nvme, .meter]) (State.frame_meterCompletion _ _ _ (by simp))
      · exact .refl w

theorem State.qpStamped_startFrame (s : State) (p : Nat) (f : EgFrame) : s.QpStamped (s.startFrame p f) := by
  unfold State.startFrame
  extract_lets e v copied w x y z
  have hv : s.QpStamped v := .of_rdma (State.same_of_frame (State.frame_setLpi (ps := [.out, .eth]) p false (by simp)) .rdma)
  have hw : v.QpStamped w := State.QpStamped.when (.of_frame (ps := [.free, .dict, .fab]) (by simp))
  have hx : w.QpStamped x := .of_frame (ps := [.dict]) (by simp [x])
  have hy : x.QpStamped y := by
    simp only [y]
    split
    · exact .of_frame (ps := [.dict]) (by simp)
    · exact .refl x
  have hz : y.QpStamped z := by
    simp only [z]
    split
    · split
      · exact .refl y
      · exact y.qpStamped_packetLeaves _ _
    · exact .refl y
  exact (hv.trans (hw.trans (hx.trans (hy.trans hz)))).after rfl

theorem State.qpStamped_serveQueue (s : State) (p c k : Nat) : s.QpStamped (s.serveQueue p c k) := by
  unfold State.serveQueue
  dsimp only
  split
  · exact .refl s
  · refine .trans (.of_rdma ?_) (State.qpStamped_startFrame _ _ _)
    refine State.same_of_frame (p := .rdma) (ps := [.free, .out, .dict, .sess, .ev, .rings, .sched, .meter]) ?_ (by simp)
    simp [State.frame_when]

theorem State.qpStamped_serveControl (s : State) (p : Nat) : s.QpStamped (s.serveControl p) := by
  unfold State.serveControl
  dsimp only
  split
  · exact .refl s
  · exact State.QpStamped.before (State.qpStamped_startFrame _ _ _) rfl

theorem State.qpStamped_serveMirror (s : State) (p : Nat) : s.QpStamped (s.serveMirror p) := by
  unfold State.serveMirror
  dsimp only
  split
  · exact .refl s
  · exact State.QpStamped.before (State.qpStamped_startFrame _ _ _) rfl

theorem State.qpStamped_sendPfc (s : State) (p : Nat) : s.QpStamped (s.sendPfc p) :=
  .of_frame (ps := [.out, .dict, .sched]) (State.frame_sendPfc p (by simp))

/-- Choosing the next frame of a port moves no queue pair but by what goes out. -/
theorem State.qpStamped_nextFrame (s : State) (p : Nat) : s.QpStamped (s.nextFrame p) := by
  have hlpi : ∀ u : State, u.QpStamped (u.syncLpi p) := fun u => .of_frame (ps := [.out, .eth]) (State.frame_syncLpi p (by simp))
  unfold State.nextFrame
  dsimp only
  have hr : s.QpStamped (if s.portUp p then s.each (s.eg p).backlog (State.refreshQueue p) else s) := by
    split
    · exact State.QpStamped.each (fun u k => .of_frame (ps := [.dict, .sched]) (State.frame_refreshQueue p k (by simp))) s
    · exact .refl s
  refine hr.trans ?_
  generalize (if s.portUp p then s.each (s.eg p).backlog (State.refreshQueue p) else s) = u
  split
  · refine (u.qpStamped_sendPfc p).trans ?_
    generalize u.sendPfc p = v
    split
    · exact v.qpStamped_serveQueue p 0 _
    · split
      · exact v.qpStamped_serveControl p
      · split
        · exact v.qpStamped_serveQueue p _ _
        · split
          · exact v.qpStamped_serveMirror p
          · exact (State.QpStamped.each (fun u _ => u.qpStamped_sendPfc p) v).trans (hlpi _)
  · exact hlpi u

theorem State.qpStamped_enqueueCtl (s : State) (p len : Nat) (c : Ctl) : s.QpStamped (s.enqueueCtl p len c) := by
  unfold State.enqueueCtl State.pushControl
  dsimp only
  split
  · exact .of_rdma rfl
  · split
    · exact State.QpStamped.before (State.qpStamped_nextFrame _ p) rfl
    · exact .of_frame (ps := [.dict]) (State.frame_countFlushed p _ (by simp))

theorem State.qpStamped_enqueue (s : State) (p : Nat) (f : EgFrame) : s.QpStamped (s.enqueue p f) := by
  unfold State.enqueue
  split
  · exact .of_rdma rfl
  · split
    · extract_lets g v e k old e1 e2
      have hv : s.QpStamped v := by
        simp only [v]
        split
        · exact .of_frame (ps := [.dict, .sched]) (State.frame_meterClass0 p _ (by simp))
        · exact .refl s
      exact hv.trans (State.QpStamped.before (State.qpStamped_nextFrame _ p) rfl)
    · exact .of_frame (ps := [.dict]) (State.frame_countFlushed p _ (by simp))

end

/-! ### Packets that are sent -/

/-- A queue pair whose packets were sent: what went out, and its count. -/
def Qp.Wire (q r : Qp) : Prop :=
  ∃ a b c d e, r = { q with sent := a, reads := b, txCount := c, retxCount := d, copying := e }

theorem Qp.Wire.refl (q : Qp) : q.Wire q := ⟨q.sent, q.reads, q.txCount, q.retxCount, q.copying, rfl⟩

theorem Qp.Wire.trans {q r x : Qp} (h : q.Wire r) (h' : r.Wire x) : q.Wire x := by
  obtain ⟨a, b, c, d, e, rfl⟩ := h
  obtain ⟨a', b', c', d', e', rfl⟩ := h'
  exact ⟨a', b', c', d', e', rfl⟩

theorem Qp.Stamped.wire {q r : Qp} (h : q.Stamped r) : q.Wire r := by
  obtain ⟨a, b, rfl⟩ := h
  exact ⟨a, b, q.txCount, q.retxCount, q.copying, rfl⟩

/-- Packets of the queue pairs were sent, and nothing else of them moved. -/
def State.QpWire (s u : State) : Prop := ∀ j, (s.qp j).Wire (u.qp j)

section
variable {s u v : State}

theorem State.QpStamped.wire (h : s.QpStamped u) : s.QpWire u := fun j => (h j).wire

theorem State.QpWire.refl (s : State) : s.QpWire s := fun j => .refl (s.qp j)

theorem State.QpWire.trans (h : s.QpWire u) (h' : u.QpWire v) : s.QpWire v := fun j => (h j).trans (h' j)

theorem State.QpWire.of_rdma (h : u.rdma = s.rdma) : s.QpWire u := (State.QpStamped.of_rdma h).wire

theorem State.QpWire.before (h : u.QpWire v) (hu : u.rdma = s.rdma) : s.QpWire v := .trans (.of_rdma hu) h

theorem State.QpWire.of_frame {ps : List Part} (h : u.Frame ps v ↔ u.Frame ps u) (he : .rdma ∉ ps := by simp) : u.QpWire v :=
  .of_rdma (State.same_of_frame h .rdma he)

theorem State.QpWire.each {α : Type} {xs : List α} {f : State → α → State} (hf : ∀ (u : State) (a : α), u.QpWire (f u a)) (s : State) :
    s.QpWire (s.each xs f) := by
  induction xs generalizing s with
  | nil => exact .refl s
  | cons a xs ih => exact (hf s a).trans (ih (f s a))

theorem State.QpWire.when {c : Bool} {f : State → State} (hf : s.QpWire (f s)) : s.QpWire (s.when c f) := by
  unfold State.when
  split
  · exact hf
  · exact .refl s

theorem State.qpWire_setQp (i : Nat) {x : Qp} (h : (s.qp i).Wire x) : s.QpWire (s.setQp i x) := fun j => by
  by_cases hj : i = j
  · subst hj
    simpa using h
  · rw [State.qp_setQp, if_neg hj]
    exact .refl _

theorem State.qpWire_enqueueCtl (s : State) (p len : Nat) (c : Ctl) : s.QpWire (s.enqueueCtl p len c) := (s.qpStamped_enqueueCtl p len c).wire

/-- A packet that is sent is counted, and its frame waits or starts. -/
theorem State.sendPkt_qp (s : State) (i : Nat) (p : TxPkt) (retx : Bool) : ∃ a b e, (s.sendPkt i p retx).qp i =
    { s.qp i with
      sent := a, reads := b, txCount := satAdd (s.qp i).txCount 1
      retxCount := if retx then satAdd (s.qp i).retxCount 1 else (s.qp i).retxCount, copying := e } := by
  unfold State.sendPkt
  extract_lets q p' f v both fit w x
  have hv : v.qp i = { q with txCount := satAdd q.txCount 1, retxCount := if retx then satAdd q.retxCount 1 else q.retxCount } := by simp [v]
  have hw : ∃ e, w.qp i = { v.qp i with copying := e } := by
    simp only [w]
    unfold State.when
    split
    · exact ⟨false, by simp⟩
    · exact ⟨(v.qp i).copying, rfl⟩
  have hx : x.qp i = w.qp i := by
    have hr : x.rdma = w.rdma := State.same_of_frame (State.frame_when (ps := [.out, .dict, .twin])
      (State.frame_sendRec _ _ _ _ _ (by simp))) .rdma
    rw [State.qp, hr, State.qp]
  obtain ⟨e, he⟩ := hw
  obtain ⟨a, b, h⟩ := x.qpStamped_enqueue q.port f i
  exact ⟨a, b, e, by rw [h, hx, he, hv]⟩

theorem State.qpWire_sendPkt (s : State) (i : Nat) (p : TxPkt) (retx : Bool) : s.QpWire (s.sendPkt i p retx) := by
  unfold State.sendPkt
  extract_lets q p' f v both fit w x
  have hv : s.QpWire v := State.qpWire_setQp i ⟨(s.qp i).sent, (s.qp i).reads, _, _, (s.qp i).copying, rfl⟩
  have hw : v.QpWire w := State.QpWire.when (State.qpWire_setQp i ⟨(v.qp i).sent, (v.qp i).reads, (v.qp i).txCount, (v.qp i).retxCount, _, rfl⟩)
  have hx : w.QpWire x := State.QpWire.when (.of_frame (ps := [.out, .dict, .twin]) (State.frame_sendRec _ _ _ _ _ (by simp)))
  exact hv.trans (hw.trans (hx.trans (x.qpStamped_enqueue _ _).wire))

theorem State.qpWire_qpChanged (s : State) (i : Nat) : s.QpWire (s.qpChanged i) :=
  .of_frame (ps := [.out, .dict, .twin]) (State.frame_qpChanged i (by simp))

end

/-! ### Messages that go out -/

/-- A queue pair whose messages went out: what was sent, and the numbers it used. -/
def Qp.Pumped (q r : Qp) : Prop :=
  ∃ a b c d e f g h l, r = { q with
    sent := a, reads := b, txCount := c, retxCount := d, copying := e, nPsn := f, psnUsed := g, ackTimer := h, sendQ := l }

theorem Qp.Pumped.trans {q r x : Qp} (h : q.Pumped r) (h' : r.Pumped x) : q.Pumped x := by
  obtain ⟨a, b, c, d, e, f, g, i, l, rfl⟩ := h
  obtain ⟨a', b', c', d', e', f', g', i', l', rfl⟩ := h'
  exact ⟨a', b', c', d', e', f', g', i', l', rfl⟩

theorem Qp.Wire.pumped {q r : Qp} (h : q.Wire r) : q.Pumped r := by
  obtain ⟨a, b, c, d, e, rfl⟩ := h
  exact ⟨a, b, c, d, e, q.nPsn, q.psnUsed, q.ackTimer, q.sendQ, rfl⟩

/-- Messages of the queue pairs went out, and nothing else of them moved. -/
def State.QpPumped (s u : State) : Prop := ∀ j, (s.qp j).Pumped (u.qp j)

section
variable {s u v : State}

theorem State.QpWire.pumped (h : s.QpWire u) : s.QpPumped u := fun j => (h j).pumped

theorem State.QpPumped.refl (s : State) : s.QpPumped s := (State.QpWire.refl s).pumped

theorem State.QpPumped.trans (h : s.QpPumped u) (h' : u.QpPumped v) : s.QpPumped v := fun j => (h j).trans (h' j)

theorem State.qpPumped_setQp (i : Nat) {x : Qp} (h : (s.qp i).Pumped x) : s.QpPumped (s.setQp i x) := fun j => by
  by_cases hj : i = j
  · subst hj
    simpa using h
  · rw [State.qp_setQp, if_neg hj]
    exact (Qp.Wire.refl _).pumped

theorem State.qpPumped_sendMsg (s : State) (i : Nat) (m : SendMsg) : s.QpPumped (s.sendMsg i m) := by
  unfold State.sendMsg
  extract_lets q ps q2
  split
  · extract_lets p' r q'
    have h : s.QpPumped (s.setQp i q') := State.qpPumped_setQp i
      ⟨q.sent, _, q.txCount, q.retxCount, q.copying, _, _, _, q.sendQ, rfl⟩
    exact h.trans ((State.qpWire_sendPkt _ i _ false).trans (State.qpWire_qpChanged _ i)).pumped
  · have h : s.QpPumped (s.setQp i q2) := State.qpPumped_setQp i
      ⟨_, q.reads, q.txCount, q.retxCount, q.copying, _, _, _, q.sendQ, rfl⟩
    exact h.trans ((State.QpWire.each (fun u p => u.qpWire_sendPkt i p false) _).trans (State.qpWire_qpChanged _ i)).pumped

theorem State.qpPumped_pump (i n : Nat) (s : State) : s.QpPumped (State.pump i n s) := by
  induction n generalizing s with
  | zero => exact .refl s
  | succ n ih =>
    have hq : ∀ l, s.QpPumped (s.setQp i { s.qp i with sendQ := l }) := fun l => State.qpPumped_setQp i
      ⟨(s.qp i).sent, (s.qp i).reads, (s.qp i).txCount, (s.qp i).retxCount, (s.qp i).copying, (s.qp i).nPsn, (s.qp i).psnUsed,
        (s.qp i).ackTimer, l, rfl⟩
    unfold State.pump
    dsimp only
    split
    · exact .refl s
    · split
      · exact (hq _).trans ((State.qpPumped_sendMsg _ i _).trans (ih _))
      · split
        · exact .refl s
        · exact (hq _).trans (State.QpWire.of_frame (ps := [.nvme]) (State.frame_gateHeld _ (by simp))).pumped

theorem State.qpPumped_pumpAll (s : State) (i : Nat) : s.QpPumped (s.pumpAll i) := State.qpPumped_pump i _ s

end

end Sys2Proof.Machine
end
section
/-! SUPPORT. A queue pair that goes down (05 R182, R183), and what that leaves of the others. -/

namespace Sys2Proof.Machine

/-- A queue pair that has left RTR or RTS: in the error state, or after a disconnect by the host. -/
def Qp.failed (q : Qp) (now timeout : Nat) (host : Bool) : Qp :=
  { q with
    state := if host then 4 else 3, sendQ := [], sent := [], reads := [], resend := [], ackTimer := none, rnrUntil := none
    ackSince := none, openBytes := none, openCapsule := none, floorSince := none
    dreqAt := if host then none else some now
    freeAt := if host then some (now + 4 * timeout) else none }

section
variable (s : State) (i reason : Nat) (psn : Psn) (syndrome : Nat) (host : Bool)

/-- It goes down, and every other queue pair is as it was but for what goes out. -/
theorem State.qpFail_qp (h : (s.qp i).state = 1 ∨ (s.qp i).state = 2) :
    (s.setQp i ((s.qp i).failed s.now s.ackTimeout host)).QpWire (s.qpFail i reason psn syndrome host) := by
  obtain ⟨u, hu⟩ : ∃ u, u = (s.endQpCmds i).dropFrames i := ⟨_, rfl⟩
  have hf : s.Frame [.dict, .fab, .nvme, .sched, .arr, .slot] u := by
    rw [hu, State.frame_dropFrames i (by simp), State.frame_endQpCmds i (by simp)]
    exact State.Frame.refl _ s
  have ho : u.ackTimeout = s.ackTimeout := by
    have hd : ((s.endQpCmds i).dropFrames i).dict = (s.endQpCmds i).dict :=
      State.same_of_frame (State.frame_dropFrames (ps := [.sched]) i (by simp)) .dict
    have h4 : u.ob 0x3100 4 = s.ob 0x3100 4 := by
      rw [State.ob_eq, State.ob_eq, ← State.o_of_objs (State.objs_endQpCmds (s := s) (u := s) i) 0x3100 0 4, hu]
      simp only [State.o, State.val, hd]
    rw [State.ackTimeout, h4, State.ackTimeout]
  unfold State.qpFail
  extract_lets q cs ins kept lost cids wire e v rd w done x
  rw [if_pos h]
  have hv : v = u := hu.symm
  have hdone : done = (s.qp i).failed s.now s.ackTimeout host := by
    simp only [done, Qp.failed, q, show w.now = s.now from (congrArg State.now hv).trans (hf.same .now),
      show w.ackTimeout = s.ackTimeout from (congrArg State.ackTimeout hv).trans ho]
  have hw : w.rdma.qps = s.rdma.qps := by
    rw [show w.rdma.qps = v.rdma.qps from rfl, hv]
    exact congrArg RdmaState.qps (hf.same .rdma)
  have hx : x.rdma = (w.setQp i done).rdma :=
    State.same_of_frame (State.frame_qpErrorEvents (ps := [.out, .sess, .ev, .rings]) _ _ _ _ _ _ (by simp)) .rdma
  have hxq : ∀ j, x.qp j = (s.setQp i done).qp j := fun j => by
    rw [State.qp, hx]
    simp only [State.setQp, State.qp, hw]
  clear_value x
  rw [← hdone]
  refine .trans (fun j => ?_) (x.qpWire_enqueueCtl _ _ _)
  rw [hxq]
  exact .refl _

/-- A queue pair that is in neither RTR nor RTS does not go down. -/
theorem State.qpFail_of_not (h : ¬ ((s.qp i).state = 1 ∨ (s.qp i).state = 2)) : s.qpFail i reason psn syndrome host = s := if_neg h

theorem Qp.Wire.state_eq {q r : Qp} (h : q.Wire r) : r.state = q.state := by
  obtain ⟨a, b, c, d, e, rfl⟩ := h
  rfl

variable {i}

/-- Whatever goes down, a queue pair that is down stays as it is. -/
theorem State.qpFail_down (j : Nat) (h : ¬ ((s.qp i).state = 1 ∨ (s.qp i).state = 2)) :
    (s.qp i).Wire ((s.qpFail j reason psn syndrome host).qp i) := by
  by_cases hj : (s.qp j).state = 1 ∨ (s.qp j).state = 2
  · have hij : j ≠ i := fun e => h (e ▸ hj)
    have := s.qpFail_qp j reason psn syndrome host hj i
    rwa [State.qp_setQp, if_neg hij] at this
  · rw [s.qpFail_of_not j reason psn syndrome host hj]
    exact .refl _

theorem State.deleteCtrl_down (k : Nat) (h : ¬ ((s.qp i).state = 1 ∨ (s.qp i).state = 2)) : (s.qp i).Wire ((s.deleteCtrl k).qp i) := by
  have heach : ∀ (xs : List Nat) (v : State), ¬ ((v.qp i).state = 1 ∨ (v.qp i).state = 2) →
      (v.qp i).Wire ((v.each xs fun s j => s.qpFail j 8 0 0 false).qp i) := fun xs => by
    induction xs with
    | nil => exact fun v _ => .refl _
    | cons x xs ih =>
      intro v hv
      have h1 := v.qpFail_down 8 0 0 false x hv
      exact h1.trans (ih _ (by rwa [h1.state_eq]))
  unfold State.deleteCtrl
  extract_lets c qs nv v
  split
  · exact .refl _
  · have hr : ∀ (w : State) (a : Nat), (w.syncHost a).qp i = w.qp i := fun w a => rfl
    rw [hr]
    exact heach qs v h

theorem State.qpGone_down (j : Nat) (h : ¬ ((s.qp i).state = 1 ∨ (s.qp i).state = 2)) : (s.qp i).Wire ((s.qpGone j).qp i) := by
  unfold State.qpGone
  split
  · extract_lets c
    split
    · exact .refl _
    · split
      · exact s.deleteCtrl_down _ h
      · exact .refl _
  · exact .refl _

/-- A queue pair in RTR or RTS goes down. -/
theorem State.qpFail_qpGone (h : (s.qp i).state = 1 ∨ (s.qp i).state = 2) :
    ((s.qp i).failed s.now s.ackTimeout host).Wire (((s.qpFail i reason psn syndrome host).qpGone i).qp i) := by
  have h1 := s.qpFail_qp i reason psn syndrome host h i
  rw [State.qp_setQp, if_pos rfl] at h1
  refine h1.trans (State.qpGone_down _ i ?_)
  rw [h1.state_eq]
  cases host <;> simp [Qp.failed]

end

end Sys2Proof.Machine
end

section
/-! CLAIM. Temperatures, sidebands, indicator lines and inputs (18). -/

namespace Sys2Proof.Machine

/-! ### Thermal shutdown (18 Table 3) -/

/-- After the rails have gone off. -/
theorem State.railsOff_lost (s : State) :
    s.railsOff.pwr.off = true ∧ s.railsOff.arr.pages = [] ∧ s.railsOff.arr.intent = [] ∧ s.railsOff.twin.mirror = [] ∧
      s.railsOff.twin.linked = false ∧ s.railsOff.hbm = s.hbm.filter fun c => decide (0x10000000000 ≤ c.1) := by
  simp only [State.railsOff]
  split <;> simp

/-- The copy of a thermal shutdown changes the power state alone. -/
theorem State.startCopy_ev (s : State) (ledger : List LedgerPage) : (s.startCopy ledger).ev = s.ev :=
  State.same_of_frame (State.frame_startCopy (ps := [.pwr]) ledger (by simp)) .ev

/-- A thermal shutdown stops the drives, the fabric and an update and saves the events, which leaves the module in its mode; then it
yields to a peer, and cuts the power or starts a copy. -/
theorem thermalShutdown_eq {tj : Int} {s : State} (h : ¬ (s.pwr.off = true ∨ tj < 1150 ∨ s.land.hot = true ∨ s.pwr.storm = true)) :
    ∃ v : State, v.twin.twinMode = s.twin.twinMode ∧ v.ev.vault = v.ev.log.take 256 ∧ thermalShutdown tj s =
      if s.paired then (v.when v.twin.twinMode fun w => w.enterYield 0).railsOff
      else (v.when v.twin.twinMode fun w => w.enterYield 0).startCopy (v.when v.twin.twinMode fun w => w.enterYield 0).unarchived := by
  unfold thermalShutdown
  rw [if_neg h]
  extract_lets paired src s1 s2 s3 s4 s5 v
  refine ⟨v, State.same_of_others (p := .twinMode) ?_, by simp only [v, State.saveEvents], ?_⟩
  · simp [v, s5, s4, s3, s2, s1, State.frame_each]
  · simp only [State.when]
    rfl

/-! ### Inputs (R623) -/

/-- A bit that has been cleared reads 0. -/
theorem bit_clearBit (n k : Nat) : bit (clearBit n k) k = false := by
  unfold clearBit
  split
  · next h =>
    have hdiv : (n - 2 ^ k) / 2 ^ k = n / 2 ^ k - 1 := by simpa using Nat.sub_mul_div n (2 ^ k) 1
    simp only [bit, decide_eq_true_eq, decide_eq_false_iff_not, hdiv] at h ⊢
    omega
  · next h => simpa using h


theorem State.inputChange_few {s : State} {line sub k limit window : Nat}
    (h : (within s.now window (s.now :: Tbl.get [] s.land.changes line)).length ≤ limit) :
    s.inputChange line sub k limit window =
      { s with land := { s.land with
          changes := Tbl.set s.land.changes line (within s.now window (s.now :: Tbl.get [] s.land.changes line)) } } := by
  simp [State.inputChange, Nat.not_lt.2 h]

@[simp] theorem State.declareFaulty_land (s : State) (sub k : Nat) : (s.declareFaulty sub k).land = s.land :=
  State.same_of_frame (State.frame_declareFaulty (ps := [.out, .dict, .sess, .ev, .rings]) sub k (by simp)) .land

@[simp] theorem State.released_land (s : State) (n held : Nat) : (s.released n held).land = s.land :=
  State.same_of_frame (State.frame_released (ps := [.out, .dict, .sess, .ev, .rings]) n held (by simp)) .land

/-- When the last frame began, and its lamps and drive. -/
def State.lamps (s : State) : Option Nat × Nat × Nat × Nat := (s.land.frameAt, s.land.lamps, s.land.drive)

@[simp] theorem State.lamps_ite {c : Prop} {_ : Decidable c} (u v : State) :
    (if c then u else v).lamps = if c then u.lamps else v.lamps := by split <;> rfl

@[simp] theorem State.lamps_setButton (s : State) (n : Nat) (b : Button) : (s.setButton n b).lamps = s.lamps := rfl

@[simp] theorem State.lamps_declareFaulty (s : State) (sub k : Nat) : (s.declareFaulty sub k).lamps = s.lamps := by
  simp [State.lamps]

@[simp] theorem State.lamps_inputChange (s : State) (line sub k limit window : Nat) :
    (s.inputChange line sub k limit window).lamps = s.lamps := by
  simp only [State.inputChange]
  split
  · rw [State.lamps_declareFaulty]; rfl
  · rfl

@[simp] theorem State.lamps_released (s : State) (n held : Nat) : (s.released n held).lamps = s.lamps := by
  simp [State.lamps]

/-- The sample of a line leaves the lamps and the drive of the frame. -/
@[simp] theorem State.lamps_sense (s : State) (n mv : Nat) : (s.sense n mv).lamps = s.lamps := by
  simp only [State.sense]
  split
  · rfl
  · simp

@[simp] theorem State.lamps_each_sense (xs : List Nat) (mv : Nat → Nat) (s : State) :
    (s.each xs fun s n => s.sense n (mv n)).lamps = s.lamps := by
  unfold State.each
  induction xs generalizing s with
  | nil => rfl
  | cons a xs ih => rw [List.foldl_cons, ih, State.lamps_sense]

/-- A frame is due: none has run, or the last began 1 ms ago. -/
def State.frameDue (s : State) : Bool :=
  match s.land.frameAt with
  | some u => dueAt s.now u msNs
  | none => true

/-- A frame that is due lights the lamps that are to be lit, with the drive of a test while one runs. -/
theorem indicatorFrame_lamps {s : State} (sense drive : List Nat) (h : s.frameDue = true) :
    (indicatorFrame sense drive s).lamps = (some s.now, sumNat (((List.range 48).filter s.lampOn).map fun n => 2 ^ n),
      if s.testing then (10, 100) else (s.ob 0x5220 1, s.ob 0x5220 2)) := by
  have hif : indicatorFrame sense drive s = if s.frameDue then _ else s := rfl
  rw [hif, if_pos h, State.lamps_each_sense, State.lamps_ite]
  exact ite_self _

/-- Clearing the faults of inputs where no cage or reset line is faulty. -/
theorem clearFaults_of_none {s : State} (h1 : ∀ n, n < 8 → s.inputFaulty 1 n = false) (h2 : ∀ n, n < 2 → s.inputFaulty 2 n = false) :
    clearFaults s = (((({ s with land := { s.land with changes := [] } } : State).put 0x5223 0 1 0).put 0x5223 0 2 0).put
      0x5223 0 3 0 |>.put 0x5223 0 4 0).each [0, 1] State.syncMgmt := by
  have e1 : (List.range 8).filter (s.inputFaulty 1) = [] := List.filter_eq_nil_iff.2 fun n hn => by simp [h1 n (List.mem_range.1 hn)]
  have e2 : (List.range 2).filter (s.inputFaulty 2) = [] := List.filter_eq_nil_iff.2 fun n hn => by simp [h2 n (List.mem_range.1 hn)]
  simp only [clearFaults, e1, e2]
  rfl

@[simp] theorem State.syncMgmt_o {s : State} {p i k : Nat} (h : objKey 0x1111 0 (1 + p) ≠ objKey i 0 k) :
    (s.syncMgmt p).o i 0 k = s.o i 0 k := by
  unfold State.syncMgmt
  split
  · rfl
  · rw [State.o_put, if_neg h]

@[simp] theorem State.syncMgmt_land (s : State) (p : Nat) : (s.syncMgmt p).land = s.land := by
  unfold State.syncMgmt
  split <;> simp

/-- Settles O53, command by command. -/
theorem landActs : Obligations.LandActs := by
  intro s t sess hp
  refine ⟨fun tj h hw => ?warn, fun tj w h hw hl => ?again, fun tj h => ?clear, fun tj h hh hs hpd => ?paired,
    fun tj h hh hs hm => ?solo, fun p h2 hb hf hc => ?sideband, fun p k h2 hk hl => ?link, fun sense drive hf => ?frame,
    fun hw hs => ?test, fun w hw hl ho => ?testEnd, fun w n k hw hl ho hk => ?testOpen, fun n hn => ?pulse,
    fun hw h1 h2 => ?faulty⟩
  case warn =>
    have hf : thermalWarning tj (s.at t) =
        { ((s.at t).setVal 0x2006 0 0 (.int tj)).put 0x2007 0 6 1 with
          land := { s.land with warnedAt := some (max s.now t) } }.raise .thermalWarning [tj.toNat] := by
      simp [thermalWarning, Int.not_lt.2 h, hw]
    refine done_act rfl rfl hp fun u hu => ?_
    rw [hf] at hu
    refine ⟨?_, ?_, ?_, ?_, ?_, ?_⟩
    · simp [hu]
    · simp [hu]
    · simp [hu]
    · rw [hu]
      exact State.told_raise _ _ _
    · simp [hu, State.otherObjects_iff]
    · exact State.Frame.eq (s := s) (ps := Part.logs ++ [.land]) (by simp [hu])
  case again =>
    refine done_act rfl rfl hp fun u hu => ?_
    rw [hu, thermalWarning, if_neg (Int.not_lt.2 h)]
    simp [hw, dueAt, Nat.not_le.2 hl]
    rfl
  case clear =>
    refine done_act rfl rfl hp fun u hu => ?_
    rw [hu, thermalWarningClear, if_pos h]
    rfl
  case paired =>
    obtain ⟨v, -, -, hv⟩ := thermalShutdown_eq (s := s.at t) (tj := tj) (by simp [hp, hh, hs, Int.not_lt.2 h])
    have hpd : (s.at t).paired = true := hpd
    refine done_actAll rfl rfl fun u hu => ?_
    rw [hv, if_pos hpd] at hu
    simp [hu, State.railsOff_lost]
  case solo =>
    obtain ⟨v, hmode, hvault, hv⟩ := thermalShutdown_eq (s := s.at t) (tj := tj) (by simp [hp, hh, hs, Int.not_lt.2 h])
    have hpd : ¬ (s.at t).paired = true := by simp [State.paired, hm]
    have hmode : v.twin.twinMode = false := hmode.trans hm
    refine done_actAll rfl rfl fun u hu => ?_
    rw [hv, if_neg hpd] at hu
    simp [hu, State.when, hmode, State.startCopy_ev, hvault]
  case sideband =>
    have hlevel : bit (s.at t).land.mgmt (mgmtBit p .prs) ≠ false := by simpa [mgmtBit] using hb
    refine done_actPin (t := t) (pin := fun u => u.mgmtPin p .prs false) (f := managementSidebandChange p .prs false) rfl
      (decide_eq_true h2) hp fun u hu => ?_
    rw [managementSidebandChange, if_neg hlevel, State.inputChange_few (by simpa [State.mgmtPin, mgmtBit] using hc),
      State.syncMgmt, if_neg ?absent] at hu
    case absent =>
      have hf : bit (s.o 0x5223 0 3) (2 * p) = false := hf
      simp [State.mgmtMayLink, State.inputFaulty, State.mgmtPin, mgmtBit, hf, bit_clearBit]
    refine ⟨?_, ?_, ?_, ?_⟩
    · simp [hu, State.mgmtPin, mgmtBit]
    · simp [hu]
    · simp [hu, State.otherObjects_iff, State.mgmtPin]
    · exact State.Frame.eq (s := s) (ps := Part.logs ++ [.land]) (by simp [hu, State.mgmtPin])
  case link =>
    refine done_act rfl (decide_eq_true ⟨h2, hk⟩) hp fun u hu => ?_
    rw [hu, managementLinkChange, if_pos (.inr hl)]
    rfl
  case frame =>
    refine done_act rfl rfl hp fun u hu => ?_
    have hdue : State.frameDue (s.at t) = true := by
      simp only [State.frameDue, State.at_land, hf]
    have hl : u.lamps = _ := (congrArg State.lamps hu).trans (indicatorFrame_lamps sense drive hdue)
    simpa [State.lamps] using hl
  case test =>
    have hf : startLampTest (s.at t) = { s.at t with land := { s.land with testAt := some (max s.now t), frames := 0, opens := [] } } := by
      simp [startLampTest, hs]
    refine done_writeAs rfl rfl hp hw rfl fun u hu => ?_
    rw [hf] at hu
    refine ⟨?_, ?_, ?_, ?_⟩
    · simp [hu]
    · simp [hu, State.answered]
    · simp [hu, State.otherObjects_iff]
    · exact State.Frame.eq (s := s) (ps := Part.logs ++ [.np, .land]) (by simp [hu])
  case testEnd =>
    have hf : lampTestEnd (s.at t) = { s.at t with land := { s.land with testAt := none } }.put 0x5220 0 4 0 := by
      simp [lampTestEnd, hw, dueAt, hl, ho, sumNat]
    refine done_act rfl rfl hp fun u hu => ?_
    rw [hf] at hu
    refine ⟨?_, ?_, ?_, ?_⟩
    · simp [hu]
    · simp [hu]
    · simp [hu, State.otherObjects_iff]
    · exact State.Frame.eq (s := s) (ps := Part.logs ++ [.land]) (by simp [hu])
  case testOpen =>
    have hf : lampTestEnd (s.at t) =
        ({ s.at t with land := { s.land with testAt := none } }.put 0x5220 0 4 (2 ^ n)).raise .lampOpen [2 ^ n] := by
      simp [lampTestEnd, hw, dueAt, hl, ho, hk, sumNat]
    refine done_act rfl rfl hp fun u hu => ?_
    rw [hf] at hu
    refine ⟨?_, ?_, ?_⟩
    · simp [hu]
    · rw [hu]
      exact State.told_raise _ _ _
    · exact State.Frame.eq (s := s) (ps := Part.logs ++ [.land]) (by simp [hu])
  case pulse => exact done_act rfl (decide_eq_true hn) hp fun u hu => hu
  case faulty =>
    refine done_writeAs rfl rfl hp hw rfl fun u hu => ?_
    rw [clearFaults_of_none (s := s.at t) h1 h2] at hu
    refine ⟨fun k h1 h4 => ?_, ?_, ?_, ?_⟩
    · have hk : k = 1 ∨ k = 2 ∨ k = 3 ∨ k = 4 := by omega
      obtain rfl | rfl | rfl | rfl := hk <;> simp [hu, State.each]
    · simp [hu, State.each]
    · simp [hu, State.answered]
    · exact State.Frame.eq (s := s) (ps := Part.logs ++ [.np, .land]) (by simp [hu, State.each])

end Sys2Proof.Machine
end

section
/-! CLAIM. Module memory keeps its canonical form (12, 13, 15). -/

namespace Sys2Proof.Machine

/-! ### Operations that do not touch module memory -/

/-- Module memory is canonical: said of a state whose memory is that of some state of which it holds, so that what leaves memory alone
is a frame. -/
def State.Canon (u : State) : Prop := ∃ s : State, s.memoryOk ∧ s.Frame (Part.others .hbm) u

theorem State.canon_iff {u : State} : u.Canon ↔ u.memoryOk := by
  refine ⟨fun ⟨s, hs, hf⟩ => ?_, fun h => ⟨u, h, State.Frame.refl _ u⟩⟩
  have hbm : u.hbm = s.hbm := hf .hbm (by simp)
  rwa [State.memoryOk, hbm]

theorem State.Canon.of_hbm {u v : State} (h : u.Canon) (hv : v.hbm = u.hbm) : v.Canon := by
  rw [State.canon_iff, State.memoryOk, hv]
  exact State.canon_iff.1 h

theorem State.Canon.each {α : Type} {xs : List α} {f : State → α → State} {u : State} (h : u.Canon)
    (hf : ∀ v a, v.Canon → (f v a).Canon) : (u.each xs f).Canon := by
  unfold State.each
  induction xs generalizing u with
  | nil => exact h
  | cons a xs ih => exact ih (hf u a h)

theorem State.Canon.when {u : State} {c : Bool} {f : State → State} (h : u.Canon) (hf : u.Canon → (f u).Canon) : (u.when c f).Canon := by
  cases c
  · exact h
  · exact hf h

/-- A write of bytes keeps memory canonical. -/
theorem State.Canon.write {u : State} (h : u.Canon) (a v n : Nat) : State.Canon { u with hbm := Memory.writeN u.hbm a v n } :=
  State.canon_iff.2 (Memory.wf_writeN a v n (State.canon_iff.1 h))

theorem Memory.above_filter {a : Nat} {m : List Host.Cell} (p : Host.Cell → Bool) (h : Memory.above a m) (hw : Memory.wf m = true) :
    Memory.above a (m.filter p) := by
  induction m with
  | nil => exact h
  | cons e r ih =>
    obtain ⟨k, c⟩ := e
    obtain ⟨-, hr, hwr⟩ := Memory.wf_cons.1 hw
    rw [List.filter_cons]
    split
    · exact h
    · exact ih (Memory.above_trans h hr) hwr

/-- The bytes that a loss of HBM leaves are in canonical form. -/
theorem Memory.wf_filter {m : List Host.Cell} (p : Host.Cell → Bool) (h : Memory.wf m = true) : Memory.wf (m.filter p) = true := by
  induction m with
  | nil => exact h
  | cons e r ih =>
    obtain ⟨k, c⟩ := e
    obtain ⟨hc, hr, hw⟩ := Memory.wf_cons.1 h
    rw [List.filter_cons]
    split
    · exact Memory.wf_cons.2 ⟨hc, Memory.above_filter p hr hw, ih hw⟩
    · exact ih hw

/-! ### Cells (03) -/

theorem State.Canon.endRecord {u : State} (h : u.Canon) (f : Flow) (x : Reseq) (byLoss : Bool) : (u.endRecord f x byLoss).Canon := by
  unfold State.endRecord
  extract_lets v v1 v2
  have hv : v.Canon := by simpa [State.Canon, v, State.frame_when] using h
  have hv2 : v2.Canon := by simpa [State.Canon, v2, v1, State.frame_when] using hv
  split_ifs
  · simpa [State.Canon] using hv
  · simpa [State.Canon] using hv2
  · exact hv.write _ _ _
  · exact hv

theorem State.Canon.setReseq {u : State} (h : u.Canon) (f : Flow) (x : Reseq) : (u.setReseq f x).Canon := by
  simpa [State.Canon] using h

theorem State.Canon.deliverCell {u : State} (h : u.Canon) (c : Cell) : (u.deliverCell c).Canon := by
  unfold State.deliverCell
  dsimp only
  have hv : ((u.setReseq c.flow ((u.reseq c.flow).take c)).emit (.deliver c)).Canon := by simpa [State.Canon] using h
  split_ifs
  · simpa [State.Canon] using h
  · simpa [State.Canon] using h
  · exact hv.endRecord _ _ _
  · exact hv

theorem State.Canon.drain {u : State} (h : u.Canon) (f : Flow) (n : Nat) : (State.drain f n u).Canon := by
  induction n generalizing u with
  | zero => exact h
  | succ n ih =>
    unfold State.drain
    dsimp only
    split
    · exact h
    · exact ih (State.Canon.deliverCell (by simpa [State.Canon] using h) _)

theorem State.Canon.endStomped {u : State} (h : u.Canon) (f : Flow) : (u.endStomped f).Canon := by
  unfold State.endStomped
  dsimp only
  split_ifs
  · exact State.Canon.endRecord (by simpa [State.Canon] using h) _ _ _
  · exact h

theorem State.Canon.declareLost {u : State} (h : u.Canon) (f : Flow) (sub n : Nat) : (u.declareLost f sub n).Canon := by
  unfold State.declareLost
  dsimp only
  split_ifs
  · exact h
  all_goals
    have hv : ((u.add 0x2102 f.dst sub n).endStomped f).Canon := State.Canon.endStomped (by simpa [State.Canon] using h) f
    simpa [State.Canon] using hv

theorem State.Canon.advanceTo {u : State} (h : u.Canon) (f : Flow) (fuel left : Nat) : (State.advanceTo f fuel left u).Canon := by
  induction fuel generalizing u left with
  | zero => exact h
  | succ n ih =>
    unfold State.advanceTo
    extract_lets x gap
    split_ifs
    · exact h
    · split
      · exact h
      · exact ih (State.Canon.deliverCell (State.Canon.setReseq h _ _) _) _
    · exact ih (h.declareLost _ _ _) _

theorem State.Canon.acceptCell {u : State} (h : u.Canon) (c : Cell) : (u.acceptCell c).Canon := by
  have hretime : ∀ {v : State}, v.Canon → ∀ f b, (v.retime f b).Canon := fun hv f b => by simpa [State.Canon] using hv
  unfold State.acceptCell
  dsimp only
  split_ifs
  · simpa [State.Canon] using h
  · exact hretime (((h.setReseq _ _).deliverCell c).drain _ _) _ _
  · exact h
  · exact hretime (h.setReseq _ _) _ _
  · exact hretime (((h.advanceTo _ _ _).setReseq _ _).drain _ _) _ _

theorem State.Canon.newEpoch {u : State} (h : u.Canon) (f : Flow) (e : Nat) : (u.newEpoch f e).Canon := by
  have hv : ((u.add 0x2102 f.dst 5 (u.reseq f).held.length).endStomped f).Canon :=
    State.Canon.endStomped (by simpa [State.Canon] using h) f
  simpa [State.Canon, State.newEpoch] using hv

theorem State.Canon.cellArrival {u : State} (h : u.Canon) (plane dst flips : Nat) (payload : PayloadCheck) (transitPs : Nat) :
    (Machine.cellArrival plane dst flips payload transitPs u).Canon := by
  unfold Machine.cellArrival
  split
  · exact h
  · extract_lets v1 failed v2 body c v3 v4 v5
    have h1 : v1.Canon := by simpa [State.Canon, v1] using h
    have h2 : v2.Canon := by
      simp only [v2]
      split_ifs
      · simpa [State.Canon] using h1
      · exact h1
    have h3 : v3.Canon := by
      simp only [v3]
      split_ifs
      · simpa [State.Canon] using h2
      · exact h2
    have h5 : v5.Canon := by simpa [State.Canon, v5, v4, State.frame_when] using h3
    split_ifs
    · simpa [State.Canon] using h3
    · exact h5.acceptCell c
    · exact (h5.newEpoch _ _).acceptCell c
    · simpa [State.Canon] using h5

theorem State.Canon.resequencerTimeout {u : State} (h : u.Canon) (f : Flow) : (Machine.resequencerTimeout f u).Canon := by
  unfold Machine.resequencerTimeout
  dsimp only
  split
  · next t0 gap _ _ =>
    split_ifs
    · exact h
    · have hv := (h.declareLost f 2 gap).drain f 1024
      simpa [State.Canon] using hv
  · exact h

/-! ### DMA data, completions and near hosts (11, 12, 13) -/

theorem State.Canon.dmaWrite {u : State} (h : u.Canon) (c : Nat) (d : BitVec 256) (off len : Nat) (data : Content) :
    (u.dmaWrite c d off len data).Canon := by
  unfold State.dmaWrite
  dsimp only
  split
  · exact h
  · split
    · split
      · exact h.write _ _ _
      · exact h.write _ _ _
    · simpa [State.Canon, State.frame_each] using h
    · simpa [State.Canon, State.frame_each] using h
    · exact h

theorem State.Canon.dmaData {u : State} (h : u.Canon) (c run n : Nat) (ok : Bool) (data : Content) :
    (u.dmaData c run n ok data).Canon := by
  unfold State.dmaData
  dsimp only
  split
  · exact h
  · split
    · exact h
    · next d r hw =>
      split
      · have hv := h.dmaWrite c d (u.chan c).moved n data
        simpa [State.Canon] using hv
      · simpa [State.Canon] using h

theorem State.Canon.slotCompletion {u : State} (h : u.Canon) (n tag : Nat) (st : CplStatus) (poisoned : Bool) (data : Content) :
    (Machine.slotCompletion n tag st poisoned data u).Canon := by
  have hset : ∀ x, (u.setSlot n x).Canon := fun x => by simpa [State.Canon] using h
  have hask : ∀ v : State, v.Canon → (v.each (List.range 64) State.dmaAsk).Canon := fun v hv => by
    simpa [State.Canon, State.frame_each] using hv
  have hdata : ∀ v : State, v.Canon → ∀ o : Option (Nat × Nat × Nat), State.Canon (match o with
      | some (c, run, k) => v.dmaData c run k (!poisoned && decide (st = CplStatus.successful)) data
      | none => v) := fun v hv o => by
    split
    · exact hv.dmaData _ _ _ _ _
    · exact hv
  unfold Machine.slotCompletion
  dsimp only
  cases he : Tbl.find? (u.slotS n).tags tag with
  | none => simpa [State.Canon] using h
  | some e =>
    dsimp only
    split_ifs
    · simpa [State.Canon] using h
    · simpa [State.Canon] using h
    · exact hask _ (hdata _ (by simpa [State.Canon] using h) e.dma)
    · exact hask _ (hdata _ (hset _) e.dma)

theorem State.Canon.completionTimeout {u : State} (h : u.Canon) (n tag : Nat) : (Machine.completionTimeout n tag u).Canon := by
  unfold Machine.completionTimeout
  extract_lets x due
  split
  · next e he =>
    split
    · extract_lets tags v1 v2 v3
      have h1 : v1.Canon := by simpa [State.Canon, v1] using h
      have h2 : v2.Canon := by
        simp only [v2]
        split_ifs
        · simpa [State.Canon] using h1
        · exact h1
      have h3 : v3.Canon := by
        simp only [v3]
        split
        · exact h2.dmaData _ _ _ _ _
        · exact h2
      split_ifs
      · simpa [State.Canon] using h3
      · exact h3
    · exact h
  · exact h

theorem State.Canon.npFailed {u : State} (h : u.Canon) (p : Nat) (w : NpPurpose) : (u.npFailed p w).Canon := by
  cases w with
  | sqEntry | writeData => simpa [State.Canon, State.npFailed] using h
  | copyJob c run n _ => exact h.dmaData c run n false 0
  | chain => exact h

theorem State.Canon.npCompletion {u : State} (h : u.Canon) (p tag : Nat) (status : CplStatus) (poisoned : Bool)
    (entry : Option Capsule) (data : Content) : (Machine.npCompletion p tag status poisoned entry data u).Canon := by
  unfold Machine.npCompletion
  split
  · simpa [State.Canon] using h
  · next x hx =>
    have hf : (u.freeTag p tag).Canon := by simpa [State.Canon] using h
    dsimp only
    split_ifs
    · simpa [State.Canon] using h
    · simpa [State.Canon] using h
    · unfold npDelivered
      split_ifs
      · exact State.Canon.npFailed (by simpa [State.Canon] using h) _ _
      · exact hf.npFailed _ _
      · split
        · simpa [State.Canon] using hf
        · simpa [State.Canon] using hf
        · simpa [State.Canon] using hf
        · exact hf.dmaData _ _ _ _ _
        · exact hf

theorem State.Canon.npBar2Access {u : State} (h : u.Canon) (p offset len : Nat) (w : Option Content) (poisoned malformed : Bool) :
    (Machine.npBar2Access p offset len w poisoned malformed u).Canon := by
  unfold Machine.npBar2Access
  dsimp only
  split_ifs
  · exact h
  · simpa [State.Canon] using h
  · simpa [State.Canon] using h
  · exact h
  · simpa [State.Canon] using h
  · simpa [State.Canon] using h
  · simpa [State.Canon] using h
  all_goals
    split
    · exact h.write _ _ _
    · simpa [State.Canon] using h
    · simpa [State.Canon] using h

theorem State.Canon.dmaDescriptorComplete {u : State} (h : u.Canon) (c : Nat) : (Machine.dmaDescriptorComplete c u).Canon := by
  unfold Machine.dmaDescriptorComplete
  extract_lets x
  split
  · exact h
  · next k d rest hw =>
    extract_lets remote v1 v2 v3 v4
    have h1 : v1.Canon := by
      simp only [v1]
      split_ifs
      · exact h
      · exact h.dmaWrite _ _ _ _ _
    have h3 : v3.Canon := by simpa [State.Canon, v3, v2] using h1
    have h4 : v4.Canon := by
      simp only [v4]
      split
      · split_ifs
        · simpa [State.Canon] using h3
        · exact h3
      · exact h3
    split
    · simpa [State.Canon] using h
    · split_ifs
      · exact h
      · simpa [State.Canon] using h4

/-! ### The loss of power (15) -/

theorem State.Canon.railsOff {u : State} (h : u.Canon) : u.railsOff.Canon := by
  obtain ⟨-, -, -, -, -, hbm⟩ := u.railsOff_lost
  rw [State.canon_iff, State.memoryOk, hbm]
  exact Memory.wf_filter _ (State.canon_iff.1 h)

theorem State.Canon.endCopy {u : State} (h : u.Canon) (result : Nat) : (u.endCopy result).Canon := by
  unfold State.endCopy
  refine State.Canon.railsOff ?_
  split
  · exact h
  · split <;> simpa [State.Canon] using h

theorem State.Canon.thermalShutdown {u : State} (h : u.Canon) (tj : Int) : (Machine.thermalShutdown tj u).Canon := by
  unfold Machine.thermalShutdown
  split
  · exact h
  · extract_lets paired src v1 v2 v3 v4 v5 v6 v7
    have h6 : v6.Canon := by simpa [State.Canon, v6, v5, v4, v3, v2, v1, State.frame_each] using h
    have h7 : v7.Canon := by
      simp only [v7]
      split_ifs
      · simpa [State.Canon] using h6
      · exact h6
    split
    · exact h7.railsOff
    · simpa [State.Canon] using h7

/-! ### Every command -/

/-- The next state of a command whose effect keeps module memory canonical. -/
theorem memoryOk_of_actMem {i : Instr} {s u : State} {t : Nat} {ok : Bool} {f : State → State} (hs : s.memoryOk)
    (h : exec i s = .next u) (hi : exec i s = actMem t ok s f) (hf : (s.at t).Canon → (f (s.at t)).Canon) : u.memoryOk := by
  obtain ⟨-, -, -, ⟨-, rfl⟩ | ⟨-, hon, rfl⟩⟩ := actMem_next (hi ▸ h)
  · exact hs
  · exact (State.canon_iff (u := f (s.at t))).1 (hf (State.canon_iff.2 hs))

theorem memoryOk_of_actAll {i : Instr} {s u : State} {t : Nat} {f : State → State} (hs : s.memoryOk)
    (h : exec i s = .next u) (hi : exec i s = actAll t true s f) (hf : (s.at t).Canon → (f (s.at t)).Canon) : u.memoryOk := by
  obtain ⟨-, -, ⟨-, rfl⟩ | ⟨-, rfl⟩⟩ := actAll_next (hi ▸ h)
  · exact hs
  · exact (State.canon_iff (u := f (s.at t))).1 (hf (State.canon_iff.2 hs))

theorem exec_memoryOk {i : Instr} {s u : State} (hs : s.memoryOk) (h : exec i s = .next u) : u.memoryOk := by
  by_cases hm : movesData i = true
  · cases i with
    | cellArrival => exact memoryOk_of_actMem hs h rfl fun hc => hc.cellArrival _ _ _ _ _
    | resequencerTimeout => exact memoryOk_of_actMem hs h rfl fun hc => hc.resequencerTimeout _
    | npCompletion => exact memoryOk_of_actMem hs h rfl fun hc => hc.when fun hc => hc.npCompletion _ _ _ _ _ _
    | npBar2Access => exact memoryOk_of_actMem hs h rfl fun hc => hc.npBar2Access _ _ _ _ _ _
    | dmaDescriptorComplete => exact memoryOk_of_actMem hs h rfl fun hc => hc.dmaDescriptorComplete _
    | slotCompletion => exact memoryOk_of_actMem hs h rfl fun hc => hc.when fun hc => hc.slotCompletion _ _ _ _ _
    | completionTimeout => exact memoryOk_of_actMem hs h rfl fun hc => hc.completionTimeout _ _
    | _ => cases hm
  · by_cases hr : runsUnpowered i = true
    · have hframe : ∀ {t : Nat} {f : State → State}, exec i s = actAll t true s f →
          (∀ r v : State, r.Frame (Part.others .hbm) (f v) ↔ r.Frame (Part.others .hbm) v) → u.memoryOk := fun hi hf =>
        memoryOk_of_actAll hs h hi fun ⟨r, hr, hv⟩ => ⟨r, hr, (hf r _).2 hv⟩
      cases i with
      | vaultCopyComplete =>
        refine memoryOk_of_actAll hs h rfl fun hc => ?_
        simp only [Machine.vaultCopyComplete]
        split
        · exact hc.endCopy 1
        · exact hc
      | holdupPathTrip =>
        refine memoryOk_of_actAll hs h rfl fun hc => ?_
        simp only [Machine.holdupPathTrip]
        split
        · refine State.Canon.endCopy ?_ 3
          exact hc.of_hbm rfl
        · exact hc
      | copyCutOff =>
        refine memoryOk_of_actAll hs h rfl fun hc => ?_
        simp only [Machine.copyCutOff]
        split
        · exact hc.endCopy 2
        · exact hc
      | thermalShutdown => exact memoryOk_of_actAll hs h rfl fun hc => hc.thermalShutdown _
      | stormWarning => exact hframe rfl fun r v => by simp
      | vinQualified => exact hframe rfl fun r v => by simp
      | inputPowerGood => exact hframe rfl fun r v => by simp
      | inrushFaultTimer => exact hframe rfl fun r v => by simp
      | earlyShort => exact hframe rfl fun r v => by simp
      | inputSquallTrip => exact hframe rfl fun r v => by simp
      | overvoltageLockout => exact hframe rfl fun r v => by simp
      | overvoltageRelease => exact hframe rfl fun r v => by simp
      | undervoltageLockout => exact hframe rfl fun r v => by simp
      | inputRetry => exact hframe rfl fun r v => by simp
      | stormRestart => exact hframe rfl fun r v => by simp
      | thermalRestart => exact hframe rfl fun r v => by simp
      | boot => exact hframe rfl fun r v => by simp
      | _ => exact absurd hr nofun
    · rw [State.memoryOk, exec_hbm (by simpa using hm) (by simpa using hr) h]
      exact hs

/-- Settles O6: every command keeps module memory canonical, since it writes bytes, loses some or leaves it. -/
theorem memoryInvariant : Obligations.MemoryInvariant := by
  intro s u hs h
  obtain rfl | ⟨i, rest, -, hi⟩ := step_cases h
  · exact hs
  · exact exec_memoryOk (s := { s with pending := rest }) hs hi

end Sys2Proof.Machine
end

section
/-! CLAIM. The input switch, its faults and the end of a storm (15 R512 to R543). -/

namespace Sys2Proof.Machine

/-! ### Faults -/

/-- A counter of 64 bits saturates as `satAdd` says. -/
theorem satAt_eq_satAdd {i k : Nat} (a n : Nat) (h : Dict.counterMax i k = 2 ^ 64 - 1) : satAt i k a n = satAdd a n := by
  rw [satAt, h, satAdd]

/-- The counters of the input switch have 64 bits. -/
theorem counterMax_input : Dict.counterMax 0x2200 8 = 2 ^ 64 - 1 ∧ Dict.counterMax 0x2200 0xA = 2 ^ 64 - 1 ∧
    Dict.counterMax 0x2200 0xB = 2 ^ 64 - 1 := by
  decide

/-- The state of the power after an input fault that ends no service. -/
def PowerState.faulted (p : PowerState) (now cause limit wait : Nat) : PowerState :=
  let fs := now :: within now (60 * sNs) p.faults
  { p with
    gate := false, good := false, lost := true, cause := cause, faults := fs
    latched := p.latched || decide (limit < fs.length), lockout := p.lockout || decide (cause = 4)
    retryAt := if decide (limit < fs.length) = true ∨ cause = 4 then none else some (now + wait) }

@[simp] theorem PowerState.faulted_storm (p : PowerState) (now cause limit wait : Nat) :
    (p.faulted now cause limit wait).storm = p.storm ∧ (p.faulted now cause limit wait).flushAll = p.flushAll :=
  ⟨rfl, rfl⟩

/-- An input fault before power-good opens the switch and keeps its cause; the counter of faults goes on. -/
theorem State.inputFaults_early (s : State) (cause : Nat) :
    s.inputFaults cause false =
      { (s.bump 0x2200 0 8).emit (.inputSwitch false) with
        pwr := s.pwr.faulted s.now cause (s.ob 0x2200 7) (s.ob 0x2200 6 * msNs) } := by
  simp [State.inputFaults, State.openSwitch, PowerState.faulted]

theorem State.startMv_lt {s : State} {mv : Nat} : s.startMv < mv ↔ 34000 < mv ∧ s.o 0x2201 0 4 * 100 + 2000 < mv := max_lt_iff

/-! ### The end of a copy -/

@[simp] theorem State.archiveAll_pwr (s : State) : s.archiveAll.pwr = s.pwr :=
  State.same_of_frame (State.frame_archiveAll (ps := Part.logs ++ [.meter]) (by simp)) .pwr

@[simp] theorem State.archiveAll_o_2201 (s : State) (r k : Nat) : s.archiveAll.o 0x2201 r k = s.o 0x2201 r k :=
  State.o_of_objs State.objs_archiveAll _ _ _

/-- A loss of the rails leaves every object and every copy. -/
theorem State.railsOff_kept (s : State) :
    s.railsOff.dict = s.dict ∧ s.railsOff.pwr.regions = s.pwr.regions ∧ s.railsOff.pwr.cause = s.pwr.cause ∧
      s.railsOff.pwr.copyTo = none ∧ s.railsOff.pwr.holdup = false ∧ s.railsOff.land.lamps = 0 := by
  unfold State.railsOff State.npRestart
  dsimp only
  split <;> exact ⟨rfl, rfl, rfl, rfl, rfl, rfl⟩

@[simp] theorem State.railsOff_copyRegion (s : State) (k : Nat) : s.railsOff.copyRegion k = s.copyRegion k := by
  simp [State.copyRegion, State.railsOff_kept]

@[simp] theorem State.railsOff_o (s : State) (i r k : Nat) : s.railsOff.o i r k = s.o i r k := by
  simp [State.o, State.val, State.railsOff_kept]

/-- A copy that ends with result 1 closes its region; with another it has no page. -/
theorem State.endCopy_region {s : State} {k : Nat} (result : Nat) (hk : s.pwr.copyTo = some k) :
    (s.endCopy result).copyRegion k =
      if result = 1 then { s.copyRegion k with
        state := 2, doneTime := s.ptpNow, bytes := (s.copyRegion k).total (s.ob 0x1018 4)
        digest := (s.copyRegion k).digestOf (s.ob 0x1018 4) }
      else { s.copyRegion k with state := 3, intents := [], pages := [], taken := [] } := by
  have hr : ∀ (v : State) (c : CopyRegion), (v.setRegion k c).copyRegion k = c := fun v c => by
    simp [State.copyRegion, State.setRegion]
  simp only [State.endCopy, hk]
  split
  · have hcopy : ∀ v : State, v.archiveAll.copyRegion k = v.copyRegion k := fun v => by simp [State.copyRegion]
    rw [State.railsOff_copyRegion, hcopy, hr]
    simp
    rfl
  · simp [hr]

theorem State.endCopy_result {s : State} {k : Nat} (result : Nat) (hk : s.pwr.copyTo = some k) :
    (s.endCopy result).ob 0x2201 8 = result := by
  simp only [State.endCopy, hk]
  split <;> simp [State.setRegion]

theorem State.endCopy_hbm (s : State) (result : Nat) :
    (s.endCopy result).hbm = s.hbm.filter fun c => decide (0x10000000000 ≤ c.1) := by
  obtain ⟨-, -, -, -, -, hbm⟩ := State.railsOff_lost _
  refine hbm.trans (congrArg _ ?_)
  split
  · rfl
  · split
    · exact State.same_of_frame (u := s) (ps := Part.logs ++ [.meter, .pwr]) (by simp) .hbm
    · rfl

theorem State.endCopy_cause (s : State) (result : Nat) : (s.endCopy result).pwr.cause = s.pwr.cause := by
  obtain ⟨-, -, hcause, -, -, -⟩ := State.railsOff_kept _
  refine hcause.trans ?_
  split
  · rfl
  · split <;> simp [State.setRegion]

theorem State.endCopy_off (s : State) (result : Nat) :
    (s.endCopy result).pwr.off = true ∧ (s.endCopy result).arr.pages = [] ∧ (s.endCopy result).arr.intent = [] ∧
      (s.endCopy result).twin.mirror = [] ∧ (s.endCopy result).pwr.copyTo = none ∧ (s.endCopy result).pwr.holdup = false ∧
      (s.endCopy result).land.lamps = 0 := by
  obtain ⟨h1, h2, h3, h4, -, -⟩ := State.railsOff_lost _
  obtain ⟨-, -, -, h5, h6, h7⟩ := State.railsOff_kept _
  exact ⟨h1, h2, h3, h4, h5, h6, h7⟩

/-- The parts that the end of a copy moves. -/
theorem State.endCopy_eq {s u v : State} (t result : Nat) (hv : s.Frame [.now, .pwr] v) (hu : u = s.afterAll t (v.endCopy result)) :
    u = { s.logged u with core := u.core, arr := u.arr, np := u.np, meter := u.meter, twin := u.twin, pwr := u.pwr
                          land := u.land, hbm := u.hbm, vcore := u.vcore } := by
  refine State.Frame.eq (s := s)
    (ps := Part.logs ++ [.core, .arr, .np, .meter, .twin, .linked, .mirror, .groups, .pwr, .land, .hbm, .vcore]) ?_
  have h := hv.mono (qs := Part.logs ++ [.core, .arr, .np, .meter, .twin, .linked, .mirror, .groups, .pwr, .land, .hbm, .vcore])
    (by simp)
  rw [hu]
  exact State.frame_afterAll t (by simp) ((State.frame_endCopy _ (by simp)).2 h)

/-- Settles O44, command by command. -/
theorem inputPowerActs : Obligations.InputPowerActs := by
  intro s t
  refine ⟨fun mv hg hl ho hr hst hsag hmv => ?close, fun mv w hg hl ho hr hst hsag hw hmv => ?release,
    fun mv w hl hsag hw => ?sag, fun mv hmv hsag => ?low, fun hg hgood hat => ?good, fun hg hgood hat hfew => ?inrush,
    fun hg hgood hat hmany => ?short, fun hg hgood => ?squall, fun ho hg hgood => ?lockout, fun ho hg => ?lockoutOpen, ?lockoutEnd,
    fun hg => ?under, fun hg hl => ?underOpen, fun w hr hw hl ho => ?retry, fun cause hst hoff hgood => ?stormOff,
    fun cause hst hoff hhot => ?stormHot, fun cause hst hoff hhot => ?storm, fun k hoff hst hk => ?copied,
    fun k hoff hst hk => ?tripped, fun k hoff hst hk => ?cut, fun hst hoff hg => ?restart,
    fun hst hoff hg hl ho hr => ?restartClose⟩
  case close =>
    have hf : vinQualified mv (s.at t) = ((s.at t).setVal 0x2200 0 1 (.real ((mv : Rat) / 1000))).closeSwitch := by
      obtain ⟨h34, hthr⟩ := State.startMv_lt.1 hmv
      simp [vinQualified, State.clearLatch, State.startMv, hg, hl, ho, hr, hst, hsag, h34, hthr]
    refine done_actAll rfl rfl fun u hu => ?_
    rw [hf] at hu
    refine ⟨?_, ?_, ?_, ?_, ?_, ?_⟩
    · simp [hu, State.closeSwitch]
    · simp [hu, State.closeSwitch]
    · simp [hu, State.closeSwitch]
    · simp [hu, State.closeSwitch, State.inputLimit]
    · simp [hu, State.closeSwitch, State.otherObjects_iff]
    · exact State.Frame.eq (s := s) (ps := Part.logs ++ [.core, .pwr, .vcore]) (by simp [hu])
  case release =>
    have hf : vinQualified mv (s.at t) = { (s.at t).setVal 0x2200 0 1 (.real ((mv : Rat) / 1000)) with
        pwr := { s.pwr with latched := false, faults := [], sagAt := none } }.closeSwitch := by
      obtain ⟨h34, hthr⟩ := State.startMv_lt.1 hmv
      simp [vinQualified, State.clearLatch, State.startMv, hg, ho, hr, hst, hsag, dueAt, hw, h34, hthr]
    refine done_actAll rfl rfl fun u hu => ?_
    rw [hf] at hu
    refine ⟨?_, ?_, ?_⟩
    · simp [hu, State.closeSwitch, hr]
    · simp [hu, State.closeSwitch]
    · exact State.Frame.eq (s := s) (ps := Part.logs ++ [.core, .pwr, .vcore]) (by simp [hu])
  case sag =>
    have hf : vinQualified mv (s.at t) = { (s.at t).setVal 0x2200 0 1 (.real ((mv : Rat) / 1000)) with
        pwr := { s.pwr with sagAt := none } } := by
      simp [vinQualified, State.clearLatch, hl, hsag, dueAt, Nat.not_le.2 hw]
    refine done_actAll rfl rfl fun u hu => ?_
    rw [hf] at hu
    refine ⟨?_, ?_⟩
    · simp [hu]
    · exact State.Frame.eq (s := s) (ps := Part.logs ++ [.core, .pwr, .vcore]) (by simp [hu])
  case low =>
    have hf : vinQualified mv (s.at t) = (s.at t).setVal 0x2200 0 1 (.real ((mv : Rat) / 1000)) := by
      have hlow : 34000 < mv → ¬ s.o 0x2201 0 4 * 100 + 2000 < mv := fun h34 hthr => Nat.not_lt.2 hmv (State.startMv_lt.2 ⟨h34, hthr⟩)
      simp +contextual [vinQualified, State.clearLatch, State.startMv, hsag, hlow]
    refine done_actAll rfl rfl fun u hu => ?_
    rw [hf] at hu
    refine ⟨?_, ?_, ?_⟩
    · simp [hu]
    · simp [hu]
    · exact State.Frame.eq (s := s) (ps := Part.logs ++ [.core, .vcore]) (by simp [hu])
  case good =>
    have hf : inputPowerGood (s.at t) =
        { s.at t with pwr := { s.pwr with good := true, goodAt := max s.now t } }.emit (.inputLimit 400) := by
      simp [inputPowerGood, hg, hgood, dueAt, hat, State.inputLimit]
    refine done_actAll rfl rfl fun u hu => ?_
    rw [hf] at hu
    refine ⟨?_, ?_, ?_, ?_⟩
    · simp [hu]
    · simp [hu]
    · simp [hu, State.otherObjects_iff]
    · exact State.Frame.eq (s := s) (ps := Part.logs ++ [.core, .pwr, .vcore]) (by simp [hu])
  case inrush =>
    have hf : inrushFaultTimer (s.at t) = (s.at t).inputFaults 1 false := by
      have hdue : dueAt (max s.now t) s.pwr.gateAt (s.o 0x2200 0 5 * msNs) = true := decide_eq_true hat
      simp [inrushFaultTimer, hg, hgood, hdue]
    refine done_actAll rfl rfl fun u hu => ?_
    rw [hf, State.inputFaults_early] at hu
    have hfew : ¬ s.o 0x2200 0 7 ≤ (within (max s.now t) (60 * sNs) s.pwr.faults).length := Nat.not_le.2 hfew
    refine ⟨?_, ?_, ?_, ?_⟩
    · simp [hu, PowerState.faulted, hfew]
    · simp [hu]
    · simp [hu, State.otherObjects_iff]
    · exact State.Frame.eq (s := s) (ps := Part.logs ++ [.core, .pwr, .vcore]) (by simp [hu])
  case short =>
    have hf : earlyShort (s.at t) = (s.at t).inputFaults 2 false := by
      simp [earlyShort, hg, hgood, dueAt, hat]
    refine done_actAll rfl rfl fun u hu => ?_
    rw [hf, State.inputFaults_early] at hu
    have hlatch : s.o 0x2200 0 7 ≤ (within (max s.now t) (60 * sNs) s.pwr.faults).length := hmany
    refine ⟨?_, ?_, ?_, ?_, ?_, ?_⟩
    · simp [hu, PowerState.faulted]
    · simp [hu, PowerState.faulted]
    · simp [hu, PowerState.faulted, hlatch]
    · simp [hu, PowerState.faulted, hlatch]
    · simp [hu, satAt_eq_satAdd, counterMax_input]
    · exact State.Frame.eq (s := s) (ps := Part.logs ++ [.core, .pwr, .vcore]) (by simp [hu])
  case squall =>
    have hf : inputSquallTrip (s.at t) = ((s.at t).bump 0x2200 0 0xA).inputFaults 3 false := by
      simp [inputSquallTrip, hg, hgood]
    refine done_actAll rfl rfl fun u hu => ?_
    rw [hf, State.inputFaults_early] at hu
    refine ⟨?_, ?_, ?_, ?_, ?_⟩
    · simp [hu, PowerState.faulted]
    · simp [hu, PowerState.faulted]
    · simp [hu, satAt_eq_satAdd, counterMax_input]
    · simp [hu, satAt_eq_satAdd, counterMax_input]
    · exact State.Frame.eq (s := s) (ps := Part.logs ++ [.core, .pwr, .vcore]) (by simp [hu])
  case lockout =>
    have hf : overvoltageLockout (s.at t) = ((s.at t).bump 0x2200 0 0xB).inputFaults 4 false := by
      simp [overvoltageLockout, ho, hg, hgood]
    refine done_actAll rfl rfl fun u hu => ?_
    rw [hf, State.inputFaults_early] at hu
    refine ⟨?_, ?_, ?_, ?_, ?_, ?_⟩
    · simp [hu, PowerState.faulted]
    · simp [hu, PowerState.faulted]
    · simp [hu, PowerState.faulted]
    · simp [hu, PowerState.faulted]
    · simp [hu, satAt_eq_satAdd, counterMax_input]
    · exact State.Frame.eq (s := s) (ps := Part.logs ++ [.core, .pwr, .vcore]) (by simp [hu])
  case lockoutOpen =>
    have hf : overvoltageLockout (s.at t) =
        { s.at t with pwr := { s.pwr with lockout := true, cause := 4 } }.bump 0x2200 0 0xB := by
      simp [overvoltageLockout, ho, hg]
    refine done_actAll rfl rfl fun u hu => ?_
    rw [hf] at hu
    refine ⟨?_, ?_, ?_⟩
    · simp [hu]
    · simp [hu, satAt_eq_satAdd, counterMax_input]
    · exact State.Frame.eq (s := s) (ps := Part.logs ++ [.core, .pwr, .vcore]) (by simp [hu])
  case lockoutEnd =>
    refine done_actAll rfl rfl fun u hu => ⟨?_, ?_, ?_⟩
    · simp [hu, overvoltageRelease]
    · simp [hu, overvoltageRelease, State.otherObjects_iff]
    · exact State.Frame.eq (s := s) (ps := Part.logs ++ [.core, .pwr, .vcore]) (by simp [hu])
  case under =>
    refine done_actAll rfl rfl fun u hu => ⟨?_, ?_, ?_, ?_⟩
    · by_cases hl : s.pwr.latched <;> simp [hu, undervoltageLockout, hg, hl, State.openSwitch]
    · by_cases hl : s.pwr.latched <;> simp [hu, undervoltageLockout, hg, hl, State.openSwitch]
    · by_cases hl : s.pwr.latched <;> simp [hu, undervoltageLockout, hg, hl, State.openSwitch, State.otherObjects_iff]
    · exact State.Frame.eq (s := s) (ps := Part.logs ++ [.core, .pwr, .vcore]) (by simp [hu])
  case underOpen =>
    have hf : undervoltageLockout (s.at t) = { s.at t with pwr := { s.pwr with sagAt := some (max s.now t) } } := by
      simp [undervoltageLockout, hg, hl]
    refine done_actAll rfl rfl fun u hu => ?_
    rw [hf] at hu
    refine ⟨?_, ?_, ?_⟩
    · simp [hu]
    · simp [hu, State.otherObjects_iff]
    · exact State.Frame.eq (s := s) (ps := Part.logs ++ [.core, .pwr, .vcore]) (by simp [hu])
  case retry =>
    have hf : inputRetry (s.at t) = (s.at t).closeSwitch := by simp [inputRetry, hr, hw, hl, ho]
    refine done_actAll rfl rfl fun u hu => ?_
    rw [hf] at hu
    refine ⟨?_, ?_, ?_, ?_⟩
    · simp [hu, State.closeSwitch]
    · simp [hu, State.closeSwitch]
    · simp [hu, State.closeSwitch, State.otherObjects_iff]
    · exact State.Frame.eq (s := s) (ps := Part.logs ++ [.core, .pwr, .vcore]) (by simp [hu])
  case stormOff =>
    have hf : stormWarning cause (s.at t) =
        { s.at t with pwr := { s.pwr with storm := true, stormAt := some (max s.now t) } } := by
      simp [stormWarning, State.storm, hst, hoff, hgood]
    refine done_actAll rfl rfl fun u hu => ?_
    rw [hf] at hu
    refine ⟨?_, ?_, ?_⟩
    · simp [hu]
    · simp [hu, State.otherObjects_iff]
    · exact State.Frame.eq (s := s) (ps := Part.logs ++ [.core, .pwr, .storm, .vcore]) (by simp [hu])
  case stormHot =>
    refine done_actAll rfl rfl fun u hu => ⟨?_, ?_, ?_, ?_, ?_⟩
    · simp [hu, stormWarning, State.storm, hst, hoff, hhot]
    · simp [hu, stormWarning, State.storm, hst, hoff, hhot]
    · simp [hu, stormWarning, State.storm, hst, hoff, hhot]
    · simp [hu, stormWarning, State.storm, hst, hoff, hhot, State.otherObjects_iff]
    · exact State.Frame.eq (s := s) (ps := Part.logs ++ [.core, .pwr, .storm, .vcore])
        (by simp [hu, stormWarning, State.storm, hst, hoff, hhot])
  case storm =>
    have hf : stormWarning cause (s.at t) = (s.at t).stormStarts := by simp [stormWarning, State.storm, hst, hoff, hhot]
    refine done_actAll rfl rfl fun u hu => ?_
    rw [hf] at hu
    simp [hu, State.stormStarts, State.saveEvents]
  case copied =>
    have hf : vaultCopyComplete (s.at t) = (s.at t).endCopy 1 := by simp [vaultCopyComplete, hoff, hst]
    refine done_actAll rfl rfl fun u hu => ?_
    rw [hf] at hu
    have hlost := (s.at t).endCopy_off 1
    have hres := State.endCopy_result (s := s.at t) 1 hk
    have hreg := State.endCopy_region (s := s.at t) 1 hk
    refine ⟨?_, ?_, ?_, ?_, ?_, ?_, ?_, ?_, ?_, ?_, ?_, ?_, ?_, ?_, ?_, ?_⟩
    · simp [hu, hreg]
    · simp [hu, hreg]
    · simp [hu, hreg]
    · simp [hu, hreg]
    · simpa [hu] using hres
    · simp [hu, hlost]
    · simp [hu, hlost]
    · simp [hu, hlost]
    · simp [hu, hreg]
    · simp [hu, hreg]
    · simp [hu, hlost]
    · simp [hu, hlost]
    · simp [hu, hlost]
    · simp [hu, hlost]
    · have hbm : u.hbm = s.hbm.filter fun c => decide (0x10000000000 ≤ c.1) := by simp [hu, State.endCopy_hbm]
      simp [hbm]
    · exact State.endCopy_eq t 1 (by simp) hu
  case tripped =>
    have hf : holdupPathTrip (s.at t) = { s.at t with pwr := { s.pwr with cause := 5 } }.endCopy 3 := by
      simp [holdupPathTrip, hoff, hst]
    refine done_actAll rfl rfl fun u hu => ?_
    rw [hf] at hu
    obtain ⟨v, hv, hcause⟩ : ∃ v : State, v = { s.at t with pwr := { s.pwr with cause := 5 } } ∧ v.pwr.cause = 5 := ⟨_, rfl, rfl⟩
    rw [← hv] at hu
    have hk : v.pwr.copyTo = some k := by rw [hv]; exact hk
    have hres := State.endCopy_result 3 hk
    refine ⟨?_, ?_, ?_, ?_, ?_, ?_, ?_⟩
    · simp [hu, State.endCopy_region 3 hk]
    · simp [hu, State.endCopy_region 3 hk]
    · simpa [hu] using hres
    · simp [hu, State.endCopy_cause, hcause]
    · simp [hu, v.endCopy_off 3]
    · simp [hu, v.endCopy_off 3]
    · exact State.endCopy_eq t 3 (by simp [hv]) hu
  case cut =>
    have hf : copyCutOff (s.at t) = (s.at t).endCopy 2 := by simp [copyCutOff, hoff, hst]
    refine done_actAll rfl rfl fun u hu => ?_
    rw [hf] at hu
    have hres := State.endCopy_result (s := s.at t) 2 hk
    refine ⟨?_, ?_, ?_, ?_, ?_, ?_, ?_⟩
    · simp [hu, State.endCopy_region (s := s.at t) 2 hk]
    · simp [hu, State.endCopy_region (s := s.at t) 2 hk]
    · simpa [hu] using hres
    · simp [hu, State.endCopy_cause]
    · simp [hu, (s.at t).endCopy_off 2]
    · simp [hu, (s.at t).endCopy_off 2]
    · exact State.endCopy_eq t 2 (by simp) hu
  case restart =>
    have hf : stormRestart (s.at t) = { s.at t with pwr := { s.pwr with storm := false } } := by
      simp [stormRestart, hst, hoff, hg]
    refine done_actAll rfl rfl fun u hu => ?_
    rw [hf] at hu
    refine ⟨?_, ?_, ?_⟩
    · simp [hu]
    · simp [hu, State.otherObjects_iff]
    · exact State.Frame.eq (s := s) (ps := Part.logs ++ [.core, .pwr, .storm, .vcore]) (by simp [hu])
  case restartClose =>
    have hf : stormRestart (s.at t) = { s.at t with pwr := { s.pwr with storm := false } }.closeSwitch := by
      simp [stormRestart, hst, hoff, hg, hl, ho, hr]
    refine done_actAll rfl rfl fun u hu => ?_
    rw [hf] at hu
    refine ⟨?_, ?_, ?_, ?_⟩
    · simp [hu, State.closeSwitch, hr]
    · simp [hu, State.closeSwitch]
    · simp [hu, State.closeSwitch, State.otherObjects_iff]
    · exact State.Frame.eq (s := s) (ps := Part.logs ++ [.core, .pwr, .storm, .vcore]) (by simp [hu])

end Sys2Proof.Machine
end

section
/-! CLAIM. The power of the drive slots (15 R544 to R551). -/

namespace Sys2Proof.Machine

@[simp] theorem Dict.off_slotPower (k : Nat) : Dict.off 0x2210 k = true := by simp [Dict.off, Dict.worked]

@[simp] theorem Dict.off_slotState : Dict.off 0x5200 2 = true := by decide

/-- The counters of a slot's faults have 64 bits. -/
theorem counterMax_slotFault : Dict.counterMax 0x2210 0xA = 2 ^ 64 - 1 ∧ Dict.counterMax 0x2210 0xB = 2 ^ 64 - 1 := by decide

/-- A slot whose feeds are open. -/
def Slot.unfed (x : Slot) : Slot := { x with auxOn := false, mainOn := false, ramping := none, powerGood := none }

@[simp] theorem State.bump_reads (s : State) (i r k : Nat) :
    s.KeepsReads (s.bump i r k) ∧ (∀ j, (s.bump i r k).nport j = s.nport j) ∧ ∀ j, (s.bump i r k).session? j = s.session? j :=
  ⟨State.keepsReads_of_keepsUnits (by simp [State.KeepsUnits]), fun _ => rfl, fun _ => rfl⟩

section
variable (s : State) (n : Nat)

@[simp] theorem State.slotS_openFeeds (m : Nat) : (s.openFeeds n).slotS m = if n = m then (s.slotS n).unfed else s.slotS m := by
  simp [State.openFeeds, State.setAllocation, Slot.unfed]

theorem State.val_openFeeds (i r k : Nat) (h : i % 65536 = 0x2210 → k % 256 ≠ 7) (h' : i % 65536 ≠ 0x2211) :
    (s.openFeeds n).val i r k = s.val i r k := by
  simp only [State.openFeeds, State.setAllocation, State.val_setVal, objKey_inj]
  rw [if_neg fun e => h' e.1.symm, if_neg fun e => h e.1.symm e.2.2.symm]
  rfl

@[simp] theorem State.openFeeds_units :
    (s.openFeeds n).now = s.now ∧ (s.openFeeds n).pwr = s.pwr ∧ (s.openFeeds n).twin = s.twin := ⟨rfl, rfl, rfl⟩

@[simp] theorem State.setSlotState_eq (v : Nat) : s.setSlotState n v = s.put 0x5200 n 2 v := rfl

/-- The state in which the feeds of a slot with a power fault are open. -/
def State.slotCut (s : State) (n cause : Nat) : State :=
  ((((s.put 0x2210 n 3 cause).bump 0x2210 n 0xA).when (decide (cause = 3)) fun s => s.bump 0x2210 n 0xB).raise .slotPowerFault
    [n, cause]).openFeeds n

@[simp] theorem State.slotS_slotCut (cause m : Nat) :
    (s.slotCut n cause).slotS m = if n = m then (s.slotS n).unfed else s.slotS m := by
  cases h : decide (cause = 3) <;> simp [State.slotCut, State.when, h]

@[simp] theorem State.frame_slotCut {ps : List Part} {s u : State} (n cause : Nat)
    (h : .out ∈ ps ∧ .dict ∈ ps ∧ .sess ∈ ps ∧ .ev ∈ ps ∧ .rings ∈ ps ∧ .slot ∈ ps ∧ .slots ∈ ps) :
    s.Frame ps (u.slotCut n cause) ↔ s.Frame ps u := by
  cases hc : decide (cause = 3) <;> simp [State.slotCut, State.when, hc, h]

/-- The fault is kept and counted. -/
theorem State.o_slotCut (cause : Nat) :
    (s.slotCut n cause).o 0x2210 n 3 = cause ∧ (s.slotCut n cause).o 0x2210 n 0xA = satAdd (s.o 0x2210 n 0xA) 1 ∧
      (cause = 3 → (s.slotCut n cause).o 0x2210 n 0xB = satAdd (s.o 0x2210 n 0xB) 1) := by
  have ho : ∀ (v : State) k, k % 256 ≠ 7 → (v.openFeeds n).o 0x2210 n k = v.o 0x2210 n k := fun v k hk => by
    rw [State.o, State.val_openFeeds v n _ _ _ (fun _ => hk) (by decide), State.toNat_val]
  cases h : decide (cause = 3) <;>
    simp_all [State.slotCut, State.when, satAt_eq_satAdd, counterMax_slotFault]

/-- Other objects read as before. -/
theorem State.o_slotCut_of_ne (cause : Nat) {i : Nat} (h0 : i % 65536 ≠ 0x2210) (h1 : i % 65536 ≠ 0x2211) (r k : Nat) :
    (s.slotCut n cause).o i r k = s.o i r k := by
  rw [State.o, State.slotCut, State.val_openFeeds _ _ _ _ _ (fun h => absurd h h0) h1]
  cases h : decide (cause = 3) <;> simp [State.when, h0.symm]

/-- What does not depend on the objects and the slots. -/
theorem State.slotCut_kept (cause : Nat) : (s.slotCut n cause).now = s.now ∧ (s.slotCut n cause).pwr = s.pwr ∧
    (s.slotCut n cause).paired = s.paired := by
  have h2400 := s.o_slotCut_of_ne n cause (i := 0x2400) (by decide) (by decide) 0 4
  have h : (s.slotCut n cause).twin = s.twin := by
    cases h : decide (cause = 3) <;> simp [State.slotCut, State.when, h]
  refine ⟨?_, ?_, ?_⟩
  · cases h : decide (cause = 3) <;> simp [State.slotCut, State.when, h]
  · cases h : decide (cause = 3) <;> simp [State.slotCut, State.when, h]
  · rw [State.paired, State.paired, h, State.twinPhase, State.twinPhase, State.ob_eq, State.ob_eq, h2400]

/-- The slot whose feeds a fault has opened. -/
def Slot.tripped (x : Slot) (fs : List Nat) (latch : Bool) (now : Nat) : Slot :=
  { x with faults := fs, latched := latch, retryAt := if latch then none else some (now + sNs) }

theorem State.slotFault_eq (cause : Nat) {fs : List Nat} (hfs : fs = s.now :: within s.now (60 * sNs) (s.slotS n).faults)
    {latch : Bool} (hl : latch = decide (3 < fs.length)) :
    s.slotFault n cause =
      let peer := (s.slotCut n cause).peerFeeds
      let v := (s.slotCut n cause).put 0x2210 n 0xE (if peer then 1 else 0)
      let v := if peer then v.raise .slotFeedLost [n] else v.driveGone n 1
      let w := v.modSlot n fun y => { y with
        faults := fs, latched := latch, retryAt := if latch || v.pwr.storm then none else some (v.now + sNs) }
      w.put 0x2210 n 2 (if latch then 5 else if peer then 8 else if w.pwr.storm then 0 else 4) := by
  subst hl hfs
  rfl

/-- A power fault of a module alone: the drive is gone, and the slot tries again after a second unless it is latched. -/
theorem State.slotFault_alone (cause : Nat) (hp : s.paired = false) (hs : s.pwr.storm = false) {fs : List Nat}
    (hfs : fs = s.now :: within s.now (60 * sNs) (s.slotS n).faults) {latch : Bool} (hl : latch = decide (3 < fs.length)) :
    s.slotFault n cause =
      ((((s.slotCut n cause).put 0x2210 n 0xE 0).driveGone n 1).modSlot n fun y => y.tripped fs latch s.now).put 0x2210 n 2
        (if latch then 5 else 4) := by
  obtain ⟨hnow, hpwr, hpaired⟩ := s.slotCut_kept n cause
  rw [State.slotFault_eq s n cause hfs hl]
  simp [State.peerFeeds, hpaired, hp, hpwr, hs, hnow, Slot.tripped]

/-- While the modules are paired the peer feeds the slot, and the drive stays. -/
theorem State.slotFault_paired (cause : Nat) (hp : s.paired = true) {fs : List Nat}
    (hfs : fs = s.now :: within s.now (60 * sNs) (s.slotS n).faults) {latch : Bool} (hl : latch = decide (3 < fs.length)) :
    s.slotFault n cause =
      (((((s.slotCut n cause).put 0x2210 n 0xE 1).raise .slotFeedLost [n]).modSlot n fun y => { y with
        faults := fs, latched := latch, retryAt := if latch || s.pwr.storm then none else some (s.now + sNs) }).put 0x2210 n 2
          (if latch then 5 else 8)) := by
  obtain ⟨hnow, hpwr, hpaired⟩ := s.slotCut_kept n cause
  rw [State.slotFault_eq s n cause hfs hl]
  simp [State.peerFeeds, hpaired, hp, hpwr, hnow]

/-! ### The operator switches a slot off -/

/-- A slot that the operator has switched off. -/
def Slot.switchedOff (x : Slot) : Slot := { (Slot.gone { x with tags := [] }).unfed with pwrdis := true, perst := true }

/-- The arrays lose a member whose slot the operator switches off. -/
def State.memberOff (s : State) (n : Nat) : State :=
  match s.memberIn n with
  | some (a, m) => s.memberCause a m 7
  | none => s

theorem State.powerOffSlot_eq :
    s.powerOffSlot n =
      ((((s.memberOff n).driveGone n 9).openFeeds n).modSlot n fun x => { x with pwrdis := true, perst := true }).put 0x2210 n 2 6 := rfl

@[simp] theorem State.slotS_memberOff (m : Nat) : (s.memberOff n).slotS m = s.slotS m := by
  unfold State.memberOff
  split
  · exact State.slotS_of_frame (ps := [.free, .out, .dict, .sess, .ev, .rings, .fab, .eth, .rdma, .nvme, .sched, .arr, .slot, .np, .meter,
      .twin, .pwr, .ctrls, .nss]) (State.frame_memberCause _ _ _ (by simp)) (by simp) m
  · rfl

theorem State.val_memberOff (i r k : Nat) (h : Dict.off i k = true) : (s.memberOff n).val i r k = s.val i r k := by
  unfold State.memberOff
  split
  · exact State.val_of_objs (State.objs_memberCause _ _ _) i r k h
  · rfl

@[simp] theorem State.slotS_powerOffSlot : (s.powerOffSlot n).slotS n = (s.slotS n).switchedOff := by
  simp [State.powerOffSlot_eq, Slot.switchedOff]

/-- The objects of a slot that the operator has switched off. -/
theorem State.val_powerOffSlot (r k : Nat) (h : k % 256 ≠ 7) :
    (s.powerOffSlot n).val 0x2210 r k = if objKey 0x2210 n 2 = objKey 0x2210 r k then .nat 6 else s.val 0x2210 r k := by
  rw [State.powerOffSlot_eq, State.val_put, (State.modSlot_objects _ _ _).2.1, State.val_openFeeds _ _ _ _ _ (fun _ => h) (by decide),
    State.val_driveGone _ _ _ _ _ _ (Dict.off_slotPower k), State.val_memberOff _ _ _ _ _ (Dict.off_slotPower k)]
  simp

theorem State.slotState_powerOffSlot : (s.powerOffSlot n).slotState n = 9 := by
  simp [State.powerOffSlot_eq, State.slotState, State.o, State.val_openFeeds, State.val_driveGone]

@[simp] theorem State.gen_powerOffSlot (w r : Nat) : (s.powerOffSlot n).gen w r = s.gen w r :=
  State.gen_of_frame (ps := [.free, .out, .dict, .sess, .ev, .rings, .fab, .eth, .rdma, .nvme, .sched, .arr, .slot, .np, .dma, .meter,
    .twin, .pwr, .slots, .ctrls, .nss]) (State.frame_powerOffSlot n (by simp)) (by simp) w r

end

/-- What a power fault of a module alone leaves. -/
theorem State.slotFault_faulted {s u : State} {t n cause : Nat} (hp : s.paired = false) (hs : s.pwr.storm = false)
    (hf : (within (max s.now t) (60 * sNs) (s.slotS n).faults).length < 3) (hu : u = s.after t ((s.at t).slotFault n cause)) :
    s.slotFaulted u t n cause ∧ (cause = 3 → u.o 0x2210 n 0xB = satAdd (s.o 0x2210 n 0xB) 1) := by
  obtain ⟨h3, hA, hB⟩ := (s.at t).o_slotCut n cause
  rw [State.slotFault_alone (s.at t) n cause hp hs rfl (latch := false)
    (decide_eq_false (by simpa using hf)).symm] at hu
  constructor
  · refine ⟨?_, ?_, ?_, ?_, ?_, ?_, ?_, ?_, ?_, ?_⟩ <;>
      simp [hu, State.o_driveGone, Slot.tripped, Slot.gone, Slot.unfed, State.slotState, h3, hA]
  · intro h
    simpa [hu, State.o_driveGone] using hB h

/-- The parts that a power fault of a slot moves. -/
theorem State.slotFault_frame {s u : State} {t n cause : Nat} (hu : u = s.after t ((s.at t).slotFault n cause)) :
    u = { s.logged u with fab := u.fab, eth := u.eth, rdma := u.rdma, nvme := u.nvme, sched := u.sched, arr := u.arr, slot := u.slot,
                          np := u.np, dma := u.dma, meter := u.meter, twin := u.twin, pwr := u.pwr, fw := u.fw } :=
  State.Frame.eq (s := s) (ps := Part.logs ++ [.fab, .eth, .rdma, .nvme, .sched, .arr, .slot, .np, .dma, .meter, .twin, .pwr, .fw,
    .slots, .ctrls, .nss]) (by simp [hu])

/-- Settles O45. -/
theorem slotPowerActs : Obligations.SlotPowerActs := by
  intro s t n hp hn
  have hsl : isSlot n = true := decide_eq_true hn
  refine ⟨fun hbefore hst hlo hw hb hr => ?ramp, fun hramp => ?good, fun w hramp hat hpair hst hfew => ?timeout,
    fun w hramp hat hpair hst hfew => ?short, fun hmain hpair hst hfew => ?squall, fun hmain hpair hst hfew => ?current,
    fun haux hpair hst hfew => ?aux, fun haux hmany => ?latch, fun hmain hpair hfew => ?peer, fun w hat hw hl hen h8 hprs => ?retry,
    fun sess hm hrow hD hC hold hl hen h8 hprs => ?clear, fun sess hm hrow hD hC hold hpair hthird => ?off, fun mw => ?draw⟩
  case ramp =>
    have hf : slotRampStart n (s.at t) = (((s.at t).modSlot n fun x => { x with ramping := some (max s.now t) }).put 0x2210 n 2 2).setAllocation n
        (s.o 0x2210 n 6) := by
      have hlo' : (s.at t).loaderOnly = false := hlo
      have hbefore' : ((List.range n).any fun m => ((s.at t).slotS m).wantsRamp && decide ((s.at t).o 0x2210 m 2 ≠ 7)) = false := hbefore
      rw [slotRampStart, hbefore']
      simp [State.tryRamp, hst, hlo', hw, hb, hr]
    refine done_act rfl hsl hp fun u hu => ?_
    rw [hf] at hu
    refine ⟨?_, ?_, ?_, ?_⟩
    · simp [hu, State.setAllocation]
    · simp [hu, State.setAllocation]
    · simp [hu, State.setAllocation, State.allocation, State.val_setVal, Val.toRat]
    · exact State.Frame.eq (s := s) (ps := Part.logs ++ [.slot, .slots]) (by simp [hu])
  case good =>
    have hf : slotPowerGood n (s.at t) = ((s.at t).setSlot n
        { s.slotS n with ramping := none, mainOn := true, powerGood := some (max s.now t), clock := true }).put 0x2210 n 2 3 := by
      simp [slotPowerGood, hramp]
    refine done_act rfl hsl hp fun u hu => ?_
    rw [hu, hf]
    rfl
  case timeout =>
    have hf : slotRampTimeout n (s.at t) = (s.at t).slotFault n 1 := by
      simp [slotRampTimeout, hramp, dueAt, hat]
    refine done_act rfl hsl hp fun u hu => ?_
    rw [hf] at hu
    exact ⟨(State.slotFault_faulted hpair hst hfew hu).1, State.slotFault_frame hu⟩
  case short =>
    have hf : slotEarlyShort n (s.at t) = (s.at t).slotFault n 2 := by
      simp [slotEarlyShort, hramp, dueAt, hat]
    refine done_act rfl hsl hp fun u hu => ?_
    rw [hf] at hu
    exact ⟨(State.slotFault_faulted hpair hst hfew hu).1, State.slotFault_frame hu⟩
  case squall =>
    have hf : slotSquallTrip n (s.at t) = (s.at t).slotFault n 3 := by
      simp [slotSquallTrip, hmain]
    refine done_act rfl hsl hp fun u hu => ?_
    rw [hf] at hu
    obtain ⟨h, hB⟩ := State.slotFault_faulted hpair hst hfew hu
    exact ⟨h, hB rfl, State.slotFault_frame hu⟩
  case current =>
    have hf : slotOvercurrent n (s.at t) = (s.at t).slotFault n 4 := by
      simp [slotOvercurrent, hmain]
    refine done_act rfl hsl hp fun u hu => ?_
    rw [hf] at hu
    exact ⟨(State.slotFault_faulted hpair hst hfew hu).1, State.slotFault_frame hu⟩
  case aux =>
    have hf : auxiliaryOvercurrent n (s.at t) = (s.at t).slotFault n 5 := by
      simp [auxiliaryOvercurrent, haux]
    refine done_act rfl hsl hp fun u hu => ?_
    rw [hf] at hu
    exact ⟨(State.slotFault_faulted hpair hst hfew hu).1, State.slotFault_frame hu⟩
  case latch =>
    have hf : auxiliaryOvercurrent n (s.at t) = (s.at t).slotFault n 5 := by
      simp [auxiliaryOvercurrent, haux]
    refine done_act rfl hsl hp fun u hu => ?_
    rw [hf] at hu
    have hframe := State.slotFault_frame hu
    rw [State.slotFault_eq (s.at t) n 5 rfl (latch := true) (decide_eq_true (by simpa using Nat.lt_succ_iff.2 hmany)).symm] at hu
    refine ⟨?_, ?_, ?_, hframe⟩ <;> simp [hu]
  case peer =>
    have hf : slotOvercurrent n (s.at t) = (s.at t).slotFault n 4 := by
      simp [slotOvercurrent, hmain]
    refine done_act rfl hsl hp fun u hu => ?_
    rw [hf, State.slotFault_paired (s.at t) n 4 hpair rfl (latch := false) (decide_eq_false (by simpa using hfew)).symm] at hu
    refine ⟨?_, ?_, ?_, ?_, ?_, ?_⟩
    · simp [hu]
    · simp [hu]
    · rw [hu]
      exact State.told_raise _ _ _
    · simp [hu, State.slotState, State.o_slotCut_of_ne]
    · simp [hu, Slot.unfed]
    · exact State.Frame.eq (s := s) (ps := Part.logs ++ [.slot, .slots]) (by simp [hu])
  case retry =>
    have hf : slotRetry n (s.at t) = ((s.at t).modSlot n fun x => { x with retryAt := none }).bringUp n := by
      have hen' : (s.at t).slotEnabled n = true := hen
      simp [slotRetry, hat, hw, hl, State.refeed, hen', h8, hprs]
    refine done_act rfl hsl hp fun u hu => ?_
    rw [hf] at hu
    refine ⟨?_, ?_, ?_, ?_, ?_, ?_, ?_⟩
    · simp [hu, State.bringUp]
    · simp [hu, State.bringUp]
    · simp [hu, State.bringUp]
    · simp [hu, State.bringUp]
    · simp [hu, State.bringUp, State.slotState, State.setSlotState]
    · simp [hu, State.bringUp]
    · exact State.Frame.eq (s := s) (ps := Part.logs ++ [.slot, .slots]) (by simp [hu])
  case clear =>
    have hst : (s.at t).staged sess 0x2210 = s.staged sess 0x2210 := rfl
    obtain ⟨st, hs⟩ : ∃ st, st = s.staged sess 0x2210 := ⟨_, rfl⟩
    rw [← hs] at hrow hD hC
    have hf : applySlotPower st (s.at t) ((s.at t).storeRow 0x2210 st) =
        ((((s.at t).storeRow 0x2210 st).modSlot n fun x => { x with latched := false, faults := [] }).modSlot n fun x =>
          { x with retryAt := none }).put 0x2210 n 2 0 := by
      simp only [State.slotEnabled, State.loaderOnly, State.ob_eq, Bool.and_eq_true, Bool.not_eq_true', decide_eq_true_eq] at hen
      obtain ⟨⟨⟨h5201, -⟩, hst⟩, hlo⟩ := hen
      simp (decide := true) [applySlotPower, State.refeed, State.slotEnabled, State.loaderOnly, hrow, hC, hD, hold, hl, hprs, h5201, hst, of_decide_eq_false hlo,
        h8, State.o_storeRow]
    refine done_powerCommit (off := powerTurnsOff) (app := applySlotPower) rfl rfl hp hm ?_ fun u hu => ?_
    · simp [powerTurnsOff, ← hs, hC]
    rw [← hs] at hu
    refine ⟨⟨?_, ?_⟩, ?_, ?_, ?_, ?_, ?_, ?_⟩
    · simp [hu, ← hs, hf]
    · simp [hu, State.answered]
    · simp (decide := true) [hu, ← hs, hf, State.rowTook, State.val_storeRow]
    · simp [hu, hf]
    · simp [hu, hf]
    · simp [hu, hf]
    · simp [hu, hf]
    · exact State.Frame.eq (s := s) (ps := Part.logs ++ [.np, .slot, .slots]) (State.frame_powerCommitted hu (by simp) (by simp [hf]))
  case off =>
    obtain ⟨st, hs⟩ : ∃ st, st = s.staged sess 0x2210 := ⟨_, rfl⟩
    rw [← hs] at hrow hD hC
    have hf : applySlotPower st (s.at t) ((s.at t).storeRow 0x2210 st) = ((s.at t).storeRow 0x2210 st).powerOffSlot n := by
      simp [applySlotPower, hrow, hC, hD, hold]
    refine done_powerCommit (off := powerTurnsOff) (app := applySlotPower) rfl rfl hp hm ?_ fun u hu => ?_
    · rw [← hs, hrow]
      exact fun _ => ⟨hpair, hthird⟩
    rw [← hs] at hu
    refine ⟨⟨?_, ?_⟩, ?_, ?_, ?_, ?_, ?_, ?_, ?_, ?_, ?_⟩
    · simp [hu, ← hs, hf]
    · simp [hu, State.answered]
    · simp (decide := true) [hu, ← hs, hf, State.rowTook, State.val_powerOffSlot, State.val_storeRow]
    · rw [hu]
      simpa [State.slotState, hf] using State.slotState_powerOffSlot _ n
    · simp [hu, hf, State.o, State.val_powerOffSlot]
    · simp [hu, hf, Slot.switchedOff]
    · simp [hu, hf, Slot.switchedOff]
    · simp [hu, hf, Slot.switchedOff, Slot.unfed]
    · simp [hu, hf, Slot.switchedOff, Slot.unfed]
    · simp [hu, hf, Slot.switchedOff, Slot.unfed, Slot.gone]
    · exact State.Frame.eq (s := s) (ps := Part.logs ++ [.fab, .eth, .rdma, .nvme, .sched, .arr, .slot, .np, .dma, .meter, .twin, .pwr, .fw,
        .slots, .ctrls, .nss]) (State.frame_powerCommitted hu (by simp) (by simp))
  case draw =>
    have hf : slotOverdrawCheck n mw (s.at t) =
        if (s.slotS n).mainOn = true ∧ 11 / 10 * s.allocation n < (mw : Rat) / 1000 then
          ((s.at t).setVal 0x2210 n 8 (.real ((mw : Rat) / 1000))).raise .slotOverdraw [n, mw]
        else (s.at t).setVal 0x2210 n 8 (.real ((mw : Rat) / 1000)) := by
      simp only [slotOverdrawCheck, State.allocation, State.val_setVal, objKey_inj, State.slotS_setVal, State.slotS_at]
      exact if_congr Iff.rfl rfl rfl
    refine done_act rfl hsl hp fun u hu => ⟨?_, ?_, ?_, ?_⟩
    · rw [hu, hf]
      split <;> simp
    · intro hmain hover
      rw [hu, hf, if_pos ⟨hmain, hover⟩]
      exact State.told_raise _ _ _
    · rw [hu, hf]
      split <;> simp [State.otherObjects_iff]
    · exact State.Frame.eq (s := s) (ps := Part.logs) (by simp [hu])

end Sys2Proof.Machine
end

section
/-! CLAIM. Holdup, the dirty ceiling, the vault and Lull (15 R521 to R566). -/

namespace Sys2Proof.Machine

/-- The counters of Lull have 64 bits. -/
theorem counterMax_lull : Dict.counterMax 0x2220 6 = 2 ^ 64 - 1 ∧ Dict.counterMax 0x2220 7 = 2 ^ 64 - 1 := by decide

section
variable (s : State)

/-! ### The dirty ceiling -/

@[simp] theorem State.syncShare_pwr : s.syncShare.pwr = s.pwr := by
  unfold State.syncShare
  split <;> rfl

theorem State.syncDirty_pwr : ∃ n, s.syncDirty.pwr = { s.pwr with idleSince := n } := by
  unfold State.syncDirty State.when
  dsimp only
  split
  · exact ⟨_, rfl⟩
  · exact ⟨_, rfl⟩

/-- Of the power, a new ceiling moves only the instant since which the module is idle. -/
theorem State.setCeiling_pwr (v : Nat) : ∃ n, (s.setCeiling v).pwr = { s.pwr with idleSince := n } := by
  unfold State.setCeiling
  extract_lets old s1 s2 s3
  have h3 : s3.syncShare.pwr = s.pwr := by
    rw [State.syncShare_pwr]
    unfold s3 s2 s1
    split_ifs <;> simp
  obtain ⟨n, h⟩ := s3.syncShare.syncDirty_pwr
  exact ⟨n, by rw [h, h3]⟩

/-- The objects, where the ceiling takes a value. -/
theorem State.val_setCeiling (v i r k : Nat) (h : i % 65536 ≠ 0x2403) (h' : i % 65536 ≠ 0x5010) :
    (s.setCeiling v).val i r k =
      ((s.put 0x2201 0 2 v).setVal 0x2202 0 0xC (.real (energyNeed s.vaultRate v))).val i r k := by
  have hd : ∀ u : State, u.syncDirty.val i r k = u.val i r k := fun u => by
    unfold State.syncDirty State.when
    dsimp only
    split <;> simp [State.notIdle, h'.symm]
  have hs : ∀ u : State, u.syncShare.val i r k = u.val i r k := fun u => by
    unfold State.syncShare
    split <;> simp [h.symm]
  unfold State.setCeiling
  extract_lets old s1 s2 s3
  rw [hd, hs]
  unfold s3 s2
  split_ifs <;> simp [s1]

/-- What the automatic ceiling depends on. -/
theorem State.autoNow_congr {u v : State} (hp : ∃ n, v.pwr = { u.pwr with idleSince := n })
    (ho : v.o 0x2201 0 0xB = u.o 0x2201 0 0xB) : v.autoNow = u.autoNow := by
  obtain ⟨n, hp⟩ := hp
  unfold State.autoNow State.vaultUsable State.idleRegion State.copyRegion State.forecast State.capNow State.vaultRate State.ob
  rw [hp, ho]

/-- The state with a new automatic ceiling. -/
def State.withAuto (s : State) (auto : Nat) (rise : Option (Nat × Nat)) : State := { s with pwr := { s.pwr with auto := auto, rise := rise } }

theorem State.updateCeiling_eq : ∃ rise, s.updateCeiling =
    if min s.autoNow (s.o 0x2201 0 1 * 1048576) < s.o 0x2201 0 2 then
      (s.withAuto s.autoNow rise).setCeiling (min s.autoNow (s.o 0x2201 0 1 * 1048576))
    else s.withAuto s.autoNow rise := ⟨_, rfl⟩

/-- The power after the ceiling was computed: the automatic ceiling, and a rise that waits. -/
theorem State.updateCeiling_pwr : ∃ rise n, s.updateCeiling.pwr = { s.pwr with auto := s.autoNow, rise := rise, idleSince := n } := by
  obtain ⟨rise, h⟩ := s.updateCeiling_eq
  rw [h]
  split
  · obtain ⟨n, h⟩ := (s.withAuto s.autoNow rise).setCeiling_pwr (min s.autoNow (s.o 0x2201 0 1 * 1048576))
    exact ⟨rise, n, h⟩
  · exact ⟨rise, _, rfl⟩

@[simp] theorem State.updateCeiling_power :
    s.updateCeiling.pwr.auto = s.autoNow ∧ s.updateCeiling.pwr.storeV = s.pwr.storeV ∧ s.updateCeiling.pwr.rate = s.pwr.rate ∧
      s.updateCeiling.pwr.testOk = s.pwr.testOk ∧ ∀ k, s.updateCeiling.copyRegion k = s.copyRegion k := by
  obtain ⟨rise, n, h⟩ := s.updateCeiling_pwr
  simp [State.copyRegion, h]

/-- The ceiling falls at once. -/
theorem State.updateCeiling_ceiling :
    s.updateCeiling.o 0x2201 0 2 = min (s.o 0x2201 0 2) (min s.autoNow (s.o 0x2201 0 1 * 1048576)) := by
  obtain ⟨rise, h⟩ := s.updateCeiling_eq
  rw [h]
  split
  · next hlt =>
    rw [State.o, State.val_setCeiling _ _ _ _ _ (by decide) (by decide), min_eq_right hlt.le]
    simp
  · next hge => exact (min_eq_left (Nat.not_lt.1 hge)).symm

theorem State.val_updateCeiling (i r k : Nat) (h : i % 65536 ≠ 0x2403) (h' : i % 65536 ≠ 0x5010)
    (h2 : i % 65536 = 0x2201 → k % 256 ≠ 2) (hC : i % 65536 = 0x2202 → k % 256 ≠ 0xC) :
    s.updateCeiling.val i r k = s.val i r k := by
  obtain ⟨rise, e⟩ := s.updateCeiling_eq
  rw [e]
  split
  · rw [State.val_setCeiling _ _ _ _ _ h h', State.val_setVal, State.val_put, if_neg, if_neg]
    · rfl
    · exact fun e => h2 (objKey_inj.1 e).1.symm (objKey_inj.1 e).2.2.symm
    · exact fun e => hC (objKey_inj.1 e).1.symm (objKey_inj.1 e).2.2.symm
  · rfl

end

/-! ### Lull -/

@[simp] theorem State.each_syncLpi_kept (s : State) (ps : List Nat) :
    s.KeepsObjects (s.each ps State.syncLpi) ∧ (s.each ps State.syncLpi).pwr = s.pwr := by
  have h := State.frame_each (s := s) (u := s) (ps := [.out, .eth]) (xs := ps) (f := State.syncLpi) fun v p => by simp
  exact ⟨State.keepsObjects_of_dict (State.same_of_frame h .dict), State.same_of_frame h .pwr⟩

/-- The state at the start of Lull. -/
def State.lulled (s : State) : State :=
  (({ s with pwr := { s.pwr with lull := true, lullAt := s.now, serveTimes := [] } }.each (List.range 32) State.syncLpi).put 0x2220 0 3
    2).bump 0x2220 0 6

@[simp] theorem State.leaveLpi_kept (s : State) :
    s.KeepsObjects s.leaveLpi ∧ s.leaveLpi.pwr = s.pwr ∧ s.leaveLpi.now = s.now ∧ s.leaveLpi.free = s.free := by
  have h := State.frame_leaveLpi (s := s) (u := s) (ps := [.out, .eth]) (by simp)
  exact ⟨State.keepsObjects_of_dict (State.same_of_frame h .dict), State.same_of_frame h .pwr, State.same_of_frame h .now, State.same_of_frame h .free⟩

/-- The end of Lull. -/
theorem State.thawNow_lull (s : State) (hl : s.pwr.lull = true) :
    s.thawNow =
      let v := { s.leaveLpi with pwr := { s.pwr with lull := false, idleSince := s.now, serveTimes := [] } }
      let v := (v.put 0x2220 0 3 0).add 0x2220 0 7 ((s.now - s.pwr.lullAt) / msNs)
      (v.put 0x2220 0 8 (v.draw % 40001)).drawn := by
  simp [State.thawNow, hl]

/-- The state that a forecast of the holdup store reaches before it computes the ceiling. -/
def State.withStore (s : State) (volts : Rat) : State :=
  let s := { s with pwr := { s.pwr with storeV := volts } }
  let s := (s.setVal 0x2202 0 1 (.real s.forecast)).setVal 0x2202 0 2 (.real s.pwr.storeV)
  let s := (s.setVal 0x2202 0 3 (.real s.capNow)).setVal 0x2202 0 9 (.real s.chargeVoltage)
  (s.setVal 0x2202 0 0xB (.real s.storedEnergy)).drawn

/-- The state after a measurement of the holdup store's capacitance within its limits. -/
def State.measured (s : State) (c : Rat) : State :=
  let s := ({ s with pwr := { s.pwr with measuredAt := some s.now } }).put 0x2202 0 6 s.ptpNow.toNat
  let caps := (c :: s.pwr.caps).take 5
  let s := { s with pwr := { s.pwr with caps := caps, storedCap := some (median caps) } }
  s.setVal 0x2202 0 3 (.real s.capNow)

/-- Within its limits a drop of the store gives a capacitance of 3 to 8 F. -/
theorem capacitance_good {mv : Nat} (h1 : 250 ≤ mv) (h2 : mv ≤ 666) : ¬ (mv = 0 ∨ (2000 : Rat) / mv < 3 ∨ 8 < (2000 : Rat) / mv) := by
  have hpos : (0 : Rat) < mv := by exact_mod_cast (show 0 < mv by omega)
  have h1' : (250 : Rat) ≤ mv := by exact_mod_cast h1
  have h2' : (mv : Rat) ≤ 666 := by exact_mod_cast h2
  rw [div_lt_iff₀ hpos, lt_div_iff₀ hpos]
  rintro (h | h | h)
  · omega
  · linarith
  · linarith

theorem capacitance_bad {mv : Nat} (h : mv < 250 ∨ 667 ≤ mv) : mv = 0 ∨ (2000 : Rat) / mv < 3 ∨ 8 < (2000 : Rat) / mv := by
  by_cases h0 : mv = 0
  · exact .inl h0
  · have hpos : (0 : Rat) < mv := by exact_mod_cast Nat.pos_of_ne_zero h0
    rw [div_lt_iff₀ hpos, lt_div_iff₀ hpos]
    obtain h | h := h
    · have : (mv : Rat) ≤ 249 := by exact_mod_cast (show mv ≤ 249 by omega)
      exact .inr (.inr (by linarith))
    · have : (667 : Rat) ≤ mv := by exact_mod_cast h
      exact .inr (.inl (by linarith))

theorem capacitance_aging {mv : Nat} (h1 : 250 ≤ mv) : (2000 : Rat) / mv < 544 / 100 ↔ 368 ≤ mv := by
  have hpos : (0 : Rat) < mv := by exact_mod_cast (show 0 < mv by omega)
  rw [div_lt_iff₀ hpos]
  constructor
  · intro h
    by_contra hlt
    have : (mv : Rat) ≤ 367 := by exact_mod_cast (show mv ≤ 367 by omega)
    linarith
  · intro h
    have : (368 : Rat) ≤ mv := by exact_mod_cast h
    linarith

/-- A measurement that is due and within its limits. -/
theorem capacitanceMeasurement_good {s : State} {mv : Nat} (hst : s.pwr.storm = false) (hm : s.pwr.measuredAt = none) (h1 : 250 ≤ mv)
    (h2 : mv ≤ 666) :
    capacitanceMeasurement mv s =
      if 368 ≤ mv then (s.measured (2000 / (mv : Rat))).raise .holdupAging [mv] else s.measured (2000 / (mv : Rat)) := by
  have h : capacitanceMeasurement mv s =
      if (2000 : Rat) / mv < 544 / 100 then (s.measured (2000 / (mv : Rat))).raise .holdupAging [mv] else s.measured (2000 / (mv : Rat)) :=
    (if_neg (by simp [hst, hm])).trans (if_neg (capacitance_good h1 h2))
  rw [h]
  exact if_congr (capacitance_aging h1) rfl rfl

/-- One that is due and outside its limits is told, and moves nothing but the instant of the measurement. -/
theorem capacitanceMeasurement_bad {s : State} {w mv : Nat} (hst : s.pwr.storm = false) (hm : s.pwr.measuredAt = some w)
    (hw : w + s.ob 0x2202 5 * sNs ≤ s.now) (hmv : mv < 250 ∨ 667 ≤ mv) :
    capacitanceMeasurement mv s =
      (({ s with pwr := { s.pwr with measuredAt := some s.now } } : State).put 0x2202 0 6 s.ptpNow.toNat).raise .holdupStoreFault [mv] :=
  (if_neg (by simp [hst, hm, dueAt, show w + s.o 0x2202 0 5 * sNs ≤ s.now from hw])).trans (if_pos (capacitance_bad hmv))

/-- Settles O46. -/
theorem energyActs : Obligations.EnergyActs := by
  intro s t sess hp
  refine ⟨fun v hw => ?threshold, fun he hpf => ?readback, fun hw => ?clear, fun mv hst => ?forecast,
    fun v w hr hw hlt hst hv => ?rise, fun mv hst hm h1 h2 => ?measured, fun w mv hst hm hw hmv => ?bad, fun k hk hst h3 => ?erase,
    fun rate readOk => ?vault, fun h1 hi hw => ?lull, fun h2 hi hw => ?lullNow, fun trigger ht hl => ?thaw, fun trigger ht => ?noThaw⟩
  case threshold =>
    have hf : setStormThreshold v (s.at t) =
        if 360 < v then ((s.at t).setKeep 0x2201 0 4 (.nat v)).raise .stormThresholdHigh [v] else (s.at t).setKeep 0x2201 0 4 (.nat v) := rfl
    refine done_writeAs rfl rfl hp hw rfl fun u hu => ?_
    rw [hf] at hu
    refine ⟨?_, ?_, ?_, ?_, ?_⟩
    · split at hu <;> simp [hu]
    · intro h
      exact State.told_of_ev (v := ((s.at t).setKeep 0x2201 0 4 (.nat v)).raise .stormThresholdHigh [v]) (by simp [hu, h])
        (State.told_raise _ _ _)
    · simp [hu, State.answered]
    · split at hu <;> simp [hu, State.otherObjects_iff]
    · exact State.Frame.eq (s := s) (ps := Part.logs ++ [.np]) (by split at hu <;> simp [hu])
  case readback =>
    have hf : pfwarnReadbackFault (s.at t) = ((s.at t).put 0x2201 0 0xE 1).raise .pfwarnFaulty := by
      simp [pfwarnReadbackFault, show s.o 0x2201 0 0xE ≠ 1 from he, hpf]
    refine done_act rfl rfl hp fun u hu => ?_
    rw [hf] at hu
    refine ⟨?_, ?_, ?_, ?_⟩
    · simp [hu]
    · rw [hu]
      exact State.told_raise _ _ _
    · simp [hu, State.otherObjects_iff]
    · exact State.Frame.eq (s := s) (ps := Part.logs) (by simp [hu])
  case clear =>
    refine done_writeAs rfl rfl hp hw rfl fun u hu => ⟨?_, ?_, ?_, ?_⟩
    · simp [hu]
    · simp [hu, State.answered]
    · simp [hu, State.otherObjects_iff]
    · exact State.Frame.eq (s := s) (ps := Part.logs ++ [.np]) (by simp [hu])
  case forecast =>
    have hf : holdupForecast mv (s.at t) = ((s.at t).withStore ((mv : Rat) / 1000)).updateCeiling := if_neg (by change ¬ s.pwr.storm = true; simp [hst])
    have hauto : ((s.at t).withStore ((mv : Rat) / 1000)).autoNow =
        ({ s with pwr := { s.pwr with storeV := (mv : Rat) / 1000 } } : State).autoNow :=
      State.autoNow_congr ⟨_, rfl⟩ (by simp [State.withStore])
    refine done_act rfl rfl hp fun u hu => ?_
    rw [hf] at hu
    have hval := ((s.at t).withStore ((mv : Rat) / 1000)).val_updateCeiling
    have hstore : ((s.at t).withStore ((mv : Rat) / 1000)).val 0x2202 0 2 = .real ((mv : Rat) / 1000) ∧
        ((s.at t).withStore ((mv : Rat) / 1000)).val 0x2202 0 1 =
          .real ({ s with pwr := { s.pwr with storeV := (mv : Rat) / 1000 } } : State).forecast := by
      constructor <;> simp [State.withStore, State.val_setVal]
      rfl
    refine ⟨?_, ?_, ?_, ?_, ?_, ?_⟩
    · simp [hu, State.withStore]
    · simp [hu, hval, hstore]
    · simp [hu, hval, hstore]
    · simp [hu, hauto]
    · simp [hu, State.updateCeiling_ceiling, hauto]
      simp [State.withStore]
    · exact State.Frame.eq (s := s) (ps := Part.logs ++ [.pwr]) (by simp [hu, State.withStore])
  case rise =>
    obtain ⟨w', hw'⟩ : ∃ v : State, v = { s.at t with pwr := { s.pwr with rise := none } } := ⟨_, rfl⟩
    have hf : dirtyCeilingRise (s.at t) = (w'.setCeiling v).updateCeiling := by
      have hlt' : s.o 0x2201 0 2 < v := hlt
      simp [dirtyCeilingRise, hr, dueAt, hw, hlt', hst, hw']
    have hauto : (w'.setCeiling v).autoNow = s.autoNow := by
      have h : (w'.setCeiling v).autoNow = w'.autoNow := State.autoNow_congr (w'.setCeiling_pwr v) (by
        rw [State.o, State.val_setCeiling _ _ _ _ _ (by decide) (by decide)]
        simp)
      rw [h, hw']
      rfl
    refine done_act rfl rfl hp fun u hu => ?_
    rw [hf] at hu
    refine ⟨?_, ?_, ?_⟩
    · have h1 : (w'.setCeiling v).o 0x2201 0 1 = s.o 0x2201 0 1 := by
        rw [State.o, State.val_setCeiling _ _ _ _ _ (by decide) (by decide)]
        simp [hw']
      have h2 : (w'.setCeiling v).o 0x2201 0 2 = v := by
        rw [State.o, State.val_setCeiling _ _ _ _ _ (by decide) (by decide)]
        simp
      simpa [hu, State.updateCeiling_ceiling, hauto, h1, h2] using hv
    · simp [hu, hauto]
    · exact State.Frame.eq (s := s) (ps := Part.logs ++ [.pwr]) (by simp [hu, hw'])
  case measured =>
    obtain ⟨v, hv, hvp, hvo⟩ : ∃ v : State, v = (s.at t).measured (2000 / (mv : Rat)) ∧
        v.pwr = { s.pwr with
          measuredAt := some (max s.now t), caps := (2000 / (mv : Rat) :: s.pwr.caps).take 5
          storedCap := some (median ((2000 / (mv : Rat) :: s.pwr.caps).take 5)) } ∧
        v.val 0x2202 0 3 = .real (median ((2000 / (mv : Rat) :: s.pwr.caps).take 5)) :=
      ⟨_, rfl, by simp [State.measured], by simp [State.measured, State.capNow]⟩
    have hf : capacitanceMeasurement mv (s.at t) = if 368 ≤ mv then v.raise .holdupAging [mv] else v := by
      rw [hv]
      exact capacitanceMeasurement_good hst hm h1 h2
    refine done_act rfl rfl hp fun u hu => ?_
    have hframe : s.Frame (Part.logs ++ [.pwr]) u := by simp [hu]
    rw [hf] at hu
    have hup : u.pwr = v.pwr := by
      rw [hu]
      split <;> simp
    refine ⟨?_, ?_, ?_, ?_, ?_, State.Frame.eq (s := s) hframe⟩
    · rw [hup, hvp]
    · rw [hup, hvp]
    · rw [hup, hvp]
    · have hval : u.val 0x2202 0 3 = v.val 0x2202 0 3 := by
        rw [hu]
        split <;> simp
      rw [hval, hvo, hup, hvp]
    · intro h
      rw [hu, if_pos h]
      exact State.told_raise _ _ _
  case bad =>
    have hf := capacitanceMeasurement_bad (s := s.at t) (mv := mv) hst hm hw hmv
    refine done_act rfl rfl hp fun u hu => ?_
    rw [hf] at hu
    refine ⟨?_, ?_, ?_⟩
    · rw [hu]
      exact State.told_raise _ _ _
    · simp [hu]
    · exact State.Frame.eq (s := s) (ps := Part.logs ++ [.pwr]) (by simp [hu])
  case erase =>
    have hf : copyRegionErase k (s.at t) = ((s.at t).setRegion k { state := 0, seq := (s.copyRegion k).seq }).updateCeiling := by
      simp [copyRegionErase, hst, h3]
    refine done_act rfl (decide_eq_true hk) hp fun u hu => ?_
    rw [hf] at hu
    refine ⟨?_, ?_⟩
    · simp [hu]
    · exact State.Frame.eq (s := s) (ps := Part.logs ++ [.pwr]) (by simp [hu])
  case vault =>
    obtain ⟨v, hv⟩ : ∃ v : State, v =
        { s.at t with pwr := { s.pwr with rate := (rate : Rat) / 1000, testOk := readOk } }.setVal 0x2201 0 0xD
          (.real (min 12 ((rate : Rat) / 1000))) := ⟨_, rfl⟩
    have hf : vaultTest rate readOk (s.at t) = (if v.vaultUsable then v else v.raise .vaultFailed [rate]).updateCeiling := by
      rw [hv]
      rfl
    refine done_act rfl rfl hp fun u hu => ?_
    have hframe : s.Frame (Part.logs ++ [.pwr]) u := by simp [hu]
    rw [hf] at hu
    obtain ⟨w, hw⟩ : ∃ w : State, w = if v.vaultUsable then v else v.raise .vaultFailed [rate] := ⟨_, rfl⟩
    rw [← hw] at hu
    have hpwr : w.pwr = { s.pwr with rate := (rate : Rat) / 1000, testOk := readOk } := by
      rw [hw, hv]
      split <;> simp
    refine ⟨?_, ?_, ?_, ?_, State.Frame.eq (s := s) hframe⟩
    · simp [hu, hpwr]
    · simp [hu, hpwr]
    · have hD : w.val 0x2201 0 0xD = .real (min 12 ((rate : Rat) / 1000)) := by
        rw [hw, hv]
        split <;> simp
      simp [hu, State.val_updateCeiling, hD]
    · intro h
      have hauto : w.autoNow = 0 := by
        refine if_neg fun hu => ?_
        simp only [State.vaultUsable, Bool.and_eq_true, decide_eq_true_eq, hpwr] at hu
        obtain ⟨⟨-, hrate⟩, hok⟩ := hu
        obtain h | h := h
        · simp [hok] at h
        · have : (rate : Rat) < 4000 := by exact_mod_cast h
          linarith
      simp [hu, State.updateCeiling_ceiling, hauto]
  case lull =>
    have hi' : (s.at t).idle = true := hi
    have h1' : s.o 0x2220 0 1 = 1 := h1
    have hw' : s.pwr.idleSince + s.o 0x2220 0 2 * msNs ≤ max s.now t := hw
    have hf : lullEntry (s.at t) = (s.at t).lulled := by
      simp [lullEntry, State.lulled, h1', hi', dueAt, hw']
    refine done_act rfl rfl hp fun u hu => ?_
    have hframe : s.Frame (Part.logs ++ [.eth, .pwr]) u := by simp [hu]
    rw [hf] at hu
    refine ⟨?_, ?_, ?_, ?_, State.Frame.eq (s := s) hframe⟩
    · simp [hu, State.lulled]
    · simp [hu, State.lulled]
    · simp [hu, State.lulled, satAt_eq_satAdd, counterMax_lull]
    · simp [hu, State.lulled, State.otherObjects_iff]
  case lullNow =>
    have hi' : (s.at t).idle = true := hi
    have h2' : s.o 0x2220 0 1 = 2 := h2
    have hf : lullEntry (s.at t) = (s.at t).lulled := by
      simp [lullEntry, State.lulled, h2', hi', dueAt, hw]
    refine done_act rfl rfl hp fun u hu => ?_
    have hframe : s.Frame (Part.logs ++ [.eth, .pwr]) u := by simp [hu]
    rw [hf] at hu
    refine ⟨?_, ?_, State.Frame.eq (s := s) hframe⟩
    · simp [hu, State.lulled]
    · simp [hu, State.lulled]
  case thaw =>
    have hf : thaw trigger (s.at t) = (s.at t).thawNow := by
      have ht' : (s.at t).thawStarts trigger = true := ht
      simp [thaw, ht']
    refine done_act rfl rfl hp fun u hu => ?_
    have hframe : s.Frame (Part.logs ++ [.eth, .pwr]) u := by simp [hu]
    rw [hf, State.thawNow_lull (s.at t) hl] at hu
    refine ⟨?_, ?_, ?_, ?_, ?_, State.Frame.eq (s := s) hframe⟩
    · simp [hu]
    · simp [hu]
    · simp [hu, satAt_eq_satAdd, counterMax_lull]
    · have h (n : Nat) : n % 40001 ≤ 40000 := by omega
      simp [hu, h]
    · simp [hu, State.otherObjects_iff]
  case noThaw =>
    have hf : thaw trigger (s.at t) = s.at t := by
      obtain h | h := ht
      · have h' : (s.at t).thawStarts trigger = false := h
        simp [thaw, h']
      · simp [thaw, State.thawNow, h]
    refine done_act rfl rfl hp fun u hu => ?_
    rw [hu, hf]
    rfl

end Sys2Proof.Machine
end

section
/-! CLAIM. Images, trials and attestation (17 R587 to R612). -/

namespace Sys2Proof.Machine

/-! ### Reception -/

/-- The state in which more bytes of an image have been kept. -/
def State.kept (s : State) (len : Nat) (content : Content) : State :=
  { s with fw := { s.fw with
      rx := s.fw.rx + content % 256 ^ len * 256 ^ s.fw.rxLen, rxLen := s.fw.rxLen + len, rxAt := s.now } }

@[simp] theorem State.kept_o (s : State) (len : Nat) (content : Content) (i r k : Nat) : (s.kept len content).o i r k = s.o i r k := rfl

theorem State.appendImage_eq (s : State) (len : Nat) (content : Content) (c : ImageCheck) :
    s.appendImage len content c =
      let v := if (s.kept len content).o 0x2301 0 1 = 1 ∧ 4096 ≤ (s.kept len content).fw.rxLen then (s.kept len content).headerArrives
        else s.kept len content
      if v.o 0x2301 0 1 = 2 ∧ 4096 + slice v.fw.rx 24 8 ≤ v.fw.rxLen then
        { v with fw := { v.fw with
            rx := slice v.fw.rx 0 (4096 + slice v.fw.rx 24 8), rxLen := 4096 + slice v.fw.rx 24 8 } }.imageArrives c.digestOk
      else v := rfl

/-- Before its header is complete, an image is only kept. -/
theorem State.appendImage_short {s : State} {len : Nat} (content : Content) (c : ImageCheck) (h1 : s.o 0x2301 0 1 = 1)
    (hl : s.fw.rxLen + len < 4096) : s.appendImage len content c = s.kept len content := by
  have hlt : ¬ 4096 ≤ (s.kept len content).fw.rxLen := Nat.not_le.2 hl
  rw [State.appendImage_eq]
  simp [hlt, h1]

/-- A header that is refused ends the transfer. -/
theorem State.appendImage_refused {s : State} {len : Nat} (content : Content) (c : ImageCheck) (h1 : s.o 0x2301 0 1 = 1)
    (hl : s.fw.rxLen + len = 4096)
    (hc : s.receiveCode { len := 4096, data := s.fw.rx + content % 256 ^ len * 256 ^ s.fw.rxLen } ≠ 0) :
    s.appendImage len content c = ((s.kept len content).put 0x2301 0 1 4).put 0x2301 0 6
      (s.receiveCode { len := 4096, data := s.fw.rx + content % 256 ^ len * 256 ^ s.fw.rxLen }) := by
  have hge : 4096 ≤ (s.kept len content).fw.rxLen := hl.ge
  have hh : (s.kept len content).headerArrives = ((s.kept len content).put 0x2301 0 1 4).put 0x2301 0 6
      (s.receiveCode { len := 4096, data := s.fw.rx + content % 256 ^ len * 256 ^ s.fw.rxLen }) :=
    (if_pos hc).trans (if_pos (.inl h1))
  rw [State.appendImage_eq]
  simp [hge, h1, hh]

/-! ### Trials -/

/-- What the confirmation of the running image leaves. -/
theorem State.confirm_confirmed {s u v : State} (h1 : v.o 0x2300 0 4 = 1) (hfw : v.fw.running = s.fw.running)
    (h3 : v.o 0x2300 0 3 = s.o 0x2300 0 3) (hu : u.fw = v.confirm.fw) (hd : u.dict = v.confirm.dict) (he : u.ev = v.confirm.ev) :
    s.confirmed u := by
  have hc : v.confirm = v.confirmImage := if_pos h1
  rw [hc] at hu hd he
  have ho : ∀ i r k, u.o i r k = v.confirmImage.o i r k := fun i r k => by simp [State.o, State.val, hd]
  refine ⟨?_, ?_, ?_, ?_, ?_, ?_, ?_, ?_⟩
  · simp [hu, State.confirmImage, hfw]
  · simp [hu, State.confirmImage]
  · simp [hu, State.confirmImage]
  · simp [ho, State.confirmImage]
  · simp [ho, State.confirmImage]
  · have hmax : (if v.o 0x2300 0 3 < v.fw.running.svn then v.keepVal 0x2300 0 3 (.nat v.fw.running.svn) else v).o 0x2300 0 3 =
        max (s.o 0x2300 0 3) s.fw.running.svn := by
      rw [← h3, ← hfw]
      split
      · next h => simp [max_eq_right h.le]
      · next h => exact (max_eq_left (Nat.not_lt.1 h)).symm
    simp [ho, State.confirmImage]
    exact hmax
  · simp [hd, State.confirmImage]
  · rw [← hfw]
    exact State.told_of_ev he (State.told_raise _ _ _)

/-- With nothing to flush, a revert resets the module at once. -/
theorem State.revertImage_eq {s : State} (hd : s.dirtyBytes = 0) (ha : s.arrays = []) : ∃ v : State, s.revertImage = v.resetModule true := by
  refine ⟨{ s with
    fw := { s.fw with rejected := true, goal := some .revert, flushAt := s.now }, pwr := { s.pwr with flushAll := true } }, ?_⟩
  have hf : ({ s with fw := { s.fw with rejected := true } } : State).fastFlush .revert = { s with
      fw := { s.fw with rejected := true, goal := some .revert, flushAt := s.now }, pwr := { s.pwr with flushAll := true } } := by
    have h : ∀ {v : State} {f : State → Nat → State}, v.arrays = [] → v.each v.arrays f = v := fun h => by rw [h]; rfl
    exact h ha
  rw [State.revertImage, hf]
  exact (if_neg (not_not.2 hd)).trans (if_neg (by decide))

/-! ### Attestation -/

/-- A session that may write exists. -/
theorem State.session?_of_mayWrite {s : State} {sess i k : Nat} {v : Val} (h : s.mayWrite sess i k v = true) :
    ∃ x, s.session? sess = some x := by
  unfold State.mayWrite at h
  cases hx : s.session? sess with
  | none => simp [hx] at h
  | some x => exact ⟨x, rfl⟩


/-- An answer leaves the session but for its count of answers. -/
theorem State.session?_reply (s : State) (sess : Nat) (c : Abort) (v : Option Val) :
    (s.reply sess c v).session? sess = (s.session? sess).map fun x => { x with tx := x.tx + 1 } := by
  have h : (s.sent sess 1).session? sess = (s.session? sess).map fun x => { x with tx := x.tx + 1 } := by
    unfold State.sent
    cases hx : s.session? sess with
    | none => simp [hx]
    | some x => simp [State.session?, State.setSession]
  obtain e | e := s.reply_eq_or sess c v <;> rw [e, ← h]
  · rfl
  · simp [State.session?, State.mailboxAnswered_keeps]

/-- Settles O50. -/
theorem imageActs : Obligations.ImageActs := by
  intro s t sess hp
  refine ⟨fun hw h1 h2 ha hst => ?begins, fun len content check hw h1 hl => ?data, fun len content check hw h1 hl hc => ?refused,
    fun hw hr => ?abort, fun hr ht => ?timeout, fun h2 => ?rewritten, fun hw h1 => ?confirm, fun hs hy hA hrej h1 ht => ?expiry,
    fun hw h1 hd ha => ?revert, fun nonce hw => ?nonce, fun x hx => ?report⟩
  case begins =>
    have hc : beginCode 1 (s.at t) = 0 := by
      have h1' : s.o 0x2300 0 4 ≠ 1 := h1
      have h2' : s.o 0x2300 0 4 ≠ 2 := h2
      have ha' : (s.at t).activating = false := ha
      simp [beginCode, firstCode, need, h1', h2', ha', hst]
    refine done_writeAs rfl rfl hp hw hc fun u hu => ?_
    refine ⟨?_, ?_, ?_, ?_, ?_, ?_⟩
    · simp [hu, State.beginTransfer]
    · simp [hu, State.beginTransfer]
    · simp [hu, State.beginTransfer]
    · simp [hu, State.answered]
    · simp [hu, State.beginTransfer, State.otherObjects_iff]
    · exact State.Frame.eq (s := s) (ps := Part.logs ++ [.np, .fw]) (by simp [hu])
  case data =>
    have hc : need (s.at t).receiving abState = 0 := if_pos (decide_eq_true (.inl h1))
    refine done_writeAs rfl rfl hp hw hc fun u hu => ?_
    rw [State.appendImage_short (s := s.at t) content check h1 hl] at hu
    refine ⟨?_, ?_, ?_, ?_⟩
    · simp [hu, State.kept]
    · simp [hu, State.answered]
    · simp [hu, State.kept, State.otherObjects_iff]
    · exact State.Frame.eq (s := s) (ps := Part.logs ++ [.np, .fw]) (by simp [hu, State.kept])
  case refused =>
    have hc' : need (s.at t).receiving abState = 0 := if_pos (decide_eq_true (.inl h1))
    refine done_writeAs rfl rfl hp hw hc' fun u hu => ?_
    rw [State.appendImage_refused (s := s.at t) content check h1 hl hc] at hu
    refine ⟨?_, ?_, ?_, ?_, ?_⟩
    · simp [hu]
    · simp [hu]
      rfl
    · simp [hu, State.kept]
    · simp [hu, State.answered]
    · exact State.Frame.eq (s := s) (ps := Part.logs ++ [.np, .fw]) (by simp [hu, State.kept])
  case abort =>
    have hf : (s.at t).endTransfer 9 = ((s.at t).put 0x2301 0 1 4).put 0x2301 0 6 9 := if_pos (of_decide_eq_true hr)
    refine done_writeAs rfl rfl hp hw rfl fun u hu => ?_
    rw [hf] at hu
    refine ⟨?_, ?_, ?_, ?_, ?_⟩
    · simp [hu]
    · simp [hu]
    · simp [hu, State.answered]
    · simp [hu, State.otherObjects_iff]
    · exact State.Frame.eq (s := s) (ps := Part.logs ++ [.np]) (by simp [hu])
  case timeout =>
    have hf : imageTransferTimeout (s.at t) = ((s.at t).put 0x2301 0 1 4).put 0x2301 0 6 10 :=
      (if_pos (decide_eq_true ht)).trans (if_pos (of_decide_eq_true hr))
    refine done_act rfl rfl hp fun u hu => ?_
    rw [hu, hf]
    rfl
  case rewritten =>
    have h2' : s.o 0x2300 0 4 = 2 := h2
    refine done_act rfl rfl hp fun u hu => ⟨?_, ?_, ?_, ?_⟩
    · simp [hu, slotRewriteComplete, h2']
    · simp [hu, slotRewriteComplete, h2']
    · simp [hu, slotRewriteComplete, h2', State.otherObjects_iff]
    · exact State.Frame.eq (s := s) (ps := Part.logs ++ [.fw]) (by simp [hu])
  case confirm =>
    refine done_writeAs rfl rfl hp hw rfl fun u hu => ⟨?_, ?_, ?_⟩
    · exact State.confirm_confirmed (v := s.at t) h1 rfl rfl (by simp [hu]) (by simp [hu]) (by simp [hu])
    · simp [hu, State.answered]
    · exact State.Frame.eq (s := s) (ps := Part.logs ++ [.np, .fw]) (by simp [hu])
  case expiry =>
    have hf : trialTimeExpiry (s.at t) = (s.at t).confirm := by
      refine if_pos ?_
      have hs' : (s.at t).serving = true := hs
      have hy' : s.o 0x2404 0 1 = 0 := hy
      have hA' : s.o 0x2302 0 0xA ≠ 0 := hA
      have ht' : dueAt (max s.now t) (max s.fw.bootAt s.twin.failedAt) (s.o 0x2302 0 0xA * sNs) = true := decide_eq_true ht
      simp [hs', hy', hA', hrej, ht']
    refine done_act rfl rfl hp fun u hu => ⟨?_, ?_⟩
    · rw [hf] at hu
      exact State.confirm_confirmed (v := s.at t) h1 rfl rfl (by simp [hu]) (by simp [hu]) (by simp [hu])
    · exact State.Frame.eq (s := s) (ps := Part.logs ++ [.fw]) (by simp [hu])
  case revert =>
    have hc : revertCode 1 (s.at t) = 0 := by
      have h1' : s.o 0x2300 0 4 = 1 := h1
      simp [revertCode, firstCode, need, h1']
    obtain ⟨v, hv⟩ := State.revertImage_eq (s := s.at t) hd (List.isEmpty_iff.1 ha)
    refine done_writeAs rfl rfl hp hw hc fun u hu => ⟨?_, ?_⟩
    · simp [hu, hv, State.inReset, State.resetModule]
    · simp [hu, State.answered]
  case nonce =>
    refine done_writeAs rfl rfl hp hw rfl fun u hu => ?_
    obtain ⟨x, hx⟩ := State.session?_of_mayWrite hw
    have hf : (s.at t).setNonce sess nonce = (s.at t).setSession sess { x with nonce := nonce } := State.withSession_some _ hx
    rw [hf] at hu
    refine ⟨?_, ?_, ?_, ?_⟩
    · simp [hu, State.session?_reply]
    · simp [hu, State.answered]
    · simp [hu, State.otherObjects_iff]
    · exact State.Frame.eq (s := s) (ps := Part.logs ++ [.np]) (by simp [hu])
  case report =>
    have hf : attestationReportRead sess (s.at t) =
        (s.at t).reply sess 0 (some (.oct ((s.at t).report x.nonce).1 ((s.at t).report x.nonce).2)) := State.withSession_some _ hx
    refine done_act rfl rfl hp fun u hu => ?_
    rw [hf] at hu
    refine ⟨?_, ?_, ?_⟩
    · simp [hu]
    · simp [hu, State.otherObjects_iff]
    · exact State.Frame.eq (s := s) (ps := Part.logs ++ [.np]) (by simp [hu])

end Sys2Proof.Machine
end

section
/-! CLAIM. A module in reset boots (17 R616 to R619). -/

namespace Sys2Proof.Machine

/-- The parts that a boot shows things in. -/
abbrev Part.shown : List Part := [.out, .dict, .sess, .ev, .rings, .ptp, .np, .meter, .pwr]

@[simp] theorem State.bootClock_off (v : State) : v.bootClock.pwr.off = v.pwr.off := by
  unfold State.bootClock
  split <;> rfl

@[simp] theorem State.bootFault_off (v : State) : v.bootFault.pwr.off = v.pwr.off := by
  unfold State.bootFault
  split <;> simp

/-- A boot brings the rails on with the image that it took, and then comes up in loader-only mode or in service. -/
theorem State.boot_eq (s : State) (e : BootEnv) :
    ∃ v w : State, v.fw = (s.takeImage e).fw ∧ v.vcore = 8200 ∧ v.pwr.off = false ∧
      w = (if v.fw.source = 3 then { v with twin := { v.twin with stopped := true } } else v.bootService s) ∧
      s.boot e = w.emit (.canHeartbeat (w.ob 0x1100 1) 0) := by
  unfold State.boot
  extract_lets old ended cut s1 s2 s3 s4 s5 s6 s7 s8 s9 s10 tw s11
  have h4 : s4.fw = s1.fw := by
    have h2 : s2.fw = s1.fw := by
      unfold s2
      split <;> rfl
    have h3 : s3.fw = s2.fw := by
      unfold s3 State.restoreStore
      split <;> rfl
    exact h3.trans h2
  have h5 : s4.Frame Part.shown s5 := by simp [s5]
  have h7 : s5.Frame [.out, .dict, .sess, .ev, .rings] s7 := by
    unfold s7
    split <;> simp [s6]
  have h8 : s7.Frame [.dict] s8 := by simp [s8]
  have h9 : s8.Frame [.out, .dict, .sess, .ev, .rings, .pwr] s9 := by simp [s9]
  have h10 : s9.Frame [.out, .dict, .sess, .ev, .rings, .np] s10 := by simp [s10, State.frame_each]
  have hall : s4.Frame Part.shown s10 :=
    (((h5.trans (h7.mono (by simp))).trans (h8.mono (by simp))).trans (h9.mono (by simp))).trans (h10.mono (by simp))
  refine ⟨s10, s11, ?_, ?_, ?_, rfl, rfl⟩
  · exact (show s10.fw = s4.fw from hall.same .fw).trans h4
  · exact hall.same .vcore
  · have h5' : s5.pwr.off = s4.pwr.off := by
      have h := State.frame_bootLedger (s := s4.bootClock) (u := s4.bootClock) (ps := [.dict, .meter]) (by simp)
      exact (congrArg PowerState.off (State.same_of_frame h .pwr)).trans s4.bootClock_off
    have h9' : s9.pwr.off = s8.pwr.off := by
      have h := State.frame_rearm (s := s8.bootFault) (u := s8.bootFault.bootExchange) (ps := [.dict]) (by simp)
      rw [State.frame_bootExchange (by simp)] at h
      exact (congrArg PowerState.off (State.same_of_frame h .pwr)).trans s8.bootFault_off
    calc s10.pwr.off = s9.pwr.off := congrArg PowerState.off (h10.same .pwr)
      _ = s8.pwr.off := h9'
      _ = s7.pwr.off := congrArg PowerState.off (h8.same .pwr)
      _ = s5.pwr.off := congrArg PowerState.off (h7.same .pwr)
      _ = false := h5'

/-- Without an image only the loader runs. -/
theorem State.takeImage_none {s : State} (e : BootEnv) (h1 : s.fw.slot = none) (h2 : s.fw.fallback = none) :
    (s.takeImage e).fw.source = 3 ∧ (s.takeImage e).fw.bootAt = s.now := by
  have hsrc : s.bootSource e = 3 := by simp [State.bootSource, State.slotCode, State.imageCode, h1, h2]
  simp [State.takeImage, hsrc]

/-- Settles O51. -/
theorem bootActs : Obligations.BootActs := by
  intro s t e hoff hgood hst hhot hhalt
  have hf : boot e (s.at t) = if e.loaderOk then (s.at t).boot e else { s.at t with fw := { s.fw with halted := true } } := by
    simp [boot, hoff, hgood, hst, hhot, hhalt]
  refine ⟨fun hl => ?halted, fun hl h1 h2 => ?loader, fun hl => ?up⟩
  case halted =>
    refine done_actAll rfl rfl fun u hu => ?_
    rw [hf, hl] at hu
    refine ⟨?_, ?_, ?_⟩
    · simp [hu]
    · simp [hu, State.otherObjects_iff]
    · exact State.Frame.eq (s := s) (ps := Part.logs ++ [.core, .fw, .vcore]) (by simp [hu])
  case loader =>
    refine done_actAll rfl rfl fun u hu => ?_
    obtain ⟨v, w, hfw, hv, hoff', hw, hboot⟩ := (s.at t).boot_eq e
    rw [hf, hl, if_pos rfl, hboot] at hu
    have htake := State.takeImage_none (s := s.at t) e h1 h2
    have hsrc : v.fw.source = 3 := by rw [hfw, htake.1]
    rw [if_pos hsrc] at hw
    refine ⟨?_, ?_, ?_, ?_, ?_, ?_⟩
    · simp [hu, hw, hoff']
    · simp [hu, hw]
    · simp [hu, hw, hsrc]
    · simp [hu, hw, hfw, htake.2]
    · simp [hu, hw, hv, railVolt]
    · simp [hu]
  case up =>
    refine done_actAll rfl rfl fun u hu => ?_
    obtain ⟨v, w, -, -, -, -, hboot⟩ := (s.at t).boot_eq e
    rw [hf, hl, if_pos rfl, hboot] at hu
    simp [hu]

end Sys2Proof.Machine
end

section
/-! CLAIM. Activations are scheduled, wait, drain and reset (17 R594 to R603). -/

namespace Sys2Proof.Machine

/-! ### A reset ends every activation -/

theorem State.inReset_of_resetModule {s u v : State} {t : Nat} {planned : Bool} (hu : u = s.after t (v.resetModule planned)) : u.inReset := by
  subst hu
  exact ⟨rfl, rfl, rfl, rfl, rfl, rfl⟩

/-- An activation resets the module. -/
theorem State.activate_eq (s : State) : ∃ v : State, s.activate = v.resetModule true := ⟨_, rfl⟩

theorem State.inReset_of_activate {s u v : State} {t : Nat} (hu : u = s.after t v.activate) : u.inReset := by
  obtain ⟨w, hw⟩ := v.activate_eq
  exact State.inReset_of_resetModule (hu.trans (by rw [hw]))

/-- The arrays depend on their switches alone. -/
theorem State.arrays_congr {u v : State} (h : ∀ a, v.o 0x5000 a 2 = u.o 0x5000 a 2) : v.arrays = u.arrays := by
  have : v.arrOn = u.arrOn := funext fun a => by simp [State.arrOn, h]
  rw [State.arrays, this, State.arrays]

/-- A due time depends on three objects. -/
theorem State.dueTime_congr {u v : State} (due : Nat)
    (h : v.o 0x2302 0 2 = u.o 0x2302 0 2 ∧ v.o 0x2302 0 3 = u.o 0x2302 0 3 ∧ v.o 0x2302 0 4 = u.o 0x2302 0 4) :
    v.dueTime due = u.dueTime due := by
  obtain ⟨h2, h3, h4⟩ := h
  rw [State.dueTime, State.ob_eq, State.ob_eq, State.ob_eq, h2, h3, h4]
  rfl

/-- With nothing to flush, a flush before an activation activates at once. -/
theorem State.fastFlush_afterFlush {s : State} (hd : s.dirtyBytes = 0) (ha : s.arrays = []) :
    ∃ v : State, (s.fastFlush .activate).afterFlush = v.activate := by
  refine ⟨{ s with fw := { s.fw with goal := some .activate, flushAt := s.now }, pwr := { s.pwr with flushAll := true } }, ?_⟩
  have hf : s.fastFlush .activate =
      { s with fw := { s.fw with goal := some .activate, flushAt := s.now }, pwr := { s.pwr with flushAll := true } } := by
    have h : ∀ {v : State} {f : State → Nat → State}, v.arrays = [] → v.each v.arrays f = v := fun h => by rw [h]; rfl
    exact h ha
  rw [hf]
  exact (if_neg (not_not.2 hd)).trans (if_pos rfl)

/-- With no array and no interface to hand over, a drain is over at once. -/
theorem State.startDrain_afterDrain {s : State} (ha : s.arrays = []) (hr : s.ifRows = []) :
    ∃ v : State, s.startDrain.afterDrain = v.activate := by
  refine ⟨{ s with fw := { s.fw with drainAt := some s.now } }.put 0x2302 0 6 3, ?_⟩
  have ha' : ({ s with fw := { s.fw with drainAt := some s.now } }.put 0x2302 0 6 3).arrays = [] := by
    rw [← ha]
    exact State.arrays_congr (by simp)
  have hs : s.startDrain = { s with fw := { s.fw with drainAt := some s.now } }.put 0x2302 0 6 3 := by
    simp only [State.startDrain, hr, State.ownArrays, ha', List.filter_nil]
    simp [State.each, ha']
  rw [hs, State.afterDrain, if_pos]
  simp [State.ownArrays, ha']

/-! ### A cancellation -/

/-- An activation ends: its goal, its drain and its objects. -/
def State.cancelNow (s : State) : State :=
  (((({ s with fw := { s.fw with goal := none, drainAt := none }, pwr := { s.pwr with flushAll := false } } : State).put 0x2302 0 6 5).put
    0x2302 0 0xB 0).keepVal 0x2302 0 1 (.nat 0)).raise .activationCancelled [s.ob 0x2302 5]

/-- Without a drain that is all that a cancellation does. -/
theorem State.cancelActivation_eq {s : State} (hd : s.fw.drainAt = none) : s.cancelActivation = s.cancelNow := by
  unfold State.cancelActivation
  simp only [hd, Option.isSome_none, Bool.false_eq_true, if_false]
  rfl

@[simp] theorem State.frame_cancelNow {ps : List Part} {s u : State}
    (h : .out ∈ ps ∧ .dict ∈ ps ∧ .sess ∈ ps ∧ .ev ∈ ps ∧ .rings ∈ ps ∧ .pwr ∈ ps ∧ .fw ∈ ps ∧ .flushAll ∈ ps) :
    s.Frame ps u.cancelNow ↔ s.Frame ps u := by
  simp [State.cancelNow, h]

theorem State.cancelled_of_cancelNow {s u v : State} (h5 : v.o 0x2302 0 5 = s.o 0x2302 0 5) (hfw : u.fw = v.cancelNow.fw)
    (hp : u.pwr = v.cancelNow.pwr) (hd : u.dict = v.cancelNow.dict) (he : u.ev = v.cancelNow.ev) : s.cancelled u := by
  have ho : ∀ i r k, u.o i r k = v.cancelNow.o i r k := fun i r k => by simp [State.o, State.val, hd]
  refine ⟨?_, ?_, ?_, ?_, ?_, ?_, ?_⟩
  · simp [ho, State.cancelNow]
  · simp [ho, State.cancelNow]
  · simp [ho, State.cancelNow]
  · simp [hfw, State.cancelNow]
  · simp [hfw, State.cancelNow]
  · simp [hp, State.cancelNow]
  · rw [State.ob_eq, ← h5]
    exact State.told_of_ev he (State.told_raise _ _ _)

/-- An array whose transfer is given up. -/
abbrev State.undrainArray (s : State) (a : Nat) : State := (s.put 0x2410 a 4 0).syncAna a

/-- Where no controller lives, only objects show it. -/
theorem State.undrainArray_noCtrls {s : State} (a : Nat) (hc : s.nvme.ctrls = []) :
    (s.Frame [.dict] (s.undrainArray a)) ∧ (∀ r, (s.undrainArray a).o 0x2410 r 4 = if objKey 0x2410 a 4 = objKey 0x2410 r 4 then 0 else s.o 0x2410 r 4) ∧
      (s.undrainArray a).o 0x2302 0 5 = s.o 0x2302 0 5 := by
  have hl : ∀ v : State, v.nvme.ctrls = [] → v.liveCtrls = [] := fun v h => by simp [State.liveCtrls, h]
  unfold State.undrainArray State.syncAna
  extract_lets x v
  split
  · simp
  · have hv : v.liveCtrls = [] := hl v hc
    rw [hv]
    simp [State.each, v]

/-- The drains of arrays that are given up. -/
theorem State.each_undrainArray {s : State} (xs : List Nat) (hc : s.nvme.ctrls = []) :
    s.Frame [.dict] (s.each xs State.undrainArray) ∧ (∀ a ∈ xs, (s.each xs State.undrainArray).o 0x2410 a 4 = 0) ∧
      (∀ r, (s.each xs State.undrainArray).o 0x2410 r 4 = 0 ∨ (s.each xs State.undrainArray).o 0x2410 r 4 = s.o 0x2410 r 4) ∧
      (s.each xs State.undrainArray).o 0x2302 0 5 = s.o 0x2302 0 5 := by
  induction xs generalizing s with
  | nil => exact ⟨State.Frame.refl _ _, by simp, fun r => .inr rfl, rfl⟩
  | cons a xs ih =>
    obtain ⟨hf, ho, h5⟩ := State.undrainArray_noCtrls a hc
    have hc' : (s.undrainArray a).nvme.ctrls = [] := by rw [hf.same .nvme, hc]
    obtain ⟨hf', h0, hr, h5'⟩ := ih hc'
    refine ⟨hf.trans hf', ?_, ?_, h5'.trans h5⟩
    · intro b hb
      obtain rfl | hb := List.mem_cons.1 hb
      · obtain h | h := hr b
        · exact h
        · exact h.trans ((ho b).trans (if_pos rfl))
      · exact h0 b hb
    · intro r
      obtain h | h := hr r
      · exact .inl h
      · rw [ho r] at h
        split at h
        · exact .inl h
        · exact .inr h

/-- A drain that runs is given up first. -/
theorem State.cancelActivation_drain {s : State} {w : Nat} (hd : s.fw.drainAt = some w) :
    s.cancelActivation = (s.each (s.arrays.filter fun a => decide (s.o 0x2410 a 3 = s.ownIndex ∧ s.o 0x2410 a 4 = 1))
      State.undrainArray).cancelNow := by
  unfold State.cancelActivation
  simp only [hd, Option.isSome_some, if_true]
  rfl

/-- A command whose effect is a cancellation. -/
theorem State.cancelNow_acts {s u : State} {t : Nat} (hu : u = s.after t (s.at t).cancelNow) :
    s.cancelled u ∧ u = { s.logged u with pwr := u.pwr, fw := u.fw } := by
  constructor
  · exact State.cancelled_of_cancelNow (v := s.at t) rfl (by simp [hu]) (by simp [hu]) (by simp [hu]) (by simp [hu])
  · exact State.Frame.eq (s := s) (ps := Part.logs ++ [.pwr, .fw, .flushAll]) (by simp [hu, State.cancelNow])

/-- Settles O52. -/
theorem activationActs : Obligations.ActivationActs := by
  intro s t sess hp
  refine ⟨fun due hw h0 h3 hlo ht => ?schedule, fun hw h1 hd => ?cancel, fun hg hdue hlo h3 htime => ?waits,
    fun hg hdue hlo h3 htime htwin hdirty ha => ?due, fun hg hdue hlo h3 hd => ?gone, fun h2 htime ht hd => ?wait,
    fun hg hdirty ht hd => ?flush, fun hg hdirty ht => ?revert, fun hd hm ha hr => ?drain, fun hd hm => ?noDrain,
    fun hd ho => ?drained, fun w hd ht ho hc => ?timeout, fun hd ho => ?late⟩
  case schedule =>
    have hc : scheduleCode due (s.at t) = 0 := by
      have h3' : s.o 0x2301 0 1 = 3 := h3
      simp [scheduleCode, need, h3']
    have hf : (s.at t).schedule due = (((s.at t).keepVal 0x2302 0 1 (.nat due)).put 0x2302 0 0xB (s.dueTime due)).put 0x2302 0 6 1 := by
      have hdt : ((s.at t).keepVal 0x2302 0 1 (.nat due)).dueTime due = s.dueTime due := State.dueTime_congr due (by simp)
      have hlo' : s.o 0x2300 0 4 ≠ 3 := of_decide_eq_false hlo
      simp only [State.schedule, if_neg h0, hdt]
      rw [if_neg, if_neg]
      · rw [State.dueTime_congr (u := s) due (by simp)]
        exact not_le.2 ht
      · simp [State.loaderOnly, hlo']
    refine done_writeAs rfl rfl hp hw hc fun u hu => ?_
    rw [hf] at hu
    refine ⟨?_, ?_, ?_, ?_, ?_, ?_⟩
    · simp [hu]
    · simp [hu]
    · simp [hu]
    · simp [hu, State.answered]
    · simp [hu, State.otherObjects_iff]
    · exact State.Frame.eq (s := s) (ps := Part.logs ++ [.np]) (by simp [hu])
  case cancel =>
    have h1' : s.o 0x2302 0 6 = 1 := h1
    have hf : (s.at t).cancelScheduled = (s.at t).cancelNow :=
      (if_pos (by simp [h1'])).trans (State.cancelActivation_eq (s := s.at t) hd)
    refine done_writeAs rfl rfl hp hw rfl fun u hu => ?_
    rw [hf] at hu
    refine ⟨?_, ?_, ?_⟩
    · exact State.cancelled_of_cancelNow (v := s.at t) rfl (by simp [hu]) (by simp [hu]) (by simp [hu]) (by simp [hu])
    · simp [hu, State.answered]
    · exact State.Frame.eq (s := s) (ps := Part.logs ++ [.np, .pwr, .fw, .flushAll]) (by simp [hu, State.cancelNow])
  case waits =>
    have h3' : s.o 0x2301 0 1 = 3 := h3
    have hlo' : (s.at t).loaderOnly = false := hlo
    have htime' : (s.at t).timeGood = false := htime
    have hf : activationDue (s.at t) = (s.at t).put 0x2302 0 6 2 := by
      simp [activationDue, hg, hdue, hlo', h3', htime']
    refine done_act rfl rfl hp fun u hu => ?_
    rw [hu, hf]
    rfl
  case due =>
    have h3' : s.o 0x2301 0 1 = 3 := h3
    have hlo' : (s.at t).loaderOnly = false := hlo
    have htime' : (s.at t).timeGood = true := htime
    obtain ⟨v, hv⟩ := State.fastFlush_afterFlush (s := (s.at t).put 0x2302 0 6 3) hdirty (by
      rw [← ha]
      exact State.arrays_congr (by simp))
    have hf : activationDue (s.at t) = v.activate := by
      rw [← hv]
      simp [activationDue, hg, hdue, hlo', h3', htime', htwin]
    exact done_act rfl rfl hp fun u hu => State.inReset_of_activate (hu.trans (by rw [hf]))
  case gone =>
    have h3' : s.o 0x2301 0 1 ≠ 3 := h3
    have hlo' : (s.at t).loaderOnly = false := hlo
    have hf : activationDue (s.at t) = (s.at t).cancelNow := by
      rw [← State.cancelActivation_eq (s := s.at t) hd]
      simp [activationDue, hg, hdue, hlo', h3']
    exact done_act rfl rfl hp fun u hu => State.cancelNow_acts (hu.trans (by rw [hf]))
  case wait =>
    have hf : activationWaitTimeout (s.at t) = (s.at t).cancelNow :=
      (if_pos ⟨h2, htime, ht⟩).trans (State.cancelActivation_eq (s := s.at t) hd)
    exact done_act rfl rfl hp fun u hu => State.cancelNow_acts (hu.trans (by rw [hf]))
  case flush =>
    have hdirty' : (s.at t).dirtyBytes ≠ 0 := hdirty
    have hf : activationFlushTimeout (s.at t) = (s.at t).cancelNow := by
      rw [← State.cancelActivation_eq (s := s.at t) hd]
      simp [activationFlushTimeout, hg, hdirty', dueAt, ht]
    exact done_act rfl rfl hp fun u hu => State.cancelNow_acts (hu.trans (by rw [hf]))
  case revert =>
    have hdirty' : (s.at t).dirtyBytes ≠ 0 := hdirty
    have hf : activationFlushTimeout (s.at t) =
        { s.at t with fw := { s.fw with goal := none }, pwr := { s.pwr with flushAll := false } } := by
      simp [activationFlushTimeout, hg, hdirty', dueAt, ht]
    refine done_act rfl rfl hp fun u hu => ?_
    rw [hu, hf]
    rfl
  case drain =>
    refine done_act rfl rfl hp fun u hu => ?_
    cases hpf : (s.at t).peerFirst with
    | true =>
      have hf : drainStart (s.at t) = (s.at t).drawn := by simp [drainStart, hd, hm, hpf]
      dsimp only
      rw [hu, hf]
      rfl
    | false =>
      obtain ⟨v, hv⟩ := State.startDrain_afterDrain (s := (s.at t).drawn) ha hr
      have hf : drainStart (s.at t) = v.activate := by
        rw [← hv]
        simp [drainStart, hd, hm, hpf]
      exact State.inReset_of_activate (hu.trans (by rw [hf]))
  case noDrain =>
    have hf : drainStart (s.at t) = s.at t := by simp [drainStart, hd, hm]
    refine done_act rfl rfl hp fun u hu => ?_
    rw [hu, hf]
    rfl
  case drained =>
    have hf : drainStart (s.at t) = (s.at t).activate :=
      (if_pos hd).trans (if_pos (List.isEmpty_iff.2 ho))
    exact done_act rfl rfl hp fun u hu => State.inReset_of_activate (hu.trans (by rw [hf]))
  case timeout =>
    obtain ⟨v, hv⟩ : ∃ v : State, v = (s.at t).each
      ((s.at t).arrays.filter fun a => decide ((s.at t).o 0x2410 a 3 = (s.at t).ownIndex ∧ (s.at t).o 0x2410 a 4 = 1)) State.undrainArray := ⟨_, rfl⟩
    obtain ⟨hframe, hzero, hother, h5⟩ := State.each_undrainArray (s := s.at t)
      ((s.at t).arrays.filter fun a => decide ((s.at t).o 0x2410 a 3 = (s.at t).ownIndex ∧ (s.at t).o 0x2410 a 4 = 1)) hc
    rw [← hv] at hframe hzero hother h5
    have hf : drainTimeout (s.at t) = v.cancelNow := by
      have ho' : (s.at t).ownArrays ≠ [] := ho
      have hcancel : (s.at t).cancelActivation = v.cancelNow := by
        rw [State.cancelActivation_drain (s := s.at t) hd, hv]
      simp [drainTimeout, hd, ho', dueAt, ht, hcancel]
    refine done_act rfl rfl hp fun u hu => ?_
    rw [hf] at hu
    refine ⟨?_, fun a ha => ?_, ?_⟩
    · exact State.cancelled_of_cancelNow (v := v) h5 (by simp [hu]) (by simp [hu]) (by simp [hu]) (by simp [hu])
    · have hu4 : u.o 0x2410 a 4 = v.o 0x2410 a 4 := by simp [hu, State.cancelNow]
      obtain ⟨harr, hown⟩ := List.mem_filter.1 ha
      by_cases h1 : s.o 0x2410 a 4 = 1
      · have := hzero a (List.mem_filter.2 ⟨harr, decide_eq_true ⟨of_decide_eq_true hown, h1⟩⟩)
        omega
      · have := hother a
        rw [State.o_at] at this
        omega
    · have h := hframe.mono (qs := Part.logs ++ [.pwr, .fw, .flushAll]) (by simp)
      have hs : s.Frame (Part.logs ++ [.pwr, .fw, .flushAll]) v := State.Frame.trans (by simp) h
      rw [hu]
      exact State.Frame.eq (s := s) (ps := Part.logs ++ [.pwr, .fw, .flushAll])
        (State.frame_after t _ _ (by simp) (.inl rfl) (.inl rfl) (.inl rfl) ((State.frame_cancelNow (by simp)).2 hs))
  case late =>
    obtain ⟨w, hw⟩ := Option.isSome_iff_exists.1 hd
    have hf : drainTimeout (s.at t) = (s.at t).activate := by
      have ho' : (s.at t).ownArrays = [] := ho
      simp [drainTimeout, hw, State.afterDrain, ho']
    exact done_act rfl rfl hp fun u hu => State.inReset_of_activate (hu.trans (by rw [hf]))

end Sys2Proof.Machine
end

section
/-! CLAIM. Rows are selected and committed, and objects written (16 R557 to R577, R643). -/

namespace Sys2Proof.Machine

theorem Tbl.mem_set {α : Type} {t : Tbl α} {k : Nat} {v : α} {e : Nat × α} (h : e ∈ Tbl.set t k v) : e ∈ t ∨ e = (k, v) := by
  induction t with
  | nil => exact .inr (List.mem_singleton.1 h)
  | cons a r ih =>
    obtain ⟨a, x⟩ := a
    unfold Tbl.set at h
    split_ifs at h
    · obtain h | h := List.mem_cons.1 h
      · exact .inr h
      · exact .inl h
    · obtain h | h := List.mem_cons.1 h
      · exact .inr h
      · exact .inl (List.mem_cons_of_mem _ h)
    · obtain h | h := List.mem_cons.1 h
      · exact .inl (h ▸ List.mem_cons_self)
      · exact (ih h).imp_left (List.mem_cons_of_mem _)

theorem Tbl.mem_erase {α : Type} {t : Tbl α} {k : Nat} {e : Nat × α} : e ∈ Tbl.erase t k ↔ e ∈ t ∧ e.1 ≠ k := by
  induction t with
  | nil => simp [Tbl.erase]
  | cons a r ih =>
    obtain ⟨a, x⟩ := a
    unfold Tbl.erase
    split
    · next h =>
      rw [ih, List.mem_cons]
      refine ⟨fun hm => ⟨.inr hm.1, hm.2⟩, fun hm => ⟨hm.1.resolve_left fun e' => hm.2 ?_, hm.2⟩⟩
      rw [e']
      exact h
    · next h =>
      rw [List.mem_cons, List.mem_cons, ih]
      constructor
      · rintro (rfl | hm)
        · exact ⟨.inl rfl, h⟩
        · exact ⟨.inr hm.1, hm.2⟩
      · rintro ⟨rfl | hm, hk⟩
        · exact .inl rfl
        · exact .inr ⟨hm, hk⟩

theorem Tbl.mem_of_find? {α : Type} {t : Tbl α} {k : Nat} {v : α} (h : Tbl.find? t k = some v) : (k, v) ∈ t := by
  induction t with
  | nil => cases h
  | cons a r ih =>
    obtain ⟨a, x⟩ := a
    unfold Tbl.find? at h
    split at h
    · next hk =>
      cases h
      rw [hk]
      exact List.mem_cons_self
    · exact List.mem_cons_of_mem _ (ih h)

/-! ### Sessions that must end -/

section
variable (s : State)

@[simp] theorem State.tidySessions_units :
    s.KeepsUnits s.tidySessions ∧ s.tidySessions.np = s.np ∧ s.tidySessions.free = s.free ∧ s.tidySessions.ev = s.ev ∧
      s.tidySessions.rings = s.rings ∧ s.tidySessions.sess.can = s.sess.can := by
  have h := State.frame_tidySessions (s := s) (u := s) (ps := [.out, .sess]) (by simp)
  have hs := fun p hp => State.same_of_frame h p hp
  exact ⟨⟨hs .now (by simp), hs .pending (by simp), hs .hbm (by simp), hs .vcore (by simp), hs .core (by simp), hs .fab (by simp),
    hs .eth (by simp), hs .ptp (by simp), hs .rdma (by simp), hs .nvme (by simp), hs .sched (by simp), hs .arr (by simp),
    hs .slot (by simp), hs .dma (by simp), hs .meter (by simp), hs .twin (by simp), hs .pwr (by simp), hs .land (by simp),
    hs .fw (by simp)⟩, hs .np (by simp), hs .free (by simp), hs .ev (by simp), hs .rings (by simp), hs .can (by simp)⟩

@[simp] theorem State.tidySessions_objects : s.KeepsObjects s.tidySessions := by
  have h := State.frame_tidySessions (s := s) (u := s) (ps := [.out, .sess]) (by simp)
  exact State.keepsObjects_of_dict (State.same_of_frame h .dict)

theorem State.mem_each_closeSession (ids : List Nat) :
    (∀ o ∈ s.out, o ∈ (s.each ids State.closeSession).out) ∧
      ∀ e, e ∈ (s.each ids State.closeSession).sess.tbl ↔ e ∈ s.sess.tbl ∧ e.1 ∉ ids := by
  induction ids generalizing s with
  | nil => simp [State.each]
  | cons i ids ih =>
    obtain ⟨h1, h2⟩ := ih (s.closeSession i)
    constructor
    · intro o ho
      exact h1 o (List.mem_cons_of_mem _ ho)
    · intro e
      refine (h2 e).trans ?_
      rw [show (s.closeSession i).sess.tbl = Tbl.erase s.sess.tbl i from rfl, Tbl.mem_erase, List.mem_cons]
      tauto

/-- What was sent stays sent. -/
theorem State.mem_tidySessions_out {o : Out} (h : o ∈ s.out) : o ∈ s.tidySessions.out := (s.mem_each_closeSession _).1 o h

/-- No session is left that must end. -/
theorem State.mustEnd_of_mem_tidySessions {e : Nat × Session} (h : e ∈ s.tidySessions.sess.tbl) : s.mustEnd e.2 = false := by
  obtain ⟨hm, hn⟩ := ((s.mem_each_closeSession _).2 e).1 h
  by_contra hc
  exact hn (List.mem_map.2 ⟨e, List.mem_filter.2 ⟨hm, by simpa using hc⟩, rfl⟩)

/-- Where no session must end, nothing happens. -/
theorem State.tidySessions_eq (h : ∀ e ∈ s.sess.tbl, s.mustEnd e.2 = false) : s.tidySessions = s := by
  have : (s.sess.tbl.filter fun e => s.mustEnd e.2) = [] := List.filter_eq_nil_iff.2 fun e he => by simp [h e he]
  rw [State.tidySessions, this]
  rfl

end

@[simp] theorem State.setObj_eq (s : State) (i k : Nat) (v : Val) : State.setObj i k v s = s.setKeep i 0 k v := rfl

/-! ### Stages -/

/-- An answer keeps what its session has staged. -/
theorem State.stage_congr {u v : State} (h : v.dict = u.dict) {x y : Session} (hs : y.stages = x.stages) (win : Nat) :
    v.stage y win = u.stage x win := by
  simp only [State.stage, State.loadStage, State.gen, State.val, hs, h]

theorem State.staged_reply {s : State} {sess : Nat} {x : Session} (hx : s.session? sess = some x) (c : Abort) (v : Option Val) (win : Nat) :
    (s.reply sess c v).staged sess win = s.stage x win := by
  rw [State.staged, State.session?_reply, hx]
  exact State.stage_congr (by simp) rfl win

/-- An answer keeps the transport and the account of every session. -/
theorem State.mem_reply_tbl {s : State} {sess : Nat} {c : Abort} {v : Option Val} {e : Nat × Session}
    (h : e ∈ (s.reply sess c v).sess.tbl) :
    ∃ y, (e.1, y) ∈ s.sess.tbl ∧ e.2.transport = y.transport ∧ e.2.account = y.account := by
  have h : e ∈ (s.sent sess 1).sess.tbl := by
    obtain e' | e' := s.reply_eq_or sess c v
    · rwa [e'] at h
    · simpa [e', State.mailboxAnswered_keeps] using h
  unfold State.sent at h
  split at h
  · next x hx =>
    obtain h | rfl := Tbl.mem_set h
    · exact ⟨e.2, h, rfl, rfl⟩
    · exact ⟨x, Tbl.mem_of_find? hx, rfl, rfl⟩
  · exact ⟨e.2, h, rfl, rfl⟩

theorem State.reply_can (s : State) (sess : Nat) (c : Abort) (v : Option Val) : (s.reply sess c v).sess.can = s.sess.can :=
  State.same_of_frame (State.frame_reply (s := s) (u := s) (ps := [.out, .sess, .rings, .np]) sess c v (by simp)) .can

theorem State.mustEnd_congr {u v : State} (h : u.KeepsObjects v) {x y : Session} (ht : y.transport = x.transport)
    (ha : y.account = x.account) : v.mustEnd y = u.mustEnd x := by
  have ho : ∀ i r k, v.o i r k = u.o i r k := by simp [h]
  simp only [State.mustEnd, State.ob, ht, ha, ho]
  cases x.account <;> rfl

/-- What the reader of 1120h:04 sees is written with a staged account. -/
theorem State.tellFactory_reads (u : State) :
    (∀ w r, u.tellFactory.gen w r = u.gen w r) ∧
      ∀ i r k, objKey 0x1120 0 4 ≠ objKey i r k → u.tellFactory.val i r k = u.val i r k := by
  unfold State.tellFactory
  dsimp only
  split
  · exact ⟨fun _ _ => rfl, fun i r k h => by simp [h]⟩
  · exact ⟨fun _ _ => rfl, fun i r k h => (State.val_put ..).trans (if_neg h)⟩

/-- The error register cleared, with its EMCY message (16 R577). -/
def State.errorsAcknowledged (s : State) : State :=
  let v : State := { s with ev := { s.ev with register := 0, lastEmcy := if s.emcyOn then some s.emcyAt else s.ev.lastEmcy } }
  if s.emcyOn then v.emit (.emcy s.emcyCob s.emcyAt 0 0 none) else v

@[simp] theorem State.errorsAcknowledged_register (s : State) : s.errorsAcknowledged.ev.register = 0 := by
  unfold State.errorsAcknowledged
  split <;> rfl

@[simp] theorem State.errorsAcknowledged_dict (s : State) : s.errorsAcknowledged.dict = s.dict := by
  unfold State.errorsAcknowledged
  split <;> rfl

@[simp] theorem State.frame_errorsAcknowledged {s u : State} {ps : List Part} (h : .ev ∈ ps ∧ .out ∈ ps) :
    s.Frame ps u.errorsAcknowledged ↔ s.Frame ps u := by
  unfold State.errorsAcknowledged
  split <;> simp [h]

/-- Settles O48. -/
theorem dictionaryActs : Obligations.DictionaryActs := by
  intro s t sess hp
  refine ⟨fun x win row hx hr hl hlt ha => ?select, fun x win row hx hr hl hge => ?range, fun hm => ?commit,
    fun x win sub v hx hr h1 hFE hacc hlen ha hend => ?field, fun v hw => ?object, fun hw ha => ?restore, fun v hw => ?enable,
    fun sess hm => ?account, fun hw => ?acknowledge, fun v hw => ?node⟩
  case select =>
    have hf : rowSelect sess win row (s.at t) = ((s.at t).setStage sess x win ((s.at t).loadStage win row)).reply sess 0 := by
      have ha' : (s.at t).areaOpen win = true := ha
      rw [rowSelect, State.selectRow, State.withSession_some (s := s.at t) _ hx]
      exact if_pos (by simp [firstCode, need, hr, hl, hlt, ha'])
    refine done_act rfl rfl hp fun u hu => ?_
    rw [hf] at hu
    refine ⟨?_, ?_, ?_, ?_⟩
    · rw [hu]
      refine (State.staged_reply (x := { x with stages := Tbl.set x.stages win ((s.at t).loadStage win row) })
        (by simp [State.setStage]) 0 none win).trans ?_
      simp [State.stage, State.loadStage]
    · simp [hu, State.answered]
    · simp [hu, State.otherObjects_iff, State.setStage]
    · exact State.Frame.eq (s := s) (ps := Part.logs ++ [.np]) (by simp [hu, State.setStage])
  case range =>
    have hf : rowSelect sess win row (s.at t) = (s.at t).reply sess abRange := by
      have hc : firstCode [need (decide (Dict.rows win ≠ 0)) (if Dict.hasIndex win then abNoSub else abNoIndex),
          writeLength win 1 (.nat row), need (decide (row < Dict.rows win)) abRange, need ((s.at t).areaOpen win) abState] = abRange := by
        simp [firstCode, need, hr, hl, Nat.not_lt.2 hge, show abRange ≠ 0 by decide]
      rw [rowSelect, State.selectRow, State.withSession_some (s := s.at t) _ hx]
      dsimp only
      rw [hc]
      rfl
    refine done_act rfl rfl hp fun u hu => ?_
    rw [hf] at hu
    refine ⟨?_, ?_, ?_, ?_⟩
    · rw [hu, show s.staged sess win = (s.at t).stage x win by rw [State.staged, hx]; rfl]
      exact State.staged_reply (s := s.at t) hx abRange none win
    · simp [hu, State.answered]
    · simp [hu, State.otherObjects_iff]
    · exact State.Frame.eq (s := s) (ps := Part.logs ++ [.np]) (by simp [hu])
  case commit =>
    have hf : rowCommit sess 0x5300 1 (s.at t) =
        (((s.at t).applyCommit sess 0x5300 (s.staged sess 0x5300) fun _ _ u => u).reply sess 0).tidySessions := by
      have h := State.commitAs_taken (app := fun _ _ u => u) hm (by simp [isShelfSetting])
      rw [State.configStep_of_not_shelf (by decide)] at h
      exact congrArg State.tidySessions h
    refine done_act rfl rfl hp fun u hu => ?_
    rw [hf] at hu
    refine ⟨⟨?_, ?_⟩, ?_⟩
    · simp [hu]
    · rw [hu]
      exact State.mem_tidySessions_out _ (by simp)
    · simp (decide := true) [hu, State.rowTook, State.val_storeRow]
  case field =>
    obtain ⟨y, hy⟩ : ∃ y : Session, y = { x with stages := Tbl.set x.stages win ({ (s.at t).stage x win with
      fields := Tbl.set ((s.at t).stage x win).fields sub v }) } := ⟨_, rfl⟩
    have hf : (s.at t).stageField sess win sub v = ((s.at t).setSession sess y).reply sess 0 := by
      have ha' : (s.at t).areaOpen win = true := ha
      rw [State.stageField, State.withSession_some (s := s.at t) _ hx, hy]
      exact if_pos (by simp [firstCode, need, hacc, hlen, ha'])
    have hw : (s.at t).writeObject sess win sub v = ((s.at t).setSession sess y).reply sess 0 := by
      rw [← hf]
      unfold State.writeObject
      rw [if_pos hr, if_neg h1, if_neg hFE]
    have ht : objectWrite sess win sub v (s.at t) = ((s.at t).setSession sess y).reply sess 0 := by
      rw [objectWrite, hw]
      refine State.tidySessions_eq _ fun e he => ?_
      obtain ⟨z, hz, htr, hac⟩ := State.mem_reply_tbl he
      rw [State.mustEnd_congr (u := s) (State.keepsObjects_of_dict (by simp)) htr hac]
      obtain hz | hz := Tbl.mem_set hz
      · exact hend _ hz
      · obtain ⟨-, rfl⟩ := Prod.mk.inj hz
        rw [hy]
        exact hend (sess, x) (Tbl.mem_of_find? hx)
    refine done_actVolt rfl rfl hp fun u hu => ?_
    rw [ht] at hu
    have hst : u.staged sess win = { (s.at t).stage x win with fields := Tbl.set ((s.at t).stage x win).fields sub v } := by
      rw [hu]
      refine (State.staged_reply (x := y) (by simp) 0 none win).trans ?_
      simp [State.stage, hy]
    refine ⟨?_, ?_, ?_, ?_, ?_⟩
    · rw [hst]
      simp [Stage.val]
    · rw [hst, State.staged, hx]
      rfl
    · simp [hu, State.answered]
    · simp [hu, State.otherObjects_iff]
    · exact State.Frame.eq (s := s) (ps := Part.logs ++ [.core, .np, .vcore]) (hu ▸ State.frame_afterVolt t (by simp) (by simp))
  case object =>
    have hf : objectWrite sess 0x1017 0 (.nat v) (s.at t) =
        (((s.at t).setKeep 0x1017 0 0 (.nat v)).reply sess 0).tidySessions := by
      rw [objectWrite, State.writeObject, if_neg (by decide)]
      dsimp only [State.writeNat]
      rw [State.writePlain, State.writeAs_taken hw rfl]
      rfl
    refine done_actVolt rfl rfl hp fun u hu => ?_
    rw [hf] at hu
    refine ⟨?_, ?_, ?_, ?_⟩
    · simp [hu]
    · rw [hu]
      exact State.mem_tidySessions_out _ (by simp)
    · simp [hu, State.otherObjects_iff]
    · exact State.Frame.eq (s := s) (ps := Part.logs ++ [.core, .np, .vcore]) (hu ▸ State.frame_afterVolt t (by simp) (by simp))
  case restore =>
    have hc : firstCode [need (decide ((0x64616F6C : Nat) = 0x64616F6C)) abRange,
        need ((List.range 4).all fun a => decide ((s.at t).o 0x5000 a 2 = 0)) abState] = 0 := by
      have hall : ((List.range 4).all fun a => decide ((s.at t).o 0x5000 a 2 = 0)) = true :=
        List.all_eq_true.2 fun a h => decide_eq_true (ha a (List.mem_range.1 h))
      rw [hall]
      rfl
    refine done_writeAs rfl rfl hp hw hc fun u hu => ⟨?_, ?_, ?_, ?_⟩
    · simp [hu]
    · simp [hu, State.answered]
    · simp [hu, State.otherObjects_iff]
    · exact State.Frame.eq (s := s) (ps := Part.logs ++ [.np]) (by simp [hu])
  case enable =>
    have hf : alonardEnableWrite sess v (s.at t) =
        (((s.at t).setKeep 0x1120 0 1 (.nat v)).reply sess 0).tidySessions := by
      rw [alonardEnableWrite, State.writePlain, State.writeAs_taken hw rfl]
      rfl
    refine done_act rfl rfl hp fun u hu => ?_
    rw [hf] at hu
    refine ⟨?_, ?_, ?_, ?_, ?_⟩
    · simp [hu]
    · rw [hu]
      exact State.mem_tidySessions_out _ (by simp)
    · intro hv e he hudp
      rw [hu] at he
      have hm := State.mustEnd_of_mem_tidySessions _ (e := e) (by simpa using he)
      simp [State.mustEnd, hudp, State.ob, hv] at hm
    · simp [hu, State.otherObjects_iff]
    · exact State.Frame.eq (s := s) (ps := Part.logs ++ [.np]) (by simp [hu])
  case account =>
    have hf : accountCommit sess (s.at t) =
        (((s.at t).applyCommit sess 0x1130 (s.staged sess 0x1130) accountApply).reply sess 0).tidySessions := by
      have h := State.commitAs_taken (app := accountApply) hm (by simp [isShelfSetting])
      rw [State.configStep_of_not_shelf (by decide)] at h
      exact congrArg State.tidySessions h
    refine done_act rfl rfl hp fun u hu => ?_
    rw [hf] at hu
    refine ⟨⟨?_, ?_⟩, ?_, ?_, ?_⟩
    · simp [hu, accountApply, State.tellFactory_reads]
    · rw [hu]
      exact State.mem_tidySessions_out _ (by simp)
    · simp (decide := true) [hu, State.rowTook, State.val_storeRow, accountApply, State.tellFactory_reads]
    · intro h2 e he hacc
      rw [hu] at he
      have hm := State.mustEnd_of_mem_tidySessions _ (e := e) (by simpa using he)
      have h2' : State.o ((s.at t).storeRow 0x1130 (s.staged sess 0x1130)).tellFactory 0x1130 (s.staged sess 0x1130).row 2 = 0 := by
        rw [State.o, (State.tellFactory_reads _).2 _ _ _ (by simp [objKey_inj]), ← State.o, State.o_storeRow]
        exact (if_pos ⟨rfl, by decide⟩).trans h2
      simp [State.mustEnd, hacc, accountApply, h2'] at hm
    · refine State.Frame.eq (s := s) (ps := Part.logs ++ [.np]) (hu ▸ ?_)
      refine State.frame_after t _ _ (by simp) (.inl rfl) (.inl rfl) (.inl rfl) ?_
      rw [State.frame_tidySessions (by simp), State.frame_reply _ _ _ (by simp), State.frame_applyCommit _ _ _ (by simp)]
      simp
      simp
  case acknowledge =>
    refine done_act (f := fun s => s.writeAcknowledge sess 1) rfl rfl hp fun u hu => ?_
    rw [show (s.at t).writeAcknowledge sess 1 = (s.at t).errorsAcknowledged.reply sess 0 from State.writeAs_taken hw rfl] at hu
    refine ⟨?_, ?_, ?_, ?_, ?_⟩
    · simp [hu]
    · simp [hu, State.answered]
    · intro hon
      rw [hu]
      refine ⟨(s.at t).emcyAt, State.mem_reply_out sess 0 none ?_⟩
      rw [State.errorsAcknowledged, if_pos (show (s.at t).emcyOn = true from hon)]
      exact List.mem_cons_self
    · simp [hu, State.otherObjects_iff]
    · exact State.Frame.eq (s := s) (ps := Part.logs ++ [.np]) (by simp [hu])
  case node =>
    refine done_writeAs rfl rfl hp hw rfl fun u hu => ⟨?_, ?_, ?_, ?_, ?_⟩
    · simp [hu]
    · simp [hu, State.reply_can]
    · simp [hu, State.answered]
    · simp [hu, State.otherObjects_iff]
    · exact State.Frame.eq (s := s) (ps := Part.logs ++ [.np]) (by simp [hu])

end Sys2Proof.Machine
end

section
/-! CLAIM. The CAN port and the management ports act (16 R565, R573 to R575). -/

namespace Sys2Proof.Machine

section
variable {s u : State} {ps : List Part}

/-- An answer to a session that is no mailbox's leaves the near ports. -/
theorem State.frame_reply_can (c : Abort) (v : Option Val) (h : .out ∈ ps ∧ .sess ∈ ps) :
    s.Frame ps (u.reply 1 c v) ↔ s.Frame ps u := by
  rw [State.reply, if_neg (by decide)]
  simp [h]

/-- The CAN session stays where it is open. -/
theorem State.canSession_of_some {x : Session} (h : s.session? 1 = some x) : s.canSession = s :=
  if_pos (by rw [Tbl.has, show Tbl.find? s.sess.tbl 1 = some x from h]; rfl)

theorem State.canSession_of_none (h : s.session? 1 = none) : ∃ x, s.canSession = s.setSession 1 x ∧ x.transport = .can :=
  ⟨_, if_neg (by rw [Tbl.has, show Tbl.find? s.sess.tbl 1 = none from h]; exact Bool.false_ne_true), rfl⟩

/-- A read by CAN is answered with the value or with its abort code. -/
theorem State.canRequest_read {x : Session} (hs : s.canServes = true) (hx : s.session? 1 = some x) (idx sub : Nat) :
    s.canRequest (.read idx sub) =
      if s.readCode x idx sub = 0 then (s.readValue x idx sub 65535).2.reply 1 0 (some (s.readValue x idx sub 65535).1)
      else s.reply 1 (s.readCode x idx sub) none := by
  rw [State.canRequest, if_neg (by rw [hs]; exact Bool.noConfusion), State.canSession_of_some hx]
  simp only [hx, State.readObj]
  split <;> simp [*]

end

/-- The first request of a port without a session opens it; a malformed one is counted and aborted. -/
theorem State.canRequest_invalid {s : State} (hs : s.canServes = true) :
    s.canRequest .invalid =
      ((s.canSession.bump 0x6021 0 8).violation false 6 (s.canSession.ob 0x1100 1) (0x6021 * 256 + 8) 0).emit (.canAbort 0x05040001) :=
  if_neg (by rw [hs]; exact Bool.noConfusion)

theorem satAt_6021 {k : Nat} (h : k = 8 ∨ k = 9 ∨ k = 0xA) (a n : Nat) : satAt 0x6021 k a n = satAdd a n := by
  obtain rfl | rfl | rfl := h <;> rfl

theorem satAt_1111 {k : Nat} (h : k = 3 ∨ k = 4 ∨ k = 5) (a n : Nat) : satAt 0x1111 k a n = satAdd a n := by
  obtain rfl | rfl | rfl := h <;> rfl

theorem State.canRead_answered {s u : State} {t : Nat} {x : Session} {idx sub : Nat} (hs : s.canServes = true)
    (hx : s.session? 1 = some x) (hr : s.readCode x idx sub = 0) (hu : u = s.afterVolt t ((s.at t).canRequest (.read idx sub))) :
    (∃ v, Out.reply 1 0 (some v) ∈ u.out) ∧ u = { s.logged u with core := u.core, fab := u.fab, vcore := u.vcore } := by
  rw [(State.canRequest_read (s := s.at t) hs hx idx sub).trans (if_pos hr)] at hu
  refine ⟨⟨((s.at t).readValue x idx sub 65535).1, by simp [hu]⟩, ?_⟩
  refine State.Frame.eq (s := s) (ps := Part.logs ++ [.core, .fab, .vcore]) (hu ▸ State.frame_afterVolt t (by simp) ?_)
  rw [State.frame_reply_can _ _ (by simp)]
  simp

@[simp] theorem State.violation_objects (s : State) (b : Bool) (k p c d : Nat) (r : Ip) : s.KeepsObjects (s.violation b k p c d r) :=
  State.keepsObjects_of_dict rfl

/-- A frame of the node's own management ports, counted and remembered (16 R565). -/
def State.frameCounted (s : State) (p : Nat) (f : MgmtFrame) : State :=
  let m := s.sess.mgmt
  let seen := m.seen.filter fun e => decide (s.now < e.2.2 + 400 * msNs)
  let v := (s.bump 0x1111 0 (p + 3)).setMgmt { m with
    lastRx := Tbl.set m.lastRx p s.now
    lanLost := Tbl.set m.lanLost p false
    seen := match f.trailer with
      | some q => if s.mgmtDuplicate f then seen else (f.src, q, s.now) :: seen
      | none => seen }
  if f.trailer.isNone then v.bump 0x1111 0 6 else v

theorem managementFrameReceived_eq {s : State} {p : Nat} (f : MgmtFrame) (h : s.ob 0x1111 (p + 1) ≠ 0) :
    managementFrameReceived p f s =
      if s.mgmtDuplicate f then (s.frameCounted p f).bump 0x1111 0 5
      else if f.isReachability then
        (((s.frameCounted p f).setMgmt { (s.frameCounted p f).sess.mgmt with
          txSeq := ((s.frameCounted p f).sess.mgmt.txSeq + 1) % 65536 }).emit
            (.mgmtReply 0 (s.frameCounted p f).sess.mgmt.txSeq)).emit (.mgmtReply 1 (s.frameCounted p f).sess.mgmt.txSeq)
      else s.frameCounted p f :=
  if_neg h

theorem State.frameCounted_reads (s : State) {p : Nat} (hp : p < 2) (f : MgmtFrame) :
    (s.frameCounted p f).out = s.out ∧ (s.frameCounted p f).sess.mgmt.txSeq = s.sess.mgmt.txSeq ∧
      Tbl.find? (s.frameCounted p f).sess.mgmt.lastRx p = some s.now ∧
      (s.frameCounted p f).o 0x1111 0 (p + 3) = satAdd (s.o 0x1111 0 (p + 3)) 1 ∧
      (s.frameCounted p f).o 0x1111 0 5 = s.o 0x1111 0 5 := by
  have h3 : ∀ a n, satAt 0x1111 (p + 3) a n = satAdd a n := satAt_1111 (by omega)
  have hk : (p + 3) % 256 = p + 3 := Nat.mod_eq_of_lt (by omega)
  unfold State.frameCounted
  dsimp only
  split <;> simp [objKey_inj, h3, hk] <;> omega

@[simp] theorem State.frame_frameCounted {s u : State} {ps : List Part} (p : Nat) (f : MgmtFrame)
    (h : .dict ∈ ps ∧ .sess ∈ ps ∧ .mgmt ∈ ps) : s.Frame ps (u.frameCounted p f) ↔ s.Frame ps u := by
  unfold State.frameCounted
  dsimp only
  split <;> simp [h]

/-- A conflict of node-IDs, counted (16 R575). -/
def State.conflictCounted (s : State) : State :=
  (s.bump 0x6021 0 0xA).violation false 6 (s.ob 0x1100 1) (0x6021 * 256 + 0xA) 0

theorem canNodeIdConflict_eq {s : State} (h : s.sess.can.conflict = false) :
    canNodeIdConflict s = (s.conflictCounted.setCan { s.conflictCounted.sess.can with conflict := true }).raise .canNodeIdConflict
      [s.conflictCounted.ob 0x1100 1] :=
  if_neg (by rw [show ((s.bump 0x6021 0 0xA).violation false 6 (s.ob 0x1100 1) (0x6021 * 256 + 0xA) 0).sess.can.conflict = s.sess.can.conflict
    from rfl, h]; exact Bool.false_ne_true)

theorem State.conflictCounted_reads (s : State) :
    s.conflictCounted.o 0x6021 0 0xA = satAdd (s.o 0x6021 0 0xA) 1 ∧ s.conflictCounted.ob 0x1100 1 = s.ob 0x1100 1 := by
  simp [State.conflictCounted, satAt_6021, objKey_inj]

@[simp] theorem State.frame_conflictCounted {s u : State} {ps : List Part} (h : .dict ∈ ps ∧ .ev ∈ ps) :
    s.Frame ps u.conflictCounted ↔ s.Frame ps u := by
  simp [State.conflictCounted, h]

/-! ### Commands that are due -/

section
variable {s : State}

theorem sdoTransferTimeout_due {w a b : Nat} (hw : s.sess.can.transfer = some (w, a, b)) (hd : w + sNs ≤ s.now)
    (hs : s.canServes = true) :
    sdoTransferTimeout s = ((s.setCan { s.sess.can with transfer := none }).bump 0x6021 0 9).emit (.canAbort 0x05040000) := by
  simp only [sdoTransferTimeout, hw, hs]
  exact if_pos (decide_eq_true hd)

theorem State.restartCan_eq (hc : s.sess.can.conflict = false) :
    s.restartCan = ((s.dropSession 1).setCan {}).emit (.canHeartbeat (s.ob 0x1100 1) 0) := by
  simp only [State.restartCan, hc]
  rfl

theorem State.restartCan_of_conflict (hc : s.sess.can.conflict = true) :
    s.restartCan = (s.dropSession 1).setCan { conflict := true } := by
  simp only [State.restartCan, hc]
  rfl

theorem canHeartbeatSend_due {w : Nat} (h0 : s.ob 0x1017 0 ≠ 0) (hw : s.sess.can.lastHeartbeat = some w)
    (hd : w + s.ob 0x1017 0 * msNs ≤ s.now) :
    canHeartbeatSend s = (s.setCan { s.sess.can with lastHeartbeat := some s.now }).emit
      (.canHeartbeat (s.ob 0x1100 1) (if s.sess.can.nmt = .stopped then 4 else 5)) := by
  simp only [canHeartbeatSend, hw]
  exact if_pos ⟨h0, decide_eq_true hd⟩

theorem supervisionFrameSend_due {w : Nat} (hw : s.sess.mgmt.lastSupervision = some w) (hd : w + 2 * sNs ≤ s.now) :
    supervisionFrameSend s =
      ((s.setMgmt { s.sess.mgmt with lastSupervision := some s.now, txSeq := (s.sess.mgmt.txSeq + 1) % 65536 }).emit
        (.supervision 0 s.sess.mgmt.txSeq)).emit (.supervision 1 s.sess.mgmt.txSeq) := by
  simp only [supervisionFrameSend, hw]
  exact if_pos (decide_eq_true hd)

theorem managementLanLost_due {p w v : Nat} (hw : Tbl.find? s.sess.mgmt.lastRx p = some w) (hd : w + 10 * sNs ≤ s.now)
    (hv : Tbl.find? s.sess.mgmt.lastRx (1 - p) = some v) (ho : s.now < v + 10 * sNs) (hl : Tbl.get false s.sess.mgmt.lanLost p = false) :
    managementLanLost p s = (s.setMgmt { s.sess.mgmt with lanLost := Tbl.set s.sess.mgmt.lanLost p true }).raise .managementLanLost [p] := by
  simp only [managementLanLost, hw, hv, hl]
  exact if_pos (by simp [dueAt, hd, ho])

end

/-! ### M0 and M1 -/

section
variable {s : State} {t p : Nat} (hp : s.railsOn)
include hp

theorem managementFrame_answers {f : MgmtFrame} (hp2 : p < 2) (h0 : s.ob 0x1111 (p + 1) ≠ 0) (hdup : (s.at t).mgmtDuplicate f = false)
    (hf' : f.isReachability = true) :
    Done (.managementFrameReceived t p f) s fun u =>
      Tbl.find? u.sess.mgmt.lastRx p = some (max s.now t) ∧ u.o 0x1111 0 (p + 3) = satAdd (s.o 0x1111 0 (p + 3)) 1 ∧
      Out.mgmtReply 0 s.sess.mgmt.txSeq ∈ u.out ∧ Out.mgmtReply 1 s.sess.mgmt.txSeq ∈ u.out ∧
      u.sess.mgmt.txSeq = (s.sess.mgmt.txSeq + 1) % 65536 ∧ u.o 0x1111 0 5 = s.o 0x1111 0 5 ∧ u = s.logged u := by
  obtain ⟨ho, hq, hr, hc, h5⟩ := State.frameCounted_reads (s.at t) hp2 f
  obtain ⟨v, hv⟩ : ∃ v, v = (s.at t).frameCounted p f := ⟨_, rfl⟩
  have hf := managementFrameReceived_eq f (s := s.at t) h0
  rw [hdup, if_neg Bool.false_ne_true, if_pos hf', ← hv] at hf
  rw [← hv] at ho hq hr hc h5
  have hframe : s.Frame Part.logs v := by simp [hv]
  refine done_act rfl (decide_eq_true hp2) hp fun u hu => ?_
  rw [hf] at hu
  exact ⟨by simp [hu, hr], by simp [hu, hc], by simp [hu, hq], by simp [hu, hq], by simp [hu, hq], by simp [hu, h5],
    State.Frame.eq (s := s) (ps := Part.logs) (by simp [hu, hframe])⟩

theorem managementFrame_discards {f : MgmtFrame} (hp2 : p < 2) (h0 : s.ob 0x1111 (p + 1) ≠ 0) (hdup : (s.at t).mgmtDuplicate f = true) :
    Done (.managementFrameReceived t p f) s fun u =>
      u.o 0x1111 0 5 = satAdd (s.o 0x1111 0 5) 1 ∧ u.out = s.out ∧ u = s.logged u := by
  obtain ⟨ho, hq, hr, hc, h5⟩ := State.frameCounted_reads (s.at t) hp2 f
  have hf := managementFrameReceived_eq f (s := s.at t) h0
  rw [hdup, if_pos rfl] at hf
  refine done_act rfl (decide_eq_true hp2) hp fun u hu => ?_
  rw [hf] at hu
  exact ⟨by simp [hu, h5, satAt_1111], by simp [hu, ho], State.Frame.eq (s := s) (ps := Part.logs) (by simp [hu])⟩

theorem supervisionFrame_goes {w : Nat} (hw : s.sess.mgmt.lastSupervision = some w) (hd : w + 2 * sNs ≤ max s.now t) :
    Done (.supervisionFrameSend t) s fun u =>
      Out.supervision 0 s.sess.mgmt.txSeq ∈ u.out ∧ Out.supervision 1 s.sess.mgmt.txSeq ∈ u.out ∧
      u.sess.mgmt.txSeq = (s.sess.mgmt.txSeq + 1) % 65536 ∧ u.sess.mgmt.lastSupervision = some (max s.now t) ∧
      s.otherObjects u [] ∧ u = s.logged u := by
  have hf := supervisionFrameSend_due (s := s.at t) hw hd
  refine done_act rfl rfl hp fun u hu => ?_
  rw [hf] at hu
  exact ⟨by simp [hu], by simp [hu], by simp [hu], by simp [hu], by simp [hu, State.otherObjects_iff],
    State.Frame.eq (s := s) (ps := Part.logs) (by simp [hu])⟩

theorem managementLan_told {w v : Nat} (hp2 : p < 2) (hw : Tbl.find? s.sess.mgmt.lastRx p = some w) (hd : w + 10 * sNs ≤ max s.now t)
    (hv : Tbl.find? s.sess.mgmt.lastRx (1 - p) = some v) (ho : max s.now t < v + 10 * sNs)
    (hl : Tbl.get false s.sess.mgmt.lanLost p = false) :
    Done (.managementLanLost t p) s fun u =>
      Tbl.get false u.sess.mgmt.lanLost p = true ∧ u.told .managementLanLost [p] ∧ s.otherObjects u [] ∧ u = s.logged u := by
  have hf := managementLanLost_due (s := s.at t) hw hd hv ho hl
  refine done_act rfl (decide_eq_true hp2) hp fun u hu => ?_
  rw [hf] at hu
  refine ⟨by simp [hu], ?_, by simp [hu, State.otherObjects_iff], State.Frame.eq (s := s) (ps := Part.logs) (by simp [hu])⟩
  rw [hu]
  exact State.told_raise _ _ _

theorem sdoRead_answered :
    ∀ x idx sub, s.canServes = true → s.session? 1 = some x → s.readCode x idx sub = 0 →
    Done (.sdoRequest t (.read idx sub)) s fun u => (∃ v, Out.reply 1 0 (some v) ∈ u.out) ∧ u = { s.logged u with core := u.core, fab := u.fab, vcore := u.vcore } := by
  intro x idx sub hs hx hr
  exact done_actVolt rfl rfl hp fun u hu => State.canRead_answered hs hx hr hu

theorem sdoRead_refused :
    ∀ x idx sub, s.canServes = true → s.session? 1 = some x → s.readCode x idx sub ≠ 0 →
    Done (.sdoRequest t (.read idx sub)) s fun u =>
      u.answered 1 (s.readCode x idx sub) ∧ s.otherObjects u [] ∧ u = { s.logged u with core := u.core, vcore := u.vcore } := by
  intro x idx sub hs hx hr
  refine done_actVolt rfl rfl hp fun u hu => ?_
  rw [show sdoRequest (.read idx sub) (s.at t) = _ from (State.canRequest_read (s := s.at t) hs hx idx sub).trans (if_neg hr)] at hu
  refine ⟨?_, ?_, ?_⟩
  · rw [hu]
    exact State.mem_reply_out_self (s.at t) 1 _ none
  · simp [hu, State.otherObjects_iff]
  · refine State.Frame.eq (s := s) (ps := Part.logs ++ [.core, .vcore]) (hu ▸ State.frame_afterVolt t (by simp) ?_)
    rw [State.frame_reply_can _ _ (by simp)]
    simp

theorem sdoSegment_begins :
    ∀ idx sub v, s.canServes = true → (s.session? 1).isSome = true →
    Done (.sdoRequest t (.segment true false idx sub v)) s fun u =>
      u.sess.can.transfer = some (max s.now t, idx, sub) ∧ s.otherObjects u [] ∧ u = { s.logged u with core := u.core, vcore := u.vcore } := by
  intro idx sub v hs hx
  obtain ⟨x, hx⟩ := Option.isSome_iff_exists.1 hx
  have hf : (s.at t).canRequest (.segment true false idx sub v) =
      (s.at t).setCan { s.sess.can with transfer := some (max s.now t, idx, sub) } := by
    rw [State.canRequest, if_neg (by rw [show (s.at t).canServes = true from hs]; exact Bool.noConfusion),
      State.canSession_of_some (s := s.at t) hx]
    rfl
  refine done_actVolt (f := fun s => s.canRequest (.segment true false idx sub v)) rfl rfl hp fun u hu => ?_
  rw [hf] at hu
  refine ⟨by rw [hu]; rfl, by simp [hu, State.otherObjects_iff], ?_⟩
  exact State.Frame.eq (s := s) (ps := Part.logs ++ [.core, .vcore]) (hu ▸ State.frame_afterVolt t (by simp) (by simp))

theorem usdoInvalid_aborts :
    s.canServes = true → s.session? 1 = none →
    Done (.usdoRequest t .invalid) s fun u =>
      u.o 0x6021 0 8 = satAdd (s.o 0x6021 0 8) 1 ∧ Out.canAbort 0x05040001 ∈ u.out ∧
      (∃ x, u.session? 1 = some x ∧ x.transport = .can) ∧ u = { s.logged u with core := u.core, vcore := u.vcore } := by
  intro hs hx
  obtain ⟨y, hy, hcan⟩ := State.canSession_of_none (s := s.at t) hx
  have hf : usdoRequest .invalid (s.at t) = _ := State.canRequest_invalid (s := s.at t) hs
  rw [hy] at hf
  refine done_actVolt rfl rfl hp fun u hu => ?_
  rw [hf] at hu
  refine ⟨by simp [hu, satAt_6021], by simp [hu], ⟨y, ?_, hcan⟩, ?_⟩
  · rw [hu]
    exact (State.session?_setSession ..).trans (if_pos rfl)
  · exact State.Frame.eq (s := s) (ps := Part.logs ++ [.core, .vcore]) (hu ▸ State.frame_afterVolt t (by simp) (by simp))

theorem usdoRead_answered :
    ∀ x idx sub, s.canServes = true → s.session? 1 = some x → s.readCode x idx sub = 0 →
    Done (.usdoRequest t (.read idx sub)) s fun u => (∃ v, Out.reply 1 0 (some v) ∈ u.out) ∧ u = { s.logged u with core := u.core, fab := u.fab, vcore := u.vcore } := by
  intro x idx sub hs hx hr
  exact done_actVolt rfl rfl hp fun u hu => State.canRead_answered hs hx hr hu

theorem sdoTransferTimeout_aborts :
    ∀ w a b, s.sess.can.transfer = some (w, a, b) → w + sNs ≤ max s.now t → s.canServes = true →
    Done (.sdoTransferTimeout t) s fun u =>
      u.sess.can.transfer = none ∧ u.o 0x6021 0 9 = satAdd (s.o 0x6021 0 9) 1 ∧ Out.canAbort 0x05040000 ∈ u.out ∧ u = s.logged u := by
  intro w a b hw hd hs
  have hf := sdoTransferTimeout_due (s := s.at t) hw hd hs
  refine done_act rfl rfl hp fun u hu => ?_
  rw [hf] at hu
  exact ⟨by simp [hu], by simp [hu, satAt_6021], by simp [hu], State.Frame.eq (s := s) (ps := Part.logs) (by simp [hu])⟩

theorem nmtResetNode_restarts :
    s.sess.can.conflict = false →
    Done (.nmtResetNode t) s fun u =>
      u.sess.can = {} ∧ u.session? 1 = none ∧ Out.canHeartbeat (s.ob 0x1100 1) 0 ∈ u.out ∧ s.otherObjects u [] ∧ u = s.logged u := by
  intro hc
  have hf : nmtResetNode (s.at t) = _ := State.restartCan_eq hc
  refine done_act rfl rfl hp fun u hu => ?_
  rw [hf] at hu
  exact ⟨by simp [hu], by simp [hu, State.session?], by simp [hu], by simp [hu, State.otherObjects_iff],
    State.Frame.eq (s := s) (ps := Part.logs) (by simp [hu])⟩

theorem nmtResetCommunication_conflict :
    s.sess.can.conflict = true →
    Done (.nmtResetCommunication t) s fun u =>
      u.sess.can = { conflict := true } ∧ u.session? 1 = none ∧ u.out = s.out ∧ s.otherObjects u [] ∧ u = s.logged u := by
  intro hc
  have hf : nmtResetCommunication (s.at t) = _ := State.restartCan_of_conflict hc
  refine done_act rfl rfl hp fun u hu => ?_
  rw [hf] at hu
  exact ⟨by simp [hu], by simp [hu, State.session?], by simp [hu], by simp [hu, State.otherObjects_iff],
    State.Frame.eq (s := s) (ps := Part.logs) (by simp [hu])⟩

theorem canNodeIdConflict_told :
    s.sess.can.conflict = false →
    Done (.canNodeIdConflict t) s fun u =>
      u.sess.can.conflict = true ∧ u.o 0x6021 0 0xA = satAdd (s.o 0x6021 0 0xA) 1 ∧
      u.told .canNodeIdConflict [s.ob 0x1100 1] ∧ u = s.logged u := by
  intro hc
  obtain ⟨hn, hi⟩ := (s.at t).conflictCounted_reads
  have hf := canNodeIdConflict_eq (s := s.at t) hc
  have hframe : s.Frame Part.logs (s.at t).conflictCounted := by simp
  rw [hi] at hf
  generalize (s.at t).conflictCounted = v at hn hf hframe
  refine done_act rfl rfl hp fun u hu => ?_
  rw [hf] at hu
  refine ⟨by simp [hu], by simp [hu, hn], ?_, State.Frame.eq (s := s) (ps := Part.logs) (by simp [hu, hframe])⟩
  rw [hu]
  exact State.told_raise _ _ _

theorem canBusOff_told :
    Done (.canBusOff t) s fun u => u.told .canBusOff [] ∧ s.otherObjects u [] ∧ u = s.logged u := by
  refine done_act rfl rfl hp fun u hu => ?_
  refine ⟨by rw [hu]; exact State.told_raise _ _ _, by simp [hu, canBusOff, State.otherObjects_iff],
    State.Frame.eq (s := s) (ps := Part.logs) (by simp [hu, canBusOff])⟩

end

/-- Settles O49. -/
theorem managementPortActs : Obligations.ManagementPortActs := by
  intro s t hp
  refine ⟨sdoRead_answered hp, sdoRead_refused hp, sdoSegment_begins hp, usdoInvalid_aborts hp, usdoRead_answered hp,
    sdoTransferTimeout_aborts hp, ?stop, nmtResetNode_restarts hp, nmtResetCommunication_conflict hp,
    fun w h0 hw hd => ?heartbeat, canNodeIdConflict_told hp, canBusOff_told hp,
    fun p f hp2 h0 => managementFrame_answers hp hp2 h0, fun p f hp2 h0 => managementFrame_discards hp hp2 h0,
    fun w => supervisionFrame_goes hp, fun p w v hp2 hw hd => managementLan_told hp hp2 hw hd⟩
  case stop =>
    refine done_act rfl rfl hp fun u hu => ?_
    rw [hu]
    rfl
  case heartbeat =>
    refine done_act rfl rfl hp fun u hu => ?_
    exact hu.trans (congrArg (s.after t) (canHeartbeatSend_due (s := s.at t) h0 hw hd))

end Sys2Proof.Machine
end

section
/-! CLAIM. The commands of metering act (08 R281 to R295). -/

namespace Sys2Proof.Machine

/-- A closed page is one more, with the next number, unless no time has passed. -/
theorem State.closePage_acts {s v : State} {upTo start : Int} {more next : Nat} (h : upTo ≠ s.meter.start)
    (hv : v = s.closePage upTo start more next) :
    v.meter.start = start ∧ v.meter.seq = s.meter.seq + 1 ∧ v.ob 0x4100 2 = s.meter.seq + 1 ∧
      v.meter.closing.length = s.meter.closing.length + 1 := by
  have hmeter : ∀ (c : Prop) [Decidable c] (w : State) (d : List Nat),
      (if c then w.raise .retentionWarning d else w).meter = w.meter ∧ (if c then w.raise .retentionWarning d else w).ob 0x4100 2 = w.ob 0x4100 2 :=
    fun c _ w d => by split <;> simp
  rw [hv, State.closePage]
  dsimp only
  rw [if_neg h]
  simp only [hmeter]
  simp

/-- A page enters the vault as its newest. -/
theorem State.archivePage_vault (s : State) (p : LedgerPage) : (s.archivePage p).meter = { s.meter with vault := (p :: s.meter.vault).take 10080 } := by
  obtain ⟨v, hv⟩ : ∃ v : State, v = { s with meter := { s.meter with vault := (p :: s.meter.vault).take 10080 } } := ⟨_, rfl⟩
  have h : ∀ xs : List LedgerPage, v.Frame [.out, .dict, .sess, .ev, .rings] (v.each xs fun s q =>
      if s.ob 0x4100 5 < q.seq then (s.bump 0x4100 0 7).raise .pageOverwritten [q.seq] else s) := fun xs => by
    rw [State.frame_each fun w q => by split_ifs <;> simp]
    exact State.Frame.refl _ _
  have hm : (v.each _ _).meter = v.meter := h ((p :: s.meter.vault).drop 10080) .meter (by simp)
  rw [State.archivePage]
  dsimp only
  rw [← hv]
  refine Eq.trans ?_ (hm.trans (congrArg State.meter hv))
  simp [State.syncPages]

/-- Settles O31. -/
theorem meteringActs : Obligations.MeteringActs := by
  intro s t hp
  refine ⟨fun hd hne => ?close, fun p hf => ?sealed, fun p hmem hfind hnew => ?vault, fun sess v hw hv1 hv2 => ?acknowledge,
    fun sess x n hx hl hn => ?latch⟩
  case close =>
    have hf : minuteClose (s.at t) = (s.at t).closeMinute := if_pos hd
    refine done_act rfl rfl hp fun u hu => ?_
    obtain ⟨h1, h2, h3, h4⟩ := State.closePage_acts (s := s.at t) (v := (s.at t).closeMinute) hne rfl
    rw [hf] at hu
    exact ⟨by simp [hu, h1]; rfl, by simp [hu, h2], by simpa [hu] using h3, by simp [hu, h4],
      State.Frame.eq (s := s) (ps := Part.logs ++ [.meter]) (by simp [hu])⟩
  case sealed =>
    have hf : pageSeal (s.at t) = (s.at t).sealPage p := by
      have hf' : ((s.at t).meter.closing.filter fun p => dueAt (s.at t).now p.closedAt (5 * msNs)) = [p] := hf
      rw [pageSeal, hf']
      rfl
    refine done_act rfl rfl hp fun u hu => ?_
    rw [hf] at hu
    refine ⟨_, by simp [hu, State.sealPage, State.syncPages]; rfl, by simp [hu, State.sealPage, State.syncPages],
      by simp [hu, State.sealPage, State.syncPages], State.Frame.eq (s := s) (ps := Part.logs ++ [.meter]) (by simp [hu])⟩
  case vault =>
    have hf : ledgerVaultWrite p.seq (s.at t) = (s.at t).archivePage p := by
      have hfind' : ((s.at t).meter.hbm.find? fun q => decide (q.seq = p.seq)) = some p := hfind
      rw [ledgerVaultWrite, hfind']
      exact if_neg (by simpa using fun q hq => hnew q hq)
    refine done_act rfl rfl hp fun u hu => ?_
    rw [hf] at hu
    exact ⟨by simp [hu, State.archivePage_vault], State.Frame.eq (s := s) (ps := Part.logs ++ [.meter]) (by simp [hu])⟩
  case acknowledge =>
    have hc : billingCode v (s.at t) = 0 := by
      rw [billingCode, need, if_pos (decide_eq_true ⟨hv1, hv2⟩)]
    refine done_writeAs rfl rfl hp hw hc fun u hu => ?_
    exact ⟨by simp [hu], by simp [hu, State.answered], by simp [hu, State.otherObjects_iff],
      State.Frame.eq (s := s) (ps := Part.logs ++ [.np]) (by simp [hu])⟩
  case latch =>
    have hf : counterLatchRead sess n (s.at t) = (((s.at t).drawn.put (0x6800 + n) 0 2 (wrapInt 64 (s.at t).ptpNow))).reply sess 0
        (some (.nat (s.ob (0x6800 + n) 1))) := by
      rw [counterLatchRead, State.withSession_some (s := s.at t) _ hx]
      simp only [State.latchCounter]
      rw [if_neg (by omega), if_neg (by omega), if_neg (by omega)]
      rfl
    refine done_act rfl (decide_eq_true (by omega)) hp fun u hu => ?_
    rw [hf] at hu
    exact ⟨by simp [hu], by simp [hu], State.Frame.eq (s := s) (ps := Part.logs ++ [.np]) (by simp [hu])⟩

end Sys2Proof.Machine
end

section
/-! CLAIM. Channels start, follow their chains, move data and halt (13 R442 to R456). -/

namespace Sys2Proof.Machine

section
variable (s : State) (c j : Nat)

/-! ### Reading a descriptor -/

@[simp] theorem State.chainRead_chan : (s.chainRead c).chan j = s.chan j := by
  have h := State.frame_chainRead (s := s) (u := s) (ps := [.out, .dict, .slot, .np, .slots]) c (by simp)
  rw [State.chan, State.same_of_frame h .dma, State.chan]

@[simp] theorem State.chainRead_now : (s.chainRead c).now = s.now :=
  State.same_of_frame (State.frame_chainRead (s := s) (u := s) (ps := [.out, .dict, .slot, .np, .slots]) c (by simp)) .now

@[simp] theorem State.region_notIdle (a n : Nat) (w f : Bool) : s.notIdle.region j a n w f = s.region j a n w f := rfl

/-- No request leaves for a descriptor that lies in the module or nowhere. -/
theorem State.chainRead_here (h : s.chainHere c (s.chan c).cur) : s.chainRead c = s := by
  unfold State.chainRead
  dsimp only
  split
  · rfl
  · obtain h | h := h <;> rw [h]

@[simp] theorem State.dmaFetch_chan : (s.dmaFetch c).chan c = { s.chan c with fetching := some s.now } := by
  simp [State.dmaFetch]

theorem State.dmaFetch_here (h : s.chainHere c (s.chan c).cur) :
    s.dmaFetch c = s.setChan c { s.chan c with fetching := some s.now } :=
  State.chainRead_here _ _ (by simpa [State.chainHere] using h)

/-! ### Its tags -/

theorem State.chainTags_here (late : Bool) (h : s.chainHere c (s.chan c).cur) : s.chainTags c late = s := by
  unfold State.chainTags
  obtain h | h := h <;> rw [h]

@[simp] theorem State.chainTags_chan (late : Bool) : (s.chainTags c late).chan j = s.chan j := by
  have h := State.frame_chainTags (s := s) (u := s) (ps := [.out, .dict, .slot, .np, .slots]) c late (by simp)
  rw [State.chan, State.same_of_frame h .dma, State.chan]

theorem State.o_syncTags (p i r k : Nat) (hi : i % 65536 ≠ 0x5303) : (s.syncTags p).o i r k = s.o i r k := by
  have h : ∀ m, objKey 0x5303 p m ≠ objKey i r k := fun m e => hi (objKey_inj.1 e).1.symm
  simp [State.syncTags, h]

theorem State.o_npSend {s v : State} {p : Nat} {w : NpWait} (hv : s.npSend p w = some v) (i r k : Nat) (hi : i % 65536 ≠ 0x5303) :
    v.o i r k = s.o i r k := by
  simp only [State.npSend] at hv
  split at hv
  · cases hv
  · split at hv
    · cases hv
    · obtain rfl := Option.some.inj hv
      simp [State.o_syncTags, hi]

/-- What waits is sent, and only the counts of the port's tags move. -/
theorem State.o_npDrain (p n i r k : Nat) (hi : i % 65536 ≠ 0x5303) : (State.npDrain p n s).o i r k = s.o i r k := by
  induction n generalizing s with
  | zero => rfl
  | succ n ih =>
    simp only [State.npDrain]
    split
    · rfl
    · split
      · rfl
      · split
        · rfl
        · split
          · next hv =>
            rw [ih, State.o_npSend hv i r k hi]
            rfl
          · rfl

@[simp] theorem State.o_chainTags (late : Bool) (r k : Nat) : (s.chainTags c late).o 0x5341 r k = s.o 0x5341 r k := by
  unfold State.chainTags
  split
  · rw [State.o_npDrain _ _ _ _ _ _ (by decide), State.o_syncTags _ _ _ _ _ (by decide)]
    rfl
  · rfl
  · rfl

/-! ### Halts -/

theorem satAt_5341 {k : Nat} (h : k = 8 ∨ k = 9) (a n : Nat) : satAt 0x5341 k a n = satAdd a n := by
  obtain rfl | rfl := h <;> rfl

theorem State.dmaHalt_acts (code addr : Nat) :
    ((s.dmaHalt c code addr).chan c).state = 4 ∧ ((s.dmaHalt c code addr).chan c).code = code ∧
      ((s.dmaHalt c code addr).chan c).errAddr = addr % 2 ^ 48 ∧ ((s.dmaHalt c code addr).chan c).work = [] ∧
      ((s.dmaHalt c code addr).chan c).cur = (match (s.chan c).work with | (a, _) :: _ => a | [] => (s.chan c).cur) ∧
      (s.dmaHalt c code addr).o 0x5341 c 8 = satAdd (s.o 0x5341 c 8) 1 ∧
      (s.dmaHalt c code addr).told .dmaHalted [c, code, addr % 2 ^ 48] := by
  have hcur : ((s.dmaHalt c code addr).chan c).cur = (match (s.chan c).work with | (a, _) :: _ => a | [] => (s.chan c).cur) := by
    cases h : (s.chan c).work <;> simp [State.dmaHalt, h]
  exact ⟨by simp [State.dmaHalt], by simp [State.dmaHalt], by simp [State.dmaHalt], by simp [State.dmaHalt], hcur,
    by simp [State.dmaHalt, satAt_5341], State.told_raise _ _ _⟩

/-- What was put off is done at once where no descriptor is under way. -/
theorem State.parkAs_halt (hw : (s.chan c).work = []) (code addr : Nat) :
    s.parkAs c (.halt code addr) = ((s.setChan c { s.chan c with park := some (.halt code addr) }).notIdle).dmaHalt c code addr := by
  simp [State.parkAs, State.dmaPark, hw]

theorem State.parkAs_onGeneration (hw : (s.chan c).work = []) (hp : (s.chan c).pending = false) :
    s.parkAs c .onGeneration = (s.setChan c { s.chan c with park := some .onGeneration }).notIdle.setChan c
      { s.chan c with state := 3, park := none } := by
  simp [State.parkAs, State.dmaPark, hw, hp]

/-- A channel that has nothing put off goes on. -/
theorem State.dmaPark_of_none (h : (s.chan c).park = none) : s.dmaPark c = s := by
  simp [State.dmaPark, h]

theorem State.dmaAsk_of_nil (h : (s.chan c).work = []) : s.dmaAsk c = s := by
  simp [State.dmaAsk, h]

end

/-- A channel that the disable bit has stopped: what R456 calls undefined takes free values from `k` on. -/
def DmaChan.disabled (x : DmaChan) (k : Nat) : DmaChan :=
  let f (i : Nat) : Nat := Config.freeNat (k + i)
  { x with
    state := 5, code := 8, fetching := none, work := [], park := none, asked := false, pending := false, run := x.run + 1
    bytes := f 0 % 2 ^ 48, descs := f 1 % 2 ^ 32, cur := f 2 % 2 ^ 43 * 32, hops := f 3 % 2 ^ 24, errAddr := f 4 % 2 ^ 48 }

/-! ### Bytes that are moved -/

theorem Memory.readN_div (m : List Host.Cell) (a n k : Nat) (h : k < n) :
    BitVec.ofNat 8 (Memory.readN m a n / 256 ^ k) = Memory.read m (a + k) := by
  induction n generalizing a k with
  | zero => omega
  | succ n ih =>
    rw [Memory.readN]
    cases k with
    | zero =>
      apply BitVec.eq_of_toNat_eq
      simpa using (Memory.read m a).isLt
    | succ k =>
      have hlt : (Memory.read m a).toNat < 256 := (Memory.read m a).isLt
      rw [pow_succ', ← Nat.div_div_eq_div_mul, show ((Memory.read m a).toNat + 256 * Memory.readN m (a + 1) n) / 256 =
        Memory.readN m (a + 1) n by omega, ih (a + 1) k (by omega), show a + 1 + k = a + (k + 1) by omega]

/-- Bytes of HBM are moved as they stood. -/
theorem State.read_moved (s : State) (hm : s.memoryOk) {src dst n : Nat} (h0 : 0 < n) (hs : src + n ≤ hbmEnd) :
    (∀ k, k < n → Memory.read (Memory.writeN s.hbm dst (s.memRead src n) n) (dst + k) = Memory.read s.hbm (src + k)) ∧
      ∀ x, x < dst ∨ dst + n ≤ x → Memory.read (Memory.writeN s.hbm dst (s.memRead src n) n) x = Memory.read s.hbm x := by
  have hend : hbmEnd ≤ 0xC00000000 ∨ hbmEnd ≤ 0x1800000000 := by
    unfold hbmEnd
    split <;> simp
  have hr : s.memRead src n = Memory.readN s.hbm src n := if_neg (by simp only [vaultBase]; omega)
  rw [hr]
  constructor
  · intro k hk
    rw [Memory.read_writeN _ _ _ _ hm, if_pos (by omega), Nat.add_sub_cancel_left, Memory.readN_div _ _ _ _ hk]
  · intro x hx
    rw [Memory.read_writeN _ _ _ _ hm, if_neg (by omega)]

/-! ### The commands of a channel -/

theorem Tbl.set_set {α : Type} (m : Tbl α) (k : Nat) (v w : α) : Tbl.set (Tbl.set m k v) k w = Tbl.set m k w := by
  induction m with
  | nil => simp [Tbl.set]
  | cons a r ih =>
    obtain ⟨a, x⟩ := a
    by_cases h1 : a = k
    · simp [Tbl.set, h1]
    · by_cases h2 : k < a
      · simp [Tbl.set, h2]
      · simp [Tbl.set, h1, h2, ih]

theorem State.setChan_setChan (s : State) (c : Nat) (x y : DmaChan) : (s.setChan c x).setChan c y = s.setChan c y := by
  simp [State.setChan, Tbl.set_set]

/-- A descriptor's read is over. -/
def State.fetchDone (s : State) (c : Nat) (late : Bool) : State := (s.chainTags c late).modChan c fun x => { x with fetching := none }

@[simp] theorem State.fetchDone_reads (s : State) (c : Nat) (late : Bool) :
    (s.fetchDone c late).chan c = { s.chan c with fetching := none } ∧ ∀ r k, (s.fetchDone c late).o 0x5341 r k = s.o 0x5341 r k := by
  simp [State.fetchDone, State.modChan]

theorem State.fetchDone_here (s : State) (c : Nat) (late : Bool) (h : s.chainHere c (s.chan c).cur) :
    s.fetchDone c late = s.setChan c { s.chan c with fetching := none } := by
  rw [State.fetchDone, State.chainTags_here s c late h]
  rfl

theorem dmaDescriptorFetched_failed {s : State} {c w : Nat} (d : BitVec 256) (h1 : (s.chan c).state = 1)
    (hf : (s.chan c).fetching = some w) (hm : s.dmaMayFetch c = true) :
    dmaDescriptorFetched c d false s = (s.fetchDone c false).parkAs c (.halt 5 (s.chan c).cur) := by
  simp only [dmaDescriptorFetched, hm]
  rw [if_neg (by simp [h1, hf]), if_neg Bool.noConfusion]
  rfl

theorem dmaDescriptorFetched_generation {s : State} {c w : Nat} {d : BitVec 256} (h1 : (s.chan c).state = 1)
    (hf : (s.chan c).fetching = some w) (hm : s.dmaMayFetch c = true) (hs : s.dmaSees c d = d) (hfo : (s.chan c).follow = false)
    (hg : dGen d ≠ (s.chan c).e) :
    dmaDescriptorFetched c d true s = (s.fetchDone c false).parkAs c .onGeneration := by
  simp only [dmaDescriptorFetched, hm, hs, hfo]
  rw [if_neg (by simp [h1, hf]), if_neg Bool.noConfusion, if_neg Bool.noConfusion, if_neg Bool.noConfusion, if_pos hg]
  rfl

theorem dmaFetchTimeout_due {s : State} {c w : Nat} (hf : (s.chan c).fetching = some w)
    (hd : w + (s.chan c).fetchTimeout * 1000 ≤ s.now) :
    dmaFetchTimeout c s = (s.fetchDone c true).parkAs c (.halt 4 (s.chan c).cur) := by
  simp only [dmaFetchTimeout, hf]
  exact if_pos (decide_eq_true hd)

/-- A channel with nothing under way halts at once. -/
theorem State.parkAs_halts {s : State} {c : Nat} (hw : (s.chan c).work = []) (code addr : Nat) :
    ((s.parkAs c (.halt code addr)).chan c).state = 4 ∧ ((s.parkAs c (.halt code addr)).chan c).code = code ∧
      ((s.parkAs c (.halt code addr)).chan c).errAddr = addr % 2 ^ 48 ∧
      (s.parkAs c (.halt code addr)).o 0x5341 c 8 = satAdd (s.o 0x5341 c 8) 1 ∧
      (s.parkAs c (.halt code addr)).told .dmaHalted [c, code, addr % 2 ^ 48] ∧
      s.Frame (Part.logs ++ [.dma, .pwr]) (s.parkAs c (.halt code addr)) := by
  rw [State.parkAs_halt _ _ hw]
  obtain ⟨h1, h2, h3, -, -, h6, h7⟩ :=
    State.dmaHalt_acts (s.setChan c { s.chan c with park := some (.halt code addr) }).notIdle c code addr
  exact ⟨h1, h2, h3, h6, h7, by simp⟩

/-- So does one whose descriptor could not be read. -/
theorem State.fetchDone_halts {s : State} {c t : Nat} (late : Bool) (hw : (s.chan c).work = []) (code addr : Nat) :
    ∃ v, v = ((s.at t).fetchDone c late).parkAs c (.halt code addr) ∧ (v.chan c).state = 4 ∧ (v.chan c).code = code ∧
      (v.chan c).errAddr = addr % 2 ^ 48 ∧ v.o 0x5341 c 8 = satAdd (s.o 0x5341 c 8) 1 ∧
      v.told .dmaHalted [c, code, addr % 2 ^ 48] ∧ (s.chainHere c (s.chan c).cur → s.Frame (Part.logs ++ [.dma, .pwr]) v) := by
  obtain ⟨h1, h2, h3, h4, h5, h6⟩ := State.parkAs_halts (s := (s.at t).fetchDone c late) (c := c) (by simp [hw]) code addr
  refine ⟨_, rfl, h1, h2, h3, by rw [h4]; simp, h5, fun hh => .trans ?_ h6⟩
  rw [State.fetchDone_here _ c late (show (s.at t).chainHere c ((s.at t).chan c).cur from hh)]
  simp

/-! ### The end of a descriptor -/

/-- The data of a descriptor whose source is module memory are written, and its registers move on. -/
def State.dmaMoved (s : State) (c : Nat) (d : BitVec 256) : State :=
  (s.dmaWrite c d 0 (dLen d) (s.dmaRead d)).setChan c { s.chan c with
    work := [], moved := 0, asked := false, bytes := ((s.chan c).bytes + dLen d) % 2 ^ 48, descs := ((s.chan c).descs + 1) % 2 ^ 32 }

/-- What tells of a descriptor's end. -/
def State.dmaTold (s : State) (c : Nat) (d : BitVec 256) (own : Bool) : State :=
  match jobOf c with
  | some j => if own then (s.dmaSignals c d).raise .copyJobComplete [j] else s.dmaSignals c d
  | none => s.dmaSignals c d

section
variable (s : State) (c : Nat) (d : BitVec 256)

theorem State.dmaSignals_keeps :
    (s.dmaSignals c d).dma = s.dma ∧ (s.dmaSignals c d).hbm = s.hbm ∧ ∀ o ∈ s.out, o ∈ (s.dmaSignals c d).out := by
  unfold State.dmaSignals
  split
  · exact ⟨rfl, rfl, fun _ h => h⟩
  · split
    · exact ⟨rfl, rfl, fun _ h => List.mem_cons_of_mem _ h⟩
    · exact ⟨by simp, by simp, fun _ h => State.mem_raise_out _ _ h⟩

theorem State.dmaTold_keeps (own : Bool) :
    (s.dmaTold c d own).dma = s.dma ∧ (s.dmaTold c d own).hbm = s.hbm ∧ ∀ o ∈ s.out, o ∈ (s.dmaTold c d own).out := by
  obtain ⟨h1, h2, h3⟩ := s.dmaSignals_keeps c d
  unfold State.dmaTold
  split
  · split
    · exact ⟨by simp [h1], by simp [h2], fun o h => State.mem_raise_out _ _ (h3 o h)⟩
    · exact ⟨h1, h2, h3⟩
  · exact ⟨h1, h2, h3⟩

theorem State.dmaTold_silent (own : Bool) (hj : jobOf c = none) (hi : dInterrupt d = false) : s.dmaTold c d own = s := by
  simp [State.dmaTold, State.dmaSignals, hj, hi]

@[simp] theorem State.dmaMoved_chan : (s.dmaMoved c d).chan c = { s.chan c with
    work := [], moved := 0, asked := false, bytes := ((s.chan c).bytes + dLen d) % 2 ^ 48,
    descs := ((s.chan c).descs + 1) % 2 ^ 32 } := by
  simp [State.dmaMoved]

variable {s c d}

/-- The last descriptor of a channel, of which both ends may be reached and whose source is module memory, is done. -/
theorem dmaDescriptorComplete_local {a : Nat} (hw : (s.chan c).work = [(a, d)]) (hp : (s.chan c).park = none)
    (hs : s.region c (dSrc d) (dLen d) false false = some .memory) (hd : (s.region c (dDst d) (dLen d) true false).isSome = true)
    (hsf : dSrcFixed d = false) (hdf : dDstFixed d = false) :
    dmaDescriptorComplete c s = (s.dmaMoved c d).dmaTold c d (s.chan c).own.isSome := by
  have hb : s.badAddress c d = none := by
    cases h : s.region c (dDst d) (dLen d) true false with
    | none => simp [h] at hd
    | some r => simp [State.badAddress, hsf, hdf, hs, h]
  have hr : s.remoteSource c d = false := by simp [State.remoteSource, hsf, hs]
  obtain ⟨v, hv⟩ : ∃ v, v = (s.dmaMoved c d).dmaTold c d (s.chan c).own.isSome := ⟨_, rfl⟩
  have hc : v.chan c = (s.dmaMoved c d).chan c := by rw [State.chan, hv, (State.dmaTold_keeps ..).1, State.chan]
  have hk : (v.dmaAsk c).dmaPark c = v := by
    rw [State.dmaAsk_of_nil _ _ (by simp [hc]), State.dmaPark_of_none _ _ (by simp [hc, hp])]
  rw [← hv, ← hk, hv]
  simp only [dmaDescriptorComplete, hw, hb, hr]
  rw [if_neg (by simp)]
  rfl

/-- Where the data go. -/
theorem State.dmaMoved_hbm (hd : s.region c (dDst d) (dLen d) true false = some .memory) (hsf : dSrcFixed d = false)
    (hdf : dDstFixed d = false) (h0 : 0 < dLen d) :
    s.dmaWrite c d 0 (dLen d) (s.dmaRead d) =
      { s with hbm := Memory.writeN s.hbm (dDst d) (s.memRead (dSrc d) (dLen d)) (dLen d) } := by
  simp [State.dmaWrite, State.dmaRead, hdf, hsf, hd, Nat.pos_iff_ne_zero.1 h0]

end

theorem State.memRead_at (s : State) (t a n : Nat) : (s.at t).memRead a n = s.memRead a n := by
  have h : ∀ runs off, (s.at t).vaultBytes runs off n = s.vaultBytes runs off n := by
    intro runs
    induction n with
    | zero => exact fun _ => rfl
    | succ n ih => exact fun off => congrArg (s.vaultByte runs off + 256 * ·) (ih (off + 1))
  unfold State.memRead
  rw [h]
  rfl

/-- Messages one after the other. -/
theorem State.each_emit {α : Type} (s : State) (xs : List α) (f : α → Out) :
    (∀ x ∈ xs, f x ∈ (s.each xs fun s x => s.emit (f x)).out) ∧ (∀ o ∈ s.out, o ∈ (s.each xs fun s x => s.emit (f x)).out) ∧
      (s.each xs fun s x => s.emit (f x)).hbm = s.hbm := by
  induction xs generalizing s with
  | nil => exact ⟨fun x hx => absurd hx List.not_mem_nil, fun o h => h, rfl⟩
  | cons y ys ih =>
    obtain ⟨h1, h2, h3⟩ := ih (s.emit (f y))
    refine ⟨fun x hx => ?_, fun o h => h2 o (List.mem_cons_of_mem _ h), h3⟩
    obtain rfl | hx := List.mem_cons.1 hx
    · exact h2 _ List.mem_cons_self
    · exact h1 x hx

/-- What no message changes may be read at the start. -/
theorem State.each_emit_of {α β : Type} {g : State → β} (hg : ∀ (u : State) (o : Out), g (u.emit o) = g u) (s : State) (xs : List α)
    (f : β → α → Out) : (s.each xs fun u x => u.emit (f (g u) x)) = s.each xs fun u x => u.emit (f (g s) x) := by
  have h : ∀ (u : State), g u = g s → (u.each xs fun u x => u.emit (f (g u) x)) = u.each xs fun u x => u.emit (f (g s) x) := by
    induction xs with
    | nil => exact fun _ _ => rfl
    | cons x xs ih =>
      intro u hu
      refine (ih (u.emit (f (g u) x)) ((hg ..).trans hu)).trans ?_
      rw [hu]
      rfl
  exact h s rfl

/-- Data toward PCIe leave in TLPs, and module memory stays. -/
theorem State.dmaWrite_slot {s : State} {c n o : Nat} {d : BitVec 256}
    (hd : s.region c (dDst d) (dLen d) true false = some (.slot n o)) (hdf : dDstFixed d = false) (h0 : 0 < dLen d) (v : Content) :
    s.dmaWrite c d 0 (dLen d) v = s.each (writePieces (s.slotMps n) o (dLen d) none) fun s x =>
      s.emit (.slotBulk n x.1 x.2.2 (v / 256 ^ x.2.1 % 256 ^ x.2.2)) := by
  simp [State.dmaWrite, hdf, hd, Nat.pos_iff_ne_zero.1 h0]

theorem State.dmaWrite_near {s : State} {c p i o : Nat} {d : BitVec 256}
    (hd : s.region c (dDst d) (dLen d) true false = some (.near p i o)) (hdf : dDstFixed d = false) (h0 : 0 < dLen d) (v : Content) :
    s.dmaWrite c d 0 (dLen d) v = s.each (writePieces (s.nport p).mps o (dLen d) none) fun u x =>
      u.emit (.npBulk p 0 x.1 x.2.2 (v / 256 ^ x.2.1 % 256 ^ x.2.2) (s.outAttr p i)) := by
  have h := State.each_emit_of (g := fun u => u.outAttr p i) (fun _ _ => rfl) s (writePieces (s.nport p).mps o (dLen d) none)
    fun b x => .npBulk p 0 x.1 x.2.2 (v / 256 ^ x.2.1 % 256 ^ x.2.2) b
  rw [← h]
  simp [State.dmaWrite, hdf, hd, Nat.pos_iff_ne_zero.1 h0]

theorem State.thawNow_chan (s : State) (j : Nat) : s.thawNow.chan j = s.chan j := by
  have h := State.frame_thawNow (s := s) (u := s) (ps := [.free, .out, .dict, .eth, .pwr]) (by simp)
  rw [State.chan, State.same_of_frame h .dma, State.chan]

theorem State.thawNow_now (s : State) : s.thawNow.now = s.now :=
  State.same_of_frame (State.frame_thawNow (s := s) (u := s) (ps := [.free, .out, .dict, .eth, .pwr]) (by simp)) .now

section
variable {s : State} {t c : Nat} (hp : s.railsOn) (hc : c < 64)
include hp hc

theorem dmaStart_acts (w : DmaSetup) (h0 : (s.chan c).state = 0) :
    Done (.dmaStart t c (some w)) s fun v =>
      (v.chan c).state = 1 ∧ (v.chan c).cur = w.head % 2 ^ 48 / 32 * 32 ∧ (v.chan c).e = w.gen ∧ (v.chan c).hops = 0 ∧
      (v.chan c).bytes = 0 ∧ (v.chan c).descs = 0 ∧ (v.chan c).hopLimit = w.hopLimit % 2 ^ 24 ∧
      (v.chan c).fetching = some (max s.now t) ∧
      (jobOf c = none → s.chainHere c (w.head % 2 ^ 48 / 32 * 32) → v = { (s.at t) with dma := v.dma }) := by
  obtain ⟨x, hx⟩ : ∃ x : DmaChan, x = { s.chan c with
    head := w.head % 2 ^ 48 / 32 * 32, gen := w.gen, hopLimit := w.hopLimit % 2 ^ 24, fetchTimeout := w.fetchTimeout % 2 ^ 16,
    cls := w.cls % 8, own := none } := ⟨_, rfl⟩
  obtain ⟨v, hv⟩ : ∃ v, v = if (jobOf c).isSome then ((s.at t).setChan c x).thawNow else (s.at t).setChan c x := ⟨_, rfl⟩
  have hchan : v.chan c = x := by
    rw [hv]
    split
    · exact (State.thawNow_chan ..).trans (by simp)
    · simp
  have hnow : v.now = max s.now t := by
    rw [hv]
    split
    · exact State.thawNow_now _
    · rfl
  have hst : (v.chan c).state = 0 := by rw [hchan, hx]; exact h0
  have hf : dmaStart c (some w) (s.at t) = v.dmaBegin c := by
    rw [hv] at hst ⊢
    rw [hx] at hst ⊢
    exact if_pos hst
  refine done_act rfl (decide_eq_true hc) hp fun u hu => ?_
  rw [hf] at hu
  refine ⟨?_, ?_, ?_, ?_, ?_, ?_, ?_, ?_, fun hj hh => ?here⟩
  case here =>
    have hv' : v = (s.at t).setChan c x := hv.trans (if_neg (by simp [hj]))
    have hb : v.dmaBegin c = _ := State.dmaFetch_here _ c (by simpa [State.chainHere, hv', hx] using hh)
    rw [hu, hb, hv']
    rfl
  all_goals simp [hu, State.dmaBegin, hchan, hx, hnow]

/-- Data that leave toward PCIe are all sent, and module memory stays. -/
theorem dmaDescriptorComplete_sends {a : Nat} {d : BitVec 256} {xs : List (Nat × Nat × Nat)} {f : Nat × Nat × Nat → Out}
    (hw : (s.chan c).work = [(a, d)]) (hpk : (s.chan c).park = none)
    (hs : s.region c (dSrc d) (dLen d) false false = some .memory) (hd : (s.region c (dDst d) (dLen d) true false).isSome = true)
    (hsf : dSrcFixed d = false) (hdf : dDstFixed d = false)
    (hmv : (s.at t).dmaWrite c d 0 (dLen d) (s.memRead (dSrc d) (dLen d)) = (s.at t).each xs fun u x => u.emit (f x)) :
    Done (.dmaDescriptorComplete t c) s fun v => (v.chan c).work = [] ∧ v.hbm = s.hbm ∧ ∀ x ∈ xs, f x ∈ v.out := by
  have hf := dmaDescriptorComplete_local (s := s.at t) hw hpk hs hd hsf hdf
  obtain ⟨hdma, hhbm, hout⟩ := ((s.at t).dmaMoved c d).dmaTold_keeps c d (s.chan c).own.isSome
  obtain ⟨h1, -, h3⟩ := State.each_emit (s.at t) xs f
  have hrd : (s.at t).dmaRead d = s.memRead (dSrc d) (dLen d) := by
    rw [State.dmaRead, if_neg (by simp [hsf]), State.memRead_at]
  rw [← hmv, ← hrd] at h1 h3
  refine done_actMem rfl (decide_eq_true hc) hp fun u hu => ?_
  rw [hf] at hu
  refine ⟨?_, ?_, fun x hx => ?_⟩
  · have hch := State.dmaMoved_chan (s.at t) c d
    rw [State.chan, ← hdma] at hch
    have hu' : u.chan c = _ := (congrArg (fun v : State => v.chan c) hu).trans hch
    rw [hu']
  · rw [hu]
    exact hhbm.trans h3
  · rw [hu]
    exact hout _ (h1 x hx)

theorem dmaExtend_acts :
    ((s.chan c).state = 2 ∨ (s.chan c).state = 3 →
      Done (.dmaExtend t c) s fun v =>
        v.chan c = { s.chan c with hops := 0, state := 1, fetching := some (max s.now t) } ∧
        (s.chainHere c (s.chan c).cur →
          v = (s.at t).setChan c { s.chan c with hops := 0, state := 1, fetching := some (max s.now t) })) := by
  intro hs
  refine done_act rfl (decide_eq_true hc) hp fun u hu => ?_
  rw [dmaExtend_stopped (s := s.at t) hs] at hu
  refine ⟨by simp [hu], fun hh => ?_⟩
  rw [hu, State.dmaFetch_here _ _ (by simpa [State.chainHere] using hh), State.setChan_setChan, State.chan_setChan, if_pos rfl]
  rfl

end

/-- Settles O39. -/
theorem dmaActs : Obligations.DmaActs := by
  intro s t c hp hc
  have hc' : isChan c = true := decide_eq_true hc
  refine ⟨fun w h0 => dmaStart_acts hp hc w h0, fun h0 hj => ?again, fun h1 => ?running, dmaExtend_acts hp hc, fun hs => ?ignored, ?disable,
    fun hs => ?clear, fun d w h1 hfe hmay hown h5 hfo hg hw hpe => ?generation, fun d w h1 hfe hmay hw => ?failed,
    fun a d hw hpk hm hj hi hs hd hsf hdf hl hend => ?memory, fun a d n o hw hpk hs hd hsf hdf hl => ?slot,
    fun a d p i o hw hpk hs hd hsf hdf hl => ?near, fun a d rest x hw hb => ?address, fun write addr ha hw => ?error,
    fun w hfe hd hw => ?timeout⟩
  case again =>
    refine done_act rfl hc' hp fun u hu => ?_
    have hf : dmaStart c none (s.at t) = (s.at t).bump 0x5341 c 9 := by
      simp [dmaStart, hj, h0, State.dmaIgnored]
    rw [hu, hf]
    rfl
  case running =>
    refine done_act rfl hc' hp fun u hu => ?_
    rw [hu, show dmaExtend c (s.at t) = _ from if_pos h1]
    rfl
  case ignored =>
    refine done_act rfl hc' hp fun u hu => ?_
    have hf : dmaExtend c (s.at t) = (s.at t).bump 0x5341 c 9 :=
      (if_neg (show ¬ (s.chan c).state = 1 by omega)).trans (if_neg (show ¬ ((s.chan c).state = 2 ∨ (s.chan c).state = 3) by omega))
    rw [hu, hf]
    rfl
  case disable =>
    refine done_act rfl hc' hp fun u hu => ?_
    have hch : (dmaDisable c (s.at t)).chan c = (s.chan c).disabled s.free := by
      simp [dmaDisable, State.chan, State.setChan]
      rfl
    exact ⟨by simp [hu, hch, DmaChan.disabled], by simp [hu, hch, DmaChan.disabled], by simp [hu, hch, DmaChan.disabled],
      by simp [hu, hch, DmaChan.disabled], by simp [hu, hch, DmaChan.disabled], by simp [hu, dmaDisable, satAt_5341],
      by simp [hu, dmaDisable, State.otherObjects_iff], State.Frame.eq (s := s) (ps := Part.logs ++ [.dma]) (by simp [hu])⟩
  case clear =>
    refine done_act rfl hc' hp fun u hu => ?_
    rw [hu, show dmaHaltClear c (s.at t) = _ from if_pos hs]
    rfl
  case generation =>
    have hsee : (s.at t).dmaSees c d = d := by
      simp only [State.dmaSees, State.chan_at, hown]
      exact if_neg fun h => h.1 h5
    have hf := (dmaDescriptorFetched_generation (s := s.at t) h1 hfe hmay hsee hfo hg).trans
      (State.parkAs_onGeneration _ c (by simp [hw]) (by simp [hpe]))
    refine done_act rfl hc' hp fun u hu => ?_
    rw [hf] at hu
    refine ⟨by simp [hu], by simp [hu], by simp [hu], by simp [hu], fun hh => ?_⟩
    rw [State.fetchDone_here _ _ _ (show (s.at t).chainHere c ((s.at t).chan c).cur from hh)] at hu
    exact ⟨by simp [hu, State.otherObjects_iff], State.Frame.eq (s := s) (ps := Part.logs ++ [.dma, .pwr]) (by simp [hu])⟩
  case failed =>
    obtain ⟨v, hv, k1, k2, k3, k4, k5, k6⟩ := State.fetchDone_halts (s := s) (t := t) false hw 5 (s.chan c).cur
    refine done_act rfl hc' hp fun u hu => ?_
    rw [dmaDescriptorFetched_failed (s := s.at t) d h1 hfe hmay, State.chan_at, ← hv] at hu
    exact ⟨by simp [hu, k1], by simp [hu, k2], by simp [hu, k3], by simp [hu, k4], State.told_of_ev (by simp [hu]) k5,
      fun hh => State.Frame.eq (s := s) (ps := Part.logs ++ [.dma, .pwr])
        (hu ▸ State.frame_after t _ _ (by simp) (.inl rfl) (.inl rfl) (.inl rfl) (k6 hh))⟩
  case timeout =>
    obtain ⟨v, hv, k1, k2, -, -, k5, k6⟩ := State.fetchDone_halts (s := s) (t := t) true hw 4 (s.chan c).cur
    refine done_act rfl hc' hp fun u hu => ?_
    rw [dmaFetchTimeout_due (s := s.at t) hfe hd, State.chan_at, ← hv] at hu
    exact ⟨by simp [hu, k1], by simp [hu, k2], State.told_of_ev (by simp [hu]) k5,
      fun hh => State.Frame.eq (s := s) (ps := Part.logs ++ [.dma, .pwr])
        (hu ▸ State.frame_after t _ _ (by simp) (.inl rfl) (.inl rfl) (.inl rfl) (k6 hh))⟩
  case error =>
    obtain ⟨k1, k2, k3, k4, -, k6, k7⟩ := State.dmaHalt_acts (s.at t) c (if write then 7 else 6) addr
    have hf : dmaTransferError c write addr (s.at t) = (s.at t).dmaHalt c (if write then 7 else 6) addr :=
      if_neg (by simpa using hw)
    rw [Nat.mod_eq_of_lt ha] at k3 k7
    refine done_act rfl (Bool.and_eq_true_iff.2 ⟨hc', decide_eq_true ha⟩) hp fun u hu => ?_
    rw [hf] at hu
    exact ⟨by simp [hu, k1], by simp [hu, k2], by simp [hu, k3], by simp [hu, k4], by simp [hu, k6], State.told_of_ev (by simp [hu]) k7,
      State.Frame.eq (s := s) (ps := Part.logs ++ [.dma]) (by simp [hu])⟩
  case address =>
    obtain ⟨k1, k2, k3, -, k5, -, k7⟩ := State.dmaHalt_acts (s.at t) c 1 x
    have hf : dmaDescriptorComplete c (s.at t) = (s.at t).dmaHalt c 1 x := by
      have hw' : ((s.at t).chan c).work = (a, d) :: rest := hw
      have hb' : (s.at t).badAddress c d = some x := hb
      simp only [dmaDescriptorComplete, hw', hb']
    have hcur : (((s.at t).dmaHalt c 1 x).chan c).cur = a := by
      rw [k5, show ((s.at t).chan c).work = (a, d) :: rest from hw]
    refine done_actMem rfl hc' hp fun u hu => ?_
    rw [hf] at hu
    exact ⟨by simp [hu, k1], by simp [hu, k2], by simp [hu, hcur], by simp [hu, k3], State.told_of_ev (by simp [hu]) k7,
      State.Frame.eq (s := s) (ps := Part.logs ++ [.dma]) (by simp [hu])⟩
  case memory =>
    have hf := dmaDescriptorComplete_local (s := s.at t) hw hpk hs (by simp [hd]) hsf hdf
    rw [State.dmaTold_silent _ _ _ _ hj hi] at hf
    obtain ⟨hin, hout⟩ := State.read_moved s hm (dst := dDst d) hl hend
    have hmem : ((s.at t).dmaMoved c d).hbm = Memory.writeN s.hbm (dDst d) (s.memRead (dSrc d) (dLen d)) (dLen d) := by
      rw [State.dmaMoved, State.dmaMoved_hbm (s := s.at t) hd hsf hdf hl, State.memRead_at]
      rfl
    refine done_actMem rfl hc' hp fun u hu => ?_
    rw [hf] at hu
    refine ⟨fun k hk => by simpa [hu, hmem] using hin k hk, fun x hx => by simpa [hu, hmem] using hout x hx, by simp [hu], by simp [hu],
      by simp [hu], ?_⟩
    rw [hu, State.dmaMoved, State.dmaMoved_hbm (s := s.at t) hd hsf hdf hl, State.memRead_at]
    rfl
  case slot =>
    have hmv := State.dmaWrite_slot (s := s.at t) hd hdf hl (s.memRead (dSrc d) (dLen d))
    exact dmaDescriptorComplete_sends hp hc hw hpk hs (by simp [hd]) hsf hdf hmv
  case near =>
    have hmv := State.dmaWrite_near (s := s.at t) hd hdf hl (s.memRead (dSrc d) (dLen d))
    exact dmaDescriptorComplete_sends hp hc hw hpk hs (by simp [hd]) hsf hdf hmv

end Sys2Proof.Machine
end

section
/-! CLAIM. Copy jobs start, extend, stop and clear by commits of 5340h (13 R457, R461). -/

namespace Sys2Proof.Machine

theorem jobOf_jobChan {j : Nat} (h : j < 16) : jobOf (jobChan j) = some j := by
  unfold jobOf jobChan
  rw [if_pos (by omega)]
  exact congrArg some (by omega)

/-- A channel that starts at its chain head (R447). -/
def DmaChan.begun (x : DmaChan) (now : Nat) : DmaChan :=
  { x with
    state := 1, e := x.gen, cur := x.head, hops := 0, bytes := 0, descs := 0, pending := false, follow := false
    work := [], moved := 0, asked := false, park := none, run := x.run + 1, fetching := some now }

/-- The registers of a copy job's channel as a commit sets them (R457). -/
def DmaChan.setJob (x : DmaChan) (st : Stage) : DmaChan :=
  { x with
    hopLimit := st.n 9, cls := 7, own := if st.n 2 = 0 then some (jobDescriptor st) else none
    head := if st.n 2 = 0 then Config.jobDescriptor st.row else st.n 7
    gen := decide (st.n 2 ≠ 0 ∧ st.n 8 = 1) }

section
variable {s : State} {c : Nat}

/-- A copy job's descriptors are read in the module, and no request leaves for them. -/
theorem State.chainRead_job (h : (jobOf c).isSome = true) : s.chainRead c = s := if_pos (.inr h)

theorem State.dmaBegin_job (h : (jobOf c).isSome = true) : s.dmaBegin c = s.setChan c ((s.chan c).begun s.now) := by
  simp only [State.dmaBegin, State.dmaFetch, State.chainRead_job h, State.setChan_setChan]
  simp [DmaChan.begun]

@[simp] theorem State.gen_setChan (x : DmaChan) (w r : Nat) : (s.setChan c x).gen w r = s.gen w r := rfl

theorem dmaDisable_reads : (dmaDisable c s).chan c = (s.chan c).disabled s.free ∧
    (∀ i r k, i ≠ 0x5341 → i < 65536 → (dmaDisable c s).val i r k = s.val i r k) ∧ ∀ w r, (dmaDisable c s).gen w r = s.gen w r := by
  refine ⟨?_, fun i r k hi hl => ?_, fun w r => rfl⟩
  · simp [dmaDisable, State.chan, State.setChan]
    rfl
  · have h : objKey 0x5341 c 8 ≠ objKey i r k := fun e => hi (by have := (objKey_inj.1 e).1; omega)
    exact (State.val_put ..).trans (if_neg h)

end

/-- A commit of the copy-job window stores its row; its channel is as the commit's effect leaves it. -/
theorem done_copyJob {i : Instr} {s v : State} {t sess : Nat} {Q : State → Prop} (hi : exec i s = act t true s (copyJobCommit sess))
    (hp : s.railsOn) (hm : (s.at t).mayCommit sess 0x5340 copyJobCode = true)
    (hv : applyCopyJob (s.staged sess 0x5340) (s.at t) ((s.at t).storeRow 0x5340 (s.staged sess 0x5340)) = v)
    (hval : ∀ k, v.val 0x5340 (s.staged sess 0x5340).row k =
      ((s.at t).storeRow 0x5340 (s.staged sess 0x5340)).val 0x5340 (s.staged sess 0x5340).row k)
    (hgen : ∀ w r, v.gen w r = ((s.at t).storeRow 0x5340 (s.staged sess 0x5340)).gen w r)
    (hQ : ∀ u : State, u.chan (jobChan (s.staged sess 0x5340).row) = v.chan (jobChan (s.staged sess 0x5340).row) → Q u) :
    Done i s fun u => s.committed u sess 0x5340 ∧ s.rowTook u sess 0x5340 [2, 3, 4, 5, 6, 7, 8, 9] ∧ Q u := by
  refine done_commitAs hi rfl hp hm (by simp [isShelfSetting]) fun u hu => ?_
  rw [State.configStep_of_not_shelf (by decide)] at hu
  refine ⟨⟨?_, ?_⟩, ?_, hQ u ?_⟩
  · simp [hu, hv, hgen]
  · simp [hu, State.answered]
  · simp (decide := true) [hu, hv, State.rowTook, hval, State.val_storeRow]
  · simp [hu, hv]

/-- Settles O40. -/
theorem copyJobActs : Obligations.CopyJobActs := by
  intro s t hp
  refine ⟨fun sess hm hr hA hB hC hD => ?start, fun sess hm hA hB hC hD h1 => ?extend, fun sess hm hA hB hC hD => ?disable,
    fun sess hm hA hB hC hD h4 => ?clear⟩
  case start =>
    have hj : (jobOf (jobChan (s.staged sess 0x5340).row)).isSome = true := by rw [jobOf_jobChan hr]; rfl
    obtain ⟨v, hv⟩ : ∃ v, v = (s.at t).storeRow 0x5340 (s.staged sess 0x5340) := ⟨_, rfl⟩
    have hf : applyCopyJob (s.staged sess 0x5340) (s.at t) v = v.setChan (jobChan (s.staged sess 0x5340).row)
        (((v.chan (jobChan (s.staged sess 0x5340).row)).setJob (s.staged sess 0x5340)).begun v.now) := by
      simp [applyCopyJob, hA, hB, hC, hD, State.dmaBegin_job hj, State.setChan_setChan, DmaChan.setJob]
    rw [hv] at hf
    refine done_copyJob rfl hp hm hf (by simp) (by simp) fun u hu => ?_
    rw [hu, State.chan_setChan, if_pos rfl]
    exact ⟨rfl, rfl, rfl, rfl⟩
  case extend =>
    have hf : applyCopyJob (s.staged sess 0x5340) (s.at t) ((s.at t).storeRow 0x5340 (s.staged sess 0x5340)) =
        ((s.at t).storeRow 0x5340 (s.staged sess 0x5340)).setChan (jobChan (s.staged sess 0x5340).row)
          { s.chan (jobChan (s.staged sess 0x5340).row) with hops := 0, pending := true } := by
      simp [applyCopyJob, hA, hB, hC, hD, dmaExtend, h1]
    refine done_copyJob rfl hp hm hf (by simp) (by simp) fun u hu => ?_
    rw [hu, State.chan_setChan, if_pos rfl]
    exact ⟨rfl, rfl⟩
  case disable =>
    have hf : applyCopyJob (s.staged sess 0x5340) (s.at t) ((s.at t).storeRow 0x5340 (s.staged sess 0x5340)) =
        dmaDisable (jobChan (s.staged sess 0x5340).row) ((s.at t).storeRow 0x5340 (s.staged sess 0x5340)) := by
      simp [applyCopyJob, hA, hB, hC, hD]
    obtain ⟨hch, hval, hgen⟩ := dmaDisable_reads (s := (s.at t).storeRow 0x5340 (s.staged sess 0x5340))
      (c := jobChan (s.staged sess 0x5340).row)
    exact done_copyJob rfl hp hm hf (fun k => hval _ _ _ (by decide) (by decide)) hgen
      fun u hu => ⟨by rw [hu, hch]; rfl, by rw [hu, hch]; rfl⟩
  case clear =>
    have hf : applyCopyJob (s.staged sess 0x5340) (s.at t) ((s.at t).storeRow 0x5340 (s.staged sess 0x5340)) =
        ((s.at t).storeRow 0x5340 (s.staged sess 0x5340)).setChan (jobChan (s.staged sess 0x5340).row)
          { s.chan (jobChan (s.staged sess 0x5340).row) with state := 0, code := 0 } := by
      simp [applyCopyJob, hA, hB, hC, hD, dmaHaltClear, h4]
    refine done_copyJob rfl hp hm hf (by simp) (by simp) fun u hu => ?_
    rw [hu, State.chan_setChan, if_pos rfl]
    exact ⟨rfl, rfl⟩

end Sys2Proof.Machine
end

section
/-! CLAIM. Port settings and interfaces are committed, and the protocols of the ports answer (04 R117 to R126, 05 R195). -/

namespace Sys2Proof.Machine

/-- Port settings and interfaces. -/
theorem portSettingsCommit_stores {s : State} {t : Nat} (hp : s.railsOn) {sess : Nat}
    (hm : (s.at t).mayCommit sess 0x3001 portSettingsCode = true) :
    Done (.portSettingsCommit t sess) s fun u =>
      s.committed u sess 0x3001 ∧ s.rowTook u sess 0x3001 [2, 3, 4, 5, 6, 7, 8, 9, 0xA, 0xB, 0xC, 0xD, 0xE, 0xF] := by
  refine done_commitRow' rfl rfl rfl hp hm (by simp [isShelfSetting]) (by decide) (fun v => ?_) fun v _ k hk => ?_
  · exact State.gen_of_frame (frame_applyPortSettings (ps := [.free, .out, .dict, .sess, .ev, .rings, .fab, .eth, .ptp, .rdma, .nvme,
      .sched, .meter, .flushes]) _ _ (by simp)) ..
  · refine val_applyPortSettings v _ _ _ _ _ ?_ (by decide) (by decide)
    simp only [List.mem_cons, List.not_mem_nil, or_false] at hk
    rcases hk with rfl | rfl | rfl | rfl | rfl | rfl | rfl | rfl | rfl | rfl | rfl | rfl | rfl | rfl <;> rfl

theorem interfaceCommit_stores {s : State} {t : Nat} (hp : s.railsOn) {sess : Nat}
    (hm : (s.at t).mayCommit sess 0x3040 interfaceCode = true) (hpr : s.paired = false) :
    Done (.interfaceCommit t sess) s fun u => s.committed u sess 0x3040 ∧ s.rowTook u sess 0x3040 [2, 3, 4, 5, 6, 7, 8] := by
  refine done_commitRow' (app := fun _ old u => u.refreshDiscovery old) rfl rfl rfl hp hm (by simp [hpr]) (by decide) (fun v => ?_)
    fun v _ k hk => ?_
  · exact State.gen_of_frame (State.frame_refreshDiscovery (ps := [.free, .out, .dict, .sess, .ev, .rings, .fab, .eth, .rdma, .nvme,
      .sched, .np, .meter, .twin, .ctrls]) _ (by simp)) ..
  · exact State.val_of_objs (State.objs_refreshDiscovery ..) _ _ _

/-! ### A port with nothing to send -/

section
variable {s : State} {p : Nat}

theorem State.pickQueue_none (hq : (s.eg p).queues = []) (c : Nat) : s.pickQueue p c = none := by
  have hb : (s.eg p).backlog = [] := by simp [EgPort.backlog, hq]
  simp [State.pickQueue, hb]

theorem State.pickClass_none (hq : (s.eg p).queues = []) (c n : Nat) : s.pickClass p c n = none := by
  induction n generalizing c with
  | zero => rfl
  | succ n ih => rw [State.pickClass, State.pickQueue_none hq, ih]

theorem State.controlReady_none (hq : (s.eg p).queues = []) : s.controlReady p = false := by
  have h : (s.eg p).head? controlKey = none := by simp [EgPort.head?, hq, Tbl.get, Tbl.find?]
  rw [State.controlReady, h]

theorem State.setEg_self (x : EgPort) (h : s.eg p = x) : (s.setEg p x).eg p = x := by simp

/-- PFC frames are none, so none leave. -/
theorem State.sendPfc_idle (hc : (s.eg p).pfcQ = []) : s.sendPfc p = s.setEg p (s.eg p) := by
  have h : ({ s.eg p with pfcQ := (s.eg p).pfcQ.drop 2 } : EgPort) = s.eg p := by
    rw [hc]
    conv_rhs => rw [← show ({ s.eg p with pfcQ := [] } : EgPort) = s.eg p by rw [← hc]]
    rfl
  unfold State.sendPfc
  dsimp only
  rw [h, hc]
  rfl

/-- A port with nothing to send keeps its egress. -/
theorem State.nextFrame_idle (hq : (s.eg p).queues = []) (hc : (s.eg p).pfcQ = []) (h0 : s.ob 0x2108 0 ≠ p) :
    (s.nextFrame p).eg p = s.eg p ∧ ∀ {r : State} {ps : List Part}, .out ∈ ps ∧ .dict ∈ ps ∧ .eth ∈ ps ∧ .sched ∈ ps →
      (r.Frame ps (s.nextFrame p) ↔ r.Frame ps s) := by
  have hb : (s.eg p).backlog = [] := by simp [EgPort.backlog, hq]
  have hr : (if s.portUp p then s.each (s.eg p).backlog (State.refreshQueue p) else s) = s := by
    rw [hb]
    exact ite_self s
  obtain ⟨v, hv⟩ : ∃ v, v = s.setEg p (s.eg p) := ⟨_, rfl⟩
  have he : v.eg p = s.eg p := by simp [hv]
  have hvq : (v.eg p).queues = [] := by rw [he, hq]
  have h0' : ¬ (v.ob 0x2108 0 = p ∧ v.fab.mirrorQ ≠ []) := fun h => h0 (by rw [← h.1, hv]; rfl)
  have hs : s.nextFrame p = (if s.portUp p && (s.eg p).onLine.isNone then v else s).syncLpi p := by
    unfold State.nextFrame
    dsimp only
    rw [hr, State.sendPfc_idle hc, ← hv, State.pickQueue_none hvq, State.controlReady_none hvq, State.pickClass_none hvq]
    dsimp only
    rw [if_neg Bool.false_ne_true, if_neg h0', he, hc]
    split <;> rfl
  rw [hs]
  refine ⟨?_, fun {r ps} hps => ?_⟩
  · rw [State.syncLpi, State.eg_setLpi]
    split
    · exact he
    · rfl
  · rw [State.frame_syncLpi p (by simp [hps])]
    split
    · simp [hv, hps]
    · rfl

end

/-! ### Echo and LLDP -/

section
variable {s : State} {t p : Nat} (hp : s.railsOn) (h32 : p < 32)
include hp h32

theorem echoRequest_answered {ip : Ip} {len : Nat} (hw : s.ctlWaits p) (h0 : s.ob 0x2108 0 ≠ p) (hif : (s.interfaceOf p ip).isSome = true)
    (hn : (within (max s.now t) sNs (s.port p).echoTimes).length < 100) :
    Done (.echoRequestReceived t p ip len) s fun u =>
      (u.port p).echoTimes = max s.now t :: within (max s.now t) sNs (s.port p).echoTimes ∧
      (u.eg p).queues = (s.ctlEg t p len (.echoReply ip)).queues ∧ u = { s.logged u with eth := u.eth, sched := u.sched } := by
  obtain ⟨v, hv⟩ : ∃ v, v = (s.at t).setPort p { s.port p with echoTimes := max s.now t :: within (max s.now t) sNs (s.port p).echoTimes } :=
    ⟨_, rfl⟩
  have hf : echoRequestReceived p ip len (s.at t) = v.enqueueCtl p len (.echoReply ip) := by
    rw [hv]
    refine if_pos ?_
    have hs : s.portServes p = true := by
      rw [State.portServes, hw.1.1]
      exact decide_eq_true h0
    have hs' : (s.at t).portServes p = true := hs
    have hif' : ((s.at t).interfaceOf p ip).isSome = true := hif
    rw [hs', hif']
    exact decide_eq_true hn
  have hport : v.port p = { s.port p with echoTimes := max s.now t :: within (max s.now t) sNs (s.port p).echoTimes } := by simp [hv]
  have hw' : v.ctlWaits p := State.ctlWaits_of hw (by rw [hv]; rfl) (by rw [hv]; rfl) (by rw [hv]; rfl)
    (by rw [hport]; exact ⟨rfl, rfl, rfl, rfl, rfl⟩)
  obtain ⟨hq, hk⟩ := State.enqueueCtl_queues (s := s) (t := t) (len := len) (c := .echoReply ip) hw' (by rw [hv]; rfl) (by rw [hv]; rfl)
  have hframe : s.Frame (Part.logs ++ [.eth, .sched]) v := by simp [hv]
  refine done_act rfl (decide_eq_true h32) hp fun u hu => ?_
  rw [hf] at hu
  obtain ⟨b, hb⟩ := hk.1 p
  have hu' : u.port p = (v.enqueueCtl p len (.echoReply ip)).port p := by rw [hu]; rfl
  refine ⟨?_, by rw [← hq, hu]; rfl, State.Frame.eq (s := s) (ps := Part.logs ++ [.eth, .sched]) ?_⟩
  · rw [hu', hb, hport]
  · rw [hu]
    exact State.frame_after t _ _ (by simp) (.inl rfl) (.inl rfl) (.inl rfl)
      ((State.frame_enqueueCtl_waits hw' (by simp)).2 hframe)

theorem lldpTransmit_sends (hw : s.ctlWaits p) (h1 : s.ob 0x3030 1 = 1)
    (hd : ∀ t0, (s.port p).lldpSent = some t0 → t0 + s.ob 0x3030 2 * sNs ≤ max s.now t) :
    Done (.lldpTransmit t p) s fun u => ∃ len, 64 ≤ len ∧ len ≤ 1518 ∧
      (u.port p).lldpSent = some (max s.now t) ∧
      (u.eg p).queues = (s.ctlEg t p len (.lldp (s.lldpdu p))).queues ∧ u = { s.logged u with eth := u.eth, sched := u.sched } := by
  obtain ⟨len, hlen⟩ : ∃ n, n = 64 + (s.at t).draw % 1455 := ⟨_, rfl⟩
  obtain ⟨v, hv⟩ : ∃ v, v = (s.at t).drawn.setPort p { s.port p with lldpSent := some (max s.now t) } := ⟨_, rfl⟩
  have hdue : (match (s.port p).lldpSent with
      | some t0 => dueAt (max s.now t) t0 (s.ob 0x3030 2 * sNs)
      | none => true) = true := by
    split
    · next t0 ht => exact decide_eq_true (hd t0 ht)
    · rfl
  have hf : lldpTransmit p (s.at t) = v.enqueueCtl p len (.lldp (s.lldpdu p)) := by
    rw [hv, hlen]
    refine if_pos ?_
    have hup : (s.at t).portUp p = true := hw.1.1
    have h1' : decide ((s.at t).ob 0x3030 1 = 1) = true := decide_eq_true h1
    rw [hup, h1']
    exact hdue
  have hport : v.port p = { s.port p with lldpSent := some (max s.now t) } := by simp [hv]
  have hw' : v.ctlWaits p := State.ctlWaits_of hw (by rw [hv]; rfl) (by rw [hv]; rfl) (by rw [hv]; rfl) (by rw [hport]; exact ⟨rfl, rfl, rfl, rfl, rfl⟩)
  obtain ⟨hq, hk⟩ := State.enqueueCtl_queues (s := s) (t := t) (len := len) (c := .lldp (s.lldpdu p)) hw' (by rw [hv]; rfl)
    (by rw [hv]; rfl)
  have hframe : s.Frame (Part.logs ++ [.eth, .sched]) v := by simp [hv]
  refine done_act rfl (decide_eq_true h32) hp fun u hu => ?_
  rw [hf] at hu
  obtain ⟨b, hb⟩ := hk.1 p
  have hu' : u.port p = (v.enqueueCtl p len (.lldp (s.lldpdu p))).port p := by rw [hu]; rfl
  refine ⟨len, by omega, by omega, ?_, by rw [← hq, hu]; rfl, State.Frame.eq (s := s) (ps := Part.logs ++ [.eth, .sched]) ?_⟩
  · rw [hu', hb, hport]
  · rw [hu]
    exact State.frame_after t _ _ (by simp) (.inl rfl) (.inl rfl) (.inl rfl)
      ((State.frame_enqueueCtl_waits hw' (by simp)).2 hframe)

theorem lldpdu_taken {v chassis smac : Nat} (hx : s.portExists p = true) (hl : (s.port p).linkUp = true) :
    Done (.lldpduReceived t p (some v) chassis smac) s fun u =>
      (u.port p).chassis = chassis % 2 ^ 128 ∧ (u.port p).partnerMac = smac ∧ u.o 0x3002 p 0xB = v % 256 ∧
      (v % 256 ≠ s.o 0x3001 p 9 → u.told .pfcMismatch [p, v % 256]) ∧ u = { s.logged u with eth := u.eth } := by
  obtain ⟨w, hw⟩ : ∃ w, w = ((s.at t).setPort p { s.port p with chassis := chassis % 2 ^ 128, partnerMac := smac }).put 0x3002 p 0xB (v % 256) :=
    ⟨_, rfl⟩
  have hf : lldpduReceived p (some v) chassis smac (s.at t) = if v % 256 ≠ s.o 0x3001 p 9 then w.raise .pfcMismatch [p, v % 256] else w := by
    have hc : ((s.at t).portExists p && ((s.at t).port p).linkUp) = true := by
      rw [show (s.at t).portExists p = true from hx]
      exact hl
    have h9 : w.o 0x3001 p 9 = s.o 0x3001 p 9 := by simp (decide := true) [hw]
    rw [← h9, hw]
    exact if_pos hc
  have hframe : s.Frame (Part.logs ++ [.eth]) w := by simp [hw]
  refine done_act rfl (decide_eq_true h32) hp fun u hu => ?_
  rw [hf] at hu
  refine ⟨?_, ?_, ?_, fun h9 => ?_, State.Frame.eq (s := s) (ps := Part.logs ++ [.eth]) ?_⟩
  · rw [hu]
    split <;> simp [hw]
  · rw [hu]
    split <;> simp [hw]
  · rw [hu]
    split <;> simp [hw]
  · rw [hu, if_pos h9]
    exact State.told_raise _ _ _
  · rw [hu]
    refine State.frame_after t _ _ (by simp) (.inl rfl) (.inl rfl) (.inl rfl) ?_
    split <;> simpa using hframe

theorem autoNegotiation_ends {common lpi : Bool} (hx : s.portExists p = true) (hl : (s.port p).linkUp = false) (h3 : s.phyType p ≠ 3) :
    Done (.autoNegotiationComplete t p ⟨common, lpi⟩) s fun u =>
      u.port p = { s.port p with noCommon := !common } ∧
      u.o 0x3002 p 0xC = (if common && lpi && decide (s.o 0x3001 p 0xB ≠ 0) then 1 else 0) ∧
      s.otherObjects u [objKey 0x3002 p 0xC] ∧ u = { s.logged u with eth := u.eth } := by
  have hf : autoNegotiationComplete p common lpi (s.at t) = ((s.at t).setPort p { s.port p with noCommon := !common }).put 0x3002 p 0xC
      (if common && lpi && decide (s.o 0x3001 p 0xB ≠ 0) then 1 else 0) := by
    have hc : ((s.at t).portExists p && !((s.at t).port p).linkUp && decide ((s.at t).phyType p ≠ 3)) = true := by
      rw [show (s.at t).portExists p = true from hx, show ((s.at t).port p).linkUp = false from hl]
      exact decide_eq_true h3
    exact if_pos hc
  refine done_act rfl (decide_eq_true h32) hp fun u hu => ?_
  rw [hf] at hu
  exact ⟨by simp [hu], by simp [hu], by simp [hu, State.otherObjects_iff], State.Frame.eq (s := s) (ps := Part.logs ++ [.eth]) (by simp [hu])⟩

/-- A port with nothing to send only frees its line. -/
theorem egressFrameEnd_idles (hq : (s.eg p).queues = []) (hc : (s.eg p).pfcQ = []) (h0 : s.ob 0x2108 0 ≠ p) :
    Done (.egressFrameEnd t p) s fun u => u.eg p = { s.eg p with onLine := none } ∧ u = { s.logged u with eth := u.eth, sched := u.sched } := by
  obtain ⟨w, hw⟩ : ∃ w, w = match (s.eg p).onLine with
      | some f => if f.stomped && !f.byLoss then (s.at t).bump 0x2103 (p / 4) 6 else s.at t
      | none => s.at t := ⟨_, rfl⟩
  have hframe : s.Frame Part.logs w := by
    rw [hw]
    split
    · split <;> simp
    · simp
  have hob : w.ob 0x2108 0 = s.ob 0x2108 0 := by
    rw [hw]
    split
    · split <;> simp (decide := true)
    · rfl
  have heg : w.eg p = s.eg p := by rw [State.eg, hframe.same .sched, State.eg]
  obtain ⟨v, hv⟩ : ∃ v, v = w.setEg p { s.eg p with onLine := none } := ⟨_, rfl⟩
  have hf : egressFrameEnd p (s.at t) = v.nextFrame p := by
    rw [hv, ← heg, hw]
    rfl
  have hve : v.eg p = { s.eg p with onLine := none } := by simp [hv]
  obtain ⟨he, hfr⟩ := State.nextFrame_idle (s := v) (p := p) (by rw [hve, hq]) (by rw [hve, hc])
    (by rw [hv]; exact fun h => h0 (hob.symm.trans h))
  refine done_act rfl (decide_eq_true h32) hp fun u hu => ?_
  rw [hf] at hu
  refine ⟨by rw [← hve, ← he, hu]; rfl, State.Frame.eq (s := s) (ps := Part.logs ++ [.eth, .sched]) ?_⟩
  rw [hu]
  refine State.frame_after t _ _ (by simp) (.inl rfl) (.inl rfl) (.inl rfl) ((hfr (by simp)).2 ?_)
  rw [hv]
  simp [hframe.mono]

end

/-- Settles O18. -/
theorem ethernetPortSettings : Obligations.EthernetPortSettings := by
  intro s t p hp h32
  have hserves : s.ctlWaits p → s.ob 0x2108 0 ≠ p → (s.at t).portServes p = true := fun hw h0 => by
    have hup : (s.at t).portUp p = true := hw.1.1
    rw [State.portServes, hup]
    exact decide_eq_true h0
  refine ⟨fun sess hm => portSettingsCommit_stores hp hm, fun sess hm hpr _ => interfaceCommit_stores hp hm hpr,
    fun ip hw h0 h4 hif => ?arp, fun ip hw h0 h4 hif => ?neighbour, fun ip len hw h0 hif hn => echoRequest_answered hp h32 hw h0 hif hn,
    fun hw h1 hd => lldpTransmit_sends hp h32 hw h1 hd, fun v chassis smac hx hl => lldpdu_taken hp h32 hx hl,
    fun common lpi hx hl h3 => autoNegotiation_ends hp h32 hx hl h3, fun hq hc h0 => egressFrameEnd_idles hp h32 hq hc h0⟩
  case arp =>
    have hif' : ((s.at t).interfaceOf p ip).isSome = true := hif
    exact done_enqueueCtl (f := arpRequestReceived p ip) rfl (decide_eq_true h32) hp
      (if_pos (by rw [hserves hw h0, h4, hif']; rfl)) hw
  case neighbour =>
    have hif' : ((s.at t).interfaceOf p ip).isSome = true := hif
    exact done_enqueueCtl (f := neighbourSolicitationReceived p ip) rfl (decide_eq_true h32) hp
      (if_pos (by rw [hserves hw h0, h4, hif']; rfl)) hw

end Sys2Proof.Machine
end

section
/-! SUPPORT. What following the delay leaves of a port (04 R132, R133). -/

namespace Sys2Proof.Machine

/-- Every port is as it was but for its headroom. -/
def State.HeadroomOnly (s u : State) : Prop := ∀ q, ∃ h c b, u.port q = { s.port q with headroom := h, computed := c, short := b }

section
variable {s u v : State}

theorem State.HeadroomOnly.refl (s : State) : s.HeadroomOnly s := fun q => ⟨(s.port q).headroom, (s.port q).computed, (s.port q).short, rfl⟩

theorem State.HeadroomOnly.trans (h : s.HeadroomOnly u) (h' : u.HeadroomOnly v) : s.HeadroomOnly v := fun q => by
  obtain ⟨a, b, c, e⟩ := h q
  obtain ⟨a', b', c', e'⟩ := h' q
  exact ⟨a', b', c', by rw [e', e]⟩

theorem State.headroomOnly_setPort (p : Nat) (h : Tbl Nat) (c : Tbl (List (Nat × Nat))) (b : Bool) :
    s.HeadroomOnly (s.setPort p { s.port p with headroom := h, computed := c, short := b }) := fun q => by
  by_cases hq : p = q
  · exact ⟨h, c, b, by simp [hq]⟩
  · exact ⟨(s.port q).headroom, (s.port q).computed, (s.port q).short, by simp [hq]⟩

theorem State.HeadroomOnly.of_eth (h : u.eth = s.eth) : s.HeadroomOnly u :=
  fun q => ⟨(s.port q).headroom, (s.port q).computed, (s.port q).short, by simp only [State.port, h]⟩

theorem State.headroomOnly_checkShort (s : State) (p : Nat) : s.HeadroomOnly (s.checkShort p) := by
  unfold State.checkShort
  extract_lets x now w
  have h : s.HeadroomOnly w := s.headroomOnly_setPort p (s.port p).headroom (s.port p).computed now
  split
  · exact h.trans (.of_eth (by simp))
  · exact h

theorem State.headroomOnly_tryDecrease (s : State) (p k : Nat) : s.HeadroomOnly (s.tryDecrease p k) := by
  unfold State.tryDecrease
  extract_lets x vals cur w
  split
  · exact .refl s
  · split
    · exact (s.headroomOnly_setPort p _ (s.port p).computed (s.port p).short).trans (w.headroomOnly_checkShort p)
    · exact .refl s

theorem State.headroomOnly_forceHeadroom (s : State) (p : Nat) : s.HeadroomOnly (s.forceHeadroom p) :=
  (s.headroomOnly_setPort p _ _ (s.port p).short).trans (State.headroomOnly_checkShort _ p)

theorem State.HeadroomOnly.each {α : Type} {xs : List α} {f : State → α → State} (hf : ∀ (u : State) (a : α), u.HeadroomOnly (f u a)) (s : State) :
    s.HeadroomOnly (s.each xs f) := by
  induction xs generalizing s with
  | nil => exact .refl s
  | cons a xs ih => exact (hf s a).trans (ih (f s a))

theorem State.headroomOnly_recomputeHeadroom (s : State) (p : Nat) : s.HeadroomOnly (s.recomputeHeadroom p) := by
  unfold State.recomputeHeadroom
  extract_lets h y keep s1
  refine (s.headroomOnly_setPort p _ _ (s.port p).short).trans (State.HeadroomOnly.each (fun u k => ?_) _)
  extract_lets x hist cur u1 y1
  have h1 : u.HeadroomOnly u1 := u.headroomOnly_setPort p _ _ (u.port p).short
  split
  · exact (h1.trans (u1.headroomOnly_setPort p _ (u1.port p).computed (u1.port p).short)).trans (State.headroomOnly_checkShort _ p)
  · exact (h1.trans (u1.headroomOnly_tryDecrease p k)).trans (State.headroomOnly_checkShort _ p)

end

end Sys2Proof.Machine
end
section
/-! CLAIM. Cages, links and received frames act (04 R113 to R125, R131 to R139). -/

namespace Sys2Proof.Machine

/-! ### The port mode -/

section
variable (s : State)

theorem State.val_forgetAll (ps : List Nat) (i r k : Nat) (h : i % 65536 ≠ 0x3002) : (s.each ps State.forgetNegotiation).val i r k = s.val i r k :=
  s.val_each fun v p => by
    rw [State.val_forgetNegotiation, if_neg]
    exact fun e => h (objKey_inj.1 e).1.symm

theorem State.val_dropAnalysisPort (n i r k : Nat) (h : i % 65536 ≠ 0x2108) : (s.dropAnalysisPort n).val i r k = s.val i r k := by
  unfold State.dropAnalysisPort
  dsimp only
  split
  · have hk : objKey 0x2108 0 0 ≠ objKey i r k := fun e => h (objKey_inj.1 e).1.symm
    simp [hk]
  · rfl

theorem State.val_modeFigures (p i r k : Nat) (h : Dict.off i k = true) : (s.modeFigures p).val i r k = s.val i r k := by
  unfold State.modeFigures
  split
  · rw [State.val_of_objs (State.objs_checkOversubscribed ..) i r k h, State.val_of_objs (State.objs_recheckGate ..) i r k h,
      State.val_of_objs (State.objs_forceHeadroom ..) i r k h, State.val_of_objs (State.objs_rerate ..) i r k h]
  · rfl

/-- A port mode that is applied stands in the dictionary. -/
theorem val_applyPortMode {n : Nat} (v : Nat) (hn : n < 8) : (applyPortMode n v s).val 0x3000 0 (n + 1) = .nat v := by
  have hoff : Dict.off 0x3000 (n + 1) = true := by interval_cases n <;> rfl
  unfold applyPortMode
  extract_lets ps u1 u2 u3 u4
  have h2 : u2.val 0x3000 0 (n + 1) = .nat v := (State.val_keepVal ..).trans (if_pos rfl)
  have h3 : u3.val 0x3000 0 (n + 1) = .nat v := (u2.val_forgetAll ps _ _ _ (by decide)).trans h2
  have h4 : u4.val 0x3000 0 (n + 1) = .nat v := by
    refine ((u3.dropAnalysisPort n).val_each fun w p => w.val_modeFigures p _ _ _ hoff).trans ?_
    rw [State.val_dropAnalysisPort _ n _ _ _ (by decide), h3]
  unfold State.when
  split
  · rw [State.val_unreadablePower _ n _ _ _ hoff (by decide) fun h => absurd h (by decide), h4]
  · exact h4

end

/-! ### Cages -/

section
variable (s : State)

/-- Forgetting what was negotiated moves no cage. -/
theorem State.cage_forgetAll (ps : List Nat) (n : Nat) : (s.each ps State.forgetNegotiation).cage n = s.cage n := by
  induction ps generalizing s with
  | nil => rfl
  | cons p ps ih => exact (ih _).trans rfl

/-- A copper cable is told by the cage's class alone. -/
theorem State.classify_copper (n : Nat) :
    s.classify n .copper = ((s.setCage n { s.cage n with present := true, plug := .copper, retryAt := none }).each (cagePorts n)
      State.forgetNegotiation).put 0x3006 0 (n + 1) 1 := rfl

theorem State.cage_classify_copper (n : Nat) :
    (s.classify n .copper).cage n = { s.cage n with present := true, plug := .copper, retryAt := none } := by
  rw [State.classify_copper]
  exact (State.cage_forgetAll _ _ n).trans (by simp)

theorem State.sameBut_forgetAll {ks : List Nat} {d : Tbl Val} (ps : List Nat) (h : ∀ p ∈ ps, objKey 0x3002 p 0xC ∈ ks) :
    Tbl.SameBut ks d (s.each ps State.forgetNegotiation).dict.cur ↔ Tbl.SameBut ks d s.dict.cur := by
  induction ps generalizing s with
  | nil => rfl
  | cons p ps ih =>
    refine (ih (s.forgetNegotiation p) fun q hq => h q (List.mem_cons_of_mem _ hq)).trans ?_
    exact Tbl.sameBut_set _ (h p List.mem_cons_self)

/-- A cage that goes empty keeps what its presence line and its cable show. -/
theorem State.cage_emptyCage (n : Nat) : ((s.emptyCage n).cage n).level = (s.cage n).level ∧ ((s.emptyCage n).cage n).fitted = (s.cage n).fitted := by
  unfold State.emptyCage
  extract_lets c u1 u2
  have h2 : u2.cage n = { s.cage n with present := false, plug := .unreadable, retryAt := none, lowPower := true } :=
    (by simp [u1, c] : u1.cage n = _)
  have h3 : ∀ (w : State) (xs : List Nat), (w.each xs fun s p => if (s.port p).linkUp then s.declareDown p true else s).cage n = w.cage n := by
    intro w xs
    induction xs generalizing w with
    | nil => rfl
    | cons p xs ih =>
      refine (ih _).trans ?_
      dsimp only
      split
      · exact (w.declareDown_port p true).2 n
      · rfl
  rw [h3, State.cage_forgetAll, h2]
  exact ⟨rfl, rfl⟩

theorem State.val_emptyCage (n i r k : Nat) (h : Dict.off i k = true) (h2 : i % 65536 ≠ 0x3002) (h6 : i % 65536 ≠ 0x3006)
    (h0 : i % 65536 ≠ 0x3020) : (s.emptyCage n).val i r k = s.val i r k := by
  unfold State.emptyCage
  extract_lets c u1 u2
  refine (State.val_each _ fun v p => ?_).trans ((u2.val_forgetAll _ i r k h2).trans ?_)
  · split
    · exact v.val_declareDown_of p true i r k h h2 fun e => absurd e h0
    · rfl
  · exact (State.val_put ..).trans (if_neg fun e => h6 (objKey_inj.1 e).1.symm)

end

section
variable {s : State} {t n : Nat} (hp : s.railsOn) (h8 : n < 8)
include hp h8

theorem portMode_stored {sess v : Nat} (hw : (s.at t).mayWrite sess 0x3000 (n + 1) (.nat v) = true) :
    Done (.portModeWrite t sess n v) s fun u => u.ob 0x3000 (n + 1) = v ∧ u.answered sess 0 := by
  refine done_writeAs rfl (decide_eq_true h8) hp hw rfl fun u hu => ⟨?_, ?_⟩
  · have h := val_applyPortMode (s.at t) v h8
    simp [hu, State.ob_eq, State.o, h]
  · simp [hu, State.answered]

theorem cagePresence_followed :
    Done (.cagePresenceChange t n true .copper) s fun u =>
      (u.cage n).level = true ∧ (u.cage n).fitted = .copper ∧
      (u.inputFaulty 1 n = false → (u.cage n).present = true ∧ (u.cage n).retryAt = none ∧ u.ob 0x3006 (n + 1) = 1) := by
  obtain ⟨v, hv⟩ : ∃ v, v = ((s.at t).setCage n { s.cage n with level := true, fitted := .copper }).inputChange (cageLine n) 1 n 8 (60 * sNs) :=
    ⟨_, rfl⟩
  have hc : v.cage n = { s.cage n with level := true, fitted := .copper } := by
    have he : v.eth = ((s.at t).setCage n { s.cage n with level := true, fitted := .copper }).eth := by
      rw [hv]
      exact State.same_of_frame (State.frame_inputChange (ps := [.out, .dict, .sess, .ev, .rings, .land]) _ _ _ _ _ (by simp)) .eth
    rw [State.cage, he, ← State.cage]
    simp
  have hf : cagePresenceChange n true .copper (s.at t) =
      if v.inputFaulty 1 n then (if (v.cage n).present then v.emptyCage n else v) else v.classify n .copper := by
    rw [hv]
    rfl
  have hi : exec (.cagePresenceChange t n true .copper) s = actPin t (isCage n) s
      (fun u => u.setCage n { u.cage n with level := true, fitted := .copper }) (cagePresenceChange n true .copper) := rfl
  refine done_actPin hi (decide_eq_true h8) hp fun u hu => ?_
  rw [hf] at hu
  by_cases hi : v.inputFaulty 1 n = true
  · rw [if_pos hi] at hu
    have hui : u.inputFaulty 1 n = true := by
      have hv : ∀ k, u.val 0x5223 0 k = v.val 0x5223 0 k := fun k => by
        rw [hu]
        change (if (v.cage n).present then v.emptyCage n else v).val 0x5223 0 k = _
        split
        · exact v.val_emptyCage n _ _ _ rfl (by decide) (by decide) (by decide)
        · rfl
      rw [← hi, State.inputFaulty, State.ob_eq, State.o, hv]
      rfl
    obtain ⟨hl, hfit⟩ := v.cage_emptyCage n
    refine ⟨?_, ?_, fun h => absurd hui (by rw [h]; exact Bool.noConfusion)⟩
    · rw [hu]
      split <;> simp [hl, hc]
    · rw [hu]
      split <;> simp [hfit, hc]
  · rw [if_neg hi] at hu
    have hcage : u.cage n = (v.classify n .copper).cage n := by rw [hu]; rfl
    rw [hcage, v.cage_classify_copper n, hc]
    refine ⟨rfl, rfl, fun _ => ⟨rfl, rfl, ?_⟩⟩
    rw [hu, State.classify_copper]
    simp [State.ob_eq]

theorem cageReadRetry_reads {w : Nat} (hr : (s.cage n).retryAt = some w) (hw : w ≤ max s.now t) (hpr : (s.cage n).present = true) :
    Done (.cageReadRetry t n .copper) s fun u =>
      u.ob 0x3006 (n + 1) = 1 ∧ (u.cage n).retryAt = none ∧ (u.cage n).plug = .copper ∧
      s.otherObjects u (objKey 0x3006 0 (n + 1) :: (cagePorts n).map fun q => objKey 0x3002 q 0xC) ∧ u = { s.logged u with eth := u.eth } := by
  obtain ⟨v, hv⟩ : ∃ v, v = (s.at t).setCage n { s.cage n with fitted := .copper } := ⟨_, rfl⟩
  have hf : cageReadRetry n .copper (s.at t) = v.classify n .copper := by
    have hr' : ((s.at t).cage n).retryAt = some w := hr
    have hg : ¬ ((s.at t).now < w ∨ ((s.at t).cage n).present = false) := by
      rintro (h | h)
      · exact absurd h (not_lt.2 hw)
      · exact absurd (hpr.symm.trans h) (by decide)
    rw [hv]
    unfold cageReadRetry
    dsimp only
    have hm := hr'
    rw [hm]
    dsimp only
    rw [if_neg hg, if_neg (by decide), ← hr']
    rfl
  refine done_act rfl (decide_eq_true h8) hp fun u hu => ?_
  rw [hf] at hu
  have hcage : u.cage n = (v.classify n .copper).cage n := by rw [hu]; rfl
  rw [hcage, v.cage_classify_copper n]
  refine ⟨?_, rfl, rfl, ?_, ?_⟩
  · rw [hu, State.classify_copper]
    simp [State.ob_eq]
  · rw [hu, State.classify_copper, State.otherObjects_iff]
    refine (Tbl.sameBut_set _ (by simp)).2 ?_
    refine (State.sameBut_forgetAll _ (cagePorts n) fun p hp => ?_).2 ?_
    · exact List.mem_cons_of_mem _ (List.mem_map_of_mem hp)
    · rw [hv]
      exact Tbl.SameBut.refl _ _
  · refine State.Frame.eq (s := s) (ps := Part.logs ++ [.eth]) ?_
    rw [hu, State.classify_copper]
    refine State.frame_after t _ _ (by simp) (.inl rfl) (.inl rfl) (.inl rfl) ?_
    rw [State.frame_put, State.frame_each fun v p => State.frame_forgetNegotiation p (by simp), hv]
    · simp
    · simp

end

end Sys2Proof.Machine
end
section
/-! CLAIM. Links, received frames and pauses act (04 R119 to R125, R131 to R139). -/

namespace Sys2Proof.Machine

section
variable {s : State} {t p : Nat} (hp : s.railsOn) (h32 : p < 32)
include hp h32

/-! ### Links -/

theorem linkUp_comes (hx : s.portExists p = true) (hsi : s.silent = false) (hl : (s.port p).linkUp = false) (hst : (s.port p).stormsOff = false)
    (hfl : (s.port p).flapUntil = none) (hn : (s.port p).noCommon = false) (he : s.o 0x3001 p 2 = 1) (hc : s.cageAllows p = true) :
    Done (.linkUp t p) s fun u => (u.port p).linkUp = true := by
  obtain ⟨v, hv⟩ : ∃ v, v = (s.at t).setPort p { s.port p with linkUp := true } := ⟨_, rfl⟩
  have hg : ((s.at t).portExists p && !(s.at t).silent && !((s.at t).port p).linkUp && !((s.at t).port p).stormsOff &&
      ((s.at t).port p).flapUntil.isNone && !((s.at t).port p).noCommon && decide ((s.at t).o 0x3001 p 2 = 1) &&
      (s.at t).cageAllows p) = true := by
    rw [show (s.at t).portExists p = true from hx, show (s.at t).silent = false from hsi, show (s.at t).port p = s.port p from rfl, hl, hst,
      hfl, hn, show (s.at t).o 0x3001 p 2 = 1 from he, show (s.at t).cageAllows p = true from hc]
    rfl
  have hf : linkUp p (s.at t) = (if (s.port p).headroom.isEmpty then v.forceHeadroom p else v).nextFrame p := by
    rw [hv]
    exact if_pos hg
  have hvp : (v.port p).linkUp = true := by simp [hv]
  have hw : ((if (s.port p).headroom.isEmpty then v.forceHeadroom p else v).port p).linkUp = true := by
    split
    · obtain ⟨a, b, c, h⟩ := v.headroomOnly_forceHeadroom p p
      rw [h, hvp]
    · exact hvp
  obtain ⟨b, hb⟩ := ((if (s.port p).headroom.isEmpty then v.forceHeadroom p else v).ethKept_nextFrame p).1 p
  refine done_act rfl (decide_eq_true h32) hp fun u hu => ?_
  rw [hf] at hu
  rw [hu]
  exact (congrArg EthPort.linkUp hb).trans hw

theorem linkDown_counted {cause : LinkDownCause} (hx : s.portExists p = true) (hl : (s.port p).linkUp = true) :
    Done (.linkDown t p cause) s fun u =>
      (u.port p).linkUp = false ∧ u.o 0x3002 p 0xA = satAdd (s.o 0x3002 p 0xA) 1 := by
  have hf : linkDown p cause (s.at t) = (s.at t).declareDown p true :=
    if_pos (by rw [show (s.at t).portExists p = true from hx]; exact hl)
  obtain ⟨b, f, hb⟩ := ((s.at t).declareDown_port p true).1 p
  have hval := (s.at t).val_declareDown p true 0x3002 p 0xA rfl (by decide)
  have hlink : ((((s.at t).declareDown p true).port p)).linkUp = false := by rw [hb, if_pos rfl]; rfl
  generalize (s.at t).declareDown p true = v at hf hval hlink
  refine done_act rfl (decide_eq_true h32) hp fun u hu => ?_
  rw [hf] at hu
  refine ⟨by rw [hu]; exact hlink, ?_⟩
  rw [hu, State.o, show (s.after t v).val 0x3002 p 0xA = v.val 0x3002 p 0xA from rfl, hval, State.val_bump, if_pos rfl]
  rfl

theorem flapHold_ends {w : Nat} (hw : (s.port p).flapUntil = some w) (hd : w ≤ max s.now t) :
    Done (.flapHoldExpiry t p) s fun u => u = (s.at t).setPort p { s.port p with flapUntil := none } := by
  have hf : flapHoldExpiry p (s.at t) = (s.at t).setPort p { s.port p with flapUntil := none } := by
    unfold flapHoldExpiry
    rw [show ((s.at t).port p).flapUntil = some w from hw]
    exact if_pos hd
  refine done_act rfl (decide_eq_true h32) hp fun u hu => ?_
  rw [hu, hf]
  rfl

/-! ### Frames -/

omit hp h32 in
/-- Filtering a frame counts no good one, and a runt alone. -/
theorem State.o_filterFrame (f : Sys2Proof.Frame) :
    (∀ k, k = 2 ∨ k = 3 → (s.filterFrame p f).val 0x3003 p k = s.val 0x3003 p k) ∧
      (f.length < 64 → s.filterFrame p f = s.bump 0x3003 p 7) := by
  refine ⟨fun k hk => ?_, fun h => by rw [State.filterFrame, if_pos h]⟩
  have hbump : ∀ j, j % 256 ≠ 2 → j % 256 ≠ 3 → (s.bump 0x3003 p j).val 0x3003 p k = s.val 0x3003 p k := fun j h2 h3 => by
    rw [State.val_bump, if_neg]
    intro e
    have := (objKey_inj.1 e).2.2
    obtain rfl | rfl := hk <;> omega
  have hoff : Dict.off 0x3003 k = true := by obtain rfl | rfl := hk <;> rfl
  have hbuf : ∀ prio tr, (s.bufferFrame p prio tr).val 0x3003 p k = s.val 0x3003 p k := fun prio tr => by
    unfold State.bufferFrame
    split
    · exact State.val_of_objs (State.objs_checkXoff ..) _ _ _ hoff
    · split
      · exact (State.val_bump ..).trans (if_neg fun e => absurd (objKey_inj.1 e).1 (by decide))
      · split
        · exact (State.val_bump ..).trans (if_neg fun e => absurd (objKey_inj.1 e).1 (by decide))
        · rfl
  unfold State.filterFrame
  split
  · exact hbump 7 (by decide) (by decide)
  · split
    · rfl
    · split
      · exact hbump 9 (by decide) (by decide)
      · split
        · exact hbump 0xA (by decide) (by decide)
        · split
          · exact hbump 0xB (by decide) (by decide)
          · split
            · next r c hb =>
              have hc : c = 6 ∨ c = 8 := by
                unfold State.badReason at hb
                split_ifs at hb <;> simp_all
              split
              · obtain rfl | rfl := hc
                · exact hbump 6 (by decide) (by decide)
                · exact hbump 8 (by decide) (by decide)
              · exact hbuf _ _
            · split
              · rfl
              · exact hbuf _ _

theorem frameReceived_counted {f : Sys2Proof.Frame} (hx : s.portExists p = true) (hl : (s.port p).linkUp = true) :
    Done (.frameReceived t p f) s fun u =>
      u.o 0x3003 p 2 = satAdd (s.o 0x3003 p 2) 1 ∧ u.o 0x3003 p 3 = satAdd (s.o 0x3003 p 3) f.length ∧
      (f.length < 64 → u.o 0x3003 p 7 = satAdd (s.o 0x3003 p 7) 1) := by
  obtain ⟨v, hv⟩ : ∃ v, v = ((((s.at t).bump 0x3003 p 2).add 0x3003 p 3 f.length).add 0x3003 p 0xC f.fecCorrected).when (!f.fecOk)
      fun s => s.bump 0x3003 p 0xD := ⟨_, rfl⟩
  obtain ⟨w, hw⟩ : ∃ w, w = v.setPort p { v.port p with partnerMac := f.smac } := ⟨_, rfl⟩
  obtain ⟨b, hb⟩ : ∃ b, b = ((w.badReason p f).isSome && decide (128 < f.length)) := ⟨_, rfl⟩
  obtain ⟨x, hxx⟩ : ∃ x, x = (w.mirror false p f 0 0 b).sample false p f b := ⟨_, rfl⟩
  have hf : frameReceived p f (s.at t) = x.filterFrame p f := by
    rw [hxx, hb, hw, hv]
    refine if_pos ?_
    rw [show (s.at t).portExists p = true from hx]
    exact hl
  have hov : v.o 0x3003 p 2 = satAdd (s.o 0x3003 p 2) 1 ∧ v.o 0x3003 p 3 = satAdd (s.o 0x3003 p 3) f.length ∧
      v.o 0x3003 p 7 = s.o 0x3003 p 7 := by
    rw [hv]
    unfold State.when
    split <;> simp (decide := true) [objKey_inj] <;> exact ⟨rfl, rfl⟩
  have hox : ∀ k, Dict.off 0x3003 k = true → x.o 0x3003 p k = v.o 0x3003 p k := fun k hk => by
    rw [hxx, State.o_of_objs (State.objs_sample ..) _ _ _ hk, State.o_of_objs (State.objs_mirror ..) _ _ _ hk, hw]
    rfl
  obtain ⟨h23, h7⟩ := State.o_filterFrame (s := x) (p := p) f
  refine done_act rfl (decide_eq_true h32) hp fun u hu => ?_
  rw [hf] at hu
  have huo : ∀ k, u.o 0x3003 p k = (x.filterFrame p f).o 0x3003 p k := fun k => by rw [hu]; rfl
  refine ⟨?_, ?_, fun hlen => ?_⟩
  · rw [huo, State.o, h23 2 (.inl rfl), ← hov.1, ← hox 2 rfl]
    rfl
  · rw [huo, State.o, h23 3 (.inr rfl), ← hov.2.1, ← hox 3 rfl]
    rfl
  · rw [huo, h7 hlen, ← hov.2.2, ← hox 7 rfl]
    exact (State.o_bump ..).trans (if_pos rfl)

end

end Sys2Proof.Machine
end
section
/-! CLAIM. Pauses, refreshes and delays act (04 R124 to R139). -/

namespace Sys2Proof.Machine

/-! ### PFC frames -/

section
variable (s : State) (p : Nat)

theorem State.countPfc_reads {k : Nat} (hk : k < 8) {j : Nat} (hj : j < 8) :
    (s.countPfc p k).o 0x3004 p (2 + j) = (if k = j then satAdd (s.o 0x3004 p (2 + j)) 1 else s.o 0x3004 p (2 + j)) ∧
      ((s.countPfc p k).port p).pfcMac = (s.port p).pfcMac ∧ ((s.countPfc p k).port p).partnerMac = (s.port p).partnerMac := by
  have hkey : objKey 0x3004 p (2 + k) = objKey 0x3004 p (2 + j) ↔ k = j := by
    rw [objKey_inj]
    omega
  have ho : (s.bump 0x3004 p (2 + k)).o 0x3004 p (2 + j) =
      if k = j then satAdd (s.o 0x3004 p (2 + j)) 1 else s.o 0x3004 p (2 + j) := by
    rw [State.o_bump]
    by_cases h : k = j
    · subst h
      rw [if_pos rfl, if_pos rfl]
      interval_cases k <;> rfl
    · rw [if_neg (mt hkey.1 h), if_neg h]
  unfold State.countPfc
  extract_lets u y
  split
  · refine ⟨?_, by simp [y, u], by simp [y, u]⟩
    rw [← ho]
    have h : objKey 0x4051 p 5 ≠ objKey 0x3004 p (2 + j) := fun e => absurd (objKey_inj.1 e).1 (by decide)
    simp [u, h]
  · exact ⟨ho, rfl, rfl⟩

theorem State.each_countPfc {ks : List Nat} (hks : ∀ k ∈ ks, k < 8) (hn : ks.Nodup) :
    (∀ j < 8, (s.each ks (State.countPfc p)).o 0x3004 p (2 + j) =
      if j ∈ ks then satAdd (s.o 0x3004 p (2 + j)) 1 else s.o 0x3004 p (2 + j)) ∧
      ((s.each ks (State.countPfc p)).port p).pfcMac = (s.port p).pfcMac ∧
      ((s.each ks (State.countPfc p)).port p).partnerMac = (s.port p).partnerMac := by
  induction ks generalizing s with
  | nil => exact ⟨fun j _ => by simp [State.each], rfl, rfl⟩
  | cons k ks ih =>
    obtain ⟨hk, hks'⟩ := List.forall_mem_cons.1 hks
    obtain ⟨hnk, hn'⟩ := List.nodup_cons.1 hn
    obtain ⟨h1, h2, h3⟩ := ih (s.countPfc p k) hks' hn'
    have hc := fun j hj => State.countPfc_reads s p hk (j := j) hj
    refine ⟨fun j hj => (h1 j hj).trans ?_, h2.trans (hc 0 (by omega)).2.1, h3.trans (hc 0 (by omega)).2.2⟩
    rw [(hc j hj).1]
    by_cases hjk : k = j
    · subst hjk
      simp [hnk]
    · simp [hjk, Ne.symm hjk]

/-- What a pause does to a port's links' addresses: nothing. -/
theorem State.takePause_reads (q k : Nat) :
    ((s.takePause p q k).port p).pfcMac = (s.port p).pfcMac ∧ ((s.takePause p q k).port p).partnerMac = (s.port p).partnerMac := by
  unfold State.takePause
  split
  · extract_lets x dur since v
    split <;> simp [x]
  · exact ⟨rfl, rfl⟩

theorem State.objs_takePause {r : State} (q k : Nat) : r.Objs (s.takePause p q k) ↔ r.Objs s := by
  unfold State.takePause
  split
  · extract_lets x dur since v
    have hv : r.Objs v ↔ r.Objs s := by
      simp only [v]
      split
      · rfl
      · exact State.objs_pauseEnds p k
    split
    · exact (State.objs_setPort ..).trans (State.objs_pauseEnds p k)
    · exact (State.objs_setPort ..).trans hv
  · rfl

theorem State.each_takePause_reads (ks : List Nat) (q : Nat → Nat) :
    ((s.each ks fun s k => s.takePause p (q k) k).port p).pfcMac = (s.port p).pfcMac ∧
      ((s.each ks fun s k => s.takePause p (q k) k).port p).partnerMac = (s.port p).partnerMac := by
  induction ks generalizing s with
  | nil => exact ⟨rfl, rfl⟩
  | cons k ks ih =>
    obtain ⟨h1, h2⟩ := ih (s.takePause p (q k) k)
    obtain ⟨k1, k2⟩ := s.takePause_reads p (q k) k
    exact ⟨h1.trans k1, h2.trans k2⟩

end

section
variable {s : State} {t p : Nat} (hp : s.railsOn) (h32 : p < 32)
include hp h32

theorem pfcFrame_counted {smac en : Nat} {quanta : List Nat} (hx : s.portExists p = true) (hl : (s.port p).linkUp = true) :
    Done (.pfcFrameReceived t p smac en quanta) s fun u =>
      (u.port p).pfcMac = smac ∧ (u.port p).partnerMac = smac ∧
      ∀ k < 8, u.o 0x3004 p (2 + k) = if bit en k then satAdd (s.o 0x3004 p (2 + k)) 1 else s.o 0x3004 p (2 + k) := by
  obtain ⟨named, hnamed⟩ : ∃ ks, ks = (List.range 8).filter fun k => bit en k := ⟨_, rfl⟩
  obtain ⟨v, hv⟩ : ∃ v, v = (s.at t).setPort p { s.port p with pfcMac := smac, partnerMac := smac } := ⟨_, rfl⟩
  obtain ⟨w, hw⟩ : ∃ w, w = v.each named (State.countPfc p) := ⟨_, rfl⟩
  obtain ⟨x, hxx⟩ : ∃ x, x = if named.any fun k => !w.lossless p k then w.bump 0x3004 p 0xB else w := ⟨_, rfl⟩
  obtain ⟨y, hy⟩ : ∃ y, y = x.each named fun s k => s.takePause p (quanta.getD k 0) k := ⟨_, rfl⟩
  have hf : pfcFrameReceived p smac en quanta (s.at t) = y.nextFrame p := by
    rw [hy, hxx, hw, hv, hnamed]
    refine if_pos ?_
    rw [show (s.at t).portExists p = true from hx]
    exact hl
  have hmem : ∀ j, j ∈ named ↔ j < 8 ∧ bit en j = true := fun j => by simp [hnamed]
  obtain ⟨ho, hm, hm'⟩ := v.each_countPfc p (ks := named) (fun k hk => ((hmem k).1 hk).1)
    (hnamed ▸ List.nodup_range.filter _)
  rw [← hw] at ho hm hm'
  have hvp : (v.port p).pfcMac = smac ∧ (v.port p).partnerMac = smac := by simp [hv]
  have hxp : x.port p = w.port p := by
    rw [hxx]
    split <;> rfl
  have hxo : ∀ j < 8, x.o 0x3004 p (2 + j) = w.o 0x3004 p (2 + j) := fun j hj => by
    rw [hxx]
    split
    · refine (State.o_bump ..).trans (if_neg fun e => ?_)
      have := (objKey_inj.1 e).2.2
      omega
    · rfl
  obtain ⟨hy1, hy2⟩ := x.each_takePause_reads p named fun k => quanta.getD k 0
  rw [← hy] at hy1 hy2
  obtain ⟨b, hb⟩ := (y.ethKept_nextFrame p).1 p
  have hyo : ∀ j < 8, (y.nextFrame p).o 0x3004 p (2 + j) = x.o 0x3004 p (2 + j) := fun j hj => by
    have hoff : Dict.off 0x3004 (2 + j) = true := by interval_cases j <;> rfl
    rw [State.o_of_objs (State.objs_nextFrame ..) _ _ _ hoff, hy]
    exact State.o_of_objs (State.objs_each fun v k => v.objs_takePause p _ k) _ _ _ hoff
  refine done_act rfl (decide_eq_true h32) hp fun u hu => ?_
  rw [hf] at hu
  have hup : u.port p = (y.nextFrame p).port p := by rw [hu]; rfl
  refine ⟨?_, ?_, fun k hk => ?_⟩
  · rw [hup, hb]
    exact hy1.trans ((congrArg EthPort.pfcMac hxp).trans (hm.trans hvp.1))
  · rw [hup, hb]
    exact hy2.trans ((congrArg EthPort.partnerMac hxp).trans (hm'.trans hvp.2))
  · rw [show u.o 0x3004 p (2 + k) = (y.nextFrame p).o 0x3004 p (2 + k) by rw [hu]; rfl, hyo k hk, hxo k hk, ho k hk]
    have hvo : v.o 0x3004 p (2 + k) = s.o 0x3004 p (2 + k) := by rw [hv]; rfl
    simp only [hmem, hk, true_and, hvo]

theorem pauseFrame_counted (hx : s.portExists p = true) (hl : (s.port p).linkUp = true) :
    Done (.pauseFrameReceived t p) s fun u => u = (s.at t).bump 0x3004 p 0xC := by
  have hf : pauseFrameReceived p (s.at t) = (s.at t).bump 0x3004 p 0xC :=
    if_pos (by rw [show (s.at t).portExists p = true from hx]; exact hl)
  refine done_act rfl (decide_eq_true h32) hp fun u hu => ?_
  rw [hu, hf]
  rfl

theorem pfcPause_ends {k w : Nat} (h8 : k < 8) (hw : Tbl.find? (s.port p).pausedUntil k = some w) (hd : w ≤ max s.now t) :
    Done (.pfcPauseExpiry t p k) s fun u =>
      Tbl.find? (u.port p).pausedUntil k = none ∧ Tbl.find? (u.port p).pausedSince k = none := by
  obtain ⟨v, hv⟩ : ∃ v, v = ((s.at t).pauseEnds p k).setPort p { s.port p with
      pausedUntil := Tbl.erase (s.port p).pausedUntil k, pausedSince := Tbl.erase (s.port p).pausedSince k } := ⟨_, rfl⟩
  have hf : pfcPauseExpiry p k (s.at t) = v.nextFrame p := by
    rw [hv]
    unfold pfcPauseExpiry
    dsimp only
    rw [show Tbl.find? ((s.at t).port p).pausedUntil k = some w from hw]
    exact if_pos hd
  obtain ⟨b, hb⟩ := (v.ethKept_nextFrame p).1 p
  have hvp : v.port p = { s.port p with
      pausedUntil := Tbl.erase (s.port p).pausedUntil k, pausedSince := Tbl.erase (s.port p).pausedSince k } := by simp [hv]
  refine done_act rfl (by simp [isPort, isOctal, h32, h8]) hp fun u hu => ?_
  rw [hf] at hu
  rw [show u.port p = (v.nextFrame p).port p by rw [hu]; rfl, hb, hvp]
  exact ⟨by simp, by simp⟩

theorem pfcRefresh_sends {k t0 : Nat} (h8 : k < 8) (hx : Tbl.find? (s.port p).xoffSent k = some t0)
    (hd : t0 + 65535 * 256 / max 1 (s.rate p) ≤ max s.now t) (hb : s.lineBusy p) :
    Done (.pfcRefresh t p k) s fun u =>
      Tbl.find? (u.port p).xoffSent k = some (max s.now t) ∧ (u.eg p).pfcQ = (s.eg p).pfcQ ++ [(k, 0xFFFF)] ∧
      u = { s.logged u with eth := u.eth, sched := u.sched } := by
  obtain ⟨v, hv⟩ : ∃ v, v = (s.at t).setPort p { s.port p with xoffSent := Tbl.set (s.port p).xoffSent k (max s.now t) } := ⟨_, rfl⟩
  obtain ⟨w, hw⟩ : ∃ w, w = v.setEg p { s.eg p with pfcQ := (s.eg p).pfcQ ++ [(k, 0xFFFF)] } := ⟨_, rfl⟩
  have hvp : v.port p = { s.port p with xoffSent := Tbl.set (s.port p).xoffSent k (max s.now t) } := by simp [hv]
  have hve : v.eg p = s.eg p := by rw [hv]; rfl
  have hvup : v.portUp p = true := by
    have hst : v.portState p = s.portState p := by
      have : ∀ i k, v.ob i k = s.ob i k := fun i k => by rw [hv]; rfl
      have hfab : v.fab = s.fab := by rw [hv]; rfl
      simp only [State.portState, State.portExists, State.modeOf, State.flushing, hvp, this, hfab]
      rfl
    rw [State.portUp, hst]
    exact hb.1
  have hf : pfcRefresh p k (s.at t) = w.nextFrame p := by
    have hq : v.queuePfc p k 0xFFFF = w.nextFrame p := by
      rw [State.queuePfc, if_pos hvup, hw, hve]
    rw [← hq, hv]
    unfold pfcRefresh
    dsimp only
    rw [show Tbl.find? ((s.at t).port p).xoffSent k = some t0 from hx]
    exact if_pos (decide_eq_true hd)
  have hwb : w.lineBusy p := by
    rw [hw]
    exact ⟨hvup, by simpa using hb.2⟩
  obtain ⟨b, hbp⟩ := (w.ethKept_nextFrame p).1 p
  have hwp : w.port p = v.port p := by rw [hw]; rfl
  have hframe : s.Frame (Part.logs ++ [.eth, .sched]) w := by simp [hw, hv]
  refine done_act rfl (by simp [isPort, isOctal, h32, h8]) hp fun u hu => ?_
  rw [hf] at hu
  refine ⟨?_, ?_, State.Frame.eq (s := s) (ps := Part.logs ++ [.eth, .sched]) ?_⟩
  · rw [show u.port p = (w.nextFrame p).port p by rw [hu]; rfl, hbp, hwp, hvp]
    simp
  · rw [show u.eg p = (w.nextFrame p).eg p by rw [hu]; rfl, (State.nextFrame_busy_eg w p hwb p).2, hw]
    simp
  · rw [hu]
    exact State.frame_after t _ _ (by simp) (.inl rfl) (.inl rfl) (.inl rfl)
      ((State.frame_nextFrame_busy w p hwb (by simp)).2 hframe)

end

end Sys2Proof.Machine
end
section
/-! CLAIM. Delays, headroom and storms act, and the ports' commands with them (04 R124 to R142). -/

namespace Sys2Proof.Machine

section
variable {s : State} {t p : Nat} (hp : s.railsOn) (h32 : p < 32)
include hp h32

theorem pdelayReq_sent (hw : s.ctlWaits p) (hd : ∀ t0, (s.port p).delaySent = some t0 → t0 + s.ob 0x3021 1 * msNs ≤ max s.now t) :
    Done (.pdelayReqInterval t p) s fun u =>
      (u.port p).delayOutstanding = true ∧ (u.port p).delaySent = some (max s.now t) ∧
      (u.eg p).queues = (s.ctlEg t p 72 .pdelayReq).queues ∧ u = { s.logged u with eth := u.eth, sched := u.sched } := by
  obtain ⟨v, hv⟩ : ∃ v, v = if (s.port p).delayOutstanding then (s.at t).pushDelay p none else s.at t := ⟨_, rfl⟩
  obtain ⟨w, hwv⟩ : ∃ w, w = v.setPort p { v.port p with delayOutstanding := true, delaySent := some (max s.now t) } := ⟨_, rfl⟩
  have hvf : ∀ {r : State} {ps : List Part}, .out ∈ ps ∧ .sess ∈ ps ∧ .ev ∈ ps ∧ .rings ∈ ps ∧ .eth ∈ ps →
      (r.Frame ps v ↔ r.Frame ps (s.at t)) := fun {r ps} h => by
    rw [hv]
    split
    · exact State.frame_pushDelay p none h
    · rfl
  have hsame := fun q hq => State.same_of_frame (hvf (r := s.at t) (ps := [.out, .sess, .ev, .rings, .eth]) (by simp)) q hq
  have hnow : v.now = max s.now t := hsame .now (by simp)
  have hlink : (v.port p).SameLink (s.port p) := by
    rw [hv]
    split
    · obtain ⟨a, b, c, h⟩ := State.headroomOnly_recomputeHeadroom ((s.at t).setPort p { s.port p with
        delays := ((none : Option Int).isSome :: (s.port p).delays).take 16, kept := (s.port p).kept, delayOutstanding := false }) p p
      rw [show (s.at t).pushDelay p none = State.recomputeHeadroom ((s.at t).setPort p { s.port p with
        delays := ((none : Option Int).isSome :: (s.port p).delays).take 16, kept := (s.port p).kept, delayOutstanding := false }) p
        from rfl, h, State.port_setPort, if_pos rfl]
      exact ⟨rfl, rfl, rfl, rfl, rfl⟩
    · exact ⟨rfl, rfl, rfl, rfl, rfl⟩
  have hf : pdelayReqInterval p (s.at t) = w.enqueueCtl p 72 .pdelayReq := by
    have hdue : (match (s.port p).delaySent with
        | some t0 => dueAt (max s.now t) t0 (s.ob 0x3021 1 * msNs)
        | none => true) = true := by
      split
      · next t0 ht => exact decide_eq_true (hd t0 ht)
      · rfl
    have hup : (s.at t).portUp p = true := hw.1.1
    rw [hwv, ← hnow, hv]
    refine if_pos ?_
    rw [hup]
    exact hdue
  have hdict : w.dict = s.dict := by rw [hwv]; exact hsame .dict (by simp)
  have hweg : w.eg p = s.eg p := by
    have : v.sched = s.sched := hsame .sched (by simp)
    rw [hwv, State.eg, State.eg]
    exact congrArg (fun x : SchedState => Tbl.get {} x.eg p) this
  have hwp : w.port p = { v.port p with delayOutstanding := true, delaySent := some (max s.now t) } := by simp [hwv]
  have hww : w.ctlWaits p := State.ctlWaits_of hw hdict (by rw [hwv]; exact hsame .fab (by simp)) hweg (by rw [hwp]; exact hlink)
  have hcf : w.ctlFrame 72 .pdelayReq = (s.at t).ctlFrame 72 .pdelayReq := by
    have hob : ∀ i k, w.ob i k = s.ob i k := fun i k => by simp only [State.ob, State.o, State.val, hdict]
    have hn : w.now = (s.at t).now := by rw [hwv]; exact hnow
    simp only [State.ctlFrame, State.ctlHasIp, hob, hn]
    rfl
  obtain ⟨hq, hk⟩ := State.enqueueCtl_queues hww hweg hcf
  obtain ⟨b, hb⟩ := hk.1 p
  have hframe : s.Frame (Part.logs ++ [.eth, .sched]) w := by
    rw [hwv, State.frame_setPort _ _ (by simp), hvf (by simp)]
    simp
  refine done_act rfl (decide_eq_true h32) hp fun u hu => ?_
  rw [hf] at hu
  have hup : u.port p = (w.enqueueCtl p 72 .pdelayReq).port p := by rw [hu]; rfl
  refine ⟨by rw [hup, hb, hwp], by rw [hup, hb, hwp], by rw [← hq, hu]; rfl, State.Frame.eq (s := s) (ps := Part.logs ++ [.eth, .sched]) ?_⟩
  rw [hu]
  exact State.frame_after t _ _ (by simp) (.inl rfl) (.inl rfl) (.inl rfl) ((State.frame_enqueueCtl_waits hww (by simp)).2 hframe)

theorem pdelayReq_answered (hw : s.ctlWaits p) (h0 : s.ob 0x2108 0 ≠ p) :
    Done (.pdelayReqReceived t p) s fun u =>
      (u.eg p).queues = (s.ctlEg t p 72 .pdelayResp).queues ∧ u = { s.logged u with eth := u.eth, sched := u.sched } := by
  have hup : (s.at t).portUp p = true := hw.1.1
  refine done_enqueueCtl (f := pdelayReqReceived p) rfl (decide_eq_true h32) hp (if_pos ?_) hw
  rw [State.portServes, hup]
  exact decide_eq_true h0

theorem pdelayResp_taken {d : Int} (ho : (s.port p).delayOutstanding = true) (h0 : s.ob 0x2108 0 ≠ p) :
    Done (.pdelayRespReceived t p d) s fun u =>
      (u.port p).delayOutstanding = false ∧
      (u.port p).delays = (decide (0 ≤ d ∧ d ≤ 10000000) :: (s.port p).delays).take 16 ∧
      (u.port p).kept = (if 0 ≤ d ∧ d ≤ 10000000 then (d :: (s.port p).kept).take 16 else (s.port p).kept) ∧ u = { s.logged u with eth := u.eth } := by
  obtain ⟨x, hx⟩ : ∃ x : Option Int, x = if 0 ≤ d ∧ d ≤ 10000000 then some d else none := ⟨_, rfl⟩
  obtain ⟨v, hv⟩ : ∃ v, v = (s.at t).pushDelay p x := ⟨_, rfl⟩
  have hf : pdelayRespReceived p d (s.at t) =
      if v.ob 0x3020 4 = 2 ∧ v.ptpOn p = true then v.setVal 0x3020 0 9 (.real (v.linkDelay p)) else v := by
    rw [hv, hx]
    refine if_pos ?_
    rw [show ((s.at t).port p).delayOutstanding = true from ho]
    exact decide_eq_true h0
  have hvp : (v.port p).delayOutstanding = false ∧ (v.port p).delays = (x.isSome :: (s.port p).delays).take 16 ∧
      (v.port p).kept = if 0 ≤ d ∧ d ≤ 10000000 then (d :: (s.port p).kept).take 16 else (s.port p).kept := by
    obtain ⟨ks, hks⟩ : ∃ ks, ks = match x with | some d => (d :: (s.port p).kept).take 16 | none => (s.port p).kept := ⟨_, rfl⟩
    obtain ⟨w, hw⟩ : ∃ w, w = (s.at t).setPort p { s.port p with
        delays := (x.isSome :: (s.port p).delays).take 16, kept := ks, delayOutstanding := false } := ⟨_, rfl⟩
    have hvw : v = w.recomputeHeadroom p := by rw [hv, hw, hks]; rfl
    obtain ⟨a, b, c, h⟩ := w.headroomOnly_recomputeHeadroom p p
    have hwp : w.port p = { s.port p with delays := (x.isSome :: (s.port p).delays).take 16, kept := ks, delayOutstanding := false } := by
      simp [hw]
    rw [hvw, h, hwp]
    refine ⟨rfl, rfl, ?_⟩
    rw [hks, hx]
    split <;> rfl
  have hframe : s.Frame (Part.logs ++ [.eth]) v := by simp [hv]
  refine done_act rfl (decide_eq_true h32) hp fun u hu => ?_
  rw [hf] at hu
  have hup : u.port p = v.port p := by
    rw [hu]
    split <;> rfl
  rw [hup]
  refine ⟨hvp.1, ?_, hvp.2.2, State.Frame.eq (s := s) (ps := Part.logs ++ [.eth]) ?_⟩
  · rw [hvp.2.1, hx]
    split
    · next h => rw [decide_eq_true h]; rfl
    · next h => rw [decide_eq_false h]; rfl
  · rw [hu]
    refine State.frame_after t _ _ (by simp) (.inl rfl) (.inl rfl) (.inl rfl) ?_
    split <;> simpa using hframe

/-! ### Headroom and storms -/

theorem headroom_decreases {k : Nat} {vals : List Nat} (h8 : k < 8) (hk : s.lossless p k = true)
    (hvals : vals = (recentH (max s.now t) (Tbl.get [] (s.port p).computed k)).map Prod.snd) (hne : vals ≠ [])
    (hlt : ∀ v ∈ vals, v < s.headroomSet p k) (hh : s.occupied p k true = 0)
    (ho : s.occupied p k false < (s.setPort p { s.port p with headroom := Tbl.set (s.port p).headroom k (maxNat vals) }).xoff p) :
    Done (.headroomDecrease t p k) s fun u => u.headroomSet p k = maxNat vals ∧ u = { s.logged u with eth := u.eth } := by
  obtain ⟨v, hv⟩ : ∃ v, v = (s.at t).setPort p { s.port p with headroom := Tbl.set (s.port p).headroom k (maxNat vals) } := ⟨_, rfl⟩
  have hf : headroomDecrease p k (s.at t) = v.checkShort p := by
    have hl : (s.at t).lossless p k = true := hk
    have hc : ¬ (vals.isEmpty || !(vals.all fun v => decide (v < (s.at t).headroomSet p k))) = true := by
      simp only [Bool.or_eq_true, List.isEmpty_iff, Bool.not_eq_true', not_or]
      refine ⟨hne, ?_⟩
      simp only [Bool.not_eq_false, List.all_eq_true, decide_eq_true_eq]
      exact hlt
    unfold headroomDecrease
    rw [if_pos hl, hv, hvals]
    rw [hvals] at hc ho
    exact (if_neg hc).trans (if_pos ⟨hh, ho⟩)
  have hvh : v.headroomSet p k = maxNat vals := by simp [State.headroomSet, hv]
  have hvp : ((v.checkShort p).port p).headroom = (v.port p).headroom := by
    unfold State.checkShort
    extract_lets x now w
    split <;> simp [State.port, w, x]
  refine done_act rfl (by simp [isPort, isOctal, h32, h8]) hp fun u hu => ?_
  rw [hf] at hu
  refine ⟨?_, State.Frame.eq (s := s) (ps := Part.logs ++ [.eth]) ?_⟩
  · rw [State.headroomSet, show u.port p = (v.checkShort p).port p by rw [hu]; rfl, hvp]
    simp [hv]
  · rw [hu]
    exact State.frame_after t _ _ (by simp) (.inl rfl) (.inl rfl) (.inl rfl)
      ((State.frame_checkShort p (by simp)).2 (by simp [hv]))

theorem pauseRecovery_ends {k w : Nat} (h8 : k < 8) (hw : Tbl.find? (s.port p).stormUntil k = some w) (hd : w ≤ max s.now t) :
    Done (.pauseRecoveryEnd t p k) s fun u =>
      u = (s.at t).setPort p { s.port p with stormUntil := Tbl.erase (s.port p).stormUntil k } := by
  have hf : pauseRecoveryEnd p k (s.at t) = (s.at t).setPort p { s.port p with stormUntil := Tbl.erase (s.port p).stormUntil k } := by
    unfold pauseRecoveryEnd
    dsimp only
    rw [show Tbl.find? ((s.at t).port p).stormUntil k = some w from hw]
    exact if_pos hd
  refine done_act rfl (by simp [isPort, isOctal, h32, h8]) hp fun u hu => ?_
  rw [hu, hf]
  rfl

theorem pauseStorm_ignored {k t0 w : Nat} (h8 : k < 8) (hs : Tbl.find? (s.port p).pausedSince k = some t0)
    (hu : Tbl.find? (s.port p).pausedUntil k = some w) (hl : s.lossless p k = true)
    (hd : t0 + s.o 0x3001 p 0xC * msNs + (512 + s.rate p - 1) / max 1 (s.rate p) ≤ max s.now t) (hw : t0 + s.o 0x3001 p 0xC * msNs ≤ w) :
    Done (.pauseStorm t p k) s fun u =>
      Tbl.find? (u.port p).pausedUntil k = none ∧
      Tbl.find? (u.port p).stormUntil k = some (max s.now t + s.o 0x3001 p 0xD * msNs) ∧
      u.o 0x3004 p 0xD = satAdd (s.o 0x3004 p 0xD) 1 := by
  obtain ⟨times, htimes⟩ : ∃ ts, ts = within (max s.now t) (3600 * sNs) (max s.now t :: (s.port p).stormTimes) := ⟨_, rfl⟩
  obtain ⟨x, hx⟩ : ∃ x : EthPort, x = { s.port p with
    pausedUntil := Tbl.erase (s.port p).pausedUntil k, pausedSince := Tbl.erase (s.port p).pausedSince k
    stormUntil := Tbl.set (s.port p).stormUntil k (max s.now t + s.o 0x3001 p 0xD * msNs), stormTimes := times } := ⟨_, rfl⟩
  obtain ⟨v, hv⟩ : ∃ v, v = (((s.at t).pauseEnds p k).setPort p x).discardPrio p k := ⟨_, rfl⟩
  obtain ⟨y, hy⟩ : ∃ y, y = ((v.bump 0x3004 p 0xD).partnerViolation p 0x30040D (s.port p).pfcMac).raise .pauseStorm [p, k] := ⟨_, rfl⟩
  have hf : pauseStorm p k (s.at t) =
      if y.o 0x3001 p 0xE ≠ 0 ∧ y.o 0x3001 p 0xE < times.length then
        (y.setPort p { y.port p with stormsOff := true }).declareDown p true else y.nextFrame p := by
    rw [hy, hv, hx, htimes]
    unfold pauseStorm
    dsimp only
    rw [show Tbl.find? ((s.at t).port p).pausedSince k = some t0 from hs, show Tbl.find? ((s.at t).port p).pausedUntil k = some w from hu]
    refine if_pos ?_
    rw [show (s.at t).lossless p k = true from hl, Bool.true_and, Bool.and_eq_true]
    exact ⟨decide_eq_true (by rw [← Nat.add_assoc]; exact hd), decide_eq_true hw⟩
  have hvo : v.o 0x3004 p 0xD = s.o 0x3004 p 0xD := by
    rw [hv, State.o_of_objs (State.objs_discardPrio ..) 0x3004 p 0xD]
    exact State.o_of_objs (State.objs_pauseEnds ..) 0x3004 p 0xD
  have hyo : y.o 0x3004 p 0xD = satAdd (s.o 0x3004 p 0xD) 1 := by
    rw [hy, ← hvo, State.o_of_objs (State.objs_raise ..) 0x3004 p 0xD, State.o_of_objs (State.objs_partnerViolation ..) 0x3004 p 0xD]
    exact (State.o_bump ..).trans (if_pos rfl)
  have hvp : v.port p = x := by
    rw [hv, State.port, State.same_of_frame (State.frame_discardPrio (ps := [.dict, .sched]) p k (by simp)) .eth, ← State.port]
    simp
  have hyp : y.port p = x := by
    have he : y.eth = v.eth := by
      rw [hy, State.same_of_frame (State.frame_raise (ps := [.out, .sess, .ev, .rings]) _ _ (by simp)) .eth]
      rfl
    rw [State.port, he, ← State.port, hvp]
  have hxp : Tbl.find? x.pausedUntil k = none ∧ Tbl.find? x.stormUntil k = some (max s.now t + s.o 0x3001 p 0xD * msNs) := by simp [hx]
  refine done_act rfl (by simp [isPort, isOctal, h32, h8]) hp fun u hu => ?_
  rw [hf] at hu
  by_cases hc : y.o 0x3001 p 0xE ≠ 0 ∧ y.o 0x3001 p 0xE < times.length
  · rw [if_pos hc] at hu
    obtain ⟨z, hz⟩ : ∃ z, z = y.setPort p { y.port p with stormsOff := true } := ⟨_, rfl⟩
    rw [← hz] at hu
    have hzp : z.port p = { x with stormsOff := true } := by simp [hz, hyp]
    obtain ⟨b, f, hb⟩ := (z.declareDown_port p true).1 p
    have hval := z.val_declareDown_of p true 0x3004 p 0xD rfl (by decide) (by decide)
    generalize z.declareDown p true = r at hu hb hval
    have hup : u.port p = r.port p := by rw [hu]; rfl
    rw [hup, hb, if_pos rfl, hzp]
    refine ⟨rfl, hxp.2, ?_⟩
    rw [← hyo, show u.o 0x3004 p 0xD = (r.val 0x3004 p 0xD).toNat by rw [hu]; rfl, hval, hz]
    rfl
  · rw [if_neg hc] at hu
    obtain ⟨b, hb⟩ := (y.ethKept_nextFrame p).1 p
    rw [show u.port p = (y.nextFrame p).port p by rw [hu]; rfl, hb, hyp]
    refine ⟨hxp.1, hxp.2, ?_⟩
    have hno := State.o_of_objs (State.objs_nextFrame (s := y) (u := y) p) 0x3004 p 0xD
    rw [← hyo, ← hno, hu]
    rfl

end

/-- Settles O17. -/
theorem ethernetPortActs : Obligations.EthernetPortActs := by
  intro s t p hp h32
  exact ⟨fun sess n v h8 hw => portMode_stored hp h8 hw, fun n h8 => cagePresence_followed hp h8,
    fun n w h8 hr hw hpr => cageReadRetry_reads hp h8 hr hw hpr,
    fun hx hsi hl hst hfl hn he hc => linkUp_comes hp h32 hx hsi hl hst hfl hn he hc,
    fun cause hx hl => linkDown_counted hp h32 hx hl, fun w hw hd => flapHold_ends hp h32 hw hd,
    fun f hx hl => frameReceived_counted hp h32 hx hl, fun smac en quanta hx hl => pfcFrame_counted hp h32 hx hl,
    fun hx hl => pauseFrame_counted hp h32 hx hl, fun k w h8 hw hd => pfcPause_ends hp h32 h8 hw hd,
    fun k t0 h8 hx hd hb => pfcRefresh_sends hp h32 h8 hx hd hb, fun hw hd => pdelayReq_sent hp h32 hw hd,
    fun hw h0 => pdelayReq_answered hp h32 hw h0, fun d ho h0 => pdelayResp_taken hp h32 ho h0,
    fun k vals h8 hk hv hne hlt hh ho => headroom_decreases hp h32 h8 hk hv hne hlt hh ho,
    fun k t0 w h8 hs hu hl hd hw => pauseStorm_ignored hp h32 h8 hs hu hl hd hw,
    fun k w h8 hw hd => pauseRecovery_ends hp h32 h8 hw hd⟩

end Sys2Proof.Machine
end

section
/-! CLAIM. PTP follows its master, fails over and returns (04 R140 to R150). -/

namespace Sys2Proof.Machine

/-! ### What an offset changes -/

section
variable (s : State)

/-- Closing a page writes the ledger's objects alone. -/
theorem State.val_closePage (a b : Int) (m n i r k : Nat) (h : i % 65536 ≠ 0x4100) : (s.closePage a b m n).val i r k = s.val i r k := by
  have hk : ∀ j, objKey 0x4100 0 j ≠ objKey i r k := fun j e => h (objKey_inj.1 e).1.symm
  unfold State.closePage
  dsimp only
  split
  · rfl
  · split
    · simp [hk]
    · simp [hk]

theorem State.val_closeDue (a : Int) (i r k : Nat) (h : i % 65536 ≠ 0x4100) : (s.closeDue a).val i r k = s.val i r k := by
  refine s.val_each fun v _ => ?_
  split
  · exact v.val_closePage _ _ _ _ i r k h
  · rfl

theorem State.val_correctClock (off : Int) (i r k : Nat) (hw : Dict.off i k = true) (h : i % 65536 ≠ 0x4100) :
    (s.correctClock off).val i r k = s.val i r k := by
  unfold State.correctClock
  extract_lets shown rate before v
  split
  · rfl
  · rw [State.val_of_objs (State.objs_syncGates ..) i r k hw, State.stepPages, State.val_closePage _ _ _ _ _ i r k h,
      State.val_closeDue _ _ i r k h, State.val_of_objs (State.objs_raise ..) i r k hw]
    rfl

/-- An offset is shown, ends a holdover, and is waited for no longer. -/
theorem State.takeOffset_reads (off : Int) :
    (s.takeOffset off).val 0x3020 0 8 = .int (max (-2147483648) (min 2147483647 off)) ∧ (s.takeOffset off).ptp.pendingSync = false ∧
      (s.takeOffset off).ptp.holdoverSince = none := by
  unfold State.takeOffset
  extract_lets good u v
  have hp : ∀ (w : State) (x : Nat), (w.setTimeStatus x).ptp = w.ptp := fun w x =>
    State.same_of_frame (State.frame_setTimeStatus (ps := [.free, .out, .dict, .sess, .ev, .rings, .fab, .eth, .rdma, .nvme, .sched,
      .meter]) x (by simp)) .ptp
  refine ⟨?_, by rw [hp], by rw [hp]⟩
  rw [State.val_setTimeStatus _ _ 0x3020 0 8 rfl (by decide)]
  exact (State.val_correctClock _ off 0x3020 0 8 rfl (by decide)).trans ((State.val_setVal ..).trans (if_pos rfl))

end

section
variable {s : State} {t p : Nat} (hp : s.railsOn)
include hp

theorem ptpAnnounce_followed (h32 : p < 32) {a : Announce} (hon : s.ptpOn p = true) (hh : s.ptpHears p a.domain = true) :
    Done (.ptpAnnounceReceived t p a) s fun u =>
      (Tbl.find? u.ptp.foreign a.sender).map Foreign.ann = some a ∧ u.ptp.lastAnnounce = some (max s.now t) ∧
      u.ptp.best = (((s.ptp.hear (max s.now t) a).chosen (max s.now t)).orElse fun _ => s.ptp.best) ∧
      (∀ b, (s.ptp.hear (max s.now t) a).chosen (max s.now t) = some b →
        u.ptp.utc = b.utcOffset ∧ u.val 0x3020 0 0xA = .oct 8 (b.grandmaster % 2 ^ 64)) ∧
      s.otherObjects u [objKey 0x3020 0 0xA] ∧ u = { s.logged u with ptp := u.ptp } := by
  obtain ⟨q, hq⟩ : ∃ q, q = s.ptp.hear (max s.now t) a := ⟨_, rfl⟩
  have hf : ptpAnnounceReceived p a (s.at t) = ({ s.at t with ptp := q } : State).followBest := by
    unfold ptpAnnounceReceived
    rw [if_neg (by rw [show (s.at t).ptpHears p a.domain = true from hh]; exact Bool.noConfusion),
      if_pos (show (s.at t).ptpOn p = true from hon), hq]
    rfl
  have hqf : (Tbl.find? q.foreign a.sender).map Foreign.ann = some a := by
    rw [hq]
    simp [PtpState.hear]
  have hql : q.lastAnnounce = some (max s.now t) := by rw [hq]; rfl
  have hqb : q.best = s.ptp.best := by rw [hq]; rfl
  rw [← hq]
  refine done_act rfl (decide_eq_true h32) hp fun u hu => ?_
  rw [hf] at hu
  cases hc : q.chosen (max s.now t) with
  | none =>
    have hb : ({ s.at t with ptp := q } : State).followBest = { s.at t with ptp := q } := by
      unfold State.followBest
      rw [show ({ s.at t with ptp := q } : State).ptp.chosen ({ s.at t with ptp := q } : State).now = none from hc]
    rw [hb] at hu
    refine ⟨by simp [hu, hqf], by simp [hu, hql], by simp [hu, hqb], by simp, by simp [hu, State.otherObjects_iff],
      State.Frame.eq (s := s) (ps := Part.logs ++ [.ptp]) (by simp [hu])⟩
  | some b =>
    have hb : ({ s.at t with ptp := q } : State).followBest =
        ({ s.at t with ptp := { q with best := some b, utc := b.utcOffset } } : State).setVal 0x3020 0 0xA (.oct 8 (b.grandmaster % 2 ^ 64)) := by
      unfold State.followBest
      rw [show ({ s.at t with ptp := q } : State).ptp.chosen ({ s.at t with ptp := q } : State).now = some b from hc]
    rw [hb] at hu
    refine ⟨by simp [hu, hqf], by simp [hu, hql], by simp [hu], fun c hc' => ?_, by simp [hu, State.otherObjects_iff],
      State.Frame.eq (s := s) (ps := Part.logs ++ [.ptp]) (by simp [hu])⟩
    obtain rfl : b = c := Option.some.inj hc'
    simp [hu]

theorem ptpSync_taken (h32 : p < 32) {domain sender : Nat} {off : Int} (hm : s.fromMaster p domain sender = true) :
    (Done (.ptpSyncReceived t p ⟨domain, sender, off⟩ true) s fun u =>
        u = { s.at t with ptp := { s.ptp with pendingSync := true } }) ∧
      (Done (.ptpSyncReceived t p ⟨domain, sender, off⟩ false) s fun u =>
        u.val 0x3020 0 8 = .int (max (-2147483648) (min 2147483647 off)) ∧ u.ptp.pendingSync = false ∧ u.ptp.holdoverSince = none) ∧
      (s.ptp.pendingSync = true → Done (.ptpFollowUpReceived t p ⟨domain, sender, off⟩) s fun u =>
        u.val 0x3020 0 8 = .int (max (-2147483648) (min 2147483647 off)) ∧ u.ptp.pendingSync = false) := by
  have hm' : (s.at t).fromMaster p domain sender = true := hm
  obtain ⟨h8, hps, hh⟩ := (s.at t).takeOffset_reads off
  refine ⟨?_, ?_, fun hpend => ?_⟩
  · refine done_act (f := ptpSyncReceived p domain sender off true) rfl (decide_eq_true h32) hp fun u hu => ?_
    rw [hu, show ptpSyncReceived p domain sender off true (s.at t) = _ from if_pos hm']
    rfl
  · have hf : ptpSyncReceived p domain sender off false (s.at t) = (s.at t).takeOffset off := if_pos hm'
    generalize (s.at t).takeOffset off = v at h8 hps hh hf
    refine done_act (f := ptpSyncReceived p domain sender off false) rfl (decide_eq_true h32) hp fun u hu => ?_
    rw [hu, hf]
    exact ⟨h8, hps, hh⟩
  · have hf : ptpFollowUpReceived p domain sender off (s.at t) = (s.at t).takeOffset off :=
      if_pos (by rw [hm']; exact hpend)
    generalize (s.at t).takeOffset off = v at h8 hps hh hf
    refine done_act (f := ptpFollowUpReceived p domain sender off) rfl (decide_eq_true h32) hp fun u hu => ?_
    rw [hu, hf]
    exact ⟨h8, hps⟩

theorem ptpDelayReq_sent (h4 : s.ob 0x3020 4 = 1) (hon : s.ptpOn s.ptpPort = true) (hb : s.ptp.best.isSome = true) (hw : s.ctlWaits s.ptpPort) :
    Done (.ptpDelayReqSend t) s fun u =>
      u.ptp = { s.ptp with delayReqOut := true } ∧
      (u.eg s.ptpPort).queues = (s.ctlEg t s.ptpPort (delayReqLen (s.ob 0x3020 5)) .delayReq).queues ∧
      u = { s.logged u with ptp := u.ptp, eth := u.eth, sched := u.sched } := by
  obtain ⟨v, hv⟩ : ∃ v : State, v = { s.at t with ptp := { s.ptp with delayReqOut := true } } := ⟨_, rfl⟩
  have hf : ptpDelayReqSend (s.at t) = v.enqueueCtl s.ptpPort (delayReqLen (s.ob 0x3020 5)) .delayReq := by
    rw [hv]
    exact if_pos ⟨h4, hon, hb⟩
  have hw' : v.ctlWaits s.ptpPort := by rw [hv]; exact hw
  obtain ⟨hq, -⟩ := State.enqueueCtl_queues (s := s) (t := t) (len := delayReqLen (s.ob 0x3020 5)) (c := .delayReq) hw' (by rw [hv]; rfl)
    (by rw [hv]; rfl)
  have hframe : ∀ {r : State} {ps : List Part}, .out ∈ ps ∧ .dict ∈ ps ∧ .eth ∈ ps ∧ .sched ∈ ps →
      (r.Frame ps (v.enqueueCtl s.ptpPort (delayReqLen (s.ob 0x3020 5)) .delayReq) ↔ r.Frame ps v) :=
    fun h => State.frame_enqueueCtl_waits hw' h
  have hptp : (v.enqueueCtl s.ptpPort (delayReqLen (s.ob 0x3020 5)) .delayReq).ptp = v.ptp :=
    State.same_of_frame (hframe (r := v) (ps := [.out, .dict, .eth, .sched]) (by simp)) .ptp
  generalize v.enqueueCtl s.ptpPort (delayReqLen (s.ob 0x3020 5)) .delayReq = w at hf hq hframe hptp
  refine done_act rfl rfl hp fun u hu => ?_
  rw [hf] at hu
  refine ⟨?_, by rw [← hq, hu]; rfl, State.Frame.eq (s := s) (ps := Part.logs ++ [.ptp, .eth, .sched]) ?_⟩
  · rw [show u.ptp = w.ptp by rw [hu]; rfl, hptp, hv]
  · rw [hu]
    refine State.frame_after t _ _ (by simp) (.inl rfl) (.inl rfl) (.inl rfl) ((hframe (by simp)).2 ?_)
    rw [hv]
    simp

theorem ptpDelayResp_taken (h32 : p < 32) {domain sender : Nat} {d : Int} (hm : s.fromMaster p domain sender = true)
    (ho : s.ptp.delayReqOut = true) :
    Done (.ptpDelayRespReceived t p ⟨domain, sender, d⟩) s fun u =>
      u = { s.at t with ptp := { s.ptp with delayReqOut := false } }.setVal 0x3020 0 9 (.real (d : Rat)) := by
  have hf : ptpDelayRespReceived p domain sender d (s.at t) =
      ({ s.at t with ptp := { s.ptp with delayReqOut := false } } : State).setVal 0x3020 0 9 (.real (d : Rat)) :=
    if_pos (by rw [show (s.at t).fromMaster p domain sender = true from hm]; exact ho)
  refine done_act (f := ptpDelayRespReceived p domain sender d) rfl (decide_eq_true h32) hp fun u hu => ?_
  rw [hu, hf]
  rfl

/-! ### Failover, return and holdover -/

theorem ptpAnnounce_missed (hd : s.ptp.lastAnnounce.getD s.ptp.listenFrom + 3 * s.ptp.announceNs ≤ max s.now t) (h1 : s.ob 0x3020 1 = 1)
    (hs : s.ptp.standby = false) (h3 : s.ob 0x3020 3 ≠ 0xFF) (hus : s.ptpUsable (s.ob 0x3020 3) = true) :
    Done (.ptpAnnounceTimeout t) s fun u =>
      u.ptp.standby = true ∧ u.ptp.best = none ∧ s.otherObjects u [] ∧ u = { s.logged u with ptp := u.ptp } := by
  have hf : ptpAnnounceTimeout (s.at t) =
      { s.at t with ptp := { s.ptp.listen (max s.now t) with standby := true, primaryGoodSince := none, primaryLast := none } } := by
    have hdue : (dueAt (s.at t).now ((s.at t).ptp.lastAnnounce.getD (s.at t).ptp.listenFrom) (3 * (s.at t).ptp.announceNs) &&
        decide ((s.at t).ob 0x3020 1 = 1)) = true := by
      rw [Bool.and_eq_true]
      exact ⟨decide_eq_true hd, decide_eq_true h1⟩
    refine (if_pos hdue).trans (if_pos ?_)
    rw [show (s.at t).ptp.standby = false from hs, show (s.at t).ptpUsable ((s.at t).ob 0x3020 3) = true from hus,
      show decide ((s.at t).ob 0x3020 3 ≠ 0xFF) = true from decide_eq_true h3]
    rfl
  refine done_act rfl rfl hp fun u hu => ?_
  rw [hf] at hu
  exact ⟨by simp [hu], by simp [hu, PtpState.listen], by simp [hu, State.otherObjects_iff],
    State.Frame.eq (s := s) (ps := Part.logs ++ [.ptp]) (by simp [hu])⟩

theorem ptpPort_returns {g : Nat} {l : Nat × Nat} (hg : s.ptp.primaryGoodSince = some g) (hl : s.ptp.primaryLast = some l)
    (hs : s.ptp.standby = true) (hus : s.ptpUsable (s.ob 0x3020 2) = true) (hd : g + 10 * sNs ≤ max s.now t)
    (ho : max s.now t < l.1 + 3 * l.2) :
    Done (.ptpPortReturn t) s fun u =>
      u.ptp.standby = false ∧ u.ptp.best = none ∧ u.ptp.primaryGoodSince = none ∧ s.otherObjects u [] ∧ u = { s.logged u with ptp := u.ptp } := by
  have hf : ptpPortReturn (s.at t) =
      { s.at t with ptp := { s.ptp.listen (max s.now t) with standby := false, primaryGoodSince := none, primaryLast := none } } := by
    unfold ptpPortReturn
    rw [show (s.at t).ptp.primaryGoodSince = some g from hg, show (s.at t).ptp.primaryLast = some l from hl]
    refine if_pos ?_
    rw [show (s.at t).ptp.standby = true from hs, show (s.at t).ptpUsable ((s.at t).ob 0x3020 2) = true from hus,
      show dueAt (s.at t).now g (10 * sNs) = true from decide_eq_true hd]
    exact decide_eq_true ho
  refine done_act rfl rfl hp fun u hu => ?_
  rw [hf] at hu
  exact ⟨by simp [hu], by simp [hu, PtpState.listen], by simp [hu], by simp [hu, State.otherObjects_iff],
    State.Frame.eq (s := s) (ps := Part.logs ++ [.ptp]) (by simp [hu])⟩

theorem holdover_runsOut {h : Nat} (hh : s.ptp.holdoverSince = some h) (h7 : s.ob 0x3020 7 = 3)
    (hd : h + s.ob 0x3020 0xC * sNs ≤ max s.now t) : Done (.holdoverLimitExpiry t) s fun u => u.ob 0x3020 7 = 4 := by
  have hf : holdoverLimitExpiry (s.at t) = (s.at t).setTimeStatus 4 := by
    have hc : (decide ((s.at t).ob 0x3020 7 = 3) && dueAt (s.at t).now h ((s.at t).ob 0x3020 0xC * sNs)) = true := by
      rw [Bool.and_eq_true]
      exact ⟨decide_eq_true h7, decide_eq_true hd⟩
    unfold holdoverLimitExpiry
    rw [show (s.at t).ptp.holdoverSince = some h from hh]
    dsimp only
    rw [if_pos hc]
  have hv := (s.at t).o_setTimeStatus 4
  generalize (s.at t).setTimeStatus 4 = v at hf hv
  refine done_act rfl rfl hp fun u hu => ?_
  rw [hu, hf]
  exact hv

end

/-- Settles O19. -/
theorem ptpActs : Obligations.PtpActs := by
  intro s t p hp h32
  exact ⟨fun a hon hh => ptpAnnounce_followed hp h32 hon hh, fun d f off hm => (ptpSync_taken hp h32 hm).1,
    fun d f off hm => (ptpSync_taken hp h32 hm).2.1, fun d f off hm => (ptpSync_taken hp h32 hm).2.2,
    fun h4 hon hb hw => ptpDelayReq_sent hp h4 hon hb hw, fun d f off hm ho => ptpDelayResp_taken hp h32 hm ho,
    fun hd h1 hs h3 hus => ptpAnnounce_missed hp hd h1 hs h3 hus, fun g l hg hl hs hus hd ho => ptpPort_returns hp hg hl hs hus hd ho,
    fun h hh h7 hd => holdover_runsOut hp hh h7 hd⟩

end Sys2Proof.Machine
end

section
/-! CLAIM. Queue pairs are taken down and freed, contexts are parked and fetched, rows of 3101h are committed (05 R154 to R166, R179 to R190). -/

namespace Sys2Proof.Machine

theorem State.freeQp_reads (s : State) (i : Nat) :
    Tbl.find? (s.freeQp i).rdma.qps i = none ∧ Tbl.find? (s.freeQp i).rdma.gens i = some (s.qp i).gen ∧
      Tbl.SameBut [objKey 0x3101 i 5, objKey 0x3101 i 0x28] s.dict.cur (s.freeQp i).dict.cur := by
  refine ⟨by simp [State.freeQp], by simp [State.freeQp], fun k hk => ?_⟩
  simp only [List.mem_cons, List.not_mem_nil, or_false, not_or] at hk
  simp [State.freeQp, Ne.symm hk.1, Ne.symm hk.2]

section
variable {s : State} {t i : Nat} (hp : s.railsOn)
include hp

/-! ### Disconnects -/

theorem cmRej_frees {qpn : Nat} (hq : isQpn qpn = true) (hi : s.qpnIndex qpn = some i) (h1 : (s.qp i).state = 1) :
    Done (.cmRej t qpn) s fun u =>
      Tbl.find? u.rdma.qps i = none ∧ Tbl.find? u.rdma.gens i = some (s.qp i).gen ∧
      s.otherObjects u [objKey 0x3101 i 5, objKey 0x3101 i 0x28] ∧ u = { s.logged u with rdma := u.rdma } := by
  have hf : cmRej qpn (s.at t) = (s.at t).freeQp i := by
    unfold cmRej
    rw [show (s.at t).qpnIndex qpn = some i from hi]
    exact if_pos h1
  obtain ⟨hn, hg, ho⟩ := State.freeQp_reads (s.at t) i
  refine done_act rfl hq hp fun u hu => ?_
  rw [hf] at hu
  exact ⟨by rw [hu]; exact hn, by rw [hu]; exact hg, by rw [hu]; exact ho,
    State.Frame.eq (s := s) (ps := Part.logs ++ [.rdma, .qpGens]) (by simp [hu])⟩

theorem cmDreq_ends {qpn : Nat} (hq : isQpn qpn = true) (hi : s.qpnIndex qpn = some i) (h : (s.qp i).state = 1 ∨ (s.qp i).state = 2) :
    Done (.cmDreq t qpn) s fun u =>
      (u.qp i).state = 4 ∧ (u.qp i).sendQ = [] ∧ (u.qp i).freeAt = some (max s.now t + 4 * s.ackTimeout) := by
  have hf : cmDreq qpn (s.at t) = ((s.at t).qpFail i 8 0 0 true).qpGone i := by
    unfold cmDreq
    rw [show (s.at t).qpnIndex qpn = some i from hi]
    exact if_pos h
  obtain ⟨a, b, c, d, e, hw⟩ := (s.at t).qpFail_qpGone 8 0 0 true h
  generalize ((s.at t).qpFail i 8 0 0 true).qpGone i = v at hf hw
  refine done_act rfl hq hp fun u hu => ?_
  rw [hu, hf, show (s.after t v).qp i = v.qp i from rfl, hw]
  exact ⟨rfl, rfl, rfl⟩

theorem cmDreq_closes {qpn : Nat} (hq : isQpn qpn = true) (hi : s.qpnIndex qpn = some i) (h3 : (s.qp i).state = 3) :
    Done (.cmDreq t qpn) s fun u =>
      (u.qp i).state = 4 ∧ (u.qp i).dreqAt = none ∧ (u.qp i).freeAt = some (max s.now t + 4 * s.ackTimeout) := by
  obtain ⟨v, hv⟩ : ∃ v, v = (s.at t).setQp i { s.qp i with
    state := 4, dreqAt := none, freeAt := some (max s.now t + 4 * s.ackTimeout) } := ⟨_, rfl⟩
  have hf : cmDreq qpn (s.at t) = v.enqueueCtl (s.qp i).port cmLen (.cmDrep (s.qp i).remoteIp (s.qp i).remoteQpn) := by
    have h3' : ((s.at t).qp i).state = 3 := h3
    rw [hv]
    unfold cmDreq
    rw [show (s.at t).qpnIndex qpn = some i from hi]
    refine (if_neg ?_).trans (if_pos h3')
    rw [h3']
    decide
  obtain ⟨a, b, c, d, e, hw⟩ := v.qpWire_enqueueCtl (s.qp i).port cmLen (.cmDrep (s.qp i).remoteIp (s.qp i).remoteQpn) i
  have hvq : v.qp i = { s.qp i with state := 4, dreqAt := none, freeAt := some (max s.now t + 4 * s.ackTimeout) } := by simp [hv]
  generalize v.enqueueCtl (s.qp i).port cmLen (.cmDrep (s.qp i).remoteIp (s.qp i).remoteQpn) = w at hf hw
  refine done_act rfl hq hp fun u hu => ?_
  rw [hu, hf, show (s.after t w).qp i = w.qp i from rfl, hw, hvq]
  exact ⟨rfl, rfl, rfl⟩

theorem cmDrep_closes {qpn : Nat} (hq : isQpn qpn = true) (hi : s.qpnIndex qpn = some i) (h3 : (s.qp i).state = 3) :
    Done (.cmDrep t qpn) s fun u =>
      u = (s.at t).setQp i { s.qp i with state := 4, dreqAt := none, freeAt := some (max s.now t + 4 * s.ackTimeout) } := by
  have hf : cmDrep qpn (s.at t) = (s.at t).setQp i
      { s.qp i with state := 4, dreqAt := none, freeAt := some (max s.now t + 4 * s.ackTimeout) } := by
    unfold cmDrep
    rw [show (s.at t).qpnIndex qpn = some i from hi]
    exact if_pos h3
  refine done_act rfl hq hp fun u hu => ?_
  rw [hu, hf]
  rfl

theorem cmResponse_missed (hi : i < 131072) (h1 : (s.qp i).state = 1) (hd : (s.qp i).rtrAt + s.ob 0x3100 7 * msNs ≤ max s.now t) :
    Done (.cmResponseTimeout t i) s fun u =>
      Tbl.find? u.rdma.qps i = none ∧
      u.told .cmTimeout [wireQpn i (s.qp i), (s.qp i).tenant, (s.qp i).remoteIp, (s.qp i).port] ∧ u = { s.logged u with rdma := u.rdma } := by
  obtain ⟨v, hv⟩ : ∃ v, v = (s.at t).raise .cmTimeout [wireQpn i (s.qp i), (s.qp i).tenant, (s.qp i).remoteIp, (s.qp i).port] := ⟨_, rfl⟩
  have hf : cmResponseTimeout i (s.at t) = v.freeQp i := by
    rw [hv]
    exact if_pos ⟨h1, decide_eq_true hd⟩
  have htold : v.told .cmTimeout [wireQpn i (s.qp i), (s.qp i).tenant, (s.qp i).remoteIp, (s.qp i).port] := by
    rw [hv]
    exact State.told_raise _ _ _
  have hframe : s.Frame (Part.logs ++ [.rdma, .qpGens]) v := by simp [hv]
  refine done_act rfl (decide_eq_true hi) hp fun u hu => ?_
  rw [hf] at hu
  refine ⟨by rw [hu]; exact (State.freeQp_reads v i).1, State.told_of_ev (by rw [hu]; rfl) htold,
    State.Frame.eq (s := s) (ps := Part.logs ++ [.rdma, .qpGens]) ?_⟩
  rw [hu]
  exact State.frame_after t _ _ (by simp) (.inl rfl) (.inl rfl) (.inl rfl) ((State.frame_freeQp i (by simp)).2 (by simpa using hframe))

theorem dreqWait_ends (hi : i < 131072) {d : Nat} (h3 : (s.qp i).state = 3) (hq : (s.qp i).dreqAt = some d)
    (hd : d + s.ob 0x3100 7 * msNs ≤ max s.now t) :
    Done (.cmResponseTimeout t i) s fun u =>
      u = (s.at t).setQp i { s.qp i with state := 4, freeAt := some (max s.now t + 4 * s.ackTimeout) } := by
  have hf : cmResponseTimeout i (s.at t) = (s.at t).setQp i { s.qp i with state := 4, freeAt := some (max s.now t + 4 * s.ackTimeout) } := by
    have h3' : ((s.at t).qp i).state = 3 := h3
    unfold cmResponseTimeout
    refine (if_neg fun h => ?_).trans ((if_pos h3').trans ?_)
    · exact absurd (h.1.symm.trans h3') (by decide)
    · rw [show ((s.at t).qp i).dreqAt = some d from hq]
      dsimp only
      rw [if_pos (show dueAt (s.at t).now d ((s.at t).ob 0x3100 7 * msNs) = true from decide_eq_true hd), ← hq]
      rfl
  refine done_act rfl (decide_eq_true hi) hp fun u hu => ?_
  rw [hu, hf]
  rfl

theorem qpIndex_freed (hi : i < 131072) {w : Nat} (hw : (s.qp i).freeAt = some w) (h4 : (s.qp i).state = 4) (hd : w ≤ max s.now t) :
    Done (.qpIndexFree t i) s fun u =>
      Tbl.find? u.rdma.qps i = none ∧ Tbl.find? u.rdma.gens i = some (s.qp i).gen ∧ u = { s.logged u with rdma := u.rdma } := by
  have hf : qpIndexFree i (s.at t) = (s.at t).freeQp i := by
    unfold qpIndexFree
    dsimp only
    rw [show ((s.at t).qp i).freeAt = some w from hw]
    exact if_pos ⟨h4, hd⟩
  obtain ⟨hn, hg, -⟩ := State.freeQp_reads (s.at t) i
  refine done_act rfl (decide_eq_true hi) hp fun u hu => ?_
  rw [hf] at hu
  exact ⟨by rw [hu]; exact hn, by rw [hu]; exact hg, State.Frame.eq (s := s) (ps := Part.logs ++ [.rdma, .qpGens]) (by simp [hu])⟩

theorem offenderLimit_ends {ip : Ip} {w : Nat} (hw : (s.offender ip).until_ = some w) (hd : w ≤ max s.now t) :
    Done (.offenderLimitExpiry t ip) s fun u =>
      (u.offender ip).until_ = none ∧ u.ob 0x3180 5 = limitedNow u.rdma.offenders ∧
      s.otherObjects u [objKey 0x3180 0 5] ∧ u = { s.logged u with rdma := u.rdma } := by
  obtain ⟨v, hv⟩ : ∃ v, v = (s.at t).setOffender ip { s.offender ip with until_ := none } := ⟨_, rfl⟩
  have hf : offenderLimitExpiry ip (s.at t) = v.put 0x3180 0 5 (limitedNow v.rdma.offenders) := by
    rw [hv]
    unfold offenderLimitExpiry
    dsimp only
    rw [show ((s.at t).offender ip).until_ = some w from hw]
    exact if_pos hd
  have hvo : (v.offender ip).until_ = none := by simp [hv, State.offender, State.setOffender]
  have hframe : s.Frame (Part.logs ++ [.rdma]) v := by simp [hv]
  have hd : v.dict = s.dict := by rw [hv]; rfl
  refine done_act rfl rfl hp fun u hu => ?_
  rw [hf] at hu
  refine ⟨by rw [hu]; exact hvo, ?_, ?_, State.Frame.eq (s := s) (ps := Part.logs ++ [.rdma]) ?_⟩
  · rw [hu, State.ob_eq]
    exact (State.o_put ..).trans (if_pos rfl)
  · simp [hu, State.otherObjects_iff, hd]
  · rw [hu]
    exact State.frame_after t _ _ (by simp) (.inl rfl) (.inl rfl) (.inl rfl) ((State.frame_put _ _ _ _ (by simp)).2 hframe)

end

/-- Settles O21. -/
theorem qpDisconnects : Obligations.QpDisconnects := by
  intro s t i hp hi
  exact ⟨fun _ hq hx h1 => cmRej_frees hp hq hx h1, fun _ hq hx h => cmDreq_ends hp hq hx h, fun _ hq hx h3 => cmDreq_closes hp hq hx h3,
    fun _ hq hx h3 => cmDrep_closes hp hq hx h3, fun h1 hd => cmResponse_missed hp hi h1 hd,
    fun _ h3 hq hd => dreqWait_ends hp hi h3 hq hd, fun _ hw h4 hd => qpIndex_freed hp hi hw h4 hd,
    fun _ _ hw hd => offenderLimit_ends hp hw hd⟩

end Sys2Proof.Machine
end

section
/-! CLAIM. Contexts are parked and fetched (05 R162 to R166). -/

namespace Sys2Proof.Machine

/-! ### The sweep -/

theorem State.sweep_mem (s : State) (l seen : List Nat) {v : Nat} {seen' : List Nat} (h : s.sweep l seen = (some v, seen')) : v ∈ l := by
  induction l generalizing seen with
  | nil => cases h
  | cons i r ih =>
    unfold State.sweep at h
    split at h
    · exact List.mem_cons_of_mem _ (ih _ h)
    · cases h
      exact List.mem_cons_self

/-- One that was passed over before is taken. -/
theorem State.sweep_seen (s : State) (l seen : List Nat) (h : ∃ x ∈ l, x ∈ seen) : ∃ v seen', s.sweep l seen = (some v, seen') := by
  induction l generalizing seen with
  | nil => simp at h
  | cons i r ih =>
    unfold State.sweep
    split
    · next hc =>
      obtain ⟨x, hx, hs⟩ := h
      refine ih _ ⟨x, ?_, List.mem_cons_of_mem _ hs⟩
      obtain rfl | hx := List.mem_cons.1 hx
      · simp [hs] at hc
      · exact hx
    · exact ⟨_, _, rfl⟩

/-- A sweep that comes round twice takes one. -/
theorem State.sweep_twice (s : State) (xs ys seen : List Nat) (h : ∃ x ∈ xs, x ∈ ys) : ∃ v seen', s.sweep (xs ++ ys) seen = (some v, seen') := by
  induction xs generalizing seen with
  | nil => simp at h
  | cons i r ih =>
    rw [List.cons_append]
    unfold State.sweep
    split
    · obtain ⟨x, hx, hy⟩ := h
      obtain rfl | hx := List.mem_cons.1 hx
      · exact s.sweep_seen _ _ ⟨x, List.mem_append_right _ hy, List.mem_cons_self⟩
      · exact ih _ ⟨x, hx, hy⟩
    · exact ⟨_, _, rfl⟩

section
variable {s : State} {t i : Nat} (hp : s.railsOn)
include hp

theorem parking_starts {sl : Nat} (h4 : sl < 4) (hr : 4096 < s.residentIn sl + s.ob 0x3100 9)
    (hx : ∃ e ∈ s.rdma.qps, sliceOf e.1 = sl ∧ (s.at t).parkable e.1 e.2 = true) :
    Done (.parkingStart t sl) s fun u => ∃ v, sliceOf v = sl ∧ (u.qp v).loc = 2 ∧
      (u.qp v).parkStart = some (max s.now t) ∧ Tbl.find? u.rdma.hands sl = some (v + 4) ∧
      s.otherObjects u [] ∧ u = { s.logged u with rdma := u.rdma } := by
  obtain ⟨hand, hhand⟩ : ∃ h, h = Tbl.get 0 (s.at t).rdma.hands sl := ⟨_, rfl⟩
  obtain ⟨cand, hcand⟩ : ∃ c, c = ((s.at t).rdma.qps.filter fun e => decide (sliceOf e.1 = sl) && (s.at t).parkable e.1 e.2).map Prod.fst := ⟨_, rfl⟩
  obtain ⟨order, horder⟩ : ∃ o, o = (cand.filter fun i => decide (hand ≤ i)) ++ (cand.filter fun i => decide (i < hand)) := ⟨_, rfl⟩
  have hmem : ∀ x, x ∈ order ↔ x ∈ cand := fun x => by
    simp only [horder, List.mem_append, List.mem_filter, decide_eq_true_eq, ← and_or_left]
    have : hand ≤ x ∨ x < hand := by omega
    simp [this]
  have hsl : ∀ x ∈ cand, sliceOf x = sl := fun x hx => by
    simp only [hcand, List.mem_map, List.mem_filter, Bool.and_eq_true, decide_eq_true_eq] at hx
    obtain ⟨e, ⟨-, he, -⟩, rfl⟩ := hx
    exact he
  obtain ⟨e, he, hes, hep⟩ := hx
  have hec : e.1 ∈ cand := by
    simp only [hcand, List.mem_map, List.mem_filter, Bool.and_eq_true, decide_eq_true_eq]
    exact ⟨e, ⟨he, hes, hep⟩, rfl⟩
  obtain ⟨v, seen, hv⟩ := (s.at t).sweep_twice order order [] ⟨e.1, (hmem _).2 hec, (hmem _).2 hec⟩
  have hvs : sliceOf v = sl := by
    have := (s.at t).sweep_mem _ _ hv
    rw [List.mem_append, or_self] at this
    exact hsl v ((hmem v).1 this)
  obtain ⟨w, hw⟩ : ∃ w : State, w = (s.at t).each seen fun s i => s.setQp i { s.qp i with ref := false } := ⟨_, rfl⟩
  have hf : parkingStart sl (s.at t) =
      { w.setQp v { w.qp v with loc := 2, parkStart := some w.now } with
        rdma := { (w.setQp v { w.qp v with loc := 2, parkStart := some w.now }).rdma with
          hands := Tbl.set (w.setQp v { w.qp v with loc := 2, parkStart := some w.now }).rdma.hands sl (v + 4) } } := by
    have hr' : ¬ (s.at t).residentIn sl + (s.at t).ob 0x3100 9 ≤ 4096 := not_le.2 hr
    refine (if_neg hr').trans ?_
    rw [horder, hhand, hcand] at hv
    rw [hw]
    dsimp only
    rw [hv]
  have hframe : ∀ {r : State} {ps : List Part}, .rdma ∈ ps → (r.Frame ps w ↔ r.Frame ps (s.at t)) := fun h => by
    rw [hw]
    exact State.frame_each fun u k => by simp [h]
  have hs := fun q hq => State.same_of_frame (hframe (r := s.at t) (ps := [.rdma]) (by simp)) q hq
  have hnow : w.now = max s.now t := hs .now (by simp)
  have hdict : w.dict = s.dict := hs .dict (by simp)
  refine done_act rfl (decide_eq_true h4) hp fun u hu => ?_
  rw [hf] at hu
  refine ⟨v, hvs, ?_, ?_, ?_, ?_, State.Frame.eq (s := s) (ps := Part.logs ++ [.rdma]) ?_⟩
  · simp [hu, State.qp, State.setQp]
  · simp [hu, State.qp, State.setQp, hnow]
  · simp [hu]
  · simp [hu, State.otherObjects_iff, hdict]
  · rw [hu]
    refine State.frame_after t _ _ (by simp) (.inl rfl) (.inl rfl) (.inl rfl) ?_
    have hwf : s.Frame (Part.logs ++ [.rdma]) w := (hframe (by simp)).2 (by simp)
    simpa using hwf

theorem parking_commits (hi : i < 131072) (hl : (s.qp i).loc = 2) (hpin : (s.qp i).pin = false) :
    Done (.parkingCommit t i) s fun u =>
      u = ((s.at t).setQp i { s.qp i with loc := 1, parkStart := none }).bump 0x3120 (sliceOf i) 4 := by
  have hf : parkingCommit i (s.at t) = ((s.at t).setQp i { s.qp i with loc := 1, parkStart := none }).bump 0x3120 (sliceOf i) 4 :=
    if_pos ⟨hl, hpin⟩
  refine done_act rfl (decide_eq_true hi) hp fun u hu => ?_
  rw [hu, hf]
  rfl

theorem parking_pinned (hi : i < 131072) (hpin : (s.qp i).pin = true) : Done (.parkingCommit t i) s fun u => u = s.at t := by
  have hf : parkingCommit i (s.at t) = s.at t := if_neg fun h => absurd (h.2.symm.trans hpin) (by decide)
  refine done_act rfl (decide_eq_true hi) hp fun u hu => ?_
  rw [hu, hf]
  rfl

omit hp in
/-- A queue pair with nothing to send, to acknowledge or to repeat only becomes resident. -/
theorem contextRefetch_idle {s : State} (hl : (s.qp i).loc = 3) (hh : (s.qp i).held = []) (hq : (s.qp i).sendQ = [])
    (ha : (s.qp i).ackSince = none) (hr : (s.qp i).rnrFirst = none) (hk : (s.qp i).ackTimer = none) :
    contextRefetchComplete i s = ((s.setQp i { s.qp i with loc := 0, parkStart := none, residentSince := s.now, held := [] }).put 0x3120
      (sliceOf i) 8 (max (s.o 0x3120 (sliceOf i) 8) 0)) := by
  obtain ⟨v, hv⟩ : ∃ v, v = (s.setQp i { s.qp i with loc := 0, parkStart := none, residentSince := s.now, held := [] }).put 0x3120
      (sliceOf i) 8 (max (s.o 0x3120 (sliceOf i) 8) 0) := ⟨_, rfl⟩
  have hvq : v.qp i = { s.qp i with loc := 0, parkStart := none, residentSince := s.now, held := [] } := by simp [hv]
  have hack : v.ackWaited i = v := by rw [State.ackWaited, hvq]; dsimp only; rw [ha]
  have hwall : v.wallExpired i = v := by rw [State.wallExpired, hvq]; dsimp only; rw [hr]
  have hexp : v.ackExpired i = v := by rw [State.ackExpired, hvq]; dsimp only; rw [hk]
  have hrnr : v.rnrExpired i = v := by
    unfold State.rnrExpired
    rw [hvq]
    dsimp only
    rw [hr]
    split
    · next h => cases h
    · rfl
  have hpump : v.pumpAll i = v := by
    rw [State.pumpAll, hvq]
    dsimp only
    rw [hq]
    unfold State.pump
    rw [hvq]
    dsimp only
    rw [hq]
  have hc : contextRefetchComplete i s = if ((if (v.qp i).state = 1 ∨ (v.qp i).state = 2 then v.ackWaited i else v).qp i).state = 2 then
      ((((if (v.qp i).state = 1 ∨ (v.qp i).state = 2 then v.ackWaited i else v).wallExpired i).ackExpired i).rnrExpired i).pumpAll i
      else if (v.qp i).state = 1 ∨ (v.qp i).state = 2 then v.ackWaited i else v := by
    rw [hv]
    refine (if_pos hl).trans ?_
    rw [hh]
    rfl
  rw [hc, hack, ite_self, hwall, hexp, hrnr, hpump, ite_self, hv]

theorem contextRefetch_ends (hi : i < 131072) (hl : (s.qp i).loc = 3) (hh : (s.qp i).held = []) (hq : (s.qp i).sendQ = [])
    (ha : (s.qp i).ackSince = none) (hr : (s.qp i).rnrFirst = none) (hk : (s.qp i).ackTimer = none) :
    Done (.contextRefetchComplete t i) s fun u =>
      u.qp i = { s.qp i with loc := 0, parkStart := none, residentSince := max s.now t, held := [] } ∧ u = { s.logged u with rdma := u.rdma } := by
  have hf := contextRefetch_idle (s := s.at t) (i := i) hl hh hq ha hr hk
  refine done_act rfl (decide_eq_true hi) hp fun u hu => ?_
  rw [hf] at hu
  exact ⟨by simp [hu], State.Frame.eq (s := s) (ps := Part.logs ++ [.rdma]) (by simp [hu])⟩

end

/-- Settles O24. -/
theorem qpParkingActs : Obligations.QpParkingActs := by
  intro s t i hp hi
  exact ⟨fun _ h4 hr hx => parking_starts hp h4 hr hx, fun hl hpin => parking_commits hp hi hl hpin, fun _ hpin => parking_pinned hp hi hpin,
    fun hl hh hq ha hr hk => contextRefetch_ends hp hi hl hh hq ha hr hk⟩

end Sys2Proof.Machine
end
section
/-! CLAIM. Rows of 3101h are committed (05 R162, R179, R190). -/

namespace Sys2Proof.Machine

/-- Applying a queue pair's row without the forced error pins its context and its window. -/
theorem applyQp_pins {st : Stage} (old u : State) (h27 : st.n 0x27 ≠ 1) :
    ((applyQp st old u).qp st.row).pin = decide (st.n 5 = 1) ∧ ((applyQp st old u).qp st.row).windowPin = st.n 0x28 := by
  unfold applyQp
  extract_lets i q q1 v w
  have hv : (v.qp i).pin = decide (st.n 5 = 1) ∧ (v.qp i).windowPin = st.n 0x28 := by
    have hvq : v.qp i = u.setWindow q1 (q1.window : Nat) := by simp [v]
    rw [hvq]
    unfold State.setWindow
    extract_lets x
    split
    · exact ⟨rfl, rfl⟩
    · exact ⟨rfl, rfl⟩
  have hw : (w.qp i).pin = decide (st.n 5 = 1) ∧ (w.qp i).windowPin = st.n 0x28 := by
    simp only [w]
    split
    · unfold State.touch
      extract_lets y
      split
      · simpa using hv
      · simpa using hv
      · simpa using hv
    · exact hv
  rw [if_neg h27]
  split
  · obtain ⟨a, b, c, d, e, f, g, k, l, hpump⟩ := w.qpPumped_pumpAll i i
    rw [hpump]
    exact hw
  · exact hw

/-- A commit that a queue pair's check passes is no refused pin. -/
theorem State.commitQp_taken {s : State} {sess : Nat} (hm : s.mayCommit sess 0x3101 qpCode = true) :
    s.commitQp sess = s.commitAs sess 0x3101 1 qpCode applyQp := by
  unfold State.mayCommit at hm
  unfold State.commitQp
  cases hx : s.session? sess with
  | none => rfl
  | some x =>
    simp only [hx, Bool.and_eq_true, decide_eq_true_eq] at hm
    obtain ⟨⟨-, hk⟩, -⟩ := hm
    have hpin : s.pinRefused (s.stage x 0x3101) = false := by
      have h := firstCode_eq_zero.1 hk (need (!s.pinRefused (s.stage x 0x3101)) abState) (by simp)
      cases hr : s.pinRefused (s.stage x 0x3101) with
      | false => rfl
      | true =>
        rw [hr] at h
        exact absurd h (by decide)
    dsimp only
    rw [hpin]
    simp

section
variable {s : State} {t sess : Nat} (hp : s.railsOn) (hm : (s.at t).mayCommit sess 0x3101 qpCode = true)
include hp hm

theorem qpRow_committed {i : Instr} {f : State → State} {Q : State → Prop} (hi : exec i s = act t true s f)
    (hf : f (s.at t) = (s.at t).commitQp sess) (h27 : (s.staged sess 0x3101).n 0x27 ≠ 1)
    (hQ : ∀ u, (u.qp (s.staged sess 0x3101).row).pin = decide ((s.staged sess 0x3101).n 5 = 1) →
      (u.qp (s.staged sess 0x3101).row).windowPin = (s.staged sess 0x3101).n 0x28 → Q u) :
    Done i s fun u => s.committed u sess 0x3101 ∧ s.rowTook u sess 0x3101 [5, 0x28] ∧ Q u := by
  refine done_commitRow hi (hf.trans (State.commitQp_taken hm)) rfl hp hm (by simp [isShelfSetting]) (by decide) (fun v => ?_)
    (fun v _ k hk => ?_) fun u v hv hu => ?_
  · exact State.gen_of_frame (frame_applyQp (ps := [.free, .out, .dict, .sess, .ev, .rings, .fab, .eth, .rdma, .nvme, .sched, .arr,
      .slot, .meter, .twin, .ctrls]) _ _ (by simp)) ..
  · refine State.val_of_objs (objs_applyQp ..) _ _ _ ?_
    simp only [List.mem_cons, List.not_mem_nil, or_false] at hk
    rcases hk with rfl | rfl <;> rfl
  · obtain ⟨h1, h2⟩ := applyQp_pins (s.at t) v h27
    have hq : u.qp (s.staged sess 0x3101).row = (applyQp (s.staged sess 0x3101) (s.at t) v).qp (s.staged sess 0x3101).row := by
      rw [State.configStep_of_not_shelf (by decide)] at hu
      simp [hu, hv]
    exact hQ u (by rw [hq, h1]) (by rw [hq, h2])

/-- One with the forced error takes its queue pair down. -/
theorem qpError_forced (h27 : (s.staged sess 0x3101).n 0x27 = 1)
    (hst : (s.qp (s.staged sess 0x3101).row).state = 1 ∨ (s.qp (s.staged sess 0x3101).row).state = 2) :
    Done (.qpForceError t sess) s fun u => (u.qp (s.staged sess 0x3101).row).state = 3 ∧ u.answered sess 0 := by
  obtain ⟨st, hst'⟩ : ∃ st, st = s.staged sess 0x3101 := ⟨_, rfl⟩
  have hf : qpForceError sess (s.at t) = (((s.at t).applyCommit sess 0x3101 st applyQp).configStep 0x3101 0).reply sess 0 := by
    rw [hst']
    exact (State.commitQp_taken hm).trans (State.commitAs_taken hm (by simp [isShelfSetting]))
  rw [← hst'] at h27 hst ⊢
  obtain ⟨v, hv⟩ : ∃ v, v = (s.at t).storeRow 0x3101 st := ⟨_, rfl⟩
  have hvq : v.qp st.row = s.qp st.row := by simp [hv]
  have happ : ((applyQp st (s.at t) v).qp st.row).state = 3 := by
    unfold applyQp
    extract_lets i q q1 w x
    have hw : (w.qp i).state = 1 ∨ (w.qp i).state = 2 := by
      have hq : (w.qp i).state = (s.qp i).state := by
        rw [show w.qp i = v.setWindow q1 (q1.window : Nat) by simp [w], ← hvq]
        unfold State.setWindow
        extract_lets x
        split <;> rfl
      rw [hq]
      exact hst
    have hx : x = w := if_neg fun h => h.2.1 h27
    rw [if_pos h27, hx, State.qpDown, if_pos hw]
    have h3 := (w.qpFail_qpGone 10 0 0 false hw).state_eq
    rw [h3]
    rfl
  refine done_act rfl rfl hp fun u hu => ?_
  rw [hf, State.configStep_of_not_shelf (by decide)] at hu
  exact ⟨by simp [hu, ← hv, happ], by simp [hu, State.answered]⟩

end

/-- Settles O25. -/
theorem qpCommits : Obligations.QpCommits := by
  intro s t hp
  refine ⟨fun sess hm h27 => qpRow_committed hp hm rfl rfl h27 fun u h1 _ => ?_,
    fun sess hm h27 => qpRow_committed hp hm rfl rfl h27 fun u _ h2 => h2, fun sess hm h27 hst => qpError_forced hp hm h27 hst⟩
  rw [h1]
  exact decide_eq_true_iff

end Sys2Proof.Machine
end

section
/-! CLAIM. CM_REQ and CM_RTU set up a queue pair (05 R156 to R162). -/

namespace Sys2Proof.Machine

section
variable {v : State} {p len : Nat} {c : Ctl}

/-- The machinery writes no port mode. -/
theorem Dict.off_portMode (k : Nat) : Dict.off 0x3000 k = true := by simp [Dict.off, Dict.worked]

/-- A port whose link, holds and line are as they were is as busy as it was. -/
theorem State.ctlWaits_congr {s : State} (hw : s.ctlWaits p) (h3 : ∀ k, v.ob 0x3000 k = s.ob 0x3000 k)
    (h4 : v.ob 0x4007 1 = s.ob 0x4007 1) (hf : v.fab = s.fab) (he : (v.eg p).onLine = (s.eg p).onLine)
    (hx : (v.port p).SameLink (s.port p)) : v.ctlWaits p := by
  obtain ⟨⟨hup, hon⟩, hn⟩ := hw
  obtain ⟨hl, ho, hfl, hc, hs⟩ := hx
  have hst : v.portState p = s.portState p := by
    simp only [State.portState, State.portExists, State.modeOf, State.flushing, hl, ho, hfl, hc, h3, hf]
    rfl
  refine ⟨⟨?_, by rw [he]; exact hon⟩, ?_⟩
  · rw [State.portUp, hst]
    exact hup
  · rw [State.storming, hs, h4]
    exact hn

/-- A port whose line was busy is so still when a control frame was put behind the others; the frame waits there, and those before it. -/
theorem State.ctlWaits_enqueueCtl (hw : v.ctlWaits p) : (v.enqueueCtl p len c).ctlWaits p ∧
    Tbl.get [] ((v.enqueueCtl p len c).eg p).queues controlKey = Tbl.get [] (v.eg p).queues controlKey ++ [v.ctlFrame len c] := by
  obtain ⟨w, hv⟩ : ∃ w, w = v.setEg p { v.eg p with
      queues := Tbl.set (v.eg p).queues controlKey (Tbl.get [] (v.eg p).queues controlKey ++ [v.ctlFrame len c]) } := ⟨_, rfl⟩
  have hb : w.lineBusy p := by
    rw [hv]
    exact ⟨hw.1.1, by simpa using hw.1.2⟩
  have he : v.enqueueCtl p len c = w.nextFrame p := by rw [State.enqueueCtl_waits v p hw, hv]
  have hon : ((w.nextFrame p).eg p).onLine = (v.eg p).onLine := by
    rw [w.nextFrame_busy p hb, State.syncLpi, State.eg_setLpi, (w.each_refreshQueue_eg p _ p).2.2, hv]
    simp
  obtain ⟨b, hk⟩ := (w.ethKept_nextFrame p).1 p
  rw [show w.port p = v.port p by rw [hv]; rfl] at hk
  have hob : ∀ i k, Dict.off i k = true → (w.nextFrame p).ob i k = v.ob i k := fun i k h => by
    rw [State.ob_eq, State.ob_eq, State.o_of_objs (State.objs_nextFrame ..) _ _ _ h, hv]
    rfl
  have hfab : (w.nextFrame p).fab = v.fab := by
    rw [State.same_of_frame (State.frame_nextFrame_busy w p (r := w) (ps := [.out, .dict, .eth, .sched]) hb (by simp)) .fab, hv]
    rfl
  rw [he]
  refine ⟨State.ctlWaits_congr hw (fun k => hob _ _ (Dict.off_portMode k)) (hob 0x4007 1 rfl) hfab hon ?_, ?_⟩
  · rw [hk]
    exact ⟨rfl, rfl, rfl, rfl, rfl⟩
  · rw [(w.nextFrame_busy_eg p hb p).1, hv]
    simp

end

/-- What an accepted request sets up. -/
def State.reqQp (s : State) (port row l i mtu : Nat) (r : CmReq) : Qp :=
  { state := 1, gen := if 127 ≤ Tbl.get 0 s.rdma.gens i then 1 else Tbl.get 0 s.rdma.gens i + 1, pin := decide (s.o 0x3240 l 6 = 0)
    cls := s.o 0x3240 l 6, ifRow := row, port := port, remoteIp := r.srcIp
    remoteQpn := r.remoteQpn
    srcPort := qpSrcPort ((if 127 ≤ Tbl.get 0 s.rdma.gens i then 1 else Tbl.get 0 s.rdma.gens i + 1) * 131072 + i)
    mtu := mtu, pkey := r.pkey, cluster := s.pickCluster
    ePsn := r.psn, nPsn := BitVec.ofNat 24 s.draw, oldest := BitVec.ofNat 24 s.draw, startPsn := BitVec.ofNat 24 s.draw
    depth := min 16 r.respRes, alpha := (s.ob 0x3110 0xA : Rat) / 256
    retries := s.ob 0x3100 5, rnrRetries := r.rnrRetry, rnrCount := r.rnrRetry, bufs := r.hsqsize + 1, commId := r.localCommId
    rtrAt := s.now, alphaAt := s.now, residentSince := s.now, listenerType := s.o 0x3240 l 5, privQid := r.qid
    hsqsize := r.hsqsize }

section
variable (s : State) (port row l i mtu : Nat) (r : CmReq)

/-- The state before the REP is sent. -/
def State.reqTaken : State :=
  ((s.drawn.setQp i (s.drawn.firstWindow (s.reqQp port row l i mtu r))).put 0x3101 i 5 (if s.o 0x3240 l 6 = 0 then 1 else 0)).mayMra port r.srcIp

theorem State.acceptReq_eq : s.acceptReq port row l i mtu r = (s.reqTaken port row l i mtu r).sendRep i := rfl

/-- A first window moves the window alone. -/
theorem State.firstWindow_eq (q : Qp) : ∃ w f, s.firstWindow q = { q with window := w, floorSince := f } := ⟨_, _, rfl⟩

/-- An MRA may go out: nothing more. -/
theorem State.mayMra_reads (ip : Ip) :
    s.QpWire (s.mayMra port ip) ∧ (∀ i' r' k', Dict.off i' k' = true → (s.mayMra port ip).o i' r' k' = s.o i' r' k') ∧
      (s.ctlWaits port → (s.mayMra port ip).ctlWaits port) := by
  unfold State.mayMra
  extract_lets u
  split
  · refine ⟨State.QpWire.before (State.qpWire_enqueueCtl _ _ _ _) rfl, fun i' r' k' h => ?_, fun hw => ?_⟩
    · exact State.o_of_objs (State.objs_enqueueCtl ..) _ _ _ h
    · exact (State.ctlWaits_enqueueCtl (v := u.drawn) hw).1
  · exact ⟨.of_rdma rfl, fun _ _ _ _ => rfl, fun hw => hw⟩

/-- The queue pair that a request makes ready to receive. -/
theorem State.reqTaken_qp : ∃ a b c d e w f, (s.reqTaken port row l i mtu r).qp i =
    { s.reqQp port row l i mtu r with
      sent := a, reads := b, txCount := c, retxCount := d, copying := e, window := w, floorSince := f } := by
  obtain ⟨w, f, hq⟩ := s.drawn.firstWindow_eq (s.reqQp port row l i mtu r)
  obtain ⟨v, hv⟩ : ∃ v, v = (s.drawn.setQp i (s.drawn.firstWindow (s.reqQp port row l i mtu r))).put 0x3101 i 5
    (if s.o 0x3240 l 6 = 0 then 1 else 0) := ⟨_, rfl⟩
  obtain ⟨a, b, c, d, e, h⟩ := (v.mayMra_reads port r.srcIp).1 i
  have hvq : v.qp i = { s.reqQp port row l i mtu r with window := w, floorSince := f } := by
    rw [hv, ← hq]
    simp
  refine ⟨a, b, c, d, e, w, f, ?_⟩
  rw [State.reqTaken, ← hv, h, hvq]

end

/-- The time moves no free index. -/
theorem State.freeIndexFrom_at (s : State) (t i n : Nat) : (s.at t).freeIndexFrom i n = s.freeIndexFrom i n := by
  induction n generalizing i with
  | zero => rfl
  | succ n ih =>
    unfold State.freeIndexFrom
    rw [ih]
    rfl

theorem State.freeIndex_at (s : State) (t : Nat) : (s.at t).freeIndex = s.freeIndex := by
  have h : ∀ sl, ((s.at t).freeIndexFrom sl 32768).map (fun i => ((s.at t).sliceLoad sl, i)) =
      (s.freeIndexFrom sl 32768).map fun i => (s.sliceLoad sl, i) := fun sl => by
    rw [State.freeIndexFrom_at]
    rfl
  unfold State.freeIndex
  simp only [h]

section
variable {s : State} {t i : Nat} (hp : s.railsOn)
include hp

theorem cmReq_accepted {port : Nat} {r : CmReq} {row l mtu : Nat} (h32 : port < 32) (hs : s.portServes port = true)
    (hnew : ∀ e ∈ s.rdma.qps, ¬ (e.2.commId = r.localCommId ∧ e.2.remoteIp = r.srcIp ∧ (e.2.state = 1 ∨ e.2.state = 2)))
    (hrow : s.interfaceOf port r.destIp = some row) (hl : s.listenerOf row r.serviceId = some l) (ho : (s.offender r.srcIp).until_ = none)
    (hpriv : s.privStatus r (s.o 0x3240 l 5) = 0) (hmtu : s.pathMtu port r.mtu = some mtu) (hi : s.freeIndex = some i)
    (hpin : s.o 0x3240 l 6 ≠ 0 ∨ s.pinnedIn (sliceOf i) < s.ob 0x3100 8) :
    Done (.cmReq t port r) s fun u =>
      (u.qp i).state = 1 ∧ (u.qp i).remoteIp = r.srcIp ∧ (u.qp i).remoteQpn = r.remoteQpn ∧ (u.qp i).port = port ∧
      (u.qp i).mtu = mtu ∧ (u.qp i).ePsn = r.psn ∧ (u.qp i).rtrAt = max s.now t ∧ (u.qp i).bufs = r.hsqsize + 1 ∧
      (u.qp i).cls = s.o 0x3240 l 6 ∧ u.o 0x3101 i 5 = (if s.o 0x3240 l 6 = 0 then 1 else 0) ∧
      (s.ctlWaits port → ∃ f ∈ Tbl.get [] (u.eg port).queues controlKey,
        f.msg = .ctl (.cmRep r.srcIp (wireQpn i (u.qp i)) (u.qp i).startPsn.toNat 0 (min 16 r.respRes) r.rnrRetry 0 (r.hsqsize + 1))) := by
  obtain ⟨x, hx⟩ : ∃ x, x = (s.at t).reqTaken port row l i mtu r := ⟨_, rfl⟩
  obtain ⟨a, b, c, d, e, w, f, hxq⟩ := (s.at t).reqTaken_qp port row l i mtu r
  rw [← hx] at hxq
  have hf : cmReq port r (s.at t) = x.enqueueCtl port cmLen
      (.cmRep r.srcIp (wireQpn i (x.qp i)) (x.qp i).startPsn.toNat 0 (min 16 r.respRes) r.rnrRetry 0 (r.hsqsize + 1)) := by
    have hfind : (s.at t).rdma.qps.find? (fun e => decide (e.2.commId = r.localCommId ∧ e.2.remoteIp = r.srcIp ∧
        (e.2.state = 1 ∨ e.2.state = 2))) = none := by
      refine List.find?_eq_none.2 fun e he => ?_
      rw [decide_eq_true_eq]
      exact hnew e he
    have hacc : cmReq port r (s.at t) = (s.at t).acceptReq port row l i mtu r := by
      unfold cmReq
      rw [if_neg (by rw [show (s.at t).portServes port = true from hs]; decide), hfind]
      dsimp only
      rw [show (s.at t).interfaceOf port r.destIp = some row from hrow]
      dsimp only
      rw [show (s.at t).listenerOf row r.serviceId = some l from hl]
      dsimp only
      rw [show (s.at t).offender r.srcIp = s.offender r.srcIp from rfl, ho, if_neg (by decide),
        if_neg (not_not.2 (show (s.at t).privStatus r ((s.at t).o 0x3240 l 5) = 0 from hpriv)),
        show (s.at t).pathMtu port r.mtu = some mtu from hmtu]
      dsimp only
      rw [State.freeIndex_at, hi]
      refine if_neg fun h => ?_
      obtain h' | h' := hpin
      · exact h' h.1
      · exact absurd h.2 (not_le.2 h')
    rw [hacc, State.acceptReq_eq, ← hx, State.sendRep, hxq]
    rfl
  have hwire := x.qpWire_enqueueCtl port cmLen
    (.cmRep r.srcIp (wireQpn i (x.qp i)) (x.qp i).startPsn.toNat 0 (min 16 r.respRes) r.rnrRetry 0 (r.hsqsize + 1)) i
  have hobj : (x.enqueueCtl port cmLen
      (.cmRep r.srcIp (wireQpn i (x.qp i)) (x.qp i).startPsn.toNat 0 (min 16 r.respRes) r.rnrRetry 0 (r.hsqsize + 1))).o 0x3101 i 5 =
      x.o 0x3101 i 5 := State.o_of_objs (State.objs_enqueueCtl ..) _ _ _
  have hxo : x.o 0x3101 i 5 = if s.o 0x3240 l 6 = 0 then 1 else 0 := by
    rw [hx, State.reqTaken, (State.mayMra_reads ..).2.1 0x3101 i 5 rfl]
    exact (State.o_put ..).trans (if_pos rfl)
  have hctl : s.ctlWaits port → x.ctlWaits port := fun hw => by
    rw [hx]
    refine (State.mayMra_reads ..).2.2 (State.ctlWaits_congr (s := s) hw (fun k => ?_) ?_ rfl rfl ⟨rfl, rfl, rfl, rfl, rfl⟩)
    · exact (State.o_put ..).trans (if_neg fun e => absurd (objKey_inj.1 e).1 (by decide))
    · exact (State.o_put ..).trans (if_neg fun e => absurd (objKey_inj.1 e).1 (by decide))
  have hq := fun hw => (State.ctlWaits_enqueueCtl (v := x) (len := cmLen)
    (c := .cmRep r.srcIp (wireQpn i (x.qp i)) (x.qp i).startPsn.toNat 0 (min 16 r.respRes) r.rnrRetry 0 (r.hsqsize + 1)) (hctl hw)).2
  generalize x.enqueueCtl port cmLen
    (.cmRep r.srcIp (wireQpn i (x.qp i)) (x.qp i).startPsn.toNat 0 (min 16 r.respRes) r.rnrRetry 0 (r.hsqsize + 1)) = y at hf hwire hobj hq
  obtain ⟨a', b', c', d', e', hyq⟩ := hwire
  refine done_act rfl (decide_eq_true h32) hp fun u hu => ?_
  rw [hf] at hu
  have huq : u.qp i = y.qp i := by rw [hu]; rfl
  refine ⟨?_, ?_, ?_, ?_, ?_, ?_, ?_, ?_, ?_, ?_, fun hw => ?_⟩
  iterate 9
    · rw [huq, hyq, hxq]
      rfl
  · rw [← hxo, ← hobj, hu]
    rfl
  · refine ⟨x.ctlFrame cmLen (.cmRep r.srcIp (wireQpn i (x.qp i)) (x.qp i).startPsn.toNat 0 (min 16 r.respRes) r.rnrRetry 0
      (r.hsqsize + 1)), ?_, ?_⟩
    · rw [show u.eg port = y.eg port by rw [hu]; rfl, hq hw]
      exact List.mem_append_right _ List.mem_cons_self
    · rw [huq, hyq]
      rfl

theorem cmRtu_opens {qpn : Nat} (hq : isQpn qpn = true) (hi : s.qpnIndex qpn = some i) (h1 : (s.qp i).state = 1) (hs : (s.qp i).sendQ = []) :
    Done (.cmRtu t qpn) s fun u => u = (s.at t).setQp i { s.qp i with state := 2 } := by
  obtain ⟨v, hv⟩ : ∃ v, v = (s.at t).setQp i { s.qp i with state := 2 } := ⟨_, rfl⟩
  have hvq : v.qp i = { s.qp i with state := 2 } := by simp [hv]
  have hf : cmRtu qpn (s.at t) = v.pumpAll i := by
    rw [hv]
    unfold cmRtu
    rw [show (s.at t).qpnIndex qpn = some i from hi]
    exact if_pos h1
  have hpump : v.pumpAll i = v := by
    rw [State.pumpAll, hvq]
    dsimp only
    rw [hs]
    unfold State.pump
    rw [hvq]
    dsimp only
    rw [hs]
  refine done_act rfl hq hp fun u hu => ?_
  rw [hu, hf, hpump, hv]
  rfl

end

/-- Settles O20. -/
theorem qpConnects : Obligations.QpConnects := by
  intro s t i hp _
  exact ⟨fun _ _ _ _ _ h32 hs hnew hrow hl ho hpriv hmtu hi hpin => cmReq_accepted hp h32 hs hnew hrow hl ho hpriv hmtu hi hpin,
    fun _ hq hi h1 hs => cmRtu_opens hp hq hi h1 hs⟩

end Sys2Proof.Machine
end

section
/-! SUPPORT. Repeats and acknowledgements of a queue pair (05 R168 to R177). -/

namespace Sys2Proof.Machine

section
variable (s : State) (i : Nat)

/-- A resident queue pair that is met is marked. -/
theorem State.touch_resident (h : (s.qp i).loc = 0) : s.touch i = s.setQp i { s.qp i with ref := true } := by
  unfold State.touch
  dsimp only
  split
  · next h2 => exact absurd (h.symm.trans h2) (by decide)
  · next h1 => exact absurd (h.symm.trans h1) (by decide)
  · rfl

/-- A queue pair whose repeats went out: what was sent, its count, and what is still to be repeated. -/
def Qp.Drained (q r : Qp) : Prop :=
  ∃ a b c d e f, r = { q with sent := a, reads := b, txCount := c, retxCount := d, copying := e, resend := f }

variable {s i} in
theorem Qp.Wire.drained {q r : Qp} (h : q.Wire r) : q.Drained r := by
  obtain ⟨a, b, c, d, e, rfl⟩ := h
  exact ⟨a, b, c, d, e, q.resend, rfl⟩

theorem Qp.Drained.trans {q r x : Qp} (h : q.Drained r) (h' : r.Drained x) : q.Drained x := by
  obtain ⟨a, b, c, d, e, f, rfl⟩ := h
  obtain ⟨a', b', c', d', e', f', rfl⟩ := h'
  exact ⟨a', b', c', d', e', f', rfl⟩

theorem State.drainResend_qp (n : Nat) : (s.qp i).Drained ((State.drainResend i n s).qp i) := by
  induction n generalizing s with
  | zero => exact (Qp.Wire.refl _).drained
  | succ n ih =>
    unfold State.drainResend
    dsimp only
    split
    · exact (Qp.Wire.refl _).drained
    · next x r hr =>
      split
      · obtain ⟨v, hv⟩ : ∃ v, v = s.setQp i { s.qp i with resend := r } := ⟨_, rfl⟩
        have h1 : (s.qp i).Drained (v.qp i) :=
          ⟨(s.qp i).sent, (s.qp i).reads, (s.qp i).txCount, (s.qp i).retxCount, (s.qp i).copying, r, by simp [hv]⟩
        have h2 := (v.qpWire_sendPkt i x.pkt true i).drained
        rw [← hv]
        exact h1.trans (h2.trans (ih _))
      · exact (Qp.Wire.refl _).drained

/-- With nothing to repeat and nothing to send, an acknowledgement lets nothing out. -/
theorem State.afterAck_idle (hr : (s.qp i).resend = []) (hq : (s.qp i).sendQ = []) : s.afterAck i = s := by
  rw [State.afterAck, hr]
  change s.pumpAll i = s
  rw [State.pumpAll, hq]
  unfold State.pump
  dsimp only
  rw [hq]

/-- What is sorted in holds what was given. -/
theorem mem_insertPsn {key : Psn → Nat} {p x : TxPkt} {l : List TxPkt} (h : x ∈ insertPsn key p l) : x = p ∨ x ∈ l := by
  induction l with
  | nil => exact .inl (List.mem_singleton.1 h)
  | cons y r ih =>
    unfold insertPsn at h
    split at h
    · exact List.mem_cons.1 h
    · obtain rfl | h := List.mem_cons.1 h
      · exact .inr List.mem_cons_self
      · exact (ih h).imp id (List.mem_cons_of_mem _)

theorem mem_foldr_insertPsn {key : Psn → Nat} {x : TxPkt} {l : List TxPkt} (h : x ∈ l.foldr (insertPsn key) []) : x ∈ l := by
  induction l with
  | nil => exact h
  | cons y r ih =>
    obtain rfl | h := mem_insertPsn h
    · exact List.mem_cons_self
    · exact List.mem_cons_of_mem _ (ih h)

/-- A queue pair that repeats from a PSN: what was sent, its count, its repeats and its timer. -/
def Qp.Repeated (now : Nat) (q r : Qp) : Prop :=
  ∃ a b c d e f, r = { q with
    sent := a, reads := b, txCount := c, retxCount := d, copying := e, resend := f, ref := true
    ackTimer := if q.waiting then some now else none }

/-- A resident queue pair whose data are still at hand repeats them. -/
theorem State.retransmitFrom_qp (a : Psn) (hl : (s.qp i).loc = 0) (hsrc : ∀ x ∈ (s.qp i).sent, x.pkt.src = none) :
    (s.qp i).Repeated s.now ((s.retransmitFrom i a).qp i) := by
  unfold State.retransmitFrom
  extract_lets q again ends q2 v reads pkts key items y w x
  have hvq : v.qp i = { q2 with ref := true } := by
    have hl2 : ((s.setQp i q2).qp i).loc = 0 := by simpa [q2] using hl
    simp only [v]
    rw [State.touch_resident _ i hl2]
    simp
  have hitems : ∀ p ∈ items, p.src = none := fun p hp => by
    obtain h | h := List.mem_append.1 (mem_foldr_insertPsn hp)
    · obtain ⟨u, hu, rfl⟩ := List.mem_map.1 h
      obtain ⟨y, hy, rfl⟩ := List.mem_map.1 (List.mem_filter.1 hu).1
      split
      · exact hsrc y hy
      · exact hsrc y hy
    · obtain ⟨r, -, rfl⟩ := List.mem_map.1 h
      rfl
  have hx : x = w := by
    have heach : ∀ (l : List TxPkt) (u : State), (∀ p ∈ l, p.src = none) →
        (u.each l fun s p => match p.src with
          | some b => if s.reading i p.psn then s else s.readAgain i p.psn b
          | none => s) = u := fun l => by
      induction l with
      | nil => exact fun u _ => rfl
      | cons p l ih =>
        intro u hp
        have h1 := hp p List.mem_cons_self
        refine Eq.trans ?_ (ih u fun p' h' => hp p' (List.mem_cons_of_mem _ h'))
        simp only [State.each, List.foldl_cons, h1]
    exact heach items w hitems
  have hwq : w.qp i = { q2 with ref := true, resend := items.map fun p => { pkt := p, ready := p.src.isNone } } := by
    simp [w, y, hvq]
  rw [hx]
  obtain ⟨a, b, c, d, e, f, h⟩ := w.drainResend_qp i items.length
  refine ⟨a, b, c, d, e, f, ?_⟩
  rw [h, hwq]

end

end Sys2Proof.Machine
end
section
/-! CLAIM. The timers of queue pairs act (05 R168 to R185). -/

namespace Sys2Proof.Machine

section
variable {s : State} {t i : Nat} (hp : s.railsOn) (hi : i < 131072)
include hp hi

theorem localAckTimeout_repeats {w : Nat} (hw : (s.qp i).ackTimer = some w) (hd : w + s.ackTimeout ≤ max s.now t) (h2 : (s.qp i).state = 2)
    (hl : (s.qp i).loc = 0) (hwait : (s.qp i).waiting = true) (hr : (s.qp i).rnrUntil = none) (hne : (s.qp i).retries ≠ 0)
    (hsrc : ∀ x ∈ (s.qp i).sent, x.pkt.src = none) :
    Done (.localAckTimeout t i) s fun u =>
      (u.qp i).retries = (s.qp i).retries - 1 ∧ (u.qp i).ackTimer = some (max s.now t) := by
  obtain ⟨v, hv⟩ : ∃ v, v = (s.at t).setQp i { s.qp i with ref := true } := ⟨_, rfl⟩
  have hvq : v.qp i = { s.qp i with ref := true } := by simp [hv]
  have htouch : (s.at t).touch i = v := by
    rw [hv]
    exact (s.at t).touch_resident i hl
  obtain ⟨x, hx⟩ : ∃ x, x = v.setQp i { v.qp i with retries := (v.qp i).retries - 1 } := ⟨_, rfl⟩
  have hxq : x.qp i = { s.qp i with ref := true, retries := (s.qp i).retries - 1 } := by simp [hx, hvq]
  have hdue : dueAt (s.at t).now w (s.at t).ackTimeout = true := decide_eq_true hd
  have hf : localAckTimeout i (s.at t) = x.retransmitFrom i (v.qp i).oldestPsn := by
    have hdue' : ((s.at t).timerDue ((s.at t).qp i) && decide (((s.at t).qp i).state = 2)) = true := by
      rw [Bool.and_eq_true]
      refine ⟨?_, decide_eq_true h2⟩
      unfold State.timerDue
      rw [show ((s.at t).qp i).ackTimer = some w from hw]
      dsimp only
      rw [hdue, Bool.true_or]
    have hexp : v.ackExpired i = x.retransmitFrom i (v.qp i).oldestPsn := by
      have hva : (v.qp i).ackTimer = some w := by rw [hvq]; exact hw
      have hvt : v.ackTimeout = s.ackTimeout := by rw [hv]; rfl
      have hvn : v.now = max s.now t := by rw [hv]; rfl
      have hc : (dueAt v.now w v.ackTimeout && (v.qp i).waiting && (v.qp i).rnrUntil.isNone) = true := by
        rw [hvt, hvn, show (v.qp i).waiting = true by rw [hvq]; exact hwait, show (v.qp i).rnrUntil = none by rw [hvq]; exact hr]
        rw [show dueAt (max s.now t) w s.ackTimeout = true from hdue]
        rfl
      unfold State.ackExpired
      dsimp only
      rw [hva]
      dsimp only
      rw [if_pos hc, State.retryFrom, if_neg (by rw [hvq]; exact hne), hx]
    refine (if_pos hdue').trans ?_
    rw [htouch]
    exact (if_pos (by rw [hvq]; exact hl)).trans hexp
  obtain ⟨a, b, c, d, e, f, hq⟩ := x.retransmitFrom_qp i (v.qp i).oldestPsn (by rw [hxq]; exact hl) (by rw [hxq]; exact hsrc)
  have hxw : (x.qp i).waiting = true := by rw [hxq]; exact hwait
  have hxn : x.now = max s.now t := by rw [hx, hv]; rfl
  rw [hxw, if_pos rfl, hxn, hxq] at hq
  generalize x.retransmitFrom i (v.qp i).oldestPsn = y at hf hq
  refine done_act rfl (decide_eq_true hi) hp fun u hu => ?_
  rw [hu, hf, show (s.after t y).qp i = y.qp i from rfl, hq]
  exact ⟨rfl, rfl⟩

theorem rnrTimer_ends {w n a : Nat} (hw : (s.qp i).rnrUntil = some w) (hd : w ≤ max s.now t) (hf1 : (s.qp i).rnrFirst = some (n, a))
    (h2 : (s.qp i).state = 2) (hl : (s.qp i).loc = 0) (hsrc : ∀ x ∈ (s.qp i).sent, x.pkt.src = none) :
    Done (.rnrTimerExpiry t i) s fun u => (u.qp i).rnrUntil = none := by
  obtain ⟨v, hv⟩ : ∃ v, v = (s.at t).setQp i { s.qp i with ref := true } := ⟨_, rfl⟩
  have hvq : v.qp i = { s.qp i with ref := true } := by simp [hv]
  have htouch : (s.at t).touch i = v := by
    rw [hv]
    exact (s.at t).touch_resident i hl
  obtain ⟨x, hx⟩ : ∃ x, x = v.setQp i { v.qp i with rnrUntil := none } := ⟨_, rfl⟩
  have hxq : x.qp i = { s.qp i with ref := true, rnrUntil := none } := by simp [hx, hvq]
  obtain ⟨y, hy⟩ : ∃ y, y = x.retransmitFrom i (BitVec.ofNat 24 n) := ⟨_, rfl⟩
  have hf : rnrTimerExpiry i (s.at t) = y.pumpAll i := by
    have hdue' : ((s.at t).timerDue ((s.at t).qp i) && decide (((s.at t).qp i).state = 2)) = true := by
      rw [Bool.and_eq_true]
      refine ⟨?_, decide_eq_true h2⟩
      unfold State.timerDue
      rw [show ((s.at t).qp i).rnrUntil = some w from hw]
      dsimp only
      rw [show decide (w ≤ (s.at t).now) = true from decide_eq_true hd, Bool.or_true]
    have hexp : v.rnrExpired i = y.pumpAll i := by
      have hvu : (v.qp i).rnrUntil = some w := by rw [hvq]; exact hw
      have hvf : (v.qp i).rnrFirst = some (n, a) := by rw [hvq]; exact hf1
      have hvn : w ≤ v.now := by rw [hv]; exact hd
      unfold State.rnrExpired
      dsimp only
      rw [hvu, hvf]
      dsimp only
      rw [if_pos hvn, hy, hx, ← hvf]
    refine (if_pos hdue').trans ?_
    rw [htouch]
    exact (if_pos (by rw [hvq]; exact hl)).trans hexp
  obtain ⟨a1, b1, c1, d1, e1, f1, hq⟩ := x.retransmitFrom_qp i (BitVec.ofNat 24 n) (by rw [hxq]; exact hl) (by rw [hxq]; exact hsrc)
  have hyr : (y.qp i).rnrUntil = none := by
    rw [hy, hq, hxq]
  obtain ⟨a2, b2, c2, d2, e2, f2, g2, h2', l2, hpump⟩ := y.qpPumped_pumpAll i i
  generalize y.pumpAll i = z at hf hpump
  refine done_act rfl (decide_eq_true hi) hp fun u hu => ?_
  rw [hu, hf, show (s.after t z).qp i = z.qp i from rfl, hpump]
  exact hyr

theorem rnrWallTime_fails {n w : Nat} (hw : (s.qp i).rnrFirst = some (n, w)) (hd : w + s.ob 0x3100 0xD * sNs ≤ max s.now t)
    (h2 : (s.qp i).state = 2) (hl : (s.qp i).loc = 0) :
    Done (.rnrWallTimeExpiry t i) s fun u =>
      (u.qp i).state = 3 ∧ (u.qp i).dreqAt = some (max s.now t) ∧ (u.qp i).sendQ = [] := by
  obtain ⟨v, hv⟩ : ∃ v, v = (s.at t).setQp i { s.qp i with ref := true } := ⟨_, rfl⟩
  have hvq : v.qp i = { s.qp i with ref := true } := by simp [hv]
  have htouch : (s.at t).touch i = v := by
    rw [hv]
    exact (s.at t).touch_resident i hl
  have hv2 : (v.qp i).state = 1 ∨ (v.qp i).state = 2 := .inr (by rw [hvq]; exact h2)
  have hf : rnrWallTimeExpiry i (s.at t) = (v.qpFail i 2 (BitVec.ofNat 24 n) 0 false).qpGone i := by
    have hdue : dueAt (s.at t).now w ((s.at t).ob 0x3100 0xD * sNs) = true := decide_eq_true hd
    have hvd : dueAt v.now w (v.ob 0x3100 0xD * sNs) = true := by rw [hv]; exact hdue
    have hvl : (v.qp i).loc = 0 := by rw [hvq]; exact hl
    have hvf : (v.qp i).rnrFirst = some (n, w) := by rw [hvq]; exact hw
    unfold rnrWallTimeExpiry
    rw [show ((s.at t).qp i).rnrFirst = some (n, w) from hw]
    dsimp only
    rw [if_pos hdue, htouch, if_pos hvl, State.wallExpired, hvf]
    dsimp only
    rw [if_pos hvd, State.qpDown, if_pos hv2]
  obtain ⟨a, b, c, d, e, hq⟩ := v.qpFail_qpGone 2 (BitVec.ofNat 24 n) 0 false hv2
  have hvn : v.now = max s.now t := by rw [hv]; rfl
  generalize (v.qpFail i 2 (BitVec.ofNat 24 n) 0 false).qpGone i = y at hf hq
  refine done_act rfl (decide_eq_true hi) hp fun u hu => ?_
  rw [hu, hf, show (s.after t y).qp i = y.qp i from rfl, hq, ← hvn]
  exact ⟨rfl, rfl, rfl⟩

theorem ackCoalescing_ends {a : Nat} (ha : (s.qp i).ackSince = some a) (hd : a + s.ob 0x3100 3 * 1000 ≤ max s.now t)
    (hl : (s.qp i).loc = 0) (hh : (s.qp i).ackHold = none) :
    Done (.ackCoalescingTimeout t i) s fun u =>
      (u.qp i).ackSince = none ∧ (u.qp i).ackCount = 0 ∧ (u.qp i).txCount = satAdd (s.qp i).txCount 1 := by
  obtain ⟨v, hv⟩ : ∃ v, v = (s.at t).setQp i { s.qp i with ref := true } := ⟨_, rfl⟩
  have hvq : v.qp i = { s.qp i with ref := true } := by simp [hv]
  have htouch : (s.at t).touch i = v := by
    rw [hv]
    exact (s.at t).touch_resident i hl
  obtain ⟨x, hx⟩ : ∃ x, x = v.setQp i { v.qp i with ackCount := 0, ackSince := none } := ⟨_, rfl⟩
  have hxq : x.qp i = { s.qp i with ref := true, ackCount := 0, ackSince := none } := by simp [hx, hvq]
  have hf : ∃ p, ackCoalescingTimeout i (s.at t) = x.sendPkt i p false := by
    have hdue : dueAt (s.at t).now a ((s.at t).ob 0x3100 3 * 1000) = true := decide_eq_true hd
    have hvd : dueAt v.now a (v.ob 0x3100 3 * 1000) = true := by rw [hv]; exact hdue
    have hvl : (v.qp i).loc = 0 := by rw [hvq]; exact hl
    have hva : (v.qp i).ackSince = some a := by rw [hvq]; exact ha
    have hvh : ¬ (v.qp i).ackHold.isSome = true := by
      rw [show (v.qp i).ackHold = none by rw [hvq]; exact hh]
      decide
    unfold ackCoalescingTimeout
    rw [show ((s.at t).qp i).ackSince = some a from ha]
    dsimp only
    rw [if_pos hdue, htouch, if_pos hvl, State.ackWaited, hva]
    dsimp only
    rw [if_pos hvd, State.sendAck, if_neg hvh, ← hx]
    exact ⟨_, rfl⟩
  obtain ⟨p, hf⟩ := hf
  obtain ⟨b, c, e, hq⟩ := x.sendPkt_qp i p false
  generalize x.sendPkt i p false = y at hf hq
  refine done_act rfl (decide_eq_true hi) hp fun u hu => ?_
  rw [hu, hf, show (s.after t y).qp i = y.qp i from rfl, hq, hxq]
  exact ⟨rfl, rfl, rfl⟩

theorem alphaTimer_decays (h : (s.qp i).state = 1 ∨ (s.qp i).state = 2) (hd : (s.qp i).alphaAt + s.ob 0x3110 9 * 1000 ≤ max s.now t)
    (hl : (s.qp i).loc ≠ 2) :
    Done (.alphaTimerExpiry t i) s fun u =>
      u = (s.at t).setQp i
        { s.qp i with alpha := binary32 ((1 - (s.ob 0x3110 8 : Rat) / 256) * (s.qp i).alpha), alphaAt := max s.now t } := by
  have hf : alphaTimerExpiry i (s.at t) = (s.at t).setQp i
      { s.qp i with alpha := binary32 ((1 - (s.ob 0x3110 8 : Rat) / 256) * (s.qp i).alpha), alphaAt := max s.now t } := by
    have hdue : dueAt (s.at t).now ((s.at t).qp i).alphaAt ((s.at t).ob 0x3110 9 * 1000) = true := decide_eq_true hd
    unfold alphaTimerExpiry
    dsimp only
    rw [if_pos ⟨h, hdue⟩, if_neg (show ¬ ((s.at t).qp i).loc = 2 from hl)]
    rfl
  refine done_act rfl (decide_eq_true hi) hp fun u hu => ?_
  rw [hu, hf]
  rfl

theorem windowAtFloor_told {w : Nat} (hw : (s.qp i).floorSince = some w) (hd : w + sNs ≤ max s.now t) (he : (s.qp i).floorEvent = false) :
    Done (.windowAtFloor t i) s fun u =>
      u.qp i = { s.qp i with floorEvent := true } ∧
      u.told .windowAtFloor [wireQpn i (s.qp i), (s.qp i).tenant, (s.qp i).remoteIp, (s.qp i).port, (s.qp i).window,
        real32 (s.qp i).alpha, real32 ((s.qp i).srtt.getD 0)] ∧ u = { s.logged u with rdma := u.rdma } := by
  obtain ⟨d, hdata⟩ : ∃ d, d = [wireQpn i (s.qp i), (s.qp i).tenant, (s.qp i).remoteIp, (s.qp i).port, (s.qp i).window,
    real32 (s.qp i).alpha, real32 ((s.qp i).srtt.getD 0)] := ⟨_, rfl⟩
  have hf : windowAtFloor i (s.at t) = ((s.at t).setQp i { s.qp i with floorEvent := true }).raise .windowAtFloor d := by
    have hc : (dueAt (s.at t).now w sNs && !((s.at t).qp i).floorEvent) = true := by
      rw [Bool.and_eq_true]
      exact ⟨decide_eq_true hd, by rw [show ((s.at t).qp i).floorEvent = false from he]; rfl⟩
    rw [hdata]
    unfold windowAtFloor
    dsimp only
    rw [show ((s.at t).qp i).floorSince = some w from hw]
    dsimp only
    rw [if_pos hc, ← hw]
    rfl
  rw [← hdata]
  refine done_act rfl (decide_eq_true hi) hp fun u hu => ?_
  rw [hf] at hu
  refine ⟨by simp [hu], by rw [hu]; exact State.told_raise _ _ _, State.Frame.eq (s := s) (ps := Part.logs ++ [.rdma]) (by simp [hu])⟩

end

end Sys2Proof.Machine
end
section
/-! CLAIM. A message goes through the open send gate (05 R177). -/

namespace Sys2Proof.Machine

section
variable {s : State} {p : Nat}

/-- A port whose link, holds and line are as they were is as busy as it was. -/
theorem State.lineBusy_congr {v : State} (hb : s.lineBusy p) (h3 : ∀ k, v.ob 0x3000 k = s.ob 0x3000 k) (hf : v.fab = s.fab)
    (he : (v.eg p).onLine = (s.eg p).onLine) (hx : (v.port p).SameLink (s.port p)) : v.lineBusy p := by
  obtain ⟨hup, hon⟩ := hb
  obtain ⟨hl, ho, hfl, hc, hs⟩ := hx
  have hst : v.portState p = s.portState p := by
    simp only [State.portState, State.portExists, State.modeOf, State.flushing, hl, ho, hfl, hc, h3, hf]
    rfl
  refine ⟨?_, by rw [he]; exact hon⟩
  rw [State.portUp, hst]
  exact hup

/-- Choosing no frame leaves a busy line busy, and the queue pairs. -/
theorem State.nextFrame_keeps (hb : s.lineBusy p) : (s.nextFrame p).lineBusy p ∧ (s.nextFrame p).rdma = s.rdma := by
  have hsame := fun q hq => State.same_of_frame (State.frame_nextFrame_busy s p (r := s) (ps := [.out, .dict, .eth, .sched]) hb (by simp)) q hq
  obtain ⟨b, hk⟩ := (s.ethKept_nextFrame p).1 p
  refine ⟨State.lineBusy_congr hb (fun k => ?_) (hsame .fab (by simp)) ?_ ?_, hsame .rdma (by simp)⟩
  · rw [State.ob_eq, State.ob_eq, State.o_of_objs (State.objs_nextFrame ..) _ _ _ (Dict.off_portMode k)]
  · rw [s.nextFrame_busy p hb, State.syncLpi, State.eg_setLpi, (s.each_refreshQueue_eg p _ p).2.2]
  · rw [hk]
    exact ⟨rfl, rfl, rfl, rfl, rfl⟩

/-- A frame behind one on the line stays there. -/
theorem State.enqueue_busy (hb : s.lineBusy p) (f : EgFrame) : (s.enqueue p f).lineBusy p ∧ (s.enqueue p f).rdma = s.rdma := by
  have hup : s.portUp p = true := hb.1
  unfold State.enqueue
  rw [hup]
  split
  · refine ⟨State.lineBusy_congr hb (fun k => ?_) rfl rfl ⟨rfl, rfl, rfl, rfl, rfl⟩, rfl⟩
    rw [State.ob_eq, State.ob_eq]
    exact (State.o_bump ..).trans (if_neg fun e => absurd (objKey_inj.1 e).1 (by decide))
  · rw [if_pos rfl]
    extract_lets g v e k old e1 e2
    have hv : (∀ k, v.ob 0x3000 k = s.ob 0x3000 k) ∧ v.fab = s.fab ∧ (v.eg p).onLine = (s.eg p).onLine ∧ v.port p = s.port p ∧
        v.rdma = s.rdma := by
      simp only [v]
      split
      · unfold State.meterClass0
        extract_lets b cost y
        split
        · exact ⟨fun k => rfl, rfl, by simp [y], rfl, rfl⟩
        · refine ⟨fun k => ?_, rfl, ?_, rfl, rfl⟩
          swap
          · change ((s.setEg p _).eg p).onLine = _
            simp [y]
          rw [State.ob_eq, State.ob_eq]
          exact (State.o_add ..).trans (if_neg fun e => absurd (objKey_inj.1 e).1 (by decide))
      · exact ⟨fun k => rfl, rfl, rfl, rfl, rfl⟩
    obtain ⟨h3, hfab, hon, hport, hr⟩ := hv
    have hline : (e2.onLine : Option EgFrame) = (v.eg p).onLine := by
      simp only [e2]
      split <;> rfl
    have hw : (v.setEg p e2).lineBusy p := by
      refine State.lineBusy_congr hb h3 hfab ?_ ?_
      · rw [← hon, ← hline]
        simp
      · rw [show (v.setEg p e2).port p = v.port p from rfl, hport]
        exact ⟨rfl, rfl, rfl, rfl, rfl⟩
    obtain ⟨h1, h2⟩ := State.nextFrame_keeps hw
    exact ⟨h1, h2.trans hr⟩

/-- A packet of a plain queue pair behind a frame on the line: only its counts move. -/
theorem State.sendPkt_busy {i : Nat} (hb : s.lineBusy (s.qp i).port) (ht : (s.qp i).twin = false) (hc : (s.qp i).copying = false) (k : TxPkt) :
    (s.sendPkt i k false).lineBusy (s.qp i).port ∧
      (s.sendPkt i k false).qp i = { s.qp i with txCount := satAdd (s.qp i).txCount 1 } := by
  unfold State.sendPkt
  extract_lets q p' f v both fit w x
  have hv : v.qp i = { s.qp i with txCount := satAdd (s.qp i).txCount 1 } := by simp [v, q]
  have hw : w = v := by
    simp only [w, hc, q]
    rfl
  have hx : x = v := by
    simp only [x, hw, ht, q]
    rfl
  rw [hx]
  obtain ⟨h1, h2⟩ := State.enqueue_busy (s := v) (p := q.port) hb f
  refine ⟨h1, ?_⟩
  rw [State.qp, h2, ← State.qp, hv]

/-- So do several. -/
theorem State.each_sendPkt_busy {i : Nat} (ks : List TxPkt) (hb : s.lineBusy (s.qp i).port) (ht : (s.qp i).twin = false)
    (hc : (s.qp i).copying = false) :
    ∃ n, (s.each ks fun s k => s.sendPkt i k false).qp i = { s.qp i with txCount := n } := by
  induction ks generalizing s with
  | nil => exact ⟨(s.qp i).txCount, rfl⟩
  | cons k ks ih =>
    obtain ⟨h1, h2⟩ := State.sendPkt_busy hb ht hc k
    obtain ⟨n, hn⟩ := ih (s := s.sendPkt i k false) (by rw [h2]; exact h1) (by rw [h2]; exact ht) (by rw [h2]; exact hc)
    refine ⟨n, hn.trans ?_⟩
    rw [h2]

end

theorem sendGate_passes {s : State} {t i : Nat} (hp : s.railsOn) (hi : i < 131072) {m : SendMsg} (hq : (s.qp i).sendQ = [m])
    (hg : (s.qp i).gateOpen m = true) (hm : m.read = none) (hplain : s.qpPlain i) (hb : s.lineBusy (s.qp i).port) :
    Done (.sendGatePass t i) s fun u =>
      (u.qp i).sendQ = [] ∧
      (u.qp i).sent = (s.qp i).sent ++ (numberPkts (s.qp i).nPsn m.pkts).map (keptPkt (max s.now t)) ∧
      (u.qp i).nPsn = (s.qp i).nPsn + BitVec.ofNat 24 m.pkts.length := by
  obtain ⟨ht, hc, -⟩ := hplain
  obtain ⟨v, hv⟩ : ∃ v, v = (s.at t).setQp i { s.qp i with sendQ := [] } := ⟨_, rfl⟩
  have hvq : v.qp i = { s.qp i with sendQ := [] } := by simp [hv]
  obtain ⟨w, hw⟩ : ∃ w, w = v.setQp i { v.qp i with
      nPsn := (v.qp i).nPsn + BitVec.ofNat 24 m.pkts.length, psnUsed := (v.qp i).psnUsed + m.pkts.length
      sent := (v.qp i).sent ++ (numberPkts (v.qp i).nPsn m.pkts).map (keptPkt v.now)
      ackTimer := if (v.qp i).ackTimer.isNone then some v.now else (v.qp i).ackTimer } := ⟨_, rfl⟩
  have hvn : v.now = max s.now t := by rw [hv]; rfl
  have hwq : w.qp i = { s.qp i with
      sendQ := [], nPsn := (s.qp i).nPsn + BitVec.ofNat 24 m.pkts.length, psnUsed := (s.qp i).psnUsed + m.pkts.length
      sent := (s.qp i).sent ++ (numberPkts (s.qp i).nPsn m.pkts).map (keptPkt (max s.now t))
      ackTimer := if (s.qp i).ackTimer.isNone then some (max s.now t) else (s.qp i).ackTimer } := by
    rw [hw, State.qp_setQp, if_pos rfl, hvq, hvn]
  obtain ⟨x, hx⟩ : ∃ x, x = w.each (numberPkts (v.qp i).nPsn m.pkts) fun s k => s.sendPkt i k false := ⟨_, rfl⟩
  have hwb : w.lineBusy (w.qp i).port := by
    rw [hwq, hw, hv]
    exact hb
  obtain ⟨n, hn⟩ := State.each_sendPkt_busy (numberPkts (v.qp i).nPsn m.pkts) hwb (by rw [hwq]; exact ht) (by rw [hwq]; exact hc)
  rw [← hx] at hn
  have hf : sendGatePass i (s.at t) = x := by
    have hsend : v.sendMsg i m = x := by
      have hch : x.qpChanged i = x := by
        refine if_neg ?_
        rw [State.mirrored, hn, hwq]
        simp [ht]
      refine Eq.trans ?_ hch
      rw [hx, hw]
      unfold State.sendMsg
      rw [hm]
    have hxs : (x.qp i).sendQ = [] := by rw [hn, hwq]
    have hpump : State.pump i 1 x = x := by
      rw [State.pump]
      rw [hxs]
    have hpump2 : State.pump i 2 (s.at t) = State.pump i 1 (v.sendMsg i m) := by
      rw [State.pump]
      rw [show ((s.at t).qp i).sendQ = [m] from hq]
      dsimp only
      rw [if_pos (show ((s.at t).qp i).gateOpen m = true from hg), hv]
      rfl
    rw [sendGatePass, State.pumpAll, show ((s.at t).qp i).sendQ = [m] from hq]
    exact hpump2.trans ((congrArg (State.pump i 1) hsend).trans hpump)
  refine done_act rfl (decide_eq_true hi) hp fun u hu => ?_
  rw [hu, hf, show (s.after t x).qp i = x.qp i from rfl, hn, hwq]
  exact ⟨rfl, rfl, rfl⟩

/-- Settles O23. -/
theorem qpTimerActs : Obligations.QpTimerActs := by
  intro s t i hp hi
  exact ⟨fun _ hw hd h2 hl hwait hr hne hsrc => localAckTimeout_repeats hp hi hw hd h2 hl hwait hr hne hsrc,
    fun _ _ _ hw hd hf h2 hl hsrc => rnrTimer_ends hp hi hw hd hf h2 hl hsrc, fun _ _ hw hd h2 hl => rnrWallTime_fails hp hi hw hd h2 hl,
    fun _ ha hd hl hh => ackCoalescing_ends hp hi ha hd hl hh, fun _ hq hg hm hplain hb => sendGate_passes hp hi hq hg hm hplain hb,
    fun h hd hl => alphaTimer_decays hp hi h hd hl, fun _ hw hd he => windowAtFloor_told hp hi hw hd he⟩

end Sys2Proof.Machine
end

section
/-! CLAIM. Packets that reach a queue pair in RTS (05 R169 to R186). -/

namespace Sys2Proof.Machine

section
variable {s : State} {i : Nat} {p : RocePkt}

/-- A packet that a resident queue pair in RTS takes: it is counted, and goes to what its opcode asks. -/
theorem State.receive_takes (h : s.qpTakes i p) :
    ∃ v, v.qp i = { s.qp i with ref := true, rxCount := satAdd (s.qp i).rxCount 1 } ∧
      s.Frame [.out, .dict, .sess, .ev, .rings, .rdma, .meter] v ∧ (∀ k, Dict.off 0x3110 k = true → v.ob 0x3110 k = s.ob 0x3110 k) ∧
      (p.op = .sendMiddle → s.receive p = v.rxSend i p) ∧
      (p.op = .acknowledge → p.syndrome < 32 → s.receive p = v.rxAck i p s.now) ∧
      (p.op = .acknowledge → ¬ p.syndrome < 32 → s.receive p = v.rxNak i p s.now) ∧
      (p.op = .readRespMiddle → s.receive p = v.rxResponse i p s.now) ∧
      (p.op = .cnp → s.receive p = v.rxCnp i) := by
  obtain ⟨hs, hst, hic, hq1, htv, hi, hl, h2, hip, hport, hif, hpk, hce⟩ := h
  obtain ⟨x, hx⟩ : ∃ x, x = (s.setQp i { s.qp i with ref := true }).perf (412 + sliceOf i) 1 := ⟨_, rfl⟩
  have hxq : x.qp i = { s.qp i with ref := true } := by
    rw [hx]
    exact (State.qp_setQp ..).trans (if_pos rfl)
  obtain ⟨v, hv⟩ : ∃ v, v = (x.setQp i { x.qp i with rxCount := satAdd (x.qp i).rxCount 1 }).meterAddAt
      (x.ptpNow - (p.frameLen * 8 / max 1 (x.rate p.port) : Nat)) (x.qp i).tenant 9 p.frameLen := ⟨_, rfl⟩
  have hvq : v.qp i = { s.qp i with ref := true, rxCount := satAdd (s.qp i).rxCount 1 } := by
    rw [hv, State.qp, State.same_of_frame (State.frame_meterAddAt (ps := [.out, .dict, .sess, .ev, .rings, .meter]) _ _ _ _ (by simp)) .rdma,
      ← State.qp, State.qp_setQp, if_pos rfl, hxq]
  have hreach : p.op ≠ .other → s.receive p = x.rxResident i p s.now := fun hop => by
    have hcn : s.commitsNow i = false := by
      unfold State.commitsNow
      rw [hl]
      rfl
    have hcp : (if s.commitsNow i then s.commitParking i else s) = s := by
      rw [hcn]
      rfl
    unfold State.receive
    rw [if_neg (by rw [hs]; decide), hst, hic, if_neg (by decide), if_neg (by decide), if_neg hq1, if_neg (by rw [htv]; simp [hop]), hi]
    dsimp only
    rw [hcp, s.touch_resident i hl, ← hx, if_pos (by rw [hxq]; exact hl), show x.now = s.now by rw [hx]; rfl]
  have hres : x.rxResident i p s.now = match p.op with
      | .writeFirst | .writeMiddle | .writeLast | .writeOnly | .rdmaReadRequest => v.nakFail i 8 0x62 p
      | .atomic | .immediate | .sendInvalidate => v.nakFail i 9 0x61 p
      | .sendFirst | .sendMiddle | .sendLast | .sendOnly => v.rxSend i p
      | .acknowledge => if p.syndrome < 32 then v.rxAck i p s.now else v.rxNak i p s.now
      | .readRespFirst | .readRespMiddle | .readRespLast | .readRespOnly => v.rxResponse i p s.now
      | .cnp => v.rxCnp i
      | .other => v := by
    have hans : v.answerCe i p = v := by rw [State.answerCe, if_pos hce]
    unfold State.rxResident
    dsimp only
    rw [if_neg (by rw [hxq, h2]; decide), if_neg (by rw [hxq]; simp [hip, hport, hif]), if_neg (by rw [hxq]; simp [hpk]), ← hv, hans] <;> rfl
  have hframe : s.Frame [.out, .dict, .sess, .ev, .rings, .rdma, .meter] v := by
    rw [hv, State.frame_meterAddAt _ _ _ _ (by simp), State.frame_setQp _ _ (by simp), hx, State.frame_perf _ _ (by simp),
      State.frame_setQp _ _ (by simp)]
    exact State.Frame.refl _ _
  refine ⟨v, hvq, hframe, fun k hk => ?_, fun h => ?_, fun h h' => ?_, fun h h' => ?_, fun h => ?_, fun h => ?_⟩
  · rw [State.ob_eq, State.ob_eq, hv, State.o_of_objs (State.objs_meterAddAt ..) _ _ _ hk, State.o_setQp, hx,
      State.o_of_objs (State.objs_perf ..) _ _ _ hk, State.o_setQp]
  · rw [hreach (by rw [h]; decide), hres, h]
  · rw [hreach (by rw [h]; decide), hres, h]
    exact if_pos h'
  · rw [hreach (by rw [h]; decide), hres, h]
    exact if_neg h'
  · rw [hreach (by rw [h]; decide), hres, h]
  · rw [hreach (by rw [h]; decide), hres, h]

/-! ### SEND -/

/-- Telling the peer of a capsule's packet moves the acknowledgement's hold alone. -/
theorem State.tellCapsule_qp (s : State) (i : Nat) (p : RocePkt) : ∃ a, (s.tellCapsule i p).qp i = { s.qp i with ackHold := a } := by
  unfold State.tellCapsule
  extract_lets q v n y
  split
  · have hv : v.qp i = s.qp i := by
      rw [State.qp, State.same_of_frame (State.frame_sendRec (ps := [.out, .dict, .twin]) _ _ _ _ _ (by simp)) .rdma, State.qp]
    refine ⟨some n, ?_⟩
    rw [State.qp, State.same_of_frame (State.frame_qpChanged (ps := [.out, .dict, .twin]) i (by simp)) .rdma, ← State.qp, State.qp_setQp,
      if_pos rfl, show y = s.qp i from hv]
  · exact ⟨(s.qp i).ackHold, rfl⟩

/-- Counting a packet toward an acknowledgement. -/
theorem State.ackLater_qp (s : State) (i : Nat) (asked : Bool) : ∃ a b c d e f g h, (s.ackLater i asked).qp i =
    { s.qp i with
      ackCount := a, ackSince := b, ackDue := c, sent := d, reads := e, txCount := f, retxCount := g, copying := h } := by
  unfold State.ackLater
  extract_lets q q' v
  have hv : v.qp i = q' := by simp [v]
  split
  · unfold State.sendAck
    extract_lets y
    split
    · exact ⟨_, _, true, q.sent, q.reads, q.txCount, q.retxCount, q.copying, by rw [State.qp_setQp, if_pos rfl, show y = q' from hv]⟩
    · obtain ⟨a, b, c, d, e, h⟩ := (v.setQp i { v.qp i with ackCount := 0, ackSince := none }).qpWire_sendPkt i
        { op := .acknowledge, psn := (v.qp i).ePsn - 1, syndrome := creditCode (v.qp i).bufs
          msn := ((v.setQp i { v.qp i with ackCount := 0, ackSince := none }).qp i).msn } false i
      refine ⟨0, none, q.ackDue, a, b, c, d, e, ?_⟩
      refine h.trans ?_
      rw [State.qp_setQp, if_pos rfl, hv]
  · exact ⟨_, _, q.ackDue, q.sent, q.reads, q.txCount, q.retxCount, q.copying, hv⟩

theorem State.rxSend_middle (h2 : (s.qp i).state = 2) (hop : p.op = .sendMiddle) (hpsn : p.psn = (s.qp i).ePsn) (hrow : sendRow (s.qp i) p = 0) :
    ((s.rxSend i p).qp i).ePsn = p.psn + 1 ∧ ((s.rxSend i p).qp i).openBytes = some ((s.qp i).openBytes.getD 0 + p.payload) ∧
      ((s.rxSend i p).qp i).rxCount = (s.qp i).rxCount := by
  obtain ⟨v, hv⟩ : ∃ v, v = s.setQp i { s.qp i with nakSent := false } := ⟨_, rfl⟩
  have hvq : v.qp i = { s.qp i with nakSent := false } := by simp [hv]
  have hopen : RoceOp.opens p.op = false := by rw [hop]; rfl
  have hclose : RoceOp.closes p.op = false := by rw [hop]; rfl
  obtain ⟨cap, hcap⟩ : ∃ cap, cap = (match p.capsule with | some c => some c | none => (v.qp i).openCapsule) := ⟨_, rfl⟩
  obtain ⟨x, hx⟩ : ∃ x, x = v.setQp i { v.qp i with
    ePsn := (v.qp i).ePsn + 1, nakSent := false, openBytes := some ((v.qp i).openBytes.getD 0 + p.payload), openCapsule := cap } := ⟨_, rfl⟩
  have hf : s.rxSend i p = (x.tellCapsule i p).ackLater i p.ackReq := by
    have hrts : v.enterRts i = v := if_neg (by rw [hvq, h2]; decide)
    have hexec : v.execSend i p = (x.tellCapsule i p).ackLater i p.ackReq := by
      unfold State.execSend
      rw [hopen, hclose, hx, hcap]
      rfl
    unfold State.rxSend
    dsimp only
    rw [if_neg (not_not.2 hpsn), hrow, if_neg (by decide), if_neg (by decide), ← hv, hrts, hopen]
    exact hexec
  obtain ⟨a, ha⟩ := x.tellCapsule_qp i p
  obtain ⟨a', b, c, d, e, f, g, h, hq⟩ := (x.tellCapsule i p).ackLater_qp i p.ackReq
  rw [hf, hq, ha, hx, State.qp_setQp, if_pos rfl, hvq, hpsn]
  exact ⟨rfl, rfl, rfl⟩

/-! ### What an acknowledgement retires -/

/-- A queue pair that makes progress: its timers and retries. -/
def Qp.Progressed (q r : Qp) : Prop :=
  ∃ a b c d e f, (c = q.rnrRetries ∨ c = q.rnrCount) ∧ r = { q with
    ackTimer := a, retries := b, rnrRetries := c, rnrFirst := d, rnrUntil := e, oldest := f }

/-- A queue pair that took round-trip times: those, and its window. -/
def Qp.Sampled (q r : Qp) : Prop :=
  ∃ a b c d e f, r = { q with srtt := a, rtts := b, window := c, floorSince := d, floorEvent := e, lastDecrease := f }

theorem Qp.Sampled.refl (q : Qp) : q.Sampled q := ⟨q.srtt, q.rtts, q.window, q.floorSince, q.floorEvent, q.lastDecrease, rfl⟩

theorem Qp.Sampled.trans {q r x : Qp} (h : q.Sampled r) (h' : r.Sampled x) : q.Sampled x := by
  obtain ⟨a, b, c, d, e, f, rfl⟩ := h
  obtain ⟨a', b', c', d', e', f', rfl⟩ := h'
  exact ⟨a', b', c', d', e', f', rfl⟩

theorem State.progress_qp (s : State) (q : Qp) : q.Progressed (s.progress q) := by
  unfold State.progress
  extract_lets r
  split
  · exact ⟨_, q.retries, q.rnrRetries, q.rnrFirst, q.rnrUntil, q.oldest, .inl rfl, rfl⟩
  · exact ⟨_, _, q.rnrCount, none, none, _, .inr rfl, rfl⟩

theorem State.setWindow_qp (s : State) (q : Qp) (w : Rat) : q.Sampled (s.setWindow q w) := by
  unfold State.setWindow
  extract_lets v
  split
  · exact ⟨q.srtt, q.rtts, _, _, q.floorEvent, q.lastDecrease, rfl⟩
  · exact ⟨q.srtt, q.rtts, _, _, _, q.lastDecrease, rfl⟩

theorem State.onRtt_qp (s : State) (q : Qp) (r : Rat) (n : Nat) : q.Sampled (s.onRtt q r n) := by
  unfold State.onRtt
  extract_lets q' target f
  have h1 : q.Sampled q' := ⟨_, _, q.window, q.floorSince, q.floorEvent, q.lastDecrease, rfl⟩
  split
  · split
    · have h2 : q'.Sampled { q' with lastDecrease := some s.now } := ⟨q'.srtt, q'.rtts, q'.window, q'.floorSince, q'.floorEvent, _, rfl⟩
      exact h1.trans (h2.trans (s.setWindow_qp _ _))
    · exact h1.trans (s.setWindow_qp _ _)
  · exact h1.trans (s.setWindow_qp _ _)

theorem State.takeSamples_qp (s : State) (q : Qp) (t : Nat) (xs : List (Nat × Nat)) : q.Sampled (s.takeSamples q t xs) := by
  unfold State.takeSamples
  induction xs generalizing q with
  | nil => exact .refl q
  | cons x xs ih => exact (s.onRtt_qp q _ _).trans (ih _)

/-- A CNP moves alpha, and the window with it. -/
theorem State.onCnp_qp (s : State) (q : Qp) :
    (s.onCnp q).alpha = binary32 ((1 - (s.ob 0x3110 8 : Rat) / 256) * q.alpha + (s.ob 0x3110 8 : Rat) / 256) ∧
      (s.onCnp q).alphaAt = s.now := by
  unfold State.onCnp
  extract_lets g q'
  split
  · obtain ⟨a, b, c, d, e, f, h⟩ := s.setWindow_qp { q' with lastDecrease := some s.now } ((q'.window : Rat) * (1 - q'.alpha / 2))
    rw [h]
    exact ⟨rfl, rfl⟩
  · obtain ⟨a, b, c, d, e, f, h⟩ := s.setWindow_qp q' q'.window
    rw [h]
    exact ⟨rfl, rfl⟩

/-- What an acknowledgement of a PSN leaves of the packets sent. -/
def Qp.left (q : Qp) (psn : Psn) : List SentPkt := q.sent.filter fun x => !(x.pkt.psn == psn || psnBehind x.pkt.psn psn)

/-- Where no packet owes a completion, an acknowledgement ends no command: it covers nothing, or the packets that it
covers are gone, and with them what would be sent again. -/
theorem State.retire_plain (s : State) (i : Nat) (psn : Psn) (t : Nat) (hc : ∀ x ∈ (s.qp i).sent, x.pkt.cqe = none) :
    s.retire i psn t = (s, []) ∧ (s.qp i).left psn = (s.qp i).sent ∨
      ∃ l r x b, ((s.qp i).resend = [] → l = []) ∧ Qp.Progressed { s.qp i with sent := (s.qp i).left psn, resend := l } r ∧ r.Sampled x ∧
        s.retire i psn t = ((s.setQp i x).when b fun s => s.dropRetx i psn, []) := by
  unfold State.retire
  extract_lets q past acked left again q' x done v
  have hdone : done = [] := List.filterMap_eq_nil_iff.2 fun u hu => by
    rw [hc u (List.mem_of_mem_filter hu)]
    rfl
  split
  next hemp =>
    refine .inl ⟨rfl, List.filter_eq_self.2 fun u hu => ?_⟩
    have hnil : acked = [] := List.isEmpty_iff.1 hemp
    have := List.filter_eq_nil_iff.1 hnil u hu
    simpa [past] using this
  next =>
    refine .inr ⟨again, _, _, _, fun h => ?_, s.progress_qp _, s.takeSamples_qp _ t _, by rw [hdone]; rfl⟩
    change q.resend.filter _ = []
    rw [show q.resend = [] from h]
    rfl

/-- What ends no command ends no queue pair that waits for its last response. -/
theorem State.retireTo_of {v : State} {psn : Psn} {t : Nat} (h : s.retire i psn t = (v, [])) (hv : (v.qp i).twin = false) :
    s.retireTo i psn t = v := by
  have hch : v.qpChanged i = v := by
    unfold State.qpChanged State.mirrored
    rw [hv]
    rfl
  unfold State.retireTo
  rw [h]
  change (if Option.any ([] : List Nat).contains ((v.qpChanged i).qp i).ending = true then (v.qpChanged i).qpDown i 8 0 0 else v.qpChanged i) = v
  rw [hch]
  cases (v.qp i).ending <;> rfl

/-- A plain queue pair that retires up to a PSN keeps what lies beyond it. -/
theorem State.retireTo_qp (s : State) (i : Nat) (psn : Psn) (t : Nat) (ht : (s.qp i).twin = false) (hc : ∀ x ∈ (s.qp i).sent, x.pkt.cqe = none) :
    s.Frame [.sched, .rdma] (s.retireTo i psn t) ∧ ∃ l r x, ((s.qp i).resend = [] → l = []) ∧
      Qp.Progressed { s.qp i with sent := (s.qp i).left psn, resend := l } r ∧ r.Sampled x ∧
        (s.retireTo i psn t).qp i = x := by
  obtain ⟨h, hleft⟩ | ⟨l, r, x, b, hl, hr, hx, h⟩ := s.retire_plain i psn t hc
  · rw [State.retireTo_of h ht]
    refine ⟨State.Frame.refl _ _, (s.qp i).resend, s.qp i, s.qp i, id, ?_, .refl _, rfl⟩
    rw [hleft]
    exact ⟨_, _, _, _, _, _, .inl rfl, rfl⟩
  · obtain ⟨v, hv⟩ : ∃ v, v = (s.setQp i x).when b fun s => s.dropRetx i psn := ⟨_, rfl⟩
    have hdrop : (s.setQp i x).Frame [.sched] v := by
      rw [hv]
      cases b
      · exact State.Frame.refl _ _
      · exact (State.frame_dropRetx i psn (by simp)).2 (State.Frame.refl _ _)
    have hvq : v.qp i = x := by
      have := hdrop.same .rdma
      rw [State.qp, this, ← State.qp, State.qp_setQp, if_pos rfl]
    have htw : (v.qp i).twin = false := by
      obtain ⟨a, b, c, d, e, f, -, rfl⟩ := hr
      obtain ⟨a, b, c, d, e, f, rfl⟩ := hx
      rw [hvq]
      exact ht
    rw [State.retireTo_of (hv ▸ h) htw]
    exact ⟨((State.frame_setQp _ _ (by simp)).2 (State.Frame.refl _ _)).trans (hdrop.mono (by simp)), l, r, x, hl, hr, hx, hvq⟩

/-- What a plain queue pair holds once it retired up to a PSN, field by field. -/
theorem State.retireTo_fields (s : State) (i : Nat) (psn : Psn) (t : Nat) (ht : (s.qp i).twin = false) (hc : ∀ x ∈ (s.qp i).sent, x.pkt.cqe = none) :
    ((s.retireTo i psn t).qp i).sent = (s.qp i).left psn ∧ ((s.qp i).resend = [] → ((s.retireTo i psn t).qp i).resend = []) ∧
      ((s.retireTo i psn t).qp i).sendQ = (s.qp i).sendQ ∧ ((s.retireTo i psn t).qp i).reads = (s.qp i).reads ∧
      ((s.retireTo i psn t).qp i).rxCount = (s.qp i).rxCount ∧ ((s.retireTo i psn t).qp i).nakRx = (s.qp i).nakRx ∧
      ((s.retireTo i psn t).qp i).rnrCount = (s.qp i).rnrCount ∧
      (((s.retireTo i psn t).qp i).rnrRetries = (s.qp i).rnrRetries ∨ ((s.retireTo i psn t).qp i).rnrRetries = (s.qp i).rnrCount) := by
  obtain ⟨-, l, r, x, hl, ⟨_, _, c, _, _, _, hcnt, rfl⟩, ⟨_, _, _, _, _, _, rfl⟩, hx⟩ := s.retireTo_qp i psn t ht hc
  rw [hx]
  exact ⟨rfl, hl, rfl, rfl, rfl, rfl, rfl, hcnt⟩

/-- An RNR NAK that leaves a retry makes the queue pair wait. -/
theorem State.rxRnr_waits (s : State) (i : Nat) (p : RocePkt) (t : Nat) (ht : (s.qp i).twin = false) (hc : ∀ x ∈ (s.qp i).sent, x.pkt.cqe = none)
    (hrnr : (s.qp i).rnrCount = 7 ∨ (s.qp i).rnrCount ≠ 0 ∧ (s.qp i).rnrRetries ≠ 0) :
    ((s.rxRnr i p t).qp i).nakRx = (s.qp i).nakRx ∧ ((s.rxRnr i p t).qp i).rnrUntil = some (s.now + rnrTime p.syndrome) ∧
      ((s.rxRnr i p t).qp i).ackTimer = none := by
  obtain ⟨-, -, -, -, -, hnak, hcount, hleft⟩ := s.retireTo_fields i (p.psn - 1) t ht hc
  obtain ⟨hfr, -⟩ := s.retireTo_qp i (p.psn - 1) t ht hc
  obtain ⟨y, hy⟩ : ∃ y, y = s.retireTo i (p.psn - 1) t := ⟨_, rfl⟩
  rw [← hy] at hnak hcount hleft hfr
  have hnow : y.now = s.now := hfr.same .now
  have hwait : ¬ ((y.qp i).rnrCount ≠ 7 ∧ (y.qp i).rnrRetries = 0) := by omega
  unfold State.rxRnr
  dsimp only
  rw [← hy, if_neg hwait, State.qp_setQp, if_pos rfl, ← hnow, ← hnak]
  exact ⟨rfl, rfl, rfl⟩

theorem Qp.Progressed.fields {q r : Qp} (h : q.Progressed r) : r.reads = q.reads ∧ r.resend = q.resend ∧ r.sendQ = q.sendQ := by
  obtain ⟨_, _, _, _, _, _, -, rfl⟩ := h
  exact ⟨rfl, rfl, rfl⟩

theorem Qp.Sampled.fields {q r : Qp} (h : q.Sampled r) : r.reads = q.reads ∧ r.resend = q.resend ∧ r.sendQ = q.sendQ := by
  obtain ⟨_, _, _, _, _, _, rfl⟩ := h
  exact ⟨rfl, rfl, rfl⟩

/-- Where a response puts what it brings in the reads of its queue pair. -/
def ReadReq.landed (r : ReadReq) (n : Nat) (x : ReadReq) : ReadReq :=
  if x.psn = r.psn then { x with got := r.got + n, most := max x.most (r.got + n), dropping := false } else x

/-- A response that leaves data to come moves its read on. -/
theorem State.landResp_reads (s : State) (i : Nat) (r : ReadReq) (p : RocePkt) (t : Nat) (ht : (s.qp i).twin = false)
    (hc : ∀ x ∈ (s.qp i).sent, x.pkt.cqe = none) (hmore : r.got + p.payload < r.len) (hq0 : (s.qp i).sendQ = [])
    (hr0 : (s.qp i).resend = []) (hcmd : Tbl.has s.nvme.cmds r.cmd = false) :
    ((s.landResp i r p t).qp i).reads = (s.qp i).reads.map (r.landed p.payload) := by
  obtain ⟨-, hres, hsq, hreads, -⟩ := s.retireTo_fields i (r.psn - 1) t ht hc
  obtain ⟨hfr, -⟩ := s.retireTo_qp i (r.psn - 1) t ht hc
  obtain ⟨y, hy⟩ : ∃ y, y = s.retireTo i (r.psn - 1) t := ⟨_, rfl⟩
  rw [← hy] at hres hsq hreads hfr
  have hnv : y.nvme = s.nvme := hfr.same .nvme
  obtain ⟨x, hx⟩ : ∃ x, x = { y.qp i with reads := (y.qp i).reads.map (r.landed p.payload) } := ⟨_, rfl⟩
  have hxf : x.reads = (s.qp i).reads.map (r.landed p.payload) ∧ x.resend = [] ∧ x.sendQ = [] := by
    rw [hx, ← hreads]
    exact ⟨rfl, hres hr0, hsq.trans hq0⟩
  obtain ⟨q, hqs, hq⟩ : ∃ q, (y.progress x).Sampled q ∧
      q = if r.got = 0 ∧ r.retx = false then y.onRtt (y.progress x) (((t - r.at_ : Nat) : Rat) / 1000) r.len else y.progress x := by
    refine ⟨_, ?_, rfl⟩
    split
    · exact y.onRtt_qp _ _ _
    · exact .refl _
  obtain ⟨h1, h2, h3⟩ := hqs.fields
  obtain ⟨h4, h5, h6⟩ := (y.progress_qp x).fields
  obtain ⟨h7, h8, h9⟩ := hxf
  have hvq : (y.setQp i q).qp i = q := by simp
  have hbring : ∀ off data, (y.setQp i q).bringData r.cmd off p.payload data = y.setQp i q := fun off data =>
    if_neg (by rw [show (y.setQp i q).nvme.cmds = s.nvme.cmds from congrArg _ hnv, hcmd]; decide)
  have hidle : (y.setQp i q).afterAck i = y.setQp i q :=
    State.afterAck_idle _ _ (by rw [hvq, h2, h5, h8]) (by rw [hvq, h3, h6, h9])
  have hf : s.landResp i r p t = y.setQp i q := by
    have hnl : ¬ r.len ≤ r.got + p.payload := by omega
    unfold State.landResp
    simp only [hnl, if_false, ← hy]
    rw [hq, hx] at *
    exact (congrArg (fun v => State.afterAck v i) (hbring _ _)).trans hidle
  rw [hf, hvq, h1, h4, h7]

end

/-! ### The clauses -/

theorem State.qp_after (s : State) (t : Nat) (v : State) (i : Nat) : (s.after t v).qp i = v.qp i := rfl

section
variable {s : State} {t i : Nat} {p : RocePkt} (hp : s.railsOn) (hport : p.port < 32)

include hp hport

theorem requestPacket_taken (h : s.qpTakes i p) (hop : p.op = .sendMiddle) (hpsn : p.psn = (s.qp i).ePsn) (hrow : sendRow (s.qp i) p = 0) :
    Done (.roceRequestPacket t p) s fun u =>
      (u.qp i).ePsn = p.psn + 1 ∧ (u.qp i).openBytes = some ((s.qp i).openBytes.getD 0 + p.payload) ∧
      (u.qp i).rxCount = satAdd (s.qp i).rxCount 1 := by
  obtain ⟨v, hv, -, -, hsend, -⟩ := State.receive_takes (s := s.at t) h
  have hq : v.qp i = { s.qp i with ref := true, rxCount := satAdd (s.qp i).rxCount 1 } := hv
  obtain ⟨h1, h2, h3⟩ := State.rxSend_middle (s := v) (i := i) (p := p) (by rw [hq]; exact h.2.2.2.2.2.2.2.1) hop (by rw [hq]; exact hpsn)
    (by rw [hq]; exact hrow)
  refine done_act rfl (decide_eq_true hport) hp fun u hu => ?_
  rw [hu, roceRequestPacket, hsend hop, State.qp_after, h1, h2, h3, hq]
  exact ⟨rfl, rfl, rfl⟩

theorem requestPacket_icrc (hs : s.portServes p.port = true) (hst : p.stomped = false) (hic : p.icrcOk = false) :
    Done (.roceRequestPacket t p) s fun u => u = (s.at t).bump 0x3122 0 2 := by
  have hf : roceRequestPacket p (s.at t) = (s.at t).bump 0x3122 0 2 := by
    rw [roceRequestPacket, State.receive, if_neg (by rw [show (s.at t).portServes p.port = true from hs]; decide), hst,
      if_neg (by decide), if_pos hic]
  refine done_act rfl (decide_eq_true hport) hp fun u hu => ?_
  rw [hu, hf]
  rfl

theorem ack_retires (h : s.qpTakes i p) (hplain : s.qpPlain i) (hop : p.op = .acknowledge) (hsyn : p.syndrome < 32)
    (hsent : (s.qp i).hasSent p.psn = true) (hq0 : (s.qp i).sendQ = []) (hr0 : (s.qp i).resend = []) :
    Done (.roceAck t p) s fun u =>
      (u.qp i).sent = (s.qp i).sent.filter (fun x => !(x.pkt.psn == p.psn || psnBehind x.pkt.psn p.psn)) ∧
      (u.qp i).rxCount = satAdd (s.qp i).rxCount 1 := by
  obtain ⟨ht, -, hc⟩ := hplain
  obtain ⟨v, hv, -, -, -, hack, -⟩ := State.receive_takes (s := s.at t) h
  have hq : v.qp i = { s.qp i with ref := true, rxCount := satAdd (s.qp i).rxCount 1 } := hv
  obtain ⟨hleft, hres, hsq, -, hrx, -⟩ := v.retireTo_fields i p.psn (s.at t).now (by rw [hq]; exact ht) (by rw [hq]; exact hc)
  have hf : roceAck p (s.at t) = v.retireTo i p.psn (s.at t).now := by
    have hidle : (v.retireTo i p.psn (s.at t).now).afterAck i = v.retireTo i p.psn (s.at t).now :=
      State.afterAck_idle _ _ (hres (by rw [hq]; exact hr0)) (by rw [hsq, hq]; exact hq0)
    rw [roceAck, hack hop hsyn, State.rxAck]
    exact (if_pos (by rw [hq]; exact hsent)).trans hidle
  refine done_act rfl (decide_eq_true hport) hp fun u hu => ?_
  rw [hu, hf, State.qp_after, hleft, hrx, hq]
  exact ⟨rfl, rfl⟩

theorem rnrNak_waits (h : s.qpTakes i p) (hplain : s.qpPlain i) (hop : p.op = .acknowledge) (hsyn : p.syndrome / 32 = 1)
    (hsent : (s.qp i).hasSent p.psn = true) (hrnr : (s.qp i).rnrCount = 7 ∨ (s.qp i).rnrCount ≠ 0 ∧ (s.qp i).rnrRetries ≠ 0) :
    Done (.roceNak t p) s fun u =>
      (u.qp i).nakRx = satAdd (s.qp i).nakRx 1 ∧ (u.qp i).rnrUntil = some (max s.now t + rnrTime p.syndrome) ∧
      (u.qp i).ackTimer = none := by
  obtain ⟨ht, -, hc⟩ := hplain
  obtain ⟨v, hv, hframe, -, -, -, hnak, -⟩ := State.receive_takes (s := s.at t) h
  have hq : v.qp i = { s.qp i with ref := true, rxCount := satAdd (s.qp i).rxCount 1 } := hv
  have hnow : v.now = max s.now t := hframe.same .now
  obtain ⟨w, hw⟩ : ∃ w, w = v.setQp i { v.qp i with nakRx := satAdd (v.qp i).nakRx 1 } := ⟨_, rfl⟩
  have hwq : w.qp i = { s.qp i with ref := true, rxCount := satAdd (s.qp i).rxCount 1, nakRx := satAdd (s.qp i).nakRx 1 } := by
    rw [hw, State.qp_setQp, if_pos rfl, hq]
  have hf : roceNak p (s.at t) = w.rxRnr i p (s.at t).now := by
    rw [roceNak, hnak hop (by omega), State.rxNak]
    dsimp only
    rw [if_neg (by rw [show Qp.hasSent (v.qp i) p.psn = true by rw [hq]; exact hsent]; decide), if_pos hsyn, ← hw]
  obtain ⟨h1, h2, h3⟩ := w.rxRnr_waits i p (s.at t).now (by rw [hwq]; exact ht) (by rw [hwq]; exact hc) (by rw [hwq]; exact hrnr)
  refine done_act rfl (decide_eq_true hport) hp fun u hu => ?_
  rw [hu, hf, State.qp_after, h1, h2, h3, hwq, ← hnow, hw]
  exact ⟨rfl, rfl, rfl⟩

theorem readResponse_lands {r : ReadReq} (h : s.qpTakes i p) (hplain : s.qpPlain i) (hop : p.op = .readRespMiddle)
    (hread : (s.qp i).readOf p.psn = some r) (hdrop : r.dropping = false) (hk : (p.psn - r.psn).toNat = r.got / max 1 (s.qp i).mtu)
    (hfit : respFits (s.qp i) r (p.psn - r.psn).toNat p = true) (hmore : r.got + p.payload < r.len) (hq0 : (s.qp i).sendQ = [])
    (hr0 : (s.qp i).resend = []) (hcmd : Tbl.has s.nvme.cmds r.cmd = false) :
    Done (.rdmaReadResponse t p) s fun u =>
      (u.qp i).reads = (s.qp i).reads.map fun x =>
        if x.psn = r.psn then { x with got := r.got + p.payload, most := max x.most (r.got + p.payload), dropping := false } else x := by
  obtain ⟨ht, -, hc⟩ := hplain
  obtain ⟨v, hv, hframe, -, -, -, -, hresp, -⟩ := State.receive_takes (s := s.at t) h
  have hq : v.qp i = { s.qp i with ref := true, rxCount := satAdd (s.qp i).rxCount 1 } := hv
  have hcmds : v.nvme = s.nvme := hframe.same .nvme
  have hf : rdmaReadResponse p (s.at t) = v.landResp i r p (s.at t).now := by
    have hgot : ¬ ((p.psn - r.psn).toNat < r.got / max 1 (v.qp i).mtu ∨ r.dropping = true ∧ (p.psn - r.psn).toNat ≠ r.got / max 1 (v.qp i).mtu) := by
      rw [show (v.qp i).mtu = (s.qp i).mtu by rw [hq], hdrop, ← hk]
      simp
    rw [rdmaReadResponse, hresp hop, State.rxResponse]
    dsimp only
    rw [show (v.qp i).readOf p.psn = some r by rw [hq]; exact hread]
    dsimp only
    rw [if_neg hgot, if_neg (by rw [show (v.qp i).mtu = (s.qp i).mtu by rw [hq]]; omega), if_pos (by rw [hq]; exact hfit)]
  have hland := v.landResp_reads i r p (s.at t).now (by rw [hq]; exact ht) (by rw [hq]; exact hc) hmore (by rw [hq]; exact hq0)
    (by rw [hq]; exact hr0) (by rw [hcmds]; exact hcmd)
  refine done_act rfl (decide_eq_true hport) hp fun u hu => ?_
  rw [hu, hf, State.qp_after, hland, hq]
  rfl

theorem cnp_counted (h : s.qpTakes i p) (hop : p.op = .cnp) :
    Done (.cnpReceived t p) s fun u =>
      (u.qp i).cnpRx = satAdd (s.qp i).cnpRx 1 ∧ (u.qp i).alphaAt = max s.now t ∧
      (u.qp i).alpha = binary32 ((1 - (s.ob 0x3110 8 : Rat) / 256) * (s.qp i).alpha + (s.ob 0x3110 8 : Rat) / 256) := by
  obtain ⟨v, hv, hframe, hob, -, -, -, -, hcnp⟩ := State.receive_takes (s := s.at t) h
  have hq : v.qp i = { s.qp i with ref := true, rxCount := satAdd (s.qp i).rxCount 1 } := hv
  have hnow : v.now = max s.now t := hframe.same .now
  have hval : v.ob 0x3110 8 = s.ob 0x3110 8 := hob 8 (by decide)
  have hf : cnpReceived p (s.at t) = v.setQp i { v.onCnp (v.qp i) with cnpRx := satAdd (v.qp i).cnpRx 1 } := by
    rw [cnpReceived, hcnp hop]
    exact if_pos (by rw [hq]; exact h.2.2.2.2.2.2.2.1)
  obtain ⟨h1, h2⟩ := v.onCnp_qp (v.qp i)
  refine done_act rfl (decide_eq_true hport) hp fun u hu => ?_
  rw [hu, hf, State.qp_after, State.qp_setQp, if_pos rfl, ← hval, ← hnow]
  refine ⟨?_, h2, ?_⟩
  · rw [hq]
  · change (v.onCnp (v.qp i)).alpha = _
    rw [h1, hq]

end

/-- Settles O22: a packet that the queue pair takes is counted and goes to what its opcode asks (`State.receive_takes`),
and what an acknowledgement retires is `State.retireTo_qp`. -/
theorem qpPacketActs : Obligations.QpPacketActs := by
  intro s t i hp _
  exact ⟨fun _ hport h hop hpsn hrow => requestPacket_taken hp hport h hop hpsn hrow,
    fun _ hport hs hst hic => requestPacket_icrc hp hport hs hst hic,
    fun _ hport h hplain hop hsyn hsent hq hr => ack_retires hp hport h hplain hop hsyn hsent hq hr,
    fun _ hport h hplain hop hsyn hsent hrnr => rnrNak_waits hp hport h hplain hop hsyn hsent hrnr,
    fun _ _ hport h hplain hop hread hdrop hk hfit hmore hq hr hcmd =>
      readResponse_lands hp hport h hplain hop hread hdrop hk hfit hmore hq hr hcmd,
    fun _ hport h hop => cnp_counted hp hport h hop⟩

end Sys2Proof.Machine
end

section
/-! CLAIM. Twin operation, two clauses that fail: a module that runs alone forgets the reservations that waited for the peer
(14 R463), and a port whose control priority storms sends no announcement (04 R114). -/

namespace Sys2Proof.Machine

/-- What a command that acts with the rails on has reached. -/
theorem Done.after {i : Instr} {s : State} {t : Nat} {ok : Bool} {f : State → State} {Q : State → Prop} (h : Done i s Q)
    (hi : exec i s = act t ok s f) (hok : ok = true) (hp : s.railsOn) : Q (s.after t (f (s.at t))) := by
  obtain ⟨u, hu, hq⟩ := h
  subst hok
  rw [hi, act, if_pos rfl, State.runAt_on t f hp] at hu
  cases hu
  exact hq

/-! ### A module that runs alone -/

/-- A paired module whose link is lost and whose yield line is faulty; a reservation of namespace 0 waits for the peer. -/
def waitsAlone : State :=
  ((({ State.reset with
      twin := { State.reset.twin with twinMode := true, linkLost := true, lostAt := some 0 }
      nvme := { State.reset.nvme with ns := [(0, { resvSent := [(1, 1)] })] } } : State).put 0x2400 0 4 2).put 0x2400 0 6 1).put 0x2400 0 2 1

/-- The wait of the reservation ends, as R463 asks. -/
theorem waitsAlone_forgets : (runAloneWaitExpiry (waitsAlone.at (10 * msNs))).nvme.ns = [(0, {})] := by decide +kernel

/-- Refutes O42: its clause for RUN_ALONE_WAIT_EXPIRY lets only the twin state and the logs change, but a reservation that
waits for the peer's answer stops waiting (`State.ackReservations`), which changes its namespace. -/
theorem not_twinTimerActs : ¬ Obligations.TwinTimerActs := by
  unfold Obligations.TwinTimerActs
  intro h
  obtain ⟨-, -, -, -, -, -, -, -, -, -, -, halone, -⟩ := h waitsAlone (10 * msNs) 0 0 rfl (by decide)
  obtain ⟨-, -, hkept⟩ := (halone 0 rfl (by decide) (by decide) rfl (by decide) (by decide) (by decide) (by decide) rfl
    (by decide +kernel)).after rfl rfl rfl
  have hns : (runAloneWaitExpiry (waitsAlone.at (10 * msNs))).nvme.ns = waitsAlone.nvme.ns := congrArg (fun u => u.nvme.ns) hkept
  rw [waitsAlone_forgets] at hns
  exact absurd hns (by decide)

/-! ### A takeover that is announced again -/

theorem State.eg_after (s : State) (t : Nat) (v : State) (p : Nat) : (s.after t v).eg p = v.eg p := rfl

/-- A module that has taken over and announces an address at port 0, whose line is busy while its control priority storms. -/
def announcesInStorm : State :=
  (((((({ State.reset with
      twin := { State.reset.twin with take := some { t0 := 0, ptp0 := 0, trigger := 1, left := [], taken := [] } } } : State).put
    0x3040 3 2 1).put 0x3040 3 5 7).put 0x2412 3 2 1).put 0x2400 0 2 1).setPort 0 { linkUp := true, stormUntil := [(0, sNs), (6, sNs), (7, sNs)] }).setEg 0
    { onLine := some { msg := .ctl (.announceAddress 0), len := 64, prio := 0, dscp := 0, at_ := 0 } }

/-- Nothing waits at the port afterwards. -/
theorem announcesInStorm_drops : (takeoverAnnounce (announcesInStorm.at (100 * msNs))).eg (announcesInStorm.o 0x3040 3 3) = announcesInStorm.eg 0 := by
  decide +kernel

/-- Refutes O43: its clause for TAKEOVER_ANNOUNCE has the announcement wait at every port whose line is busy, but a port that
storms on the control priority drops it (`State.pushControl`). -/
theorem not_yieldActs : ¬ Obligations.YieldActs := by
  unfold Obligations.YieldActs
  intro h
  obtain ⟨-, -, -, -, hannounce, -⟩ := h announcesInStorm (100 * msNs) 0 rfl
  obtain ⟨-, hq⟩ := (hannounce _ 3 rfl rfl (by decide) rfl (by decide +kernel) (by decide +kernel) (by decide +kernel)).after rfl rfl rfl
  rw [State.eg_after, announcesInStorm_drops] at hq
  exact absurd (congrArg EgPort.queues hq) (by decide +kernel)

end Sys2Proof.Machine
end

section
/-! CLAIM. A cell that lies in the queue of another destination (03 R78): it arrives, but stays in that queue. -/

namespace Sys2Proof.Machine

/-- What a command that may write module memory has reached. -/
theorem Done.afterMem {i : Instr} {s : State} {t : Nat} {ok : Bool} {f : State → State} {Q : State → Prop} (h : Done i s Q)
    (hi : exec i s = actMem t ok s f) (hok : ok = true) (hp : s.railsOn) : Q (s.afterMem t (f (s.at t))) := by
  obtain ⟨u, hu, hq⟩ := h
  subst hok
  rw [hi, actMem, if_pos rfl, State.runAt_on t f hp] at hu
  cases hu
  exact hq

/-- A cell for destination 6. -/
def strayCell : Cell := { flow := { src := 0, dst := 6, sub := 0, cls := 0 }, epoch := 0, seq := 0, probe := false, body := {} }

/-- The stray cell lies in the queue of plane 0 toward destination 5. -/
def strayed : State := { State.reset with fab := { State.reset.fab with onPlane := [(planeKey 0 5 0, [strayCell])] } }

theorem State.planeCells_afterMem (s : State) (t : Nat) (v : State) (p d c : Nat) : (s.afterMem t v).planeCells p d c = v.planeCells p d c := rfl

/-- Its header fails the check, and it is taken off the queue toward destination 6, where it does not lie. -/
theorem strayed_stays : (cellArrival 0 5 1 .good 0 (strayed.at 0)).planeCells 0 5 strayCell.flow.cls = [strayCell] := by decide +kernel

/-- Refutes O15: its clauses for CELL_ARRIVAL take the cell off the queue from which it arrives, but a cell leaves the queue of
the destination that its own flow names (`State.offPlane`). -/
theorem not_fabricActs : ¬ Obligations.FabricActs := by
  unfold Obligations.FabricActs
  intro h
  obtain ⟨-, -, -, harrival, -⟩ := h strayed 0 rfl
  obtain ⟨-, -, hleft, -⟩ := (harrival 0 5 1 .good 0 strayCell rfl rfl (by decide +kernel) (by decide +kernel) rfl).afterMem rfl rfl rfl
  rw [State.planeCells_afterMem, strayed_stays] at hleft
  exact absurd hleft (by decide +kernel)

end Sys2Proof.Machine
end

section
/-! CLAIM. A second Connect on a queue pair (07 R240): the engine takes it, but it is refused. -/

namespace Sys2Proof.Machine

/-- A Connect that waits at engine 0 from queue pair 0. -/
def lateConnect : EngineInput := { cap := { opcode := 0x7F, fctype := 1 }, qp := some 0, vf := none, cls := 0, arrivedAt := 0 }

/-- Queue pair 0 has sent a command before. -/
def begunBefore : State :=
  ({ State.reset with nvme := { State.reset.nvme with inputs := [(0, [lateConnect])] } } : State).setQp 0 { begun := true }

/-- The Connect is refused, and on a queue pair that is not connected its command goes at once. -/
theorem begunBefore_refuses : ((engineCapsuleTake 0 (begunBefore.at 0)).cmd begunBefore.nvme.nextCmd).cap = {} := by decide +kernel

theorem State.cmd_after (s : State) (t : Nat) (v : State) (i : Nat) : (s.after t v).cmd i = v.cmd i := rfl

/-- Refutes O30: its clause for ENGINE_CAPSULE_TAKE makes every Connect of an unconnected queue pair ready, but a Connect is ready
only as the queue pair's first capsule (`Qp.begun`). -/
theorem not_schedulingActs : ¬ Obligations.SchedulingActs := by
  unfold Obligations.SchedulingActs
  intro h
  obtain ⟨htake, -⟩ := h begunBefore 0 rfl
  obtain ⟨-, hcap, -⟩ := (htake 0 lateConnect 0 (by decide) rfl rfl rfl rfl rfl rfl rfl).after rfl rfl rfl
  rw [State.cmd_after, begunBefore_refuses] at hcap
  exact absurd hcap (by decide)

end Sys2Proof.Machine
end

section
/-! CLAIM. Slowness is evaluated once per second (10 R345): a second evaluation within that time does nothing. -/

namespace Sys2Proof.Machine

/-- Array 0 has one active member that is slow by any measure, and slowness has just been evaluated. -/
def evaluatedJustNow : State :=
  (((((({ State.reset with arr := { State.reset.arr with slowAt := some 0 } } : State).put 0x5000 0 2 1).put 0x5000 0 3 1).put
    0x5100 (memRow 0 0) 2 1).put 0x5107 0 5 0).put 0x5107 0 6 0).put 0x5107 0 0xA 0

theorem evaluatedJustNow_quiet : (evaluatedJustNow.stat 0 0).slowEvent = none := by decide +kernel

/-- It is not evaluated again. -/
theorem evaluatedJustNow_waits : ((slownessEvaluation (evaluatedJustNow.at 0)).stat 0 0).slowEvent = none := by decide +kernel

theorem State.stat_after (s : State) (t : Nat) (v : State) (a m : Nat) : (s.after t v).stat a m = v.stat a m := rfl

/-- Refutes O33: its clause for SLOWNESS_EVALUATION reports a slow member at every evaluation, but an evaluation within 1 s of
the one before does nothing. -/
theorem not_memberActs : ¬ Obligations.MemberActs := by
  unfold Obligations.MemberActs
  intro h
  obtain ⟨-, -, -, hslow, -⟩ := h evaluatedJustNow 0 0 rfl (by decide)
  obtain ⟨hevent, -⟩ := (hslow 0 (by decide +kernel) (by decide +kernel) (by decide +kernel) (by decide +kernel) (by decide +kernel)
    (by decide +kernel) (by decide +kernel) (fun w hw => absurd (evaluatedJustNow_quiet.symm.trans hw) nofun)).after rfl rfl rfl
  rw [State.stat_after, evaluatedJustNow_waits] at hevent
  exact absurd hevent (by decide)

end Sys2Proof.Machine
end

section
/-! CLAIM. A link that is trained again while a DMA channel waits for data of its drive (11 R390, 13 R451): the channel halts. -/

namespace Sys2Proof.Machine

/-- Slot 0 trains its link while channel 0 waits for data of its drive. -/
def trainsWhileAsked : State :=
  (({ State.reset with dma := [(0, { state := 1, asked := true, work := [(0, 0)] })] } : State).setSlot 0
    { perstAt := some 0, tags := [(0, { since := 0, dma := some (0, 0, 0) })] }).put 0x5200 0 2 2

theorem trainsWhileAsked_halts : ((linkTrainingTimeout 0 (trainsWhileAsked.at (100 * msNs))).chan 0).state = 4 := by decide +kernel

theorem State.chan_after (s : State) (t : Nat) (v : State) (c : Nat) : (s.after t v).chan c = v.chan c := rfl

/-- Refutes O34: its clause for LINK_TRAINING_TIMEOUT lets only the slots change, but a channel that waits for data of the drive
halts as the link's tags are freed (`State.freeTags`). -/
theorem not_slotLinkActs : ¬ Obligations.SlotLinkActs := by
  unfold Obligations.SlotLinkActs
  intro h
  obtain ⟨-, -, -, -, -, -, -, htrain, -⟩ := h trainsWhileAsked (100 * msNs) 0 rfl (by decide)
  obtain ⟨-, -, -, -, hkept⟩ := (htrain 0 (by decide +kernel) (by decide +kernel) (by decide) (by decide +kernel)).after rfl rfl rfl
  have hchan := congrArg (fun u => (u.chan 0).state) hkept
  dsimp only at hchan
  rw [State.chan_after, trainsWhileAsked_halts] at hchan
  exact absurd hchan (by decide +kernel)

end Sys2Proof.Machine
end

section
/-! CLAIM. A reserved asynchronous event of a drive that is not in service (11 R393): two clauses that contradict each other. -/

namespace Sys2Proof.Machine

/-- A command has one next state. -/
theorem Done.unique {i : Instr} {s : State} {Q R : State → Prop} (h : Done i s Q) (h' : Done i s R) : ∃ u, Q u ∧ R u := by
  obtain ⟨u, hu, hq⟩ := h
  obtain ⟨v, hv, hr⟩ := h'
  rw [hu] at hv
  cases hv
  exact ⟨u, hq, hr⟩

/-- Refutes O35: for a slot that is not in service one of its clauses counts a reserved asynchronous event in 5202h:17h, as the
model does, and another lets every asynchronous event pass without a trace. -/
theorem not_slotCommandActs : ¬ Obligations.SlotCommandActs := by
  unfold Obligations.SlotCommandActs
  intro h
  obtain ⟨-, -, -, -, -, -, -, -, -, -, -, -, -, -, -, -, -, -, -, hreserved, -, hsilent⟩ := h State.reset 0 0 rfl (by decide)
  obtain ⟨u, hcounted, hkept⟩ := hreserved.unique (hsilent .reserved (by decide +kernel))
  have hcount := congrArg (fun v => v.o 0x5202 0 0x17) (hcounted.symm.trans hkept)
  exact absurd hcount (by decide +kernel)

end Sys2Proof.Machine
end

section
/-! CLAIM. A write of CC that clears EN ends the event requests of its controller by erasing their commands (06 R203). -/

namespace Sys2Proof.Machine

/-- Queue pair 0 is in RTS, controller 0 is enabled, and the command table holds two entries with one key: a Property Set that
clears EN, and behind it an event request of the same controller. -/
def doubleEntry : State :=
  ({ State.reset with nvme := { State.reset.nvme with
      ctrls := [(0, { state := 2, cc := 1, adminQp := some 0 })]
      cmds := [(0, { qp := some 0, cntlid := some 0, cap := { opcode := 0x7F, propOffset := 0x14 } }),
        (0, { qp := some 0, cntlid := some 0, stage := .aer })] } } : State).setQp 0 { state := 2 }

/-- Erasing the event request erases the Property Set with it: nothing is left to answer. -/
theorem doubleEntry_unanswered : ((propertySet 0 (doubleEntry.at 0)).cmd 0).stage = .ready := by decide +kernel

/-- Refutes O26: its clause for PROPERTY_SET holds of no command table with two entries under one key, which no hypothesis of it
excludes. -/
theorem not_connectionCommandActs : ¬ Obligations.ConnectionCommandActs := by
  unfold Obligations.ConnectionCommandActs
  intro h
  obtain ⟨-, -, -, hset, -⟩ := h doubleEntry 0 0 0 0 rfl
  obtain ⟨⟨hsending, -⟩, -⟩ := (hset (by decide +kernel) (by decide +kernel) (by decide +kernel) (by decide +kernel)
    (by decide +kernel)).after rfl rfl rfl
  rw [State.cmd_after, doubleEntry_unanswered] at hsending
  exact absurd hsending (by decide)

end Sys2Proof.Machine
end

section
/-! CLAIM. Queues, completions and the mailbox of a near port (12 R415 to R430). -/

namespace Sys2Proof.Machine

/-! ### The queues of a VF -/

@[simp] theorem State.vf_setVf (s : State) (p v q w : Nat) (x : Vf) :
    (s.setVf p v x).vf q w = if p = q ∧ v = w then x else s.vf q w := by
  by_cases h : p = q
  · subst h
    simp [State.vf, State.setVf]
  · simp [State.vf, State.setVf, h]

/-- What a completion queue is made with. -/
def CplQ.shape (q : CplQ) : Nat × Nat × Nat := (q.base, q.size, q.vector)

/-- The submission queues are the same, and so are the completion queues but for their entries. -/
def Vf.SameQueues (x y : Vf) : Prop :=
  y.sqs = x.sqs ∧ ∀ k, (Tbl.find? y.cqs k).map CplQ.shape = (Tbl.find? x.cqs k).map CplQ.shape

theorem Vf.SameQueues.has {x y : Vf} (h : x.SameQueues y) (k : Nat) : Tbl.has y.cqs k = Tbl.has x.cqs k := by
  have := congrArg Option.isSome (h.2 k)
  simpa [Tbl.has] using this

theorem Vf.SameQueues.find {x y : Vf} (h : x.SameQueues y) {k : Nat} {q : CplQ} (hq : Tbl.find? x.cqs k = some q) :
    ∃ r, Tbl.find? y.cqs k = some r ∧ r.base = q.base ∧ r.size = q.size ∧ r.vector = q.vector := by
  have hm := h.2 k
  rw [hq] at hm
  obtain ⟨r, hr, hs⟩ := Option.map_eq_some_iff.1 hm
  obtain ⟨hb, hz, hv⟩ := by simpa [CplQ.shape] using hs
  exact ⟨r, hr, hb, hz, hv⟩

section
variable (s : State) (p v : Nat)

@[simp] theorem State.vfInterrupt_vf (k : Nat) :
    (s.vfInterrupt p v k).vf p v = { s.vf p v with msix := ((s.vf p v).msix.raise (s.vf p v).bme k).1 } := by
  unfold State.vfInterrupt
  dsimp only
  split <;> simp [State.vf, State.setVf, State.emit, State.nport, State.setNport]

/-- An entry in a completion queue moves its tail alone. -/
theorem State.writeCqe_vf (cq : Nat) (e : Cqe) : (s.vf p v).SameQueues ((s.writeCqe p v cq e).vf p v) := by
  unfold State.writeCqe
  dsimp only
  split
  · exact ⟨rfl, fun _ => rfl⟩
  · next q hq =>
    split
    · simp [Vf.SameQueues]
    · have hvf : ∀ (u : State) (o : Out), (u.emit o).vf p v = u.vf p v := fun _ _ => rfl
      rw [State.vfInterrupt_vf, hvf, State.vf_setVf, if_pos ⟨rfl, rfl⟩]
      refine ⟨rfl, fun k => ?_⟩
      by_cases hk : cq = k
      · subst hk
        simp [hq, CplQ.shape]
      · rw [Tbl.find?_set_of_ne _ _ hk]

/-- The completion of a VF's command takes the command away and leaves the VF its queues. -/
theorem State.complete_vf {id sq : Nat} (hh : Tbl.has s.nvme.cmds id = true) (hr : (s.cmd id).stage ≠ .sending)
    (hq : (s.cmd id).qp = none) (hv : (s.cmd id).vf = some (p, v, sq)) (sct sc dw : Nat) :
    (s.vf p v).SameQueues ((s.complete id sct sc dw).vf p v) ∧ Tbl.has (s.complete id sct sc dw).nvme.cmds id = false := by
  obtain ⟨cq, e, he⟩ : ∃ cq e, s.complete id sct sc dw = ((s.meterCompletion (s.cmd id) sct sc).eraseCmd id).writeCqe p v cq e := by
    unfold State.complete
    rw [if_neg (by simp [hh, hr])]
    simp only [hq, hv]
    exact ⟨_, _, rfl⟩
  have hm : (s.meterCompletion (s.cmd id) sct sc).np = s.np :=
    State.same_of_frame (ps := Part.others .np) (by simp) .np (by simp)
  have hn : (((s.meterCompletion (s.cmd id) sct sc).eraseCmd id).writeCqe p v cq e).nvme =
      ((s.meterCompletion (s.cmd id) sct sc).eraseCmd id).nvme :=
    State.same_of_frame (ps := Part.others .nvme) (by simp) .nvme (by simp)
  rw [he]
  refine ⟨?_, by rw [hn]; simp [State.eraseCmd]⟩
  have h := State.writeCqe_vf ((s.meterCompletion (s.cmd id) sct sc).eraseCmd id) p v cq e
  have hs : ((s.meterCompletion (s.cmd id) sct sc).eraseCmd id).vf p v = s.vf p v := by
    simp only [State.vf, State.nport, State.eraseCmd, hm]
  rwa [hs] at h

/-- What a command that a VF's queue command is must be. -/
theorem State.readyVf_of {id o : Nat} (h : s.readyVf id o = some (p, v)) :
    Tbl.has s.nvme.cmds id = true ∧ (s.cmd id).stage = .ready ∧ ∃ sq, (s.cmd id).vf = some (p, v, sq) := by
  unfold State.readyVf at h
  split at h
  · next a b sq hk hv =>
    obtain ⟨rfl, rfl⟩ : a = p ∧ b = v := by simpa using h
    unfold State.readyAdmin at hk
    simp only at hk
    split at hk
    · next hc => simp at hc; exact ⟨hc.1.1, hc.1.2.1, sq, hv⟩
    · cases hk
  · cases h

end

/-! ### The queue commands -/

@[simp] theorem State.syncVf_units (s : State) (p v : Nat) : (s.syncVf p v).nvme = s.nvme ∧ (s.syncVf p v).np = s.np := ⟨rfl, rfl⟩

/-- A queue command that changes the queues of its VF and then ends: the VF has the queues that it is given. -/
theorem State.succeed_vf {s w : State} {p v id o : Nat} {x : Vf} (h : s.readyVf id o = some (p, v)) (hq : (s.cmd id).qp = none)
    (hw : w.nvme.cmds = s.nvme.cmds) (hx : w.vf p v = x) :
    x.SameQueues ((w.succeed id).vf p v) ∧ Tbl.has (w.succeed id).nvme.cmds id = false := by
  obtain ⟨hh, hr, sq, hv⟩ := State.readyVf_of s p v h
  have hc : w.cmd id = s.cmd id := by rw [State.cmd, State.cmd, hw]
  have := State.complete_vf w p v (id := id) (sq := sq) (by rw [hw, hh]) (by rw [hc, hr]; decide) (by rw [hc, hq]) (by rw [hc, hv]) 0 0 0
  rwa [hx] at this

/-- The queues that the create commands ask for. -/
def subQOf (c : Capsule) : SubQ := { base := queueBase c.dptr, size := c.qsize + 1, cq := c.cqid }
def cplQOf (c : Capsule) : CplQ := { base := queueBase c.dptr, size := c.qsize + 1, vector := c.vector }

section
variable {s : State} {t p v id : Nat}

theorem createIoSubmissionQueue_creates (hp : s.railsOn) (h : s.readyVf id 1 = some (p, v)) (hq : (s.cmd id).qp = none)
    (hn : newQueueBad (Tbl.has (s.vf p v).sqs (s.cmd id).cap.qid) (s.cmd id).cap = none) (hc0 : (s.cmd id).cap.cqid ≠ 0)
    (hc : Tbl.has (s.vf p v).cqs (s.cmd id).cap.cqid = true) :
    Done (.createIoSubmissionQueue t id) s fun u => ∃ q,
      Tbl.find? (u.vf p v).sqs (s.cmd id).cap.qid = some q ∧ q.base = queueBase (s.cmd id).cap.dptr ∧
      q.size = (s.cmd id).cap.qsize + 1 ∧ q.cq = (s.cmd id).cap.cqid ∧ Tbl.has u.nvme.cmds id = false := by
  obtain ⟨x, hx⟩ : ∃ x : Vf, x = { s.vf p v with sqs := Tbl.set (s.vf p v).sqs (s.cmd id).cap.qid (subQOf (s.cmd id).cap) } := ⟨_, rfl⟩
  have hf : createIoSubmissionQueue id (s.at t) = (((s.at t).setVf p v x).syncVf p v).succeed id := by
    have h' : (s.at t).readyVf id 1 = some (p, v) := h
    have hn' : newQueueBad (Tbl.has ((s.at t).vf p v).sqs ((s.at t).cmd id).cap.qid) ((s.at t).cmd id).cap = none := hn
    simp only [createIoSubmissionQueue, h', hn']
    rw [if_neg (by exact not_or.2 ⟨hc0, by rw [Bool.not_eq_false]; exact hc⟩), hx]
    rfl
  obtain ⟨hs, hgone⟩ := State.succeed_vf (w := ((s.at t).setVf p v x).syncVf p v) (x := x) h hq rfl
    ((s.at t).vf_setVf p v p v x |>.trans (if_pos ⟨rfl, rfl⟩))
  refine done_act rfl rfl hp fun u hu => ?_
  rw [hu, hf]
  refine ⟨subQOf (s.cmd id).cap, (congrArg (Tbl.find? · _) hs.1).trans ?_, rfl, rfl, rfl, hgone⟩
  rw [hx]
  exact Tbl.find?_set_self ..

theorem createIoCompletionQueue_creates (hp : s.railsOn) (h : s.readyVf id 5 = some (p, v)) (hq : (s.cmd id).qp = none)
    (hn : newQueueBad (Tbl.has (s.vf p v).cqs (s.cmd id).cap.qid) (s.cmd id).cap = none) (hv : (s.cmd id).cap.vector ≤ 128) :
    Done (.createIoCompletionQueue t id) s fun u => ∃ q,
      Tbl.find? (u.vf p v).cqs (s.cmd id).cap.qid = some q ∧ q.base = queueBase (s.cmd id).cap.dptr ∧
      q.size = (s.cmd id).cap.qsize + 1 ∧ q.vector = (s.cmd id).cap.vector ∧ Tbl.has u.nvme.cmds id = false := by
  obtain ⟨x, hx⟩ : ∃ x : Vf, x = { s.vf p v with cqs := Tbl.set (s.vf p v).cqs (s.cmd id).cap.qid (cplQOf (s.cmd id).cap) } := ⟨_, rfl⟩
  have hf : createIoCompletionQueue id (s.at t) = ((s.at t).setVf p v x).succeed id := by
    have h' : (s.at t).readyVf id 5 = some (p, v) := h
    have hn' : newQueueBad (Tbl.has ((s.at t).vf p v).cqs ((s.at t).cmd id).cap.qid) ((s.at t).cmd id).cap = none := hn
    simp only [createIoCompletionQueue, h', hn']
    rw [if_neg (show ¬ 128 < ((s.at t).cmd id).cap.vector from Nat.not_lt.2 hv), hx]
    rfl
  obtain ⟨hs, hgone⟩ := State.succeed_vf (w := (s.at t).setVf p v x) (x := x) h hq rfl
    ((s.at t).vf_setVf p v p v x |>.trans (if_pos ⟨rfl, rfl⟩))
  obtain ⟨r, hr, hb, hz, hvec⟩ := hs.find (k := (s.cmd id).cap.qid) (by rw [hx]; exact Tbl.find?_set_self ..)
  refine done_act rfl rfl hp fun u hu => ?_
  rw [hu, hf]
  exact ⟨r, hr, hb, hz, hvec, hgone⟩

theorem deleteIoSubmissionQueue_deletes (hp : s.railsOn) (h : s.readyVf id 0 = some (p, v)) (hq : (s.cmd id).qp = none)
    (h0 : (s.cmd id).cap.qid ≠ 0) (hs : Tbl.has (s.vf p v).sqs (s.cmd id).cap.qid = true)
    (hno : ∀ e ∈ s.nvme.cmds, e.2.vf ≠ some (p, v, (s.cmd id).cap.qid)) :
    Done (.deleteIoSubmissionQueue t id) s fun u =>
      Tbl.has (u.vf p v).sqs (s.cmd id).cap.qid = false ∧ Tbl.has u.nvme.cmds id = false := by
  obtain ⟨x, hx⟩ : ∃ x : Vf, x = { s.vf p v with sqs := Tbl.erase (s.vf p v).sqs (s.cmd id).cap.qid } := ⟨_, rfl⟩
  have hids : (s.nvme.cmds.filter fun e => decide (e.2.vf = some (p, v, (s.cmd id).cap.qid))) = [] :=
    List.filter_eq_nil_iff.2 fun e he => by simpa using hno e he
  obtain ⟨w, hw, hnp, hcmds⟩ : ∃ w : State, deleteIoSubmissionQueue id (s.at t) = ((w.setVf p v x).syncVf p v).succeed id ∧
      w.np = s.np ∧ w.nvme.cmds = s.nvme.cmds := by
    have h' : (s.at t).readyVf id 0 = some (p, v) := h
    have hids' : ((s.at t).nvme.cmds.filter fun e => decide (e.2.vf = some (p, v, ((s.at t).cmd id).cap.qid))) = [] := hids
    simp only [deleteIoSubmissionQueue, h', hids']
    rw [if_neg (by exact not_or.2 ⟨h0, by rw [Bool.not_eq_false]; exact hs⟩), hx]
    exact ⟨_, rfl, rfl, rfl⟩
  obtain ⟨hsame, hgone⟩ := State.succeed_vf (w := (w.setVf p v x).syncVf p v) (x := x) h hq hcmds
    (w.vf_setVf p v p v x |>.trans (if_pos ⟨rfl, rfl⟩))
  refine done_act rfl rfl hp fun u hu => ?_
  rw [hu, hw]
  refine ⟨(congrArg (Tbl.has · _) hsame.1).trans ?_, hgone⟩
  simp [hx]

theorem deleteIoCompletionQueue_deletes (hp : s.railsOn) (h : s.readyVf id 4 = some (p, v)) (hq : (s.cmd id).qp = none)
    (h0 : (s.cmd id).cap.qid ≠ 0) (hs : Tbl.has (s.vf p v).cqs (s.cmd id).cap.qid = true)
    (hno : ∀ e ∈ (s.vf p v).sqs, e.1 ≠ 0 → e.2.cq ≠ (s.cmd id).cap.qid) :
    Done (.deleteIoCompletionQueue t id) s fun u =>
      Tbl.has (u.vf p v).cqs (s.cmd id).cap.qid = false ∧ Tbl.has u.nvme.cmds id = false := by
  obtain ⟨x, hx⟩ : ∃ x : Vf, x = { s.vf p v with
    cqs := Tbl.erase (s.vf p v).cqs (s.cmd id).cap.qid
    waits := (s.vf p v).waits.filter fun w => decide (w.cq ≠ (s.cmd id).cap.qid) } := ⟨_, rfl⟩
  have hany : ((s.vf p v).sqs.any fun (e : Nat × SubQ) => decide (e.1 ≠ 0 ∧ e.2.cq = (s.cmd id).cap.qid)) = false := by
    simpa using fun a b hab h1 => hno (a, b) hab h1
  have hf : deleteIoCompletionQueue id (s.at t) = ((s.at t).setVf p v x).succeed id := by
    have h' : (s.at t).readyVf id 4 = some (p, v) := h
    simp only [deleteIoCompletionQueue, h']
    rw [if_neg (by exact not_or.2 ⟨h0, by rw [Bool.not_eq_false]; exact hs⟩),
      if_neg (by rw [Bool.not_eq_true]; exact hany), hx]
    rfl
  obtain ⟨hsame, hgone⟩ := State.succeed_vf (w := (s.at t).setVf p v x) (x := x) h hq rfl
    ((s.at t).vf_setVf p v p v x |>.trans (if_pos ⟨rfl, rfl⟩))
  refine done_act rfl rfl hp fun u hu => ?_
  rw [hu, hf]
  refine ⟨(hsame.has _).trans ?_, hgone⟩
  simp [hx]

end

/-! ### Tags of a near port -/

@[simp] theorem NearPort.releaseEntry_tags (n : NearPort) (i : Option Nat) : (n.releaseEntry i).tags = n.tags := by
  unfold NearPort.releaseEntry
  split
  · rfl
  · split
    · split <;> rfl
    · rfl

@[simp] theorem State.nport_syncTags (s : State) (p q : Nat) : (s.syncTags p).nport q = s.nport q := rfl

theorem satAt_5303 {k : Nat} (h : k = 8 ∨ k = 0xA ∨ k = 0xB) (a n : Nat) : satAt 0x5303 k a n = satAdd a n := by
  obtain rfl | rfl | rfl := h <;> rfl

/-- The tag is free, and nothing waited for it. -/
theorem State.freeTag_idle {s : State} {p tag : Nat} {x : NpTag} (hx : Tbl.find? (s.nport p).tags tag = some x)
    (hw : (s.nport p).waits = []) :
    Tbl.find? ((s.freeTag p tag).nport p).tags tag = none ∧ s.Frame [.dict, .np] (s.freeTag p tag) ∧
      ∀ k, k < 256 → k ≠ 6 → k ≠ 7 → (s.freeTag p tag).o 0x5303 p k = s.o 0x5303 p k := by
  have hf : s.freeTag p tag =
      (s.setNport p ({ s.nport p with tags := Tbl.erase (s.nport p).tags tag }.releaseEntry x.entry)).syncTags p := by
    simp only [State.freeTag, hx, hw]
    rfl
  rw [hf]
  refine ⟨by simp, by simp, fun k hk h6 h7 => ?_⟩
  simp [State.syncTags, objKey_inj, Nat.mod_eq_of_lt hk, h6.symm, h7.symm]

section
variable {s : State} {t p tag : Nat} {x : NpTag}

theorem npCompletion_brings {id off len : Nat} {d : Content} (hp : s.railsOn) (h2 : p < 2) (hl : (s.nport p).linkUp = true)
    (hx : Tbl.find? (s.nport p).tags tag = some x) (hw : (s.nport p).waits = []) (ho : x.orphaned = false)
    (hqu : x.quarantined = false) (hpu : x.purpose = .writeData id off len) (hh : Tbl.has s.nvme.cmds id = true)
    (hmore : (((s.at t).freeTag p tag).takeData id off len d).2 = false) :
    Done (.npCompletion t p tag .successful false none d) s fun u =>
      Tbl.find? (u.nport p).tags tag = none ∧ (u.cmd id).data = patch (s.cmd id).data off len d ∧
        u = { s.logged u with nvme := u.nvme, np := u.np } := by
  obtain ⟨hfree, hfr, -⟩ := State.freeTag_idle (s := s.at t) (tag := tag) hx hw
  obtain ⟨v, hv⟩ : ∃ v, v = (s.at t).freeTag p tag := ⟨_, rfl⟩
  rw [← hv] at hfree hfr hmore
  have hn : v.nvme = s.nvme := hfr .nvme (by decide)
  have hf : npCompletion p tag .successful false none d (s.at t) = (v.takeData id off len d).1 := by
    have hx' : Tbl.find? ((s.at t).nport p).tags tag = some x := hx
    simp only [npCompletion, hx', ho, hqu, ← hv, npDelivered, hpu, State.bringData, hn, hh]
    simp [hmore]
  refine done_actMem rfl (decide_eq_true h2) hp fun u hu => ?_
  rw [hu, State.when, if_pos (by exact hl), hf]
  refine ⟨hfree, ?_, ?_⟩
  · have : v.cmd id = s.cmd id := by rw [State.cmd, State.cmd, hn]
    exact (congrArg Cmd.data (v.cmd_setCmd id id _ |>.trans (if_pos rfl))).trans (by rw [this])
  · have hfv : s.Frame (Part.logs ++ [.nvme, .np]) v := .trans (u := s.at t) (by simp) (hfr.mono (by simp))
    exact State.Frame.eq (s := s) (ps := Part.logs ++ [.nvme, .np]) (State.frame_afterMem t (by simp) (by simpa [State.takeData] using hfv))

theorem npCompletion_orphan {st : CplStatus} {po : Bool} {e : Option Capsule} {d : Content} (hp : s.railsOn) (h2 : p < 2)
    (hl : (s.nport p).linkUp = true) (hx : Tbl.find? (s.nport p).tags tag = some x) (hw : (s.nport p).waits = [])
    (ho : x.orphaned = true) :
    Done (.npCompletion t p tag st po e d) s fun u =>
      Tbl.find? (u.nport p).tags tag = none ∧ u.o 0x5303 p 0xA = satAdd (s.o 0x5303 p 0xA) 1 ∧ u = { s.logged u with np := u.np } := by
  obtain ⟨hfree, hfr, hobj⟩ := State.freeTag_idle (s := s.at t) (tag := tag) hx hw
  obtain ⟨v, hv⟩ : ∃ v, v = (s.at t).freeTag p tag := ⟨_, rfl⟩
  rw [← hv] at hfree hfr hobj
  have hf : npCompletion p tag st po e d (s.at t) = v.bump 0x5303 p 0xA := by
    have hx' : Tbl.find? ((s.at t).nport p).tags tag = some x := hx
    simp only [npCompletion, hx', ho, ← hv]
    rfl
  refine done_actMem rfl (decide_eq_true h2) hp fun u hu => ?_
  rw [State.when, if_pos (by exact hl), hf] at hu
  have hfv : s.Frame (Part.logs ++ [.np]) v := .trans (u := s.at t) (by simp) (hfr.mono (by simp))
  refine ⟨by rw [hu]; exact hfree, ?_, State.Frame.eq (s := s) (ps := Part.logs ++ [.np]) ?_⟩
  · simp [hu, satAt_5303, hobj 0xA (by decide) (by decide) (by decide)]
  · rw [hu]
    exact State.frame_afterMem t (by simp) (by simpa using hfv)

@[simp] theorem State.pfInterrupt_reads (s : State) (p v : Nat) :
    (∀ i r k, (s.pfInterrupt p v).o i r k = s.o i r k) ∧ (∀ q, (s.pfInterrupt p v).nport q = s.nport q) ∧ (s.pfInterrupt p v).dma = s.dma := by
  unfold State.pfInterrupt
  dsimp only
  split <;> exact ⟨fun _ _ _ => rfl, fun _ => rfl, rfl⟩

/-- The tag is quarantined, and the error is counted and logged. -/
def State.quarantine (s : State) (p tag : Nat) (x : NpTag) : State :=
  let s := (s.setNport p { s.nport p with tags := Tbl.set (s.nport p).tags tag { x with quarantined := true } }).syncTags p
  (s.bump 0x5303 p 8).logAer p 1 x.func

theorem State.quarantine_reads (s : State) (p tag : Nat) (x : NpTag) :
    Tbl.find? ((s.quarantine p tag x).nport p).tags tag = some { x with quarantined := true } ∧
      (s.quarantine p tag x).o 0x5303 p 8 = satAdd (s.o 0x5303 p 8) 1 ∧ (s.quarantine p tag x).dma = s.dma := by
  obtain ⟨v, hv⟩ : ∃ v, v = (s.setNport p { s.nport p with
    tags := Tbl.set (s.nport p).tags tag { x with quarantined := true } }).syncTags p := ⟨_, rfl⟩
  have hq : s.quarantine p tag x = (v.bump 0x5303 p 8).logAer p 1 x.func := by rw [hv]; rfl
  have hv8 : v.o 0x5303 p 8 = s.o 0x5303 p 8 := by simp [hv, State.syncTags, objKey_inj]
  have hvt : (v.nport p).tags = Tbl.set (s.nport p).tags tag { x with quarantined := true } := by simp [hv]
  have hvd : v.dma = s.dma := by simp [hv, State.syncTags]
  rw [hq]
  simp [State.logAer, hv8, hvt, hvd, satAt_5303]

/-- A completion timeout of a request whose channel no longer waits for it: the tag is quarantined. -/
theorem npCompletionTimeout_quarantines {c run n bd : Nat} (hp : s.railsOn) (h2 : p < 2)
    (hx : Tbl.find? (s.nport p).tags tag = some x) (ho : x.orphaned = false) (hqu : x.quarantined = false)
    (hpu : x.purpose = .copyJob c run n bd) (ha : (s.chan c).asked = false) (hd : x.since + (s.nport p).timeout ≤ max s.now t) :
    Done (.npCompletionTimeout t p tag) s fun u =>
      Tbl.find? (u.nport p).tags tag = some { x with quarantined := true } ∧
      u.o 0x5303 p 8 = satAdd (s.o 0x5303 p 8) 1 := by
  obtain ⟨h1, h8, hdma⟩ := State.quarantine_reads (s.at t) p tag x
  obtain ⟨v, hv⟩ : ∃ v, v = (s.at t).quarantine p tag x := ⟨_, rfl⟩
  rw [← hv] at h1 h8 hdma
  have hc : v.chan c = s.chan c := by rw [State.chan, hdma]; rfl
  have hf : npCompletionTimeout p tag (s.at t) = v := by
    have hx' : Tbl.find? ((s.at t).nport p).tags tag = some x := hx
    have hdue : dueAt (s.at t).now x.since ((s.at t).nport p).timeout = true := decide_eq_true hd
    have hlost : v.npFailed p x.purpose = v := by
      simp [State.npFailed, hpu, State.dmaData, hc, ha]
    simp only [npCompletionTimeout, hx', hdue]
    rw [if_neg (by simp [hqu]), if_neg (by simp [ho])]
    exact (congrArg (State.npFailed · p x.purpose) hv).symm.trans hlost
  refine done_act rfl (decide_eq_true h2) hp fun u hu => ?_
  rw [hu, hf]
  exact ⟨h1, h8⟩

end

/-! ### The mailbox -/

theorem State.pfInterrupt_sends (s : State) (p v : Nat) : s.vectorSent (s.pfInterrupt p v) p v := by
  intro hon hbme hopen
  have hbme' : (Tbl.get {} s.np p : NearPort).bme = true := hbme
  simp [State.pfInterrupt, Msix.raise, hon, hbme', hopen, State.emit]

/-- What the mailbox says of a message of `len` bytes that is answered at once with `n` bytes. -/
def State.mailAnswered (u : State) (p len n : Nat) : State :=
  (u.setNport p { u.nport p with mailbox := { status := 2, reqLen := len, respLen := n, waits := 0 } }).pfInterrupt p 0

theorem mailboxDoorbell_answered {s u : State} {p len : Nat} {msg : AlonMsg} (hl : (s.nport p).linkUp = true)
    (hm : (s.nport p).mailbox.status ≠ 1) (h1 : 1 ≤ len) (h2 : len ≤ 4096)
    (hu : u = ({ s with out := [] } : State).runMessage p msg) (hw : u.heldFor (2 + p) = 0) (he : u.o 0x5300 p 2 = s.o 0x5300 p 2) :
    mailboxDoorbell p len msg s = ({ u with out := u.out ++ s.out } : State).mailAnswered p len (maxNat (u.out.map answerBytes)) := by
  obtain ⟨n, hn⟩ : ∃ n, n = maxNat (u.out.map answerBytes) := ⟨_, rfl⟩
  have h0 : (({ u with out := u.out ++ s.out } : State).mailAnswered p len n).o 0x5300 p 2 = s.o 0x5300 p 2 := by
    simp only [State.mailAnswered, State.pfInterrupt_reads]
    exact he
  unfold mailboxDoorbell
  rw [if_neg (by simp [hl]), if_neg hm, if_neg (by omega), ← hu]
  simp only [hw, if_true]
  rw [← hn, if_neg]
  · rfl
  · intro hc
    obtain ⟨-, hc⟩ := Bool.and_eq_true_iff.1 hc
    obtain ⟨hc1, hc2⟩ := of_decide_eq_true hc
    exact hc1 (h0.symm.trans hc2)

section
variable {s : State} {t p len : Nat}

theorem State.mailAnswered_reads (u : State) (p len n : Nat) :
    ((u.mailAnswered p len n).nport p).mailbox = { status := 2, reqLen := len, respLen := n, waits := 0 } ∧
      (∀ i r k, (u.mailAnswered p len n).o i r k = u.o i r k) ∧
      u.vectorSent (u.mailAnswered p len n) p 0 ∧ (u.mailAnswered p len n).sess = u.sess ∧
      u.Frame [.np, .out, .rings] (u.mailAnswered p len n) := by
  refine ⟨by simp [State.mailAnswered], by simp [State.mailAnswered], fun hon hbme hopen => ?_,
    (State.pfInterrupt_keeps ..).2.2.2.2, by simp [State.mailAnswered]⟩
  exact State.pfInterrupt_sends (u.setNport p { u.nport p with mailbox := { status := 2, reqLen := len, respLen := n, waits := 0 } })
    p 0 hon (by simpa using hbme) hopen

/-- The rail stays where an effect leaves the core voltage. -/
theorem State.afterVolt_eq_after {v : State} (hr : s.railOk) (hv : v.vcore = s.vcore) : s.afterVolt t v = s.after t v := by
  unfold State.afterVolt
  rw [State.railCore_of_vcore_eq t hr hv, hv, railVolt_of_range hr]
  rfl

/-- A message that is answered at once, and touches neither the port nor the core voltage. -/
theorem done_mailbox {msg : AlonMsg} {u : State} {Q : State → Prop} (hp : s.railsOn) (h2p : p < 2) (hr : s.railOk)
    (hl : (s.nport p).linkUp = true) (hm : (s.nport p).mailbox.status ≠ 1) (h1 : 1 ≤ len) (h2 : len ≤ 4096)
    (hu : u = ({ s.at t with out := [] } : State).runMessage p msg) (hw : u.heldFor (2 + p) = 0) (he : u.o 0x5300 p 2 = s.o 0x5300 p 2)
    (hnp : u.np = s.np) (hri : u.rings = s.rings) (hv : u.vcore = s.vcore)
    (h : ∀ w n, w = s.after t (({ u with out := u.out ++ s.out } : State).mailAnswered p len n) →
      n = maxNat (u.out.map answerBytes) → s.vectorSent w p 0 → Q w) :
    Done (.mailboxDoorbell t p len msg) s Q := by
  have hf := mailboxDoorbell_answered (s := s.at t) hl hm h1 h2 hu hw he
  refine done_actVolt rfl (by simp [isNp, h2p]; omega) hp fun w hwq => ?_
  have hvc : (({ u with out := u.out ++ s.out } : State).mailAnswered p len (maxNat (u.out.map answerBytes))).vcore = u.vcore :=
    (State.mailAnswered_reads ..).2.2.2.2 .vcore (by decide)
  rw [hf] at hwq
  replace hwq := hwq.trans (State.afterVolt_eq_after hr (hvc.trans hv))
  refine h w _ hwq rfl fun hon hbme hopen => ?_
  rw [hwq]
  have := (State.mailAnswered_reads ({ u with out := u.out ++ s.out } : State) p len (maxNat (u.out.map answerBytes))).2.2.1
  have hring : Tbl.get {} u.rings p = Tbl.get {} s.rings p := by rw [hri]
  rw [← hring] at hon hopen ⊢
  refine this hon ?_ hopen
  rw [State.nport] at hbme ⊢
  exact (congrArg (fun x => (Tbl.get {} x p : NearPort).bme) hnp).trans hbme

theorem mailboxDoorbell_malformed (hp : s.railsOn) (h2p : p < 2) (hr : s.railOk) (hl : (s.nport p).linkUp = true)
    (hm : (s.nport p).mailbox.status ≠ 1) (h1 : 1 ≤ len) (h2 : len ≤ 4096) (hw : s.heldFor (2 + p) = 0) :
    Done (.mailboxDoorbell t p len .malformed) s fun u =>
      (u.nport p).mailbox = { status := 2, reqLen := len, respLen := 0, waits := 0 } ∧ s.vectorSent u p 0 ∧
        u.o 0x6021 0 2 = satAdd (s.o 0x6021 0 2) 1 ∧ u = { s.logged u with np := u.np } := by
  refine done_mailbox hp h2p hr hl hm h1 h2 rfl hw (by simp [State.runMessage, objKey_inj]) rfl rfl rfl fun w n hwq hn hvec => ?_
  obtain ⟨v, hv⟩ : ∃ v : State, v = { (s.at t).bump 0x6021 0 2 with out := s.out } := ⟨_, rfl⟩
  obtain ⟨m1, m2, -, -, m5⟩ := v.mailAnswered_reads p len 0
  have hw' : w = s.after t (v.mailAnswered p len 0) := by rw [hwq, hn, hv]; rfl
  refine ⟨by rw [hw']; exact m1, hvec, ?_, State.Frame.eq (s := s) (ps := Part.logs ++ [.np]) ?_⟩
  · have h := m2 0x6021 0 2
    rw [hv] at h
    rw [hw', hv]
    exact h.trans (by simp [show ∀ a, satAt 0x6021 2 a 1 = satAdd a 1 from fun _ => rfl])
  · rw [hw']
    exact State.frame_after t _ _ (by simp) (.inl rfl) (.inl rfl) (.inl rfl) (.trans (by simp [hv]) (m5.mono (by simp)))

theorem mailboxDoorbell_opens {nonce : Nat} (hp : s.railsOn) (h2p : p < 2) (hr : s.railOk) (hl : (s.nport p).linkUp = true)
    (hm : (s.nport p).mailbox.status ≠ 1) (h1 : 1 ≤ len) (h2 : len ≤ 4096) (hw : s.heldFor (2 + p) = 0)
    (hs : s.session? (2 + p) = none) :
    Done (.mailboxDoorbell t p len (.openRequest nonce)) s fun u =>
      (u.nport p).mailbox.status = 2 ∧ (u.session? (2 + p)).isSome = true ∧ s.vectorSent u p 0 ∧ u = { s.logged u with np := u.np } := by
  obtain ⟨v, hv⟩ : ∃ v : State, v = ({ s.at t with out := [] } : State).newSession (2 + p) p (.pf0 p) := ⟨_, rfl⟩
  have hrun : v = ({ s.at t with out := [] } : State).runMessage p (.openRequest nonce) := by
    have hno : Tbl.has s.sess.tbl (2 + p) = false := by rw [Tbl.has, show Tbl.find? s.sess.tbl (2 + p) = none from hs]; rfl
    rw [hv, State.runMessage, State.openWindow, if_neg (by simp [hno])]
  have hfr : (s.at t).Frame [.free, .out, .sess] v :=
    .trans (u := { s.at t with out := [] }) ((State.frame_mk (v := s.at t) (by simp)).2 (.refl _ _)) (by simp [hv, State.newSession])
  have htbl : (v.session? (2 + p)).isSome = true := by simp [hv, State.newSession]
  refine done_mailbox hp h2p hr hl hm h1 h2 hrun ?_ ?_ (hfr .np (by decide)) (hfr .rings (by decide)) (hfr .vcore (by decide))
    fun w n hwq hn hvec => ?_
  · rw [← hw, State.heldFor, show v.twin = s.twin from hfr .twin (by decide)]; rfl
  · simp [State.o, State.val, show v.dict = s.dict from hfr .dict (by decide)]
  obtain ⟨m1, -, -, m4, m5⟩ := ({ v with out := v.out ++ s.out } : State).mailAnswered_reads p len n
  refine ⟨by rw [hwq]; exact congrArg Mailbox.status m1, ?_, hvec, State.Frame.eq (s := s) (ps := Part.logs ++ [.np]) ?_⟩
  · rw [hwq, State.session?]
    exact (congrArg (fun x : SessState => (Tbl.find? x.tbl (2 + p)).isSome) m4).trans htbl
  · rw [hwq]
    have hfr' : s.Frame (Part.logs ++ [.np]) v := .trans (u := s.at t) (by simp) (hfr.mono (by simp))
    exact State.frame_after t _ _ (by simp) (.inl rfl) (.inl rfl) (.inl rfl) (.trans (by simpa using hfr') (m5.mono (by simp)))

end

/-- Settles O37, command by command: what a completion leaves of a VF's queues, what freeing a tag leaves of its port, and what the
mailbox says of a message that is answered at once. -/
theorem nearPortQueueActs : Obligations.NearPortQueueActs := by
  unfold Obligations.NearPortQueueActs
  intro s t p v id hp h2 hv1 hv64
  refine ⟨fun h hq hn h0 hc => createIoSubmissionQueue_creates hp h hq hn h0 hc,
    fun h hq hn hv => createIoCompletionQueue_creates hp h hq hn hv,
    fun h hq h0 hs hno => deleteIoSubmissionQueue_deletes hp h hq h0 hs hno,
    fun h hq h0 hs hno => deleteIoCompletionQueue_deletes hp h hq h0 hs hno,
    fun tag x d off len hl hx hw ho hqu hpu hh hmore => npCompletion_brings hp h2 hl hx hw ho hqu hpu hh hmore,
    fun tag x st po e d hl hx hw ho => npCompletion_orphan hp h2 hl hx hw ho,
    fun tag x c run n bd hx ho hqu hpu ha hd => npCompletionTimeout_quarantines hp h2 hx ho hqu hpu ha hd,
    fun len hr hl hm h1 h2' hw => mailboxDoorbell_malformed hp h2 hr hl hm h1 h2' hw,
    fun len nonce hr hl hm h1 h2' hw hs => mailboxDoorbell_opens hp h2 hr hl hm h1 h2' hw hs, fun hl hm => ?_⟩
  refine done_act rfl (decide_eq_true h2) hp fun u hu => ?_
  have hc : ((s.at t).nport p).linkUp && decide (((s.at t).nport p).mailbox.status = 1) :=
    Bool.and_eq_true_iff.2 ⟨hl, decide_eq_true hm⟩
  rw [hu, mailboxAbort]
  simp only [hc, if_true]
  rfl

end Sys2Proof.Machine
end

section
/-! CLAIM. Resets, configuration and registers of a near port (12 R405 to R421, R431, R432). -/

namespace Sys2Proof.Machine

/-! ### Resets -/

section
variable (s : State) (p v : Nat)

theorem State.o_orphan (f k : Nat) (hk : k < 256 ∧ k ≠ 6 ∧ k ≠ 7) : (s.orphan p f).o 0x5303 p k = s.o 0x5303 p k := by
  obtain ⟨hk, h6, h7⟩ := hk
  simp [State.orphan, State.syncTags, State.npForget, objKey_inj, Nat.mod_eq_of_lt hk, h6.symm, h7.symm]

@[simp] theorem State.objs_endVfCmds (u : State) : u.Objs (s.endVfCmds p v) ↔ u.Objs s := by
  unfold State.endVfCmds
  dsimp only
  exact (State.objs_of_cur rfl _).trans (State.objs_each fun w i => State.objs_endCmd i)

@[simp] theorem State.objs_haltThrough (u : State) : u.Objs (s.haltThrough p) ↔ u.Objs s := by
  refine State.objs_each fun w c => ?_
  dsimp only
  split
  · rfl
  · split
    · exact State.objs_dmaHalt ..
    · split
      · exact State.objs_dmaHalt ..
      · rfl

theorem State.o_resetVf (k : Nat) (hk : k < 256 ∧ k ≠ 6 ∧ k ≠ 7) (ho : Dict.off 0x5303 k = true) :
    (s.resetVf p v).o 0x5303 p k = s.o 0x5303 p k := by
  have h : (((s.orphan p v).endVfCmds p v).dropVfCtrl p v).o 0x5303 p k = (s.orphan p v).o 0x5303 p k :=
    (s.orphan p v).o_of_objs (State.objs_endVfCmds _ p v (s.orphan p v)) 0x5303 p k ho
  exact h.trans (s.o_orphan p v k hk)

theorem State.o_resetVfs (k : Nat) (hk : k < 256 ∧ k ≠ 6 ∧ k ≠ 7) (ho : Dict.off 0x5303 k = true) :
    (s.resetVfs p).o 0x5303 p k = s.o 0x5303 p k := by
  unfold State.resetVfs State.each
  generalize (List.range 64).map (fun k => k + 1) = vs
  induction vs generalizing s with
  | nil => rfl
  | cons v vs ih => exact (ih (s.resetVf p v)).trans (s.o_resetVf p v k hk ho)

/-- A reset VF is as at power on, but for the violations that it is charged with. -/
@[simp] theorem State.resetVf_vf : (s.resetVf p v).vf p v = { violations := ((((s.orphan p v).endVfCmds p v).dropVfCtrl p v).vf p v).violations } :=
  (State.vf_setVf ..).trans (if_pos ⟨rfl, rfl⟩)

/-- What a reset leaves of PF0's registers. -/
theorem State.resetPort_nport : ((s.resetPort p).nport p).bme = false ∧ ((s.resetPort p).nport p).memEnable = false ∧
    ((s.resetPort p).nport p).vfEnable = false ∧ ((s.resetPort p).nport p).numVfs = 0 := by
  simp [State.resetPort, State.setVfEnable]

theorem State.resetPort_o : (s.resetPort p).o 0x5303 p 5 = 0 ∧ (s.resetPort p).o 0x5303 p 0xB = s.o 0x5303 p 0xB := by
  obtain ⟨w, hw⟩ : ∃ w, w = ((s.haltThrough p).resetVfs p).orphan p 0 := ⟨_, rfl⟩
  have hB : w.o 0x5303 p 0xB = s.o 0x5303 p 0xB := by
    rw [hw, State.o_orphan _ _ _ _ (by decide), State.o_resetVfs _ _ _ (by decide) rfl]
    exact State.o_of_objs (State.objs_haltThrough s p s) 0x5303 p 0xB
  unfold State.resetPort
  rw [← hw]
  simp [State.setVfEnable, State.endWindow, objKey_inj, hB]

/-- What a link that leaves shows, and that the port trains only out of reset, enabled and with a good input. -/
theorem State.npLinkGone_nport : ((s.npLinkGone p).nport p).linkUp = false ∧ ((s.npLinkGone p).nport p).perst = (s.nport p).perst ∧
    ((s.npLinkGone p).nport p).vfEnable = (s.nport p).vfEnable := by
  simp [State.npLinkGone, State.takeNpSettings]

theorem State.npLinkGone_trains : ((s.npLinkGone p).o 0x5303 p 2 = if !(s.nport p).perst && ((s.npLinkGone p).nport p).cfg.enable &&
      !(s.npLinkGone p).inputFaulty 2 p then 1 else 0) ∧
    ((s.npLinkGone p).nport p).training = if !(s.nport p).perst && ((s.npLinkGone p).nport p).cfg.enable &&
      !(s.npLinkGone p).inputFaulty 2 p then some s.now else none := by
  simp [State.npLinkGone, State.takeNpSettings, State.inputFaulty, State.ob, objKey_inj]

end

/-! ### Doorbells -/

section
variable (s : State) (p v : Nat)

theorem NearPort.takeEntry_vfs {n m : NearPort} {f a i : Nat} (h : n.takeEntry f a = some (i, m)) : m.vfs = n.vfs := by
  unfold NearPort.takeEntry at h
  split at h
  · obtain ⟨-, rfl⟩ := by simpa using h
    rfl
  · split at h
    · obtain ⟨-, rfl⟩ := by simpa using h
      rfl
    · cases h

theorem NearPort.entryFor_vfs {n m : NearPort} {w : NpWait} {i : Option Nat} (h : n.entryFor w = some (i, m)) : m.vfs = n.vfs := by
  unfold NearPort.entryFor at h
  split at h
  case h_3 =>
    obtain ⟨x, hx, he⟩ := Option.map_eq_some_iff.1 h
    obtain ⟨-, rfl⟩ := Prod.mk.inj he
    exact NearPort.takeEntry_vfs hx
  all_goals
    obtain ⟨-, rfl⟩ := by simpa using h
    rfl

theorem State.npSend_vf {u : State} {w : NpWait} (h : s.npSend p w = some u) : u.vf p v = s.vf p v := by
  unfold State.npSend at h
  dsimp only at h
  split at h
  · cases h
  · next i n hn =>
    split at h
    · cases h
    · obtain rfl := Option.some.inj h
      have hvf : ∀ (x : State) (o : Out), (x.emit o).vf p v = x.vf p v := fun _ _ => rfl
      simp [hvf, State.vf, NearPort.entryFor_vfs hn]

/-- What waits is sent; the VFs are not touched. -/
theorem State.npDrain_vf (n : Nat) : (State.npDrain p n s).vf p v = s.vf p v := by
  induction n generalizing s with
  | zero => rfl
  | succ n ih =>
    simp only [State.npDrain]
    split
    · rfl
    · split
      · rfl
      · split
        · rfl
        · split
          · next hu =>
            rw [ih, State.npSend_vf _ _ _ hu]
            simp [State.npTake, State.vf]
          · rfl

theorem State.fetchEntry_sqs {q : SubQ} {y : Nat} (hq : Tbl.find? (s.vf p v).sqs y = some q) :
    ∃ q', Tbl.find? ((s.fetchEntry p v y).vf p v).sqs y = some q' ∧ q'.tail = q.tail := by
  simp only [State.fetchEntry, hq]
  split
  · obtain ⟨w, hw⟩ : ∃ w, w = s.setVf p v { s.vf p v with sqs := Tbl.set (s.vf p v).sqs y { q with busy := true } } := ⟨_, rfl⟩
    have hwv : Tbl.find? (w.vf p v).sqs y = some { q with busy := true } := by simp [hw]
    rw [← hw]
    refine ⟨{ q with busy := true }, ?_, rfl⟩
    rw [State.vfRequest]
    split
    · rw [State.npRequest]
      have hwhen : ∀ (c : Bool) (x : State), (x.when c fun s => s.bump 0x5303 p 0xC).vf p v = x.vf p v := fun c x => by
        cases c <;> rfl
      rw [hwhen, State.npDrain_vf]
      simpa [State.vf] using hwv
    · exact hwv
  · exact ⟨q, hq, rfl⟩

/-- A tail doorbell with a value in range. -/
theorem vfRing_tail {q : SubQ} {y val : Nat} (hq : Tbl.find? (s.vf p v).sqs y = some q) (hval : val < q.size) :
    ∃ q', Tbl.find? ((vfRing p v (0x1000 + 8 * y) val s).vf p v).sqs y = some q' ∧ q'.tail = val := by
  have hy : (0x1000 + 8 * y - 0x1000) / 8 = y := by omega
  have hm : (0x1000 + 8 * y - 0x1000) % 8 = 0 := by omega
  simp only [vfRing, hy, hm, hq]
  rw [if_pos trivial, if_neg (Nat.not_le.2 hval)]
  exact State.fetchEntry_sqs _ p v (q := { q with tail := val }) (by simp)

end

section
variable {s : State} {t p : Nat}

theorem State.vf_after (s : State) (t : Nat) (w : State) (p v : Nat) : (s.after t w).vf p v = w.vf p v := rfl

theorem vfDoorbell_rings {v y val off : Nat} {q : SubQ} (hp : s.railsOn) (h2 : p < 2) (h1 : 1 ≤ v) (h64 : v ≤ 64)
    (hoff : off = 0x1000 + 8 * y) (hy : y < 129) (hv : val < 2 ^ 32) (hl : (s.nport p).linkUp = true)
    (hm : (s.nport p).vfMse = true) (hf : s.funcExists p v = true) (hi : (s.vf p v).ignoring = false)
    (hc : (s.vf p v).cfs = false) (hcc : (s.vf p v).cc % 2 = 1) (hq : Tbl.find? (s.vf p v).sqs y = some q) (hval : val < q.size) :
    Done (.vfDoorbell t p v off val) s fun u => ∃ q', Tbl.find? (u.vf p v).sqs y = some q' ∧ q'.tail = val := by
  have h0 : v ≠ 0 := by omega
  have he : vfDoorbell p v off val (s.at t) = vfRing p v off val (s.at t) := by
    have hf' : (s.at t).funcExists p v = true := hf
    have hx : ¬ (((s.at t).vf p v).ignoring = true ∨ ((s.at t).vf p v).cfs = true ∨ ((s.at t).vf p v).cc % 2 = 0) := by
      change ¬ ((s.vf p v).ignoring = true ∨ (s.vf p v).cfs = true ∨ (s.vf p v).cc % 2 = 0)
      rw [hi, hc, hcc]
      simp
    unfold vfDoorbell
    rw [if_neg (by simp [hl, hf', State.decodes, h0, hm]), if_neg (by omega), if_neg h0, if_neg (by omega)]
    exact if_neg hx
  have h := vfRing_tail (s.at t) p v hq hval
  rw [← hoff] at h
  refine done_act rfl ?_ hp fun u hu => ?_
  · simp only [isNp, h0, if_false, Bool.and_eq_true, decide_eq_true_eq]
    exact ⟨h2, h64, hv, by omega⟩
  · obtain ⟨q', hq', ht⟩ := h
    refine ⟨q', ?_, ht⟩
    rw [hu, he, State.vf_after]
    exact hq'

theorem vfDoorbell_aqa {v val : Nat} (hp : s.railsOn) (h2 : p < 2) (h1 : 1 ≤ v) (h64 : v ≤ 64)
    (hv : val < 2 ^ 32) (hl : (s.nport p).linkUp = true) (hm : (s.nport p).vfMse = true) (hf : s.funcExists p v = true)
    (hcc : (s.vf p v).cc % 2 = 0) :
    Done (.vfDoorbell t p v 0x24 val) s fun u =>
      u = (s.at t).setVf p v { s.vf p v with aqa := Nat.land val 0x0FFF0FFF } := by
  have h0 : v ≠ 0 := by omega
  have he : vfDoorbell p v 0x24 val (s.at t) = (s.at t).setVf p v { s.vf p v with aqa := Nat.land val 0x0FFF0FFF } := by
    have hf' : (s.at t).funcExists p v = true := hf
    unfold vfDoorbell
    rw [if_neg (by simp [hl, hf', State.decodes, h0, hm]), if_neg (by decide), if_neg h0, if_pos (by decide)]
    exact if_pos hcc
  refine done_act rfl ?_ hp fun u hu => ?_
  · simp only [isNp, h0, if_false, Bool.and_eq_true, decide_eq_true_eq]
    exact ⟨h2, h64, hv, by omega⟩
  · rw [hu, he]
    rfl

theorem vfCcWrite_enables {v val : Nat} (hp : s.railsOn) (h2 : p < 2) (h1 : 1 ≤ v) (h64 : v ≤ 64) (hv : val < 2 ^ 32)
    (hf : s.funcExists p v = true) (hok : vfCcOk (ccBits val) = true) (hen : val % 2 = 1) (hcc : (s.vf p v).cc % 2 = 0)
    (hb : s.o 0x5301 (vfRow p v) 2 = 1) (ha : (s.vf p v).aqa % 4096 ≠ 0) (ha' : (s.vf p v).aqa / 65536 % 4096 ≠ 0)
    (hc : (s.vf p v).cfs = false) (hs : s.silent = false) :
    Done (.vfCcWrite t p v val) s fun u =>
      (u.vf p v).cc = ccBits val ∧ (u.vf p v).rdy = true ∧ (u.ctrl (s.vfCtrl p v)).state = 2 ∧
      (u.ctrl (s.vfCtrl p v)).vf = some (p, v) ∧ s.otherObjects u [] ∧ u = { s.logged u with nvme := u.nvme, np := u.np } := by
  have he : vfCcWrite p v val (s.at t) = (s.at t).vfEnable p v (ccBits val) := by
    have hf' : (s.at t).funcExists p v = true := hf
    have hodd : ccBits val % 2 = 1 := by rw [ccBits]; omega
    have hall : (s.at t).o 0x5301 (vfRow p v) 2 = 1 ∧ ((s.at t).vf p v).aqa % 4096 ≠ 0 ∧ ((s.at t).vf p v).aqa / 65536 % 4096 ≠ 0 ∧
        ((s.at t).vf p v).cfs = false ∧ (s.at t).silent = false := ⟨hb, ha, ha', hc, hs⟩
    unfold vfCcWrite
    dsimp only
    rw [if_neg (by simp [hf', hok]), if_neg (by omega), if_pos (show ((s.at t).vf p v).cc % 2 = 0 from hcc), if_pos hall]
  refine done_act rfl ?_ hp fun u hu => ?_
  · simp only [isNp, isVf, Bool.and_eq_true, decide_eq_true_eq]
    exact ⟨⟨h2, h1, h64⟩, hv⟩
  · rw [he] at hu
    refine ⟨?_, ?_, ?_, ?_, ?_, State.Frame.eq (s := s) (ps := Part.logs ++ [.nvme, .ctrls, .np]) ?_⟩
    · rw [hu]; exact congrArg Vf.cc (((s.at t).vf_setVf ..).trans (if_pos ⟨rfl, rfl⟩))
    · rw [hu]; exact congrArg Vf.rdy (((s.at t).vf_setVf ..).trans (if_pos ⟨rfl, rfl⟩))
    · rw [hu]; exact congrArg Ctrl.state ((State.ctrl_setCtrl ..).trans (if_pos rfl))
    · rw [hu]; exact congrArg Ctrl.vf ((State.ctrl_setCtrl ..).trans (if_pos rfl))
    · rw [hu]
      simp [State.otherObjects_iff, State.vfEnable, State.setVf]
    · simp [hu, State.vfEnable]

end

/-! ### The link, resets and configuration space -/

section
variable {s : State} {t p : Nat}

/-- An input that changes is noted, and the near ports stay. -/
theorem State.inputChange_nport (s : State) (line sub k limit window q : Nat) :
    (s.inputChange line sub k limit window).nport q = s.nport q := by
  rw [State.nport, State.same_of_frame (ps := Part.others .np) (State.frame_inputChange line sub k limit window (by simp)) .np (by simp)]
  rfl

theorem State.inputChange_now (s : State) (line sub k limit window : Nat) :
    (s.inputChange line sub k limit window).now = s.now :=
  State.same_of_frame (ps := Part.others .now) (State.frame_inputChange line sub k limit window (by simp)) .now (by simp)

theorem State.o_after (s : State) (t : Nat) (w : State) (i r k : Nat) : (s.after t w).o i r k = w.o i r k := rfl
theorem State.nport_after (s : State) (t : Nat) (w : State) (q : Nat) : (s.after t w).nport q = w.nport q := rfl
theorem State.inputFaulty_after (s : State) (t : Nat) (w : State) (j k : Nat) : (s.after t w).inputFaulty j k = w.inputFaulty j k := rfl

theorem npPerstDeassert_trains (hp : s.railsOn) (h2 : p < 2) (hr : (s.nport p).perst = true) :
    Done (.npPerstDeassert t p) s fun u =>
      (u.nport p).perst = false ∧ (u.nport p).linkUp = false ∧
        ((u.nport p).cfg.enable = true → u.inputFaulty 2 p = false →
          (u.nport p).training = some (max s.now t) ∧ u.o 0x5303 p 2 = 1) := by
  obtain ⟨w, hw⟩ : ∃ w, w = (s.at t).inputChange (perstLine p) 2 p 16 sNs := ⟨_, rfl⟩
  have hn : w.nport p = s.nport p := by rw [hw, State.inputChange_nport]; rfl
  have hnow : w.now = max s.now t := by rw [hw, State.inputChange_now]; rfl
  obtain ⟨v, hv⟩ : ∃ v, v = w.setNport p { w.nport p with perst := false } := ⟨_, rfl⟩
  have hvn : v.nport p = { s.nport p with perst := false } := by rw [hv, State.nport_setNport, if_pos rfl, hn]
  have hf : npPerstDeassert p (s.at t) = v.npLinkGone p := by
    rw [npPerstDeassert, if_pos (by exact hr), ← hw, hv]
  obtain ⟨h1, h3, -⟩ := v.npLinkGone_nport p
  obtain ⟨h4, h5⟩ := v.npLinkGone_trains p
  refine done_actPin rfl (decide_eq_true h2) hp fun u hu => ?_
  rw [hu, hf, State.nport_after, State.inputFaulty_after, State.o_after, h4, h5, h1, h3, hvn]
  refine ⟨rfl, rfl, fun he hi => ?_⟩
  rw [he, hi, hv]
  simp [hnow]

theorem npReset_asserts (hp : s.railsOn) (h2 : p < 2) (hr : (s.nport p).perst = false) :
    Done (.npReset t p .perstAssert) s fun u =>
      (u.nport p).perst = true ∧ (u.nport p).linkUp = false ∧ (u.nport p).vfEnable = false ∧ u.o 0x5303 p 2 = 0 := by
  obtain ⟨w, hw⟩ : ∃ w, w = ((s.at t).inputChange (perstLine p) 2 p 16 sNs).resetPort p := ⟨_, rfl⟩
  obtain ⟨-, -, hvf, -⟩ := ((s.at t).inputChange (perstLine p) 2 p 16 sNs).resetPort_nport p
  obtain ⟨v, hv⟩ : ∃ v, v = w.setNport p { w.nport p with perst := true } := ⟨_, rfl⟩
  have hvn : v.nport p = { w.nport p with perst := true } := by rw [hv, State.nport_setNport, if_pos rfl]
  have hf : npReset p .perstAssert (s.at t) = v.npLinkGone p := by
    have hr' : ¬ ((s.at t).nport p).perst = true := by simp [hr]
    unfold npReset
    dsimp only
    rw [if_neg hr', ← hw, hv]
  obtain ⟨h1, h3, h6⟩ := v.npLinkGone_nport p
  obtain ⟨h4, -⟩ := v.npLinkGone_trains p
  refine done_actPin rfl (decide_eq_true h2) hp fun u hu => ?_
  rw [hu, hf, State.nport_after, State.o_after, h4, h1, h3, h6, hvn]
  refine ⟨rfl, rfl, ?_, by simp⟩
  change (w.nport p).vfEnable = false
  rw [hw, hvf]

theorem nearPortLinkUp_shows {width rate : Nat} (hp : s.railsOn) (h2 : p < 2) (h1 : 1 ≤ width) (h8 : width ≤ 8)
    (hrate : rate = 16 ∨ rate = 32 ∨ rate = 64) (ht : (s.nport p).training.isSome = true) :
    Done (.nearPortLinkUp t p width rate) s fun u =>
      u.nport p = { s.nport p with linkUp := true, training := none, width := width, rate := rate } ∧
      u.o 0x5303 p 2 = 2 ∧ u.o 0x5303 p 3 = width ∧ u.o 0x5303 p 4 = rate ∧
      (width < 8 ∨ rate < (s.nport p).cfg.maxRate → u.told .nearPortDegraded [p, width, rate]) ∧ u = { s.logged u with np := u.np } := by
  obtain ⟨n, hn⟩ : ∃ n : NearPort, n = { s.nport p with linkUp := true, training := none, width := width, rate := rate } := ⟨_, rfl⟩
  obtain ⟨w, hw⟩ : ∃ w, w = ((((s.at t).setNport p n).put 0x5303 p 2 2).put 0x5303 p 3 width).put 0x5303 p 4 rate := ⟨_, rfl⟩
  have hf : nearPortLinkUp p width rate (s.at t) =
      if width < 8 ∨ rate < (s.nport p).cfg.maxRate then w.raise .nearPortDegraded [p, width, rate] else w := by
    unfold nearPortLinkUp
    rw [if_pos (by exact ht), hw, hn]
    simp [State.npShowLink, State.npTrained]
  have hwn : w.nport p = n := by simp [hw]
  have hwo : w.o 0x5303 p 2 = 2 ∧ w.o 0x5303 p 3 = width ∧ w.o 0x5303 p 4 = rate := by simp [hw, objKey_inj]
  have hwf : s.Frame (Part.logs ++ [.np]) w := by simp [hw]
  refine done_actPin rfl ?_ hp fun u hu => ?_
  · simp only [isNp, Bool.and_eq_true, decide_eq_true_eq]
    obtain rfl | rfl | rfl := hrate <;> exact ⟨⟨h2, h1, h8⟩, by decide⟩
  · rw [hu, hf, ← hn]
    by_cases hc : width < 8 ∨ rate < (s.nport p).cfg.maxRate
    · rw [if_pos hc]
      refine ⟨by simp [hwn], by simp [hwo], by simp [hwo], by simp [hwo], fun _ => State.told_of_ev (by simp) (w.told_raise _ _),
        State.Frame.eq (s := s) (ps := Part.logs ++ [.np])
          (State.frame_after t _ _ (by simp) (.inl rfl) (.inl rfl) (.inl rfl) (by simpa using hwf))⟩
    · rw [if_neg hc]
      exact ⟨by simp [hwn], by simp [hwo], by simp [hwo], by simp [hwo], fun h => absurd h hc,
        State.Frame.eq (s := s) (ps := Part.logs ++ [.np])
          (State.frame_after t _ _ (by simp) (.inl rfl) (.inl rfl) (.inl rfl) (by simpa using hwf))⟩

/-- A configuration request on a port that is up is answered. -/
theorem done_npConfig {f off : Nat} {w : Option Nat} {Q : State → Prop} (hp : s.railsOn) (h2 : p < 2) (hf : f ≤ 64) (ho : off < 4096)
    (h4 : off % 4 = 0) (h : ∀ u, u = s.after t (npConfigRequest p f off w (s.at t)) → Q u) : Done (.npConfigRequest t p f off w) s Q :=
  done_actPin rfl (by simp only [isNp, Bool.and_eq_true, decide_eq_true_eq]; exact ⟨h2, hf, ho, h4⟩) hp h

theorem npConfigRequest_retries {f off : Nat} {w : Option Nat} (hl : (s.nport p).linkUp = true) (hr : (s.nport p).ready = false) :
    npConfigRequest p f off w (s.at t) = (s.at t).emit (.npReply p f 2 0 4) := by
  unfold npConfigRequest
  rw [if_neg (by simp [hl]), if_pos (by exact hr)]

theorem npConfigRequest_writes {f off v : Nat} (hl : (s.nport p).linkUp = true) (hr : (s.nport p).ready = true)
    (he : s.funcExists p f = true) :
    npConfigRequest p f off (some v) (s.at t) = (configWrite p f off v (s.at t)).emit (.npReply p f 0 0 0) := by
  have he' : (s.at t).funcExists p f = true := he
  unfold npConfigRequest
  rw [if_neg (by simp [hl]), if_neg (by simp [hr]), if_neg (by simp [he'])]

theorem npConfigRequest_reads {f off : Nat} (hl : (s.nport p).linkUp = true) (hr : (s.nport p).ready = true)
    (he : s.funcExists p f = true) :
    npConfigRequest p f off none (s.at t) = (s.at t).emit (.npReply p f 0 ((s.at t).configRead p f off) 4) := by
  have he' : (s.at t).funcExists p f = true := he
  unfold npConfigRequest
  rw [if_neg (by simp [hl]), if_neg (by simp [hr]), if_neg (by simp [he'])]

theorem npConfigRequest_numVfs {v : Nat} (hp : s.railsOn) (h2 : p < 2) (hl : (s.nport p).linkUp = true)
    (hr : (s.nport p).ready = true) (hv : (s.nport p).vfEnable = false) :
    Done (.npConfigRequest t p 0 0x160 (some v)) s fun u =>
      (u.nport p).numVfs = min 64 (v % 65536) ∧ u.o 0x5303 p 5 = min 64 (v % 65536) ∧
      Out.npReply p 0 0 0 0 ∈ u.out ∧ u = { s.logged u with np := u.np } := by
  have hf : npConfigRequest p 0 0x160 (some v) (s.at t) =
      ((s.at t).setVfEnable p false (min 64 (v % 65536))).emit (.npReply p 0 0 0 0) := by
    rw [npConfigRequest_writes hl hr (by simp [State.funcExists])]
    simp [configWrite, hv]
  refine done_npConfig hp h2 (by decide) (by decide) (by decide) fun u hu => ?_
  rw [hf] at hu
  exact ⟨by simp [hu, State.setVfEnable], by simp [hu, State.setVfEnable], by simp [hu],
    State.Frame.eq (s := s) (ps := Part.logs ++ [.np]) (by simp [hu, State.setVfEnable])⟩

theorem State.releaseMsix_vf (s : State) (p f : Nat) (hf : f ≠ 0) : ((s.releaseMsix p f).vf p f).bme = (s.vf p f).bme := by
  have heach : ∀ (xs : List Nat) (g : Nat → Out) (u : State), (u.each xs fun s v => s.emit (g v)).vf p f = u.vf p f := fun xs g u => by
    have h : (u.each xs fun s v => s.emit (g v)).np = u.np :=
      State.same_of_frame (ps := Part.others .np) (State.frame_each fun v a => by simp) .np (by simp)
    simp only [State.vf, State.nport, h]
  unfold State.releaseMsix
  rw [if_neg hf]
  dsimp only
  rw [heach, State.vf_setVf, if_pos ⟨rfl, rfl⟩]

theorem npConfigRequest_vfBme {f v : Nat} (hp : s.railsOn) (h2 : p < 2) (h1 : 1 ≤ f) (h64 : f ≤ 64) (hb : bit v 2 = true)
    (hl : (s.nport p).linkUp = true) (hr : (s.nport p).ready = true) (he : s.funcExists p f = true) :
    Done (.npConfigRequest t p f 4 (some v)) s fun u =>
      (u.vf p f).bme = true ∧ Out.npReply p f 0 0 0 ∈ u.out ∧ u = { s.logged u with np := u.np } := by
  have h0 : f ≠ 0 := by omega
  obtain ⟨w, hw⟩ : ∃ w, w = ((s.at t).setVf p f { s.vf p f with bme := true }).releaseMsix p f := ⟨_, rfl⟩
  have hbme : (w.vf p f).bme = true := by
    rw [hw, State.releaseMsix_vf _ _ _ h0, State.vf_setVf, if_pos ⟨rfl, rfl⟩]
  have hwf : s.Frame (Part.logs ++ [.np]) w := by simp [hw]
  have hf : npConfigRequest p f 4 (some v) (s.at t) = w.emit (.npReply p f 0 0 0) := by
    rw [npConfigRequest_writes hl hr he, hw]
    simp only [configWrite, if_true, h0, if_false, hb]
    rfl
  refine done_npConfig hp h2 h64 (by decide) (by decide) fun u hu => ?_
  rw [hf] at hu
  refine ⟨by rw [hu, State.vf_after]; exact hbme, by simp [hu], State.Frame.eq (s := s) (ps := Part.logs ++ [.np]) ?_⟩
  simp only [hu, Part.logs, List.cons_append, List.nil_append] at hwf ⊢
  simp [hwf]

end

/-! ### BAR2 and the rest -/

section
variable {s : State} {t p : Nat}

theorem npBar2Access_acts {off len a : Nat} {w : Option Content} (hp : s.railsOn) (h2 : p < 2) (hl : (s.nport p).linkUp = true)
    (hm : (s.nport p).memEnable = true) (hb : (s.nport p).cfg.bar2 ≠ 0) (hfit : off + len ≤ 2 ^ (s.nport p).cfg.bar2)
    (ho4 : off % 4 = 0) (hl4 : len % 4 = 0) (ha : s.inboundAt p off len w.isSome = some a) :
    Done (.npBar2Access t p off len w ⟨false, false⟩) s fun u => u = match w with
      | some d => { s.at t with hbm := Memory.writeN s.hbm a d len }
      | none => (s.at t).emit (.npReply p 0 0 (Memory.readN s.hbm a len) len) := by
  have ha' : (s.at t).inboundAt p off len w.isSome = some a := ha
  refine done_actMem rfl (decide_eq_true h2) hp fun u hu => ?_
  rw [hu]
  unfold npBar2Access
  dsimp only
  rw [if_neg (by simp [hl]), if_neg Bool.noConfusion, if_neg (by simp [hm, hb, hfit]), if_neg (by simp [ho4, hl4]), if_neg (by simp), ha']
  cases w <;> rfl

theorem State.o_5303_bump (v : State) (p : Nat) : (v.bump 0x5303 p 0xB).o 0x5303 p 0xB = satAdd (v.o 0x5303 p 0xB) 1 := by
  simp [satAt_5303]

/-- A commit whose own effect does nothing here: only the port's record moves besides what every answer moves. -/
theorem done_npCommit {i : Instr} {sess win : Nat} {chk : Session → Stage → State → Abort} {app : Stage → State → State → State}
    {subs : List Nat} (hi : exec i s = act t true s fun u => u.commitAs sess win 1 chk app) (hp : s.railsOn)
    (hm : (s.at t).mayCommit sess win chk = true) (hw : isShelfSetting win 0 = false)
    (hsubs : ∀ k ∈ subs, k % 256 = k ∧ Dict.stores win k = true) (happ : ∀ v, app (s.staged sess win) (s.at t) v = v) :
    Done i s fun u => s.committed u sess win ∧ s.rowTook u sess win subs ∧ u = { s.logged u with np := u.np } := by
  refine done_commitRow hi rfl rfl hp hm (by simp [hw]) hsubs (fun v => by rw [happ]) (fun v _ k _ => by rw [happ]) fun u v hv hu => ?_
  rw [State.configStep_of_not_shelf hw] at hu
  refine State.Frame.eq (s := s) (ps := Part.logs ++ [.np]) (State.frame_powerCommitted hu (fun _ h => h) ?_)
  rw [happ]
  simp

end

/-- Settles O36, command by command; every reset goes through what `State.resetPort` and `State.npLinkGone` leave. -/
theorem nearPortActs : Obligations.NearPortActs := by
  unfold Obligations.NearPortActs
  intro s t p hp h2
  have hok : isNp p = true := decide_eq_true h2
  have hvok : ∀ v, 1 ≤ v → v ≤ 64 → (isNp p && isVf v) = true := fun v h1 h64 => by
    simp only [isNp, isVf, Bool.and_eq_true, decide_eq_true_eq]
    exact ⟨h2, h1, h64⟩
  refine ⟨npPerstDeassert_trains hp h2, npReset_asserts hp h2, fun hl => ?hot, fun hl => ?down,
    fun width rate h1 h8 hrate ht => nearPortLinkUp_shows hp h2 h1 h8 hrate ht, fun f off hf ho h4 hl hr he => ?read,
    fun f off w hf ho h4 hl hr => ?retry, fun v hl hr hv => npConfigRequest_numVfs hp h2 hl hr hv,
    fun f v h1 h64 hb hl hr he => npConfigRequest_vfBme hp h2 h1 h64 hb hl hr he,
    fun v y q val h1 h64 hy hv hl hm hf hi hc hcc hq hval => vfDoorbell_rings hp h2 h1 h64 rfl hy hv hl hm hf hi hc hcc hq hval,
    fun v val h1 h64 hv hl hm hf hcc => vfDoorbell_aqa hp h2 h1 h64 hv hl hm hf hcc,
    fun v val h1 h64 hv hf hcok hen hcc hb ha ha' hc hs => vfCcWrite_enables hp h2 h1 h64 hv hf hcok hen hcc hb ha ha' hc hs,
    fun off len a d hl hm hb hfit ho4 hl4 ha => npBar2Access_acts (w := some d) hp h2 hl hm hb hfit ho4 hl4 ha,
    fun off len a hl hm hb hfit ho4 hl4 ha => npBar2Access_acts (w := none) hp h2 hl hm hb hfit ho4 hl4 ha,
    fun sess hm => ?inbound, fun v h1 h64 hb hbusy => ?busMaster, fun v h1 h64 => ?flr, ?pf0, fun hv => ?vfs,
    fun sess hm hn => done_npCommit rfl hp hm rfl (by decide) fun v => by simp [applyVfBinding, hn]⟩
  case hot =>
    refine done_actPin rfl hok hp fun u hu => ?_
    rw [hu, npReset, if_pos (by exact hl), State.nport_after]
    exact (s.at t).resetPort_nport p
  case down =>
    refine done_actPin rfl hok hp fun u hu => ?_
    obtain ⟨h1, -, h3⟩ := ((s.at t).resetPort p).npLinkGone_nport p
    rw [hu, npReset, if_pos (by exact hl), State.nport_after, h1, h3]
    exact ⟨rfl, ((s.at t).resetPort_nport p).2.2.1⟩
  case read =>
    refine done_npConfig hp h2 hf ho h4 fun u hu => ?_
    rw [hu, npConfigRequest_reads hl hr he]
    rfl
  case retry =>
    refine done_npConfig hp h2 hf ho h4 fun u hu => ?_
    rw [hu, npConfigRequest_retries hl hr]
    rfl
  case inbound =>
    obtain ⟨u, hu, hc, hr, he⟩ := done_npCommit (subs := [2, 3, 4, 5, 6, 7]) (i := .inboundEntryCommit t sess) rfl hp hm rfl (by decide) fun v => rfl
    exact ⟨u, hu, hc, hr, State.Frame.eq (s := s) (ps := Part.logs ++ [.np, .twin]) (he ▸ by simp)⟩
  case busMaster =>
    refine done_act rfl (hvok v h1 h64) hp fun u hu => ?_
    have hbusy' : (s.at t).vfBusy p v = false := hbusy
    have hb' : ((s.at t).vf p v).bme = true := hb
    rw [hu, busMasterClear, if_neg (by simp [hb'])]
    simp only [hbusy', Bool.false_eq_true, if_false]
    rfl
  case flr =>
    refine done_act rfl (hvok v h1 h64) hp fun u hu => ?_
    rw [hu, vfFlr, State.o_after, State.vf_after, State.o_5303_bump, State.o_resetVf _ _ _ _ (by decide) rfl,
      show ∀ w : State, (w.bump 0x5303 p 0xB).vf p v = w.vf p v from fun _ => rfl, State.resetVf_vf]
    exact ⟨rfl, rfl, rfl, rfl, rfl, rfl⟩
  case pf0 =>
    obtain ⟨h1, h2, h3, -⟩ := (s.at t).resetPort_nport p
    obtain ⟨h5, hB⟩ := (s.at t).resetPort_o p
    refine done_act rfl hok hp fun u hu => ?_
    rw [hu, pf0Flr, State.o_after, State.o_after, State.nport_after, State.o_5303_bump, hB,
      show ∀ w : State, (w.bump 0x5303 p 0xB).nport p = w.nport p from fun _ => rfl, h1, h2, h3]
    refine ⟨rfl, rfl, rfl, ?_, by rw [State.o_at]⟩
    simpa [objKey_inj] using h5
  case vfs =>
    refine done_act rfl hok hp fun u hu => ?_
    rw [hu, vfEnableClear, if_pos (by exact hv), State.nport_after]
    simp [State.setVfEnable]

end Sys2Proof.Machine
end

section
/-! CLAIM. A takeover by a module with nothing to take (14 Table 5). -/

namespace Sys2Proof.Machine

section
variable {s : State}

/-- With no command waiting, a command that ends ends nothing. -/
theorem State.complete_of_none (h : s.nvme.cmds = []) (id sct sc dw0 : Nat) : s.complete id sct sc dw0 = s :=
  if_pos (.inl (by rw [h]; rfl))

theorem State.settleWrites_of_none (h : s.nvme.cmds = []) : s.settleWrites = s := by
  unfold State.settleWrites
  rw [h]
  rfl

/-- With no command waiting, acknowledged reservations are forgotten and nothing else happens. -/
theorem State.ackReservations_of_none (h : s.nvme.cmds = []) :
    s.ackReservations.nvme.cmds = [] ∧ s.Frame [.nvme, .nss] s.ackReservations := by
  unfold State.ackReservations
  generalize s.nvme.ns = l
  induction l generalizing s with
  | nil => exact ⟨h, .refl _ _⟩
  | cons e l ih =>
    obtain ⟨v, hv⟩ : ∃ v, v = s.setNs e.1 { s.ns e.1 with resvSent := [] } := ⟨_, rfl⟩
    have hvc : v.nvme.cmds = [] := by
      rw [hv]
      exact h
    have hone : (v.each e.2.resvSent fun s x => s.succeed x.2) = v := by
      generalize e.2.resvSent = xs
      induction xs with
      | nil => rfl
      | cons x xs ih' =>
        refine Eq.trans ?_ ih'
        exact congrArg (fun w => State.each w xs fun s x => s.succeed x.2) (State.complete_of_none hvc _ _ _ _)
    obtain ⟨h1, h2⟩ := ih hvc
    have hcons : (s.each (e :: l) fun s e =>
        (s.setNs e.1 { s.ns e.1 with resvSent := [] }).each e.2.resvSent fun s x => s.succeed x.2) =
      v.each l fun s e => (s.setNs e.1 { s.ns e.1 with resvSent := [] }).each e.2.resvSent fun s x => s.succeed x.2 := by
      refine congrArg (fun w => State.each w l fun s e =>
        (s.setNs e.1 { s.ns e.1 with resvSent := [] }).each e.2.resvSent fun s x => s.succeed x.2) ?_
      rw [← hone, hv]
    have hset : s.Frame [.nvme, .nss] v := by
      rw [hv]
      exact (State.frame_setNs _ _ (by simp)).2 (.refl _ _)
    rw [hcons]
    exact ⟨h1, hset.trans h2⟩

theorem State.ackUnmirrored_of_none (h : s.nvme.cmds = []) :
    s.ackUnmirrored.nvme.cmds = [] ∧ s.Frame [.nvme, .nss, .dict] s.ackUnmirrored ∧
      ∀ i r j, i % 65536 ≠ 0x2403 → s.ackUnmirrored.o i r j = s.o i r j := by
  obtain ⟨h1, h2⟩ := State.ackReservations_of_none h
  have hf : s.ackUnmirrored = s.ackReservations.syncMirror := by
    unfold State.ackUnmirrored
    dsimp only
    rw [h1]
    rfl
  rw [hf]
  refine ⟨h1, (State.frame_syncMirror (by simp)).2 (h2.mono (by simp)), fun i r j hi => ?_⟩
  rw [State.syncMirror, State.o_put, if_neg fun e => hi (objKey_inj.1 e).1.symm, State.o_put, if_neg fun e => hi (objKey_inj.1 e).1.symm]
  rw [State.o, State.o, State.val, State.val, h2.same .dict]

/-- With no command waiting, the start of an erase raises no event. -/
theorem State.startErase_of_none (h : s.nvme.cmds = []) (r : Nat) (cmd : Option Nat) (deleting : Bool) (sc : Nat) :
    (s.startErase r cmd deleting sc).nvme.cmds = [] ∧
      s.Frame [.out, .dict, .nvme, .nss, .arr, .twin, .pwr] (s.startErase r cmd deleting sc) := by
  unfold State.startErase
  extract_lets x v a early v1 held v2 v3 v4 v5 seq src v6
  have hearly : early = [] := by
    change List.filter _ (List.filter _ v.nvme.cmds) = []
    rw [show v.nvme.cmds = [] from h]
    rfl
  have hv1 : v1 = v := by
    change v.each early _ = v
    rw [hearly]
    rfl
  have hheld : held = [] := by
    change List.filterMap _ (List.filter _ (List.filter _ v1.nvme.cmds)) = []
    rw [hv1, show v.nvme.cmds = [] from h]
    rfl
  have hv2 : v2 = v := by
    change v1.each held.eraseDups _ = v
    rw [hheld, hv1]
    rfl
  have hv3 : v.Frame [.arr] v3 := by
    change v.Frame [.arr] (v2.each _ _)
    rw [hv2]
    exact (State.frame_each fun w g => State.frame_dropSectors _ _ _ (by simp)).2 (.refl _ _)
  have hv4 : v.Frame [.out, .dict, .arr, .twin, .pwr] (v3.retireClean a).syncDirty :=
    (State.frame_syncDirty (by simp)).2 ((State.frame_retireClean a (by simp)).2 (hv3.mono (by simp)))
  have hcmd4 : (v3.retireClean a).syncDirty.nvme.cmds = [] := (congrArg NvmeState.cmds (hv4.same .nvme)).trans h
  have hv5 : v.Frame [.out, .dict, .arr, .twin, .pwr] v5 := by
    change v.Frame _ ((v3.retireClean a).syncDirty.settleWrites.syncNsState r)
    rw [State.settleWrites_of_none hcmd4]
    exact (State.frame_syncNsState r (by simp)).2 hv4
  have hv : s.Frame [.out, .dict, .nvme, .nss, .arr, .twin, .pwr] v := (State.frame_setNs _ _ (by simp)).2 (.refl _ _)
  have hcmd5 : v5.nvme.cmds = [] := (congrArg NvmeState.cmds (hv5.same .nvme)).trans h
  have hall := hv.trans (hv5.mono (by simp))
  have hkey : ∀ (w : State) (y : NsState), w.nvme.cmds = [] →
      ((w.setNs r y).sendRec .key r 0 0 (.key none)).nvme.cmds = [] ∧
        w.Frame [.out, .dict, .nvme, .nss, .twin] ((w.setNs r y).sendRec .key r 0 0 (.key none)) := fun w y hw => by
    have hsend : (w.setNs r y).Frame [.out, .dict, .twin] ((w.setNs r y).sendRec .key r 0 0 (.key none)) :=
      (State.frame_sendRec _ _ _ _ _ (by simp)).2 (.refl _ _)
    have hset : w.Frame [.nvme, .nss] (w.setNs r y) := (State.frame_setNs _ _ (by simp)).2 (.refl _ _)
    exact ⟨(congrArg NvmeState.cmds (hsend.same .nvme)).trans hw, (hset.mono (by simp)).trans (hsend.mono (by simp))⟩
  clear_value v5
  split
  · exact ⟨h, (State.frame_setNs _ _ (by simp)).2 (.refl _ _)⟩
  · split
    · exact ⟨h, (State.frame_syncNsState r (by simp)).2 hv⟩
    · split
      · obtain ⟨h1, h2⟩ := hkey v5 { src with keyAsked := some seq, keyDone := false } hcmd5
        exact ⟨h1, hall.trans (h2.mono (by simp))⟩
      · exact ⟨hcmd5, hall.trans ((State.frame_setNs _ _ (by simp)).2 (.refl _ _))⟩

/-- With no command waiting, the erases that waited for a takeover start without an event. -/
theorem State.startErases_of_none (h : s.nvme.cmds = []) :
    s.Frame [.out, .dict, .nvme, .nss, .arr, .twin, .pwr] s.startErases := by
  unfold State.startErases
  generalize s.nvme.ns = l
  induction l generalizing s with
  | nil => exact .refl _ _
  | cons e l ih =>
    have hone : ∀ v : State, v.nvme.cmds = [] → (match e.2.eraseLater with
        | some (sc, deleting) => (v.setNs e.1 { v.ns e.1 with eraseLater := none }).startErase e.1 e.2.eraseCmd deleting sc
        | none => v).nvme.cmds = [] ∧ v.Frame [.out, .dict, .nvme, .nss, .arr, .twin, .pwr] (match e.2.eraseLater with
        | some (sc, deleting) => (v.setNs e.1 { v.ns e.1 with eraseLater := none }).startErase e.1 e.2.eraseCmd deleting sc
        | none => v) := fun v hv => by
      split
      · obtain ⟨h1, h2⟩ := State.startErase_of_none (s := v.setNs e.1 { v.ns e.1 with eraseLater := none }) hv e.1 e.2.eraseCmd _ _
        exact ⟨h1, ((State.frame_setNs (ps := [.out, .dict, .nvme, .nss, .arr, .twin, .pwr]) _ _ (by simp)).2 (.refl _ _)).trans h2⟩
      · exact ⟨hv, .refl _ _⟩
    obtain ⟨h1, h2⟩ := hone s h
    exact h2.trans (ih h1)

@[simp] theorem State.objs_startErases {u : State} : s.Objs u.startErases ↔ s.Objs u := by
  unfold State.startErases
  refine State.objs_each fun v e => ?_
  split
  · exact (State.objs_startErase ..).trans (State.objs_setNs ..)
  · rfl

theorem Dict.off_twinStatus (j : Nat) : Dict.off 0x2400 j = true := by
  simp [Dict.off, Dict.worked]

/-- The ends of a takeover that found nothing to take. -/
theorem State.finishTakeover_none {k : Takeover} (hk : s.twin.take = some k) (hleft : k.left = []) (htaken : k.taken = [])
    (hst : s.twin.standby = []) (hc : s.nvme.cmds = []) :
    s.finishTakeover.told .takeover [0, k.trigger] ∧ s.finishTakeover.o 0x2430 0 3 = 0 ∧ s.finishTakeover.o 0x2430 0 4 = k.trigger ∧
      s.finishTakeover.twin.take = some k ∧ ∀ j, s.finishTakeover.o 0x2400 0 j = s.o 0x2400 0 j := by
  obtain ⟨v, hv⟩ : ∃ v, v = if s.twin.linked then s.sendRec .takeoverComplete 0 0 0 .none else s := ⟨_, rfl⟩
  have hvf : s.Frame [.out, .dict, .twin] v := by
    rw [hv]
    split
    · exact (State.frame_sendRec _ _ _ _ _ (by simp)).2 (.refl _ _)
    · exact .refl _ _
  have hvo : s.Objs v := by
    rw [hv]
    split
    · exact (State.objs_sendRec ..).2 (.refl _)
    · exact .refl _
  obtain ⟨w, hw⟩ : ∃ w, w = ((((((v.put 0x2430 0 1 k.ptp0.toNat).put 0x2430 0 2 ((v.now - k.t0) / 1000)).put 0x2430 0 3 0).put 0x2430 0 4
      k.trigger).put 0x2430 0 5 k.continued).put 0x2430 0 6 k.lost).raise .takeover [0, k.trigger] := ⟨_, rfl⟩
  have hwc : w.nvme.cmds = [] := by
    rw [hw]
    simpa using (congrArg NvmeState.cmds (hvf.same .nvme)).trans hc
  have hf : s.finishTakeover = w.startErases := by
    unfold State.finishTakeover
    have hstand : s.each (s.twin.standby.map Prod.fst) State.inherit = s := by
      rw [hst]
      rfl
    rw [hk]
    dsimp only
    rw [hleft, if_pos (by rfl), htaken, hstand, hk, hw, hv]
    rfl
  have her := State.startErases_of_none hwc
  have hobj : ∀ i r j, Dict.off i j = true → w.startErases.o i r j = w.o i r j := fun i r j h =>
    State.o_of_objs (State.objs_startErases ..) i r j h
  rw [hf]
  refine ⟨State.told_of_ev (her.same .ev) (by rw [hw]; exact State.told_raise _ _ _), ?_, ?_, ?_, fun j => ?_⟩
  · rw [hobj _ _ _ (by decide), hw]
    simp
  · rw [hobj _ _ _ (by decide), hw]
    simp
  · rw [her.same .take, hw]
    have ht : v.twin.take = s.twin.take := hvf.same .take
    simpa using ht.trans hk
  · rw [hobj _ _ _ (Dict.off_twinStatus j), hw, ← State.o_of_objs (u := s) (v := v) ⟨fun _ => .refl _, fun _ => hvo⟩ 0x2400 0 j (Dict.off_twinStatus j)]
    simp

theorem State.o_syncDirty_of_ne {i r j : Nat} (s : State) (h : i % 65536 ≠ 0x5010) : s.syncDirty.o i r j = s.o i r j := by
  have hput : ∀ (u : State) (k n : Nat), (u.put 0x5010 0 k n).o i r j = u.o i r j := fun u k n => by
    rw [State.o_put, if_neg fun e => h (objKey_inj.1 e).1.symm]
  unfold State.syncDirty
  extract_lets a b c d
  rw [State.when]
  have hd : d.o i r j = s.o i r j := by rw [hput, hput, hput, hput]
  split
  · exact hd
  · exact hd

/-- A takeover that finds nothing to take. -/
def State.emptyTakeover (s : State) (trigger : Nat) : Takeover :=
  { t0 := s.now, ptp0 := s.ptpNow, trigger := trigger, left := [], taken := [] }

/-- A module that starts a takeover with nothing to take. -/
def State.beginsTakeover (s : State) (trigger : Nat) : State :=
  ({ s with twin := { s.twin with take := some (s.emptyTakeover trigger), closed := [], held := [], joining := [], recheck := none } } :
    State).put 0x2400 0 4 3

/-- With the yield line asserted or faulty, what waits for the peer is acknowledged. -/
def State.acksUnmirrored (s : State) : State := if s.twin.yieldIn || decide (s.ob 0x2400 6 = 1) then s.ackUnmirrored else s

/-- A module that takes over owns every array. -/
def State.ownsAll (s : State) (me : Nat) : State := (((s.setOwner 0 me).setOwner 1 me).setOwner 2 me).setOwner 3 me

/-- What a takeover with nothing to take has done before its end. -/
def State.takesNothing (s : State) (trigger : Nat) : State :=
  let x := (s.beginsTakeover trigger).acksUnmirrored.ownsAll s.ownIndex
  ({ x with twin := { x.twin with mirror := [] } } : State).syncMirror.syncDirty

theorem State.acksUnmirrored_of_none (h : s.nvme.cmds = []) :
    s.acksUnmirrored.nvme.cmds = [] ∧ s.Frame [.nvme, .nss, .dict] s.acksUnmirrored ∧
      ∀ i r j, i % 65536 ≠ 0x2403 → s.acksUnmirrored.o i r j = s.o i r j := by
  unfold State.acksUnmirrored
  split
  · exact State.ackUnmirrored_of_none h
  · exact ⟨h, .refl _ _, fun _ _ _ _ => rfl⟩

theorem State.ownsAll_keeps (s : State) (me : Nat) :
    s.Frame [.dict] (s.ownsAll me) ∧ ∀ i r j, i % 65536 ≠ 0x2410 → (s.ownsAll me).o i r j = s.o i r j := by
  refine ⟨?_, fun i r j h => ?_⟩
  · unfold State.ownsAll
    simp only [State.frame_setOwner, List.mem_singleton]
    exact .refl _ _
  · have hput : ∀ u : State, ∀ a m, (u.setOwner a m).o i r j = u.o i r j := fun u a m => by
      rw [State.setOwner, State.o_put, if_neg fun e => h (objKey_inj.1 e).1.symm, State.o_put, if_neg fun e => h (objKey_inj.1 e).1.symm]
    rw [State.ownsAll, hput, hput, hput, hput]

theorem State.takesNothing_keeps (hc : s.nvme.cmds = []) (trigger : Nat) :
    (s.takesNothing trigger).nvme.cmds = [] ∧ (s.takesNothing trigger).twin.take = some (s.emptyTakeover trigger) ∧
      (s.takesNothing trigger).twin.standby = s.twin.standby ∧
      ∀ i r j, i % 65536 ≠ 0x2403 → i % 65536 ≠ 0x2410 → i % 65536 ≠ 0x5010 →
        (s.takesNothing trigger).o i r j = (s.beginsTakeover trigger).o i r j := by
  obtain ⟨h1, h2, h3⟩ := State.acksUnmirrored_of_none (s := s.beginsTakeover trigger) hc
  obtain ⟨h4, h5⟩ := (s.beginsTakeover trigger).acksUnmirrored.ownsAll_keeps s.ownIndex
  obtain ⟨x, hx⟩ : ∃ x, x = (s.beginsTakeover trigger).acksUnmirrored.ownsAll s.ownIndex := ⟨_, rfl⟩
  rw [← hx] at h4 h5
  obtain ⟨y, hy⟩ : ∃ y, y = ({ x with twin := { x.twin with mirror := [] } } : State) := ⟨_, rfl⟩
  have hf : s.takesNothing trigger = y.syncMirror.syncDirty := by rw [hy, hx]; rfl
  have hfr : y.Frame [.dict, .pwr] (s.takesNothing trigger) := by
    rw [hf]
    exact (State.frame_syncDirty (by simp)).2 ((State.frame_syncMirror (by simp)).2 (.refl _ _))
  have hyn : y.nvme = x.nvme := by rw [hy]
  have hyt : y.twin = { x.twin with mirror := [] } := by rw [hy]
  have hxt : x.twin = (s.beginsTakeover trigger).twin := Eq.trans (h4.same .twin) (h2.same .twin)
  have hxn : x.nvme = (s.beginsTakeover trigger).acksUnmirrored.nvme := h4.same .nvme
  have hfn : (s.takesNothing trigger).nvme = y.nvme := hfr.same .nvme
  have hft : (s.takesNothing trigger).twin = y.twin := hfr.same .twin
  refine ⟨by rw [hfn, hyn, hxn, h1], by rw [hft, hyt, hxt]; rfl, by rw [hft, hyt, hxt]; rfl, fun i r j i1 i2 i3 => ?_⟩
  rw [hf, State.o_syncDirty_of_ne _ i3, State.syncMirror, State.o_put, if_neg fun e => i1 (objKey_inj.1 e).1.symm, State.o_put,
    if_neg fun e => i1 (objKey_inj.1 e).1.symm, hy]
  exact (h5 i r j i2).trans (h3 i r j i1)

theorem State.takeOver_of_alone (h : s.takesAlone) (trigger : Nat) : s.takeOver trigger = (s.takesNothing trigger).finishTakeover := by
  obtain ⟨hsil, htake, harr, hif, hst, hheld, hmir, hwait, hdrain, hcmd⟩ := h
  obtain ⟨-, -, -, hyo⟩ := State.takesNothing_keeps hcmd trigger
  obtain ⟨h1, h2, h3⟩ := State.acksUnmirrored_of_none (s := s.beginsTakeover trigger) hcmd
  obtain ⟨h4, h5⟩ := (s.beginsTakeover trigger).acksUnmirrored.ownsAll_keeps s.ownIndex
  obtain ⟨v, hv⟩ : ∃ v, v = s.beginsTakeover trigger := ⟨_, rfl⟩
  obtain ⟨x, hx⟩ : ∃ x, x = v.acksUnmirrored.ownsAll s.ownIndex := ⟨_, rfl⟩
  obtain ⟨y, hy⟩ : ∃ y, y = s.takesNothing trigger := ⟨_, rfl⟩
  rw [← hv] at h1 h2 h3 h4 h5 hyo
  rw [← hx] at h4 h5
  rw [← hy] at hyo ⊢
  have hvo : ∀ i r j, i % 65536 ≠ 0x2400 → v.o i r j = s.o i r j := fun i r j hi => by
    rw [hv, State.beginsTakeover, State.o_put, if_neg fun e => hi (objKey_inj.1 e).1.symm]
    rfl
  have hrel : v.releaseAcks = v := by
    unfold State.releaseAcks
    rw [show v.waitingQps = [] by rw [hv]; exact hwait]
    rfl
  have hxarr : x.arrays = [] := by
    rw [← harr]
    refine List.filter_congr fun a _ => congrArg (fun n => decide (n = 1)) ?_
    rw [h5 _ _ _ (by decide), h3 _ _ _ (by decide), hvo _ _ _ (by decide)]
  have hxmir : x.twin.mirror = [] := by
    rw [show x.twin = v.twin from Eq.trans (h4.same .twin) (h2.same .twin), hv]
    exact hmir
  have hyif : y.ifRows = [] := by
    rw [← hif]
    refine List.filter_congr fun r _ => ?_
    rw [hyo _ _ _ (by decide) (by decide) (by decide), hyo _ _ _ (by decide) (by decide) (by decide), hvo _ _ _ (by decide),
      hvo _ _ _ (by decide)]
  unfold State.takeOver
  rw [if_neg (by rw [hsil, htake]; decide)]
  extract_lets me taken k' hs src v2 v3 src' v5 v6 v7 v8 v8b v9 ms src'' v10 v11 v12 rows v13
  have htk : taken = [] := by
    change List.filter _ s.arrays = []
    rw [harr]
    rfl
  have h3 : v3 = v := by
    have hrec : ∀ l : List Nat, l = [] → (({ s with twin := { s.twin with
        take := some { t0 := s.now, ptp0 := s.ptpNow, trigger := trigger, left := l, taken := l }
        closed := l, held := [], joining := [], recheck := none } } : State).put 0x2400 0 4 3) = v := by
      rintro _ rfl
      exact hv.symm
    exact hrec taken htk
  have h5 : v5 = v := by
    refine (if_neg ?_).trans h3
    rw [h3, hv]
    change ¬ s.fw.drainAt.isSome = true
    rw [hdrain]
    decide
  have h7 : v7 = v := by
    have h6 : v6 = v := by
      change v5.each hs _ = v
      rw [show hs = [] from hheld, h5]
      rfl
    change v6.releaseAcks = v
    rw [h6, hrel]
  have h8 : v8b = x := by
    have h8 : v8 = v.acksUnmirrored := by
      change (if v7.twin.yieldIn || decide (v7.ob 0x2400 6 = 1) then v7.ackUnmirrored else v7) = _
      rw [h7]
      rfl
    change v8.each (List.range 4) _ = x
    rw [h8, hx]
    rfl
  have h9 : v9 = x := by
    change v8b.each (List.filter _ v8b.arrays) _ = x
    rw [h8, hxarr]
    rfl
  have h11 : v11 = y := by
    have hrec : ∀ z : State, z = x → (({ z with twin := { z.twin with mirror := [] } } : State).each z.twin.mirror
        (State.takeMirror taken)).syncMirror.syncDirty = y := by
      rintro _ rfl
      rw [hxmir, hy, State.takesNothing, ← hv, ← hx]
      rfl
    exact hrec v9 h9
  have h12 : v12 = y := by
    change v11.each taken _ = y
    rw [htk, h11]
    rfl
  have h13 : v13 = y := by
    change v12.each (List.filter _ v12.ifRows) _ = y
    rw [h12, hyif]
    rfl
  rw [h13]

/-- A takeover by a module with nothing to take, and what it leaves of the twin status. -/
theorem State.takeOver_alone (h : s.takesAlone) (trigger : Nat) :
    (s.takeOver trigger).tookOver trigger ∧ ∀ j, j % 256 ≠ 4 → (s.takeOver trigger).o 0x2400 0 j = s.o 0x2400 0 j := by
  have hf := State.takeOver_of_alone h trigger
  obtain ⟨-, -, -, -, hst, -, -, -, -, hcmd⟩ := h
  obtain ⟨h1, h2, h3, h4⟩ := State.takesNothing_keeps hcmd trigger
  obtain ⟨h5, h6, h7, h8, h9⟩ := State.finishTakeover_none h2 rfl rfl (h3.trans hst) h1
  have hob : ∀ j, (s.takeOver trigger).o 0x2400 0 j = (s.beginsTakeover trigger).o 0x2400 0 j := fun j => by
    rw [hf, h9, h4 _ _ _ (by decide) (by decide) (by decide)]
  rw [hf] at hob ⊢
  refine ⟨⟨?_, h6, h7, h5, by rw [h8]; rfl⟩, fun j hj => ?_⟩
  · exact (hob 4).trans (State.o_put_self ..)
  · rw [hob, State.beginsTakeover, State.o_put, if_neg fun e => hj (objKey_inj.1 e).2.2.symm]
    rfl

end

end Sys2Proof.Machine
end

section
/-! CLAIM. Records of the twin link act (14 R463 to R492). -/

namespace Sys2Proof.Machine

/-! ### Delivery -/

/-- The link's registers after a record has been delivered and its acknowledgement taken. -/
def State.recTaken (s : State) (r : TwinRec) : State := { s with twin := { s.twin with
  expected := if r.seq = s.twin.expected then s.twin.expected + 1 else s.twin.expected
  lastDelivered := some s.now, linkLost := false, lostAt := none
  adopting := s.twin.adopting && decide (r.typ = RecType.settings)
  unacked := s.twin.unacked.filter fun u => !recBehind u.rec_.seq r.ack } }

theorem State.deliver_recTaken {s : State} {r : TwinRec} (hw : s.twin.sendWait = []) (hq : s.waitingQps = []) :
    s.deliver r = (s.recTaken r).actOn r := by
  have hvq : (s.recTaken r).waitingQps = [] := hq
  have hvw : (s.recTaken r).twin.sendWait = [] := hw
  have ht : State.drainRecs (s.recTaken r).twin.sendWait.length
      ((s.recTaken r).each (s.recTaken r).waitingQps (State.confirmQp r.ack)) = s.recTaken r := by
    rw [hvq, hvw]
    rfl
  exact congrArg (State.actOn · r) ht

/-- What every delivered record moves, and no more. -/
def Part.record : List Part := Part.logs ++ [.twin, .expected, .lastDelivered, .linkLost, .lostAt]

theorem State.frame_recTaken (s : State) (t : Nat) (r : TwinRec) : s.Frame Part.record ((s.at t).recTaken r) := by
  exact .trans (u := s.at t) (by simp [Part.record]) ((State.frame_mk (v := s.at t) (by simp [Part.record])).2 (.refl _ _))

section
variable {s : State} {t : Nat} {r : TwinRec} {ty : RecType} {i : Instr} {Q : State → Prop}

/-- A record that reaches a linked module has its effect on what it finds, and the link knows that it was delivered. -/
theorem done_record {ps : List Part} {x : State} (hi : exec i s = act t true s (deliverAs ty r)) (hp : s.railsOn)
    (hl : s.twin.linked = true) (hty : r.typ = ty) (hw : s.twin.sendWait = []) (hq : s.waitingQps = [])
    (hx : ((s.at t).recTaken r).actOn r = x) (hf : ((s.at t).recTaken r).Frame ps x)
    (hps : Part.expected ∉ ps ∧ Part.lastDelivered ∉ ps ∧ Part.linkLost ∉ ps ∧ Part.lostAt ∉ ps)
    (h : ∀ u, u = s.after t x → s.delivered u r → s.Frame (Part.record ++ ps) u → Q u) : Done i s Q := by
  refine done_act hi rfl hp fun u hu => ?_
  have hd : deliverAs ty r (s.at t) = x := by
    rw [deliverAs, if_pos ⟨hty, hl⟩, State.deliver_recTaken (by exact hw) (by exact hq), hx]
  rw [hd] at hu
  obtain ⟨h1, h2, h3, h4⟩ := hps
  refine h u hu ⟨?_, ?_, ?_, ?_⟩ ?_
  · rw [hu]; exact hf .expected h1
  · rw [hu]; exact hf .lastDelivered h2
  · rw [hu]; exact hf .linkLost h3
  · rw [hu]; exact hf .lostAt h4
  · rw [hu]
    exact State.frame_after t _ _ (by simp [Part.record]) (.inl rfl) (.inl rfl) (.inl rfl)
      (.trans ((s.frame_recTaken t r).mono (by simp)) (hf.mono (by simp)))

/-- A record that is sent while nothing waits goes at once. -/
theorem State.sendRec_hasSent {v : State} (hw : v.twin.sendWait = []) (hun : v.twin.unacked = []) (ctx : Nat) (ref : RecSeq) (bytes : Nat)
    (hb : bytes ≤ 1000) (pl : RecPayload) : (v.sendRec ty ctx ref bytes pl).hasSent ty ctx ref pl := by
  have hroom : v.sendRoom { typ := ty, ctx := ctx, ref := ref, bytes := bytes, payload := pl } = true := by
    simp only [State.sendRoom, hun, recBytes]
    simp [sumNat]
    split <;> omega
  rw [State.sendRec]
  simp only [hw, hroom]
  exact ⟨_, List.mem_cons_self, _, _, rfl, rfl, rfl, rfl, rfl⟩


theorem heartbeat_taken (hp : s.railsOn) (h : s.linkIn .heartbeat r) :
    Done (.heartbeat t r) s fun u => s.delivered u r ∧ u = { s.logged u with twin := u.twin } := by
  obtain ⟨hl, hty, -, hw, hq⟩ := h
  exact done_record (ps := []) rfl hp hl hty hw hq (by simp [State.actOn, hty]) (.refl _ _) (by simp)
    fun u _ hd hf => ⟨hd, State.Frame.eq hf⟩

theorem acknowledge_taken (hp : s.railsOn) (hl : s.twin.linked = true) (hty : r.typ = .acknowledge) (hw : s.twin.sendWait = [])
    (hq : s.waitingQps = []) :
    Done (.acknowledge t r) s fun u => s.delivered u r ∧
      u.twin.unacked = s.twin.unacked.filter (fun x => !recBehind x.rec_.seq r.ack) ∧ u = { s.logged u with twin := u.twin } :=
  done_record (ps := []) rfl hp hl hty hw hq (by simp [State.actOn, hty]) (.refl _ _) (by simp)
    fun u hu hd hf => ⟨hd, by rw [hu]; rfl, State.Frame.eq hf⟩

end

/-! ### What each record does -/

section
variable {s w : State} {t : Nat} {r : TwinRec}

theorem State.recTaken_reads (s : State) (t : Nat) (r : TwinRec) (hun : s.twin.unacked = []) (hw : s.twin.sendWait = []) :
    ((s.at t).recTaken r).twin.unacked = [] ∧ ((s.at t).recTaken r).twin.sendWait = [] := by
  refine ⟨?_, hw⟩
  change s.twin.unacked.filter _ = []
  rw [hun]
  rfl

/-- A record of a type that a module without a peer passes over. -/
theorem done_pairedRecord {ps : List Part} {i : Instr} {ty : RecType} {f : State → State} {Q : State → Prop}
    (hi : exec i s = act t true s (deliverAs ty r)) (hp : s.railsOn) (h : s.linkIn ty r)
    (hact : ((s.at t).recTaken r).actOn r = f ((s.at t).recTaken r))
    (hps : Part.expected ∉ ps ∧ Part.lastDelivered ∉ ps ∧ Part.linkLost ∉ ps ∧ Part.lostAt ∉ ps)
    (hf : ∀ w : State, w = (s.at t).recTaken r → w.twin.unacked = [] → w.twin.sendWait = [] → w.Frame ps (f w) ∧
      ∀ u, u = s.after t (f w) → s.delivered u r → s.Frame (Part.record ++ ps) u → Q u) : Done i s Q := by
  obtain ⟨hl, hty, hun, hw, hq⟩ := h
  obtain ⟨hun', hw'⟩ := s.recTaken_reads t r hun hw
  obtain ⟨hfr, hQ⟩ := hf _ rfl hun' hw'
  exact done_record hi hp hl hty hw hq hact hfr hps hQ

/-- The peer holds the data of a write: the record that it answered no longer holds up the joining. -/
theorem State.onMirrorConfirm_acts (hp : w.paired = true) (hno : w.mirrorCmd r.ref = none) :
    (w.onMirrorConfirm r).twin.joining = w.twin.joining.filter (fun n => decide (n ≠ r.ref)) ∧
      ((w.onMirrorConfirm r).twin.joining = [] → (w.onMirrorConfirm r).twinPhase = 2) ∧
      w.Frame [.dict, .twin, .joining] (w.onMirrorConfirm r) := by
  obtain ⟨v, hv⟩ : ∃ v : State, v = { w with twin := { w.twin with joining := w.twin.joining.filter fun n => decide (n ≠ r.ref) } } := ⟨_, rfl⟩
  have hvj : v.twin.joining = w.twin.joining.filter fun n => decide (n ≠ r.ref) := by rw [hv]
  have hvp : v.twinPhase = 2 ∨ v.twinPhase = 5 := by
    rw [hv]
    simp only [State.paired, Bool.and_eq_true, decide_eq_true_eq] at hp
    exact hp.2
  have hx : w.onMirrorConfirm r = if v.twin.joining.isEmpty ∧ v.twinPhase = 5 then v.put 0x2400 0 4 2 else v := by
    have hnone : ∀ c : State, c.nvme = w.nvme → c.mirrorCmd r.ref = none := fun c hc => by
      rw [State.mirrorCmd, hc]
      exact hno
    simp only [State.onMirrorConfirm]
    rw [hnone _ (by split <;> rfl), hv]
  rw [hx]
  split
  · refine ⟨hvj, fun _ => by simp [State.twinPhase, State.ob], ?_⟩
    simp [hv]
  · next hc =>
    refine ⟨hvj, fun he => hvp.resolve_right fun h5 => hc ⟨by rw [he]; rfl, h5⟩, ?_⟩
    simp [hv]

theorem List.length_eraseDups_le {α : Type} [BEq α] (l : List α) : l.eraseDups.length ≤ l.length := by
  induction hn : l.length using Nat.strong_induction_on generalizing l with
  | _ n ih =>
    cases l with
    | nil => simp
    | cons a l =>
      have hlen := List.length_filter_le (fun b => !b == a) l
      rw [List.eraseDups_cons]
      have := ih _ (by simp at hn; omega) (l.filter fun b => !b == a) rfl
      simp at hn ⊢
      omega

theorem windowPages_le (ps : List MirrorPage) : windowPages ps ≤ ps.length := by
  have := List.length_eraseDups_le (ps.map fun p => (p.array, p.addr / 4096))
  rwa [List.length_map] at this

/-- Mirror data are held and confirmed. -/
theorem State.onMirrorData_acts {es : List IntentEntry} {pages : List MirrorPage} (hun : w.twin.unacked = []) (hw : w.twin.sendWait = [])
    (hl : w.pwr.lull = false) (hc : (es.any fun e => w.twin.closed.contains e.array) = false)
    (hroom : r.ctx % 2 ^ 48 + 4096 * pages.length ≤ w.ob 0x2403 2) :
    (w.onMirrorData r es pages).twin.mirror = w.twin.mirror ++ [⟨r.ctx % 2 ^ 48, es, pages⟩] ∧
      (w.onMirrorData r es pages).hasSent .mirrorConfirm 0 r.seq .none ∧ w.Frame [.out, .dict, .twin, .mirror] (w.onMirrorData r es pages) := by
  obtain ⟨v, hv⟩ : ∃ v : State, v = ({ w with twin := { w.twin with mirror := w.twin.mirror ++ [⟨r.ctx % 2 ^ 48, es, pages⟩] } } : State).each es
    fun s e => s.put 0x3230 e.nsRow 0xB e.keyGen := ⟨_, rfl⟩
  have hx : w.onMirrorData r es pages = (v.sendRec .mirrorConfirm 0 r.seq 0 .none).syncMirror := by
    have hthaw : w.thawNow = w := if_neg (by simp [hl])
    have hfit : ¬ w.ob 0x2403 2 < r.ctx % 2 ^ 48 + 4096 * windowPages pages := by
      have := windowPages_le pages
      omega
    simp only [State.onMirrorData, hthaw]
    rw [if_neg (by rw [hc]; exact Bool.noConfusion), if_neg hfit, hv]
  have hput : ∀ (l : List IntentEntry) (c : State), (c.each l fun s e => s.put 0x3230 e.nsRow 0xB e.keyGen).twin = c.twin := fun l c =>
    State.same_of_frame (ps := [.dict]) (State.frame_each fun v a => by simp) .twin
  have hvt : v.twin = { w.twin with mirror := w.twin.mirror ++ [⟨r.ctx % 2 ^ 48, es, pages⟩] } := by rw [hv, hput]
  have hvf : w.Frame [.out, .dict, .twin, .mirror] v := by
    rw [hv]
    exact (State.frame_each fun v a => by simp).2 (by simp)
  rw [hx]
  refine ⟨?_, ?_, by simpa using hvf⟩
  · have h : ((v.sendRec .mirrorConfirm 0 r.seq 0 .none).syncMirror).twin.mirror = v.twin.mirror :=
      State.same_of_frame (ps := [.out, .dict, .twin]) (by simp) .mirror
    rw [h, hvt]
  · exact State.sendRec_hasSent (by rw [hvt]; exact hw) (by rw [hvt]; exact hun) 0 r.seq 0 (by omega) .none

end

section
variable {s : State} {t : Nat} {r : TwinRec}

theorem mirrorConfirm_taken (hp : s.railsOn) (h : s.linkIn .mirrorConfirm r) (hpair : s.paired = true) (hno : s.mirrorCmd r.ref = none) :
    Done (.mirrorConfirm t r) s fun u =>
      s.delivered u r ∧ u.twin.joining = s.twin.joining.filter (fun n => decide (n ≠ r.ref)) ∧
        (u.twin.joining = [] → u.twinPhase = 2) ∧ u = { s.logged u with twin := u.twin } := by
  have hpair' : ((s.at t).recTaken r).paired = true := hpair
  refine done_pairedRecord (f := fun w => w.onMirrorConfirm r) (ps := [.dict, .twin, .joining]) rfl hp h
    (by simp [State.actOn, h.2.1, hpair']) (by simp) fun w hwr _ _ => ?_
  obtain ⟨h1, h2, h3⟩ := State.onMirrorConfirm_acts (w := w) (r := r) (by rw [hwr]; exact hpair) (by rw [hwr]; exact hno)
  refine ⟨h3, fun u hu hd hf => ⟨hd, ?_, ?_, State.Frame.eq hf⟩⟩
  · rw [hu]
    exact h1.trans (by rw [hwr]; rfl)
  · rw [hu]
    exact h2


theorem mirrorData_held {es : List IntentEntry} {pages : List MirrorPage} (hp : s.railsOn) (h : s.linkIn .mirrorData r)
    (hpl : r.payload = .mirror es pages) (hpair : s.paired = true) (hl : s.pwr.lull = false)
    (hc : (es.any fun e => s.twin.closed.contains e.array) = false) (hroom : r.ctx % 2 ^ 48 + 4096 * pages.length ≤ s.ob 0x2403 2) :
    Done (.mirrorData t r) s fun u =>
      s.delivered u r ∧ u.twin.mirror = s.twin.mirror ++ [⟨r.ctx % 2 ^ 48, es, pages⟩] ∧
        u.hasSent .mirrorConfirm 0 r.seq .none ∧ u = { s.logged u with twin := u.twin } := by
  have hpair' : ((s.at t).recTaken r).paired = true := hpair
  refine done_pairedRecord (f := fun w => w.onMirrorData r es pages) (ps := [.out, .dict, .twin, .mirror]) rfl hp h
    (by simp [State.actOn, h.2.1, hpl, hpair']) (by simp) fun w hwr hun hw => ?_
  obtain ⟨h1, h2, h3⟩ := State.onMirrorData_acts (w := w) (r := r) (es := es) (pages := pages) hun hw (by rw [hwr]; exact hl)
    (by rw [hwr]; exact hc) (by rw [hwr]; exact hroom)
  refine ⟨h3, fun u hu hd hf => ⟨hd, ?_, ?_, State.Frame.eq hf⟩⟩
  · rw [hu]
    exact h1.trans (by rw [hwr]; rfl)
  · rw [hu]
    exact h2

/-- The entries that a release names are dropped, and with them the records that hold no other. -/
theorem State.onMirrorRelease_acts (w : State) (a : Nat) (rs : List (Nat × Nat)) :
    (∀ m ∈ (w.onMirrorRelease a rs).twin.mirror, m.entries ≠ [] ∧
        ∀ e ∈ m.entries, ¬ (e.array = a ∧ ∃ x ∈ rs, x.1 ≤ e.seq ∧ e.seq ≤ x.2)) ∧
      w.Frame [.dict, .twin, .mirror] (w.onMirrorRelease a rs) := by
  constructor
  · intro m hm
    obtain ⟨hm, hne⟩ := List.mem_filter.1 hm
    obtain ⟨m', -, rfl⟩ := List.mem_map.1 hm
    refine ⟨by simpa using hne, fun e he hgone => ?_⟩
    have := (List.mem_filter.1 he).2
    obtain ⟨ha, x, hx, h1, h2⟩ := hgone
    simp only [ha, decide_true, Bool.true_and, Bool.not_eq_true', List.any_eq_false, decide_eq_true_eq] at this
    exact this x hx ⟨h1, h2⟩
  · simp [State.onMirrorRelease]

theorem mirrorRelease_drops {rs : List (Nat × Nat)} (hp : s.railsOn) (h : s.linkIn .mirrorRelease r) (hpl : r.payload = .ranges rs)
    (hpair : s.paired = true) :
    Done (.mirrorRelease t r) s fun u =>
      s.delivered u r ∧ (∀ m ∈ u.twin.mirror, m.entries ≠ [] ∧
        ∀ e ∈ m.entries, ¬ (e.array = r.ctx ∧ ∃ x ∈ rs, x.1 ≤ e.seq ∧ e.seq ≤ x.2)) ∧ u = { s.logged u with twin := u.twin } := by
  have hpair' : ((s.at t).recTaken r).paired = true := hpair
  refine done_pairedRecord (f := fun w => w.onMirrorRelease r.ctx rs) (ps := [.dict, .twin, .mirror]) rfl hp h
    (by simp [State.actOn, h.2.1, hpl, hpair']) (by simp) fun w hwr _ _ => ?_
  obtain ⟨h1, h2⟩ := w.onMirrorRelease_acts r.ctx rs
  exact ⟨h2, fun u hu hd hf => ⟨hd, by rw [hu]; exact h1, State.Frame.eq hf⟩⟩

theorem reject_counted (hp : s.railsOn) (h : s.linkIn .reject r) (hpair : s.paired = true) (hno : s.mirrorCmd r.ref = none) :
    Done (.reject t r) s fun u =>
      s.delivered u r ∧ u.o 0x2403 0 6 = satAdd (s.o 0x2403 0 6) 1 ∧ s.otherObjects u [objKey 0x2403 0 6] ∧
        u = { s.logged u with twin := u.twin } := by
  have hpair' : ((s.at t).recTaken r).paired = true := hpair
  have hno' : (((s.at t).recTaken r).bump 0x2403 0 6).mirrorCmd r.ref = none := hno
  refine done_pairedRecord (f := fun w => w.bump 0x2403 0 6) (ps := [.dict]) rfl hp h
    (by simp [State.actOn, h.2.1, hpair', State.onReject, hno']) (by simp) fun w hwr _ _ => ?_
  have hd : w.dict = s.dict := by rw [hwr]; rfl
  refine ⟨by simp, fun u hu hdl hf => ⟨hdl, ?_, ?_, State.Frame.eq hf⟩⟩
  · have ho : w.o 0x2403 0 6 = s.o 0x2403 0 6 := by simp [← State.toNat_val, ← State.val_dict, hd]
    rw [hu]
    simp [ho, show ∀ a, satAt 0x2403 6 a 1 = satAdd a 1 from fun _ => rfl]
  · simp [hu, State.otherObjects_iff, hd]

/-- Settings of the peer are stored and answered. -/
theorem settings_stored {row : Nat} {v : Val} (hp : s.railsOn) (h : s.linkIn .settings r) (hpl : r.payload = .settings 0x2450 row [(2, v)])
    (hpair : s.paired = true) (had : s.twin.adopting = false) (hcode : s.settingsCode 0x2450 row [(2, v)] = 0) :
    Done (.settings t r) s fun u =>
      s.delivered u r ∧ u.val 0x2450 row 2 = v ∧ u.gen 0x2450 row = (s.gen 0x2450 row + 1) % 2 ^ 32 ∧
        u.hasSent .settingsResult 0 r.seq .none ∧ u = { s.logged u with twin := u.twin } := by
  have hpair' : ((s.at t).recTaken r).paired = true := hpair
  have had' : ((s.at t).recTaken r).twin.adopting = false := by
    change (s.twin.adopting && _) = false
    rw [had]
    rfl
  have hcode' : ((s.at t).recTaken r).settingsCode 0x2450 row [(2, v)] = 0 := hcode
  obtain ⟨st, hst⟩ : ∃ st, st = s.recStage 0x2450 row [(2, v)] := ⟨_, rfl⟩
  have hst' : ((s.at t).recTaken r).recStage 0x2450 row [(2, v)] = st := by rw [hst]; rfl
  have hrow : st.row = row := by rw [hst]; rfl
  have hval : st.val 2 = v := by
    rw [hst]
    simp [State.recStage, Stage.val]
  refine done_pairedRecord (f := fun w => (w.storeRow 0x2450 st).sendRec .settingsResult 0 r.seq 0 .none) (ps := [.out, .dict, .dictGens, .twin])
    rfl hp h ?_ (by simp) fun w hwr hun hw => ?_
  · simp only [State.actOn, h.2.1, hpl, hpair', if_true, State.onSettings, had', Bool.false_eq_true, if_false, hcode', hst']
    rfl
  have hd : w.dict = s.dict := by rw [hwr]; rfl
  refine ⟨by simp, fun u hu hdl hf => ⟨hdl, ?_, ?_, ?_, State.Frame.eq hf⟩⟩
  · have ho := State.val_of_objs (State.objs_sendRec (s := w.storeRow 0x2450 st) (u := w.storeRow 0x2450 st) .settingsResult 0 r.seq 0 .none) 0x2450 row 2
    rw [hu]
    refine ho.trans ?_
    rw [State.val_storeRow, if_pos ⟨by rw [hrow], by decide⟩]
    exact hval
  · have hg := State.gen_of_frame (State.frame_sendRec (ps := [.out, .dict, .twin]) (s := w.storeRow 0x2450 st) (u := w.storeRow 0x2450 st)
      .settingsResult 0 r.seq 0 .none (by simp)) (by simp) 0x2450 row
    rw [hu]
    refine hg.trans ?_
    have hg' := State.gen_storeRow w 0x2450 st
    rw [hrow] at hg'
    rw [hg', State.gen, State.gen, hd]
  · rw [hu]
    exact State.sendRec_hasSent (v := w.storeRow 0x2450 st) (by simpa using hw) (by simpa using hun) 0 r.seq 0 (by omega) .none

/-- The answer of a held commit: it is applied and answered. -/
theorem settingsResult_applies {h : HeldCommit} (hp : s.railsOn) (hl : s.linkIn .settingsResult r)
    (hh : (s.twin.held.find? fun x => decide (x.seq = r.ref)) = some h) (ho : h.object = none) (hwin : h.win = 0x2450) (hctx : r.ctx = 0)
    (hs : 4 ≤ h.sess) :
    Done (.settingsResult t r) s fun u =>
      s.delivered u r ∧ u.val 0x2450 h.stage.row 2 = h.stage.val 2 ∧ u.answered h.sess 0 ∧
        u.twin.held = s.twin.held.filter (fun x => decide (x.seq ≠ r.ref)) ∧ u = { s.logged u with twin := u.twin } := by
  have hreply : ∀ v : State, v.reply h.sess 0 = (v.sent h.sess 1).emit (.reply h.sess 0 none) := fun v => by
    rw [State.reply]
    exact if_neg (by omega)
  obtain ⟨f, hf⟩ : ∃ f : State → State, f = fun w => (({ w with twin := { w.twin with
      held := s.twin.held.filter fun x => decide (x.seq ≠ r.ref) } } : State).applyCommit h.sess 0x2450 h.stage fun _ _ u => u).reply h.sess 0 :=
    ⟨_, rfl⟩
  refine done_pairedRecord (f := f) (ps := [.out, .dict, .dictGens, .sess, .twin, .held]) rfl hp hl ?_ (by simp) fun w hwr hun hw => ?_
  · have hh' : (((s.at t).recTaken r).twin.held.find? fun x => decide (x.seq = r.ref)) = some h := hh
    simp only [State.actOn, hl.2.1, State.onSettingsResult, State.takeHeld, hh', hctx, if_true, State.applyHeld, ho, hwin, hf]
    rfl
  obtain ⟨v, hv⟩ : ∃ v : State, v = { w with twin := { w.twin with held := s.twin.held.filter fun x => decide (x.seq ≠ r.ref) } } := ⟨_, rfl⟩
  obtain ⟨x, hx⟩ : ∃ x, x = v.applyCommit h.sess 0x2450 h.stage fun _ _ u => u := ⟨_, rfl⟩
  have hfw : f w = (x.sent h.sess 1).emit (.reply h.sess 0 none) := by rw [hf, hx, hv, ← hreply]
  rw [hfw]
  have hxf : w.Frame [.out, .dict, .dictGens, .sess, .twin, .held] x := by
    rw [hx]
    exact State.frame_applyCommit_of v _ _ _ _ (by simp) (by simp [hv])
  have hxh : x.twin = v.twin := by
    have := State.frame_applyCommit_of (ps := [.dict, .dictGens, .sess]) v 0x2450 h.stage h.sess (fun _ _ u => u) (u := v) (by simp) (by simp)
    rw [hx]
    exact this .twin (by decide)
  have hsd : (x.sent h.sess 1).dict = x.dict ∧ (x.sent h.sess 1).twin = x.twin := by
    unfold State.sent
    split <;> exact ⟨rfl, rfl⟩
  refine ⟨by simpa using hxf, fun u hu hdl hfu => ⟨hdl, ?_, ?_, ?_, State.Frame.eq hfu⟩⟩
  · have h1 : x.val 0x2450 h.stage.row 2 = h.stage.val 2 := by
      rw [hx, (State.applyCommit_reads ..).2.1.2.1, State.val_storeRow, if_pos ⟨rfl, by decide⟩]
    rw [← h1, ← State.val_dict, ← State.val_dict, hu, ← hsd.1]
    rfl
  · rw [hu]
    exact List.mem_cons_self
  · have h2 : (x.sent h.sess 1).twin.held = s.twin.held.filter fun x => decide (x.seq ≠ r.ref) := by rw [hsd.2, hxh, hv]
    rw [hu]
    exact h2


/-! ### Queue pairs, arrays, health and drives of the peer -/

@[simp] theorem State.standbyOf_setStandby (w : State) (k : Nat) (b : Standby) : (w.setStandby k b).standbyOf k = b := by
  simp [State.standbyOf, State.setStandby]

theorem capsule_kept {p : RocePkt} {c : Capsule} (hp : s.railsOn) (h : s.linkIn .capsule r) (hpl : r.payload = .packet p)
    (hpair : s.paired = true) (hc : p.capsule = some c) (hcl : RoceOp.closes p.op = true) :
    Done (.capsule t r) s fun u =>
      s.delivered u r ∧ u.standbyOf r.ctx = { s.standbyOf r.ctx with openCap := none, caps := (s.standbyOf r.ctx).caps ++ [c] } ∧
        u = { s.logged u with twin := u.twin } := by
  have hpair' : ((s.at t).recTaken r).paired = true := hpair
  refine done_pairedRecord (ps := [.twin, .standby]) rfl hp h
    (f := fun w => w.setStandby r.ctx { w.standbyOf r.ctx with openCap := none, caps := (w.standbyOf r.ctx).caps ++ [c] })
    (by simp [State.actOn, h.2.1, hpl, hpair', State.onCapsule, hc, hcl]) (by simp) fun w hwr _ _ => ?_
  refine ⟨by simp, fun u hu hd hf => ⟨hd, ?_, State.Frame.eq hf⟩⟩
  rw [hu]
  refine (w.standbyOf_setStandby _ _).trans ?_
  rw [hwr]
  rfl

theorem qpState_kept {q : QpStateRec} (hp : s.railsOn) (h : s.linkIn .qpState r) (hpl : r.payload = .qpState q)
    (hpair : s.paired = true) (hfin : q.final = false) :
    Done (.qpState t r) s fun u =>
      s.delivered u r ∧ u.standbyOf r.ctx = { s.standbyOf r.ctx with
        rec_ := q, caps := answeredBy q.sent (s.standbyOf r.ctx).caps } ∧ u = { s.logged u with twin := u.twin } := by
  have hpair' : ((s.at t).recTaken r).paired = true := hpair
  refine done_pairedRecord (ps := [.twin, .standby]) rfl hp h
    (f := fun w => w.setStandby r.ctx { w.standbyOf r.ctx with rec_ := q, caps := answeredBy q.sent (w.standbyOf r.ctx).caps })
    (by simp [State.actOn, h.2.1, hpl, hpair', State.onQpState, hfin]) (by simp) fun w hwr _ _ => ?_
  refine ⟨by simp, fun u hu hd hf => ⟨hd, ?_, State.Frame.eq hf⟩⟩
  rw [hu]
  refine (w.standbyOf_setStandby _ _).trans ?_
  rw [hwr]
  rfl

theorem twinPacket_sent {p : TxPkt} {b : Standby} (hp : s.railsOn) (h : s.linkIn .twinPacket r) (hpl : r.payload = .twinPacket p)
    (hpair : s.paired = true) (hb : Tbl.find? s.twin.standby r.ctx = some b) (hup : s.portUp b.rec_.port = true) :
    Done (.twinPacket t r) s fun u =>
      u.o 0x2403 0 7 = satAdd (s.o 0x2403 0 7) 1 ∧ u.standbyOf r.ctx = { b with caps := answeredBy [p] b.caps } := by
  have hpair' : ((s.at t).recTaken r).paired = true := hpair
  refine done_pairedRecord (f := fun w => w.onTwinPacket r.ctx p)
    (ps := [.free, .out, .dict, .sess, .ev, .rings, .fab, .eth, .rdma, .nvme, .sched, .meter, .twin, .standby]) rfl hp h
    (by simp [State.actOn, h.2.1, hpl, hpair']) (by simp) fun w hwr _ _ => ?_
  obtain ⟨v, hv⟩ : ∃ v, v = w.setStandby r.ctx { b with caps := answeredBy [p] b.caps } := ⟨_, rfl⟩
  obtain ⟨f, hf⟩ : ∃ f, w.onTwinPacket r.ctx p = (v.bump 0x2403 0 7).enqueue b.rec_.port f := by
    have hb' : Tbl.find? w.twin.standby r.ctx = some b := by rw [hwr]; exact hb
    have hup' : v.portUp b.rec_.port = true := by rw [hv, hwr]; exact hup
    simp only [State.onTwinPacket, hb', ← hv, hup', if_true]
    exact ⟨_, rfl⟩
  rw [hf]
  have hvd : v.o 0x2403 0 7 = s.o 0x2403 0 7 := by rw [hv, hwr]; rfl
  refine ⟨by simp [hv], fun u hu _ _ => ⟨?_, ?_⟩⟩
  · rw [hu]
    refine (State.o_of_objs (State.objs_enqueue (s := v.bump 0x2403 0 7) (u := v.bump 0x2403 0 7) b.rec_.port f) 0x2403 0 7).trans ?_
    simp [hvd, show ∀ a, satAt 0x2403 7 a 1 = satAdd a 1 from fun _ => rfl]
  · have hs : ((v.bump 0x2403 0 7).enqueue b.rec_.port f).twin.standby = v.twin.standby :=
      State.same_of_frame (ps := Part.others .standby) (State.frame_enqueue (s := v.bump 0x2403 0 7) _ _ (by simp)) .standby (by simp)
    rw [hu]
    refine (congrArg (Tbl.get { rec_ := {} } · r.ctx) hs).trans ?_
    rw [hv]
    exact w.standbyOf_setStandby _ _

theorem takeoverComplete_noted (hp : s.railsOn) (h : s.linkIn .takeoverComplete r) (h4 : s.twinPhase = 4) :
    Done (.takeoverComplete t r) s fun u =>
      s.delivered u r ∧ u.twin.takerDone = some (max s.now t) ∧ s.otherObjects u [] ∧ u = { s.logged u with twin := u.twin } := by
  have h4' : ((s.at t).recTaken r).twinPhase = 4 := h4
  refine done_pairedRecord (ps := [.twin, .takerDone]) rfl hp h
    (f := fun w => { w with twin := { w.twin with takerDone := some w.now } })
    (by simp [State.actOn, h.2.1, State.onTakeoverComplete, h4']) (by simp) fun w hwr _ _ => ?_
  refine ⟨by simp, fun u hu hd hf => ⟨hd, ?_, ?_, State.Frame.eq hf⟩⟩
  · rw [hu, hwr]
    rfl
  · intro k _
    rw [hu, hwr]
    rfl

/-- A transfer of an array that the peer had: it is closed to the peer and waits for its recovery. -/
theorem ownershipTransfer_taken (hp : s.railsOn) (h : s.linkIn .ownershipTransfer r) (hpair : s.paired = true) (h4 : r.ctx < 4)
    (hon : s.arrOn r.ctx = true) (hown : s.owns r.ctx = false) (hs : s.silent = false) (hc : s.nvme.ctrls = []) :
    Done (.ownershipTransfer t r) s fun u =>
      s.delivered u r ∧ u.twin.closed = r.ctx :: s.twin.closed ∧ u.o 0x2410 r.ctx 3 = s.ownIndex ∧ u.o 0x2410 r.ctx 4 = 2 ∧
        (u.arrS r.ctx).recovering = true ∧ u = { s.logged u with arr := u.arr, twin := u.twin } := by
  have hpair' : ((s.at t).recTaken r).paired = true := hpair
  refine done_pairedRecord (f := fun w => w.onTransfer r.ctx) (ps := [.dict, .arr, .twin, .closed]) rfl hp h
    (by simp [State.actOn, h.2.1, hpair']) (by simp) fun w hwr _ _ => ?_
  obtain ⟨v, hv⟩ : ∃ v : State, v = ((({ w with twin := { w.twin with closed := r.ctx :: w.twin.closed } } : State).put 0x2410 r.ctx 3 s.ownIndex).put
    0x2410 r.ctx 4 2).modArr r.ctx fun x => { x with recovering := true } := ⟨_, rfl⟩
  have hana : ∃ x, v.syncAna r.ctx = if v.ob 0x3238 (r.ctx + 1) = x then v else v.put 0x3238 0 (r.ctx + 1) x := by
    obtain ⟨x, hx⟩ : ∃ x, x = if v.arrOn r.ctx then v.anaState r.ctx else 0 := ⟨_, rfl⟩
    refine ⟨x, ?_⟩
    have hnil : ∀ c : State, c.nvme = w.nvme → c.liveCtrls = [] := fun c hcn => by
      rw [State.liveCtrls, hcn, hwr]
      change List.filter _ s.nvme.ctrls = []
      rw [hc]
      rfl
    unfold State.syncAna
    dsimp only
    rw [← hx, hnil _ (by simp [hv, State.modArr])]
    rfl
  obtain ⟨x, hx⟩ := hana
  have hf : w.onTransfer r.ctx = v.syncAna r.ctx := by
    have hon' : w.arrOn r.ctx = true := by rw [hwr]; exact hon
    have hown' : w.owns r.ctx = false := by rw [hwr]; exact hown
    have hs' : w.silent = false := by rw [hwr]; exact hs
    simp only [State.onTransfer, hon', hown', hs', State.awaitRecovery, hv]
    rw [hwr]
    rfl
  have hd : w.dict = s.dict := by rw [hwr]; rfl
  have hcl : w.twin.closed = s.twin.closed := by rw [hwr]; rfl
  have hvf : w.Frame [.dict, .arr, .twin, .closed] v := by simp [hv, State.modArr]
  have hv3 : v.o 0x2410 r.ctx 3 = s.ownIndex ∧ v.o 0x2410 r.ctx 4 = 2 ∧ (v.arrS r.ctx).recovering = true ∧
      v.twin.closed = r.ctx :: s.twin.closed := by
    simp [hv, State.modArr, objKey_inj, hcl]
  obtain ⟨k3, k4, krec, kcl⟩ := hv3
  rw [hf, hx]
  split
  · exact ⟨hvf, fun u hu hdl hfu => ⟨hdl, by rw [hu]; exact kcl, by rw [hu]; exact k3, by rw [hu]; exact k4, by rw [hu]; exact krec,
      State.Frame.eq hfu⟩⟩
  · have hne : ∀ k, objKey 0x3238 0 (r.ctx + 1) ≠ objKey 0x2410 r.ctx k := fun k e => absurd (objKey_inj.1 e).1 (by decide)
    exact ⟨by simpa using hvf, fun u hu hdl hfu => ⟨hdl, by rw [hu]; exact kcl, by simp [hu, hne, k3], by simp [hu, hne, k4],
      by rw [hu]; exact krec, State.Frame.eq hfu⟩⟩


theorem State.showHealth_o (w : State) (row : Nat) (h : Health) :
    (w.showHealth row h).o 0x2440 row 2 = h.time ∧ (w.showHealth row h).o 0x2440 row 3 = h.verdict ∧
      (w.showHealth row h).o 0x2440 row 4 = h.items ∧ (w.showHealth row h).o 0x2440 row 6 = h.reachable ∧
      (w.showHealth row h).o 0x2440 row 0xF = h.ceiling := by
  simp [State.showHealth, objKey_inj]

theorem State.o_syncShare (w : State) (i r k : Nat) (hi : i % 65536 ≠ 0x2403) : w.syncShare.o i r k = w.o i r k := by
  have hne : ∀ j, objKey 0x2403 0 j ≠ objKey i r k := fun j e => hi (objKey_inj.1 e).1.symm
  unfold State.syncShare
  split
  · simp [hne]
  · rfl

theorem healthReport_shown {h : Health} (hp : s.railsOn) (hl : s.linkIn .healthReport r) (hpl : r.payload = .health h)
    (hq : ∀ e ∈ s.rdma.qps, e.2.twin = false) :
    Done (.healthReport t r) s fun u =>
      s.delivered u r ∧ u.twin.health = some (max s.now t, h) ∧ u.o 0x2440 1 2 = h.time ∧ u.o 0x2440 1 3 = h.verdict ∧
        u.o 0x2440 1 4 = h.items ∧ u.o 0x2440 1 6 = h.reachable ∧ u.o 0x2440 1 0xF = h.ceiling ∧ u = { s.logged u with twin := u.twin } := by
  refine done_pairedRecord (f := fun w => w.onHealth h) (ps := [.dict, .twin, .health]) rfl hp hl
    (by simp [State.actOn, hl.2.1, hpl]) (by simp) fun w hwr _ _ => ?_
  obtain ⟨v, hv⟩ : ∃ v : State, v = (({ w with twin := { w.twin with
    health := some (w.now, h), peer := w.twin.peer.map fun (p : Hello) => { p with ceiling := h.ceiling } } } : State).showHealth 1 h).syncShare :=
    ⟨_, rfl⟩
  have hnil : ∀ c : State, c.rdma = w.rdma →
      ((c.rdma.qps.filter fun e => e.2.twin && !e.2.copying && e.2.twinWait.isNone).map Prod.fst) = [] := fun c hc => by
    rw [hc, List.map_eq_nil_iff, List.filter_eq_nil_iff]
    intro e he
    rw [hwr] at he
    simp [hq e he]
  have hf : w.onHealth h = v.markFit := by
    unfold State.onHealth
    dsimp only
    rw [← hv, hnil v.markFit (by
      have hr : (v.markFit).Frame [.dict, .twin, .health] w → True := fun _ => trivial
      have h1 : w.Frame [.dict, .twin, .health] v.markFit := by simp [hv]
      exact h1.same .rdma)]
    rfl
  have hvf : w.Frame [.dict, .twin, .health] v := by simp [hv]
  obtain ⟨g2, g3, g4, g6, gF⟩ := State.showHealth_o ({ w with twin := { w.twin with
    health := some (w.now, h), peer := w.twin.peer.map fun (p : Hello) => { p with ceiling := h.ceiling } } } : State) 1 h
  have hvo : v.o 0x2440 1 2 = h.time ∧ v.o 0x2440 1 3 = h.verdict ∧ v.o 0x2440 1 4 = h.items ∧ v.o 0x2440 1 6 = h.reachable ∧
      v.o 0x2440 1 0xF = h.ceiling := by
    rw [hv]
    simp only [State.o_syncShare _ _ _ _ (show 0x2440 % 65536 ≠ 0x2403 by decide)]
    exact ⟨g2, g3, g4, g6, gF⟩
  have hvh : v.twin.health = some (max s.now t, h) := by
    have : v.Frame [.dict] v := .refl _ _
    rw [hv, show ∀ c : State, (c.showHealth 1 h).syncShare.twin = c.twin from fun c => State.same_of_frame (ps := [.dict]) (by simp) .twin, hwr]
    rfl
  obtain ⟨k2, k3, k4, k6, kF⟩ := hvo
  rw [hf]
  exact ⟨by simpa using hvf, fun u hu hd hfu => ⟨hd, by rw [hu]; exact hvh, by rw [hu]; exact k2, by rw [hu]; exact k3, by rw [hu]; exact k4,
    by rw [hu]; exact k6, by rw [hu]; exact kF, State.Frame.eq hfu⟩⟩

theorem driveRequest_answered {kind : Nat} (hp : s.railsOn) (h : s.linkIn .driveRequest r) (hpl : r.payload = .code kind) (hk : kind = 1) :
    Done (.driveRequest t r) s fun u =>
      s.delivered u r ∧ u.hasSent .driveReply r.ctx r.seq (.code (if (s.slotS r.ctx).linkUp then 0 else 1)) ∧
        u = { s.logged u with twin := u.twin } := by
  refine done_pairedRecord (f := fun w => w.onDriveRequest r kind) (ps := [.out, .dict, .twin]) rfl hp h
    (by simp [State.actOn, h.2.1, hpl]) (by simp) fun w hwr hun hw => ?_
  have hf : w.onDriveRequest r kind = w.sendRec .driveReply r.ctx r.seq 4 (.code (if (s.slotS r.ctx).linkUp then 0 else 1)) := by
    rw [State.onDriveRequest, if_pos hk, hwr]
    rfl
  rw [hf]
  refine ⟨by simp, fun u hu hd hfu => ⟨hd, ?_, State.Frame.eq hfu⟩⟩
  rw [hu]
  exact State.sendRec_hasSent hw hun _ _ 4 (by omega) _

theorem driveReply_refuses {n k : Nat} (hp : s.railsOn) (h : s.linkIn .driveReply r) (hpl : r.payload = .code k) (hk : k ≠ 0)
    (hn : ((List.range 24).find? fun n => decide ((s.slotS n).askPeer = some r.ref)) = some n) (hkind : (s.slotS n).askKind = 1) :
    Done (.driveReply t r) s fun u =>
      (u.slotS n).askPeer = none ∧ u.slotState n = 5 ∧ u.o 0x5200 n 3 = 8 ∧ u.told .driveRefused [n, 8] := by
  refine done_pairedRecord (f := fun w => (w.modSlot n fun x => { x with askPeer := none }).refuseDrive n 8)
    (ps := [.out, .dict, .sess, .ev, .rings, .slot, .slots]) rfl hp h ?_ (by simp) fun w hwr _ _ => ?_
  · have hn' : ((List.range 24).find? fun n => decide ((((s.at t).recTaken r).slotS n).askPeer = some r.ref)) = some n := hn
    have hkind' : (((s.at t).recTaken r).slotS n).askKind = 1 := hkind
    simp only [State.actOn, h.2.1, hpl, State.onDriveReply, hn', hkind', if_true, if_neg hk]
  · refine ⟨by simp [State.modSlot], fun u hu _ _ => ?_⟩
    refine ⟨?_, ?_, ?_, ?_⟩
    · simp [hu, State.refuseDrive, State.setSlotState, State.modSlot]
    · simp [hu, State.refuseDrive, State.setSlotState, State.slotState, objKey_inj]
    · simp [hu, State.refuseDrive]
    · rw [hu]
      exact State.told_raise _ .driveRefused [n, 8]

/-- A slot whose drive is power-cycled, the last step of the reset ladder. -/
def Slot.reset (x : Slot) (now : Nat) : Slot :=
  { x with ladder := some (5, now), cfs := false, perst := true, setup := none, bme := false, smartAsked := none, smartLate := false
           adminAbort := none, pwrdis := true, askPeer := none }

theorem driveReply_resets {n : Nat} (hp : s.railsOn) (h : s.linkIn .driveReply r) (hpl : r.payload = .code 0)
    (hn : ((List.range 24).find? fun n => decide ((s.slotS n).askPeer = some r.ref)) = some n) (hkind : (s.slotS n).askKind ≠ 1) :
    Done (.driveReply t r) s fun u =>
      (u.slotS n).ladder = some (5, max s.now t) ∧ (u.slotS n).pwrdis = true ∧ (u.slotS n).askPeer = none := by
  refine done_pairedRecord (f := fun w => (w.modSlot n fun x => { x with askPeer := none }).ladderStep n 5)
    (ps := [.free, .out, .dict, .sess, .ev, .rings, .fab, .eth, .rdma, .nvme, .sched, .arr, .slot, .np, .dma, .meter, .twin, .pwr,
      .slots, .nss]) rfl hp h ?_ (by simp) fun w hwr _ _ => ?_
  · have hn' : ((List.range 24).find? fun n => decide ((((s.at t).recTaken r).slotS n).askPeer = some r.ref)) = some n := hn
    have hkind' : (((s.at t).recTaken r).slotS n).askKind ≠ 1 := hkind
    simp only [State.actOn, h.2.1, hpl, State.onDriveReply, hn', if_neg hkind', if_true]
  · obtain ⟨v, hv⟩ : ∃ v, v = (((w.modSlot n fun x => { x with askPeer := none }).bump 0x5202 n (8 + 5)).setSlotState n 4).endOutstanding n :=
      ⟨_, rfl⟩
    have hnow : v.now = max s.now t := by
      have : v.now = w.now := by
        rw [hv]
        exact State.same_of_frame (ps := Part.others .now) (by simp [State.modSlot, State.setSlotState]) .now (by simp)
      rw [this, hwr]
      rfl
    refine ⟨by simp [State.modSlot], fun u hu _ _ => ?_⟩
    have hl : ((w.modSlot n fun x => { x with askPeer := none }).ladderStep n 5) = (v.freeTags n).setSlot n (((v.freeTags n).slotS n).reset v.now) := by
      rw [hv]
      rfl
    rw [hu, hl]
    have hs := (v.freeTags n).slotS_setSlot n n (((v.freeTags n).slotS n).reset v.now)
    rw [if_pos rfl] at hs
    rw [← hnow]
    exact ⟨congrArg Slot.ladder hs, congrArg Slot.pwrdis hs, congrArg Slot.askPeer hs⟩


/-! ### Keys -/

@[simp] theorem State.syncNsState_units (w : State) (n : Nat) : (w.syncNsState n).nvme = w.nvme ∧ (w.syncNsState n).twin = w.twin ∧
    (w.syncNsState n).out = w.out := ⟨rfl, rfl, rfl⟩

theorem State.sendRec_nvme (w : State) (ty : RecType) (ctx : Nat) (ref : RecSeq) (bytes : Nat) (pl : RecPayload) :
    (w.sendRec ty ctx ref bytes pl).nvme = w.nvme :=
  State.same_of_frame (ps := [.out, .dict, .twin]) (by simp) .nvme

theorem key_taken {k : Content} (hp : s.railsOn) (h : s.linkIn .key r) (hpl : r.payload = .key (some k)) (hpair : s.paired = true)
    (he : (s.ns r.ctx).erasing = false) :
    Done (.key t r) s fun u => s.delivered u r ∧ u = { s.logged u with nvme := u.nvme, twin := u.twin } ∧
      match (Tbl.find? s.nvme.keks (s.nsTenant r.ctx)).bind fun kek => unwrapKey kek k with
      | some key => (u.ns r.ctx).key = some key ∧ (u.ns r.ctx).storeKey = some k ∧ u.hasSent .keyReply r.ctx r.seq (.code 0)
      | none => u.nvme = s.nvme ∧ u.hasSent .keyReply r.ctx r.seq (.code 1) := by
  have hpair' : ((s.at t).recTaken r).paired = true := hpair
  obtain ⟨o, ho⟩ : ∃ o, o = (Tbl.find? s.nvme.keks (s.nsTenant r.ctx)).bind fun kek => unwrapKey kek k := ⟨_, rfl⟩
  rw [← ho]
  refine done_pairedRecord (f := fun w => w.onKey r (some k)) (ps := [.out, .dict, .nvme, .nss, .twin]) rfl hp h
    (by simp [State.actOn, h.2.1, hpl, hpair']) (by simp) fun w hwr hun hw => ?_
  have ho' : ((Tbl.find? w.nvme.keks (w.nsTenant r.ctx)).bind fun kek => unwrapKey kek k) = o := by
    rw [ho, hwr]
    rfl
  have he' : (w.ns r.ctx).erasing = false := by rw [hwr]; exact he
  cases o with
  | none =>
    have hf : w.onKey r (some k) = w.sendRec .keyReply r.ctx r.seq 4 (.code 1) := by simp only [State.onKey, ho']
    rw [hf]
    refine ⟨by simp, fun u hu hd hfu => ⟨hd, State.Frame.eq hfu, ?_, ?_⟩⟩
    · rw [hu]
      exact (w.sendRec_nvme ..).trans (by rw [hwr]; rfl)
    · rw [hu]
      exact State.sendRec_hasSent hw hun _ _ 4 (by omega) _
  | some key =>
    obtain ⟨v, hv⟩ : ∃ v, v = (w.setNs r.ctx { w.ns r.ctx with key := some key, storeKey := some k }).syncNsState r.ctx := ⟨_, rfl⟩
    have hf : w.onKey r (some k) = v.sendRec .keyReply r.ctx r.seq 4 (.code 0) := by
      simp only [State.onKey, ho', he', Bool.false_and, hv]
      rfl
    have hvn : v.ns r.ctx = { w.ns r.ctx with key := some key, storeKey := some k } := by
      rw [hv]
      exact (State.ns_setNs ..).trans (if_pos rfl)
    have hvt : v.twin = w.twin := by rw [hv]; rfl
    have hun' : (v.sendRec .keyReply r.ctx r.seq 4 (.code 0)).ns r.ctx = v.ns r.ctx := by
      rw [State.ns, State.sendRec_nvme, State.ns]
    rw [hf]
    refine ⟨by simp [hv], fun u hu hd hfu => ⟨hd, State.Frame.eq hfu, ?_, ?_, ?_⟩⟩
    · rw [hu]
      exact (congrArg NsState.key hun').trans (by rw [hvn])
    · rw [hu]
      exact (congrArg NsState.storeKey hun').trans (by rw [hvn])
    · rw [hu]
      exact State.sendRec_hasSent (by rw [hvt]; exact hw) (by rw [hvt]; exact hun) _ _ 4 (by omega) _

/-- A key that is to go: it is overwritten, and the mirror holds nothing more of its namespace. -/
theorem State.onKey_none (w : State) (r : TwinRec) (hun : w.twin.unacked = []) (hw : w.twin.sendWait = []) :
    (((w.onKey r none).ns r.ctx).key = none ∧ ((w.onKey r none).ns r.ctx).storeKey = none ∧
      ((w.onKey r none).ns r.ctx).memberKey = none ∧ (w.o 0x3230 r.ctx 2 = 1 → ((w.onKey r none).ns r.ctx).erasing = true)) ∧
    (∀ m ∈ (w.onKey r none).twin.mirror, m.entries ≠ [] ∧ ∀ e ∈ m.entries, e.nsRow ≠ r.ctx) ∧
    (w.onKey r none).hasSent .keyReply r.ctx r.seq (.code 0) ∧ w.Frame [.out, .dict, .nvme, .nss, .twin, .mirror] (w.onKey r none) := by
  obtain ⟨ms, hms⟩ : ∃ ms, ms = (w.twin.mirror.map fun (m : MirrorRec) =>
      let es := m.entries.filter fun e => decide (e.nsRow ≠ r.ctx)
      { m with entries := es, pages := m.pages.filter fun p =>
          es.any fun e => decide (e.array = p.array ∧ e.row = w.rowOf p.array p.addr) }).filter fun m => !m.entries.isEmpty := ⟨_, rfl⟩
  obtain ⟨x, hx⟩ : ∃ x : State, x = ({ w with twin := { w.twin with mirror := ms } } : State).zeroKey r.ctx := ⟨_, rfl⟩
  obtain ⟨v, hv⟩ : ∃ v : State, v = if w.o 0x3230 r.ctx 2 = 1 then (x.setNs r.ctx { x.ns r.ctx with erasing := true }).syncNsState r.ctx else x :=
    ⟨_, rfl⟩
  have hf : w.onKey r none = v.syncMirror.sendRec .keyReply r.ctx r.seq 4 (.code 0) := by
    rw [hv, hx, hms]
    rfl
  have hxn : x.ns r.ctx = { w.ns r.ctx with key := none, memberKey := none, storeKey := none } := by
    rw [hx]
    exact (State.ns_setNs ..).trans (if_pos rfl)
  have hvn : (v.ns r.ctx).key = none ∧ (v.ns r.ctx).storeKey = none ∧ (v.ns r.ctx).memberKey = none ∧
      (w.o 0x3230 r.ctx 2 = 1 → (v.ns r.ctx).erasing = true) := by
    rw [hv]
    split
    · have h1 : ((x.setNs r.ctx { x.ns r.ctx with erasing := true }).syncNsState r.ctx).ns r.ctx = { x.ns r.ctx with erasing := true } :=
        (State.ns_setNs ..).trans (if_pos rfl)
      rw [h1, hxn]
      exact ⟨rfl, rfl, rfl, fun _ => rfl⟩
    · next hc =>
      rw [hxn]
      exact ⟨rfl, rfl, rfl, fun h => absurd h hc⟩
  have hvt : v.twin = { w.twin with mirror := ms } := by
    rw [hv]
    split <;> rw [hx] <;> rfl
  have hvf : w.Frame [.out, .dict, .nvme, .nss, .twin, .mirror] v := by
    rw [hv]
    split <;> simp [hx, State.zeroKey]
  have hns : (v.syncMirror.sendRec .keyReply r.ctx r.seq 4 (.code 0)).ns r.ctx = v.ns r.ctx := by
    rw [State.ns, State.sendRec_nvme]
    rfl
  have hmir : (v.syncMirror.sendRec .keyReply r.ctx r.seq 4 (.code 0)).twin.mirror = ms := by
    have h : (v.syncMirror.sendRec .keyReply r.ctx r.seq 4 (.code 0)).twin.mirror = v.twin.mirror :=
      State.same_of_frame (ps := [.out, .dict, .twin]) (by simp) .mirror
    rw [h, hvt]
  rw [hf, hns, hmir]
  refine ⟨hvn, fun m hm => ?_, ?_, by simpa using hvf⟩
  · rw [hms] at hm
    obtain ⟨hm, hne⟩ := List.mem_filter.1 hm
    obtain ⟨m', -, rfl⟩ := List.mem_map.1 hm
    exact ⟨by simpa using hne, fun e he => of_decide_eq_true (List.mem_filter.1 he).2⟩
  · have hst : v.syncMirror.twin = { w.twin with mirror := ms } := hvt
    exact State.sendRec_hasSent (v := v.syncMirror) (by rw [hst]; exact hw) (by rw [hst]; exact hun) _ _ 4 (by omega) _

theorem key_goes (hp : s.railsOn) (h : s.linkIn .key r) (hpl : r.payload = .key none) (hpair : s.paired = true) :
    Done (.key t r) s fun u => s.delivered u r ∧ (u.ns r.ctx).key = none ∧ (u.ns r.ctx).storeKey = none ∧
      (u.ns r.ctx).memberKey = none ∧ (s.o 0x3230 r.ctx 2 = 1 → (u.ns r.ctx).erasing = true) ∧
      (∀ m ∈ u.twin.mirror, m.entries ≠ [] ∧ ∀ e ∈ m.entries, e.nsRow ≠ r.ctx) ∧
      u.hasSent .keyReply r.ctx r.seq (.code 0) := by
  have hpair' : ((s.at t).recTaken r).paired = true := hpair
  refine done_pairedRecord (f := fun w => w.onKey r none) (ps := [.out, .dict, .nvme, .nss, .twin, .mirror]) rfl hp h
    (by simp [State.actOn, h.2.1, hpl, hpair']) (by simp) fun w hwr hun hw => ?_
  obtain ⟨⟨h1, h2, h3, h4⟩, h5, h6, h7⟩ := w.onKey_none r hun hw
  have ho : w.o 0x3230 r.ctx 2 = s.o 0x3230 r.ctx 2 := by rw [hwr]; rfl
  rw [ho] at h4
  refine ⟨h7, fun u hu hd _ => ⟨hd, ?_⟩⟩
  rw [hu]
  exact ⟨h1, h2, h3, h4, h5, h6⟩

theorem keyReply_noted (hp : s.railsOn) (h : s.linkIn .keyReply r) (hpl : r.payload = .code 0) (ha : (s.ns r.ctx).keyAsked = some r.ref) :
    Done (.keyReply t r) s fun u =>
      s.delivered u r ∧ (u.ns r.ctx).keyAsked = none ∧ (u.ns r.ctx).keyDone = true ∧ s.otherObjects u [] ∧
        u = { s.logged u with nvme := u.nvme, twin := u.twin } := by
  have ha' : (((s.at t).recTaken r).ns r.ctx).keyAsked = some r.ref := ha
  refine done_pairedRecord (f := fun w => w.setNs r.ctx { w.ns r.ctx with keyAsked := none, keyDone := true }) (ps := [.nvme, .nss]) rfl hp h
    (by simp [State.actOn, h.2.1, hpl, State.onKeyReply, ha']) (by simp) fun w hwr _ _ => ?_
  have hn := w.ns_setNs r.ctx r.ctx { w.ns r.ctx with keyAsked := none, keyDone := true }
  rw [if_pos rfl] at hn
  refine ⟨by simp, fun u hu hd hf => ⟨hd, ?_, ?_, ?_, State.Frame.eq hf⟩⟩
  · rw [hu]
    exact congrArg NsState.keyAsked hn
  · rw [hu]
    exact congrArg NsState.keyDone hn
  · intro k _
    rw [hu, hwr]
    rfl


/-! ### Copies of records -/

/-- What every copy of a record that arrives over lane group `g` counts. -/
def State.copyCounted (s : State) (g : Nat) (cw bad : Nat) : State :=
  (((s.bump 0x2420 g 4).perf (418 + g) 1).add 0x2420 g 9 cw).add 0x2420 g 0xA bad

theorem satAt_2420 {k : Nat} (h : k = 4 ∨ k = 5 ∨ k = 6 ∨ k = 7) (a : Nat) : satAt 0x2420 k a 1 = satAdd a 1 := by
  obtain rfl | rfl | rfl | rfl := h <;> rfl

theorem objKey_perf_ne (n j g k : Nat) : objKey (0x6800 + n % 1024) 0 j ≠ objKey 0x2420 g k := fun e => by
  have := (objKey_inj.1 e).1
  omega

theorem State.copyCounted_o (s : State) (g cw bad k : Nat) (hk : k < 8) :
    (s.copyCounted g cw bad).o 0x2420 g k = if k = 4 then satAdd (s.o 0x2420 g 4) 1 else s.o 0x2420 g k := by
  have h9 : objKey 0x2420 g 9 ≠ objKey 0x2420 g k := fun e => by have := (objKey_inj.1 e).2.2; omega
  have hA : objKey 0x2420 g 0xA ≠ objKey 0x2420 g k := fun e => by have := (objKey_inj.1 e).2.2; omega
  have h4 : objKey 0x2420 g 4 = objKey 0x2420 g k ↔ k = 4 := by
    rw [objKey_inj]
    omega
  have hp := objKey_perf_ne (418 + g) 1 g k
  have h1 : (s.copyCounted g cw bad).o 0x2420 g k = (s.bump 0x2420 g 4).o 0x2420 g k := by
    unfold State.copyCounted State.perf
    rw [State.o_add, if_neg hA, State.o_add, if_neg h9, State.o_put, if_neg hp]
  rw [h1, State.o_bump]
  by_cases hk4 : k = 4
  · rw [if_pos (h4.2 hk4), if_pos hk4, satAt_2420 (.inl rfl)]
  · rw [if_neg (mt h4.1 hk4), if_neg hk4]

theorem State.copyCounted_units (s : State) (g cw bad : Nat) : (s.copyCounted g cw bad).twin = s.twin ∧
    s.Frame [.dict] (s.copyCounted g cw bad) ∧ (s.copyCounted g cw bad).ob 0x2402 6 = s.ob 0x2402 6 := by
  have hf : s.Frame [.dict] (s.copyCounted g cw bad) := by simp [State.copyCounted]
  refine ⟨hf .twin (by decide), hf, ?_⟩
  have hne : ∀ k, objKey 0x2420 g k ≠ objKey 0x2402 0 6 := fun k e => absurd (objKey_inj.1 e).1 (by decide)
  have hp : objKey (0x6800 + (418 + g) % 1024) 0 1 ≠ objKey 0x2402 0 6 := fun e => by
    have := (objKey_inj.1 e).1
    omega
  unfold State.copyCounted State.perf State.ob
  rw [State.o_add, if_neg (hne _), State.o_add, if_neg (hne _), State.o_put, if_neg hp, State.o_bump, if_neg (hne _)]

/-- A copy with a whole header of a record other than a hello. -/
theorem twinRecordCopy_of_record {v : State} {g cw bad : Nat} {ok : Bool} (hty : r.typ ≠ .hello) (hv : v = s.copyCounted g cw bad) :
    ∃ w, twinRecordCopy g r true ok cw bad s =
      if v.twin.linked = false ∨ r.epoch ≠ v.ob 0x2402 6 then v
      else if recBehind r.seq v.twin.expected then v.bump 0x2420 g 5
      else if ok = false then v.bump 0x2420 g 7
      else if r.seq = v.twin.expected then State.deliverHeld (v.deliver r).twin.early.length (v.deliver r)
      else w := by
  rw [hv]
  unfold twinRecordCopy
  dsimp only
  rw [if_neg Bool.noConfusion]
  split
  · next h _ => exact absurd h hty
  · exact ⟨_, rfl⟩

theorem twinRecordCopy_delivered {cw bad : Nat} (hp : s.railsOn) (h : s.linkIn .heartbeat r)
    (hep : r.epoch = s.ob 0x2402 6) (hseq : r.seq = s.twin.expected) (hea : s.twin.early = []) :
    Done (.twinRecordCopy t 0 r ⟨true, true⟩ ⟨cw, bad⟩) s fun u =>
      s.delivered u r ∧ u.o 0x2420 0 4 = satAdd (s.o 0x2420 0 4) 1 ∧ u = { s.logged u with twin := u.twin } := by
  obtain ⟨hl, hty, hun, hw, hq⟩ := h
  obtain ⟨v, hv⟩ : ∃ v, v = (s.at t).copyCounted 0 cw bad := ⟨_, rfl⟩
  obtain ⟨hvt, hvf, hve⟩ := (s.at t).copyCounted_units 0 cw bad
  have hvo := (s.at t).copyCounted_o 0 cw bad 4 (by omega)
  rw [← hv] at hvt hvf hve hvo
  have hvq : v.waitingQps = [] := by
    rw [State.waitingQps, show v.rdma = s.rdma from hvf .rdma (by decide)]
    exact hq
  have hf : twinRecordCopy 0 r true true cw bad (s.at t) = v.recTaken r := by
    have hl' : v.twin.linked = true := by rw [hvt]; exact hl
    have hep' : r.epoch = v.ob 0x2402 6 := by rw [hve]; exact hep
    have hseq' : r.seq = v.twin.expected := by rw [hvt]; exact hseq
    have hbehind : recBehind r.seq v.twin.expected = false := by simp [recBehind, hseq']
    have hd : v.deliver r = v.recTaken r := by
      rw [State.deliver_recTaken (by rw [hvt]; exact hw) hvq]
      simp [State.actOn, hty]
    have hea' : (v.recTaken r).twin.early = [] := by
      change v.twin.early = []
      rw [hvt]
      exact hea
    obtain ⟨w, hc⟩ := twinRecordCopy_of_record (s := s.at t) (ok := true) (by rw [hty]; decide) hv
    rw [hc, if_neg (by rw [hl', ← hep']; simp), hbehind, if_neg Bool.noConfusion, if_neg Bool.noConfusion, if_pos hseq', hd, hea']
    rfl
  refine done_act (ok := isGroup 0) (f := twinRecordCopy 0 r true true cw bad) rfl rfl hp fun u hu => ?_
  rw [hf] at hu
  have hnow : v.now = max s.now t := hvf .now (by decide)
  refine ⟨⟨?_, ?_, ?_, ?_⟩, ?_, State.Frame.eq (s := s) (ps := Part.record) ?_⟩
  · rw [hu]
    exact (congrArg (fun x : TwinState => if r.seq = x.expected then x.expected + 1 else x.expected) hvt)
  · rw [hu]
    exact congrArg some hnow
  · rw [hu]; rfl
  · rw [hu]; rfl
  · rw [hu]
    exact hvo
  · rw [hu]
    have h1 : s.Frame Part.record v := .trans (u := s.at t) (by simp [Part.record]) (hvf.mono (by simp [Part.record]))
    have h2 : v.Frame Part.record (v.recTaken r) := (State.frame_mk (v := v) (by simp [Part.record])).2 (.refl _ _)
    exact State.frame_after t _ _ (by simp [Part.record]) (.inl rfl) (.inl rfl) (.inl rfl) (h1.trans h2)

/-- A copy that is not delivered is counted alone. -/
theorem done_copyCounted {g k cw bad : Nat} {hok pok : Bool} {Q : State → Prop} (hp : s.railsOn) (hg : g < 2) (hk : k = 5 ∨ k = 6 ∨ k = 7)
    (hf : twinRecordCopy g r hok pok cw bad (s.at t) = ((s.at t).copyCounted g cw bad).bump 0x2420 g k)
    (h : ∀ u : State, u.o 0x2420 g 4 = satAdd (s.o 0x2420 g 4) 1 → u.o 0x2420 g k = satAdd (s.o 0x2420 g k) 1 → u.twin = s.twin →
      u = s.logged u → Q u) : Done (.twinRecordCopy t g r ⟨hok, pok⟩ ⟨cw, bad⟩) s Q := by
  obtain ⟨v, hv⟩ : ∃ v, v = (s.at t).copyCounted g cw bad := ⟨_, rfl⟩
  obtain ⟨hvt, hvf, -⟩ := (s.at t).copyCounted_units g cw bad
  have hv4 := (s.at t).copyCounted_o g cw bad 4 (by omega)
  have hvk := (s.at t).copyCounted_o g cw bad k (by omega)
  rw [if_neg (by omega)] at hvk
  rw [← hv] at hvt hvf hv4 hvk hf
  have hne : objKey 0x2420 g k ≠ objKey 0x2420 g 4 := fun e => by have := (objKey_inj.1 e).2.2; omega
  refine done_act rfl (decide_eq_true hg) hp fun u hu => ?_
  rw [hf] at hu
  refine h u ?_ ?_ ?_ (State.Frame.eq (s := s) (ps := Part.logs) ?_)
  · rw [hu, State.o_after, State.o_bump, if_neg hne, hv4]
    rfl
  · rw [hu, State.o_after, State.o_bump, if_pos rfl, satAt_2420 (.inr hk), hvk]
    rfl
  · rw [hu]
    exact hvt
  · rw [hu]
    have h1 : s.Frame Part.logs v := .trans (u := s.at t) (by simp) (hvf.mono (by simp))
    exact State.frame_after t _ _ (by simp) (.inl rfl) (.inl rfl) (.inl rfl) (by simpa using h1)

theorem twinRecordCopy_behind {cw bad : Nat} (hp : s.railsOn) (hty : r.typ ≠ .hello) (hl : s.twin.linked = true)
    (hep : r.epoch = s.ob 0x2402 6) (hb : recBehind r.seq s.twin.expected = true) :
    Done (.twinRecordCopy t 0 r ⟨true, true⟩ ⟨cw, bad⟩) s fun u =>
      u.o 0x2420 0 5 = satAdd (s.o 0x2420 0 5) 1 ∧ u.twin = s.twin ∧ u = s.logged u := by
  obtain ⟨hvt, -, hve⟩ := (s.at t).copyCounted_units 0 cw bad
  obtain ⟨w, hc⟩ := twinRecordCopy_of_record (s := s.at t) (g := 0) (cw := cw) (bad := bad) (ok := true) hty rfl
  refine done_copyCounted hp (by decide) (.inl rfl) ?_ fun u _ hk ht he => ⟨hk, ht, he⟩
  rw [hc, hvt, hve, if_neg (by rw [State.at_twin, hl]; simp [hep]), if_pos (by exact hb)]

theorem twinRecordCopy_payload {cw bad : Nat} (hp : s.railsOn) (hty : r.typ ≠ .hello) (hl : s.twin.linked = true)
    (hep : r.epoch = s.ob 0x2402 6) (hb : recBehind r.seq s.twin.expected = false) :
    Done (.twinRecordCopy t 0 r ⟨true, false⟩ ⟨cw, bad⟩) s fun u =>
      u.o 0x2420 0 7 = satAdd (s.o 0x2420 0 7) 1 ∧ u.twin = s.twin ∧ u = s.logged u := by
  obtain ⟨hvt, -, hve⟩ := (s.at t).copyCounted_units 0 cw bad
  obtain ⟨w, hc⟩ := twinRecordCopy_of_record (s := s.at t) (g := 0) (cw := cw) (bad := bad) (ok := false) hty rfl
  refine done_copyCounted hp (by decide) (.inr (.inr rfl)) ?_ fun u _ hk ht he => ⟨hk, ht, he⟩
  rw [hc, hvt, hve, if_neg (by rw [State.at_twin, hl]; simp [hep]), if_neg (by rw [State.at_twin, hb]; exact Bool.noConfusion), if_pos rfl]

theorem twinRecordCopy_header {cw bad : Nat} (hp : s.railsOn) :
    Done (.twinRecordCopy t 1 r ⟨false, true⟩ ⟨cw, bad⟩) s fun u =>
      u.o 0x2420 1 4 = satAdd (s.o 0x2420 1 4) 1 ∧ u.o 0x2420 1 6 = satAdd (s.o 0x2420 1 6) 1 ∧ u.twin = s.twin ∧ u = s.logged u := by
  refine done_copyCounted hp (by decide) (.inr (.inl rfl)) ?_ fun u h4 hk ht he => ⟨h4, hk, ht, he⟩
  unfold twinRecordCopy
  exact if_pos rfl


/-! ### The yield of the peer -/

theorem yield_takenOver (hp : s.railsOn) (h : s.linkIn .yield r) (hpair : s.paired = true) (ha : s.takesAlone) :
    Done (.yield t r) s fun u => u.tookOver 1 ∧ u.twin.yieldRec = some (max s.now t) := by
  have hpair' : ({ (s.at t).recTaken r with twin := { ((s.at t).recTaken r).twin with
    yieldRec := some ((s.at t).recTaken r).now } } : State).paired = true := hpair
  refine done_pairedRecord (f := fun w => ({ w with twin := { w.twin with yieldRec := some w.now } } : State).takeOver 1)
    (ps := [.free, .out, .dict, .sess, .ev, .rings, .fab, .eth, .rdma, .nvme, .sched, .arr, .slot, .np, .dma, .meter, .twin, .pwr, .fw,
      .take, .held, .mirror, .dictGens, .qpGens, .joining, .closed, .standby, .slots, .ctrls, .nss, .yieldRec]) rfl hp h
    ?_ (by simp) fun w hwr _ _ => ?_
  · simp only [State.actOn, h.2.1, State.onYield, hpair', if_true]
  · obtain ⟨v, hv⟩ : ∃ v : State, v = { w with twin := { w.twin with yieldRec := some w.now } } := ⟨_, rfl⟩
    have hav : v.takesAlone := by rw [hv, hwr]; exact ha
    have hy : (v.takeOver 1).twin.yieldRec = v.twin.yieldRec :=
      State.same_of_frame (ps := Part.others .yieldRec) (by simp) .yieldRec (by simp)
    have hfr : w.Frame [.twin, .yieldRec] v := by simp [hv]
    rw [← hv]
    refine ⟨.trans (hfr.mono (by simp)) (by simp), fun u hu _ _ => ⟨?_, ?_⟩⟩
    · rw [hu]
      exact (State.takeOver_alone hav 1).1
    · rw [hu]
      refine hy.trans ?_
      rw [hv, hwr]
      rfl

/-! ### Pairing -/

/-- What a sent record leaves of the link. -/
def State.SameLink (s u : State) : Prop := u.twin.linked = s.twin.linked ∧ u.twin.peer = s.twin.peer ∧ u.twin.expected = s.twin.expected

theorem State.SameLink.trans {s u v : State} (h : s.SameLink u) (h' : u.SameLink v) : s.SameLink v :=
  ⟨h'.1.trans h.1, h'.2.1.trans h.2.1, h'.2.2.trans h.2.2⟩

theorem State.SameLink.each {α : Type} {f : State → α → State} (hf : ∀ v a, State.SameLink v (f v a)) (v : State) (xs : List α) :
    v.SameLink (v.each xs f) := by
  induction xs generalizing v with
  | nil => exact ⟨rfl, rfl, rfl⟩
  | cons a xs ih => exact (hf v a).trans (ih (f v a))

theorem State.sameLink_sendRec (v : State) (ty : RecType) (ctx : Nat) (ref : RecSeq) (bytes : Nat) (pl : RecPayload) :
    v.SameLink (v.sendRec ty ctx ref bytes pl) := by
  have hwhen : ∀ (c : Bool) (g n : Nat) (u : State), (u.when c fun s => (s.bump 0x2420 g 3).perf n 1).twin = u.twin := fun c g n u => by
    cases c <;> rfl
  unfold State.sendRec
  dsimp only
  split
  · simp [State.sendNow, State.SameLink, hwhen]
  · exact ⟨rfl, rfl, rfl⟩

theorem State.sameLink_sendShelf (v : State) : v.SameLink v.sendShelf :=
  .trans (v.sameLink_sendRec ..) (.each (fun _ _ => .each (fun _ _ => State.sameLink_sendRec ..) _ _) _ _)

theorem State.sameLink_sendKeys (v : State) : v.SameLink v.sendKeys := by
  refine .each (fun u a => ?_) _ _
  dsimp only
  split
  · exact .trans (State.sameLink_sendRec ..) (State.sameLink_sendRec ..)
  · exact State.sameLink_sendRec ..

@[simp] theorem State.objs_sendShelf {a b : State} : a.Objs b.sendShelf ↔ a.Objs b := by
  unfold State.sendShelf
  dsimp only
  rw [State.objs_each fun u win => State.objs_each fun v row => State.objs_sendRec ..]
  exact State.objs_sendRec ..

@[simp] theorem State.objs_sendKeys {a b : State} : a.Objs b.sendKeys ↔ a.Objs b := by
  refine State.objs_each fun u r => ?_
  dsimp only [State.sendResv]
  split <;> simp

theorem State.objs_sendHello (a b : State) : a.Objs b.sendHello ↔ a.Objs b := by
  have h : ∀ (c : State) (o : Out) (n : TwinState), a.Objs (({ c with twin := n } : State).emit o) ↔ a.Objs c := fun _ _ _ =>
    State.objs_of_cur rfl a
  unfold State.sendHello
  dsimp only
  rw [h]
  exact State.objs_each fun u g => by simp

/-- Arrays and interfaces go to their homes. -/
def State.ownersHome (s : State) : State :=
  let s := s.each (List.range 4) fun s a => s.setOwner a (s.o 0x2410 a 2)
  s.each s.ifRows fun s row => s.put 0x2412 row 3 (s.o 0x2412 row 2)

/-- A pairing of two modules that serve nothing, of which this one has the newer settings: role and epoch are settled, the owners go
home, and the settings are sent. -/
def State.pairsFirst (s : State) (role epoch : Nat) (h : Hello) : State :=
  (((s.sendHello.startPairing role epoch h).put 0x2400 0 4 2).syncCapacity.ownersHome).syncShare.sendShelf

section
variable (s : State) (role epoch : Nat) (h : Hello)

theorem State.ownersHome_o {i row k : Nat} (h10 : i % 65536 ≠ 0x2410) (h12 : i % 65536 ≠ 0x2412) : s.ownersHome.o i row k = s.o i row k := by
  have hk10 : ∀ a j, objKey 0x2410 a j ≠ objKey i row k := fun a j e => h10 (objKey_inj.1 e).1.symm
  have hk12 : ∀ a, objKey 0x2412 a 3 ≠ objKey i row k := fun a e => h12 (objKey_inj.1 e).1.symm
  obtain ⟨s3, hs3⟩ : ∃ s3, s3 = s.each (List.range 4) fun s a => s.setOwner a (s.o 0x2410 a 2) := ⟨_, rfl⟩
  have h3 : s3.val i row k = s.val i row k := by
    rw [hs3]
    exact State.val_each _ fun v a => by simp [State.setOwner, hk10]
  have h4 : s.ownersHome.val i row k = s3.val i row k := by
    rw [State.ownersHome, ← hs3]
    exact State.val_each _ fun v a => by simp [hk12]
  rw [State.o, h4, h3, State.o]

theorem State.frame_ownersHome {ps : List Part} {u : State} (hd : .dict ∈ ps) : u.Frame ps s.ownersHome ↔ u.Frame ps s := by
  simp [State.ownersHome, hd, State.frame_each]

/-- The objects of a pairing, and those that it leaves. -/
theorem State.pairsFirst_o {i row k : Nat} (hoff : Dict.off i k = true) (h3 : i % 65536 ≠ 0x2403) (h10 : i % 65536 ≠ 0x2410)
    (h12 : i % 65536 ≠ 0x2412) (h2 : objKey 0x2402 0 2 ≠ objKey i row k) :
    (s.pairsFirst role epoch h).o i row k = ((s.sendHello.startPairing role epoch h).put 0x2400 0 4 2).o i row k := by
  rw [State.pairsFirst, State.o_of_objs (State.objs_sendShelf (a := State.syncShare _) (b := _)) i row k hoff, State.o_syncShare _ _ _ _ h3,
    State.ownersHome_o _ h10 h12, State.syncCapacity, State.o_setVal, if_neg h2]

theorem State.startPairing_o (v : State) (i row k : Nat) (h3 : objKey 0x2400 0 3 ≠ objKey i row k) :
    (v.startPairing role epoch h).o i row k = if objKey 0x2402 0 6 = objKey i row k then epoch
      else if objKey 0x2400 0 2 = objKey i row k then role else v.o i row k := by
  change (((v.put 0x2400 0 2 role).setVal 0x2400 0 3 (.str h.serial)).put 0x2402 0 6 epoch).o i row k = _
  rw [State.o_put, State.o_setVal, if_neg h3, State.o_put]

theorem State.pairsFirst_reads : (s.pairsFirst role epoch h).twinPhase = 2 ∧ (s.pairsFirst role epoch h).ob 0x2400 2 = role ∧
    (s.pairsFirst role epoch h).ob 0x2402 6 = epoch ∧ ∀ a, (s.pairsFirst role epoch h).arrOn a = s.arrOn a := by
  have hne : ∀ {i r k i' r' k' : Nat}, i % 65536 ≠ i' % 65536 ∨ k % 256 ≠ k' % 256 → objKey i r k ≠ objKey i' r' k' := fun hn e => by
    obtain ⟨h1, -, h2⟩ := objKey_inj.1 e
    omega
  have hp : ∀ i row k, Dict.off i k = true → i % 65536 ≠ 0x2403 → i % 65536 ≠ 0x2410 → i % 65536 ≠ 0x2412 →
      objKey 0x2402 0 2 ≠ objKey i row k → objKey 0x2400 0 3 ≠ objKey i row k → (s.pairsFirst role epoch h).o i row k =
        if objKey 0x2400 0 4 = objKey i row k then 2 else if objKey 0x2402 0 6 = objKey i row k then epoch
        else if objKey 0x2400 0 2 = objKey i row k then role else s.o i row k := fun i row k hoff h3 h10 h12 h2 h4 => by
    rw [State.pairsFirst_o _ _ _ _ hoff h3 h10 h12 h2, State.o_put, State.startPairing_o _ _ _ _ _ _ _ h4,
      State.o_of_objs (State.objs_sendHello s s) i row k hoff]
  refine ⟨?_, ?_, ?_, fun a => ?_⟩
  · have h4 := hp 0x2400 0 4 rfl (by decide) (by decide) (by decide) (hne (.inl (by decide))) (hne (.inr (by decide)))
    rwa [if_pos rfl] at h4
  · have h2 := hp 0x2400 0 2 rfl (by decide) (by decide) (by decide) (hne (.inl (by decide))) (hne (.inr (by decide)))
    rwa [if_neg (hne (.inr (by decide))), if_neg (hne (.inl (by decide))), if_pos rfl] at h2
  · have h6 := hp 0x2402 0 6 rfl (by decide) (by decide) (by decide) (hne (.inr (by decide))) (hne (.inl (by decide)))
    rwa [if_neg (hne (.inl (by decide))), if_pos rfl] at h6
  · have ho := hp 0x5000 a 2 rfl (by decide) (by decide) (by decide) (hne (.inl (by decide))) (hne (.inl (by decide)))
    rw [if_neg (hne (.inl (by decide))), if_neg (hne (.inl (by decide))), if_neg (hne (.inl (by decide)))] at ho
    rw [State.arrOn, ho, State.arrOn]

theorem State.pairsFirst_link : (s.pairsFirst role epoch h).twin.linked = true ∧ (s.pairsFirst role epoch h).twin.peer = some h ∧
    (s.pairsFirst role epoch h).twin.expected = 0 := by
  obtain ⟨s1, hs1⟩ : ∃ s1, s1 = s.sendHello.startPairing role epoch h := ⟨_, rfl⟩
  obtain ⟨s4, hs4⟩ : ∃ s4 : State, s4 = ((s1.put 0x2400 0 4 2).syncCapacity.ownersHome).syncShare := ⟨_, rfl⟩
  have hf : s1.Frame [.dict] s4 := by
    rw [hs4, State.frame_syncShare (by simp), State.frame_ownersHome _ (by simp)]
    simp
  have ht : s4.twin = s1.twin := hf .twin (by decide)
  obtain ⟨h1, h2, h3⟩ := s4.sameLink_sendShelf
  rw [State.pairsFirst, ← hs1, ← hs4, h1, h2, h3, ht, hs1]
  exact ⟨rfl, rfl, rfl⟩

theorem State.frame_pairsFirst {ps : List Part} {u : State} (hps : .out ∈ ps ∧ .dict ∈ ps ∧ .twin ∈ ps ∧ .take ∈ ps ∧ .yieldRec ∈ ps ∧ .linkLost ∈ ps ∧ .lostAt ∈ ps ∧
      .held ∈ ps ∧ .linked ∈ ps ∧ .mirror ∈ ps ∧ .expected ∈ ps ∧ .lastDelivered ∈ ps ∧ .joining ∈ ps ∧ .closed ∈ ps ∧ .standby ∈ ps ∧ .health ∈ ps) :
    u.Frame ps (s.pairsFirst role epoch h) ↔ u.Frame ps s := by
  rw [State.pairsFirst, State.frame_sendShelf (by simp [hps]), State.frame_syncShare (by simp [hps]), State.frame_ownersHome _ (by simp [hps])]
  simp [hps]

end

/-- The rest of a pairing of a module that serves nothing: taken arrays wait for their recovery. -/
def State.pairsRest (s : State) : State :=
  let s := s.each (s.arrays.filter fun a => !s.owns a) State.dropDirty
  let s := s.each (s.arrays.filter s.owns) State.awaitRecovery
  let s := s.each s.arrays State.syncAna
  s.sendKeys.retrySlots

/-- A pairing whose role, epoch and settings are decided. -/
def State.pairsAs (s : State) (serving wins : Bool) (role epoch : Nat) (h : Hello) : State :=
  let s := s.sendHello.startPairing role epoch h
  let s := (s.put 0x2400 0 4 2).syncCapacity
  let s := if serving then s
    else
      let owner (home : Nat) : Nat := if h.serving then h.role - 1 else home
      let s := s.each (List.range 4) fun s a => s.setOwner a (owner (s.o 0x2410 a 2))
      s.each s.ifRows fun s row => s.put 0x2412 row 3 (owner (s.o 0x2412 row 2))
  let s := s.syncShare
  let s := if wins then s.sendShelf
    else ({ s with twin := { s.twin with configGen := h.configGen } }.forgetShelf).raise .settingsReplaced [h.configGen]
  if serving then
    let s := s.mirrorAll
    let s := if s.twin.joining.isEmpty then s else s.put 0x2400 0 4 5
    (s.each s.arrays State.syncAna).sendKeys.retrySlots
  else s.pairsRest

theorem State.pairsAs_first (w : State) (role epoch : Nat) {h : Hello} (hserv : h.serving = false) :
    w.pairsAs false true role epoch h = (w.pairsFirst role epoch h).pairsRest := by
  unfold State.pairsAs State.pairsFirst State.ownersHome
  simp only [hserv, Bool.false_eq_true, if_false, if_true]

theorem State.pairWith_eq_pairsAs (w : State) (r : TwinRec) (h : Hello) :
    w.pairWith r h = w.pairsAs (decide (w.twinPhase = 3))
      (decide (w.twinPhase = 3) || (!h.serving && (decide (h.configGen < w.twin.configGen) ||
        decide (h.configGen = w.twin.configGen ∧ (if decide (w.twinPhase = 3) then w.ob 0x2400 2 else if h.serving then 3 - h.role
          else if decide (w.ownSerial < h.serial) then 1 else 2) = 1))))
      (if decide (w.twinPhase = 3) then w.ob 0x2400 2 else if h.serving then 3 - h.role
        else if decide (w.ownSerial < h.serial) then 1 else 2)
      ((max (w.ob 0x2402 6) r.epoch + 1) % 65536) h := by
  cases hd : decide (w.twinPhase = 3)
  · unfold State.pairWith State.pairsAs State.pairsRest
    simp only [hd, Bool.false_eq_true, if_false]
  · unfold State.pairWith State.pairsAs State.pairsRest
    simp only [hd, if_true]

/-- With no array and no slot that waits, a pairing of a module that serves nothing is no more than that. -/
theorem State.pairWith_first {w : State} {h : Hello} (h1 : w.twinPhase = 1) (hserv : h.serving = false)
    (hgen : h.configGen < w.twin.configGen) (harr : w.arrays = []) (hslots : ∀ n, n < 24 → (w.slotS n).waitsTwin = false) :
    w.pairWith r h = (w.pairsFirst (if w.ownSerial < h.serial then 1 else 2) ((max (w.ob 0x2402 6) r.epoch + 1) % 65536) h).sendKeys := by
  obtain ⟨role, hrole⟩ : ∃ n : Nat, n = if w.ownSerial < h.serial then 1 else 2 := ⟨_, rfl⟩
  obtain ⟨epoch, hepoch⟩ : ∃ n, n = (max (w.ob 0x2402 6) r.epoch + 1) % 65536 := ⟨_, rfl⟩
  rw [← hrole, ← hepoch]
  obtain ⟨x, hx⟩ : ∃ x, x = w.pairsFirst role epoch h := ⟨_, rfl⟩
  have hxa : x.arrays = [] := by
    rw [State.arrays, hx, List.filter_congr fun a _ => (w.pairsFirst_reads role epoch h).2.2.2 a]
    exact harr
  have hret : x.sendKeys.retrySlots = x.sendKeys := by
    have h1 : x.sendKeys.slot = x.slot := State.same_of_frame (ps := [.out, .dict, .twin]) (by simp) .slot
    have h2 : x.slot = w.slot := by
      rw [hx]
      exact State.same_of_frame (ps := Part.others .slot) (w.frame_pairsFirst role epoch h (by simp)) .slot (by simp)
    have hnil : ((List.range 24).filter fun n => (x.sendKeys.slotS n).waitsTwin) = [] := by
      rw [List.filter_eq_nil_iff]
      intro n hn
      rw [State.slotS, h1, h2, Bool.not_eq_true]
      exact hslots n (List.mem_range.1 hn)
    rw [State.retrySlots, hnil]
    rfl
  have hserving : decide (w.twinPhase = 3) = false := by rw [h1]; rfl
  have hnewer : decide (h.configGen < w.twin.configGen) = true := decide_eq_true hgen
  have hfirst : w.pairWith r h = x.pairsRest := by
    rw [State.pairWith_eq_pairsAs, hserving, hserv, hnewer, hx, hrole, hepoch, ← State.pairsAs_first w _ _ hserv]
    simp only [Bool.false_eq_true, if_false, Bool.false_or, Bool.not_false, Bool.true_and, Bool.true_or, decide_eq_true_eq]
  rw [hfirst, ← hx, State.pairsRest]
  have hnone : ∀ f : State → Nat → State, x.each [] f = x := fun _ => rfl
  simp only [hxa, List.filter_nil, hnone, hret]

theorem hello_pairs {h : Hello} (hp : s.railsOn) (hty : r.typ = .hello) (hpl : r.payload = .hello h) (hm : s.twin.twinMode = true)
    (h1 : s.twinPhase = 1) (hs : s.silent = false) (hserv : h.serving = false) (hgen : h.configGen < s.twin.configGen)
    (harr : s.arrays = []) (htake : s.twin.take = none) (hslots : ∀ n, n < 24 → (s.slotS n).waitsTwin = false) :
    Done (.hello t r) s fun u =>
      u.twinPhase = 2 ∧ u.ob 0x2400 2 = (if s.ownSerial < h.serial then 1 else 2) ∧
        u.ob 0x2402 6 = (max (s.ob 0x2402 6) r.epoch + 1) % 65536 ∧ u.twin.linked = true ∧ u.twin.peer = some h ∧
        u.twin.expected = 0 ∧ u = { s.logged u with twin := u.twin } := by
  obtain ⟨role, hrole⟩ : ∃ n : Nat, n = if s.ownSerial < h.serial then 1 else 2 := ⟨_, rfl⟩
  obtain ⟨epoch, hepoch⟩ : ∃ n, n = (max (s.ob 0x2402 6) r.epoch + 1) % 65536 := ⟨_, rfl⟩
  rw [← hrole, ← hepoch]
  obtain ⟨x, hx⟩ : ∃ x, x = (s.at t).pairsFirst role epoch h := ⟨_, rfl⟩
  obtain ⟨k1, k2, k3, -⟩ := (s.at t).pairsFirst_reads role epoch h
  obtain ⟨k5, k6, k7⟩ := (s.at t).pairsFirst_link role epoch h
  rw [← hx] at k1 k2 k3 k5 k6 k7
  have hf : hello r (s.at t) = x.sendKeys := by
    have hm' : (s.at t).twin.twinMode = true := hm
    have h1' : (s.at t).twinPhase = 1 := h1
    have hs' : (s.at t).silent = false := hs
    have ht' : (s.at t).twin.take = none := htake
    have hpair : (s.at t).paired = false := by simp [State.paired, h1']
    have hon : (s.at t).onHello r h = (s.at t).pairWith r h := by
      unfold State.onHello
      rw [if_pos (by rw [hm', h1', hs', hserv, ht']; rfl)]
    have hpw : (s.at t).pairWith r h = x.sendKeys := by
      rw [State.pairWith_first h1' hserv hgen harr hslots, hx, hrole, hepoch]
      rfl
    simp only [hello, hty, hpl, hpair, Bool.and_false, Bool.false_eq_true, if_false]
    rw [hon, hpw]
  obtain ⟨h5, h6, h7⟩ := x.sameLink_sendKeys
  have ho : ∀ i k, Dict.off i k = true → x.sendKeys.o i 0 k = x.o i 0 k := fun i k hoff =>
    State.o_of_objs (State.objs_sendKeys (a := x) (b := x)) i 0 k hoff
  refine done_act rfl rfl hp fun u hu => ?_
  rw [hf] at hu
  refine ⟨?_, ?_, ?_, ?_, ?_, ?_, State.Frame.eq (s := s) (ps := Part.logs ++ [.twin, .take, .yieldRec, .linkLost, .lostAt, .held, .linked,
    .mirror, .expected, .lastDelivered, .joining, .closed, .standby, .health]) ?_⟩
  · rw [hu]; exact (ho 0x2400 4 rfl).trans k1
  · rw [hu]; exact (ho 0x2400 2 rfl).trans k2
  · rw [hu]; exact (ho 0x2402 6 rfl).trans k3
  · rw [hu]; exact h5.trans k5
  · rw [hu]; exact h6.trans k6
  · rw [hu]; exact h7.trans k7
  · rw [hu]
    refine State.frame_after t _ _ (by simp) (.inl rfl) (.inl rfl) (.inl rfl) ?_
    rw [State.frame_sendKeys (by simp), hx, State.frame_pairsFirst _ _ _ _ (by simp)]
    simp

end

/-- Settles O41, record by record: `State.deliver_recTaken` says what delivery itself does, and each record then has its own effect on
what is left. -/
theorem twinRecordActs : Obligations.TwinRecordActs := by
  unfold Obligations.TwinRecordActs
  intro s t r hp
  exact ⟨heartbeat_taken hp, fun hl hty hw hq => acknowledge_taken hp hl hty hw hq,
    fun cw bad h _ hep hseq hea => twinRecordCopy_delivered hp h hep hseq hea,
    fun cw bad hty hl hep hb => twinRecordCopy_behind hp hty hl hep hb,
    fun cw bad hty hl hep hb => twinRecordCopy_payload hp hty hl hep hb, fun cw bad => twinRecordCopy_header hp,
    fun h hty hpl hm h1 hs hserv hgen harr htake hslots => hello_pairs hp hty hpl hm h1 hs hserv hgen harr htake hslots,
    fun es pages h hpl hpair hl hc hroom => mirrorData_held hp h hpl hpair hl hc hroom,
    fun h hpair hno => mirrorConfirm_taken hp h hpair hno, fun rs h hpl hpair => mirrorRelease_drops hp h hpl hpair,
    fun h hpair hno => reject_counted hp h hpair hno,
    fun row v h hpl hpair had _ hcode => settings_stored hp h hpl hpair had hcode,
    fun h hl hh ho hwin hctx _ hs => settingsResult_applies hp hl hh ho hwin hctx hs,
    fun p c h hpl hpair hc hcl => capsule_kept hp h hpl hpair hc hcl, fun q h hpl hpair hfin => qpState_kept hp h hpl hpair hfin,
    fun p b h hpl hpair hb hup => twinPacket_sent hp h hpl hpair hb hup, fun h hpair ha _ _ => yield_takenOver hp h hpair ha,
    fun h h4 => takeoverComplete_noted hp h h4,
    fun h hpair h4 hon hown hs hc => ownershipTransfer_taken hp h hpair h4 hon hown hs hc,
    fun h hl hpl hq => healthReport_shown hp hl hpl hq, fun kind h hpl hk => driveRequest_answered hp h hpl hk,
    fun n k h hpl hk hn hkind => driveReply_refuses hp h hpl hk hn hkind,
    fun n h hpl hn hkind _ => driveReply_resets hp h hpl hn hkind, fun k h hpl hpair he => key_taken hp h hpl hpair he,
    fun h hpl hpair => key_goes hp h hpl hpair, fun h hpl ha => keyReply_noted hp h hpl ha⟩

end Sys2Proof.Machine
end

end
